-- ==== Sys2Proof/Word.lean ====
section
/-! DEFINITION. The plainest words of the model: instants, object identifiers, and spans of time. -/

namespace Sys2Proof

/-- An instant or a span of common time, in nanoseconds (Table 0.3). -/
abbrev Ns := Nat

/-- An object ID: class in bits 31:24, index in bits 23:0 (Table 1.10). -/
abbrev ObjId := Nat

/-- One microsecond. -/
abbrev us : Nat := 1000
/-- One millisecond. -/
abbrev ms : Nat := 1000000
/-- One second. -/
abbrev sec : Nat := 1000000000

end Sys2Proof
end

