-- ==== Sys2Proof/Hidden.lean ====
section
/-! DEFINITION. The scalar registers that no property shows, and the timers: one name each, with the rule that gives
it. A register is indexed by the number of its object. -/

namespace Sys2Proof

/-- The hidden scalar registers. -/
inductive V where
  /-- Input of tile t to voted output o (Table 4.16), at index 4·o + t; REEF outputs use `reefVote` (R161). -/
  | vote
  /-- Input of tile t to the REEF voter of accelerator a, at index 4·a + t (R161); the safe level is 7. -/
  | reefVote
  /-- Level of voted output o at its pad (R161, R162); every safe level but REEF's is 0. -/
  | pad
  /-- Level at the REEF pads of accelerator a (R161). -/
  | reefPad
  /-- Tile t: 0 unpowered, 1 supply enabled, 2 booting, 3 in service, 4 fenced (R147, R158, R179). -/
  | tilePhase
  /-- Tile t: 1 while its reset is held though it is in service (R463). -/
  | tileReset
  /-- Triggers of the present capture, the first included; the list holds 16 (R651). -/
  | recTriggers
  /-- 1 while Gantline is served: from Fore ready (R45) until PG_STBY falls (R40) or DEEP_SLEEP is entered. -/
  | serving
  /-- Units lost in service that no other register shows: bit 2 the NAND (R12, R739). -/
  | lossTile
  /-- The dual-signing fuse (R7). -/
  | dualSign
  /-- Opcode classes the manifest of engine e declares, one bit a class (R546, Table 3.11). -/
  | engineClasses
  /-- Deficit of CONTROL (1), MANAGE (2), BULK (3) in the dispatch round (R127). -/
  | deficit
  /-- Instant the rate-limited event n was last raised for a port or source (R101, R126). -/
  | eventAt
  /-- The next session ID; session IDs are never reused since cold boot, and the last one issued survives DEEP_SLEEP (Table 5.13, R772). -/
  | nextSession
  /-- The next watch ID (R140). -/
  | nextWatch
  /-- Queue pair whose turn endpoint e's fetching is at (R113). -/
  | sqTurnQ
  /-- Entries endpoint e fetched in the present turn, at most 8 (R113). -/
  | sqTurnN
  /-- DRAM stacks in service, one bit a stack (R640, R645). -/
  | stacksUp
  /-- Main power is good (R258). -/
  | mainGood
  /-- Scope i holds a pending start, taken when it leaves DISCHARGING (R253): 1 by a host, 2 automatic. -/
  | pendingStart
  /-- An incident is open (R777). -/
  | incidentOpen
  /-- Scopes the open incident involves, one bit a scope (R777). -/
  | incidentScopes
  /-- SEQUENCE of the latest first-fault record (Table 6.7). -/
  | firstFaultSeq
  /-- Instant scope i entered DISCHARGING (R261). -/
  | dischargingAt
  /-- Scope i was stopped with cause 6 and is to restart (R260); 2 once it has reached OFF through DISCHARGING. -/
  | stoppedBy6
  /-- An automatic restart is pending after an off-sequence with cause 6 (R260). -/
  | restartWanted
  /-- Tile t: bit 0 the rail comparator bank is failed, bit 1 the fast-sense bank, bit 2 housekeeping, bit 3 the oscillator (R728, R731). -/
  | bankFailed
  /-- An auto-start is pending (R775). -/
  | autoStart
  /-- SWITCH_SLOTS of domain d, from the tray description (R284). -/
  | switchSlots
  /-- Current domain d lacks, reported to the arbiter (R289), mA. -/
  | shortfall
  /-- Latest published forecast of domain d at horizon h, mA, at 8·d + h (R287, R370). -/
  | forecast
  /-- Domain d has a published forecast in force (R288, R370). -/
  | forecastOk
  /-- Final state of the power transitions in progress; -1 where none is (R37). -/
  | goal
  /-- Cause the next EV_POWER_STATE carries (Table 1.11). -/
  | goalCause
  /-- Step of Table 1.9 reached since the last entry to STANDBY (R45). -/
  | bringUp
  /-- Level of reef source b of accelerator a, at 8·a + b (Table 8.6). -/
  | reefSrc
  /-- Instant EV_REEF_LEVEL was last raised for accelerator a (R344). -/
  | reefEvAt
  /-- Level the latest EV_REEF_LEVEL of accelerator a carried (R344). -/
  | reefShown
  /-- Accelerator a: 1 while a change of level waits to be reported, 2 where a bit 0, 1 or 5 was newly set (R344). -/
  | reefPend
  /-- POWER[k] of accelerator a's accepted reef table, in mW, at 8·a + k (R215). -/
  | reefPower
  /-- Accelerator a has an accepted reef table (R215). -/
  | reefTable
  /-- FURL_N of accelerator a stays asserted until a later sequence (R221). -/
  | furlHeld
  /-- Accelerator a's IDENTITY is accepted (R191, R221). -/
  | identified
  /-- Grant at which a departed accelerator's budget node is held, in mW; -1 where it is not held (R195). -/
  | heldNode
  /-- A completed tray furl bars every automatic start until RUNNING is reached (R459). -/
  | furlNoAuto
  /-- INCARNATION of accelerator a's accepted IDENTITY (Table 5.8). -/
  | incarnation
  /-- Controller incarnation: drawn at random at every cold boot and wake, kept in DEEP_SLEEP (Table 5.8, R772). -/
  | ctlIncarnation
  /-- CAPS of accelerator a's IDENTITY. -/
  | caps
  /-- F_MIN of accelerator a, MHz. -/
  | fMin
  /-- F_MAX of accelerator a, MHz. -/
  | fMax
  /-- F_STEP of accelerator a, MHz. -/
  | fStep
  /-- MAX_POWER of accelerator a, mW. -/
  | maxPower
  /-- FW_VERSION of accelerator a. -/
  | fwVersion
  /-- FW_SVN of accelerator a. -/
  | fwSvn
  /-- COMPAT_ID of accelerator a. -/
  | compat
  /-- Next message number to accelerator a of stream x, at 2·a + x (R209, R210). -/
  | accTx
  /-- Next expected message number from accelerator a of stream x, at 2·a + x (R209). -/
  | accRx
  /-- REEF_STATUS of accelerator a's latest table (Table 5.8). -/
  | reefStatus
  /-- FREQ[k] of accelerator a's accepted reef table, MHz, at 8·a + k (R215). -/
  | reefFreq
  /-- TELEMETRY has been received since accelerator a's arrival (R325). -/
  | telemetrySeen
  /-- ACC_ALERT_N of accelerator a is low (R222). -/
  | alertPin
  /-- The no-link reef of accelerator a's alert pin holds (R222). -/
  | alertNoLink
  /-- Latest QSTATE of accelerator a (Table 5.8). -/
  | qstate
  /-- QID of the quiesce accelerator a is asked for or holds; 0 none (R218). -/
  | quiesceId
  /-- The next QID. -/
  | quiesceNext
  /-- The controller's own serial number, fused at test (Table 5.8, R578). -/
  | serial
  /-- THRESHOLDS written to domain rail k and not yet applied by its relay (R312); -1 none. -/
  | thrPend
  /-- Lowest SETPOINT of domain d the tray description allows, µV (Table 7.10). -/
  | setMin
  /-- Highest SETPOINT of domain d the tray description allows, µV (Table 7.10). -/
  | setMax
  /-- PEAK_LIMIT that CONFIGURE gives relay r, 0.1 A (Table 7.9). -/
  | peakLimit
  /-- DEAD_TIME that CONFIGURE gives relay r, 125 ps (Table 7.9). -/
  | deadTime
  /-- Up port of the tray in the Ratline tree; -1 none (R580). -/
  | upPort
  /-- ROOT_SEQ: own advert count at a masthead, else the latest of the up port's adverts (R580). -/
  | rootSeq
  /-- MAST_PRIORITY of the masthead followed (Table 14.4). -/
  | rootPrio
  /-- The masthead followed advertises ROOT_TIMED (R588). -/
  | rootTimed
  /-- Instant of the latest periodic TREE_ADVERT. -/
  | advertAt
  /-- TIME_ERROR at the instant the time source was lost, ns (R76). -/
  | holdErr
  /-- Instant the time source was lost. -/
  | holdAt
  /-- Rate bound that applies to this holdover, ppm (R70). -/
  | holdPpm
  /-- Instant since which tile t's backup oscillator has been measured against a reference without a break; -1 none (R70). -/
  | oscMeasured
  /-- Latest offset of tile t's backup oscillator from its reference, ppb (R66). -/
  | oscOffset
  /-- Tile t's loop runs on its backup oscillator (R67, R69). -/
  | oscUse
  /-- Correction of common time set up and not yet applied, ns (R71). -/
  | slew
  /-- Instant the correction was set up. -/
  | slewAt
  /-- Trim of the counter's rate, ppb (R587). -/
  | rateTrim
  /-- Island i of tile t is held in reset, at 16·t + i (R85). -/
  | islandDown
  /-- State of a crossing, by its identity (Table 2.6): 0 ACTIVE, 1 DRAINING, 2 FLUSHED (Table 2.7). -/
  | crossing
  /-- Tile t's guard island runs on its ring oscillator (R84). -/
  | guardFallback
  /-- Serial of the masthead followed; 0 where it is the tray itself (R580). -/
  | rootSerial
  /-- Tray epochs in which a new leader still grants no increase (R353). -/
  | trayHold
  /-- Rack epochs in which a new rack leader still grants no increase (R341). -/
  | rackNew
  /-- Installation epochs in which a new masthead still grants no increase (R341). -/
  | installNew
  /-- The tray (0), or its rack (1), is isolated (R340, R341). -/
  | isolated
  /-- A grant has been accepted since cold boot, by the tray (0) and the rack (1) (R340). -/
  | granted
  /-- EPOCH of the latest grant accepted, by the tray (0) and the rack (1) (R337). -/
  | grantEpoch
  /-- Instant since which a lower guard band's condition has held (R327); -1 none. -/
  | guardSince
  /-- Instant since which accelerator a's power has stayed above its grant and margin (R345); -1 none. -/
  | reefOver
  /-- That excursion has set source 1 (R345). -/
  | reefOverDone
  /-- Instant since which accelerator a's power has stayed at or below its grant (R345); -1 none. -/
  | reefUnder
  /-- STATE of accelerator a's latest TELEMETRY (Table 5.8). -/
  | telState
  /-- Demand a phase plan places on accelerator a at the present tray epoch, mW (R325). -/
  | planDemand
  /-- Thermal ceiling of accelerator a, mW (R325, R451). -/
  | thermalCeil
  /-- Slot of relay r's newest samples (R305); -1 before the first. -/
  | frameSlot
  /-- Slots tile t sheds, one bit a slot (R390). -/
  | fcShed
  /-- Instant tile t last raised EV_FORECAST_DEADLINE (R388). -/
  | fcEvAt
  /-- t_j of the forecast step in progress (R368); -1 none. -/
  | fcStart
  /-- t_j of the forecast step published last (R402). -/
  | fcTj
  /-- Accelerator a has sent a HINT since its arrival (R373). -/
  | hintSeen
  /-- Instant accelerator a's TAG_NOW last changed (Table 9.5). -/
  | tagAt
  /-- The model shelf has been restored since cold boot (R380). -/
  | shelfDone
  /-- Fused digest of key slot 4 or 5's ECDSA key (R665); 0 while it is empty. -/
  | keyEcFuse
  /-- Fused digest of key slot 4 or 5's ML-DSA key (R665). -/
  | keyMlFuse
  /-- Key slots whose REVOKED fuse is blown, one bit a slot (Table 17.1). -/
  | revoked
  /-- Round in progress (R413); -1 before the first. -/
  | lockRound
  /-- This tray's LOCK_UP, or as masthead its LOCK_COMMIT, of the round is out (R415, R416). -/
  | lockUpSent
  /-- The reduction of the round completed only partially (R416). -/
  | lockShort
  /-- This tray takes part in the round (R423). -/
  | lockTakes
  /-- Rounds since this tray became masthead; 0 where it is not (R416, R420). -/
  | lockMast
  /-- Rounds missed for want of a leader (R424). -/
  | lockMissed
  /-- Instant of accelerator a's latest TELEMETRY (R425); -1 none. -/
  | telAt
  /-- Accelerator a's phase is being observed (R432). -/
  | phaseOpen
  /-- The low bits of the next OP_ID this tray gives an initiated operation (R594). -/
  | nextOp
  /-- While no leader is in place after a loss: 1 + the tile lost (R165, R170). -/
  | electing
  /-- Instant the leader loss was detected (R183). -/
  | electAt
  /-- CSN up to which the leader has tile t's acknowledgements (R154). -/
  | ackSeen
  /-- Fence request of tile r against tile x, at 3·r + x: 1 + its cause; 0 none (R158–R160). -/
  | fenceReq
  /-- Instant of the latest planned move (R178). -/
  | moveAt
  /-- 1 + the tile that ADMIN_STATE := 1 is taking out of service (R180). -/
  | adminOut
  /-- Tile t is rejoining (R179). -/
  | rejoining
  /-- Instants of tile t's three latest automatic rejoins, at 4·t + k (R179). -/
  | autoRejoin
  /-- Instants of tile t's latest two disagreements, at 4·t + k (R163). -/
  | disagreeAt
  /-- Instant of the latest failover (R169). -/
  | failoverAt
  /-- Instant of the latest EV_JOURNAL_STALL (R155). -/
  | stallAt
  /-- Cause of the fence that took the leader (R165). -/
  | electCause
  /-- Commands interrupted by the loss in progress (R183). -/
  | electCut
  /-- Stacks lost for good, one bit a stack (R645). -/
  | stackFailed
  /-- A rolling restart is in progress (R707). -/
  | rolling
  /-- A leak stage has driven FEED_EN low (R506). -/
  | feedCut
  /-- Fans and pumps still run at their start speeds (R485). -/
  | coolStart
  /-- Common speed target of the AUTO pumps in RUNNING (R497), rpm. -/
  | pumpTarget
  /-- Instant since which the total flow has been at least FLOW_PROVEN_MIN (R492); -1 none. -/
  | flowOkSince
  /-- Instant since which the total flow (8), or branch a's (a), has been too low (R493); -1 none. -/
  | flowLowSince
  /-- That run of low flow has been acted on. -/
  | flowLowDone
  /-- Pressure input i: 0 normal, 1 high, 2 low (R494). -/
  | pressState
  /-- Instant since which supply input i has been below P_MIN; -1 none. -/
  | pressLowSince
  /-- Drive voltage of AUTO pump p when the supply pressure rose above P_MAX, µV (R494). -/
  | pressDropFrom
  /-- Instant the supply pressure rose above P_MAX; -1 while it is not (R494). -/
  | pressDropAt
  /-- Proportional valve a is commanded to 0 % by a leak action (R506). -/
  | leakShut
  /-- Flow sharing is active (R497). -/
  | sharing
  /-- Instant of the latest KEEPALIVE of a host-class session, or of Fore's becoming ready (R486). -/
  | keepAt
  /-- Accelerator a's thermal throttle runs (R451). -/
  | throttle
  /-- x_a of accelerator a at the latest thermal reef step (R453), m°C. -/
  | reefX
  /-- Instant tile t last raised EV_THERMAL_PROMOTE_FULL (R444). -/
  | promoteEvAt
  /-- What measurement has added to the offset of tile t's backup oscillator at point i, at 32·t + i (R467), ppb. -/
  | compOsc
  /-- What calibration has added to the gain error of reference b of tile t at point i, at 32·(4·t + b) + i (R467), ppm. -/
  | compRef
  /-- The whole device is held in reset: 1 by undervoltage (R754), 2 by a controller-sensor trip (R463). -/
  | heldReset
  /-- Setter of valve v: 0 AUTO, 1 host, 2 Burin (R484). -/
  | valveSetter
  /-- Value the setter of valve v gave (Table 12.11). -/
  | valveSet
  /-- The TEST_MODE strap (R665, R760). -/
  | testMode
  /-- The SMBus address strap (R760). -/
  | smbAddr
  /-- Plate whose image tile t runs; -1 none (R670, R674). -/
  | bootPlate
  /-- Fore's boot is a trial boot (R670). -/
  | bootTrial
  /-- Why Fore booted another plate than the active one (R670); -1 it did not. -/
  | bootReason
  /-- FLAGS of tile t's measurement (R671). -/
  | bootFlags
  /-- Instant tile t left reset. -/
  | bootAt
  /-- This boot of Fore has written a CONFIRM (R710). -/
  | confirmedBoot
  /-- Fore boots by a wake: 1 the fast path, 2 the cold path (R675). -/
  | waking
  /-- Zone whose wet sample woke the device; -1 none (R772). -/
  | wakeZone
  /-- Copy of the tray description in force; -1 none (R773). -/
  | tdCopy
  /-- Copy the controller last ran (R712); -1 none. -/
  | tdLast
  /-- A write of 3 waits for the off-sequence to complete (R43). -/
  | restart43
  /-- A JTAG debug instruction has been selected since reset (R671). -/
  | debugSeen
  /-- Fields fused off, one bit a tile (Table 17.1). -/
  | fieldDead
  /-- NOR dies lost, one bit a die (R24). -/
  | norLost
  /-- Why Fore runs the recovery service (Table 17.13, RECOVERY_CAUSE); 0 it does not. -/
  | bootRecovery
  /-- Tile t's latest window pace (R55), kHz. -/
  | paceNow
  /-- Consecutive windows of tile t below PACE_ALARM (2·t) and below 650,000 kHz (2·t + 1) (R58, R59). -/
  | paceRun
  /-- Consecutive windows of tile t at least 10,000 kHz above each threshold, by the same index (R58). -/
  | paceHigh
  /-- The event of that threshold is not raised again yet, by the same index (R58). -/
  | paceTold
  /-- PACE_MIN of tile t has started (Table 2.1). -/
  | paceSeen
  /-- Temperature of the time master's sensor 0 when holdover began (R70), m°C. -/
  | holdTemp
  /-- The backup oscillator had been measured for 60 s before holdover began (R70). -/
  | holdGood
  /-- Consecutive rejected or missing PPS edges (R74). -/
  | ppsMiss
  /-- VERSION of the image tile t booted (Table 17.8). -/
  | bootVersion
  /-- SESSION of the latest handshake (R683): the number the next one takes is one more. -/
  | ethNext
  /-- The declared two-wire device at address a of port p, at 1024·p + a, is present (Table 5.1). -/
  | devSeen
  /-- Transactions of mainline firmware in a row that failed at it on an address NAK or a timeout (Table 5.1). -/
  | devFails
  /-- Endpoint ID of a binding: target ports 0–1, VDM endpoints 2–3 (R116). -/
  | mctpEid
  /-- Spare rows used on die d of stack k, at 16·k + d (R641). -/
  | sparesUsed
  /-- EV_STACK_SPARES_LOW has been raised for that die (R641). -/
  | sparesTold
  /-- Instant tile t last raised EV_MEM_CORRECTED. -/
  | correctedAt
  /-- Forecast slots whose weight image tile t cannot read, one bit a slot (Table 16.2). -/
  | fcBad
  /-- Instant tile t came into service (R710). -/
  | joinedAt
  /-- Relay r restarts at an update step's request (R704). -/
  | unitRestart
  /-- PUMP_STOP keeps pump p stopped (R725). -/
  | testDrive
  /-- VALVE_STROKE commands valve v: 1 + its command (R725); 0 none. -/
  | testValve
  /-- Instant of the last calibration rotation, -1 before the first (R298). -/
  | calRotated
  /-- Words a crossing answered failed or discarded since it left ACTIVE, by its identity (Table 2.7). -/
  | crossingLost
  /-- Requests admitted so far: the model's own count, which names each request (Origin). -/
  | admitted
  /-- Survivors whose claims have come in the election under way, one bit a tile (R165). -/
  | claims
  /-- The cut instant of LONE_MIZZEN (R171). -/
  | loneFrom
  /-- Sectors of the image and key metadata ring that were erased and written anew (R669). -/
  | metaErased
  /-- Sectors of the first-fault ring that were erased and written anew (R266). -/
  | faultErased
  /-- A privileged level a tile holds at its guard island, at 2048·tile + the signal of PrivSignal.code (R81, R82). -/
  | priv
  /-- The instant OVERFLOW of a source and tile was last set, at 3·n + t (R18). -/
  | srcOvAt
  /-- The training parameters of stack k that the retained memory keeps (R640, R772); a free value. -/
  | stackTraining
  /-- an accelerator: its last port to leave ACTIVE went down with a fence (R194) -/
  | lastFenced
  /-- an accelerator, or 16 and a relay: the serial number it reported last, accepted or not (R191, R311) -/
  | reportedSerial
  /-- the sampling instant that sequence decisions are reckoned at while samples are judged; −1 otherwise (R240) -/
  | seqAt
  /-- a scope: the instant it entered OFF_SEQ last (R256) -/
  | offAt
  /-- a scope: the state it entered OFF_SEQ from (R256) -/
  | offFrom
  /-- a budget level (0 to 2, 8 and an accelerator): the instant of its last epoch (R318) -/
  | epochAt
  /-- A LOCK_COMMIT of the round has been acted on (R417). -/
  | lockTaken
  /-- LOCK_COMMIT_LEAD as the round took it (R436). -/
  | lockLead
  /-- LAG_POLICY as the round took it (R436). -/
  | lagPolicyIn
  /-- LAG_LIMIT as the round took it (R436). -/
  | lagLimitIn
  /-- PLAN_LEARN as the tray epoch took it (R436). -/
  | planLearnIn
  /-- PLAN_ALPHA as the tray epoch took it (R436). -/
  | planAlphaIn
  /-- PLAN_MIN_SAMPLES as the tray epoch took it (R436). -/
  | planMinIn
  /-- High time in ns of the pulses on a drive pin (fans 0 to 15, pumps 16 to 19) and on VALVE_CMD (20 and the accelerator); 0 held low (R471, R472, R495). -/
  | drvHigh
  /-- n_target of domain d, as it was re-planned last (R287). -/
  | nTarget
  /-- DEBUG_LOCK, FUSE_LOCK and KEY_LOCK of tile t, bits 0 to 2 (R672). -/
  | locks
deriving DecidableEq, Repr

/-- The timers: each holds the instant at which it is due, or nothing. -/
inductive T where
  /-- Session n ends for want of requests (R121). -/
  | sessionIdle
  /-- Bound on the next EVENT_NOTICE to the Ethernet binding of session n (R143). -/
  | eventNotice
  /-- Z, the recorder's freeze instant (R651). -/
  | recFreeze
  /-- End of maintenance mode (R723). -/
  | maintenance
  /-- End of HOST_SILENCE since the last KEEPALIVE of a host-class session (R121, R486). -/
  | hostSilence
  /-- Scope i in WAIT_READY reaches START_WAIT (R252). -/
  | startWait
  /-- Scope i in DISCHARGING reaches DISCHARGE_TIMEOUT (R252). -/
  | discharge
  /-- 100 µs after the incident's first confirmation (R265). -/
  | firstFault
  /-- Fans and pumps stop during entry to DEEP_SLEEP (R489). -/
  | runOn
  /-- No port of accelerator a ACTIVE for ACCEL_LOSS_TIME (R194). -/
  | accelLoss
  /-- No TELEMETRY of accelerator a for 1 ms (R194). -/
  | telemetry
  /-- SILENT_FURL_DELAY of accelerator a (R195). -/
  | silentFurl
  /-- ACC_ALERT_N of accelerator a low for 10 µs with no port ACTIVE (R222). -/
  | alertReef
  /-- ACC_ALERT_N of accelerator a low for ALERT_NOLINK_DELAY with no port ACTIVE (R222). -/
  | alertFurl
  /-- 20 µs after a port of accelerator a became ACTIVE (R222). -/
  | alertHandover
  /-- TIMEOUT of accelerator a's quiesce (R218). -/
  | quiesce
  /-- Held messages of accelerator a, stream x, are delivered, at 2·a + x (R209). -/
  | shroudGap
  /-- No port of relay r ACTIVE for RELAY_LOSS_TIME (R314). -/
  | relayLoss
  /-- 50 µs after EV_DOMAIN_OC of domain d (R295). -/
  | ocTrip
  /-- No grant accepted for RACK_HOLD, by the tray (0) and the rack (1) (R340). -/
  | rackHold
  /-- The stage-2 check of fast protection (R348). -/
  | fastStage2
  /-- FAST_FURL_TIME after stage 2 (R348). -/
  | fastFurl
  /-- P_in has stayed low for FAST_RELEASE (R350). -/
  | fastRelease
  /-- The next step down of source 0 (R350). -/
  | fastStep
  /-- The next step down of source 1 of accelerator a (R345). -/
  | complyStep
  /-- DURATION of a REEF command on accelerator a (Table 8.9). -/
  | reefCmd
  /-- CANDIDATE_INTERVAL of model slot m (R397). -/
  | candidate
  /-- The next TIMER tick of engine e (R540). -/
  | engineTimer
  /-- EC_HOLD of tile t clears itself (R553). -/
  | ecHold
  /-- Tile r has had no heartbeat from tile x for HEARTBEAT_TIMEOUT, at 3·r + x (R159). -/
  | heartbeat
  /-- The fence request of tile r against tile x expires, at 3·r + x (R160). -/
  | fenceReq
  /-- Tile t has not joined within 2 s (R179). -/
  | rejoin
  /-- FORE_LOSS_GRACE (R173). -/
  | foreGrace
  /-- The cut instant of LONE_MIZZEN (R171). -/
  | loneCut
  /-- Tile t's input to voted output o has differed for VOTE_WINDOW, at 4·o + t (R163). -/
  | voteDisagree
  /-- The PG input of tile t has not asserted 100 ms after its enable (R750). -/
  | supplyPg
  /-- 10 s after start-up: fans move to their tables (R485). -/
  | fanHandover
  /-- Zone z wet for LEAK_CONFIRM (R505). -/
  | leakConfirm
  /-- Zone z wet for LEAK_ESCALATE after confirmation (R505). -/
  | leakEscalate
  /-- Zone z dry for LEAK_DRY_TIME (R505). -/
  | leakDry
  /-- LEAK_CUT_TIME after a confirmation with action 3 (R506). -/
  | leakCut
  /-- Tile t is not ready 1.5 s after its supplies became good (R48). -/
  | tileReady
  /-- FAILED port p attempts recovery (Table 15.5). -/
  | busRetry
  /-- SCL of port p has stayed low 10 ms beyond a limit (R623). -/
  | sclStuck
  /-- Target port k retries an MCTP packet (R624). -/
  | mctpRetry
  /-- The next stipple frame (R654). -/
  | stipple
  /-- STEP_TIMEOUT of the relay or accelerator step in progress (R706). -/
  | stepTimeout
  /-- DURATION of injection point p (R722). -/
  | injHold
  /-- ARM_LIMIT of injection point p (R722). -/
  | armLimit
  /-- The next calibrations that run by themselves (R729). -/
  | calPeriod
deriving DecidableEq, Repr

/-- What a hidden register holds after reset. -/
def V.dflt : V → Int
  | .reefVote => 7
  | .reefPad => 7
  | .eventAt => -1
  | .nextSession => 1
  | .nextWatch => 1
  | .sqTurnQ => -1
  | .switchSlots => 1
  | .goal => -1
  | .reefEvAt => -1
  | .reefShown => 7
  | .heldNode => -1
  | .quiesceNext => 1
  | .serial => 1
  | .thrPend => -1
  | .upPort => -1
  | .rootPrio => 128
  | .advertAt => -1
  | .holdPpm => 25
  | .oscMeasured => -1
  | .isolated => 1
  | .grantEpoch => -1
  | .guardSince => -1
  | .reefOver => -1
  | .reefUnder => -1
  | .thermalCeil => 2147483647
  | .frameSlot => -1
  | .fcEvAt => -1
  | .fcStart => -1
  | .lockRound => -1
  | .telAt => -1
  | .nextOp => 1
  | .electAt => -1
  | .moveAt => -1
  | .autoRejoin => -1
  | .disagreeAt => -1
  | .failoverAt => -1
  | .stallAt => -1
  | .flowOkSince => -1
  | .flowLowSince => -1
  | .pressLowSince => -1
  | .pressDropAt => -1
  | .promoteEvAt => -1
  | .bootPlate => -1
  | .bootReason => -1
  | .wakeZone => -1
  | .tdCopy => -1
  | .tdLast => -1
  | .holdTemp => -2147483648
  | .correctedAt => -1
  | .calRotated => -1
  | .srcOvAt => -1
  | .reportedSerial => -1
  | .seqAt => -1
  | .offAt => -1
  | .epochAt => -1
  | .lockLead => 100
  | .lagLimitIn => 8
  | .planLearnIn => 1
  | .planAlphaIn => 32
  | .planMinIn => 4
  | _ => 0

end Sys2Proof
end

