-- ==== Sys2Proof/Names.lean ====
section
/-! DEFINITION. The names the manual gives its properties, events, and status codes (their numbers stand in
Machine/Properties.lean and Machine/Codes.lean). -/

namespace Sys2Proof

/-- The properties of Tables 2.1 to 19.12: one name per row (chapter tables "Properties ..."); a row for fans and
pumps, or for the three per-tile codes of one register, is one name here. -/
inductive P where
  | powerState
  | pace
  | paceMin
  | paceAlarm
  | crossingTimeout
  | stitchTimeout
  | commonTime
  | timeStatus
  | timeError
  | holdoverLimit
  | lastCsn
  | arbWeights
  | ageCap
  | safetyRate
  | sessionTimeout
  | udpPort
  | crcErrors
  | busyReplies
  | role
  | adminState
  | fenceCause
  | ackCsn
  | loopAccels
  | membership
  | leader
  | term
  | heartbeatTimeout
  | voteWindow
  | autoRejoin
  | foreLossAction
  | foreLossGrace
  | failoverCount
  | accelPresence
  | accelSerial
  | shroudState
  | reefGen
  | silentAction
  | accelLinkErrors
  | accelReplays
  | capability
  | accelLossTime
  | silentFurlDelay
  | alertNolinkDelay
  | railStatus
  | voltage
  | scale
  | thresholds
  | glitch
  | ovGlitch
  | luffWindow
  | nominal
  | seqState
  | traySeqState
  | activeTable
  | autoRestart
  | minOffTime
  | dischargeTimeout
  | startWait
  | restartLimit
  | mainGoodV
  | mainLostV
  | mainLostTime
  | feedsRequired
  | firstFaultLatched
  | incident
  | legState
  | current
  | legTemperature
  | admin
  | faultCause
  | senseChannel
  | setpoint
  | setpointSlew
  | loadLine
  | domainCurrent
  | legCounts
  | nMin
  | minHealthy
  | iLegTarget
  | shedHold
  | planMargin
  | domainOc
  | domainOcTime
  | coeffSet
  | planSource
  | relayPresence
  | relaySerial
  | sheetState
  | staleSlots
  | spares
  | relayLinkErrors
  | tileOverruns
  | legWake
  | relayLossTime
  | calInterval
  | calMismatch
  | legOcAvg
  | legOcTime
  | legTempLimit
  | peakLimitSlots
  | limit
  | minGrant
  | weight
  | demand
  | grant
  | cap
  | wsum
  | age
  | rackOther
  | installFallback
  | reefLevel
  | reefSources
  | emergencyLevel
  | accelOverruns
  | guardBand
  | guardExtra
  | convEff
  | auxFloor
  | pAux
  | inputPower
  | fastMargin
  | fastPersist
  | fastDepth
  | fastStage2
  | fastFurlTime
  | fastRelease
  | fastStep
  | fastTrips
  | complyMargin
  | complyTime
  | demandProbe
  | rackId
  | rackMembers
  | rackPriority
  | rackHold
  | rackLeader
  | modelState
  | modelVersion
  | modelId
  | modelSvn
  | cost128
  | trainTile
  | demoteRatio
  | rollbackWindows
  | fcSlot
  | fcLoad
  | fcMisses
  | arrayState
  | fcStep
  | fcBudget
  | fcSvnFloor
  | groupFreq
  | groupRound
  | localMembers
  | lockGroup
  | lockState
  | proposal
  | lagRounds
  | groupFmax
  | lockCommitLead
  | lagPolicy
  | lagLimit
  | lockTimeLimit
  | planLearn
  | planLead
  | planHold
  | planHeadroom
  | planAlpha
  | planMinSamples
  | planMinConf
  | planEntries
  | thermalTemperature
  | reefT
  | furlT
  | tripT
  | hyst
  | owner
  | thermalStatus
  | lossAction
  | thermalCeiling
  | furlState
  | thermalReef
  | throttleGain
  | throttleSlew
  | promoteBand
  | hotBand
  | thermalReefStep
  | furlDeadline
  | trayFurlState
  | oscComp
  | channelState
  | speed
  | driveVoltage
  | driveCurrent
  | effectiveTarget
  | control
  | kickTime
  | restTime
  | kickAttempts
  | stallRetry
  | stallG
  | iOpen
  | speedSlew
  | channelFlags
  | position
  | command
  | valveControl
  | stuck
  | valveTol
  | valveStuckTime
  | flow
  | flowRole
  | pressure
  | pMin
  | pMax
  | zoneState
  | leakR
  | firstAction
  | secondAction
  | wetR
  | heldAction
  | flowFloor
  | branchMax
  | flowRequest
  | flowAllocated
  | outletTarget
  | leakRef
  | leakDoubling
  | autonomous
  | hostSilence
  | runOn
  | flowProven
  | flowProvenMin
  | flowProvenTime
  | flowMin
  | flowLossTime
  | totalFlow
  | pumpValveTarget
  | waterMode
  | returnTarget
  | waterWeight
  | junctionMargin
  | cV
  | minRise
  | leakConfirm
  | leakEscalate
  | leakDryTime
  | leakFurlDeadline
  | leakCutTime
  | supplyTemp
  | returnTemp
  | engineState
  | programId
  | programVersion
  | utilisation
  | budgetFaults
  | lastFault
  | autostart
  | dispatches
  | srcConfig
  | srcStatus
  | softPend
  | ecHold
  | ecHoldLimit
  | burinSvnFloor
  | ratlinePortState
  | portRole
  | neighbour
  | ratlineLinkErrors
  | ratlineReplays
  | oneWay
  | vc1Drops
  | portAdmin
  | taddr
  | masthead
  | depth
  | height
  | mastPriority
  | remoteTimeout
  | opsOpen
  | treeChanges
  | busPortState
  | busConfig
  | naks
  | arbLosses
  | timeouts
  | illegalConds
  | recoveries
  | pecErrors
  | queued
  | recState
  | window
  | postTrigger
  | triggerOnSafety
  | triggerMask
  | autoRelease
  | streamRate
  | drops
  | captureStart
  | captureEnd
  | stippleInterval
  | stippleSpan
  | exportRate
  | stackState
  | ceCount
  | ueCount
  | spareRowsFree
  | scrubPeriod
  | ceRowLimit
  | ueStackLimit
  | bootInfo
  | bootSvn
  | bootDigest
  | bootTime
  | keyState
  | svnFloor
  | authSessions
  | authFailures
  | stageState
  | stagePrefix
  | stageTotal
  | bundleVersion
  | autoConfirm
  | stepTimeout
  | tdGeneration
  | pointState
  | fires
  | level
  | maintenance
  | armLimit
  | armed
  | calPeriod
  | logMask
  | logFirst
  | logNext
  | logCursor
  | logRecords
  | logGaps
deriving DecidableEq, Repr

/-- The events of the chapters' event tables (Tables 1.11 to 19.13), one name per row. -/
inductive Ev where
  | powerState
  | norDieLost
  | paceLow
  | paceBelowCorner
  | refclkLost
  | refclkRestored
  | timeState
  | timeStep
  | islandClockStopped
  | crossingTimeout
  | crossingFlushed
  | guardClockFallback
  | commandDone
  | propertyChanged
  | sessionOpened
  | sessionClosed
  | queueError
  | packetCrc
  | safetyRateLimited
  | tileFailover
  | tileRejoined
  | rejoinFailed
  | voteDisagree
  | stitchSuspect
  | journalStall
  | journalLost
  | foreLossGrace
  | partnerArrived
  | partnerDeparted
  | partnerRejected
  | shroudPort
  | shroudGap
  | accAlert
  | featuresChanged
  | reefTable
  | seqState
  | seqComplete
  | railFault
  | railLuffing
  | railTrip
  | railOffSlow
  | railNotDischarged
  | firstFault
  | seqStartBlocked
  | mainPower
  | seqScopeSkipped
  | legFault
  | domainTrip
  | domainOc
  | domainCapacity
  | loopOverrun
  | sheetPort
  | relaySafe
  | senseChannelFailed
  | relaySparesLow
  | relayAlert
  | fastReef
  | fastReefReleased
  | budgetOverrun
  | budgetRationed
  | rackLeader
  | rackIsolated
  | reefLevel
  | guardBand
  | modelLoaded
  | modelActivated
  | modelPromoted
  | modelRollback
  | modelDemoted
  | forecastDeadline
  | forecastShed
  | trainingState
  | arrayFault
  | lockMembership
  | lockFreq
  | lockLaggard
  | lockSuspended
  | lockPartial
  | lockRoundMissed
  | planLearned
  | planEvicted
  | thermalThreshold
  | thermalThrottle
  | furl
  | furlCut
  | furlDone
  | thermalTrip
  | thermalSensorLost
  | thermalPromoteFull
  | fanStalled
  | fanTachLost
  | fanOpen
  | autonomous
  | flowProven
  | flowLow
  | pressure
  | valveStuck
  | flowShort
  | waterFallback
  | leak
  | leakRopeFault
  | burinLoaded
  | burinState
  | burinFault
  | burinBudget
  | burinRelocated
  | ecOverflow
  | ecHold
  | globalOpDone
  | ratPort
  | ratParent
  | masthead
  | ratDepth
  | ratVc1Drop
  | ratRemoteLost
  | busIllegalCond
  | busStuckSda
  | busStuckScl
  | busIsolation
  | busTimeout
  | busPortState
  | busWindow
  | memCorrected
  | memUncorrectable
  | rowSpared
  | stackSparesLow
  | stackLost
  | recorderState
  | recorderTrigger
  | recorderExported
  | recorderWindow
  | recorderDrop
  | boot
  | fallbackBoot
  | keyRevoked
  | ethAuthFail
  | svnFloor
  | stageVerified
  | etchDone
  | activateDone
  | updateStep
  | updateReverted
  | confirmed
  | tdChanged
  | tdInvalid
  | injection
  | maintenance
  | selftestDone
  | calibrateDone
  | componentFailed
  | firmwareFault
  | nandFault
  | software (n : Fin 32)
deriving DecidableEq, Repr

/-- The status codes of Table 3.9 and of the chapters' status tables (R105, R107). -/
inductive Status where
  | ok
  | accepted
  | busy
  | wouldDisturb
  | badParam
  | badObject
  | notPresent
  | notNegotiated
  | denied
  | conditionFailed
  | deadlinePassed
  | noSafeOrder
  | incompatible
  | partnerLost
  | busInterrupted
  | internal
  | propUnknown
  | propReadOnly
  | watchFull
  | snapshotTooLarge
  | powerOvertaken
  | noSession
  | sessionLimit
  | unknownSession
  | seqTableInvalid
  | seqState
  | seqNotDischarged
  | seqNotReady
  | seqAborted
  | railNotSequenced
  | seqCancelled
  | budgetBelowMin
  | budgetMinExceeds
  | budgetNotLeader
  | budgetLevel
  | fcContainerInvalid
  | fcSignature
  | fcSvn
  | fcTooLarge
  | fcSlotState
  | fcNoCapacity
  | fcNoStore
  | fcLoadIncomplete
  | lockCaps
  | lockInGroup
  | lockGrid
  | lockTime
  | lockGroupsFull
  | lockNotReached
  | lockNotMember
  | planFull
  | planInvalid
  | planNotFound
  | leakStillWet
  | coolLeakHold
  | coolTableInvalid
  | coolAutonomous
  | burinImageInvalid
  | burinSignature
  | burinSvn
  | burinAuthority
  | burinEngineState
  | burinRouteConflict
  | burinOverload
  | burinLoadIncomplete
  | ratPartial
  | ratUnreachable
  | ratWrongTray
  | ratOutcomeUnknown
  | ratOpMismatch
  | ratNoTree
  | ratOpsFull
  | ratSnapshotTruncated
  | busAddrNak
  | busDataNak
  | busArbLost
  | busTimeout
  | busPec
  | busStuck
  | busPreempted
  | busNotController
  | busIsolated
  | busBlockCount
  | busFormat
  | recState
  | recRange
  | recBufferFull
  | recBufferInvalid
  | secSlotEmpty
  | secAlreadyRevoked
  | secCertRange
  | updStageState
  | updBundleInvalid
  | updSignature
  | updSvn
  | updTooLarge
  | updIncomplete
  | updTrial
  | updNotEtched
  | updNotReady
  | updRolledBack
  | updHalted
  | updComponentFailed
  | diagArmFull
  | diagPointState
  | diagState
  | diagFailed
  | diagAborted
deriving DecidableEq, Repr

end Sys2Proof
end

