-- ==== Sys2Proof/Terms.lean ====
section
/-! DEFINITION. The operand types of the commands: where a request comes from, its header, its parameters, and the
other values a command carries. -/

namespace Sys2Proof

/-- The family members (Table 0.1). -/
inductive Member where
  | kt880 | kt860 | kt440 | kt420 | kt110
deriving DecidableEq, Repr

/-- The feature bits of Table 0.2, in bit order from bit 0. -/
inductive Feature where
  | tileMain | tileMizzen | forecast | forecastTrain | recorder | stacks | ratline | lockstep | phasePlans | burinUser
  | dualSign | dualPcie | ethernet | valves | waterMode | globalSnapshot | injection | conditionCsn
deriving DecidableEq, Repr

/-- A binding: one transport endpoint that can carry a session (R108, R119). All 64 ring queues of a PCIe endpoint
are one binding; its VDM path is another. `eth` carries the Ethernet port and the number of the authenticated
session; `ratline` the serial of the tray that sent the request, or 2^64 and the OP_ID of the broadcast that carries it
(R597, R601). -/
inductive Binding where
  | ring (ep : Fin 2) | vdm (ep : Fin 2) | smbus (k : Fin 2) | eth (port : Fin 2) (session : Nat)
  | ratline (port : Fin 10) (tray : Nat) | burin (e : Fin 48) | firmware
deriving DecidableEq, Repr

/-- The source classes of Table 3.10. -/
inductive SourceClass where
  | firmware | host | smbus | ethernet | ratline | burin
deriving DecidableEq, Repr

/-- The command classes of R124, in rank order. -/
inductive CmdClass where
  | safety | control | manage | bulk
deriving DecidableEq, Repr

/-- The columns of Table 3.8. -/
structure OpInfo where
  code : Nat
  cls : CmdClass
  safety : Bool
  long : Bool
  changes : Bool
  feature : Option Feature
deriving DecidableEq, Repr

/-- A request header (Tables 3.1 and 3.2). `rsv`: some reserved bit or padding byte of the packet is not zero;
`packetLen`: the bytes of the packet as received. -/
structure Header where
  version : Nat := 2
  rsv : Bool := false
  force : Bool := false
  idempotent : Bool := false
  safety : Bool := false
  replyRequired : Bool := false
  tag : Nat := 0
  queue : Nat := 0
  object : ObjId := 0
  property : Nat := 0
  paramLen : Nat := 0
  packetLen : Nat := 36
  condCsn : Nat := 0
  deadline : Ns := 0
deriving DecidableEq, Repr

/-- A request as it arrives: the instant, the binding and queue it arrived on, its submission slot and reply buffer
where it came from a ring (Table 3.19), whether host memory will take no reply there (R115), and its header. -/
structure Arrival where
  t : Ns := 0
  binding : Binding := .ring 0
  queue : Nat := 0
  slot : Nat := 0
  replySize : Nat := 4096
  noWrite : Bool := false
  hdr : Header := {}
deriving DecidableEq, Repr

/-- The opcodes of Table 3.8 (R106); EVENT_NOTICE is sent only by the controller and is none of them. -/
inductive Op where
  | getProp
  | setProp
  | getSnapshot
  | watch
  | negotiate
  | hello
  | keepalive
  | recall
  | close
  | startSequence
  | stopSequence
  | enableRail
  | disableRail
  | furl
  | loadSequence
  | readFirstFault
  | clearFirstFault
  | setBudget
  | setWeight
  | setMinGrant
  | readGrants
  | reef
  | releaseReef
  | loadModel
  | activateModel
  | retireModel
  | queryForecast
  | setTraining
  | readModelStats
  | joinGroup
  | leaveGroup
  | readGroup
  | loadPhasePlan
  | clearPhasePlan
  | readPhasePlan
  | setFan
  | setPump
  | setValve
  | isolateLeak
  | resetLeakZone
  | loadFanTable
  | setWaterMode
  | loadProgram
  | startProgram
  | stopProgram
  | readEngine
  | raiseEvent
  | barrier
  | broadcast
  | reduce
  | snapshotGlobal
  | resetGlobal
  | busTransfer
  | busRecover
  | configureBus
  | pmbusRead
  | pmbusWrite
  | triggerRecorder
  | freezeRecorder
  | releaseRecorder
  | exportRecorder
  | readStipple
  | openStage
  | writeStage
  | verifyStage
  | planUpdate
  | etch
  | activate
  | confirm
  | readPlates
  | attest
  | revokeKey
  | readKeys
  | inject
  | selftest
  | calibrate
  | setMaintenance
  | subscribe
  | readEvents
deriving DecidableEq, Repr

/-- One item of GET_SNAPSHOT (R139). -/
structure SnapItem where
  object : ObjId
  property : Nat
  rsv : Nat
deriving DecidableEq, Repr

/-- One tray rail's sample: the 12-bit codes of the comparator banks on Fore and Main (R233). -/
structure RailSample where
  rail : Fin 64
  fore : Fin 4096
  main : Fin 4096
deriving DecidableEq, Repr

/-- One entry of a sequence table (Table 6.3); times in 10 µs. -/
structure SeqEntry where
  rail : Nat
  holdOn : Bool := false
  holdOff : Bool := false
  action : Nat := 0
  ramp : Nat := 0
  onSlot : Nat := 0
  offSlot : Nat := 0
  goodDeadline : Nat := 1
  offDeadline : Nat := 0
deriving DecidableEq, Repr

/-- A phase-plan entry (Table 10.2). -/
structure PlanEntry where
  kind : Nat := 0
  flags : Nat := 0
  key : Nat := 0
  samples : Nat := 0
  mean : Int := 0
  peak : Int := 0
  duration : Nat := 0
  rsv : Nat := 0
  lastSeen : Nat := 0
deriving DecidableEq, Repr

/-- The parameters of LOAD_MODEL and LOAD_PROGRAM, whose PROPERTY selects the sub-function (Tables 9.9, 13.6): BEGIN (AUTOSTART
only in LOAD_PROGRAM), DATA, or none for END and ABORT. -/
inductive LoadParams where
  | start (total persist autostart : Nat)
  | data (offset : Nat) (bytes : List Nat)
  | none
deriving DecidableEq, Repr

/-- The parameters of the opcodes of class 0x09 (Table 14.6, R594, R598): START by opcode, RESULT and RELEASE by OP_ID,
READ. -/
inductive OpParams where
  | barrier (opId scope timeout : Nat)
  | reduce (opId scope timeout op : Nat) (value : Int)
  | broadcast (scope target serial : Nat)
  | snapshot (scope : Nat) (items : List SnapItem)
  | reset (scope kind mask deadline : Nat)
  | opId (id : Nat)
  | read (id first : Nat)
deriving DecidableEq, Repr

/-- A segment of BUS_TRANSFER (Table 15.4). -/
structure BusSeg where
  addr : Nat
  ten : Bool := false
  read : Bool := false
  pec : Bool := false
  stop : Bool := true
  block : Bool := false
  noRetry : Bool := false
  len : Nat := 0
  data : List Nat := []
deriving DecidableEq, Repr

/-- The parameters of INJECT's ARM (Table 19.2); `rsv`: a reserved byte is not zero. -/
structure ArmParams where
  trigger : Nat
  count : Nat
  spacing : Nat
  at_ : Nat
  skip : Nat
  duration : Nat
  value : Int
  rsv : Bool
deriving DecidableEq, Repr

/-- The decoded parameter block of a request, one constructor per opcode. `malformed` is a block that does not decode
as its opcode's parameters (R100); `unknown` an opcode that Table 3.8 lacks. -/
inductive Body where
  | unknown (opcode : Nat)
  | malformed (op : Op)
  | getProp
  | setProp (len : Nat) (value : Int)
  | getSnapshot (items : List SnapItem)
  | watch (id minUs : Nat) (delta : Int) (maxUs : Nat)
  | negotiate (major minor offer : Nat)
  | hello (id token : Nat)
  | keepalive
  | recall (port queue tag : Nat)
  | close
  | subscribe (mask : Nat)
  | readEvents (ack count : Nat)
  | startSequence
  | stopSequence
  | enableRail
  | disableRail
  | furl (deadline : Nat)
  | loadSequence (table generation : Nat) (entries : List SeqEntry)
  | readFirstFault (start count : Nat)
  | clearFirstFault
  | setBudget (limit : Int)
  | setWeight (weight : Nat)
  | setMinGrant (minGrant : Int)
  | readGrants
  | reef (level duration : Nat)
  | releaseReef
  | loadModel (x : LoadParams)
  | activateModel (mask : Nat)
  | retireModel
  | queryForecast
  | setTraining (mode persist lr drift under margin interval sample : Nat)
  | readModelStats
  | joinGroup (mask grid : Nat)
  | leaveGroup (mask : Nat)
  | readGroup
  | loadPhasePlan (entries : List PlanEntry)
  | clearPhasePlan (kind key : Nat)
  | readPhasePlan (first count : Nat)
  | barrier (x : OpParams)
  | broadcast (x : OpParams) (hdr : Header) (inner : Body)
  | reduce (x : OpParams)
  | snapshotGlobal (x : OpParams)
  | resetGlobal (x : OpParams)
  | loadProgram (x : LoadParams)
  | startProgram
  | stopProgram
  | readEngine
  | raiseEvent (len : Nat) (payload : List Nat)
  | setFan (mode : Nat) (value : Int)
  | setPump (mode : Nat) (value : Int)
  | setValve (mode : Nat) (value : Int)
  | isolateLeak (action : Nat)
  | resetLeakZone
  | loadFanTable (inputs points : Nat) (thermals : List Nat) (curve : List (Int × Nat))
  | setWaterMode (mode : Nat) (target weight : Int)
  | attest (tile index offset : Nat) (nonce : List Nat)
  | revokeKey
  | readKeys
  | openStage (total resume : Nat)
  | writeStage (offset : Nat) (bytes : List Nat)
  | verifyStage
  | planUpdate
  | etch
  | activate (stop : Nat)
  | confirm
  | readPlates
  | busTransfer (retries : Nat) (segs : List BusSeg)
  | busRecover
  | configureBus (block : List Nat)
  | pmbusRead (addr page code : Nat)
  | pmbusWrite (addr page code value : Nat)
  | triggerRecorder (post : Nat)
  | freezeRecorder
  | releaseRecorder
  | exportRecorder (path content id first last taddr serial : Nat) (bufs : List (Nat × Nat))
  | readStipple (start section_ count : Nat)
  | inject (p : Option ArmParams)
  | selftest (test arg : Nat)
  | calibrate (cal : Nat)
  | setMaintenance (on duration : Nat)
deriving DecidableEq, Repr

/-- What the endpoint reads as the packet of a submission entry. -/
inductive Fetched where
  | hostError
  | crcError
  | packet (hdr : Header) (body : Body)
deriving DecidableEq, Repr

/-- A submission entry as host memory holds it: its 32 bytes (Table 3.19), what REQ_ADDR reads as, and whether host memory will take no
reply at REPLY_ADDR (R115). -/
structure SqEntry where
  raw : List Nat := []
  packet : Fetched := .hostError
  noWrite : Bool := false
deriving DecidableEq, Repr

/-- The BAR0 registers (Table 3.12); `msix` is a 32-bit word of the MSI-X table. -/
inductive BarReg where
  | glId | glControl | glStatus | evqBase | evqConfig | sqBase (q : Fin 64) | cqBase (q : Fin 64) | qpConfig (q : Fin 64)
  | qpStatus (q : Fin 64) | sqTail (q : Fin 64) | cqHead (q : Fin 64) | evqHead | msix (i : Fin 256) | pba | reserved (offset : Nat)
deriving DecidableEq, Repr

/-! ### Links (chapters 5, 7, 14) -/

/-- A port of a 64b/66b link. -/
inductive LinkPort where
  | shroud (p : Fin 16) | sheet (p : Fin 32) | ratline (p : Fin 10)
deriving DecidableEq, Repr

/-- A port of a link that carries flits. -/
inductive FlitPort where
  | shroud (p : Fin 16) | ratline (p : Fin 10)
deriving DecidableEq, Repr

/-- IDENTITY of an accelerator (Table 5.8). -/
structure Identity where
  major : Nat := 1
  minor : Nat := 0
  vendor : Nat := 0
  device : Nat := 0
  domains : Nat := 1
  sensors : Nat := 0
  serial : Nat := 0
  fwVersion : Nat := 0
  fwSvn : Nat := 0
  fMin : Nat := 0
  fMax : Nat := 0
  fStep : Nat := 0
  maxPower : Int := 0
  caps : Nat := 0
  incarnation : Nat := 0
  port : Nat := 0
  compat : Nat := 0
deriving DecidableEq, Repr

/-- HINT (Table 5.8). -/
structure Hint where
  stamp : Nat := 0
  tagNow : Nat := 0
  tagNext : Nat := 0
  nextIn : Nat := 0xFFFFFFFF
  nextDuration : Nat := 0
  mapping : Nat := 0
  confidence : Nat := 0
deriving DecidableEq, Repr

/-- TELEMETRY (Table 5.8); a temperature that is unavailable is −2^31. -/
structure Telemetry where
  stamp : Nat := 0
  freq : Nat := 0
  sustain : Nat := 0
  reefNow : Nat := 0
  state : Nat := 0
  power : Int := 0
  temps : List Int := []
deriving DecidableEq, Repr

/-- The messages an accelerator sends (Table 5.6). -/
inductive ShroudMsg where
  | identity (m : Identity)
  | reefTable (generation latency : Nat) (levels : List (Nat × Int))
  | hint (h : Hint)
  | telemetry (m : Telemetry)
  | freqAck (round freq outcome : Nat) (lateness : Int)
  | qstate (qid state : Nat)
  | imageStatus (image nextOffset status : Nat)
  | alert (code severity detail stamp : Nat)
  | unknown
deriving DecidableEq, Repr

/-- The payload of a TRAIN flit or frame as received (Table 5.5). -/
structure TrainFlit where
  role : Nat := 1
  rxOk : Bool := true
  hold : Nat := 0
  tTx : Nat := 0
  tEcho : Nat := 0
deriving DecidableEq, Repr

/-! ### Sheet links (chapter 7) -/

/-- An upstream frame of a relay (Table 7.7): flags, bitmaps as numbers, currents in units of 4 mA, each domain's flags
and code, the temperatures of four legs in 1/16 °C, the lowest leg with a stage fault and its code, and the spares'
currents. -/
structure UpFrame where
  stale : Bool := false
  safeHeld : Bool := false
  calActive : Bool := false
  status : Nat := 3
  peak : Nat := 0
  currents : List Int := []
  volts : List Nat := []
  temps : List Int := []
  stageFault : Nat := 0
  faultLeg : Nat := 0xFF
  faultCode : Nat := 0
  spareI : List Int := []
deriving DecidableEq, Repr

/-- RELAY_IDENTITY (Table 7.9). -/
structure RelayIdentity where
  major : Nat := 1
  minor : Nat := 0
  vendor : Nat := 0
  device : Nat := 0
  relay : Nat := 0
  legs : Nat := 72
  domains : Nat := 16
  spares : Nat := 8
  serial : Nat := 0
  fwVersion : Nat := 0
  incarnation : Nat := 0
  scale : List Nat := []
  compat : Nat := 0
deriving DecidableEq, Repr

/-- The messages a relay sends (Table 7.9). -/
inductive RelayMsg where
  | identity (m : RelayIdentity)
  | configAck (kind status slot : Nat)
  | calResult (leg channel status : Nat) (offset gain : Int)
  | alert (code severity detail : Nat)
  | unknown
deriving DecidableEq, Repr

/-- A side-channel slice as received (Table 7.8). -/
structure Slice where
  seq : Nat := 0
  sack : Option Nat := none
  data : Bool := false
  first : Bool := false
  last : Bool := false
  nak : Bool := false
  bytes : List Nat := []
deriving DecidableEq, Repr

/-! ### Budget messages and fast sense (chapter 8) -/

/-- RACK_HELLO (Table 8.5). -/
structure RackHello where
  serial : Nat := 0
  rackId : Nat := 0
  prio : Nat := 128
  hops : Nat := 0
  members : Nat := 1
  locked : Bool := true
  stamp : Nat := 0
deriving DecidableEq, Repr

/-- BUDGET_REPORT (Table 8.5), with the tree address it came from. -/
structure BudgetReport where
  src : Nat := 0
  serial : Nat := 0
  rackId : Nat := 0
  level : Nat := 0
  flags : Nat := 0
  epoch : Nat := 0
  demand : Int := 0
  minGrant : Int := 0
  grant : Int := 0
  wsum : Nat := 0
deriving DecidableEq, Repr

/-- BUDGET_GRANT (Table 8.5). -/
structure BudgetGrant where
  serial : Nat := 0
  rackId : Nat := 0
  level : Nat := 0
  epoch : Nat := 0
  effective : Nat := 0
  grant : Int := 0
  parentLimit : Int := 0
  parentOther : Int := 0
  leader : Nat := 0
deriving DecidableEq, Repr

/-- A feed's fast-sense values (R346): mV and mA of the banks on Fore and Main. -/
structure FeedSample where
  feed : Fin 4
  foreMv : Nat := 0
  foreMa : Nat := 0
  mainMv : Nat := 0
  mainMa : Nat := 0
deriving DecidableEq, Repr

/-! ### Lockstep and phase plans (chapter 10) -/

/-- An entry of LOCK_UP or LOCK_COMMIT (Table 10.1). -/
structure LockEntry where
  group : Nat
  freq : Nat
  grid : Nat
  flags : Nat := 0
  members : Nat := 0
deriving DecidableEq, Repr

/-- LOCK_UP (Table 10.1); `short`: the reduction below it completed only partially. -/
structure LockUp where
  serial : Nat := 0
  round : Nat := 0
  entries : List LockEntry := []
  short : Bool := false
deriving DecidableEq, Repr

/-- LOCK_COMMIT (Table 10.1). -/
structure LockCommit where
  masthead : Nat := 0
  round : Nat := 0
  at_ : Nat := 0
  entries : List LockEntry := []
deriving DecidableEq, Repr

/-! ### Ratline (chapter 14) -/

/-- What an OP_DOWN carries besides its fields (Table 14.7). -/
inductive OpPayload where
  | none
  | packet (hdr : Header) (body : Body)
  | items (l : List SnapItem)
  | reset (kind mask deadline : Nat)
deriving DecidableEq, Repr

/-- OP_DOWN and OP_UP (Table 14.7); 0xFFFF_FFFF where no subtree is missing or no tray failed. -/
structure OpMsg where
  opId : Nat := 0
  kind : Nat := 0
  reduceOp : Nat := 0
  scope : Nat := 0x0FFFFFFF
  members : Nat := 0
  missing : Nat := 0
  firstMissing : Nat := 0xFFFFFFFF
  failed : Nat := 0
  firstFailed : Nat := 0xFFFFFFFF
  firstStatus : Nat := 0
  issuer : Nat := 0
  value : Int := 0
  at_ : Nat := 0
  payload : OpPayload := .none
deriving DecidableEq, Repr

/-- LINK_IDENTITY (Table 14.3). -/
structure LinkIdentity where
  major : Nat := 1
  minor : Nat := 0
  port : Nat := 0
  prio : Nat := 128
  serial : Nat := 0
  rackId : Nat := 0
  incarnation : Nat := 0
deriving DecidableEq, Repr

/-- A TREE_ADVERT as received (Table 14.4). -/
structure Advert where
  root : Nat := 0
  seq : Nat := 0
  taddr : Nat := 0x0FFFFFFF
  prio : Nat := 128
  depth : Nat := 0
  height : Nat := 0
  child : Bool := false
  timed : Bool := false
deriving DecidableEq, Repr

/-- The header of a Ratline message to route (Table 14.2), with its body's length and bytes. -/
structure RatHeader where
  kind : Nat := 0
  route : Nat := 0
  hops : Nat := 0
  src : Nat := 0
  dst : Nat := 0
  serial : Nat := 0
  body : List Nat := []
deriving DecidableEq, Repr

/-- A SNAP_DATA body (Table 14.9). -/
structure SnapData where
  opId : Nat := 0
  taddr : Nat := 0
  serial : Nat := 0
  rackId : Nat := 0
  unlocked : Bool := false
  timeState : Nat := 2
  result : List Nat := []
deriving DecidableEq, Repr

/-! ### What NOR holds (chapters 6, 7, 13, 17, 18) -/

/-- A sequence table (Table 6.3). -/
structure SeqTable where
  generation : Nat := 0
  entries : List SeqEntry := []
deriving DecidableEq, Repr

/-- One compensator coefficient set (R279, R280), signed Q2.29, with the largest on-time in 125 ps. -/
structure Coeffs where
  b : List Int := [0, 0, 0, 0]
  a : List Int := [0, 0, 0]
  balGain : Int := 0
  maxOn : Int := 0
deriving DecidableEq, Repr

/-- A manifest record (Table 13.9a), read by KIND: 1 HANDLER, 2 READ, 3 COMMAND, 4 FORECAST. `bits` is the byte at 1,
`source` the source or opcode, `first` and `last` the entry and BUDGET or the object range, `prop` the mode bits or
PROPERTY, `check` the checked offset, `lo` and `hi` the interval or the bounds of the checked word. -/
structure ManRec where
  kind : Nat
  bits : Nat := 0
  source : Nat := 0
  first : Nat := 0
  last : Nat := 0
  prop : Nat := 0
  check : Nat := 0xFFFF
  lo : Int := 0
  hi : Int := 0
deriving DecidableEq, Repr

/-- A metadata record of NOR (Table 17.5): its kind, the plate it names, and its argument. -/
structure MetaRec where
  seq : Nat
  kind : Nat
  plate : Nat
  arg : Nat
  digest : Nat := 0
deriving DecidableEq, Repr

/-- One accelerator of a tray description: its index, how many domains and how many sensors it has (R51, R191). -/
structure AccelDesc where
  accel : Nat
  domains : Nat
  sensors : Nat
deriving DecidableEq, Repr

/-- An autonomous table (Table 12.5): its input channels, and its points (m°C, rpm), rising. -/
structure FanTable where
  inputs : List Nat := []
  points : List (Int × Nat) := []
deriving DecidableEq, Repr

/-- A fan or pump channel of a tray description (R474–R488): pulses a revolution, the curve's points (µV, rpm, mA), group
and GROUP_RAISE in 1/1000, resonance bands, start speed, and autonomous table. The gains of a PI law whose form the
manual does not give are not held. -/
structure DriveDesc where
  chan : Nat
  ppr : Nat := 1
  curve : List (Nat × Nat × Nat) := []
  group : Nat := 0
  raise : Nat := 0
  bands : List (Nat × Nat) := []
  start : Nat := 0
  table : FanTable := {}
deriving DecidableEq, Repr

/-- A leak zone of a tray description (R506): accelerators, isolation valves and pumps, one bit each. -/
structure ZoneDesc where
  zone : Nat
  accels : Nat := 0
  valves : Nat := 0
  pumps : Nat := 0
deriving DecidableEq, Repr

/-- A pressure input of a tray description (R491): whether it is a supply input, and the range 0.5–4.5 V stands for. -/
structure PressDesc where
  input : Nat
  supply : Bool := true
  lo : Int := 0
  hi : Int := 0
deriving DecidableEq, Repr

/-- A two-wire device of a tray description (R607, R622, R631, R632): where it is, what its role requires on departure (a code
of EV_PARTNER_DEPARTED), its PEC capability and protection, its reset line with RESET_PULSE in µs, and the Direct
coefficients m, b and R of each command code. -/
structure BusDevice where
  port : Nat
  addr : Nat
  far : Bool := false
  action : Nat := 0
  pec : Bool := false
  guarded : Bool := false
  reset : Option Nat := none
  pulse : Nat := 0
  coeffs : List (Nat × Int × Int × Int) := []
deriving DecidableEq, Repr

/-- A tray description (R774). `declared` lists the declared objects other than accelerators, domains, legs and
relays; `legs` the legs with the domain each belongs to (R33); `props` and `vars` the values it gives properties
and hidden registers; `coeffs` the coefficient set k of domain d, at 4·d + k; `ceilings` the authority of key slots 4 and 5
(R548); `kFactors` the pulses a litre of each flow meter; `chanTables` the 17 points (code, m°C) of a channel; `isoOpen` the
isolation valves open when de-energised; the coolant channels of supply, return and branch outlets; `operators` the OPERATORs
whose keys it holds (R683); `managers` the relays with the port and address of their management devices (R704). -/
structure TrayDesc where
  generation : Nat := 0
  accels : List AccelDesc := []
  declared : List ObjId := []
  legs : List (Nat × Nat) := []
  feeds : Nat := 0
  props : List (P × Nat × Int) := []
  vars : List (V × Nat × Int) := []
  tables : List (Nat × SeqTable) := []
  coeffs : List (Nat × Coeffs) := []
  ceilings : List (Nat × ManRec) := []
  autoStart : Bool := false
  drives : List DriveDesc := []
  zones : List ZoneDesc := []
  press : List PressDesc := []
  kFactors : List (Nat × Nat) := []
  chanTables : List (Nat × List (Nat × Int)) := []
  isoOpen : List Nat := []
  supplyChan : Option Nat := none
  returnChan : Option Nat := none
  outlets : List (Nat × Nat) := []
  outletSetpoint : Int := 0
  operators : List Nat := []
  devices : List BusDevice := []
  managers : List (Nat × Nat × Nat) := []
deriving DecidableEq, Repr

/-- A requirement of a compatibility descriptor (Table 18.3). -/
structure CompatReq where
  kind : Nat
  device : Nat
  min : Nat
  max : Nat
deriving DecidableEq, Repr

/-- A compatibility descriptor (Table 18.3) with its COMPAT_ID. -/
structure CompatDesc where
  id : Nat
  kind : Nat
  vendor : Nat := 0
  device : Nat := 0
  version : Nat := 0
  reqs : List CompatReq := []
deriving DecidableEq, Repr

/-- A plate as Fore's ROM reads it (R668, Table 17.3): D, the header's fields, its controller descriptor, whether the
header's fields lie in range and its sections apart, and whether its signature verifies with the key of its slot. -/
structure Plate where
  digest : Nat
  version : Nat := 0
  svn : Nat := 1
  minSvn : Nat := 0
  slot : Nat := 0
  compat : Nat := 0
  len : Nat := 0
  desc : Option CompatDesc := none
  header : Bool := true
  signed : Bool := true
deriving DecidableEq, Repr

/-- A copy of the tray description in NOR (R712, R773): its leading GENERATION, its signing slot, whether the signature
verifies with that slot's key, and its contents. -/
structure TdCopy where
  generation : Nat
  slot : Nat := 0
  signed : Bool := true
  digest : Nat := 0
  desc : TrayDesc := {}
deriving DecidableEq, Repr

/-- A first-fault record (Table 6.7). -/
structure FirstFault where
  kind : Nat
  incident : Nat
  seq : Nat
  failTime : Ns
  confirmTime : Ns
  csn : Nat
  rail : Nat
  cause : Nat
  scope : Nat
  state : Nat
  powerState : Nat
  code : Nat
  seqTime : Nat
  coincident : Nat
  table : Nat
  timeState : Nat
  generation : Nat
deriving DecidableEq, Repr

/-- A copy on one NOR die, and whether its check passes (R23). -/
structure Copy (α : Type) where
  val : α
  good : Bool := true
deriving DecidableEq, Repr

/-- What one NOR die holds (R21, Table 1.2): the two plates, the two copies of the tray description, the records of the image and key
metadata ring, and those of the first-fault ring, each ring with its oldest record first. -/
structure NorDie where
  plates : List (Fin 2 × Copy Plate) := []
  copies : List (Fin 2 × Copy TdCopy) := []
  records : List (Copy MetaRec) := []
  faults : List (Copy FirstFault) := []
deriving DecidableEq, Repr

/-- The two NOR dies; of a part put on the board, what they were programmed with while it had no power. -/
structure Nor where
  die0 : NorDie := {}
  die1 : NorDie := {}
deriving DecidableEq, Repr

/-- The straps (R760), and whether JTAG selects a debug instruction before the locks (R671). -/
structure Straps where
  testMode : Bool := false
  smbAddr : Fin 8 := 0
  debug : Bool := false
deriving DecidableEq, Repr

/-- What Ndogiek fused at test (Table 17.1), and the member that makes (Table 0.1). -/
structure Fuses where
  member : Member := .kt880
  serial : Nat := 1
  fieldDead : Fin 8 := 0
  dualSign : Bool := false
deriving DecidableEq, Repr

/-- The privileged signals of a tile (R81). -/
inductive PrivSignal where
  | furl (a : Fin 8) | reef (a : Fin 8) | thermalFurl | railTrip (k : Fin 64) | feedTrip (f : Fin 4) | legTrip (l : Fin 1152)
  | tileReset | islandReset (i : Fin 10)
deriving DecidableEq, Repr

/-- A crossing (Table 2.6): the tile that watches it, its kind (0 island in, 1 island out, 2 stitch to the next tile, 3 to the
previous one), and its instance. -/
structure Crossing where
  tile : Fin 3
  kind : Fin 4
  inst : Fin 256
deriving DecidableEq, Repr

/-- The plaintext of an Ethernet DATA record (R684, R685): empty, a packet that fails its CRC, or a Gantline packet. -/
inductive EthPlain where
  | empty
  | crcError
  | packet (hdr : Header) (body : Body)
deriving DecidableEq, Repr

/-- How a transaction ends (R618): with what its read segments returned (for BLOCK the bytes after the count), or at a
segment. -/
inductive TxnEnd where
  | done (reads : List (List Nat))
  | addrNak (seg : Nat)
  | dataNak (seg : Nat)
  | pec (seg : Nat)
  | arbLost (seg : Nat)
deriving DecidableEq, Repr

/-- What an MCTP message holds (Table 3.21). -/
inductive MctpBody where
  | request (type vendor kind : Nat) (packet : Fetched)
  | other
deriving DecidableEq, Repr

/-- The transaction at a target port that a START or STOP cuts (R621): an MCTP packet, a window write with the bytes
acknowledged so far, or a window read with the bytes sent; the pointer where it was set. -/
inductive CutTxn where
  | mctp
  | write (ptr : Option (Fin 65536)) (data : List Nat)
  | read (ptr : Option (Fin 65536)) (n : Nat)
deriving DecidableEq, Repr

/-- A word of a stack as it is read (R637): its die and row, its address, and the 80 bits of Table 16.1. -/
structure DramWord where
  die : Fin 16
  row : Nat
  addr : Nat
  bits : Nat
deriving DecidableEq, Repr

/-- A word of a journal entry that a tile finds uncorrectable (R157): the tile, whether a good copy of the entry is left, and the word's
address and bits. -/
structure BadEntry where
  tile : Fin 3
  copy : Bool
  addr : Nat
  bits : Nat
deriving DecidableEq, Repr

/-- A tile that has not joined in time, and how far it got: 0 booting, 1 loading the checkpoint and the journal, 2 acknowledging (R179). -/
structure RejoinLapse where
  tile : Fin 3
  step : Fin 3
deriving DecidableEq, Repr

/-- A Sheet port that misses its bound, or that finds no signal (R313). -/
structure SheetLapse where
  port : Fin 32
  noSignal : Bool
deriving DecidableEq, Repr

/-- A word that is read and may be uncorrectable (R638): in a tile's SRAM by region of Table 16.2, with its address and 80 bits
and the forecast slot or engine whose image it is part of; or in DRAM by region of Table 16.3, with whether it lies in
optimiser state, and the snapshot buffer and record it is part of. -/
inductive BadWord where
  | sram (tile : Fin 3) (region : Fin 6) (addr bits : Nat) (slot : Fin 64) (engine : Fin 48)
  | dram (stack : Fin 4) (word : DramWord) (region : Fin 5) (optimiser : Bool) (snap : Option (Nat × Nat))
deriving DecidableEq, Repr

end Sys2Proof
end

