-- ==== Sys2Proof/Syntax.lean ====
section
/-! DEFINITION. The commands of the block: one constructor for each row of the opcode table. `t` is the instant, in ns of common
time, at which a command happens; a request of the Gantline protocol arrives as an `Arrival`, which holds its instant. -/

namespace Sys2Proof

/-- A command sent to the block. -/
inductive Instr where
  /-- PG_STBY rises, the straps are latched and Fore cold boots: the ROM chooses a plate, or the device enters PROOF_RECOVERY when no plate verifies (R38). -/
  | pgStbyRise (straps : Straps) (fuses : Option Fuses) (nor : Option Nor)
  /-- PG_STBY falls: the controller admits no further request, finishes first-fault and log writes within 8 ms, then every tile is reset (R40). -/
  | pgStbyFall (t : Ns) (flushed : Nat)
  /-- Fore becomes ready and STANDBY is entered: Gantline is served on BUS 32 and Ethernet port 0, and fans and pumps start from their start values (R45). -/
  | foreReady (t : Ns)
  /-- A write of POWER_STATE is checked against the present state and the transitions in progress, then refused, attached, cancelled or started (R37). -/
  | writePowerState (a : Arrival) (v : Int)
  /-- Once flow is proven and a run request or auto-start is pending, RUNNING is entered and FEED_EN[3:0] is asserted (R45). -/
  | enterRunning (t : Ns)
  /-- FEEDS_REQUIRED feeds have held at or above MAIN_GOOD_V for 1 ms: main power is good, EV_MAIN_POWER is raised and VDDM_EN and VDDZ_EN are asserted (R258). -/
  | mainPowerGood (t : Ns) (feeds : Fin 5) (lowest : Int)
  /-- Fewer than FEEDS_REQUIRED feeds stay above MAIN_LOST_V for MAIN_LOST_TIME: scopes that are on enter OFF_SEQ with cause 6 and the device heads for STANDBY (R259). -/
  | mainPowerLost (t : Ns) (feeds : Fin 5) (lowest : Int)
  /-- VDDM_PG or VDDZ_PG asserts, which lets Main or Mizzen boot (R750). -/
  | supplyPowerGood (t : Ns) (group : Fin 2)
  /-- A PG input has not asserted 100 ms after its enable, so its tile is fenced with cause 1 (R750). -/
  | supplyPgTimeout (t : Ns) (group : Fin 2)
  /-- A PG input falls while its enable is asserted, which counts as loss of that tile's core supply (R750). -/
  | supplyPgFall (t : Ns) (group : Fin 2)
  /-- Main or Mizzen has verified the image streamed from Fore and joins the journal; once every tile is ready or fenced, the sequence table starts at slot 0 (R674). -/
  | tileReady (t : Ns) (group : Fin 2)
  /-- A tile that is not ready within 1.5 s of its supplies becoming good is fenced with cause 7, and bring-up continues degraded (R48). -/
  | tileReadyTimeout (t : Ns) (group : Fin 2)
  /-- The core voltage stays below 0.680 V for 1 µs: the tile is fenced with cause 1, or the device is reset when that tile is the only one running (R754). -/
  | coreUndervoltage (t : Ns) (tile : Fin 3)
  /-- The core voltage has been back in range for 1 ms after a device reset for undervoltage, so the device cold boots (R754). -/
  | coreUndervoltageClear (t : Ns)
  /-- RUN_ON ends during entry to DEEP_SLEEP: channels are stopped, valves de-energised, the wake record and digest written, and DEEP_SLEEP entered (R489). -/
  | runOnExpiry (t : Ns)
  /-- WAKE_N is held low, an address matches on BUS 32, or a leak zone is wet in DEEP_SLEEP: the device takes the fast path to STANDBY, or aborts a DEEP_SLEEP entry still in progress (R38). -/
  | wakeTrigger (t : Ns) (zone : Option (Fin 8)) (intact : Bool)
  /-- A NOR page write completes on both dies, or a die fails and EV_NOR_DIE_LOST is raised (R22). -/
  | norWriteComplete (t : Ns) (lost : Option (Fin 2 × Fin 3 × Nat)) (good : Bool)
  /-- A NAND program or erase completes; a failure retires the block and repeats the write, or declares the NAND lost (R739). -/
  | nandWriteComplete (t : Ns) (retired : Option Nat) (lost : Bool) (usable : Nat)
  /-- At the end of each 1 µs window the tile measures its window pace and checks it against PACE_ALARM and the slow corner (R55). -/
  | paceWindow (t : Ns) (tile : Fin 3) (a b c d : Nat)
  /-- A write of PACE_MIN restarts the lowest-pace record from the current window (R55). -/
  | writePaceMin (a : Arrival) (v : Int)
  /-- REFCLK misses edges for 400 ns, or its frequency is off by more than 200 ppm: Fore moves its loop to the backup oscillator (R67). -/
  | refclkLost (t : Ns) (cause : Fin 2)
  /-- REFCLK has stayed within 100 ppm for 100 ms, so Fore moves its loop back to it (R67). -/
  | refclkRestored (t : Ns) (offset : Int)
  /-- Main or Mizzen loses the forwarded reference and moves its loop to its own backup oscillator (R69). -/
  | forwardedRefLost (t : Ns) (group : Fin 2)
  /-- Every 1 ms a locked tile measures its backup oscillator's offset and updates its compensation table (R66). -/
  | oscOffsetMeasure (t : Ns) (tile : Fin 3) (ppb : Int)
  /-- Every 1 ms the oscillator and the references are corrected from the compensation table at the present temperature (R466). -/
  | compensationUpdate (t : Ns)
  /-- A write of COMMON_TIME sets up a step or a slew of the counter, or is refused when another time source is in use (R72). -/
  | writeCommonTime (a : Arrival) (v : Int)
  /-- A rising edge on PPS_IN aligns the sub-second part of common time at a masthead, or is rejected as being too far from a whole second (R74). -/
  | ppsEdge (t : Ns)
  /-- TIME_ERROR exceeds HOLDOVER_LIMIT, so common time moves from HOLDOVER to SET (R76). -/
  | holdoverLimitReached (t : Ns)
  /-- The guard island misses four edges of its loop clock and switches to its ring oscillator (R84). -/
  | guardClockFallback (t : Ns) (tile : Fin 3)
  /-- The loop clock has run for 1 ms without a missing edge, so the guard island switches back to it (R84). -/
  | guardClockRestored (t : Ns) (tile : Fin 3)
  /-- An island clock gives no edge within four periods: the island is held in reset and its crossings are flushed (R85). -/
  | islandClockStopped (t : Ns) (tile : Fin 3) (island : Fin 10)
  /-- The island's clock has run for 100 µs without a missing edge, so the island leaves reset (R85). -/
  | islandClockResumed (t : Ns) (tile : Fin 3) (island : Fin 10)
  /-- A crossing is not acknowledged within CROSSING_TIMEOUT or STITCH_TIMEOUT: it enters DRAINING and is reported (R86). -/
  | crossingTimeout (t : Ns) (c : Crossing) (since : Ns) (reset : Bool)
  /-- The reset level of the far side of a crossing arrives and the crossing enters DRAINING (R89). -/
  | crossingFarReset (t : Ns) (c : Crossing)
  /-- Every word in the draining crossing has been delivered or returned: the crossing enters FLUSHED and EV_CROSSING_FLUSHED is raised (R90). -/
  | crossingDrained (t : Ns) (c : Crossing) (discarded : Nat)
  /-- Both sides of the crossing are idle and out of reset: initialisation tokens are exchanged and the crossing returns to ACTIVE (R89). -/
  | crossingRearm (t : Ns) (c : Crossing)
  /-- A privileged level from its source passes the guard island's synchroniser and is acted on (R82). -/
  | privilegedSignal (t : Ns) (tile : Fin 3) (x : PrivSignal) (on : Bool)
  /-- A received packet fails its CRC: nothing is executed, it is handled per transport and counted in CRC_ERRORS (R101). -/
  | gantlineCrcError (t : Ns) (b : Binding) (tag : Nat)
  /-- The arbiter dispatches SAFETY requests first, aged requests next, then the rest by weighted deficit round robin (R127). -/
  | dispatchRound (t : Ns)
  /-- A command that cannot obtain a resource within 10 ms releases what it holds and returns ST_BUSY (R129). -/
  | resourceWaitTimeout (t : Ns) (k : Nat)
  /-- A request received over MCTP has no final outcome 80 ms after dispatch, so the controller replies ST_ACCEPTED and completes it by event later (R117). -/
  | mctpInterimTimeout (t : Ns) (b : Binding) (tag : Nat)
  /-- No request or KEEPALIVE has arrived on any binding of a session for SESSION_TIMEOUT, so the session ends (R121). -/
  | sessionTimeout (t : Ns) (id : Nat)
  /-- A watch's conditions hold, so EV_PROPERTY_CHANGED is raised (R140). -/
  | watchReport (t : Ns) (session id : Nat)
  /-- The controller sends an unsolicited EVENT_NOTICE to an Ethernet binding, at most 200 µs after the first record it carries was posted (R143). -/
  | eventNotice (t : Ns) (session : Nat)
  /-- A write of SQ_TAIL announces new submission entries to the endpoint (R113). -/
  | sqDoorbell (t : Ns) (ep : Fin 2) (q : Fin 64) (tail : Nat)
  /-- The endpoint fetches submission entries while room allows; malformed entries complete with NO_REPLY and host memory errors stop the queue pair (R113). -/
  | sqFetch (t : Ns) (ep : Fin 2) (q : Fin 64) (e : SqEntry)
  /-- A write of CQ_HEAD frees completion ring slots (R111). -/
  | cqDoorbell (t : Ns) (ep : Fin 2) (q : Fin 64) (head : Nat)
  /-- A write of EVQ_HEAD frees event ring space; backlogged safety records take that space first (R143). -/
  | evqDoorbell (t : Ns) (ep : Fin 2) (head : Nat)
  /-- Setting QP_CONFIG.ENABLE starts fetching from the queue pair, or sets ERROR when the configuration is invalid (R113). -/
  | qpEnable (t : Ns) (ep : Fin 2) (q : Fin 64) (vector sizeM1 : Nat)
  /-- Clearing QP_CONFIG.ENABLE stops fetching, discards requests not yet dispatched and drains the dispatched ones (R114). -/
  | qpDisable (t : Ns) (ep : Fin 2) (q : Fin 64)
  /-- GL_CONTROL.RESET_QUEUES disables every queue pair and the event ring of the endpoint while keeping its session bound (R114). -/
  | resetQueues (t : Ns) (ep : Fin 2)
  /-- GL_CONTROL.EVQ_ENABLE switches event delivery for the binding to the event ring (R143). -/
  | evqEnable (t : Ns) (ep : Fin 2) (on : Bool)
  /-- A write of a BAR0 register that has no row of its own sets its RW fields (R17). -/
  | registerWrite (t : Ns) (ep : Fin 2) (r : BarReg) (v : Nat)
  /-- Returns one property value of an object (R137). -/
  | getProp (a : Arrival)
  /-- Writes one property that has no row of its own, after the type, range and step checks (R137). -/
  | setProp (a : Arrival) (len : Nat) (value : Int)
  /-- Latches up to 256 items at one latch instant and returns them (R139). -/
  | getSnapshot (a : Arrival) (items : List SnapItem)
  /-- Creates, changes or removes a watch on a numeric property (R140). -/
  | watch (a : Arrival) (id minUs : Nat) (delta : Int) (maxUs : Nat)
  /-- Creates a session, binds it to the binding, and returns the features and the capability block (R223). -/
  | negotiate (a : Arrival) (major minor offer : Nat)
  /-- Binds the binding to an existing session after checking its ID and token (R120). -/
  | hello (a : Arrival) (id token : Nat)
  /-- Keeps the session alive and feeds the host-silence timer (R121). -/
  | keepalive (a : Arrival)
  /-- Reports the fate of an earlier request of the same session (R122). -/
  | recall (a : Arrival) (port queue tag : Nat)
  /-- Ends the session and raises EV_SESSION_CLOSED (R121). -/
  | close (a : Arrival)
  /-- Replaces the session's event mask, adds to it or removes from it, clearing gated events that were not negotiated (R141). -/
  | subscribe (a : Arrival) (mask : Nat)
  /-- Releases acknowledged records and returns the oldest unreleased ones from the session's buffer (R143). -/
  | readEvents (a : Arrival) (ack count : Nat)
  /-- A target port receives an MCTP packet as an SMBus Block Write and checks its PEC and byte count before assembling it into a message (R624). -/
  | mctpPacket (t : Ns) (k : Fin 4) (good som eom : Bool) (seq : Fin 4) (tag src len : Nat) (x : MctpBody)
  /-- The MCTP control command Set Endpoint ID (R116). -/
  | mctpSetEndpointId (t : Ns) (m : Fin 4) (op : Fin 4) (eid : Nat)
  /-- The MCTP control command Get Endpoint ID (R116). -/
  | mctpGetEndpointId (t : Ns) (m : Fin 4)
  /-- The MCTP control command Get MCTP Version Support (R116). -/
  | mctpGetVersionSupport (t : Ns) (m : Fin 4) (type : Nat)
  /-- The MCTP control command Get Message Type Support (R116). -/
  | mctpGetMessageTypeSupport (t : Ns) (m : Fin 4)
  /-- The MCTP control command Get Vendor Defined Message Support (R116). -/
  | mctpGetVendorMessageSupport (t : Ns) (m : Fin 4) (selector : Nat)
  /-- A target port retries, 1 ms later, an MCTP packet whose address was NACKed, up to three times (R624). -/
  | mctpSendRetry (t : Ns) (k : Fin 2) (acked : Bool)
  /-- An INIT record opens a handshake, and the controller answers with a signed RESPONSE (R683). -/
  | ethInit (t : Ns) (port : Fin 2) (udp : Nat) (good : Bool) (operator : Nat)
  /-- A valid FINISH completes the handshake and derives the session keys; a failed signature raises EV_ETH_AUTH_FAIL (R684). -/
  | ethFinish (t : Ns) (port : Fin 2) (session : Nat) (good valid : Bool)
  /-- A DATA record is checked for replay and authenticated, then its Gantline packet is passed on; an empty plaintext closes the session (R685). -/
  | ethData (t : Ns) (port : Fin 2) (session seq : Nat) (good valid : Bool) (x : EthPlain)
  /-- A handshake that has received no FINISH within 1 s is dropped (R685). -/
  | ethHandshakeExpiry (t : Ns) (port : Fin 2) (session : Nat)
  /-- An Ethernet session reaches 24 h or 2^32 records and ends (R685). -/
  | ethSessionExpiry (t : Ns) (port : Fin 2) (session : Nat)
  /-- Every 5 µs each tile sends a heartbeat to the other tiles (R159). -/
  | heartbeatSend (t : Ns) (tile : Fin 3)
  /-- A heartbeat from another tile restarts the timeout for that tile (R159). -/
  | heartbeatReceive (t : Ns) (r x : Fin 3)
  /-- No heartbeat has arrived from a tile for HEARTBEAT_TIMEOUT, so the tile requests that tile's fence (R159). -/
  | heartbeatTimeout (t : Ns) (r x : Fin 3)
  /-- A fence request that no other tile has concurred with within 100 µs expires, and EV_STITCH_SUSPECT is raised (R160). -/
  | fenceRequestExpiry (t : Ns) (r x : Fin 3)
  /-- At the cut instant, Mizzen drives RAIL_EN low in reverse sequence order and then drops FEED_EN (R171). -/
  | loneMizzenCut (t : Ns)
  /-- A survivor's claim with term + 1 is received; the winner brings the others up to date and commits a MEMBERSHIP entry (R165). -/
  | leaderClaim (t : Ns) (tile : Fin 3) (term : Nat)
  /-- A follower receives a journal entry, writes it and acknowledges its CSN in order (R154). -/
  | journalEntry (t : Ns) (tile : Fin 3) (csn : Nat)
  /-- The leader receives an acknowledgement and commits the entries it confirms (R154). -/
  | journalAck (t : Ns) (tile : Fin 3) (csn : Nat)
  /-- No follower has acknowledged within 1 ms, so the leader stops dispatch and hands leadership over (R155). -/
  | journalStall (t : Ns)
  /-- A group of entries is held in the NAND solo journal, which commits them in SOLO or SINGLE (R156). -/
  | soloJournalWrite (t : Ns)
  /-- An uncorrectable journal word is fetched again from another copy, or EV_JOURNAL_LOST stops dispatch (R157). -/
  | journalUncorrectable (t : Ns) (csn : Nat) (x : BadEntry)
  /-- Every 4,096 entries or 10 ms the leader takes a checkpoint, and each tile checks the consistency of its replica (R153). -/
  | checkpoint (t : Ns) (bad : List (Fin 3))
  /-- A voter's counted inputs change and, once stable for 20 ns, the pad takes the voted level (R162). -/
  | voterInputChange (t : Ns) (o : Fin 98) (tile : Fin 3) (level : Fin 8)
  /-- A counted input has differed from the voter output for VOTE_WINDOW; a repeat offender in TRIO is fenced with cause 4 (R163). -/
  | voteDisagree (t : Ns) (o : Fin 98) (tile : Fin 3)
  /-- No word has come from the primary for four slots, so the mirror takes the domain over (R176). -/
  | mirrorTakeover (t : Ns) (d : Fin 256)
  /-- One accelerator's domains return to their primary tile at an update boundary, one per 1 ms (R178). -/
  | plannedMove (t : Ns) (back : List (Fin 8))
  /-- A write of LEADER requests a planned handover, which runs as a long-running command (R151). -/
  | writeLeader (a : Arrival) (v : Int)
  /-- A write of a tile's ADMIN_STATE fences the tile, starts its rejoin, or is kept for bring-up (R180). -/
  | writeAdminState (a : Arrival) (v : Int)
  /-- A rejoining tile has loaded the checkpoint and caught up; a MEMBERSHIP entry adds it and EV_TILE_REJOINED is raised (R179). -/
  | rejoinComplete (t : Ns) (tile : Fin 3)
  /-- A tile that has not joined within 2 s of its reset being lifted is fenced with cause 9 (R179). -/
  | rejoinTimeout (t : Ns) (x : RejoinLapse)
  /-- FORE_LOSS_GRACE ends with Fore still out of service; with FORE_LOSS_ACTION 1 the tray furls (R173). -/
  | foreLossGraceExpiry (t : Ns)
  /-- An accelerator IDENTITY is checked and answered with IDENTITY_ACK, which is an arrival, a port join, a rejection or a restart (R191). -/
  | identity (t : Ns) (port : Fin 16) (m : Identity)
  /-- A new reef table is accepted or refused (R215). -/
  | reefTable (t : Ns) (a : Fin 8) (generation latency : Nat) (levels : List (Nat × Int))
  /-- The latest hint is stored for the forecast array and for phase plans (R217). -/
  | hint (t : Ns) (a : Fin 8) (h : Hint)
  /-- Accelerator telemetry updates its sensors, frequency and state (R214). -/
  | telemetry (t : Ns) (a : Fin 8) (m : Telemetry)
  /-- A quiesce or furl state is received; QSTATE 4 cuts a running furl (R218). -/
  | qstate (t : Ns) (a : Fin 8) (qid state : Nat)
  /-- An accelerator reports the status of an image transfer to an update step (R705). -/
  | imageStatus (t : Ns) (a : Fin 8) (image next status : Nat)
  /-- An accelerator ALERT is acknowledged and holds a reef level, furls the accelerator or clears a hold (R222). -/
  | alert (t : Ns) (a : Fin 8) (num code severity detail stamp : Nat)
  /-- A frequency acknowledgement is received and judged for lagging (R418). -/
  | freqAck (t : Ns) (a : Fin 8) (round freq outcome : Nat) (lateness : Int)
  /-- ACC_ALERT_N goes low; with no port ACTIVE, the no-link reef and furl timers start (R222). -/
  | alertPinAssert (t : Ns) (a : Fin 8)
  /-- The alert pin has stayed low for 10 µs with no port ACTIVE, so REEF is driven to 7 (R222). -/
  | alertNolinkReef (t : Ns) (a : Fin 8)
  /-- The alert pin has stayed low for ALERT_NOLINK_DELAY with no port ACTIVE, so FURL_N is asserted (R222). -/
  | alertNolinkFurl (t : Ns) (a : Fin 8)
  /-- 20 µs after a port becomes ACTIVE, the no-link reef ends and the alert exchange takes over (R222). -/
  | alertLinkHandover (t : Ns) (a : Fin 8)
  /-- No port of the accelerator has been ACTIVE for ACCEL_LOSS_TIME, so the accelerator departs (R194). -/
  | accelLossTimeout (t : Ns) (a : Fin 8)
  /-- No TELEMETRY has arrived for 1 ms with a port ACTIVE, so the accelerator departs with cause 1 (R194). -/
  | telemetrySilence (t : Ns) (a : Fin 8)
  /-- SILENT_FURL_DELAY has passed after the departure, so the furl of the silent accelerator starts (R195). -/
  | silentFurlDelayExpiry (t : Ns) (a : Fin 8)
  /-- The accelerator did not reach QSTATE 2 within TIMEOUT, so RESUME is sent and the command returns ST_BUSY (R218). -/
  | quiesceTimeout (t : Ns) (a : Fin 8)
  /-- A Shroud or Ratline receiver detects signal and the port enters LOCK (R200). -/
  | signalDetect (t : Ns) (port : FlitPort)
  /-- A TRAIN flit is received, which updates the one-way delay and advances training (R201). -/
  | trainFlit (t : Ns) (port : FlitPort) (bytes : List Nat)
  /-- A DATA flit is accepted in order, or discarded and NAKed (R202): its FFLAGS, SEQ and ACK, its bytes 0x06 to 0x3B, and its CRC. -/
  | dataFlit (t : Ns) (port : FlitPort) (flags seq ack : Nat) (body : List Nat) (crc : Nat)
  /-- A LINK flit carries ACK and credits; a NAK triggers a replay, and too many replays start RETRAIN (R204): its FFLAGS, its bytes 0x02 to 0x3B, and its CRC. -/
  | linkFlit (t : Ns) (port : FlitPort) (flags : Nat) (body : List Nat) (crc : Nat)
  /-- ACK has not advanced for 10 µs with flits unacknowledged, so they are replayed (R204). -/
  | replayTimeout (t : Ns) (port : FlitPort)
  /-- A port misses a training, IDENT, RETRAIN or signal bound and goes to DOWN (R200). -/
  | portStateTimeout (t : Ns) (port : FlitPort) (noSignal : Bool)
  /-- Held messages are delivered after 20 µs and EV_SHROUD_GAP is raised (R209). -/
  | shroudGapTimeout (t : Ns) (a : Fin 8) (stream : Fin 2)
  /-- Every 1 ms a TIME flit is sent on each ACTIVE Shroud port (R211). -/
  | timeFlitSend (t : Ns)
  /-- Every 1 ms the BUDGET message is resent with RESENT set (R213). -/
  | budgetResend (t : Ns)
  /-- At each whole microsecond the tray rails are sampled and their conditions, good, luffing and discharge are evaluated (R233). -/
  | trayRailSample (t : Ns) (samples : List RailSample)
  /-- The leader finds the preconditions of a waiting run met and commits its start, fixing S (R244). -/
  | seqRunStart (t : Ns) (scope : Fin 9)
  /-- τ reaches a rail's slot and the rail is enabled, starting a domain ramp or driving RAIL_EN (R245). -/
  | railEnableSlot (t : Ns) (rail : Fin 320)
  /-- Good is not confirmed within GOOD_DEADLINE, which is a fault (R246). -/
  | goodDeadlineExpiry (t : Ns) (rail : Fin 320)
  /-- σ reaches a rail's OFF_SLOT and the rail is disabled; the last one moves the scope to DISCHARGING (R248). -/
  | railDisableSlot (t : Ns) (rail : Fin 320)
  /-- A HOLD_OFF rail is not discharged within OFF_DEADLINE: EV_RAIL_OFF_SLOW is raised and σ moves on (R248). -/
  | offDeadlineExpiry (t : Ns) (rail : Fin 320)
  /-- A scope in WAIT_READY reaches START_WAIT and returns to OFF with ST_SEQ_NOT_READY (R252). -/
  | startWaitExpiry (t : Ns) (scope : Fin 9)
  /-- Every rail has been discharged for 1 ms and MIN_OFF_TIME has passed, so the scope goes to OFF or WAIT_READY (R252). -/
  | scopeDischarged (t : Ns) (scope : Fin 9)
  /-- DISCHARGE_TIMEOUT passes in DISCHARGING, so the scope enters DISCHARGE_FAILED (R252). -/
  | dischargeTimeout (t : Ns) (scope : Fin 9)
  /-- 100 µs after an incident's first confirmation, the first-fault record is formed and written (R265). -/
  | firstFaultForm (t : Ns)
  /-- After a main-power off-sequence, the restart conditions hold and the controller restarts, or raises EV_SEQ_START_BLOCKED (R260). -/
  | autoRestart (t : Ns)
  /-- Starts a joint run or one scope, or places a pending start (R253). -/
  | startSequence (a : Arrival)
  /-- Stops scopes in one off-sequence (R257). -/
  | stopSequence (a : Arrival)
  /-- Releases a hold-off, enabling the rail when its scope is UP (R264). -/
  | enableRail (a : Arrival)
  /-- Disables a rail and holds it off (R272). -/
  | disableRail (a : Arrival)
  /-- Replaces one sequence table after validation (R242). -/
  | loadSequence (a : Arrival) (table generation : Nat) (entries : List SeqEntry)
  /-- Returns first-fault records, newest first (R271). -/
  | readFirstFault (a : Arrival) (start count : Nat)
  /-- Writes a KIND 2 record, which clears the latch (R268). -/
  | clearFirstFault (a : Arrival)
  /-- A write of a rail's THRESHOLDS is validated, then sent to the relay for a domain rail or applied at the next sample for a tray rail (R235). -/
  | writeThresholds (a : Arrival) (v : Int)
  /-- At each slot instant the downstream frames are launched with the new words; a missing word is repeated and counted as an overrun (R302). -/
  | slotInstant (t : Ns) (slot : Nat) (missing : List (Fin 256))
  /-- A relay's upstream frame is taken, or the previous samples are repeated; the domain updates and the leg and domain protection follow (R307): each port's frame before its CRC, and the CRC; no bytes where none came. -/
  | sheetUpstreamFrame (t : Ns) (r : Fin 16) (data0 : List Nat) (crc0 : Nat) (data1 : List Nat) (crc1 : Nat)
  /-- 50 µs after DOMAIN_OC, a current still above it trips the domain with cause 2 (R295). -/
  | domainOcTripCheck (t : Ns) (d : Fin 256)
  /-- Every 2 µs each domain's leg count is re-planned, waking legs or shedding one (R287). -/
  | legReplan (t : Ns)
  /-- LEG_WAKE has passed for a waking leg, which becomes ACTIVE at the next period start (R286). -/
  | legWakeDone (t : Ns) (l : Fin 1152)
  /-- A draining leg falls below 1 A or reaches 8 slots and enters SLEEP (R286). -/
  | legDrainDone (t : Ns) (l : Fin 1152)
  /-- A write of a leg's ADMIN disables or restores the leg, or returns ST_WOULD_DISTURB (R297). -/
  | writeLegAdmin (a : Arrival) (v : Int)
  /-- A write of SETPOINT starts a slew, or changes the end value of the enable ramp (R281). -/
  | writeSetpoint (a : Arrival) (v : Int)
  /-- Every CAL_INTERVAL one leg of each relay starts its comparison with a spare (R298). -/
  | calRotation (t : Ns)
  /-- After 64 slots the channels are compared, and the leg is moved to the spare or checked against a second spare (R299). -/
  | calCompareDone (t : Ns) (r : Fin 16)
  /-- A relay returns a calibrated channel as a spare (R298). -/
  | calResult (t : Ns) (r : Fin 16) (leg channel status : Nat) (offset gain : Int)
  /-- A Sheet TRAIN frame is received and advances port training (R313). -/
  | sheetTrainFrame (t : Ns) (p : Fin 32) (bytes : List Nat)
  /-- A side-channel slice is accepted from the first port that delivers it and reassembled into messages (R309). -/
  | sideSlice (t : Ns) (p : Fin 32) (bytes : List Nat)
  /-- Side-channel slices have gone unacknowledged for 20 µs and are replayed (R309). -/
  | sliceReplayTimeout (t : Ns) (r : Fin 16)
  /-- A relay's identity is checked, acknowledged and followed by CONFIGURE (R311). -/
  | relayIdentity (t : Ns) (p : Fin 32) (m : RelayIdentity)
  /-- A configuration acknowledgement completes the relay's arrival or rejects it (R312). -/
  | configAck (t : Ns) (r : Fin 16) (kind status slot : Nat)
  /-- A relay alert is acknowledged and reported (R317). -/
  | relayAlert (t : Ns) (r : Fin 16) (code severity detail : Nat)
  /-- A Sheet port's RETRAIN does not complete within 100 µs, or training fails, so the port goes to DOWN (R313). -/
  | sheetPortTimeout (t : Ns) (x : SheetLapse)
  /-- No port of the relay has been ACTIVE for RELAY_LOSS_TIME, so the relay departs (R314). -/
  | relayLossTimeout (t : Ns) (r : Fin 16)
  /-- Every 2 µs the regulating tile splits an accelerator's grant among its domains (R318). -/
  | accelEpoch (t : Ns) (a : Fin 8)
  /-- Every 10 µs the leader computes demands, plan windows and stage-1 levels, and splits the tray grant (R318). -/
  | trayEpoch (t : Ns)
  /-- Every 100 µs the rack leader runs the rack split and sends BUDGET_GRANT (R337). -/
  | rackEpoch (t : Ns)
  /-- Every 1 ms the masthead runs the installation split (R341). -/
  | installationEpoch (t : Ns)
  /-- A new grant comes into force at its lead instant (R321). -/
  | grantEffective (t : Ns) (n : Fin 512)
  /-- A lowered LIMIT takes effect after the decrease lead (R323). -/
  | limitEffective (t : Ns) (n : Fin 512)
  /-- Every 100 µs a tray sends RACK_HELLO to its same-rack neighbours (R336). -/
  | rackHelloSend (t : Ns)
  /-- A hello is received, forwarded and used to elect the rack leader (R336). -/
  | rackHello (t : Ns) (p : Fin 10) (m : RackHello)
  /-- The rack leader or masthead receives a member's demand report (R337). -/
  | budgetReport (t : Ns) (m : BudgetReport)
  /-- A tray accepts a grant from its present rack leader (R337). -/
  | budgetGrant (t : Ns) (m : BudgetGrant)
  /-- No grant has been accepted for RACK_HOLD, so the tray becomes isolated and falls to MIN_GRANT (R340). -/
  | rackHoldExpiry (t : Ns) (level : Fin 2)
  /-- A write of RACK_OTHER is refused at a tray that is not the rack leader (R338). -/
  | writeRackOther (a : Arrival) (v : Int)
  /-- Every microsecond P_in is formed and compared with the trip threshold; stage 1 follows on confirmation (R346). -/
  | fastSenseSample (t : Ns) (feeds : List FeedSample)
  /-- FAST_STAGE2 after stage 1, a P_in still above the threshold reefs every accelerator to 7 (R348). -/
  | fastStage2Check (t : Ns)
  /-- FAST_FURL_TIME after stage 2, a P_in still above the threshold furls every accelerator (R348). -/
  | fastFurlExpiry (t : Ns)
  /-- P_in has stayed low for FAST_RELEASE, so source 0 starts stepping down (R350). -/
  | fastReleaseExpiry (t : Ns)
  /-- Every FAST_STEP, source 0 or source 1 falls by one level (R350). -/
  | reefStepDown (t : Ns) (source1 : Option (Fin 8))
  /-- Power that stays above the grant for COMPLY_TIME sets compliance source 1 (R345). -/
  | complianceCheck (t : Ns) (a : Fin 8)
  /-- DURATION of a REEF command ends and source 2 clears (R343). -/
  | reefDurationExpiry (t : Ns) (a : Fin 8)
  /-- Sets a node's LIMIT (R323). -/
  | setBudget (a : Arrival) (limit : Int)
  /-- Sets the WEIGHT of an accelerator or domain node (R357). -/
  | setWeight (a : Arrival) (weight : Nat)
  /-- Sets a node's MIN_GRANT within the bounds (R334). -/
  | setMinGrant (a : Arrival) (minGrant : Int)
  /-- Returns the node's record and its children's records (R357). -/
  | readGrants (a : Arrival)
  /-- Sets command reef source 2 (R357). -/
  | reef (a : Arrival) (level duration : Nat)
  /-- Clears command reef source 2 (R357). -/
  | releaseReef (a : Arrival)
  /-- At t_j the inputs are latched and inference starts, with slots shed when the cost exceeds FC_BUDGET (R368). -/
  | forecastStep (t : Ns)
  /-- The forecasts are published by t_j+1, or the domains are marked stale (R370). -/
  | forecastPublish (t : Ns) (late : List (Fin 3))
  /-- Every 1 ms the array runs its known-answer test; a failure moves or withdraws forecasts (R391). -/
  | knownAnswerTest (t : Ns) (tile : Fin 3) (pass : Bool) (test : Nat)
  /-- 256 µs after a sample was formed, its realised currents are filled in and it is written to the ring (R393). -/
  | trainingSampleComplete (t : Ns) (d : Fin 256) (carried : Bool)
  /-- A training minibatch completes and its weight update is applied (R394). -/
  | minibatchDone (t : Ns) (m : Fin 64) (numeric : Bool)
  /-- Every CANDIDATE_INTERVAL a candidate is scored and promoted or discarded (R397). -/
  | candidateEvaluate (t : Ns) (m : Fin 64)
  /-- Bindings or promoted weights take effect on every tile (R382). -/
  | modelSwitchInstant (t : Ns)
  /-- Every 10 ms the error ratio is checked, and the slot may be rolled back or demoted (R399). -/
  | errorWindow (t : Ns)
  /-- A promoted weight set is written to the model shelf, at most once per 60 s (R400). -/
  | shelfWeightWrite (t : Ns) (m : Fin 64)
  /-- After bring-up, shelf containers are reloaded and their bindings restored (R380). -/
  | shelfRestore (t : Ns)
  /-- Moves a container into a slot by BEGIN, DATA, END or ABORT (R378). -/
  | loadModel (a : Arrival) (x : LoadParams)
  /-- Binds domains to a slot from the switch instant on, after a capacity check (R382). -/
  | activateModel (a : Arrival) (mask : Nat)
  /-- Empties an unbound slot (R383). -/
  | retireModel (a : Arrival)
  /-- Returns the latest published forecasts for a domain or accelerator (R402). -/
  | queryForecast (a : Arrival)
  /-- Sets a slot's training settings (R396). -/
  | setTraining (a : Arrival) (mode persist lr drift under margin interval sample : Nat)
  /-- Returns a slot's statistics (R403). -/
  | readModelStats (a : Arrival)
  /-- A write of TRAIN_TILE moves training and the use of the store regions (R392). -/
  | writeTrainTile (a : Arrival) (v : Int)
  /-- Raises the model SVN floor; a lower value is refused (R384). -/
  | writeFcSvnFloor (a : Arrival) (v : Int)
  /-- At R_r proposals are computed and LOCK_UP is sent towards the masthead (R413). -/
  | lockRound (t : Ns)
  /-- A child's LOCK_UP is merged group by group (R415). -/
  | lockUp (t : Ns) (p : Fin 10) (m : LockUp)
  /-- The masthead commits g on completion of the reduction, or at AT − 40 µs (R416). -/
  | lockCommitSend (t : Ns)
  /-- A tray receives the commit and sends FREQ_COMMIT to its members (R417). -/
  | lockCommit (t : Ns) (p : Fin 10) (m : LockCommit)
  /-- AT + 20 µs passes with no FREQ_ACK, so the member lags with cause 2 (R421). -/
  | freqAckDeadline (t : Ns)
  /-- The masthead accepts or refuses a group join (R411). -/
  | lockJoin (t : Ns) (serial group grid src : Nat)
  /-- The answer to a join is received (R434). -/
  | lockJoinAck (t : Ns) (group status grid : Nat)
  /-- No LOCK_JOIN_ACK has arrived after 1 ms, so JOIN_GROUP fails (R434). -/
  | lockJoinTimeout (t : Ns)
  /-- Adds accelerators to a lockstep group (R434). -/
  | joinGroup (a : Arrival) (mask grid : Nat)
  /-- Removes accelerators from a group (R434). -/
  | leaveGroup (a : Arrival) (mask : Nat)
  /-- Returns a group's round state (R434). -/
  | readGroup (a : Arrival)
  /-- Loads phase-plan entries (R435). -/
  | loadPhasePlan (a : Arrival) (entries : List PlanEntry)
  /-- Clears one key, the learned entries or all entries (R434). -/
  | clearPhasePlan (a : Arrival) (kind key : Nat)
  /-- Returns phase-plan entries (R434). -/
  | readPhasePlan (a : Arrival) (first count : Nat)
  /-- Every 100 µs the controller sensors are read and their thresholds judged (R439). -/
  | controllerSensorSample (t : Ns) (readings : List (Fin 72 × Option Int))
  /-- A board channel is converted in the slow or fast round and judged (R443). -/
  | housekeepingSample (t : Ns) (i : Fin 128) (code : Option Nat)
  /-- Every 1 ms the coolant channels are read and judged (R439). -/
  | coolantTempSample (t : Ns) (codes : List (Fin 16 × Option Nat))
  /-- Every 1 ms C_a slews towards Q_a (R451). -/
  | thermalCeilingUpdate (t : Ns)
  /-- At each THERMAL_REEF_STEP, L_a rises, falls or holds (R453). -/
  | thermalReefStep (t : Ns)
  /-- The cut instant passes and the scope's off-sequence starts (R456). -/
  | furlCutInstant (t : Ns) (scope : Fin 9)
  /-- Starts a furl of an accelerator or of the tray (R461). -/
  | furl (a : Arrival) (deadline : Nat)
  /-- Every 1 ms ISNS is sampled and the current bands are confirmed (R473). -/
  | driveCurrentSample (t : Ns) (samples : List (Fin 20 × Int))
  /-- A tach edge updates the speed and the tach-loss timer (R474). -/
  | tachEdge (t : Ns) (c : Fin 20)
  /-- A kick ends in RUN, REST, STALLED or OPEN_LOOP (R477). -/
  | kickTimeExpiry (t : Ns) (c : Fin 20)
  /-- A rest ends and the next kick starts (R477). -/
  | restTimeExpiry (t : Ns) (c : Fin 20)
  /-- No tach edge for T_LOSS moves a running channel to OPEN_LOOP or REST (R477). -/
  | tachLossExpiry (t : Ns) (c : Fin 20)
  /-- STALL_RETRY passes and a stalled or open channel kicks again (R477). -/
  | stallRetryExpiry (t : Ns) (c : Fin 20)
  /-- Every 20 ms the speed PI loop updates the drive (R480). -/
  | speedLoopUpdate (t : Ns)
  /-- 10 s after start-up, fans move to their autonomous tables (R485). -/
  | fanTableHandover (t : Ns)
  /-- No host KEEPALIVE for HOST_SILENCE, so autonomous mode is entered (R486). -/
  | hostSilenceExpiry (t : Ns)
  /-- Every 100 ms flows are computed and flow proof and flow loss are judged (R490). -/
  | flowUpdate (t : Ns) (pulses : List (Fin 8 × Nat))
  /-- Every 1 ms pressure is sampled and pump limits are applied (R494). -/
  | pressureSample (t : Ns) (mv : List (Fin 8 × Nat))
  /-- Every 100 ms requests are formed, flow is shared and valves and pumps are moved (R497). -/
  | coolantUpdate (t : Ns) (positions : List (Fin 8 × Int))
  /-- Every 10 ms each zone's resistance and continuity are measured (R504). -/
  | leakSample (t : Ns) (samples : List (Fin 8 × Nat × Bool))
  /-- Wet for LEAK_CONFIRM confirms WET and applies FIRST_ACTION (R505). -/
  | leakConfirmExpiry (t : Ns) (z : Fin 8)
  /-- Wet for LEAK_ESCALATE after confirmation escalates the zone (R505). -/
  | leakEscalateExpiry (t : Ns) (z : Fin 8)
  /-- Dry for LEAK_DRY_TIME moves the zone to DRYING (R505). -/
  | leakDryExpiry (t : Ns) (z : Fin 8)
  /-- LEAK_CUT_TIME passes and FEED_EN is driven low (R506). -/
  | leakCutExpiry (t : Ns)
  /-- Sets a fan's setter and target (R484). -/
  | setFan (a : Arrival) (mode : Nat) (value : Int)
  /-- Sets a pump's setter and target (R484). -/
  | setPump (a : Arrival) (mode : Nat) (value : Int)
  /-- Sets a valve's setter and command (R496). -/
  | setValve (a : Arrival) (mode : Nat) (value : Int)
  /-- Forces a zone to WET with an action (R505). -/
  | isolateLeak (a : Arrival) (action : Nat)
  /-- Releases a drying zone's actions (R509). -/
  | resetLeakZone (a : Arrival)
  /-- Replaces an autonomous table (R487). -/
  | loadFanTable (a : Arrival) (inputs points : Nat) (thermals : List Nat) (curve : List (Int × Nat))
  /-- Sets the water mode and its targets (R503). -/
  | setWaterMode (a : Arrival) (mode : Nat) (target weight : Int)
  /-- Burin instruction: add (R527). -/
  | add (t : Ns) (e : Fin 48) (rd rs rt : Fin 16)
  /-- Burin instruction: subtract (R527). -/
  | sub (t : Ns) (e : Fin 48) (rd rs rt : Fin 16)
  /-- Burin instruction: bitwise AND (R527). -/
  | and (t : Ns) (e : Fin 48) (rd rs rt : Fin 16)
  /-- Burin instruction: bitwise OR (R527). -/
  | or (t : Ns) (e : Fin 48) (rd rs rt : Fin 16)
  /-- Burin instruction: bitwise XOR (R527). -/
  | xor (t : Ns) (e : Fin 48) (rd rs rt : Fin 16)
  /-- Burin instruction: logical left shift (R527). -/
  | shl (t : Ns) (e : Fin 48) (rd rs rt : Fin 16)
  /-- Burin instruction: logical right shift (R527). -/
  | shr (t : Ns) (e : Fin 48) (rd rs rt : Fin 16)
  /-- Burin instruction: arithmetic right shift (R527). -/
  | sar (t : Ns) (e : Fin 48) (rd rs rt : Fin 16)
  /-- Burin instruction: low product (R527). -/
  | mul (t : Ns) (e : Fin 48) (rd rs rt : Fin 16)
  /-- Burin instruction: high signed product (R527). -/
  | mulh (t : Ns) (e : Fin 48) (rd rs rt : Fin 16)
  /-- Burin instruction: signed divide (R527). -/
  | div (t : Ns) (e : Fin 48) (rd rs rt : Fin 16)
  /-- Burin instruction: unsigned divide (R527). -/
  | divu (t : Ns) (e : Fin 48) (rd rs rt : Fin 16)
  /-- Burin instruction: signed minimum (R527). -/
  | min (t : Ns) (e : Fin 48) (rd rs rt : Fin 16)
  /-- Burin instruction: signed maximum (R527). -/
  | max (t : Ns) (e : Fin 48) (rd rs rt : Fin 16)
  /-- Burin instruction: compare (R527). -/
  | cmp (t : Ns) (e : Fin 48) (rs rt : Fin 16)
  /-- Burin instruction: saturating add (R527). -/
  | sadd (t : Ns) (e : Fin 48) (rd rs rt : Fin 16)
  /-- Burin instruction: saturating subtract (R527). -/
  | ssub (t : Ns) (e : Fin 48) (rd rs rt : Fin 16)
  /-- Burin instruction: add immediate (R527). -/
  | addi (t : Ns) (e : Fin 48) (rd rs : Fin 16) (imm : Fin 262144)
  /-- Burin instruction: AND immediate (R527). -/
  | andi (t : Ns) (e : Fin 48) (rd rs : Fin 16) (imm : Fin 262144)
  /-- Burin instruction: OR immediate (R527). -/
  | ori (t : Ns) (e : Fin 48) (rd rs : Fin 16) (imm : Fin 262144)
  /-- Burin instruction: XOR immediate (R527). -/
  | xori (t : Ns) (e : Fin 48) (rd rs : Fin 16) (imm : Fin 262144)
  /-- Burin instruction: shift by an immediate count (R527). -/
  | shifti (t : Ns) (e : Fin 48) (rd rs : Fin 16) (imm : Fin 262144)
  /-- Burin instruction: compare immediate (R527). -/
  | cmpi (t : Ns) (e : Fin 48) (rs : Fin 16) (imm : Fin 262144)
  /-- Burin instruction: load upper immediate (R527). -/
  | lui (t : Ns) (e : Fin 48) (rd : Fin 16) (imm : Fin 4194304)
  /-- Burin instruction: move immediate (R527). -/
  | movi (t : Ns) (e : Fin 48) (rd : Fin 16) (imm : Fin 4194304)
  /-- Burin instruction: load word (R527). -/
  | ldw (t : Ns) (e : Fin 48) (rd rs : Fin 16) (imm : Fin 262144)
  /-- Burin instruction: load signed halfword (R527). -/
  | ldh (t : Ns) (e : Fin 48) (rd rs : Fin 16) (imm : Fin 262144)
  /-- Burin instruction: load unsigned byte (R527). -/
  | ldb (t : Ns) (e : Fin 48) (rd rs : Fin 16) (imm : Fin 262144)
  /-- Burin instruction: store word (R527). -/
  | stw (t : Ns) (e : Fin 48) (rd rs : Fin 16) (imm : Fin 262144)
  /-- Burin instruction: store halfword (R527). -/
  | sth (t : Ns) (e : Fin 48) (rd rs : Fin 16) (imm : Fin 262144)
  /-- Burin instruction: store byte (R527). -/
  | stb (t : Ns) (e : Fin 48) (rd rs : Fin 16) (imm : Fin 262144)
  /-- Burin instruction: conditional branch (R527). -/
  | br (t : Ns) (e : Fin 48) (cond : Fin 16) (off : Fin 4194304)
  /-- Burin instruction: call (R527). -/
  | call (t : Ns) (e : Fin 48) (off : Fin 4194304)
  /-- Burin instruction: jump to a register (R527). -/
  | jr (t : Ns) (e : Fin 48) (rs : Fin 16)
  /-- Burin instruction: read a property from the tile's replica (R542). -/
  | rdp (t : Ns) (e : Fin 48) (rd rs : Fin 16) (imm : Fin 262144)
  /-- Burin instruction: forecast query (R543). -/
  | fcq (t : Ns) (e : Fin 48) (rd rs : Fin 16) (imm : Fin 262144)
  /-- Burin instruction: submit a Gantline request (R544). -/
  | gcmd (t : Ns) (e : Fin 48) (rd rs : Fin 16) (body : Body)
  /-- Burin instruction: read or free a mailbox slot (R527). -/
  | gpoll (t : Ns) (e : Fin 48) (rd : Fin 16) (imm : Fin 262144)
  /-- Burin instruction: end the handler (R556). -/
  | eoi (t : Ns) (e : Fin 48)
  /-- Burin instruction: read time, CSN, budget or pace (R527). -/
  | time (t : Ns) (e : Fin 48) (rd : Fin 16) (imm : Fin 262144)
  /-- Burin instruction: set the timer (R540). -/
  | tset (t : Ns) (e : Fin 48) (rs : Fin 16)
  /-- Burin instruction: stop the program (R527). -/
  | halt (t : Ns) (e : Fin 48)
  /-- A raised event is posted to each tile's event controller and counted per source (R549). -/
  | occurrencePost (t : Ns)
  /-- A deliverable occurrence or local vector is claimed and a handler level opened (R555). -/
  | engineDispatch (t : Ns) (e : Fin 48)
  /-- A source's moderation interval ends (R559). -/
  | moderationExpiry (t : Ns) (tile : Fin 3) (n : Fin 1024)
  /-- An engine timer tick falls due (R540). -/
  | timerTick (t : Ns) (e : Fin 48)
  /-- A reply to a program's request reaches its mailbox slot (R541). -/
  | mailboxReply (t : Ns) (e : Fin 48)
  /-- EC_HOLD clears itself after EC_HOLD_LIMIT (R553). -/
  | ecHoldLimitExpiry (t : Ns) (tile : Fin 3)
  /-- A write of a source's configuration changes ENABLE, IDLE_BYPASS or MOD (R550). -/
  | writeSrcConfig (a : Arrival) (tile : Fin 3) (v : Int)
  /-- Writing 1 to OVERFLOW clears it together with LOST (R550). -/
  | writeSrcStatus (a : Arrival) (tile : Fin 3) (v : Int)
  /-- Posts a software occurrence to engines (R561). -/
  | softPend (a : Arrival) (v : Int)
  /-- Holds or releases assignment on tiles (R553). -/
  | writeEcHold (a : Arrival) (v : Int)
  /-- Sets an engine's AUTOSTART when its image is on the shelf (R566). -/
  | writeAutostart (a : Arrival) (v : Int)
  /-- Moves a Burin image into an engine (R534). -/
  | loadProgram (a : Arrival) (x : LoadParams)
  /-- Sets routes, runs INIT and starts the program (R521). -/
  | startProgram (a : Arrival)
  /-- Stops or unloads a program (R522). -/
  | stopProgram (a : Arrival)
  /-- Returns an engine's state (R564). -/
  | readEngine (a : Arrival)
  /-- Raises a software event (R562). -/
  | raiseEvent (a : Arrival) (len : Nat) (payload : List Nat)
  /-- A Ratline neighbour's identity is accepted or rejected (R570). -/
  | linkIdentity (t : Ns) (p : Fin 10) (m : LinkIdentity)
  /-- A neighbour's answer to the tray's identity is received (R570). -/
  | linkIdentityAck (t : Ns) (p : Fin 10) (major minor status serial : Nat)
  /-- Every 100 µs, or on change, an advert is sent on each ACTIVE port (R579). -/
  | treeAdvertSend (t : Ns)
  /-- An advert updates the tree place, the up port and the roles (R580). -/
  | treeAdvert (t : Ns) (p : Fin 10) (m : Advert)
  /-- An up port's adverts stop being fresh, so the tray fails over to the alternate or re-elects (R581). -/
  | advertStale (t : Ns)
  /-- A message is delivered, forwarded or dropped by its route (R576). -/
  | ratlineMessageRoute (t : Ns) (p : Fin 10) (m : RatHeader)
  /-- A VC1 message that has waited 20 µs for credit is dropped (R573). -/
  | vc1CreditTimeout (t : Ns) (p : Fin 10)
  /-- Every 100 µs a TIME flit is sent on UP and DOWN links (R587). -/
  | ratlineTimeSend (t : Ns)
  /-- A parent time exchange trims rate and phase, leading to LOCKED (R587). -/
  | ratlineTimeFlit (t : Ns) (p : Fin 10) (tTx tEcho hold : Nat) (parentLocked : Bool)
  /-- At the scope root an initiated operation begins (R590). -/
  | opStart (t : Ns) (src serial : Nat) (hdr : Header) (body : Body)
  /-- An operation's down half is received, acted on and sent on (R590). -/
  | opDown (t : Ns) (p : Fin 10) (m : OpMsg)
  /-- A child's up half is merged (R590). -/
  | opUp (t : Ns) (p : Fin 10) (m : OpMsg)
  /-- A tray's wait for its children closes and its OP_UP is sent, or the root completes (R591). -/
  | opWaitClose (t : Ns)
  /-- A remote Gantline request is admitted and executed at the target (R601). -/
  | remoteRequest (t : Ns) (p : Fin 10) (serial addr attempt : Nat) (hdr : Header) (body : Body)
  /-- A remote reply completes the origin's request (R602). -/
  | remoteReply (t : Ns) (serial status : Nat) (packet : List Nat)
  /-- No reply within REMOTE_TIMEOUT: the request is resent once or completes as outcome unknown (R602). -/
  | remoteTimeoutExpiry (t : Ns)
  /-- Snapshot data are stored in the issuer's buffer (R598). -/
  | snapData (t : Ns) (m : SnapData)
  /-- 1 s after root completion the snapshot completes with missing members failed (R598). -/
  | snapshotCollectTimeout (t : Ns)
  /-- Export data are written at a PATH 2 destination and acknowledged (R657). -/
  | exportData (t : Ns) (src serial id seq offset len : Nat)
  /-- A PATH 1 export advances its window (R657). -/
  | exportAck (t : Ns) (id seq status : Nat)
  /-- The end of a Ratline export is received (R657). -/
  | exportEnd (t : Ns) (id bytes status : Nat)
  /-- Global barrier operation and its RESULT (R596). -/
  | barrier (a : Arrival) (x : OpParams)
  /-- Global reduction and its RESULT (R596). -/
  | reduce (a : Arrival) (x : OpParams)
  /-- Broadcast of a Gantline packet and its RESULT (R597). -/
  | broadcast (a : Arrival) (x : OpParams) (hdr : Header) (inner : Body)
  /-- Installation snapshot with its RESULT, READ and RELEASE (R598). -/
  | snapshotGlobal (a : Arrival) (x : OpParams)
  /-- Global cycle, furl or counter clear, and its RESULT (R599). -/
  | resetGlobal (a : Arrival) (x : OpParams)
  /-- Holds a Ratline port in DOWN or releases it (R604). -/
  | writePortAdmin (a : Arrival) (v : Int)
  /-- A free port grants the next owner request and starts its transactions (R614). -/
  | busGrant (t : Ns) (port : Fin 32)
  /-- A request not granted within QUEUE_WAIT completes with ST_BUSY (R614). -/
  | queueWaitExpiry (t : Ns) (port : Fin 32)
  /-- A transaction ends with success, a retry or a failure, with pre-emption at HOLD_LIMIT (R618). -/
  | twoWireTransactionEnd (t : Ns) (port : Fin 32) (x : TxnEnd)
  /-- A stretch or SMBus limit is exceeded, so the port ends the transaction (R613). -/
  | twoWireTimeout (t : Ns) (port : Fin 32) (kind : Fin 3) (seg : Nat)
  /-- A START or STOP that the port did not generate interrupts its transaction (R620). -/
  | busIllegalCond (t : Ns) (port : Fin 32) (kind : Fin 2) (bit : Fin 10) (seg : Nat)
  /-- A START or STOP inside a byte at a target port ends the transaction (R621). -/
  | targetIllegalCond (t : Ns) (k : Fin 2) (kind : Fin 2) (bit : Fin 10) (x : CutTxn)
  /-- SDA is held low: clocking, reset pulses and isolation are applied (R622). -/
  | busRecovery (t : Ns) (port : Fin 32) (clocked pulsed near : Bool)
  /-- SCL stays low 10 ms beyond the limit, so reset pulses and isolation are applied (R623). -/
  | sclStuck (t : Ns) (port : Fin 32) (low : Nat) (pulsed near : Bool)
  /-- Every 1 s a FAILED port attempts recovery (R622). -/
  | failedPortRetry (t : Ns) (port : Fin 32) (clocked pulsed near : Bool)
  /-- A byte-window write transaction commits a page (R626). -/
  | windowWrite (t : Ns) (k : Fin 2) (ptr : Option (Fin 65536)) (data : List Nat) (pec : Bool)
  /-- A byte-window read returns bytes from the pointer (R625). -/
  | windowRead (t : Ns) (k : Fin 2) (ptr : Option (Fin 65536)) (n : Nat)
  /-- MBX_CONTROL 1 submits the window's request packet (R627). -/
  | mbxSubmit (t : Ns) (k : Fin 2) (x : Fetched)
  /-- MBX_CONTROL 2 frees the reply (R627). -/
  | mbxFree (t : Ns) (k : Fin 2)
  /-- Runs pass-through segments (R615). -/
  | busTransfer (a : Arrival) (retries : Nat) (segs : List BusSeg)
  /-- Runs recovery, or opens or closes the isolation switch (R634). -/
  | busRecover (a : Arrival)
  /-- Writes a port configuration (R633). -/
  | configureBus (a : Arrival) (block : List Nat)
  /-- Reads and converts a PMBus value (R631). -/
  | pmbusRead (a : Arrival) (addr page code : Nat)
  /-- Writes OPERATION or ON_OFF_CONFIG (R632). -/
  | pmbusWrite (a : Arrival) (addr page code value : Nat)
  /-- The once-per-second scrub of SRAM (R639). -/
  | sramScrub (t : Ns) (tile : Fin 3) (words : List (Nat × Nat))
  /-- DRAM is read and corrected once per SCRUB_PERIOD (R642). -/
  | patrolScrub (t : Ns) (stack : Fin 4) (words : List DramWord)
  /-- An uncorrectable word is handled by its region (R643). -/
  | memoryUncorrectable (t : Ns) (w : BadWord)
  /-- A stack is lost and the recorder ring shrinks (R645). -/
  | stackLost (t : Ns) (stack : Fin 4) (words : Bool)
  /-- Common time reaches Z and the recorder freezes (R651). -/
  | recorderFreezeInstant (t : Ns)
  /-- AUTO_RELEASE passes in FROZEN with no export, so recording resumes (R651). -/
  | autoReleaseExpiry (t : Ns)
  /-- Every STIPPLE_INTERVAL a stipple frame is written (R654). -/
  | stippleFrame (t : Ns)
  /-- Changes the stipple interval and restarts the ring (R660). -/
  | writeStippleInterval (a : Arrival) (v : Int)
  /-- An export finishes, fills its buffers or times out (R656). -/
  | exportComplete (t : Ns) (k : Nat)
  /-- Triggers the recorder (R652). -/
  | triggerRecorder (a : Arrival) (post : Nat)
  /-- Freezes the recorder at once (R651). -/
  | freezeRecorder (a : Arrival)
  /-- Discards the capture and resumes recording (R651). -/
  | releaseRecorder (a : Arrival)
  /-- Exports recorder content by DMA or Ratline, or receives an export (R655). -/
  | exportRecorder (a : Arrival) (path content id first last taddr serial : Nat) (bufs : List (Nat × Nat))
  /-- Returns stipple frame sections (R658). -/
  | readStipple (a : Arrival) (start section_ count : Nat)
  /-- In TEST_MODE, a tray-builder key slot is written once over JTAG (R665). -/
  | keySlotProgram (t : Ns) (slot : Fin 6) (ec ml : Nat)
  /-- Returns signed evidence or certificate bytes (R681). -/
  | attest (a : Arrival) (tile index offset : Nat) (nonce : List Nat)
  /-- Commits REVOKE_PENDING and restarts Fore in TRIO (R680). -/
  | revokeKey (a : Arrival)
  /-- Returns the key slot states (R686). -/
  | readKeys (a : Arrival)
  /-- Opens, resumes or empties the stage (R693). -/
  | openStage (a : Arrival) (total resume : Nat)
  /-- Writes bundle bytes to the stage (R693). -/
  | writeStage (a : Arrival) (offset : Nat) (bytes : List Nat)
  /-- Verifies the staged bundle (R695). -/
  | verifyStage (a : Arrival)
  /-- Computes a safe update order (R701). -/
  | planUpdate (a : Arrival)
  /-- Writes the staged plate image or tray description into the inactive copy (R696). -/
  | etch (a : Arrival)
  /-- Runs update steps in the safe order (R703). -/
  | activate (a : Arrival) (stop : Nat)
  /-- An update step exceeds STEP_TIMEOUT and ACTIVATE fails (R706). -/
  | stepTimeoutExpiry (t : Ns)
  /-- Writes a CONFIRM record for the active plate (R710). -/
  | confirm (a : Arrival)
  /-- All tiles have stayed in service for AUTO_CONFIRM, so the controller confirms (R710). -/
  | autoConfirmExpiry (t : Ns)
  /-- Returns the plate records (R713). -/
  | readPlates (a : Arrival)
  /-- Arms or disarms an injection point (R721). -/
  | inject (a : Arrival) (p : Option ArmParams)
  /-- An armed point's trigger is met and the fault is applied (R722). -/
  | injectionFire (t : Ns) (p : Fin 4096) (seen : Nat)
  /-- DURATION ends and the held fault clears (R722). -/
  | injectionHoldEnd (t : Ns) (p : Fin 4096)
  /-- ARM_LIMIT passes and the point returns to IDLE (R722). -/
  | armLimitExpiry (t : Ns) (p : Fin 4096)
  /-- Enters or ends maintenance mode (R723). -/
  | setMaintenance (a : Arrival) (on duration : Nat)
  /-- Maintenance duration ends, disarming points and aborting tests (R724). -/
  | maintenanceExpiry (t : Ns)
  /-- Starts a self-test (R725). -/
  | selftest (a : Arrival) (test arg : Nat)
  /-- A self-test ends and reports its outcome (R725). -/
  | selftestComplete (t : Ns) (object : ObjId) (test step measured : Nat)
  /-- Starts a calibration (R729). -/
  | calibrate (a : Arrival) (cal : Nat)
  /-- Every CAL_PERIOD, calibrations 1, 2 and 4 run by themselves (R729). -/
  | calibrationPeriod (t : Ns)
  /-- A calibration ends and is applied or marks the component failed (R731). -/
  | calibrateComplete (t : Ns) (object : ObjId) (cal : Nat) (within : Bool) (measured : Int) (errs : List Int)
  /-- A long-log record reaches NAND from retained memory (R735). -/
  | logRecordWrite (t : Ns)
  /-- Sets the session's log cursor (R737). -/
  | writeLogCursor (a : Arrival) (v : Int)
  /-- An expected PPS_IN edge fails to arrive at a whole second; after three consecutive rejected or missing edges PPS_IN is treated as lost and common time leaves LOCKED (R74). -/
  | ppsEdgeMissing (t : Ns)
  /-- ACC_ALERT_N returns high, which ends the no-link reef to level 7 (R222). -/
  | alertPinRelease (t : Ns) (a : Fin 8)
  /-- A tile held in reset by a controller-sensor trip has cooled below TRIP_T − HYST, and Fore, if it is the only tile running, leaves reset by cold boot (R463). -/
  | tripResetRelease (t : Ns) (tile : Fin 3)
  /-- A Shroud, Sheet or Ratline receiver sees 16 invalid 64b/66b sync headers in any 64 blocks, and the ACTIVE port enters RETRAIN (R200). -/
  | invalidSyncHeaders (t : Ns) (port : LinkPort)
  /-- Verification of the staged bundle finishes: the stage becomes VERIFIED or returns to OPEN, descriptors are stored, and EV_STAGE_VERIFIED completes VERIFY_STAGE (R695). -/
  | stageVerifyDone (t : Ns)
  /-- The checks of a loaded model container finish after END: the slot becomes LOADED, or returns to its former state, and EV_MODEL_LOADED completes the command (R379). -/
  | modelVerifyDone (t : Ns) (m : Fin 64)
  /-- The checks of a loaded Burin image finish after END: the engine becomes LOADED or returns to its former state, and EV_BURIN_LOADED completes the command (R532). -/
  | programVerifyDone (t : Ns) (e : Fin 48)
  /-- Another bus controller puts a START or STOP on a two-wire bus that the port does not hold, moving the port between IDLE and FOREIGN (R620). -/
  | foreignStartStop (t : Ns) (port : Fin 32) (start : Bool)
  /-- SCL and SDA have been high for the 50 µs bus idle time with no STOP seen, so the bus counts as free and a FOREIGN port returns to IDLE (R612). -/
  | busIdleTime (t : Ns) (port : Fin 32)
deriving DecidableEq, Repr

end Sys2Proof
end

