-- ==== Sys2Proof/Decode.lean ====
section
/-! DEFINITION. The decoder of the opcode table's words. The table gives its rows no bits: commands reach the block as operands, and
no word spells one. -/

namespace Sys2Proof

/-- The command that a word of the table's bits spells: no row has bits. -/
def decodeTableWord (_nbits _w : Nat) : Option Instr := none

end Sys2Proof
end

