-- ==== Sys2Proof/Config.lean ====
section
/-! DEFINITION. What the manual leaves open or takes from elsewhere: values with no body, so that no proof can see
them. -/

namespace Sys2Proof.Config

/-- A value that the manual calls unpredictable or random (session tokens of Table 5.13, the controller incarnation
of Table 5.8, the wake key of R675, nonces), drawn afresh from the counter `State.draws`. -/
opaque random : Nat → Nat

/-- A value the manual leaves undefined or does not state, drawn afresh from the counter `State.draws`. -/
opaque free : Nat → Int

/-- Activation codes 3 to 5 at an FP32 operand: the manual gives an error bound and not the value (R366). -/
opaque activation : Nat → Rat → Rat

/-- SHA-384 of a byte string (R666, R667). -/
opaque sha384Bits : List Nat → BitVec 384

/-- The same as a number. -/
def sha384 (b : List Nat) : Nat := (sha384Bits b).toNat

/-- ECDSA P-384 over a digest by FIPS 186-5: key, r, s, digest (R667). -/
opaque ecdsaVerifies : List Nat → List Nat → List Nat → Nat → Bool

/-- ML-DSA-87 over a digest by FIPS 204: key, signature, digest (R667). -/
opaque mldsaVerifies : List Nat → List Nat → Nat → Bool

/-- The fused digest of a key slot's ECDSA key; 0 where the slot is empty (Table 17.1). -/
opaque keyEc : Nat → Nat

/-- The fused digest of a key slot's ML-DSA key (Table 17.1). -/
opaque keyMl : Nat → Nat

/-- A word of code memory beyond the image's CODE_WORDS, which the manual does not state (R524). -/
opaque codeWord : Nat → Nat

/-- T_* of R501 in m°C, of WATER_WEIGHT, LEAK_REF and LEAK_DOUBLING: a real number whose rounding the manual does not
state, and none at all where a factor is 0. -/
opaque tStar : Nat → Nat → Nat → Int

/-- The factory values of the compensation tables, held in fuses (R467). -/
opaque compFactory : Nat → Nat → Int

/-- The DER bytes of a tile's DeviceID (0) or alias (1) certificate, the latter for the SVN, digest and FLAGS measured
(R669, R673). -/
opaque certificate : Nat → Nat → Nat → Nat → Nat → List Nat

/-- What the bytes of a tray description say: the output format of the Yochecen compiler, which is not the controller's (R774);
none where they are no description. -/
opaque trayDesc : List Nat → Option TrayDesc

/-- A byte of a request packet that this tray passes on, which the model does not hold: of the packet with this tag, at
this place; or of the recorder data of an export. -/
opaque content : Nat → Nat → Nat

/-- The generator of the double-error-correcting BCH code of R637, a 14-bit remainder's polynomial without its leading term. The
manual does not give it (log entry 267). -/
opaque bchGenerator : Nat

/-- The PCI vendor ID the endpoints report (Table 3.21). -/
opaque pciVendor : Nat

/-- Spare rows of a die of a stack (R641). -/
opaque spareRows : Nat

end Sys2Proof.Config
end

