-- ==== Sys2Proof/Machine/Mx.lean ====
section
/-! DEFINITION. The forecast array's arithmetic (R362–R366): FP32, the element formats, shared scales, layer outputs. -/

namespace Sys2Proof.Machine

/-- An FP32 value: finite (exact), infinite by sign, or NaN. -/
inductive F32 where
  | num (q : Rat)
  | inf (neg : Bool)
  | nan
deriving DecidableEq, Repr

/-- 2^e. -/
def pow2 (e : Int) : Rat := if 0 ≤ e then ((2 ^ e.toNat : Nat) : Rat) else 1 / ((2 ^ (-e).toNat : Nat) : Rat)

/-- The magnitude of a value. -/
def qabs (q : Rat) : Rat := if q < 0 then -q else q

/-- floor(log2 q) of a positive value. -/
def floorLog2 (q : Rat) : Int :=
  let e : Int := (q.num.natAbs.log2 : Int) - q.den.log2
  if q < pow2 e then e - 1 else e

/-- Round to the nearest integer, ties to even (R364). -/
def roundEven (q : Rat) : Int :=
  let f := q.floor
  let r := q - f
  if r < 1 / 2 then f else if 1 / 2 < r then f + 1 else if f % 2 = 0 then f else f + 1

/-- Round to a binary format of `mant` significant bits whose smallest normal exponent is `emin`; subnormals are
kept. -/
def roundTo (mant : Nat) (emin : Int) (q : Rat) : Rat :=
  if q = 0 then 0
  else
    let e := floorLog2 (qabs q)
    let ulp := pow2 ((if e < emin then emin else e) - (mant - 1 : Nat))
    roundEven (q / ulp) * ulp

/-- Round an exact value to FP32. -/
def toF32 (q : Rat) : F32 :=
  let y := roundTo 24 (-126) q
  if pow2 128 ≤ qabs y then .inf (y < 0) else .num y

def F32.add : F32 → F32 → F32
  | .num a, .num b => toF32 (a + b)
  | .nan, _ | _, .nan => .nan
  | .inf a, .inf b => if a = b then .inf a else .nan
  | .inf a, .num _ | .num _, .inf a => .inf a

def F32.neg : F32 → F32
  | .num a => .num (-a)
  | .inf a => .inf (!a)
  | .nan => .nan

def F32.mul : F32 → F32 → F32
  | .num a, .num b => toF32 (a * b)
  | .nan, _ | _, .nan => .nan
  | .inf a, .inf b => .inf (a != b)
  | .inf a, .num b | .num b, .inf a => if b = 0 then .nan else .inf (a != decide (b < 0))

/-- FP32 from its 32 bits. -/
def F32.ofBits (n : Nat) : F32 :=
  let e : Nat := n / 2 ^ 23 % 256
  let m : Nat := n % 2 ^ 23
  let s : Rat := if n / 2 ^ 31 % 2 = 1 then -1 else 1
  if e = 255 then (if m = 0 then .inf (decide (s < 0)) else .nan)
  else if e = 0 then .num (s * (m : Rat) * pow2 (-149))
  else .num (s * ((2 ^ 23 + m : Nat) : Rat) * pow2 ((e : Int) - 150))

/-- BF16 from its 16 bits. -/
def F32.ofBf16 (n : Nat) : F32 := F32.ofBits (n * 65536)

/-- A value rounded to BF16. -/
def F32.toBf16 : F32 → F32
  | .num q => let y := roundTo 8 (-126) q; if pow2 128 ≤ qabs y then .inf (y < 0) else .num y
  | x => x

/-! ### Element formats (Table 9.1) -/

/-- A format code: 0 MXINT8, 1 E4M3, 2 E5M2, 3 E2M1, 4 BF16. -/
abbrev Fmt := Nat

/-- The largest finite element. -/
def fmtMax (f : Fmt) : Rat :=
  match f with
  | 0 => 127 / 64 | 1 => 448 | 2 => 57344 | 3 => 6 | _ => 255 * pow2 120

/-- emax of the element. -/
def fmtEmax (f : Fmt) : Int := match f with | 0 => 0 | 1 => 8 | 2 => 15 | 3 => 2 | _ => 0

/-- Round a value to an element, saturating (R364). -/
def toElement (f : Fmt) (v : Rat) : Rat :=
  if fmtMax f < qabs v then (if v < 0 then -(fmtMax f) else fmtMax f)
  else match f with
    | 0 => (roundEven (v * 64) : Rat) / 64
    | 1 => roundTo 4 (-6) v
    | 2 => roundTo 3 (-14) v
    | 3 => roundTo 2 0 v
    | _ => roundTo 8 (-126) v

/-- A minifloat of e exponent and m mantissa bits without its sign: subnormal or normal. -/
def miniFloat (bias : Int) (m exp man : Nat) : Rat :=
  if exp = 0 then man * pow2 (1 - bias - m) else (2 ^ m + man : Nat) * pow2 (exp - bias - m)

/-- An element from its bits; none for NaN or an infinity. -/
def ofElement (f : Fmt) (b : Nat) : Option Rat :=
  match f with
  | 0 => some (((if b < 128 then (b : Int) else b - 256) : Int) / 64)
  | 1 =>
    if b % 128 = 127 then none
    else some ((if b < 128 then 1 else -1) * miniFloat 7 3 (b / 8 % 16) (b % 8))
  | 2 =>
    if b / 4 % 32 = 31 then none
    else some ((if b < 128 then 1 else -1) * miniFloat 15 2 (b / 4 % 32) (b % 4))
  | 3 => some ((if b / 8 % 2 = 0 then 1 else -1) * miniFloat 1 1 (b / 2 % 4) (b % 2))
  | _ => match F32.ofBf16 b with
    | .num q => some q
    | _ => none

/-- A block of 32 elements with its scale; `none` elements are NaN. BF16 blocks have scale 1. -/
structure Block where
  scale : Rat
  elems : List (Option Rat)
deriving DecidableEq, Repr

/-- The finite value of an FP32 that is quantised: NaN and infinities become 0 (R364). -/
def F32.finite : F32 → Rat
  | .num q => q
  | _ => 0

/-- A value counts as a numeric fault when it is quantised (R364). -/
def F32.isFault : F32 → Bool
  | .num _ => false
  | _ => true

/-- A block of FP32 values in a format (R363, R364). -/
def quantiseBlock (f : Fmt) (vs : List F32) : Block :=
  let qs := vs.map F32.finite
  if f = 4 then { scale := 1, elems := qs.map (fun q => some (toElement 4 q)) }
  else
    let amax := (qs.map qabs).foldl max 0
    if amax = 0 then { scale := pow2 (-127), elems := qs.map (fun _ => some 0) }
    else
      let x := pow2 (max (-127) (floorLog2 amax - fmtEmax f))
      { scale := x, elems := qs.map (fun q => some (toElement f (q / x))) }

/-- Cut a list into pieces of `n`. -/
def chunksOf {α : Type} (n : Nat) : Nat → List α → List (List α)
  | 0, _ => []
  | k + 1, l => if l.isEmpty then [] else l.take n :: chunksOf n k (l.drop n)

/-- A vector in a format, block by block. -/
def quantiseVec (f : Fmt) (vs : List F32) : List Block := (chunksOf 32 vs.length vs).map (quantiseBlock f)

/-- Sum of element products of two blocks; none where an element is NaN. -/
def blockSum : List (Option Rat) → List (Option Rat) → Option Rat
  | some a :: as, some b :: bs => (blockSum as bs).map (fun r => a * b + r)
  | [], _ | _, [] => some 0
  | _, _ => none

/-- Add the products of a BF16 block to a running sum, in input order (R365). -/
def bf16Sum (acc : F32) : List (Option Rat) → List (Option Rat) → F32
  | a :: as, b :: bs =>
    let p : F32 := match a, b with | some x, some y => .num (x * y) | _, _ => .nan
    bf16Sum (acc.add p) as bs
  | _, _ => acc

/-- A layer's output before bias (R365): block results added in input order. -/
def dotBlocks (bf16 : Bool) (acc : F32) : List Block → List Block → F32
  | w :: ws, x :: xs =>
    let acc' := if bf16 then bf16Sum acc w.elems x.elems
      else match blockSum w.elems x.elems with
        | some r => acc.add (toF32 (r * (w.scale * x.scale)))
        | none => acc.add .nan
    dotBlocks bf16 acc' ws xs
  | _, _ => acc

/-! ### Bounds of the exact functions of Table 9.2 -/

/-- A value rounded down, and up, to a multiple of 2⁻⁸⁰. -/
def dn80 (q : Rat) : Rat := ((q * pow2 80).floor : Rat) * pow2 (-80)
def up80 (q : Rat) : Rat := -dn80 (-q)

/-- Bounds of e^r for r from 0 to 1/2: the series to its 24th term, the tail lying between its first term and twice that. -/
def expSmall (r : Rat) : Rat × Rat :=
  (List.range 24).foldl (fun (b : Rat × Rat) i => (1 + dn80 (r * b.1 / (24 - i : Nat)), 1 + up80 (r * b.2 / (24 - i : Nat)))) (1, 2)

/-- Bounds of e^q for q from 0 to 128, by squaring those of e^(q/256) eight times. -/
def expBounds (q : Rat) : Rat × Rat :=
  (List.range 8).foldl (fun (b : Rat × Rat) _ => (dn80 (b.1 * b.1), up80 (b.2 * b.2))) (expSmall (q / 256))

/-- Bounds of ln(1 + t) for t from 0 to 1: twice the series of artanh(t / (2 + t)). -/
def log1Bounds (t : Rat) : Rat × Rat :=
  let z := t / (2 + t)
  let p := (List.range 30).foldl (fun (b : Rat × Rat) i => (b.1 + b.2 / (2 * i + 1 : Nat), dn80 (b.2 * z * z))) (0, z)
  (2 * p.1 - pow2 (-70), 2 * p.1 + pow2 (-70))

/-- Bounds of the exact tanh (code 3), sigmoid (code 4) and softplus (code 5) of a value. -/
def exactBounds (code : Nat) (q : Rat) : Rat × Rat :=
  let a := qabs q
  let near1 : Rat × Rat := (1 - pow2 (-60), 1)
  if code = 3 then
    let (e, f) := expBounds (2 * a)
    let b := if 32 ≤ a then near1 else ((e - 1) / (e + 1), (f - 1) / (f + 1))
    if q < 0 then (-b.2, -b.1) else b
  else if code = 4 then
    let (e, f) := expBounds a
    let b := if 64 ≤ a then near1 else (e / (1 + e), f / (1 + f))
    if q < 0 then (1 - b.2, 1 - b.1) else b
  else
    let (e, f) := expBounds a
    let b := if 128 ≤ a then (0, pow2 (-184)) else if 20 ≤ a then (1 / f - 1 / (f * f), 1 / e) else
      ((log1Bounds (dn80 (1 / f))).1, (log1Bounds (up80 (1 / e))).2)
    if q < 0 then b else (q + b.1, q + b.2)

/-- An activation by the polynomials of R366, which the manual does not give: a free value within the stated error of the exact
function. -/
def activateBy (code : Nat) (q : Rat) : Rat :=
  let (lo, hi) := exactBounds code q
  let (lo, hi) := if code = 5 then (lo * (1 - pow2 (-20)), hi * (1 + pow2 (-20))) else (lo - pow2 (-22), hi + pow2 (-22))
  max lo (min hi (Config.activation code q))

/-- The activations of Table 9.2. -/
def activate (code : Nat) (x : F32) : F32 :=
  match code, x with
  | 0, x => x
  | 1, .num q => .num (max 0 q)
  | 1, .inf neg => if neg then .num 0 else .inf false
  | 2, .num q => .num (min 6 (max 0 q))
  | 2, .inf neg => .num (if neg then 0 else 6)
  | _, .nan => .nan
  | 3, .inf neg => .num (if neg then -1 else 1)
  | 4, .inf neg => .num (if neg then 0 else 1)
  | _, .inf neg => if neg then .num 0 else .inf false
  | c, .num q => toF32 (activateBy c q)

end Sys2Proof.Machine
end

