-- ==== Sys2Proof/Machine/Table.lean ====
section
/-! DEFINITION. A sparse table: the entries that differ from what an unlisted key reads as, in rising key order. -/

namespace Sys2Proof

/-- A sparse table, one entry a key. -/
structure Tab (α : Type) where
  entries : List (Nat × α) := []
deriving DecidableEq, Repr

/-- The first entry of a key in a list of entries, or `d`. -/
def entryGet {α : Type} (d : α) : List (Nat × α) → Nat → α
  | [], _ => d
  | (k, v) :: rest, i => if k = i then v else entryGet d rest i

/-- The entries with a new one, put before the first larger key. -/
def entryInsert {α : Type} : List (Nat × α) → Nat → α → List (Nat × α)
  | [], i, v => [(i, v)]
  | (k, x) :: rest, i, v => if i < k then (i, v) :: (k, x) :: rest else (k, x) :: entryInsert rest i v

/-- The entries without those of a key. -/
def entryErase {α : Type} : List (Nat × α) → Nat → List (Nat × α)
  | [], _ => []
  | (k, x) :: rest, i => if k = i then entryErase rest i else (k, x) :: entryErase rest i

/-- The entry of a key, or `d` where none is listed. -/
def Tab.get {α : Type} (d : α) (tab : Tab α) (i : Nat) : α := entryGet d tab.entries i

/-- Write one key. Writing what an unlisted key reads as removes the entry, so that equal tables are equal data. -/
def Tab.put {α : Type} [DecidableEq α] (d : α) (tab : Tab α) (i : Nat) (v : α) : Tab α :=
  ⟨if v = d then entryErase tab.entries i else entryInsert (entryErase tab.entries i) i v⟩

/-- Keys strictly rising, and no entry equal to what an unlisted key reads as. -/
def entriesWf {α : Type} [DecidableEq α] (d : α) : List (Nat × α) → Bool
  | [] => true
  | [(_, v)] => decide (v ≠ d)
  | (k, v) :: (k', v') :: rest => decide (v ≠ d) && decide (k < k') && entriesWf d ((k', v') :: rest)

/-- The canonical form of a table. -/
def Tab.wf {α : Type} [DecidableEq α] (d : α) (tab : Tab α) : Bool := entriesWf d tab.entries

end Sys2Proof
end

