-- ==== Sys2Proof/Machine/Types.lean ====
section
/-! DEFINITION. The records State is built of: requests and replies, sessions, events, queues, the journal. -/

namespace Sys2Proof.Machine

/-! ### Gantline (chapter 3) -/

/-- Where the outcome of a request goes: its binding, queue and tag, and what its completion block echoes
(Table 3.23). `session` is 0 for firmware and for a binding that carries none. `safety` and `idempotent` are the
request's flags (Table 3.2); `id` is the model's own: the place of the request among those admitted. -/
structure Origin where
  binding : Binding := .firmware
  queue : Nat := 0
  tag : Nat := 0
  op : Op := .getProp
  object : ObjId := 0
  session : Nat := 0
  safety : Bool := false
  idempotent : Bool := false
  id : Nat := 0
deriving DecidableEq, Repr

/-- A field of a result block or of an event's payload: its size in bytes and its value. -/
structure Fld where
  size : Nat
  val : Int
deriving DecidableEq, Repr

/-- An event record (Table 3.23). -/
structure EventRec where
  num : Nat
  src : ObjId
  stamp : Ns
  csn : Nat
  safety : Bool
  payload : List Fld
  seq : Nat := 0
  lostBefore : Bool := false
deriving DecidableEq, Repr

/-- A reply (Tables 3.3, 3.4). `results` holds the fields of the result block in layout order. -/
structure Reply where
  opcode : Nat
  tag : Nat
  queue : Nat
  object : ObjId
  status : Nat
  results : List Fld
  commitCsn : Nat
  doneTime : Ns
  final : Bool
  safety : Bool
  eventsPending : Bool := false
deriving DecidableEq, Repr

/-- A request outstanding on its queue (R109), in order of admission. `reply` is its outcome once it has one; it is
reported in queue order (O1), after its commit (O4), on the binding it arrived on or, where a repeat was attached to it,
on the repeat's (R169). `wantsReply` is REPLY_REQUIRED. `dueMctp` bounds an MCTP request's final outcome (R117); `mute`
marks a completion entry without a reply (R101, R113). A refused request is not `admitted`: it keeps its place in the
order of its queue alone. `paramLen` is the request's PARAM_LEN; `long`: it may run after ST_ACCEPTED (R136); `noWrite`: host memory takes no reply (R115). -/
structure Outst where
  origin : Origin
  opcode : Nat
  slot : Nat
  replySize : Nat
  wantsReply : Bool
  safety : Bool
  mute : Bool := false
  dueMctp : Option Ns := none
  via : Option Binding := none
  reply : Option Reply := none
  admitted : Bool := true
  paramLen : Nat := 0
  long : Bool := false
  noWrite : Bool := false
deriving DecidableEq, Repr

/-- The binding an outcome is reported on. -/
def Outst.dest (o : Outst) : Binding := o.via.getD o.origin.binding

/-- An admitted request waiting for dispatch (R125), with the AGE_CAP and ARB_WEIGHTS in force at its admission (R138). -/
structure Waiting where
  arr : Arrival
  body : Body
  cls : CmdClass
  since : Ns
  cap : Nat := 2000
  weights : Nat := 0x00080401
deriving DecidableEq, Repr

/-- A request whose COMMAND entry is journaled and not yet committed, so that its effect is still to come (R154). -/
structure Unapplied where
  csn : Nat
  arr : Arrival
  body : Body
  origin : Origin
deriving DecidableEq, Repr

/-- One request in a session's RECALL window (R122), by its origin's `id`. `phase`: 0 never admitted (discarded before
dispatch, R114), 1 admitted and not committed, 2 committed and running, 3 final. -/
structure Recent where
  port : Nat
  queue : Nat
  tag : Nat
  phase : Nat
  status : Nat
  csn : Nat
  id : Nat := 0
deriving DecidableEq, Repr

/-- A watch (R140). -/
structure Watch where
  id : Nat
  object : ObjId
  prop : P
  index : Nat
  minUs : Nat
  delta : Int
  maxUs : Nat
  last : Int
  lastAt : Ns
deriving DecidableEq, Repr

/-- A session (R119–R122, R143–R145, R223). `mask` and `features` are bit sets; `buffer` holds the posted records
not yet released, oldest first; `backlog` the safety records that found no room; `lost` that the next record
delivered carries LOST_BEFORE; `running` the commands running after ST_ACCEPTED (R136); `readTo` the SEQUENCE after the
last record READ_EVENTS returned (R145). -/
structure Session where
  id : Nat
  token : Nat := 0
  features : Nat := 0
  minor : Nat := 0
  mask : Nat := 0
  bindings : List Binding := []
  buffer : List EventRec := []
  backlog : List EventRec := []
  nextSeq : Nat := 0
  lost : Bool := false
  recent : List Recent := []
  running : Nat := 0
  cursor : Nat := 0
  watches : List Watch := []
  noticed : Nat := 0
  readTo : Nat := 0
deriving DecidableEq, Repr

/-- A queue pair of a PCIe endpoint (Tables 3.12, 3.17, 3.18). `fetch` is the next submission slot to fetch, `cqTail`
the next completion slot to write, `unread` the completion entries written and not consumed. -/
structure QueuePair where
  sqBase : Nat := 0
  cqBase : Nat := 0
  vector : Nat := 0
  sizeM1 : Nat := 0
  enable : Bool := false
  error : Nat := 0
  sqTail : Nat := 0
  fetch : Nat := 0
  cqTail : Nat := 0
  cqHead : Nat := 0
  unread : Nat := 0
  phase : Bool := true
deriving DecidableEq, Repr

/-- A PCIe endpoint's registers (Tables 3.12–3.16). `evqUnread` counts the event records written and not consumed. -/
structure Endpoint where
  evqEnable : Bool := false
  evqBase : Nat := 0
  evqVector : Nat := 0
  evqSizeLog2 : Nat := 6
  evqTail : Nat := 0
  evqHead : Nat := 0
  evqUnread : Nat := 0
  evqPhase : Bool := true
  resetBusy : Bool := false
  qps : Tab QueuePair := {}
  msixTable : Tab Nat := {}
  msixPending : Nat := 0
deriving DecidableEq, Repr

/-- A request that waits for a resource of R129, and since when. -/
structure ResWait where
  arr : Arrival
  body : Body
  origin : Origin
  since : Ns
deriving DecidableEq, Repr

/-! ### The journal (chapter 4) -/

/-- The entry kinds of Table 4.3. -/
inductive EntryKind where
  | command | applyBegin | applyEnd | final | safety | membership | checkpoint | session
deriving DecidableEq, Repr

/-- A journal entry (Table 4.2): its header's fields, its body (Table 4.3) as fields in layout order, and the address in
the journal ring it begins at. The body of a COMMAND is the request's own change: `request` holds it, and BODY_LEN is then
the length of its parameter block. -/
structure Entry where
  csn : Nat
  term : Nat
  kind : EntryKind
  stamp : Ns
  origin : Origin
  refCsn : Nat := 0
  body : List Fld := []
  request : Option Body := none
  bodyLen : Nat := 0
  addr : Nat := 0
deriving DecidableEq, Repr

/-- A completion that waits for its FINAL entry to commit (R135, O4): the entry's CSN, and what the completion event
carries. -/
structure Ending where
  csn : Nat
  origin : Origin
  ev : Ev
  status : Status
  data : List Int
  detail : Int
deriving DecidableEq, Repr

/-- A command whose effect is not a target state, between its APPLY_BEGIN and APPLY_END (R153, R168). -/
structure Applying where
  origin : Origin
  csn : Nat
deriving DecidableEq, Repr

/-- The journal of the leader (R153–R157): the CSN last assigned, the CSN up to which entries are committed, the CSN
up to which the NAND solo journal holds them, the entries since the latest checkpoint, oldest first, and the
checkpoint's CSN and instant. `stalled` stops dispatch until a new leader is in place (R155, R170), `lost` until a
device reset (R157). `ring` is the address in the journal ring of 8 MiB the next entry begins at. -/
structure Journal where
  assigned : Nat := 0
  committed : Nat := 0
  nand : Nat := 0
  entries : List Entry := []
  checkpointCsn : Nat := 0
  checkpointAt : Ns := 0
  stalled : Bool := false
  lost : Bool := false
  ring : Nat := 0
deriving DecidableEq, Repr

/-! ### The long event log (chapter 19) -/

/-- A record of the long event log (Table 19.8, Table 11.3). -/
structure LogRec where
  type : Nat
  src : ObjId
  stamp : Ns
  csn : Nat
  safety : Bool
  tile : Nat
  payload : List Fld
deriving DecidableEq, Repr

/-- The long event log (R733–R737): records awaiting the NAND in retained memory, records the NAND holds (newest
last), the ordinal of the next record and of the oldest held, and records lost since the last gap record. -/
structure EventLog where
  waiting : List LogRec := []
  held : List LogRec := []
  first : Nat := 0
  lost : Nat := 0
deriving DecidableEq, Repr

/-! ### Rails and sequences (chapter 6) -/

/-- A rail's supervision (R236–R239, R246, R264): its latest code, the instants its conditions have been met since,
which are confirmed, the raw-good transitions the detector
counts and those seen at all, and how far its enable or disable has come. `goodOnce`: good
has been confirmed since the enable. -/
structure RailSt where
  enabled : Bool := false
  heldOff : Bool := false
  code : Nat := 0
  overSince : Option Ns := none
  highSince : Option Ns := none
  lowSince : Option Ns := none
  belowSince : Option Ns := none
  goodSince : Option Ns := none
  above : Bool := false
  high : Bool := false
  low : Bool := false
  below : Bool := false
  good : Bool := false
  raw : Bool := false
  transitions : List Ns := []
  seen : List Ns := []
  undischargedSince : Option Ns := none
  goodOnce : Bool := false
  deadline : Option Ns := none
  disabledAt : Option Ns := none
  offHold : Bool := false
  lastCause : Nat := 0
  enableCmd : Option Origin := none
deriving DecidableEq, Repr

/-- An on-sequence of one or more scopes (R244, R245): waiting for its preconditions while `start` is none; then τ is
`tau` at `since` and advances unless `holding`. `auto`: an automatic start. -/
structure Run where
  scopes : List Nat
  all : List Nat
  joint : Bool
  auto : Bool
  start : Option Ns := none
  tau : Ns := 0
  since : Ns := 0
  holding : Bool := false
deriving DecidableEq, Repr

/-- An off-sequence (R248): its scopes, the rails it still has to disable, those it disables at all, and σ. -/
structure OffRun where
  scopes : List Nat
  rails : List Nat
  all : List Nat
  sigma : Ns := 0
  since : Ns := 0
  holding : Bool := false
deriving DecidableEq, Repr

/-- A START_SEQUENCE that runs: the scopes whose outcome it waits for, and the first failure among them (R253). -/
structure StartCmd where
  origin : Origin
  scopes : List Nat
  status : Status := .ok
  rail : Nat := 0xFFFF
deriving DecidableEq, Repr

/-- A STOP_SEQUENCE that runs, with the scopes it waits for (Table 6.9). -/
structure StopCmd where
  origin : Origin
  scopes : List Nat
deriving DecidableEq, Repr

/-- A furl of a scope (R454–R458): its origin and channel, F, its cut instant, its deadline in ms, the confirming
reading and the threshold, and the reason it was cut for. -/
structure FurlSt where
  origin : Nat := 0
  channel : Nat := 0xFFFF
  start : Ns := 0
  cut : Ns := 0
  deadline : Nat := 0
  temp : Int := -2147483648
  threshold : Int := 0
  reason : Nat := 0xFF
deriving DecidableEq, Repr

/-- A FURL command that runs, with the scopes whose off-sequences it waits for (R461). -/
structure FurlCmd where
  origin : Origin
  scopes : List Nat
deriving DecidableEq, Repr

/-- A failure confirmed within the 100 µs of an incident (R265). -/
structure Failure where
  rail : Nat
  cause : Nat
  failTime : Ns
  confirmTime : Ns
  scope : Nat
  state : Nat
  code : Nat
  seqTime : Nat
deriving DecidableEq, Repr

/-- What a NOR write stores. -/
inductive NorWhat where
  | firstFault (r : FirstFault)
  | record (r : MetaRec)
  | plate (n : Nat)
  | tdCopy (n : Nat)
deriving DecidableEq, Repr

/-- A NOR write in progress (R22), and the command that waits for it. -/
structure NorWrite where
  what : NorWhat
  origin : Option Origin := none
deriving DecidableEq, Repr

/-! ### Legs and domains (chapter 7) -/

/-- The reference of a domain (R250, R281): stopped, ramping up from its enable, regulating, ramping down. -/
inductive DomMode where
  | stopped | rampUp | on | rampDown
deriving DecidableEq, Repr

/-- A domain's loop (R280, R281, R287, R295): its reference in µV, the ramp it is on, the histories of e and of u (u in
1/256 of 125 ps), the currents of the last 560 slots and the
powers of the last twenty (nW; newest first), its DOMAIN_RUN bit, and the instants its
protections wait on. -/
structure DomSt where
  mode : DomMode := .stopped
  rampAt : Ns := 0
  ramp : Ns := 0
  rampFrom : Int := 0
  ref : Int := 0
  refAt : Ns := 0
  volt : Int := 0
  es : List Int := [0, 0, 0]
  us : List Int := [0, 0, 0]
  currents : List Int := []
  powers : List Int := []
  run : Bool := false
  shedSince : Option Ns := none
  lastShed : Option Ns := none
  ocSince : Option Ns := none
  ocFired : Bool := false
  ocBelow : Option Ns := none
  misses : Nat := 0
  mirrored : Bool := false
  placed : List Nat := []
deriving DecidableEq, Repr

/-- A run of consecutive samples that met a condition: how many, and the instant of the first. -/
structure Streak where
  n : Nat := 0
  since : Ns := 0
deriving DecidableEq, Repr

/-- A leg's fault runs (Table 7.5), its wake and drain, the word its engine computed last and the one launched last
(Tables 7.2, 7.3), and the pulse the next slot carries on. -/
structure LegSt where
  sent : Nat := 0
  ahead : List (Nat × Nat) := []
  carry : Nat := 0
  peak : Streak := {}
  ocSince : Option Ns := none
  neg : Streak := {}
  hot : Streak := {}
  stage : Streak := {}
  wordErr : Streak := {}
  drainAt : Option Ns := none
  disableAfter : Bool := false
  wakeAt : Option Ns := none
deriving DecidableEq, Repr

/-- A rotation of one local leg to a spare (R298, R299): the leg and spare compared, slots and sum of differences so
far (own minus spare), and the first comparison's spare and sum once a second one runs. -/
structure CalRun where
  leg : Nat
  spare : Nat
  slots : Nat := 0
  sum : Int := 0
  first : Option (Nat × Int) := none
deriving DecidableEq, Repr

/-- A relay's calibration and side channel (R298–R300, R306–R312). `spareCh` is the channel each of the eight spares
stands for, `free` lists the usable spares, `calibrating` those whose channel is being calibrated; `acks` the CONFIGURE
kinds acknowledged; `configs` the thresholds of the CONFIGUREs of kind 0 that await their acknowledgement (first domain and
values), and `agreed` those acknowledged (domain rail, value, SLOT they apply from); `safe`: SAFE_HELD stands; `rejected`:
its configuration was refused. -/
structure RelaySt where
  spareCh : List Nat := [72, 73, 74, 75, 76, 77, 78, 79]
  free : List Nat := [0, 1, 2, 3, 4, 5, 6, 7]
  calibrating : List Nat := []
  nextLeg : Nat := 0
  cal : Option CalRun := none
  staleRun : Nat := 0
  wordStale : Bool := false
  firstStale : Nat := 0
  safe : Bool := false
  identified : Bool := false
  rejected : Bool := false
  incarnation : Nat := 0
  compat : Nat := 0
  fw : Nat := 0
  acks : List Nat := []
  configs : List (Nat × List Int) := []
  agreed : List (Nat × Int × Nat) := []
deriving DecidableEq, Repr

/-! ### Links (R199–R212, R568–R573) -/

/-- A DATA flit sent: its SEQ, its stream or virtual channel, the message it is part of, and the instant that was
queued. -/
structure TxFlit where
  seq : Nat := 0
  since : Ns := 0
  ch : Nat := 0
  kind : Nat := 0
  num : Nat := 0
  first : Bool := true
  last : Bool := true
  data : List Nat := []
deriving DecidableEq, Repr

/-- A port's link state (Table 5.4): the state and when it was entered, when DOWN was left or RETRAIN entered, the
consecutive good TRAIN flits received, whether LOCK is passed, and those with RX_OK since; T_TX and arrival of the latest
training payload, the smallest round trip of the latest training and the one-way delay; the last SEQ accepted and
whether any was, the message bytes taken in of each channel, whether a NAK stands or is still to be sent, consecutive bad
flits; the next SEQ to send, flits sent and not acknowledged, flits waiting for credit, the credits of each channel,
replays without ACK advancing, and the instant ACK last advanced. `fenced`: it went down with a fenced tile. `why`: the
status it was rejected with, and the serial number that was. `vcTurn`: VC2 flits sent since the latest VC3 flit (R572), or
bulk flits sent while urgent ones wait (R207). -/
structure Link where
  state : Nat := 0
  since : Ns := 0
  left : Ns := 0
  rxGood : Nat := 0
  aligned : Bool := false
  rxOk : Nat := 0
  rxTtx : Nat := 0
  rxAt : Ns := 0
  best : Option Nat := none
  oneWay : Nat := 0
  rxSeq : Nat := 4095
  rxSeen : Bool := false
  rxBuf : Tab (List Nat) := {}
  nak : Bool := false
  nakDue : Bool := false
  badRun : Nat := 0
  txSeq : Nat := 0
  unacked : List TxFlit := []
  queue : List TxFlit := []
  credits : List Nat := []
  replays : Nat := 0
  ackAt : Ns := 0
  fenced : Bool := false
  why : Nat := 0
  whySerial : Nat := 0
  vcTurn : Nat := 0
deriving DecidableEq, Repr

/-- A Shroud message held for a missing number (R209). -/
structure HeldMsg where
  accel : Nat
  stream : Nat
  num : Nat
  port : Nat
  since : Ns := 0
  msg : ShroudMsg
deriving DecidableEq, Repr

/-- A hold of an ALERT of severity 2 (R222). -/
structure AlertHold where
  accel : Nat
  code : Nat
  level : Nat
deriving DecidableEq, Repr

/-! ### Ratline (chapter 14) -/

/-- A Ratline port's neighbour (R570, R579, R587): its accepted identity, its latest advert and the instant the
advert's ROOT_SEQ last advanced, the latest time exchanges (own time, offset of the parent; newest first), and how many
in a row were within 20 ns. -/
structure RatPort where
  accepted : Bool := false
  rackId : Nat := 0
  far : Nat := 0
  incarnation : Nat := 0
  advert : Option Advert := none
  freshAt : Ns := 0
  exchanges : List (Ns × Int) := []
  close : Nat := 0
deriving DecidableEq, Repr

/-- A RACK_HELLO heard (R336, R577): its tray, the port it came in on, the hops it took, when, and its STAMP. -/
structure Hearing where
  serial : Nat
  port : Nat
  hops : Nat
  at_ : Ns
  stamp : Nat
  prio : Nat
  locked : Bool
deriving DecidableEq, Repr

/-! ### Power budget (chapter 8) -/

/-- A budget node (Table 8.2): the exact DEFICIT, the grants that wait for their instants, oldest first, the LIMITs
still in force until theirs (R323), and the flags of Table 8.10. -/
structure NodeSt where
  deficit : Rat := 0
  pend : List (Ns × Int) := []
  lims : List (Ns × Int) := []
  clipped : Bool := false
  rationed : Bool := false
deriving DecidableEq, Repr

/-- A member of the rack at its leader, or a rack at the masthead (R337–R341): its latest report, and its latest
grant, DEFICIT and AGE. -/
structure BudgetMember where
  serial : Nat
  rackId : Nat := 0
  taddr : Nat := 0
  epoch : Nat := 0
  demand : Int := 0
  minGrant : Int := 0
  wsum : Nat := 0
  flags : Nat := 0
  heardAt : Ns := 0
  last : Int := 0
  deficit : Rat := 0
  age : Nat := 0
  rationed : Bool := false
deriving DecidableEq, Repr

/-- Fast protection (R346–R350): the first sample of the run above the threshold, whether that run was confirmed, when,
the samples' run at or below the release band, and whether source 0 is stepping down. -/
structure FastSt where
  above : Option Ns := none
  fired : Bool := false
  confirmedAt : Ns := 0
  firstAbove : Ns := 0
  low : Option Ns := none
  stepping : Bool := false
deriving DecidableEq, Repr

/-! ### Forecast array (chapter 9) -/

/-- A slot's training settings (Table 9.11). -/
structure Training where
  mode : Nat := 0
  persist : Nat := 0
  lr : Nat := 0
  drift : Nat := 0
  under : Nat := 20
  margin : Nat := 20
  interval : Nat := 10000
  sample : Nat := 256
deriving DecidableEq, Repr

/-- A training sample (R393): the instant of its step, its number once it is in the ring, the feature vector as BF16, the eight F(h)
and the eight realised currents. -/
structure TrainSample where
  at_ : Ns
  num : Nat := 0
  features : List F32 := []
  forecast : List Int := []
  realised : List Rat := []
deriving DecidableEq, Repr

/-- A model slot beside its properties (R378, R392–R403). `holder` is the BEGIN that holds it, `ending` the END being
checked, `prior` the state before BEGIN; `parts` the bytes received; `bytes` its container; `gen` the generation in use
and `rollback` the one kept; `ring` how many samples the ring of the training store holds and `store` those samples, newest first (R393); `tags` the tags given rows in training; `errM`, `errP`, `bad` the running window of each
tile and its windows in a row above the ratio; `outs` outputs and faults of the last second. -/
structure Model where
  holder : Option Origin := none
  ending : Option Origin := none
  prior : Nat := 0
  total : Nat := 0
  keep : Bool := false
  parts : List (Nat × List Nat) := []
  bytes : List Nat := []
  gen : Nat := 0
  rollback : Option Nat := none
  training : Training := {}
  tags : List Nat := []
  misses : Nat := 0
  samples : Nat := 0
  ring : Nat := 0
  store : List TrainSample := []
  dropped : Nat := 0
  minibatches : Nat := 0
  candidates : Nat := 0
  promotions : Nat := 0
  rollbacks : Nat := 0
  sRatio : Int := 0
  uCand : Int := 0
  uAct : Int := 0
  faults : Nat := 0
  ratio : List Int := [0, 0, 0]
  errM : List Rat := [0, 0, 0]
  errP : List Rat := [0, 0, 0]
  bad : List Nat := [0, 0, 0]
  outs : List (Ns × Nat × Nat) := []
  shelfDue : Bool := false
  shelfAt : Option Ns := none
deriving DecidableEq, Repr

/-- A domain's forecast (R368–R370): what the step in progress will publish (nothing where it is missing), the t_j and
version of the forecast in force, consecutive valid and missing steps, the step it was bound at, steps whose F(8 µs)
and persistence wait for the realised current, and samples that wait 256 µs for theirs. -/
structure FcDom where
  next : Option (List Int) := none
  at_ : Ns := 0
  version : Nat := 0
  valid : Bool := false
  okRun : Nat := 0
  missRun : Nat := 0
  fresh : Bool := true
  hist : List (Ns × Int × Rat) := []
  sampleAt : Ns := 0
  samples : List TrainSample := []
deriving DecidableEq, Repr

/-- A change that waits for its switch instant (R382, R398, R399): a binding mask, or a generation. -/
structure Switch where
  at_ : Ns
  csn : Nat
  slot : Nat
  mask : Option Nat := none
  gen : Option Nat := none
deriving DecidableEq, Repr

/-- A slot's place on the model shelf (R380, R400). -/
structure Shelved where
  bytes : List Nat := []
  mask : Nat := 0
  training : Training := {}
  gen : Nat := 0
deriving DecidableEq, Repr

/-- A write to the NAND in progress that something waits for (R739). -/
inductive NandWhat where
  | model (slot : Nat)
  | program (e : Nat)
  | stage (o : Origin) (csn off : Nat) (bytes : List Nat)
deriving DecidableEq, Repr

/-! ### Lockstep and phase plans (chapter 10) -/

/-- A local member of a lockstep group (R414–R425): its cause of lagging, whether it has lagged in this round and has
ever been in step, the latest FREQ_COMMIT (round, frequency, instant, g) and what was acknowledged, TELEMETRY in a row
below it, rounds in a row with a proposal of at least g, and that it leaves at the next round. -/
structure LockMember where
  cause : Nat := 0
  lagged : Bool := false
  joined : Bool := false
  round : Nat := 0
  committed : Nat := 0
  at_ : Ns := 0
  g : Nat := 0
  sent : Bool := false
  acked : Bool := false
  applied : Nat := 0
  lateness : Int := 0
  low : Nat := 0
  okRun : Nat := 0
  leaving : Bool := false
  suspended : Bool := false
deriving DecidableEq, Repr

/-- A group this tray has seen committed: grid, AT, members and flags of the latest commit, and when its rate-limited
events were raised last. -/
structure LockGroup where
  grid : Nat := 0
  at_ : Ns := 0
  members : Nat := 0
  flags : Nat := 0
  freqEv : Option Ns := none
  partEv : Option Ns := none
deriving DecidableEq, Repr

/-- A group of the masthead's table (R411): its grid, the g committed last, rounds in a row in which no entry named it. -/
structure TableGroup where
  group : Nat
  grid : Nat
  g : Nat := 0
  unseen : Nat := 0
deriving DecidableEq, Repr

/-- A JOIN_GROUP or LEAVE_GROUP that runs (Table 10.3): its group, accelerators and grid; the instant a LOCK_JOIN_ACK is
missing at, rounds since the members joined, the instant a leave is complete without FREQ_ACK, and the round it was released in. -/
structure LockCmd where
  origin : Origin
  group : Nat
  mask : Nat
  grid : Nat := 0
  leave : Bool := false
  ackDue : Option Ns := none
  rounds : Nat := 0
  done : Option Ns := none
  waitFor : List Nat := []
  round : Nat := 0
deriving DecidableEq, Repr

/-- A plan window (R430): T_x, its beginning, and the spans of its value: until when, and how much (mW). -/
structure PlanWin where
  x : Int := 0
  start : Int := 0
  spans : List (Int × Rat) := []
deriving DecidableEq, Repr

/-- The phase an accelerator is in, as observed (R432): its start, tag and mapping, the 10 µs means of its first 2 ms,
the sum, count and largest of all of them, and how many were limited. -/
structure PhaseObs where
  start : Ns := 0
  tag : Nat := 0
  mapping : Nat := 0
  means : List Rat := []
  sum : Rat := 0
  n : Nat := 0
  peak : Rat := 0
  limited : Nat := 0
deriving DecidableEq, Repr

/-! ### Global operations and remote Gantline (R590–R602) -/

/-- An operation held (R590): the local requests that wait for it; `begun` once this tray takes part; its up port then;
when its wait closes; the children expected and heard; the status of its own part, once there is one, and the CSN that
must be committed first; what is merged so far; the snapshot record of its own; `closed` once its OP_UP is out; and the
instant a snapshot stops waiting for data. -/
structure GlobalOp where
  opId : Nat := 0
  kind : Nat := 0
  reduceOp : Nat := 0
  scope : Nat := 0
  timeout : Nat := 0
  origins : List Origin := []
  issuer : Nat := 0
  root : Bool := false
  begun : Bool := false
  parent : Int := -1
  closeAt : Ns := 0
  expected : List Nat := []
  heard : List Nat := []
  own : Option Nat := none
  ownCsn : Nat := 0
  up : OpMsg := {}
  at_ : Ns := 0
  items : List SnapItem := []
  record : List Fld := []
  closed : Bool := false
  dataDue : Option Ns := none
deriving DecidableEq, Repr

/-- A result a session holds (Table 14.8), and when the operation completed. -/
structure OpResult where
  session : Nat
  at_ : Ns
  status : Nat
  truncated : Bool := false
  msg : OpMsg
  reply : List Nat := []
deriving DecidableEq, Repr

/-- A snapshot buffer (R598); `opId` is 0 until the operation's is known. -/
structure SnapBuf where
  session : Nat
  origin : Origin
  opId : Nat := 0
  records : List (List Fld) := []
  spill : List Nat := []
deriving DecidableEq, Repr

/-- A remote request outstanding at its origin (R602); `fail` where it could not leave (R576). -/
structure RemoteOut where
  origin : Origin
  opId : Nat
  addr : Nat
  serial : Nat
  attempt : Nat := 1
  due : Ns
  fail : Option Status := none
  hdr : Header
  body : Body
deriving DecidableEq, Repr

/-- A remote request received (R601, R602): its origin's serial and address, its queue and tag, and its reply, if it
has one. -/
structure RemoteIn where
  serial : Nat
  addr : Nat
  queue : Nat
  tag : Nat
  reply : Option (List Nat) := none
deriving DecidableEq, Repr

/-! ### Burin engines and event controllers (chapter 13) -/

/-- One register level (R523): g0–g15, the flags, the program counter, the remaining budget; its priority and source,
and the index of its claim record. -/
structure Level where
  g : List (BitVec 32) := List.replicate 16 0
  z : Bool := false
  n : Bool := false
  c : Bool := false
  v : Bool := false
  pc : Nat := 0
  budget : Nat := 0
  prio : Nat := 15
  source : Nat := 0
deriving DecidableEq, Repr

/-- An engine beside its properties (R518–R541). `image` and `slot` are its program and signing slot; `data` its data
memory; `stack` its levels, the top first; `init` whether INIT is due (1) or running (2); `timer` the stamp and ticks of
a TIMER delivery that waits; `replies` the slots and stamps of REPLY deliveries that wait; `period` in µs; `overruns`
the instants of budget overruns; `startBy` a START_PROGRAM that waits for INIT; `holder`, `ending`, `prior`, `total`,
`keep`, `auto`, `parts` a load in progress; `before` the state before LOST, `moved` that its program was relocated;
`shelved` that its image is on the shelf. -/
structure Engine where
  image : List Nat := []
  slot : Nat := 0
  data : Tab Nat := {}
  stack : List Level := []
  init : Nat := 0
  timer : Option (Ns × Nat) := none
  replies : List (Nat × Ns) := []
  period : Nat := 0
  overruns : List Ns := []
  startBy : Option Origin := none
  holder : Option Origin := none
  ending : Option Origin := none
  prior : Nat := 0
  total : Nat := 0
  keep : Bool := false
  auto : Nat := 0
  parts : List (Nat × List Nat) := []
  before : Nat := 0
  moved : Bool := false
  shelved : Bool := false
deriving DecidableEq, Repr

/-- An occurrence's claim record (R525): an event record, and whether SOFT_PEND set it pending. -/
structure Occurrence where
  record : EventRec
  software : Bool := false
deriving DecidableEq, Repr

/-- A source on a tile beside SRC_CONFIG (R550–R559): its counts, the records held, the engine assigned, the target
assigned before, the latest claim, occurrences merged in re-pend mode, and the occurrences posted since cold boot. -/
structure SrcSt where
  pending : Nat := 0
  overflow : Bool := false
  repend : Bool := false
  lost : Nat := 0
  recs : List Occurrence := []
  lostBefore : Bool := false
  assigned : Option Nat := none
  lastTarget : Option Nat := none
  claimAt : Option Ns := none
  merged : Nat := 0
  posted : Nat := 0
deriving DecidableEq, Repr

/-- A program image on the shelf (R534, R537). -/
structure ShelfProg where
  bytes : List Nat := []
  auto : Nat := 0
deriving DecidableEq, Repr

/-! ### Heat and coolant (chapters 11, 12) -/

/-- A thermal channel (R444–R447, R450): the last two valid readings, newest first; for REEF_T, FURL_T and TRIP_T the
valid readings in a row above it with the first one's instant, and those in a row at or below it less HYST; readings in a
row invalid and valid, why they were invalid; whether the channel qualifies for the fast round, and since when it has been
cool. -/
structure ThermSt where
  last : List Int := []
  ups : List (Nat × Ns) := [(0, 0), (0, 0), (0, 0)]
  downs : List (Nat × Ns) := [(0, 0), (0, 0), (0, 0)]
  bad : Nat := 0
  good : Nat := 0
  reason : Nat := 0
  wants : Bool := false
  coolSince : Option Ns := none
deriving DecidableEq, Repr

/-- A fan or pump channel (R473–R484): its attempt count and when its state was entered, the latest tach edges and current
samples (newest first), edges since the state was entered, the current band (0 none, 1 OPEN, 2 STALL, 3 RUNNING) and since
when, the moving speed target, the last voltage applied in RUN, the setter's value, tach periods in a row near the
estimate, and whether its next confirmed running is an arrival. -/
structure DriveSt where
  attempt : Nat := 0
  since : Ns := 0
  edges : List Ns := []
  edgeCount : Nat := 0
  isns : List Int := []
  band : Nat := 0
  bandAt : Ns := 0
  speedT : Rat := 0
  lastRun : Nat := 0
  value : Int := 0
  near : Nat := 0
  arrives : Bool := true
  table : Option FanTable := none
deriving DecidableEq, Repr

/-- A leak zone (R504, R505): the first wet sample of the present run, samples in a row that break continuity and that
have it, the state DRYING came from, and whether the latest sample was wet. -/
structure ZoneSt where
  firstWet : Ns := 0
  broken : Nat := 0
  whole : Nat := 0
  came : Nat := 2
  wet : Bool := false
deriving DecidableEq, Repr

/-- An accelerator's branch (R495, R500–R502): k_a, the hottest readings of the last second, whether it has fallen back to
mode 0 and since when its inputs are valid again, and since when its valve is away from its command. -/
structure BranchSt where
  k : Rat := 1
  hots : List (Ns × Int) := []
  fallback : Bool := false
  okSince : Option Ns := none
  offSince : Option Ns := none
deriving DecidableEq, Repr

/-! ### Ethernet sessions (R683–R685) -/

/-- A handshake that has answered INIT: its SESSION, the operator it names, and when it is dropped. -/
structure EthShake where
  port : Nat
  session : Nat
  operator : Nat
  due : Ns
deriving DecidableEq, Repr

/-- An authenticated session: when it opened, the highest SEQ accepted (−1 none), which of the 128 below it have been
accepted (bit k − 1: k below), and records of each direction. -/
structure EthSess where
  port : Nat
  session : Nat
  opened : Ns
  high : Int := -1
  seen : Nat := 0
  got : Nat := 0
  sent : Nat := 0
deriving DecidableEq, Repr

/-! ### Memory and the recorder (chapter 16) -/

/-- A decision that waits to be recorded (Table 16.7): its type, object and VALUE, with what further units hold, and its instant. -/
structure Decision where
  kind : Nat
  obj : ObjId
  at_ : Ns
  value : List Fld
deriving DecidableEq, Repr

/-- A slot frame the ring holds (Table 16.6), one block of 176 bytes for each relay, with the decision records after it; the bytes
of those of class 0 and of class 1; where in the stream it begins, and the stack and the segment of that stack. -/
structure SlotFrame where
  slot : Nat
  csn : Nat := 0
  stale : Nat := 65535
  flags : Nat := 0
  blocks : List (List Nat) := []
  records : List (List Fld) := []
  own : Nat := 0
  turn : Nat := 0
  pos : Nat := 0
  place : Nat × Nat := (0, 0)
deriving DecidableEq, Repr

/-- What a stipple frame's means and extremes cover of one quantity since the last frame (Table 16.10): its samples' sum, number and
extremes. -/
structure Meter where
  sum : Rat := 0
  n : Nat := 0
  high : Rat := 0
  low : Rat := 0
deriving DecidableEq, Repr

/-- One more sample. -/
def Meter.add (m : Meter) (v : Rat) : Meter :=
  { sum := m.sum + v, n := m.n + 1, high := if m.n = 0 ∨ m.high < v then v else m.high, low := if m.n = 0 ∨ v < m.low then v else m.low }

/-- The recorder beside its properties (R647 to R651, Table 16.9): the instant its ring was empty at, Z and when it froze, the
trigger list, the gaps and the poisoned ranges, in slots; the ring's frames, the latest first, and whether the latest still takes
samples; the bytes written so far, the decisions that wait, the commit and the event recorded last, the domain class 1 comes to
next, and the bytes of decision records of the last second; whether the next frame is poisoned; the meters of the stipple interval
that runs, and the domains whose PLAN_SOURCE has been 1 throughout it (R654). -/
structure Recorder where
  start : Ns := 0
  z : Ns := 0
  frozenAt : Ns := 0
  triggers : List (Ns × Nat) := []
  gaps : List (Nat × Nat) := []
  poisoned : List (Nat × Nat) := []
  frames : List SlotFrame := []
  filling : Bool := false
  pos : Nat := 0
  waits : List Decision := []
  seenCsn : Nat := 0
  seenEvents : Nat := 0
  nextDomain : Nat := 0
  extra : Nat := 0
  poison : Bool := false
  meters : Tab Meter := {}
  planned : List Nat := []
deriving DecidableEq, Repr

/-- A stipple frame: its instant, and its three sections (Table 16.10). -/
structure StippleFrame where
  at_ : Ns
  sections : List (List Fld)
deriving DecidableEq, Repr

/-- A running export (R655–R657): what it will write (`data`), its buffers, and on PATH 1 and 2 the bytes and messages so far, those not
acknowledged, and when an acknowledgement or data last came. -/
structure Export where
  origin : Origin
  path : Nat
  content : Nat
  id : Nat
  addr : Nat := 0
  serial : Nat := 0
  room : Nat := 0
  data : List Nat := []
  since : Ns := 0
  next : Nat := 0
  open_ : List Nat := []
  got : Nat := 0
  heard : Ns := 0
deriving DecidableEq, Repr

/-- A corrected word of a DRAM row (R641). -/
structure RowHit where
  stack : Nat
  die : Nat
  row : Nat
  at_ : Ns
deriving DecidableEq, Repr

/-! ### Two-wire buses (chapter 15) -/

/-- What a request of a controller port is for: a pass-through transfer, a PMBus read by its command code, a PMBus write, a
step of a relay's image transfer. -/
inductive BusWork where
  | transfer
  | pmRead (addr code : Nat) (vout : Bool)
  | pmWrite
  | relay (r : Nat)
deriving DecidableEq, Repr

/-- A request of a controller port (R614): its owner (0 FIRMWARE, 1 BURIN, 2 HOST), its command and that command's CSN, its
transactions, its retries and when it was queued. -/
structure BusReq where
  owner : Nat
  origin : Option Origin := none
  csn : Nat := 0
  work : BusWork
  txns : List (List BusSeg)
  retries : Nat
  since : Ns
deriving DecidableEq, Repr

/-- A BUS_RECOVER that waits: its sub-function and CSN, and whether its switch action is done. -/
structure RecCmd where
  origin : Origin
  kind : Nat
  csn : Nat
  acted : Bool
deriving DecidableEq, Repr

/-- A controller port beside its properties (R614–R623): the requests queued, the place in the grant order, the hold with
its transaction, attempt and reads so far, whether that transaction waits for the bus, whether a recovery is due, the
BUS_RECOVERs that wait, and a configuration that waits for the bus to be free. -/
structure BusSt where
  queue : List BusReq := []
  turn : Nat := 0
  hold : Option BusReq := none
  index : Nat := 0
  tries : Nat := 0
  holdSince : Ns := 0
  reads : List (List Nat) := []
  paused : Bool := false
  look : Bool := false
  recCmds : List RecCmd := []
  config : Option Nat := none
deriving DecidableEq, Repr

/-- What became of a step of a relay's image transfer (R704): NEXT_OFFSET and STATUS where they were read. -/
structure RelayDone where
  relay : Nat
  status : Status
  reads : List (List Nat)
deriving DecidableEq, Repr

/-- A target port's byte window and MCTP assembly (R624–R627): pointer, latched TIME, the REQUEST area, MBX_STATUS and REPLY;
the SEQ the next MCTP packet must carry and the bytes assembled, the requester's address, retries of the packet being
sent. -/
structure WinSt where
  ptr : Nat := 0
  time : Ns := 0
  request : Tab Nat := {}
  status : Nat := 0
  reply : List Nat := []
  mctp : Option (Nat × Nat × Nat) := none
  peer : Nat := 0
  retries : Nat := 0
deriving DecidableEq, Repr

/-! ### The stage (chapter 18) -/

/-- The stage beside its properties (R693, R694): the bytes written, the session that holds it, and the VERIFY_STAGE that
runs. -/
structure Stage where
  parts : List (Nat × List Nat) := []
  holder : Option Nat := none
  verifying : Option Origin := none
deriving DecidableEq, Repr

/-- A component entry of a bundle (Table 18.2). -/
structure Comp where
  kind : Nat
  vendor : Nat
  device : Nat
  targets : Nat
  version : Nat
  offset : Nat
  length : Nat
  compat : Nat
  digest : Nat
deriving DecidableEq, Repr

/-- An ETCH that runs (R696, R712): its command, and the plate or the copy it writes. `resets`: it is done, and an ACTIVE record
that resets the device follows (R698). -/
structure Etch where
  origin : Origin
  copy : Bool
  target : Nat
  resets : Bool := false
deriving DecidableEq, Repr

/-- An instance that an update names (R701): its kind (0 controller, 1 relay, 2 accelerator) and index, the DEVICE_ID it is
grouped by, whether it is present, its present and target COMPAT_IDs, and the entry of its image. -/
structure UpdInst where
  kind : Nat
  inst : Nat
  device : Nat
  here : Bool
  compat : Nat
  target : Nat
  comp : Nat
deriving DecidableEq, Repr

/-- One update step (R703): an instance with its present and target versions. -/
structure UpdStep where
  unit : UpdInst
  src : Nat
  dst : Nat
deriving DecidableEq, Repr

/-- Where ACTIVATE is (R703–R708): between steps; waiting for a scope's OFF; for the outcome of a command to a relay's
management device (0 BEGIN, 1 DATA, 2 verify, 3 activate, 4 status after a write, 5 status while it verifies); for the part to
arrive again; for QSTATE 2; streaming chunks; waiting for IMAGE_STATUS 1; for an ACTIVE record; for the tiles to restart; for
the ACTIVE record of the old plate; for the tiles to return to it. -/
inductive UpdPhase where
  | next | scopeOff | bus (cmd : Nat) | restart | quiesce | stream | verify | record | roll | undo | unroll
deriving DecidableEq, Repr

/-- An ACTIVATE that runs: its command and CSN, STOP_ALLOWED, the steps left (the first is the one in progress), how many are
done and how many there are, the phase, the scopes it keeps OFF, the image transfer's IMAGE_ID, NEXT_OFFSET and next byte to
send, the INCARNATION before the part restarts, the plate that was active, the record it waits for, and whether a tile was lost
unplanned (R709). -/
structure Activation where
  origin : Origin
  csn : Nat
  stop : Bool
  todo : List UpdStep
  done : Nat := 0
  all : Nat
  phase : UpdPhase := .next
  kept : List Nat := []
  image : Nat := 0
  offset : Nat := 0
  sent : Nat := 0
  mark : Nat := 0
  old : Nat := 0
  record : Nat := 0
  halted : Bool := false
  waits : Option Ns := none
deriving DecidableEq, Repr

/-- Tiles restarted one by one (R680, R707, R708): those left, the first being the one whose loops move away or that rejoins;
whether it has been fenced; whether the tiles take a new image; and the outcome: done, or the tile that did not join. -/
structure Roll where
  left : List Nat
  fenced : Bool := false
  update : Bool
  result : Option (Option Nat) := none
deriving DecidableEq, Repr

/-- A REVOKE_KEY that runs (R680): its command and CSN, the slot, the record it waits for, whether it restarts Fore, and whether
it does so now. -/
structure Revoke where
  origin : Origin
  csn : Nat
  slot : Nat
  record : Nat
  trio : Bool
  rolls : Bool := false
deriving DecidableEq, Repr

/-- The wake record (R675). -/
structure WakeRec where
  plate : Nat
  digest : Nat
  svn : Nat
  slot : Nat
  len : Nat
  seq : Nat
deriving DecidableEq, Repr

/-! ### Injection and tests (chapter 19) -/

/-- A detector's input of Table 19.1, with its tile, port, channel or unit. Drive channels: fans 0–15, pumps 16–19. -/
inductive Point where
  | memory (t r : Nat) | refclk | island (t : Nat) | crossing (t : Nat) | guard (t : Nat) | pace (t : Nat)
  | heartbeat (t : Nat) | vote (t : Nat) | ack (t : Nat) | stitch (t : Nat) | arrayTest (t : Nat) | norDie (d : Nat) | nand
  | consistency | shroud (p : Nat) | sheet (p : Nat) | ratline (p : Nat) | host (h : Nat) | rail (k : Nat)
  | feedCurrent (f : Nat) | feedVoltage (f : Nat) | stageFault (r : Nat) | peakLimit (r : Nat) | legChannel (r : Nat)
  | upstream (r : Nat) | thermal (c : Nat) | tach (c : Nat) | current (c : Nat) | flow (m : Nat) | pressure (i : Nat)
  | valve (v : Nat) | leak (z : Nat) | rope (z : Nat) | sdaLow (b : Nat) | sclLow (b : Nat) | startSeen (b : Nat)
  | engine (e : Nat)
deriving DecidableEq, Repr

/-- An injection point beside its properties (Table 19.2): its parameters, the fires left, the instant of the latest fire, and
that a fault is due at its detector's next sample. -/
structure Inj where
  trigger : Nat := 0
  left : Nat := 0
  spacing : Nat := 0
  at_ : Nat := 0
  skip : Nat := 0
  duration : Nat := 0
  value : Int := 0
  last : Option Ns := none
  pend : Bool := false
deriving DecidableEq, Repr

/-- A self-test or calibration that runs (R725, R729): its command, if one started it, its number, object and ARG, when it began,
what its object was set to, how far a valve stroke has come, and whether it waits for another tile's bank. -/
structure Trial where
  origin : Option Origin
  cal : Bool
  test : Nat
  object : ObjId
  arg : Nat := 0
  since : Ns
  prior : Int := 0
  stage : Nat := 0
  waits : Bool := false
deriving DecidableEq, Repr

/-! ### What the block sends -/

/-- What the block has put on its interfaces: each message once, oldest first in `State.outbox`. Kinds of partner,
neighbour and bus messages are the type codes of their tables, fields stand in layout order. -/
inductive Msg where
  | reply (dest : Binding) (r : Reply)
  | replyBuffer (ep queue slot : Nat) (r : Reply) (truncated : Bool)
  | completion (ep queue ring : Nat) (bytes : List Nat)
  | eventRing (ep slot : Nat) (phase : Bool) (rec : EventRec)
  | msix (ep vector : Nat)
  | notice (dest : Binding) (recs : List EventRec)
  | mctp (dest : Binding) (code : Nat) (fields : List Int)
  | eth (port kind : Nat) (fields : List Int)
  | stitch (src dst kind : Nat) (fields : List Int)
  | shroud (port kind : Nat) (fields : List Int)
  | accel (a kind : Nat) (fields : List Int)
  | sheet (port : Nat) (bytes : List Nat)
  | relay (r kind : Nat) (fields : List Int)
  | flit (port : Nat) (bytes : List Nat)
  | ratline (port kind : Nat) (fields : List Int)
  | ratOp (port kind : Nat) (m : OpMsg)
  | ratRequest (port kind dst : Nat) (fields : List Int) (hdr : Header) (body : Body)
  | bus (port kind : Nat) (fields : List Int)
  | dma (kind : Nat) (fields : List Int)
  | fault (point : Nat) (value : Int) (duration : Nat)
deriving DecidableEq, Repr

end Sys2Proof.Machine
end

