-- ==== Sys2Proof/Machine/Bytes.lean ====
section
/-! DEFINITION. Little-endian fields and CRC-32C (R98), for the records that carry one. -/

namespace Sys2Proof.Machine

/-- The bytes of a field, least significant first (Table 0.3). -/
def leBytes : Nat → Nat → List Nat
  | 0, _ => []
  | n + 1, v => v % 256 :: leBytes n (v / 256)

/-- The value of bytes, least significant first. -/
def leValue : List Nat → Nat
  | [] => 0
  | b :: rest => b + 256 * leValue rest

/-- Fields of one to eight bytes. -/
def u8 (v : Int) : Fld := ⟨1, v⟩
def u16 (v : Int) : Fld := ⟨2, v⟩
def u32 (v : Int) : Fld := ⟨4, v⟩
def u64 (v : Int) : Fld := ⟨8, v⟩
/-- A reserved field of n bytes. -/
def rsv (n : Nat) : Fld := ⟨n, 0⟩

/-- The bytes of a record; a negative value stands in two's complement. -/
def recordBytes (l : List Fld) : List Nat := l.flatMap (fun f => leBytes f.size (f.val % ((256 ^ f.size : Nat) : Int)).toNat)

/-- The length of a record in bytes. -/
def recordLen (l : List Fld) : Nat := (l.map (·.size)).sum

/-- Values laid out by the sizes of their fields; a reserved field, whose size is negative, takes no value. -/
def layFields : List Int → List Int → List Fld
  | [], _ => []
  | n :: rest, vs =>
    if n < 0 then rsv n.natAbs :: layFields rest vs
    else match vs with
      | v :: vs => ⟨n.toNat, v⟩ :: layFields rest vs
      | [] => ⟨n.toNat, 0⟩ :: layFields rest []

/-- One bit of the reflected CRC-32C division, polynomial 0x82F63B78. -/
def crcBit (c : Nat) : Nat := if c % 2 = 1 then c / 2 ^^^ 0x82F63B78 else c / 2

/-- Eight bits of the division. -/
def crcBits : Nat → Nat → Nat
  | 0, c => c
  | n + 1, c => crcBits n (crcBit c)

/-- CRC-32C: initial value and final XOR 0xFFFFFFFF, reflected in and out (R98). -/
def crc32c (bytes : List Nat) : Nat := (bytes.foldl (fun c b => crcBits 8 (c ^^^ b)) 0xFFFFFFFF) ^^^ 0xFFFFFFFF

/-- A record followed by the CRC of its bytes. -/
def withCrc (l : List Fld) : List Fld := l ++ [u32 (crc32c (recordBytes l))]

/-- A reply packet's bytes (Tables 3.3, 3.4, R98): header, results padded to four bytes, and the CRC. -/
def Reply.packet (r : Reply) : List Nat :=
  let n := recordLen r.results
  recordBytes (withCrc ([u8 2, u8 ((if r.final then 1 else 0) + (if r.safety then 2 else 0) + (if r.eventsPending then 4 else 0)),
    u16 r.opcode, u16 r.tag, u16 r.status, u16 r.queue, u16 n, u32 r.object, u64 r.commitCsn, u64 r.doneTime] ++ r.results ++
    (if n % 4 = 0 then [] else [rsv (4 - n % 4)])))

/-- A completion entry, 16 bytes (Table 3.20). -/
def completionBytes (slot status len : Nat) (phase truncated noReply : Bool) (csn : Nat) : List Nat :=
  recordBytes [u16 slot, u16 status, u16 len, u8 ((if phase then 1 else 0) + (if truncated then 2 else 0) + (if noReply then 4 else 0)),
    rsv 1, u64 csn]

/-- The value of a field of a record given as bytes. -/
def leAt (b : List Nat) (off n : Nat) : Nat := leValue ((b.drop off).take n)

end Sys2Proof.Machine
end

