-- ==== Sys2Proof/Machine/Codes.lean ====
section
/-! DEFINITION. The numbers of the events and status codes, from the chapters' tables. -/

namespace Sys2Proof

/-- The event number of each event (Tables 1.11 to 19.13). -/
def Ev.num : Ev → Nat
  | .powerState => 0x008
  | .norDieLost => 0x3F0
  | .paceLow => 0x010
  | .paceBelowCorner => 0x011
  | .refclkLost => 0x012
  | .refclkRestored => 0x013
  | .timeState => 0x014
  | .timeStep => 0x015
  | .islandClockStopped => 0x016
  | .crossingTimeout => 0x017
  | .crossingFlushed => 0x018
  | .guardClockFallback => 0x019
  | .commandDone => 0x020
  | .propertyChanged => 0x021
  | .sessionOpened => 0x022
  | .sessionClosed => 0x023
  | .queueError => 0x024
  | .packetCrc => 0x025
  | .safetyRateLimited => 0x026
  | .tileFailover => 0x001
  | .tileRejoined => 0x002
  | .rejoinFailed => 0x003
  | .voteDisagree => 0x004
  | .stitchSuspect => 0x005
  | .journalStall => 0x006
  | .journalLost => 0x007
  | .foreLossGrace => 0x028
  | .partnerArrived => 0x030
  | .partnerDeparted => 0x031
  | .partnerRejected => 0x032
  | .shroudPort => 0x033
  | .shroudGap => 0x034
  | .accAlert => 0x035
  | .featuresChanged => 0x036
  | .reefTable => 0x037
  | .seqState => 0x040
  | .seqComplete => 0x041
  | .railFault => 0x042
  | .railLuffing => 0x043
  | .railTrip => 0x044
  | .railOffSlow => 0x045
  | .railNotDischarged => 0x046
  | .firstFault => 0x047
  | .seqStartBlocked => 0x048
  | .mainPower => 0x049
  | .seqScopeSkipped => 0x04A
  | .legFault => 0x100
  | .domainTrip => 0x101
  | .domainOc => 0x102
  | .domainCapacity => 0x103
  | .loopOverrun => 0x104
  | .sheetPort => 0x108
  | .relaySafe => 0x109
  | .senseChannelFailed => 0x10A
  | .relaySparesLow => 0x10B
  | .relayAlert => 0x10C
  | .fastReef => 0x180
  | .fastReefReleased => 0x181
  | .budgetOverrun => 0x182
  | .budgetRationed => 0x183
  | .rackLeader => 0x184
  | .rackIsolated => 0x185
  | .reefLevel => 0x186
  | .guardBand => 0x187
  | .modelLoaded => 0x1C0
  | .modelActivated => 0x1C1
  | .modelPromoted => 0x1C2
  | .modelRollback => 0x1C3
  | .modelDemoted => 0x1C4
  | .forecastDeadline => 0x1C5
  | .forecastShed => 0x1C6
  | .trainingState => 0x1C7
  | .arrayFault => 0x1C8
  | .lockMembership => 0x200
  | .lockFreq => 0x201
  | .lockLaggard => 0x202
  | .lockSuspended => 0x203
  | .lockPartial => 0x204
  | .lockRoundMissed => 0x205
  | .planLearned => 0x220
  | .planEvicted => 0x221
  | .thermalThreshold => 0x240
  | .thermalThrottle => 0x241
  | .furl => 0x242
  | .furlCut => 0x243
  | .furlDone => 0x244
  | .thermalTrip => 0x245
  | .thermalSensorLost => 0x246
  | .thermalPromoteFull => 0x247
  | .fanStalled => 0x280
  | .fanTachLost => 0x281
  | .fanOpen => 0x282
  | .autonomous => 0x283
  | .flowProven => 0x284
  | .flowLow => 0x285
  | .pressure => 0x286
  | .valveStuck => 0x287
  | .flowShort => 0x288
  | .waterFallback => 0x289
  | .leak => 0x28A
  | .leakRopeFault => 0x28B
  | .burinLoaded => 0x300
  | .burinState => 0x301
  | .burinFault => 0x302
  | .burinBudget => 0x303
  | .burinRelocated => 0x304
  | .ecOverflow => 0x305
  | .ecHold => 0x306
  | .globalOpDone => 0x340
  | .ratPort => 0x341
  | .ratParent => 0x342
  | .masthead => 0x343
  | .ratDepth => 0x344
  | .ratVc1Drop => 0x345
  | .ratRemoteLost => 0x346
  | .busIllegalCond => 0x380
  | .busStuckSda => 0x381
  | .busStuckScl => 0x382
  | .busIsolation => 0x383
  | .busTimeout => 0x384
  | .busPortState => 0x385
  | .busWindow => 0x386
  | .memCorrected => 0x3C0
  | .memUncorrectable => 0x3C1
  | .rowSpared => 0x3C2
  | .stackSparesLow => 0x3C3
  | .stackLost => 0x3C4
  | .recorderState => 0x3D0
  | .recorderTrigger => 0x3D1
  | .recorderExported => 0x3D2
  | .recorderWindow => 0x3D3
  | .recorderDrop => 0x3D4
  | .boot => 0x3E0
  | .fallbackBoot => 0x3E1
  | .keyRevoked => 0x3E2
  | .ethAuthFail => 0x3E3
  | .svnFloor => 0x3E4
  | .stageVerified => 0x3E8
  | .etchDone => 0x3E9
  | .activateDone => 0x3EA
  | .updateStep => 0x3EB
  | .updateReverted => 0x3EC
  | .confirmed => 0x3ED
  | .tdChanged => 0x3EE
  | .tdInvalid => 0x3EF
  | .injection => 0x3F1
  | .maintenance => 0x3F2
  | .selftestDone => 0x3F3
  | .calibrateDone => 0x3F4
  | .componentFailed => 0x3F5
  | .firmwareFault => 0x3F6
  | .nandFault => 0x3F7
  | .software n => 0x320 + n.val

/-- The status code of each status (R105, R107). -/
def Status.code : Status → Nat
  | .ok => 0x0000
  | .accepted => 0x0001
  | .busy => 0x0010
  | .wouldDisturb => 0x0011
  | .badParam => 0x0020
  | .badObject => 0x0021
  | .notPresent => 0x0022
  | .notNegotiated => 0x0023
  | .denied => 0x0030
  | .conditionFailed => 0x0031
  | .deadlinePassed => 0x0032
  | .noSafeOrder => 0x0040
  | .incompatible => 0x0041
  | .partnerLost => 0x0050
  | .busInterrupted => 0x0051
  | .internal => 0x0060
  | .propUnknown => 0x0100
  | .propReadOnly => 0x0101
  | .watchFull => 0x0102
  | .snapshotTooLarge => 0x0103
  | .powerOvertaken => 0x0104
  | .noSession => 0x0200
  | .sessionLimit => 0x0201
  | .unknownSession => 0x0202
  | .seqTableInvalid => 0x0300
  | .seqState => 0x0301
  | .seqNotDischarged => 0x0302
  | .seqNotReady => 0x0303
  | .seqAborted => 0x0304
  | .railNotSequenced => 0x0305
  | .seqCancelled => 0x0306
  | .budgetBelowMin => 0x0400
  | .budgetMinExceeds => 0x0401
  | .budgetNotLeader => 0x0402
  | .budgetLevel => 0x0403
  | .fcContainerInvalid => 0x0500
  | .fcSignature => 0x0501
  | .fcSvn => 0x0502
  | .fcTooLarge => 0x0503
  | .fcSlotState => 0x0504
  | .fcNoCapacity => 0x0505
  | .fcNoStore => 0x0506
  | .fcLoadIncomplete => 0x0507
  | .lockCaps => 0x0600
  | .lockInGroup => 0x0601
  | .lockGrid => 0x0602
  | .lockTime => 0x0603
  | .lockGroupsFull => 0x0604
  | .lockNotReached => 0x0605
  | .lockNotMember => 0x0606
  | .planFull => 0x0610
  | .planInvalid => 0x0611
  | .planNotFound => 0x0612
  | .leakStillWet => 0x0700
  | .coolLeakHold => 0x0701
  | .coolTableInvalid => 0x0702
  | .coolAutonomous => 0x0703
  | .burinImageInvalid => 0x0800
  | .burinSignature => 0x0801
  | .burinSvn => 0x0802
  | .burinAuthority => 0x0803
  | .burinEngineState => 0x0804
  | .burinRouteConflict => 0x0805
  | .burinOverload => 0x0806
  | .burinLoadIncomplete => 0x0807
  | .ratPartial => 0x0900
  | .ratUnreachable => 0x0901
  | .ratWrongTray => 0x0902
  | .ratOutcomeUnknown => 0x0903
  | .ratOpMismatch => 0x0904
  | .ratNoTree => 0x0905
  | .ratOpsFull => 0x0906
  | .ratSnapshotTruncated => 0x0907
  | .busAddrNak => 0x0A00
  | .busDataNak => 0x0A01
  | .busArbLost => 0x0A02
  | .busTimeout => 0x0A03
  | .busPec => 0x0A04
  | .busStuck => 0x0A05
  | .busPreempted => 0x0A06
  | .busNotController => 0x0A07
  | .busIsolated => 0x0A08
  | .busBlockCount => 0x0A09
  | .busFormat => 0x0A0A
  | .recState => 0x0B00
  | .recRange => 0x0B01
  | .recBufferFull => 0x0B02
  | .recBufferInvalid => 0x0B03
  | .secSlotEmpty => 0x0D00
  | .secAlreadyRevoked => 0x0D01
  | .secCertRange => 0x0D02
  | .updStageState => 0x0C00
  | .updBundleInvalid => 0x0C01
  | .updSignature => 0x0C02
  | .updSvn => 0x0C03
  | .updTooLarge => 0x0C04
  | .updIncomplete => 0x0C05
  | .updTrial => 0x0C06
  | .updNotEtched => 0x0C07
  | .updNotReady => 0x0C08
  | .updRolledBack => 0x0C09
  | .updHalted => 0x0C0A
  | .updComponentFailed => 0x0C0B
  | .diagArmFull => 0x0E00
  | .diagPointState => 0x0E01
  | .diagState => 0x0E02
  | .diagFailed => 0x0E03
  | .diagAborted => 0x0E04

/-- The sizes in bytes of an event's payload fields in layout order, a reserved field's size negative (Tables 1.11 to
19.13); a completion event begins with the block of Table 3.23. The widths of the fields of Tables 2.8 and 3.24, which
the tables do not give, are DESIGN CHOICES (log entry 12). -/
def Ev.layout : Ev → List Int
  | .powerState => [1, 1, 2, 2, 2, 2, -2, 4, 8, 1, 1, 1, 1, -4]
  | .norDieLost => [1, 1, -2, 4]
  | .paceLow => [1, 4]
  | .paceBelowCorner => [1, 4]
  | .refclkLost => [1]
  | .refclkRestored => [4]
  | .timeState => [4, 4]
  | .timeStep => [8, 8]
  | .islandClockStopped => [1, 1]
  | .crossingTimeout => [2, 4]
  | .crossingFlushed => [2, 2]
  | .guardClockFallback => [1, 1]
  | .commandDone => [1, 1, 2, 2, 2, 2, -2, 4, 8]
  | .propertyChanged => [4, 4, 2, 8]
  | .sessionOpened => [4, 1, 1]
  | .sessionClosed => [4, 1]
  | .queueError => [1, 1, 1]
  | .packetCrc => [1, 4]
  | .safetyRateLimited => [1, 1, 2]
  | .tileFailover => [1, 1, 1, 1, 1, 1, -2, 4, 4, 8, 4]
  | .tileRejoined => [1, -3, 4, 8]
  | .rejoinFailed => [1, 1]
  | .voteDisagree => [2, 1, 1]
  | .stitchSuspect => [1, 1]
  | .journalStall => [1, 8]
  | .journalLost => [8]
  | .foreLossGrace => [1, 4]
  | .partnerArrived => [1, 1, -2, 4, 8]
  | .partnerDeparted => [1, 1, -2, 4, 1]
  | .partnerRejected => [1, 1, 2, 4, 8]
  | .shroudPort => [1, 1, 1, 1]
  | .shroudGap => [1, 1, 2, 4]
  | .accAlert => [1, 1, 2, 4, 8]
  | .featuresChanged => [4, -4, 16]
  | .reefTable => [1, 1, -2, 4]
  | .seqState => [1, 1, 1, 1, 2, -2, 4]
  | .seqComplete => [1, 1, 2, 2, 2, 2, -2, 4, 8, 1, 1, 2, 4]
  | .railFault => [2, 1, 1, 2, -2, 8]
  | .railLuffing => [2, 1, -1, 4, 8]
  | .railTrip => [2, 2, -4, 8]
  | .railOffSlow => [2, 2, 4]
  | .railNotDischarged => [2, 1, -1, 2]
  | .firstFault => [4, 2, 1, 1, 8]
  | .seqStartBlocked => [1, 1, -2, 4]
  | .mainPower => [1, 1, -2, 4]
  | .seqScopeSkipped => [1, 1]
  | .legFault => [2, 1, 1, 4, 8]
  | .domainTrip => [2, 1, 1, 8]
  | .domainOc => [2, -2, 4]
  | .domainCapacity => [2, 1, 1, 4, 4]
  | .loopOverrun => [1, -1, 2, 4]
  | .sheetPort => [1, 1, 1, 1]
  | .relaySafe => [1, -3, 4]
  | .senseChannelFailed => [1, 1, 2, 4]
  | .relaySparesLow => [1, 1]
  | .relayAlert => [1, 1, 2, 4]
  | .fastReef => [1, 1, -2, 4, 4, -4, 8]
  | .fastReefReleased => [4, 4]
  | .budgetOverrun => [1, 1, -2, 4, 4]
  | .budgetRationed => [4, 2, -2, 4, 4]
  | .rackLeader => [2, -2, -4, 8, 8]
  | .rackIsolated => [1, -3, 4]
  | .reefLevel => [1, 1, 1, -1, 4]
  | .guardBand => [2, 2, 1]
  | .modelLoaded => [1, 1, 2, 2, 2, 2, -2, 4, 8, 1, 1, -2, 4]
  | .modelActivated => [1, -1, 2, 4, 8]
  | .modelPromoted => [1, 1, -2, 4, 4, 8]
  | .modelRollback => [1, 1, -2, 4, 4, 4]
  | .modelDemoted => [1, 1, 2, 4]
  | .forecastDeadline => [1, -1, 2, 4]
  | .forecastShed => [1, 1, 2, 4, 4]
  | .trainingState => [1, 1, 1, 1, 1]
  | .arrayFault => [1, 1, -2, 4]
  | .lockMembership => [1, 1, 2, 2, 2, 2, -2, 4, 8, 2, 1, -1, 4]
  | .lockFreq => [2, 2, 2, 1, -1, 4, 8]
  | .lockLaggard => [2, 1, 1, 2, 2, 4]
  | .lockSuspended => [2, 1, 1, 4]
  | .lockPartial => [2, -2, 4, 4]
  | .lockRoundMissed => [1, -3, 4]
  | .planLearned => [1, -1, 2, 4, 4]
  | .planEvicted => [1, -1, 2, 8]
  | .thermalThreshold => [2, 1, 1, 4, 8]
  | .thermalThrottle => [1, 1, 2, 4, 4]
  | .furl => [1, 1, 2, 4, 8]
  | .furlCut => [1, 1, -2, -4, 8]
  | .furlDone => [1, 1, 2, 2, 2, 2, -2, 4, 8, 1, 1, -2, -4]
  | .thermalTrip => [2, 1, -1, 4]
  | .thermalSensorLost => [2, 1, 1]
  | .thermalPromoteFull => [1, 1]
  | .fanStalled => [1, 1, -2, 4, 4]
  | .fanTachLost => [1, -3, 4, 4]
  | .fanOpen => [1, 1, -2, 4]
  | .autonomous => [1, -3, 4]
  | .flowProven => [1, 1, -2, 4]
  | .flowLow => [1, -3, 4]
  | .pressure => [1, 1, -2, 4]
  | .valveStuck => [1, -3, 4, 4]
  | .flowShort => [1, 1, -2, 4]
  | .waterFallback => [1, 1, 2]
  | .leak => [1, 1, 1, 1, 4, 8]
  | .leakRopeFault => [1, 1]
  | .burinLoaded => [1, 1, 2, 2, 2, 2, -2, 4, 8, 1, 1, -2, 4]
  | .burinState => [1, 1, 1, 1]
  | .burinFault => [1, 1, 2, 4, 2, -2]
  | .burinBudget => [1, 1, 2, 4]
  | .burinRelocated => [1, 1, -2, 4]
  | .ecOverflow => [1, -1, 2, 4]
  | .ecHold => [1, 1]
  | .globalOpDone => [1, 1, 2, 2, 2, 2, -2, 4, 8, 4, 4]
  | .ratPort => [1, 1, 1, 1]
  | .ratParent => [1, 1, 1, 1, 4, 4]
  | .masthead => [1, -7, 8, 8]
  | .ratDepth => [1, 1]
  | .ratVc1Drop => [1, -3, 4]
  | .ratRemoteLost => [2, 2, 4, 8]
  | .busIllegalCond => [1, 1, 1, 1, 4]
  | .busStuckSda => [1, 1, 2]
  | .busStuckScl => [1, 1, -2, 4]
  | .busIsolation => [1, 1, 1]
  | .busTimeout => [1, 1, 2, 4]
  | .busPortState => [1, 1, 1, 1]
  | .busWindow => [1, 1, 2, 1]
  | .memCorrected => [1, 1, -2, 4]
  | .memUncorrectable => [1, 1, 1, -1, 8]
  | .rowSpared => [1, 1, 1, 1, 4]
  | .stackSparesLow => [1, 1, 1, -1, 4]
  | .stackLost => [1, 1]
  | .recorderState => [1, 1, -2, 8]
  | .recorderTrigger => [2, 2, -4, 8]
  | .recorderExported => [1, 1, 2, 2, 2, 2, -2, 4, 8, 8]
  | .recorderWindow => [4, 4]
  | .recorderDrop => [4]
  | .boot => [1, 1, 1, 1, 2, -2, 4]
  | .fallbackBoot => [1, 1, 1]
  | .keyRevoked => [1, 1, 2, 2, 2, 2, -2, 4, 8, 1]
  | .ethAuthFail => [1, 1, -2, 4]
  | .svnFloor => [2, 2]
  | .stageVerified => [1, 1, 2, 2, 2, 2, -2, 4, 8, 4, 4]
  | .etchDone => [1, 1, 2, 2, 2, 2, -2, 4, 8, 1, -1, 2, 4]
  | .activateDone => [1, 1, 2, 2, 2, 2, -2, 4, 8, 1, 1, 1, 1, 1]
  | .updateStep => [1, 1, 1, -1, 4, 4]
  | .updateReverted => [1, 1, -2, 4]
  | .confirmed => [1, 1, -2, 4]
  | .tdChanged => [1, -3, 8]
  | .tdInvalid => [1, 1, -2]
  | .injection => [2, 1, -1, 4]
  | .maintenance => [1, 1, -2, 4]
  | .selftestDone => [1, 1, 2, 2, 2, 2, -2, 4, 8, 2, 1, 1, 4]
  | .calibrateDone => [1, 1, 2, 2, 2, 2, -2, 4, 8, 2, 1, -1, 4]
  | .componentFailed => [1, 1, 1, -1, 4]
  | .firmwareFault => [1, -1, 2, 8]
  | .nandFault => [1, -1, -2, 4]
  | .software _ => [8, 8, 8, 8]

end Sys2Proof
end

