-- ==== Sys2Proof/Machine/Opcodes.lean ====
section
/-! DEFINITION. The opcodes of Table 3.8 and the parameter blocks that belong to them. -/

namespace Sys2Proof

/-- The rows of Table 3.8: code, arbitration class, SAFETY-capable, long-running, state-changing, feature. -/
def Op.info : Op → OpInfo
  | .getProp => ⟨0x0101, .manage, false, false, false, none⟩
  | .setProp => ⟨0x0102, .control, false, true, true, none⟩
  | .getSnapshot => ⟨0x0103, .manage, false, false, false, none⟩
  | .watch => ⟨0x0104, .manage, false, false, true, none⟩
  | .negotiate => ⟨0x0201, .manage, false, false, true, none⟩
  | .hello => ⟨0x0202, .manage, false, false, true, none⟩
  | .keepalive => ⟨0x0203, .control, false, false, false, none⟩
  | .recall => ⟨0x0204, .manage, false, false, false, none⟩
  | .close => ⟨0x0205, .manage, false, false, true, none⟩
  | .startSequence => ⟨0x0301, .control, false, true, true, none⟩
  | .stopSequence => ⟨0x0302, .control, true, true, true, none⟩
  | .enableRail => ⟨0x0303, .control, false, true, true, none⟩
  | .disableRail => ⟨0x0304, .control, true, false, true, none⟩
  | .furl => ⟨0x0305, .control, true, true, true, none⟩
  | .loadSequence => ⟨0x0306, .bulk, false, false, true, none⟩
  | .readFirstFault => ⟨0x0307, .manage, false, false, false, none⟩
  | .clearFirstFault => ⟨0x0308, .manage, false, false, true, none⟩
  | .setBudget => ⟨0x0401, .control, false, false, true, none⟩
  | .setWeight => ⟨0x0402, .control, false, false, true, none⟩
  | .setMinGrant => ⟨0x0403, .control, false, false, true, none⟩
  | .readGrants => ⟨0x0404, .manage, false, false, false, none⟩
  | .reef => ⟨0x0405, .control, true, false, true, none⟩
  | .releaseReef => ⟨0x0406, .control, false, false, true, none⟩
  | .loadModel => ⟨0x0501, .bulk, false, true, true, some .forecast⟩
  | .activateModel => ⟨0x0502, .control, false, false, true, some .forecast⟩
  | .retireModel => ⟨0x0503, .control, false, false, true, some .forecast⟩
  | .queryForecast => ⟨0x0504, .manage, false, false, false, some .forecast⟩
  | .setTraining => ⟨0x0505, .control, false, false, true, some .forecastTrain⟩
  | .readModelStats => ⟨0x0506, .manage, false, false, false, some .forecast⟩
  | .joinGroup => ⟨0x0601, .control, false, true, true, some .lockstep⟩
  | .leaveGroup => ⟨0x0602, .control, false, true, true, some .lockstep⟩
  | .readGroup => ⟨0x0603, .manage, false, false, false, some .lockstep⟩
  | .loadPhasePlan => ⟨0x0604, .bulk, false, false, true, some .phasePlans⟩
  | .clearPhasePlan => ⟨0x0605, .control, false, false, true, some .phasePlans⟩
  | .readPhasePlan => ⟨0x0606, .manage, false, false, false, some .phasePlans⟩
  | .setFan => ⟨0x0701, .control, false, false, true, none⟩
  | .setPump => ⟨0x0702, .control, false, false, true, none⟩
  | .setValve => ⟨0x0703, .control, false, false, true, some .valves⟩
  | .isolateLeak => ⟨0x0704, .control, true, false, true, none⟩
  | .resetLeakZone => ⟨0x0705, .control, false, false, true, none⟩
  | .loadFanTable => ⟨0x0706, .bulk, false, false, true, none⟩
  | .setWaterMode => ⟨0x0707, .control, false, false, true, some .waterMode⟩
  | .loadProgram => ⟨0x0801, .bulk, false, true, true, some .burinUser⟩
  | .startProgram => ⟨0x0802, .control, false, false, true, some .burinUser⟩
  | .stopProgram => ⟨0x0803, .control, false, false, true, some .burinUser⟩
  | .readEngine => ⟨0x0804, .manage, false, false, false, none⟩
  | .raiseEvent => ⟨0x0805, .control, false, false, true, some .burinUser⟩
  | .barrier => ⟨0x0901, .control, false, true, false, some .ratline⟩
  | .broadcast => ⟨0x0902, .control, false, true, true, some .ratline⟩
  | .reduce => ⟨0x0903, .control, false, true, false, some .ratline⟩
  | .snapshotGlobal => ⟨0x0904, .manage, false, true, false, some .globalSnapshot⟩
  | .resetGlobal => ⟨0x0905, .control, false, true, true, some .ratline⟩
  | .busTransfer => ⟨0x0A01, .manage, false, false, true, none⟩
  | .busRecover => ⟨0x0A02, .manage, false, false, true, none⟩
  | .configureBus => ⟨0x0A03, .manage, false, false, true, none⟩
  | .pmbusRead => ⟨0x0A04, .manage, false, false, false, none⟩
  | .pmbusWrite => ⟨0x0A05, .manage, false, false, true, none⟩
  | .triggerRecorder => ⟨0x0B01, .control, false, false, true, some .recorder⟩
  | .freezeRecorder => ⟨0x0B02, .control, false, false, true, some .recorder⟩
  | .releaseRecorder => ⟨0x0B03, .control, false, false, true, some .recorder⟩
  | .exportRecorder => ⟨0x0B04, .bulk, false, true, false, some .recorder⟩
  | .readStipple => ⟨0x0B05, .bulk, false, false, false, some .recorder⟩
  | .openStage => ⟨0x0C01, .manage, false, false, true, none⟩
  | .writeStage => ⟨0x0C02, .bulk, false, false, true, none⟩
  | .verifyStage => ⟨0x0C03, .manage, false, true, true, none⟩
  | .planUpdate => ⟨0x0C04, .manage, false, false, false, none⟩
  | .etch => ⟨0x0C05, .manage, false, true, true, none⟩
  | .activate => ⟨0x0C06, .manage, false, true, true, none⟩
  | .confirm => ⟨0x0C07, .manage, false, false, true, none⟩
  | .readPlates => ⟨0x0C08, .manage, false, false, false, none⟩
  | .attest => ⟨0x0D01, .manage, false, false, false, none⟩
  | .revokeKey => ⟨0x0D02, .manage, false, true, true, none⟩
  | .readKeys => ⟨0x0D03, .manage, false, false, false, none⟩
  | .inject => ⟨0x0E01, .manage, false, false, true, some .injection⟩
  | .selftest => ⟨0x0E02, .manage, false, true, true, none⟩
  | .calibrate => ⟨0x0E03, .manage, false, true, true, none⟩
  | .setMaintenance => ⟨0x0E04, .manage, false, false, true, none⟩
  | .subscribe => ⟨0x0F01, .manage, false, false, true, none⟩
  | .readEvents => ⟨0x0F02, .manage, false, false, false, none⟩

/-- The opcode a parameter block belongs to. -/
def Body.op : Body → Option Op
  | .unknown _ => none
  | .malformed op => some op
  | .getProp => some .getProp
  | .setProp _ _ => some .setProp
  | .getSnapshot _ => some .getSnapshot
  | .watch _ _ _ _ => some .watch
  | .negotiate _ _ _ => some .negotiate
  | .hello _ _ => some .hello
  | .keepalive => some .keepalive
  | .recall _ _ _ => some .recall
  | .close => some .close
  | .subscribe _ => some .subscribe
  | .readEvents _ _ => some .readEvents
  | .startSequence => some .startSequence
  | .stopSequence => some .stopSequence
  | .enableRail => some .enableRail
  | .disableRail => some .disableRail
  | .furl _ => some .furl
  | .loadSequence _ _ _ => some .loadSequence
  | .readFirstFault _ _ => some .readFirstFault
  | .clearFirstFault => some .clearFirstFault
  | .setBudget _ => some .setBudget
  | .setWeight _ => some .setWeight
  | .setMinGrant _ => some .setMinGrant
  | .readGrants => some .readGrants
  | .reef _ _ => some .reef
  | .releaseReef => some .releaseReef
  | .loadModel _ => some .loadModel
  | .activateModel _ => some .activateModel
  | .retireModel => some .retireModel
  | .queryForecast => some .queryForecast
  | .setTraining _ _ _ _ _ _ _ _ => some .setTraining
  | .readModelStats => some .readModelStats
  | .joinGroup _ _ => some .joinGroup
  | .leaveGroup _ => some .leaveGroup
  | .readGroup => some .readGroup
  | .loadPhasePlan _ => some .loadPhasePlan
  | .clearPhasePlan _ _ => some .clearPhasePlan
  | .readPhasePlan _ _ => some .readPhasePlan
  | .barrier _ => some .barrier
  | .broadcast _ _ _ => some .broadcast
  | .reduce _ => some .reduce
  | .snapshotGlobal _ => some .snapshotGlobal
  | .resetGlobal _ => some .resetGlobal
  | .loadProgram _ => some .loadProgram
  | .startProgram => some .startProgram
  | .stopProgram => some .stopProgram
  | .readEngine => some .readEngine
  | .raiseEvent _ _ => some .raiseEvent
  | .setFan _ _ => some .setFan
  | .setPump _ _ => some .setPump
  | .setValve _ _ => some .setValve
  | .isolateLeak _ => some .isolateLeak
  | .resetLeakZone => some .resetLeakZone
  | .loadFanTable _ _ _ _ => some .loadFanTable
  | .setWaterMode _ _ _ => some .setWaterMode
  | .attest _ _ _ _ => some .attest
  | .revokeKey => some .revokeKey
  | .readKeys => some .readKeys
  | .openStage _ _ => some .openStage
  | .writeStage _ _ => some .writeStage
  | .verifyStage => some .verifyStage
  | .planUpdate => some .planUpdate
  | .etch => some .etch
  | .activate _ => some .activate
  | .confirm => some .confirm
  | .readPlates => some .readPlates
  | .busTransfer _ _ => some .busTransfer
  | .busRecover => some .busRecover
  | .configureBus _ => some .configureBus
  | .pmbusRead _ _ _ => some .pmbusRead
  | .pmbusWrite _ _ _ _ => some .pmbusWrite
  | .triggerRecorder _ => some .triggerRecorder
  | .freezeRecorder => some .freezeRecorder
  | .releaseRecorder => some .releaseRecorder
  | .exportRecorder _ _ _ _ _ _ _ _ => some .exportRecorder
  | .readStipple _ _ _ => some .readStipple
  | .inject _ => some .inject
  | .selftest _ _ => some .selftest
  | .calibrate _ => some .calibrate
  | .setMaintenance _ _ => some .setMaintenance

/-- The opcode's number as received. -/
def Body.opcode (b : Body) : Nat :=
  match b with
  | .unknown n => n
  | _ => match b.op with
    | some op => op.info.code
    | none => 0

end Sys2Proof
end

