-- ==== Sys2Proof/Machine/Properties.lean ====
section
/-! DEFINITION. The property table: object class, code, access, width, reset value and range of every property
(the chapters' property tables), and the search of a property by class and code (R137). -/

namespace Sys2Proof

/-- How a property may be accessed (Tables 2.1 to 19.12, column Access). -/
inductive Access where
  | ro | rw | rw1c | wo
deriving DecidableEq, Repr

/-- One row of a property table. `cls` is the object class of Table 1.10 (0: every class; 7 stands for fans and
pumps alike); `bytes` the width of its type; `dflt` the default, 0 where the row gives none (log entry 3) or names
the tray description; `lo`, `hi`, `step` the range and step a write is held to. -/
structure Desc where
  cls : Nat
  code : Nat
  acc : Access
  bytes : Nat
  signed : Bool
  dflt : Int
  lo : Int
  hi : Int
  step : Nat
deriving DecidableEq, Repr

/-- The rows of the property tables. -/
def P.desc : P → Desc
  | .powerState => ⟨255, 0x0020, .rw, 4, false, 0, 1, 3, 1⟩  -- R36; a write of 0 or 4 is out of range
  | .pace => ⟨1, 0x0030, .ro, 4, false, 0, 0, 4294967295, 1⟩
  | .paceMin => ⟨1, 0x0031, .rw, 4, false, 0, 0, 4294967295, 1⟩  -- default: — range: Any value
  | .paceAlarm => ⟨1, 0x0032, .rw, 4, false, 680000, 650000, 1000000, 1000⟩
  | .crossingTimeout => ⟨1, 0x0033, .rw, 4, false, 2000, 500, 20000, 100⟩
  | .stitchTimeout => ⟨1, 0x0034, .rw, 4, false, 5000, 1000, 20000, 1000⟩
  | .commonTime => ⟨255, 0x0021, .rw, 8, false, 0, 0, 18446744073709551615, 1⟩  -- default: — range: Any value
  | .timeStatus => ⟨255, 0x0022, .ro, 4, false, 16711680, 0, 4294967295, 1⟩
  | .timeError => ⟨255, 0x0023, .ro, 4, false, 4294967295, 0, 4294967295, 1⟩
  | .holdoverLimit => ⟨255, 0x0025, .rw, 4, false, 1000000, 1000, 100000000, 1000⟩
  | .lastCsn => ⟨0, 0x0001, .ro, 8, false, 0, 0, 18446744073709551615, 1⟩
  | .arbWeights => ⟨255, 0x0040, .rw, 4, false, 525313, 0, 4294967295, 1⟩  -- range: Bits 23:16 CONTROL, 15:8 MANAGE, 7:0 BULK, each 1–64, step 1; bits 31:24 RSV
  | .ageCap => ⟨255, 0x0041, .rw, 4, false, 2000, 500, 10000, 100⟩
  | .safetyRate => ⟨255, 0x0042, .rw, 4, false, 64, 1, 1024, 1⟩
  | .sessionTimeout => ⟨255, 0x0043, .rw, 4, false, 30, 1, 3600, 1⟩
  | .udpPort => ⟨255, 0x0044, .rw, 4, false, 58800, 1024, 65535, 1⟩
  | .crcErrors => ⟨24, 0x0050, .ro, 4, false, 0, 0, 4294967295, 1⟩
  | .busyReplies => ⟨24, 0x0051, .ro, 4, false, 0, 0, 4294967295, 1⟩
  | .role => ⟨1, 0x0060, .ro, 4, false, 0, 0, 4294967295, 1⟩
  | .adminState => ⟨1, 0x0061, .rw, 4, false, 0, 0, 1, 1⟩
  | .fenceCause => ⟨1, 0x0062, .ro, 4, false, 255, 0, 4294967295, 1⟩
  | .ackCsn => ⟨1, 0x0063, .ro, 8, false, 0, 0, 18446744073709551615, 1⟩
  | .loopAccels => ⟨1, 0x0064, .ro, 4, false, 0, 0, 4294967295, 1⟩
  | .membership => ⟨255, 0x0060, .ro, 4, false, 0, 0, 4294967295, 1⟩
  | .leader => ⟨255, 0x0061, .rw, 4, false, 0, 0, 2, 1⟩
  | .term => ⟨255, 0x0062, .ro, 4, false, 1, 0, 4294967295, 1⟩
  | .heartbeatTimeout => ⟨255, 0x0063, .rw, 4, false, 40, 20, 45, 5⟩
  | .voteWindow => ⟨255, 0x0064, .rw, 4, false, 2, 1, 100, 1⟩
  | .autoRejoin => ⟨255, 0x0065, .rw, 4, false, 1, 0, 1, 1⟩
  | .foreLossAction => ⟨255, 0x0066, .rw, 4, false, 1, 0, 1, 1⟩
  | .foreLossGrace => ⟨255, 0x0067, .rw, 4, false, 60, 0, 600, 1⟩
  | .failoverCount => ⟨255, 0x0068, .ro, 4, false, 0, 0, 4294967295, 1⟩
  | .accelPresence => ⟨2, 0x0080, .ro, 4, false, 0, 0, 4294967295, 1⟩
  | .accelSerial => ⟨2, 0x0081, .ro, 8, false, 0, 0, 18446744073709551615, 1⟩
  | .shroudState => ⟨2, 0x0082, .ro, 4, false, 0, 0, 4294967295, 1⟩
  | .reefGen => ⟨2, 0x0083, .ro, 4, false, 0, 0, 4294967295, 1⟩
  | .silentAction => ⟨2, 0x0084, .rw, 4, false, 1, 0, 1, 1⟩
  | .accelLinkErrors => ⟨2, 0x0085, .ro, 4, false, 0, 0, 4294967295, 1⟩
  | .accelReplays => ⟨2, 0x0086, .ro, 4, false, 0, 0, 4294967295, 1⟩
  | .capability => ⟨255, 0x0070, .ro, 64, false, 0, 0, 0, 1⟩
  | .accelLossTime => ⟨255, 0x0071, .rw, 4, false, 200, 50, 10000, 50⟩
  | .silentFurlDelay => ⟨255, 0x0072, .rw, 4, false, 10, 1, 10000, 1⟩
  | .alertNolinkDelay => ⟨255, 0x0073, .rw, 4, false, 1000, 100, 100000, 100⟩
  | .railStatus => ⟨5, 0x0090, .ro, 4, false, 0, 0, 4294967295, 1⟩
  | .voltage => ⟨5, 0x0091, .ro, 4, true, 0, -2147483648, 2147483647, 1⟩
  | .scale => ⟨5, 0x0092, .ro, 4, false, 0, 0, 4294967295, 1⟩  -- default: Tray description or relay
  | .thresholds => ⟨5, 0x0093, .rw, 8, false, 0, 0, 18446744073709551615, 1⟩  -- default: Tray description range: Table 6.1
  | .glitch => ⟨5, 0x0094, .rw, 4, false, 10, 0, 1023, 1⟩
  | .ovGlitch => ⟨5, 0x0095, .rw, 4, false, 2, 0, 63, 1⟩
  | .luffWindow => ⟨5, 0x0096, .rw, 4, false, 1000, 100, 10000, 100⟩
  | .nominal => ⟨5, 0x0097, .ro, 4, true, 0, -2147483648, 2147483647, 1⟩  -- default: Tray description
  | .seqState => ⟨2, 0x0090, .ro, 4, false, 0, 0, 4294967295, 1⟩
  | .traySeqState => ⟨255, 0x0090, .ro, 4, false, 0, 0, 4294967295, 1⟩
  | .activeTable => ⟨255, 0x0091, .rw, 4, false, 0, 0, 7, 1⟩  -- default: Tray description
  | .autoRestart => ⟨255, 0x0092, .rw, 4, false, 1, 0, 1, 1⟩
  | .minOffTime => ⟨255, 0x0093, .rw, 4, false, 500, 10, 60000, 10⟩
  | .dischargeTimeout => ⟨255, 0x0094, .rw, 4, false, 5000, 100, 600000, 100⟩
  | .startWait => ⟨255, 0x0095, .rw, 4, false, 60, 1, 3600, 1⟩
  | .restartLimit => ⟨255, 0x0096, .rw, 4, false, 3, 0, 16, 1⟩
  | .mainGoodV => ⟨255, 0x0097, .rw, 4, true, 48000000, 40000000, 60000000, 100000⟩
  | .mainLostV => ⟨255, 0x0098, .rw, 4, true, 44000000, 36000000, 56000000, 100000⟩
  | .mainLostTime => ⟨255, 0x0099, .rw, 4, false, 50, 1, 1000, 1⟩
  | .feedsRequired => ⟨255, 0x009A, .rw, 4, false, 0, 1, 4, 1⟩  -- default: Declared feed count
  | .firstFaultLatched => ⟨255, 0x009B, .ro, 4, false, 0, 0, 4294967295, 1⟩
  | .incident => ⟨255, 0x009C, .ro, 4, false, 0, 0, 4294967295, 1⟩
  | .legState => ⟨4, 0x00A0, .ro, 4, false, 0, 0, 4294967295, 1⟩
  | .current => ⟨4, 0x00A1, .ro, 4, true, 0, -2147483648, 2147483647, 1⟩
  | .legTemperature => ⟨4, 0x00A2, .ro, 4, true, 0, -2147483648, 2147483647, 1⟩
  | .admin => ⟨4, 0x00A3, .rw, 4, false, 0, 0, 1, 1⟩
  | .faultCause => ⟨4, 0x00A4, .ro, 4, false, 0, 0, 4294967295, 1⟩
  | .senseChannel => ⟨4, 0x00A5, .ro, 4, false, 0, 0, 4294967295, 1⟩
  | .setpoint => ⟨3, 0x00A0, .rw, 4, true, 0, -2147483648, 2147483647, 500⟩  -- default: Tray description range: Tray-description range, step 500
  | .setpointSlew => ⟨3, 0x00A1, .rw, 4, false, 1000, 10, 10000, 10⟩
  | .loadLine => ⟨3, 0x00A2, .rw, 4, false, 0, 0, 2000, 1⟩  -- default: Tray description
  | .domainCurrent => ⟨3, 0x00A3, .ro, 4, true, 0, -2147483648, 2147483647, 1⟩
  | .legCounts => ⟨3, 0x00A4, .ro, 4, false, 0, 0, 4294967295, 1⟩
  | .nMin => ⟨3, 0x00A5, .rw, 4, false, 0, 1, 72, 1⟩  -- default: Tray description
  | .minHealthy => ⟨3, 0x00A6, .rw, 4, false, 0, 1, 72, 1⟩  -- default: Tray description
  | .iLegTarget => ⟨3, 0x00A7, .rw, 4, true, 40000, 10000, 70000, 1000⟩
  | .shedHold => ⟨3, 0x00A8, .rw, 4, false, 50, 10, 10000, 10⟩
  | .planMargin => ⟨3, 0x00A9, .rw, 4, false, 100, 0, 1000, 1⟩
  | .domainOc => ⟨3, 0x00AA, .rw, 4, true, 0, 1000, 5040000, 1000⟩  -- default: Tray description
  | .domainOcTime => ⟨3, 0x00AB, .rw, 4, false, 5, 1, 100, 1⟩
  | .coeffSet => ⟨3, 0x00AC, .ro, 4, false, 0, 0, 4294967295, 1⟩
  | .planSource => ⟨3, 0x00AD, .ro, 4, false, 0, 0, 4294967295, 1⟩
  | .relayPresence => ⟨6, 0x00A0, .ro, 4, false, 0, 0, 4294967295, 1⟩
  | .relaySerial => ⟨6, 0x00A1, .ro, 8, false, 0, 0, 18446744073709551615, 1⟩
  | .sheetState => ⟨6, 0x00A2, .ro, 4, false, 0, 0, 4294967295, 1⟩
  | .staleSlots => ⟨6, 0x00A3, .ro, 4, false, 0, 0, 4294967295, 1⟩
  | .spares => ⟨6, 0x00A4, .ro, 4, false, 8, 0, 4294967295, 1⟩
  | .relayLinkErrors => ⟨6, 0x00A5, .ro, 4, false, 0, 0, 4294967295, 1⟩
  | .tileOverruns => ⟨1, 0x00A0, .ro, 4, false, 0, 0, 4294967295, 1⟩
  | .legWake => ⟨255, 0x00A0, .rw, 4, false, 6, 2, 64, 1⟩
  | .relayLossTime => ⟨255, 0x00A1, .rw, 4, false, 10, 2, 1000, 1⟩
  | .calInterval => ⟨255, 0x00A2, .rw, 4, false, 100, 10, 60000, 10⟩
  | .calMismatch => ⟨255, 0x00A3, .rw, 4, true, 500, 50, 5000, 50⟩
  | .legOcAvg => ⟨255, 0x00A4, .rw, 4, true, 70000, 10000, 70000, 1000⟩
  | .legOcTime => ⟨255, 0x00A5, .rw, 4, false, 20, 1, 1000, 1⟩
  | .legTempLimit => ⟨255, 0x00A6, .rw, 4, true, 125000, 80000, 150000, 1000⟩
  | .peakLimitSlots => ⟨255, 0x00A7, .rw, 4, false, 16, 2, 256, 1⟩
  | .limit => ⟨20, 0x00B0, .ro, 4, true, 0, -2147483648, 2147483647, 1⟩  -- default: Tray description
  | .minGrant => ⟨20, 0x00B1, .ro, 4, true, 0, -2147483648, 2147483647, 1⟩  -- default: Tray description
  | .weight => ⟨20, 0x00B2, .ro, 4, false, 16, 0, 4294967295, 1⟩
  | .demand => ⟨20, 0x00B3, .ro, 4, true, 0, -2147483648, 2147483647, 1⟩
  | .grant => ⟨20, 0x00B4, .ro, 4, true, 0, -2147483648, 2147483647, 1⟩
  | .cap => ⟨20, 0x00B5, .ro, 4, true, 0, -2147483648, 2147483647, 1⟩
  | .wsum => ⟨20, 0x00B6, .ro, 4, false, 0, 0, 4294967295, 1⟩
  | .age => ⟨20, 0x00B7, .ro, 4, false, 0, 0, 4294967295, 1⟩
  | .rackOther => ⟨20, 0x00B8, .rw, 4, true, 0, 0, 2147483647, 1000⟩  -- default: Tray description range: 0–LIMIT of node 1, step 1,000
  | .installFallback => ⟨20, 0x00B9, .rw, 4, true, 0, 0, 2147483647, 1000⟩  -- default: LIMIT of node 1 range: 0–LIMIT of node 1, step 1,000
  | .reefLevel => ⟨2, 0x00B0, .ro, 4, false, 7, 0, 4294967295, 1⟩
  | .reefSources => ⟨2, 0x00B1, .ro, 4, false, 0, 0, 4294967295, 1⟩
  | .emergencyLevel => ⟨2, 0x00B2, .ro, 4, false, 7, 0, 4294967295, 1⟩
  | .accelOverruns => ⟨2, 0x00B3, .ro, 4, false, 0, 0, 4294967295, 1⟩
  | .guardBand => ⟨255, 0x00B0, .ro, 4, false, 800, 0, 4294967295, 1⟩
  | .guardExtra => ⟨255, 0x00B1, .rw, 4, false, 0, 0, 2000, 10⟩
  | .convEff => ⟨255, 0x00B2, .rw, 4, false, 0, 800, 1000, 1⟩  -- default: Tray description
  | .auxFloor => ⟨255, 0x00B3, .rw, 4, true, 0, 0, 10000000, 1000⟩  -- default: Tray description
  | .pAux => ⟨255, 0x00B4, .ro, 4, true, 0, -2147483648, 2147483647, 1⟩
  | .inputPower => ⟨255, 0x00B5, .ro, 4, true, 0, -2147483648, 2147483647, 1⟩
  | .fastMargin => ⟨255, 0x00B6, .rw, 4, false, 20, 5, 100, 5⟩
  | .fastPersist => ⟨255, 0x00B7, .rw, 4, false, 5, 1, 32, 1⟩
  | .fastDepth => ⟨255, 0x00B8, .rw, 4, false, 100, 0, 500, 10⟩
  | .fastStage2 => ⟨255, 0x00B9, .rw, 4, false, 5, 2, 100, 1⟩
  | .fastFurlTime => ⟨255, 0x00BA, .rw, 4, false, 1000, 100, 100000, 100⟩
  | .fastRelease => ⟨255, 0x00BB, .rw, 4, false, 100, 10, 10000, 10⟩
  | .fastStep => ⟨255, 0x00BC, .rw, 4, false, 20, 2, 1000, 2⟩
  | .fastTrips => ⟨255, 0x00BD, .ro, 4, false, 0, 0, 4294967295, 1⟩
  | .complyMargin => ⟨255, 0x00BE, .rw, 4, false, 20, 5, 200, 5⟩
  | .complyTime => ⟨255, 0x00BF, .rw, 4, false, 20, 2, 1000, 2⟩
  | .demandProbe => ⟨255, 0x00C0, .rw, 4, false, 50, 0, 200, 5⟩
  | .rackId => ⟨255, 0x00C1, .ro, 4, false, 0, 0, 4294967295, 1⟩  -- default: Tray description
  | .rackMembers => ⟨255, 0x00C2, .ro, 4, false, 0, 0, 4294967295, 1⟩  -- default: Tray description
  | .rackPriority => ⟨255, 0x00C3, .rw, 4, false, 128, 0, 255, 1⟩
  | .rackHold => ⟨255, 0x00C4, .rw, 4, false, 1000, 200, 100000, 100⟩
  | .rackLeader => ⟨255, 0x00C5, .ro, 8, false, 0, 0, 18446744073709551615, 1⟩
  | .modelState => ⟨19, 0x00D0, .ro, 4, false, 0, 0, 4294967295, 1⟩
  | .modelVersion => ⟨19, 0x00D1, .ro, 4, false, 0, 0, 4294967295, 1⟩
  | .modelId => ⟨19, 0x00D2, .ro, 4, false, 0, 0, 4294967295, 1⟩
  | .modelSvn => ⟨19, 0x00D3, .ro, 4, false, 0, 0, 4294967295, 1⟩
  | .cost128 => ⟨19, 0x00D4, .ro, 4, false, 0, 0, 4294967295, 1⟩
  | .trainTile => ⟨19, 0x00D5, .rw, 4, false, 1, 0, 2, 1⟩  -- default: Lowest tile with stacks
  | .demoteRatio => ⟨19, 0x00D6, .rw, 4, false, 1000, 500, 2000, 10⟩
  | .rollbackWindows => ⟨19, 0x00D7, .rw, 4, false, 10, 1, 1000, 1⟩
  | .fcSlot => ⟨3, 0x00D0, .ro, 4, false, 4294967295, 0, 4294967295, 1⟩
  | .fcLoad => ⟨1, 0x00D0, .ro, 4, false, 0, 0, 4294967295, 1⟩
  | .fcMisses => ⟨1, 0x00D1, .ro, 4, false, 0, 0, 4294967295, 1⟩
  | .arrayState => ⟨1, 0x00D2, .ro, 4, false, 0, 0, 4294967295, 1⟩
  | .fcStep => ⟨255, 0x00D0, .ro, 4, false, 2000, 0, 4294967295, 1⟩
  | .fcBudget => ⟨255, 0x00D1, .ro, 4, false, 1040, 0, 4294967295, 1⟩
  | .fcSvnFloor => ⟨255, 0x00D2, .rw, 4, false, 0, 0, 65535, 1⟩
  | .groupFreq => ⟨21, 0x00E0, .ro, 4, false, 0, 0, 4294967295, 1⟩
  | .groupRound => ⟨21, 0x00E1, .ro, 4, false, 0, 0, 4294967295, 1⟩
  | .localMembers => ⟨21, 0x00E2, .ro, 4, false, 0, 0, 4294967295, 1⟩
  | .lockGroup => ⟨2, 0x00E0, .ro, 4, false, 4294967295, 0, 4294967295, 1⟩
  | .lockState => ⟨2, 0x00E1, .ro, 4, false, 0, 0, 4294967295, 1⟩
  | .proposal => ⟨2, 0x00E2, .ro, 4, false, 0, 0, 4294967295, 1⟩
  | .lagRounds => ⟨2, 0x00E3, .ro, 4, false, 0, 0, 4294967295, 1⟩
  | .groupFmax => ⟨2, 0x00E4, .rw, 4, false, 0, 0, 65535, 1⟩
  | .lockCommitLead => ⟨255, 0x00E0, .rw, 4, false, 100, 60, 240, 10⟩
  | .lagPolicy => ⟨255, 0x00E1, .rw, 4, false, 0, 0, 1, 1⟩
  | .lagLimit => ⟨255, 0x00E2, .rw, 4, false, 8, 1, 255, 1⟩
  | .lockTimeLimit => ⟨255, 0x00E3, .rw, 4, false, 1000, 100, 100000, 100⟩
  | .planLearn => ⟨255, 0x00E4, .rw, 4, false, 1, 0, 1, 1⟩
  | .planLead => ⟨255, 0x00E5, .rw, 4, false, 260, 20, 2000, 5⟩
  | .planHold => ⟨255, 0x00E6, .rw, 4, false, 2000, 100, 100000, 100⟩
  | .planHeadroom => ⟨255, 0x00E7, .rw, 4, false, 20, 0, 200, 5⟩
  | .planAlpha => ⟨255, 0x00E8, .rw, 4, false, 32, 1, 256, 1⟩
  | .planMinSamples => ⟨255, 0x00E9, .rw, 4, false, 4, 1, 255, 1⟩
  | .planMinConf => ⟨255, 0x00EA, .rw, 4, false, 128, 0, 255, 1⟩
  | .planEntries => ⟨255, 0x00EB, .ro, 4, false, 0, 0, 4294967295, 1⟩
  | .thermalTemperature => ⟨13, 0x00F0, .ro, 4, true, -2147483648, -2147483648, 2147483647, 1⟩
  | .reefT => ⟨13, 0x00F1, .rw, 4, true, 0, -40000, 150000, 500⟩
  | .furlT => ⟨13, 0x00F2, .rw, 4, true, 0, -40000, 150000, 500⟩  -- range: As above
  | .tripT => ⟨13, 0x00F3, .rw, 4, true, 0, -40000, 150000, 500⟩  -- range: As above
  | .hyst => ⟨13, 0x00F4, .rw, 4, false, 2000, 500, 10000, 500⟩
  | .owner => ⟨13, 0x00F5, .ro, 4, false, 0, 0, 4294967295, 1⟩  -- default: Table 11.1
  | .thermalStatus => ⟨13, 0x00F6, .ro, 4, false, 0, 0, 4294967295, 1⟩
  | .lossAction => ⟨13, 0x00F7, .rw, 4, false, 0, 0, 1, 1⟩
  | .thermalCeiling => ⟨2, 0x00F0, .ro, 4, true, 0, -2147483648, 2147483647, 1⟩  -- default: LIMIT
  | .furlState => ⟨2, 0x00F1, .ro, 4, false, 0, 0, 4294967295, 1⟩
  | .thermalReef => ⟨2, 0x00F2, .ro, 4, false, 0, 0, 4294967295, 1⟩
  | .throttleGain => ⟨255, 0x00F0, .rw, 4, false, 400, 50, 2000, 10⟩
  | .throttleSlew => ⟨255, 0x00F1, .rw, 4, false, 100, 10, 1000, 10⟩
  | .promoteBand => ⟨255, 0x00F2, .rw, 4, false, 5000, 1000, 20000, 500⟩
  | .hotBand => ⟨255, 0x00F3, .rw, 4, false, 8000, 2000, 30000, 500⟩
  | .thermalReefStep => ⟨255, 0x00F4, .rw, 4, false, 10, 1, 1000, 1⟩
  | .furlDeadline => ⟨255, 0x00F5, .rw, 4, false, 2000, 100, 60000, 100⟩
  | .trayFurlState => ⟨255, 0x00F6, .ro, 4, false, 0, 0, 4294967295, 1⟩
  | .oscComp => ⟨1, 0x00F0, .ro, 4, true, 0, -2147483648, 2147483647, 1⟩
  | .channelState => ⟨7, 0x0100, .ro, 4, false, 0, 0, 4294967295, 1⟩
  | .speed => ⟨7, 0x0101, .ro, 4, true, 0, -2147483648, 2147483647, 1⟩
  | .driveVoltage => ⟨7, 0x0102, .ro, 4, true, 0, -2147483648, 2147483647, 1⟩
  | .driveCurrent => ⟨7, 0x0103, .ro, 4, true, 0, -2147483648, 2147483647, 1⟩
  | .effectiveTarget => ⟨7, 0x0104, .ro, 4, true, 0, -2147483648, 2147483647, 1⟩
  | .control => ⟨7, 0x0105, .ro, 4, false, 0, 0, 4294967295, 1⟩
  | .kickTime => ⟨7, 0x0106, .rw, 4, false, 1500, 500, 5000, 100⟩
  | .restTime => ⟨7, 0x0107, .rw, 4, false, 3000, 1000, 30000, 500⟩
  | .kickAttempts => ⟨7, 0x0108, .rw, 4, false, 3, 1, 8, 1⟩
  | .stallRetry => ⟨7, 0x0109, .rw, 4, false, 300, 0, 3600, 10⟩
  | .stallG => ⟨7, 0x010A, .rw, 4, false, 0, 10, 1000, 1⟩  -- default: Tray description
  | .iOpen => ⟨7, 0x010B, .rw, 4, true, 0, 5, 500, 5⟩  -- default: Tray description
  | .speedSlew => ⟨7, 0x010C, .rw, 4, false, 0, 50, 20000, 50⟩  -- default: Tray description
  | .channelFlags => ⟨7, 0x010D, .ro, 4, false, 0, 0, 4294967295, 1⟩
  | .position => ⟨9, 0x0100, .ro, 4, true, 0, -2147483648, 2147483647, 1⟩
  | .command => ⟨9, 0x0101, .ro, 4, true, 0, -2147483648, 2147483647, 1⟩
  | .valveControl => ⟨9, 0x0102, .ro, 4, false, 0, 0, 4294967295, 1⟩
  | .stuck => ⟨9, 0x0103, .ro, 4, false, 0, 0, 4294967295, 1⟩
  | .valveTol => ⟨9, 0x0104, .rw, 4, false, 50, 10, 200, 10⟩
  | .valveStuckTime => ⟨9, 0x0105, .rw, 4, false, 2000, 200, 10000, 100⟩
  | .flow => ⟨10, 0x0100, .ro, 4, true, 0, -2147483648, 2147483647, 1⟩
  | .flowRole => ⟨10, 0x0101, .ro, 4, false, 0, 0, 4294967295, 1⟩  -- default: Tray description
  | .pressure => ⟨11, 0x0100, .ro, 4, true, 0, -2147483648, 2147483647, 1⟩
  | .pMin => ⟨11, 0x0101, .rw, 4, true, 0, 0, 2000000, 1000⟩  -- default: Tray description
  | .pMax => ⟨11, 0x0102, .rw, 4, true, 0, 0, 2000000, 1000⟩  -- default: Tray description range: Above P_MIN, up to 2,000,000, step 1,000
  | .zoneState => ⟨12, 0x0100, .ro, 4, false, 0, 0, 4294967295, 1⟩
  | .leakR => ⟨12, 0x0101, .ro, 4, false, 0, 0, 4294967295, 1⟩
  | .firstAction => ⟨12, 0x0102, .rw, 4, false, 0, 0, 3, 1⟩  -- default: Tray description
  | .secondAction => ⟨12, 0x0103, .rw, 4, false, 0, 0, 3, 1⟩  -- default: Tray description
  | .wetR => ⟨12, 0x0104, .rw, 4, false, 100000, 10000, 1000000, 1000⟩
  | .heldAction => ⟨12, 0x0105, .ro, 4, false, 0, 0, 4294967295, 1⟩
  | .flowFloor => ⟨2, 0x0100, .rw, 4, true, 0, 100, 2147483647, 10⟩  -- default: Tray description range: 100–BRANCH_MAX, step 10
  | .branchMax => ⟨2, 0x0101, .ro, 4, true, 0, -2147483648, 2147483647, 1⟩  -- default: Tray description
  | .flowRequest => ⟨2, 0x0102, .ro, 4, true, 0, -2147483648, 2147483647, 1⟩
  | .flowAllocated => ⟨2, 0x0103, .ro, 4, true, 0, -2147483648, 2147483647, 1⟩
  | .outletTarget => ⟨2, 0x0104, .ro, 4, true, 0, -2147483648, 2147483647, 1⟩
  | .leakRef => ⟨2, 0x0105, .rw, 4, true, 0, 0, 2000000, 1000⟩  -- default: Tray description
  | .leakDoubling => ⟨2, 0x0106, .rw, 4, false, 0, 5000, 50000, 500⟩  -- default: Tray description
  | .autonomous => ⟨255, 0x0100, .ro, 4, false, 0, 0, 4294967295, 1⟩
  | .hostSilence => ⟨255, 0x0101, .rw, 4, false, 5, 1, 60, 1⟩
  | .runOn => ⟨255, 0x0102, .rw, 4, false, 30, 0, 600, 1⟩
  | .flowProven => ⟨255, 0x0103, .ro, 4, false, 0, 0, 4294967295, 1⟩
  | .flowProvenMin => ⟨255, 0x0104, .rw, 4, true, 0, 100, 200000, 100⟩  -- default: Tray description
  | .flowProvenTime => ⟨255, 0x0105, .rw, 4, false, 500, 100, 10000, 100⟩
  | .flowMin => ⟨255, 0x0106, .rw, 4, true, 0, 100, 200000, 100⟩  -- default: Tray description
  | .flowLossTime => ⟨255, 0x0107, .rw, 4, false, 1000, 100, 10000, 100⟩
  | .totalFlow => ⟨255, 0x0108, .ro, 4, true, 0, -2147483648, 2147483647, 1⟩
  | .pumpValveTarget => ⟨255, 0x0109, .rw, 4, false, 900, 500, 1000, 10⟩
  | .waterMode => ⟨255, 0x010A, .ro, 4, false, 0, 0, 4294967295, 1⟩  -- default: Tray description
  | .returnTarget => ⟨255, 0x010B, .ro, 4, true, 0, -2147483648, 2147483647, 1⟩  -- default: Tray description
  | .waterWeight => ⟨255, 0x010C, .ro, 4, true, 0, -2147483648, 2147483647, 1⟩  -- default: Tray description
  | .junctionMargin => ⟨255, 0x010D, .rw, 4, false, 5000, 1000, 20000, 500⟩
  | .cV => ⟨255, 0x010E, .rw, 4, false, 0, 3000, 4200, 10⟩  -- default: Tray description
  | .minRise => ⟨255, 0x010F, .rw, 4, false, 2000, 500, 10000, 500⟩
  | .leakConfirm => ⟨255, 0x0110, .rw, 4, false, 100, 10, 5000, 10⟩
  | .leakEscalate => ⟨255, 0x0111, .rw, 4, false, 10, 0, 600, 1⟩
  | .leakDryTime => ⟨255, 0x0112, .rw, 4, false, 60, 1, 3600, 1⟩
  | .leakFurlDeadline => ⟨255, 0x0113, .rw, 4, false, 500, 100, 60000, 100⟩
  | .leakCutTime => ⟨255, 0x0114, .rw, 4, false, 1000, 100, 60000, 100⟩
  | .supplyTemp => ⟨255, 0x0115, .ro, 4, true, -2147483648, -2147483648, 2147483647, 1⟩
  | .returnTemp => ⟨255, 0x0116, .ro, 4, true, -2147483648, -2147483648, 2147483647, 1⟩
  | .engineState => ⟨15, 0x0120, .ro, 4, false, 0, 0, 4294967295, 1⟩
  | .programId => ⟨15, 0x0121, .ro, 4, false, 0, 0, 4294967295, 1⟩
  | .programVersion => ⟨15, 0x0122, .ro, 4, false, 0, 0, 4294967295, 1⟩
  | .utilisation => ⟨15, 0x0123, .ro, 4, false, 0, 0, 4294967295, 1⟩
  | .budgetFaults => ⟨15, 0x0124, .ro, 4, false, 0, 0, 4294967295, 1⟩
  | .lastFault => ⟨15, 0x0125, .ro, 4, false, 0, 0, 4294967295, 1⟩
  | .autostart => ⟨15, 0x0126, .rw, 4, false, 0, 0, 1, 1⟩
  | .dispatches => ⟨15, 0x0127, .ro, 4, false, 0, 0, 4294967295, 1⟩
  | .srcConfig => ⟨16, 0x0130, .rw, 4, false, 2399141888, 0, 4294967295, 1⟩  -- range: Table 13.10
  | .srcStatus => ⟨16, 0x0134, .rw1c, 4, false, 0, 0, 4294967295, 1⟩  -- range: Table 13.11
  | .softPend => ⟨16, 0x0138, .wo, 4, false, 0, 0, 7, 1⟩  -- range: Bits 2:0 tile mask
  | .ecHold => ⟨16, 0x013A, .rw, 4, false, 0, 0, 7, 1⟩  -- range: Bits 2:0; others RSV
  | .ecHoldLimit => ⟨16, 0x013B, .rw, 4, false, 1000, 1, 60000, 1⟩
  | .burinSvnFloor => ⟨255, 0x0120, .rw, 4, false, 0, 0, 65535, 1⟩
  | .ratlinePortState => ⟨22, 0x0140, .ro, 4, false, 0, 0, 4294967295, 1⟩
  | .portRole => ⟨22, 0x0141, .ro, 4, false, 0, 0, 4294967295, 1⟩
  | .neighbour => ⟨22, 0x0142, .ro, 8, false, 0, 0, 18446744073709551615, 1⟩
  | .ratlineLinkErrors => ⟨22, 0x0143, .ro, 4, false, 0, 0, 4294967295, 1⟩
  | .ratlineReplays => ⟨22, 0x0144, .ro, 4, false, 0, 0, 4294967295, 1⟩
  | .oneWay => ⟨22, 0x0145, .ro, 4, false, 0, 0, 4294967295, 1⟩
  | .vc1Drops => ⟨22, 0x0146, .ro, 4, false, 0, 0, 4294967295, 1⟩
  | .portAdmin => ⟨22, 0x0147, .rw, 4, false, 0, 0, 1, 1⟩
  | .taddr => ⟨255, 0x0140, .ro, 4, false, 268435455, 0, 4294967295, 1⟩
  | .masthead => ⟨255, 0x0141, .ro, 8, false, 0, 0, 18446744073709551615, 1⟩  -- default: Own serial
  | .depth => ⟨255, 0x0142, .ro, 4, false, 0, 0, 4294967295, 1⟩
  | .height => ⟨255, 0x0143, .ro, 4, false, 0, 0, 4294967295, 1⟩
  | .mastPriority => ⟨255, 0x0144, .rw, 4, false, 128, 0, 255, 1⟩
  | .remoteTimeout => ⟨255, 0x0145, .rw, 4, false, 10000, 1000, 1000000, 1000⟩
  | .opsOpen => ⟨255, 0x0146, .ro, 4, false, 0, 0, 4294967295, 1⟩
  | .treeChanges => ⟨255, 0x0147, .ro, 4, false, 0, 0, 4294967295, 1⟩
  | .busPortState => ⟨14, 0x0150, .ro, 4, false, 0, 0, 4294967295, 1⟩
  | .busConfig => ⟨14, 0x0151, .ro, 16, false, 0, 0, 0, 1⟩  -- default: Table 15.8 or 15.9
  | .naks => ⟨14, 0x0152, .ro, 4, false, 0, 0, 4294967295, 1⟩
  | .arbLosses => ⟨14, 0x0153, .ro, 4, false, 0, 0, 4294967295, 1⟩
  | .timeouts => ⟨14, 0x0154, .ro, 4, false, 0, 0, 4294967295, 1⟩
  | .illegalConds => ⟨14, 0x0155, .ro, 4, false, 0, 0, 4294967295, 1⟩
  | .recoveries => ⟨14, 0x0156, .ro, 4, false, 0, 0, 4294967295, 1⟩
  | .pecErrors => ⟨14, 0x0157, .ro, 4, false, 0, 0, 4294967295, 1⟩
  | .queued => ⟨14, 0x0158, .ro, 4, false, 0, 0, 4294967295, 1⟩
  | .recState => ⟨23, 0x0160, .ro, 4, false, 0, 0, 4294967295, 1⟩
  | .window => ⟨23, 0x0161, .ro, 4, false, 0, 0, 4294967295, 1⟩
  | .postTrigger => ⟨23, 0x0162, .rw, 4, false, 2000, 0, 16000, 100⟩
  | .triggerOnSafety => ⟨23, 0x0163, .rw, 4, false, 1, 0, 1, 1⟩
  | .triggerMask => ⟨23, 0x0164, .rw, 128, false, 0, 0, 2 ^ 1024 - 1, 1⟩  -- range: Bit n: event n
  | .autoRelease => ⟨23, 0x0165, .rw, 4, false, 0, 0, 86400, 1⟩
  | .streamRate => ⟨23, 0x0166, .ro, 4, false, 0, 0, 4294967295, 1⟩
  | .drops => ⟨23, 0x0167, .ro, 4, false, 0, 0, 4294967295, 1⟩
  | .captureStart => ⟨23, 0x0168, .ro, 8, false, 0, 0, 18446744073709551615, 1⟩
  | .captureEnd => ⟨23, 0x0169, .ro, 8, false, 0, 0, 18446744073709551615, 1⟩
  | .stippleInterval => ⟨23, 0x016A, .rw, 4, false, 10, 1, 1000, 1⟩
  | .stippleSpan => ⟨23, 0x016B, .ro, 4, false, 0, 0, 4294967295, 1⟩
  | .exportRate => ⟨23, 0x016C, .rw, 4, false, 4000, 100, 8000, 100⟩
  | .stackState => ⟨1, 0x0160, .ro, 4, false, 0, 0, 4294967295, 1⟩
  | .ceCount => ⟨1, 0x0161, .ro, 4, false, 0, 0, 4294967295, 1⟩
  | .ueCount => ⟨1, 0x0162, .ro, 4, false, 0, 0, 4294967295, 1⟩
  | .spareRowsFree => ⟨1, 0x0163, .ro, 4, false, 0, 0, 4294967295, 1⟩
  | .scrubPeriod => ⟨255, 0x0160, .rw, 4, false, 8, 1, 168, 1⟩
  | .ceRowLimit => ⟨255, 0x0161, .rw, 4, false, 8, 1, 255, 1⟩
  | .ueStackLimit => ⟨255, 0x0162, .rw, 4, false, 16, 1, 1000, 1⟩
  | .bootInfo => ⟨1, 0x0170, .ro, 4, false, 0, 0, 4294967295, 1⟩
  | .bootSvn => ⟨1, 0x0171, .ro, 4, false, 0, 0, 4294967295, 1⟩
  | .bootDigest => ⟨1, 0x0172, .ro, 48, false, 0, 0, 0, 1⟩
  | .bootTime => ⟨1, 0x0173, .ro, 4, false, 0, 0, 4294967295, 1⟩
  | .keyState => ⟨25, 0x0170, .ro, 4, false, 0, 0, 4294967295, 1⟩
  | .svnFloor => ⟨255, 0x0170, .ro, 4, false, 0, 0, 4294967295, 1⟩
  | .authSessions => ⟨24, 0x0170, .ro, 4, false, 0, 0, 4294967295, 1⟩
  | .authFailures => ⟨24, 0x0171, .ro, 4, false, 0, 0, 4294967295, 1⟩
  | .stageState => ⟨18, 0x0180, .ro, 4, false, 0, 0, 4294967295, 1⟩
  | .stagePrefix => ⟨18, 0x0181, .ro, 8, false, 0, 0, 18446744073709551615, 1⟩
  | .stageTotal => ⟨18, 0x0182, .ro, 8, false, 0, 0, 18446744073709551615, 1⟩
  | .bundleVersion => ⟨18, 0x0183, .ro, 4, false, 0, 0, 4294967295, 1⟩
  | .autoConfirm => ⟨255, 0x0180, .rw, 4, false, 0, 0, 86400, 1⟩
  | .stepTimeout => ⟨255, 0x0181, .rw, 4, false, 120, 10, 3600, 10⟩
  | .tdGeneration => ⟨255, 0x0182, .ro, 8, false, 0, 0, 18446744073709551615, 1⟩
  | .pointState => ⟨26, 0x0190, .ro, 4, false, 0, 0, 4294967295, 1⟩
  | .fires => ⟨26, 0x0191, .ro, 4, false, 0, 0, 4294967295, 1⟩
  | .level => ⟨26, 0x0192, .ro, 4, false, 0, 0, 4294967295, 1⟩
  | .maintenance => ⟨255, 0x0190, .ro, 4, false, 0, 0, 4294967295, 1⟩
  | .armLimit => ⟨255, 0x0191, .rw, 4, false, 60, 1, 3600, 1⟩
  | .armed => ⟨255, 0x0192, .ro, 4, false, 0, 0, 4294967295, 1⟩
  | .calPeriod => ⟨255, 0x0193, .rw, 4, false, 3600, 60, 86400, 60⟩
  | .logMask => ⟨255, 0x0194, .rw, 128, false, 0, 0, 2 ^ 1024 - 1, 1⟩  -- range: Bit n: event n
  | .logFirst => ⟨255, 0x0195, .ro, 8, false, 0, 0, 18446744073709551615, 1⟩
  | .logNext => ⟨255, 0x0196, .ro, 8, false, 0, 0, 18446744073709551615, 1⟩
  | .logCursor => ⟨255, 0x0197, .rw, 8, false, 0, 0, 18446744073709551615, 1⟩  -- range: Any; held per session
  | .logRecords => ⟨255, 0x0198, .ro, 3984, false, 0, 0, 0, 1⟩
  | .logGaps => ⟨255, 0x0199, .ro, 4, false, 0, 0, 4294967295, 1⟩

/-- The properties found by code on their object's class (every name, in the tables' order). -/
def P.all : List P :=
  List.flatten [
  [.powerState, .pace, .paceMin, .paceAlarm, .crossingTimeout, .stitchTimeout, .commonTime, .timeStatus, .timeError, .holdoverLimit, .lastCsn, .arbWeights, .ageCap, .safetyRate, .sessionTimeout, .udpPort, .crcErrors, .busyReplies, .role, .adminState],
  [.fenceCause, .ackCsn, .loopAccels, .membership, .leader, .term, .heartbeatTimeout, .voteWindow, .autoRejoin, .foreLossAction, .foreLossGrace, .failoverCount, .accelPresence, .accelSerial, .shroudState, .reefGen, .silentAction, .accelLinkErrors, .accelReplays, .capability],
  [.accelLossTime, .silentFurlDelay, .alertNolinkDelay, .railStatus, .voltage, .scale, .thresholds, .glitch, .ovGlitch, .luffWindow, .nominal, .seqState, .traySeqState, .activeTable, .autoRestart, .minOffTime, .dischargeTimeout, .startWait, .restartLimit, .mainGoodV],
  [.mainLostV, .mainLostTime, .feedsRequired, .firstFaultLatched, .incident, .legState, .current, .legTemperature, .admin, .faultCause, .senseChannel, .setpoint, .setpointSlew, .loadLine, .domainCurrent, .legCounts, .nMin, .minHealthy, .iLegTarget, .shedHold],
  [.planMargin, .domainOc, .domainOcTime, .coeffSet, .planSource, .relayPresence, .relaySerial, .sheetState, .staleSlots, .spares, .relayLinkErrors, .tileOverruns, .legWake, .relayLossTime, .calInterval, .calMismatch, .legOcAvg, .legOcTime, .legTempLimit, .peakLimitSlots],
  [.limit, .minGrant, .weight, .demand, .grant, .cap, .wsum, .age, .rackOther, .installFallback, .reefLevel, .reefSources, .emergencyLevel, .accelOverruns, .guardBand, .guardExtra, .convEff, .auxFloor, .pAux, .inputPower],
  [.fastMargin, .fastPersist, .fastDepth, .fastStage2, .fastFurlTime, .fastRelease, .fastStep, .fastTrips, .complyMargin, .complyTime, .demandProbe, .rackId, .rackMembers, .rackPriority, .rackHold, .rackLeader, .modelState, .modelVersion, .modelId, .modelSvn],
  [.cost128, .trainTile, .demoteRatio, .rollbackWindows, .fcSlot, .fcLoad, .fcMisses, .arrayState, .fcStep, .fcBudget, .fcSvnFloor, .groupFreq, .groupRound, .localMembers, .lockGroup, .lockState, .proposal, .lagRounds, .groupFmax, .lockCommitLead],
  [.lagPolicy, .lagLimit, .lockTimeLimit, .planLearn, .planLead, .planHold, .planHeadroom, .planAlpha, .planMinSamples, .planMinConf, .planEntries, .thermalTemperature, .reefT, .furlT, .tripT, .hyst, .owner, .thermalStatus, .lossAction, .thermalCeiling],
  [.furlState, .thermalReef, .throttleGain, .throttleSlew, .promoteBand, .hotBand, .thermalReefStep, .furlDeadline, .trayFurlState, .oscComp, .channelState, .speed, .driveVoltage, .driveCurrent, .effectiveTarget, .control, .kickTime, .restTime, .kickAttempts, .stallRetry],
  [.stallG, .iOpen, .speedSlew, .channelFlags, .position, .command, .valveControl, .stuck, .valveTol, .valveStuckTime, .flow, .flowRole, .pressure, .pMin, .pMax, .zoneState, .leakR, .firstAction, .secondAction, .wetR],
  [.heldAction, .flowFloor, .branchMax, .flowRequest, .flowAllocated, .outletTarget, .leakRef, .leakDoubling, .autonomous, .hostSilence, .runOn, .flowProven, .flowProvenMin, .flowProvenTime, .flowMin, .flowLossTime, .totalFlow, .pumpValveTarget, .waterMode, .returnTarget],
  [.waterWeight, .junctionMargin, .cV, .minRise, .leakConfirm, .leakEscalate, .leakDryTime, .leakFurlDeadline, .leakCutTime, .supplyTemp, .returnTemp, .engineState, .programId, .programVersion, .utilisation, .budgetFaults, .lastFault, .autostart, .dispatches, .srcConfig],
  [.srcStatus, .softPend, .ecHold, .ecHoldLimit, .burinSvnFloor, .ratlinePortState, .portRole, .neighbour, .ratlineLinkErrors, .ratlineReplays, .oneWay, .vc1Drops, .portAdmin, .taddr, .masthead, .depth, .height, .mastPriority, .remoteTimeout, .opsOpen],
  [.treeChanges, .busPortState, .busConfig, .naks, .arbLosses, .timeouts, .illegalConds, .recoveries, .pecErrors, .queued, .recState, .window, .postTrigger, .triggerOnSafety, .triggerMask, .autoRelease, .streamRate, .drops, .captureStart, .captureEnd],
  [.stippleInterval, .stippleSpan, .exportRate, .stackState, .ceCount, .ueCount, .spareRowsFree, .scrubPeriod, .ceRowLimit, .ueStackLimit, .bootInfo, .bootSvn, .bootDigest, .bootTime, .keyState, .svnFloor, .authSessions, .authFailures, .stageState, .stagePrefix],
  [.stageTotal, .bundleVersion, .autoConfirm, .stepTimeout, .tdGeneration, .pointState, .fires, .level, .maintenance, .armLimit, .armed, .calPeriod, .logMask, .logFirst, .logNext, .logCursor, .logRecords, .logGaps]]

end Sys2Proof
end

