-- ==== Sys2Proof/Machine/State.lean ====
section
/-! DEFINITION. The state of the block: plain data. -/

namespace Sys2Proof.Machine

/-- The state of the controller. `regs` holds the properties (Tables 2.1–19.12) by name and object index, `vars` the
hidden registers, `timers` the instants timers are due; a key that is not listed reads as its reset value. -/
structure State where
  /-- Common time reached (R73), ns. -/
  now : Ns := 0
  /-- The commands that wait, first in, first out. -/
  pending : List Instr := []
  /-- The member of the family (Table 0.1). -/
  member : Member := .kt880
  /-- Values drawn so far from the free values of Config: the model's own counter. -/
  draws : Nat := 0
  regs : Tab (Tab Int) := {}
  vars : Tab (Tab Int) := {}
  timers : Tab (Tab (Option Ns)) := {}
  /-- LAST_CSN of each object (R131), by object ID. -/
  lastCsn : Tab Nat := {}
  /-- What has been sent and not taken by the outside (the model's record of the block's outputs). -/
  outbox : List Msg := []
  /-- Raised events not yet posted to the event controllers (R549), oldest first. -/
  raised : List EventRec := []
  sessions : List Session := []
  endpoints : Tab Endpoint := {}
  /-- Admitted requests waiting for dispatch, in order of admission (R125). -/
  waiting : List Waiting := []
  /-- The queues of each class, least recently served first (round robin, R127). -/
  served : List (CmdClass × Binding × Nat) := []
  outst : List Outst := []
  /-- Committed requests without a reported outcome whose binding went with its tile (R169). -/
  orphans : List Outst := []
  /-- Running writes of LEADER and the tile each names (R151). -/
  handovers : List (Origin × Nat) := []
  /-- Long-running commands running after ST_ACCEPTED (R135). -/
  running : List Origin := []
  /-- Instants of SAFETY admissions of each source in the last millisecond (R126), and of the latest
  EV_SAFETY_RATE_LIMITED of each. -/
  safetyAdmits : List (Binding × Ns) := []
  safetyLimited : List (Binding × Ns) := []
  /-- Requests whose COMMAND entry is not yet committed, in CSN order (R154). -/
  unapplied : List Unapplied := []
  /-- Completions whose FINAL entry is not yet committed (R135). -/
  endings : List Ending := []
  /-- The CSN of the COMMAND entry of each request that has no final outcome yet, by its origin's `id`. -/
  cmdCsn : Tab Nat := {}
  /-- Commands between APPLY_BEGIN and APPLY_END (R153). -/
  applying : List Applying := []
  /-- Vote disagreements of the last second: the tile and the instant (R163). -/
  disagreed : List (Nat × Ns) := []
  resWaits : List ResWait := []
  /-- Objects held by running commands (R134). -/
  holds : List (Origin × ObjId) := []
  journal : Journal := {}
  log : EventLog := {}
  /-- The tray description in force (R773). -/
  td : Option TrayDesc := none
  /-- Running writes of POWER_STATE and the state each named (R37). -/
  powerWrites : List (Origin × Nat) := []
  /-- NOR writes in progress, in order (R22). -/
  norWrites : List NorWrite := []
  /-- The sequence tables (R241), by number. -/
  tables : Tab SeqTable := {}
  rails : Tab RailSt := {}
  domains : Tab DomSt := {}
  legs : Tab LegSt := {}
  relays : Tab RelaySt := {}
  /-- Link states: Shroud ports 0–15, Sheet ports from 16, Ratline ports from 48. -/
  links : Tab Link := {}
  /-- Shroud messages held for a missing number (R209). -/
  held : List HeldMsg := []
  alertHolds : List AlertHold := []
  /-- The latest HINT of each accelerator (R217). -/
  hints : Tab Hint := {}
  /-- Ratline neighbours, by port. -/
  ratPorts : Tab RatPort := {}
  /-- RACK_HELLOs heard (R336), one a serial and port. -/
  hearings : List Hearing := []
  /-- Budget nodes (R320). -/
  nodes : Tab NodeSt := {}
  /-- Members of the rack, at its leader. -/
  rackMembers : List BudgetMember := []
  /-- Racks, at the masthead. -/
  racks : List BudgetMember := []
  /-- P_in at the latest sample, mW (R346). -/
  pIn : Rat := 0
  /-- P_in less the accelerators' share over the last millisecond (R326), newest first. -/
  auxHistory : List (Ns × Rat) := []
  /-- Tray demand at the tray epochs of the last rack epoch (R328), newest first. -/
  trayDemands : List Int := []
  fast : FastSt := {}
  /-- The latest TELEMETRY of each accelerator. -/
  telemetry : Tab Telemetry := {}
  models : Tab Model := {}
  fcDoms : Tab FcDom := {}
  switches : List Switch := []
  shelf : Tab Shelved := {}
  /-- Writes to the NAND in progress (R380, R693). -/
  nandWrites : List NandWhat := []
  /-- The NOR dies (R21, Table 1.2). -/
  nor : Nor := {}
  stage : Stage := {}
  /-- The descriptor store (R692), oldest first. -/
  descStore : List CompatDesc := []
  etch : Option Etch := none
  activation : Option Activation := none
  roll : Option Roll := none
  revoking : Option Revoke := none
  wakeRec : Option WakeRec := none
  /-- Injection points (R716), by catalogue number. -/
  points : Tab Inj := {}
  tests : List Trial := []
  recorder : Recorder := {}
  /-- The stipple ring, newest first (R654). -/
  stipple : List StippleFrame := []
  exports : List Export := []
  /-- Corrected words of the last 24 h, and the stacks and instants of uncorrectable ones (R641, R645). -/
  rowHits : List RowHit := []
  ueHits : List (Nat × Ns) := []
  /-- Corrected codewords last written back, by place and word (R638). -/
  codewords : Tab Nat := {}
  /-- Poisoned 4 KiB blocks: stack and block (R643). -/
  poison : List (Nat × Nat) := []
  /-- Controller ports (R614), and the target ports 0 and 1. -/
  buses : Tab BusSt := {}
  windows : Tab WinSt := {}
  relayDone : List RelayDone := []
  ethShakes : List EthShake := []
  ethSessions : List EthSess := []
  /-- Accelerators whose regulation is to move, and the tile each moves to (R178). -/
  moves : List (Nat × Nat) := []
  lockMembers : Tab LockMember := {}
  lockGroups : Tab LockGroup := {}
  /-- The masthead's group table (R411). -/
  lockTable : List TableGroup := []
  lockCmds : List LockCmd := []
  /-- LOCK_UP entries of the round merged so far (R415), and the Ratline ports whose LOCK_UP has come. -/
  lockSum : List LockEntry := []
  lockHeard : List Nat := []
  /-- The phase-plan table (R428). -/
  plans : List PlanEntry := []
  coming : Tab PlanWin := {}
  runningPlan : Tab PlanWin := {}
  phases : Tab PhaseObs := {}
  engines : Tab Engine := {}
  /-- Sources of the event controllers, tile t's source n at 3·n + t. -/
  srcs : Tab SrcSt := {}
  /-- Replies on their way to the mailboxes of engines, oldest first (R541). -/
  mail : List (Nat × Reply) := []
  /-- Program images in the NAND, by engine. -/
  progShelf : Tab ShelfProg := {}
  globalOps : List GlobalOp := []
  opResults : List OpResult := []
  snapBufs : List SnapBuf := []
  remoteOuts : List RemoteOut := []
  remoteIns : List RemoteIn := []
  /-- OP_IDs of collectives released before this tray arrived, newest first (R596). -/
  opsPassed : List Nat := []
  /-- Window paces of each tile, newest first, at most 1,000 (Table 2.1). -/
  paces : Tab (List Nat) := {}
  /-- Values of CROSSING_TIMEOUT (2·t) and STITCH_TIMEOUT (2·t + 1) that a write replaced in the last 20 µs, with the instant of
  the write, oldest first (R60). -/
  oldLimits : Tab (List (Ns × Int)) := {}
  therms : Tab ThermSt := {}
  /-- Fan channels 0–15, pumps 16–19. -/
  drives : Tab DriveSt := {}
  zones : Tab ZoneSt := {}
  branches : Tab BranchSt := {}
  runs : List Run := []
  offRuns : List OffRun := []
  starts : List StartCmd := []
  stops : List StopCmd := []
  /-- Furls, by scope (R454). -/
  furls : Tab FurlSt := {}
  furlCmds : List FurlCmd := []
  /-- Failures of the open incident confirmed so far (R265). -/
  failures : List Failure := []
  /-- Instants of automatic restarts (R260). -/
  restarts : List Ns := []
deriving DecidableEq, Repr

/-- Nothing stops the block: every command's effect, a refused request included, is a next state. -/
inductive Fault where
deriving DecidableEq, Repr

/-- Why a command has no meaning. -/
inductive Refusal where
  /-- Raised by `exec` for a command whose meaning is not written. Safe: the machine stops. -/
  | notModelled (mnemonic : String)
deriving DecidableEq, Repr

/-- The block with no standby power (R34, OFF): every register at its default, nothing stored, nothing waiting. -/
def State.reset : State := {}

end Sys2Proof.Machine
end

