-- ==== Sys2Proof/Machine/Basics.lean ====
section
/-! DEFINITION. The operations every command is made of: registers and timers, object numbers, members, votes. -/

namespace Sys2Proof

/-! ### Members, sources -/

/-- The tiles of a member (Table 0.1). -/
def Member.tiles : Member → Nat
  | .kt880 => 3 | .kt860 => 2 | _ => 1

/-- The accelerators of a member (Table 0.1). -/
def Member.accels : Member → Nat
  | .kt880 | .kt860 => 8 | .kt440 | .kt420 => 4 | .kt110 => 1

/-- The source class of a binding (Table 3.10). -/
def Binding.cls : Binding → SourceClass
  | .ring _ | .vdm _ => .host | .smbus _ => .smbus | .eth _ _ => .ethernet | .ratline _ _ => .ratline
  | .burin _ => .burin | .firmware => .firmware

/-- The code of a source class (Table 3.10). -/
def SourceClass.code : SourceClass → Nat
  | .firmware => 0 | .host => 1 | .smbus => 2 | .ethernet => 3 | .ratline => 4 | .burin => 5

/-- Host-class sources (R110). -/
def SourceClass.isHost : SourceClass → Bool
  | .host | .smbus | .ethernet => true
  | _ => false

/-- The HOST_PORT, RATLINE_PORT or BURIN index of a binding; 0 for firmware (Table 3.23). -/
def Binding.port : Binding → Nat
  | .ring e | .vdm e => e.val | .smbus k => 2 + k.val | .eth p _ => 4 + p.val | .ratline p _ => p.val
  | .burin e => e.val | .firmware => 0

/-- The tile a binding arrives on (Table 1.4); a one-tile member has every port on its tile (R2). -/
def Binding.tile : Binding → Nat
  | .ring e | .vdm e => 1 + e.val | .smbus k => k.val | .eth p _ => p.val | .ratline p _ => if p.val < 5 then 0 else 1
  | .burin e => e.val / 16 | .firmware => 0

/-! ### Defaults -/

/-- What a property of the object with index `i` holds after reset: its table's default, and that of the thermal channels
that are not the tray description's (Tables 11.1, 11.4), and of a controller port's configuration (Table 15.8). -/
def P.dfltAt (p : P) (i : Nat) : Int :=
  match p with
  | .reefT => if i < 72 then 95000 else p.desc.dflt
  | .furlT => if i < 72 then 105000 else p.desc.dflt
  | .tripT => if i < 72 then 115000 else p.desc.dflt
  | .busConfig => if i < 32 then 50 * 2 ^ 96 + 100 * 2 ^ 80 + 25 * 2 ^ 72 + 2 * 2 ^ 64 + 10 * 2 ^ 48 + 10 * 2 ^ 32 else 0
  | .owner => if i < 72 then 32768 else if 216 ≤ i then (2 ^ ((i - 216) / 96) : Nat) else p.desc.dflt
  | _ => p.desc.dflt

/-- The Ratline ports of a member (Table 0.1). -/
def Member.ratPorts : Member → Nat
  | .kt880 | .kt860 => 10 | .kt440 => 4 | .kt420 => 2 | .kt110 => 0

/-- The HOST_PORTs of a member (Tables 0.1, 1.4, 1.10): the PCIe endpoints of Main and Mizzen, the SMBus target ports 32 and 33,
and the Ethernet ports 0 and 1. A one-tile member has the first endpoint (R2) and the ports of Fore. -/
def Member.hostPort (m : Member) (i : Nat) : Bool :=
  match i with
  | 0 | 2 => true
  | 1 => decide (m = .kt880)
  | 4 => decide (m ≠ .kt110)
  | 3 | 5 => decide (1 < m.tiles)
  | _ => false

/-- The islands of a tile (Table 2.2): common time and guard everywhere; the SerDes of Shroud, Sheet, Ratline and Ethernet, fast
sense, housekeeping and two-wire on Fore and Main; PCIe and DRAM on Main and Mizzen; drive and tach on Fore. -/
def Member.island (m : Member) (t i : Nat) : Bool :=
  decide (t < m.tiles) &&
  (decide (m.tiles = 1) || match i with
    | 0 | 1 => true
    | 4 | 5 => decide (t ≠ 0)
    | 8 => decide (t = 0)
    | _ => decide (t ≠ 2))

end Sys2Proof

namespace Sys2Proof.Machine

/-- An element at its place in a sorted list, before its equals. -/
def insertBy {α : Type} (le : α → α → Bool) (x : α) : List α → List α
  | [] => [x]
  | y :: ys => if le x y then x :: y :: ys else y :: insertBy le x ys

/-- A list sorted by `le`; equals keep their order. -/
def sortBy {α : Type} (le : α → α → Bool) (l : List α) : List α := l.foldr (insertBy le) []

/-- What a command's meaning answers. -/
abbrev Out := Host.Outcome State Fault Refusal

/-! ### Registers, timers, instants -/

/-- Common time moves on to the instant of a command; it never decreases (R71). -/
def State.tick (s : State) (t : Ns) : State := { s with now := max s.now t }

/-- The value of property `p` of the object with index `i`. -/
def State.get (s : State) (p : P) (i : Nat := 0) : Int := (s.regs.get {} p.ctorIdx).get (p.dfltAt i) i

/-- The value of a property as a natural number. -/
def State.getN (s : State) (p : P) (i : Nat := 0) : Nat := (s.get p i).toNat

/-- Give property `p` of the object with index `i` a value. -/
def State.put (s : State) (p : P) (i : Nat) (v : Int) : State :=
  { s with regs := s.regs.put {} p.ctorIdx ((s.regs.get {} p.ctorIdx).put (p.dfltAt i) i v) }

/-- The value of a hidden register. -/
def State.var (s : State) (x : V) (i : Nat := 0) : Int := (s.vars.get {} x.ctorIdx).get x.dflt i

/-- The value of a hidden register as a natural number. -/
def State.varN (s : State) (x : V) (i : Nat := 0) : Nat := (s.var x i).toNat

/-- Whether a hidden flag is set. -/
def State.flag (s : State) (x : V) (i : Nat := 0) : Bool := s.var x i ≠ 0

/-- Give a hidden register a value. -/
def State.setV (s : State) (x : V) (i : Nat) (v : Int) : State :=
  { s with vars := s.vars.put {} x.ctorIdx ((s.vars.get {} x.ctorIdx).put x.dflt i v) }

/-- The instant a timer is due. -/
def State.timer (s : State) (x : T) (i : Nat := 0) : Option Ns := (s.timers.get {} x.ctorIdx).get none i

/-- Set or stop a timer. -/
def State.setT (s : State) (x : T) (i : Nat) (v : Option Ns) : State :=
  { s with timers := s.timers.put {} x.ctorIdx ((s.timers.get {} x.ctorIdx).put none i v) }

/-- Start a timer that is due `d` ns from now. -/
def State.arm (s : State) (x : T) (i : Nat) (d : Ns) : State := s.setT x i (some (s.now + d))

/-- Start a timer unless it runs already. -/
def State.armOnce (s : State) (x : T) (i : Nat) (d : Ns) : State :=
  if (s.timer x i).isSome then s else s.arm x i d

/-- Stop a timer. -/
def State.disarm (s : State) (x : T) (i : Nat := 0) : State := s.setT x i none

/-- Whether a timer runs and its instant has come. -/
def State.due (s : State) (x : T) (i : Nat := 0) : Bool :=
  match s.timer x i with
  | some d => decide (d ≤ s.now)
  | none => false

/-- Count one in a u32 counter that saturates. -/
def State.count (s : State) (p : P) (i : Nat) : State := s.put p i (min (s.get p i + 1) 4294967295)

/-- Count one in a hidden counter. -/
def State.countV (s : State) (x : V) (i : Nat) : State := s.setV x i (s.var x i + 1)

/-- Apply an effect to every element of a list in order. -/
def State.each {α : Type} (s : State) (l : List α) (f : State → α → State) : State := l.foldl f s

/-- Apply an effect where a condition holds. -/
def State.when (s : State) (c : Bool) (f : State → State) : State := if c then f s else s

/-- Draw a free value (Config.free). -/
def State.draw (s : State) : Int × State := (Config.free s.draws, { s with draws := s.draws + 1 })

/-- Draw several free values. -/
def State.draws_ (s : State) (n : Nat) : List Int × State :=
  ((List.range n).map (fun i => Config.free (s.draws + i)), { s with draws := s.draws + n })

/-- Draw a value the manual calls random. -/
def State.drawRandom (s : State) : Nat × State := (Config.random s.draws, { s with draws := s.draws + 1 })

/-- Send a message. -/
def State.send (s : State) (m : Msg) : State := { s with outbox := s.outbox ++ [m] }

/-- A decision goes into the recorder's stream while that is written (R649, Table 16.8). -/
def State.note (s : State) (kind : Nat) (o : ObjId) (value : List Fld) : State :=
  if s.get .recState = 1 ∨ s.get .recState = 2 then
    { s with recorder := { s.recorder with waits := s.recorder.waits ++ [{ kind, obj := o, at_ := s.now, value }] } }
  else s

/-- The meters of the stipple frame (Table 16.10): of the tray's input power, of an accelerator's power, grant, demand, frequency,
REEF_LEVEL and hottest sensor, of each of its reef sources, of a thermal channel, and of a domain's current, voltage, ACTIVE legs and
faults. -/
def meterInput : Nat := 0
def meterPower (a : Nat) : Nat := 16 + a
def meterGrant (a : Nat) : Nat := 32 + a
def meterDemand (a : Nat) : Nat := 48 + a
def meterFreq (a : Nat) : Nat := 64 + a
def meterReef (a : Nat) : Nat := 80 + a
def meterHot (a : Nat) : Nat := 96 + a
def meterSource (a bit : Nat) : Nat := 256 + 8 * a + bit
def meterThermal (c : Nat) : Nat := 512 + c
def meterCurrent (d : Nat) : Nat := 1024 + d
def meterVolt (d : Nat) : Nat := 1280 + d
def meterActive (d : Nat) : Nat := 1536 + d
def meterFault (d : Nat) : Nat := 1792 + d

/-- A sample enters the means and extremes of the next stipple frame while the recorder runs (R654). -/
def State.gauge (s : State) (m : Nat) (v : Rat) : State :=
  if s.get .recState = 0 then s
  else { s with recorder := { s.recorder with meters := s.recorder.meters.put {} m ((s.recorder.meters.get {} m).add v) } }

/-- PLAN_SOURCE of a domain is written; at 0 it has not been 1 throughout the stipple interval (Table 16.10). -/
def State.putPlanSource (s : State) (d : Nat) (fc : Bool) : State :=
  let s := s.put .planSource d (if fc then 1 else 0)
  if fc then s else { s with recorder := { s.recorder with planned := s.recorder.planned.filter (fun x => decide (x ≠ d)) } }

/-! ### Object numbers (Table 1.10) -/

/-- The object ID of a class and an index (R49). -/
def obj (cls idx : Nat) : ObjId := cls * 0x1000000 + idx
/-- The class of an object ID. -/
def objCls (o : ObjId) : Nat := o / 0x1000000
/-- The index of an object ID. -/
def objIdx (o : ObjId) : Nat := o % 0x1000000

def oTile (i : Nat) : ObjId := obj 0x01 i
def oAccel (i : Nat) : ObjId := obj 0x02 i
def oDomain (i : Nat) : ObjId := obj 0x03 i
def oLeg (i : Nat) : ObjId := obj 0x04 i
def oRail (i : Nat) : ObjId := obj 0x05 i
def oRelay (i : Nat) : ObjId := obj 0x06 i
/-- Drive channel n: fans 0–15, pumps 16–19. -/
def oDrive (n : Nat) : ObjId := if n < 16 then obj 0x07 n else obj 0x08 (n - 16)
def oValve (i : Nat) : ObjId := obj 0x09 i
def oFlow (i : Nat) : ObjId := obj 0x0A i
def oPressure (i : Nat) : ObjId := obj 0x0B i
def oLeakZone (i : Nat) : ObjId := obj 0x0C i
def oThermal (i : Nat) : ObjId := obj 0x0D i
def oBus (i : Nat) : ObjId := obj 0x0E i
def oBurin (i : Nat) : ObjId := obj 0x0F i
def oEventSrc (i : Nat) : ObjId := obj 0x10 i
def oPlate (i : Nat) : ObjId := obj 0x11 i
def oStage : ObjId := obj 0x12 0
def oModel (i : Nat) : ObjId := obj 0x13 i
def oNode (i : Nat) : ObjId := obj 0x14 i
def oGroup (i : Nat) : ObjId := obj 0x15 i
def oRatPort (i : Nat) : ObjId := obj 0x16 i
def oRecorder : ObjId := obj 0x17 0
def oHostPort (i : Nat) : ObjId := obj 0x18 i
def oKeySlot (i : Nat) : ObjId := obj 0x19 i
def oPoint (i : Nat) : ObjId := obj 0x1A i
def oDevice : ObjId := obj 0xFF 0

/-- An accelerator's budget node and a domain's (R49, R52). -/
def nodeAccel (a : Nat) : Nat := 8 + a
def nodeDomain (d : Nat) : Nat := 256 + d

/-- The ST_INTERNAL detail word (Tables 19.5, 19.6): cause, tile (3 none), detail. -/
def detailWord (cause tile detail : Nat) : Nat := cause * 2 ^ 24 + tile * 2 ^ 22 + detail % 65536

/-! ### Members and tiles -/

/-- A tile is in service (R147). -/
def State.inService (s : State) (t : Nat) : Bool := s.var .tilePhase t = 3

/-- A tile takes part in votes: in service and not in reset (R161). -/
def State.votes (s : State) (t : Nat) : Bool := s.inService t && !s.flag .tileReset t

/-- The tiles in service. -/
def State.tilesIn (s : State) : List Nat := [0, 1, 2].filter s.inService

/-- The state code of MEMBERSHIP (Tables 4.1, 4.13): 4 SINGLE, 3 TRIO, 2 DUO, 1 SOLO, 0 LONE_MIZZEN. -/
def State.membership (s : State) : Nat :=
  if s.member.tiles = 1 then 4
  else match s.tilesIn with
    | [2] => 0
    | l => l.length

/-- The tile with the work the KT-880 places on tile `t`: on a one-tile member tile 0 holds Main's (R2). -/
def State.tileFor (s : State) (t : Nat) : Nat := if s.member.tiles = 1 ∧ t = 1 then 0 else t

/-- The tile with the work of tile `t` is in service. -/
def State.tiled (s : State) (t : Nat) : Bool := s.inService (s.tileFor t)

/-- The tile a binding arrives on. -/
def State.tileOf (s : State) (b : Binding) : Nat := s.tileFor b.tile

/-- The crossing into (kind 0) or out of (kind 1) an island of a tile is ACTIVE (Tables 2.6, 2.7). -/
def State.islandCrossing (s : State) (t kind i : Nat) : Bool := decide (s.var .crossing (t * 2 ^ 14 + kind * 2 ^ 8 + i) = 0)

/-- An island of a tile runs and is not held in reset (R85). -/
def State.islandRuns (s : State) (t i : Nat) : Bool := s.inService t && !s.flag .islandDown (16 * t + i)

/-- What an island samples reaches the logic: it runs, and its crossing out is ACTIVE (R85, R89). -/
def State.islandGives (s : State) (t i : Nat) : Bool := s.islandRuns t i && s.islandCrossing t 1 i

/-- What an island is to drive reaches it (R85, R89); what it drives while it is held in reset the manual does not say (log entry 254). -/
def State.islandTakes (s : State) (t i : Nat) : Bool := s.islandRuns t i && s.islandCrossing t 0 i

/-- A sampling island takes its samples at whole multiples of their interval in common time (R62): readings that arrive at any other
instant are no sample (log entry 244). -/
def State.onGrid (s : State) (n : Nat) : Bool := decide (s.now % n = 0)

/-- The instant that sequence decisions are reckoned at (R240): the sampling instant of the samples being judged, else now. -/
def State.seqNow (s : State) : Ns := if s.var .seqAt < 0 then s.now else s.varN .seqAt

/-- Do something reckoned at the sampling instant `at_` (R240). -/
def State.reckon (s : State) (at_ : Ns) (f : State → State) : State := (f (s.setV .seqAt 0 at_)).setV .seqAt 0 (-1)

/-- Start a timer reckoned from the instant of sequence decisions. -/
def State.armSeq (s : State) (x : T) (i : Nat) (d : Ns) : State := s.setT x i (some (s.seqNow + d))

/-- The leader tile. -/
def State.leader (s : State) : Nat := s.getN .leader 0

/-! ### Voted outputs (R161, Table 4.7) -/

/-- The voted level of on/off outputs: majority of three, both of two, the one. -/
def voteBit (inputs : List Int) : Int :=
  match inputs with
  | [a] => a
  | [a, b] => if a = 1 ∧ b = 1 then 1 else 0
  | [a, b, c] => if a + b + c ≥ 2 then 1 else 0
  | _ => 0

/-- The voted reef level: the median of three, the larger of two, the one; 7 with no input counted. -/
def voteReef (inputs : List Int) : Int :=
  match inputs with
  | [a] => a
  | [a, b] => max a b
  | [a, b, c] => max (min a b) (min (max a b) c)
  | _ => 7

/-- Whether an output number is a REEF output (Table 4.16). -/
def isReefOut (o : Nat) : Bool := 78 ≤ o && o ≤ 85

/-- VALUE of injection point `p` while it acts on its detector's input: while it is held, or due at the next sample (R717). -/
def State.injected (s : State) (p : Nat) : Option Int :=
  let x := s.points.get {} p
  if x.pend || (s.timer .injHold p).any (fun d => decide (s.now < d)) then some x.value else none

/-- An injection point acts. -/
def State.acts (s : State) (p : Nat) : Bool := (s.injected p).isSome

/-- The sample a fault was due at has been taken. -/
def State.spend (s : State) (p : Nat) : State :=
  let x := s.points.get {} p
  if x.pend then { s with points := s.points.put {} p { x with pend := false } } else s

/-- The level a tile votes by itself. -/
def State.ownVote (s : State) (o t : Nat) : Int :=
  if isReefOut o then s.var .reefVote (4 * (o - 78) + t) else s.var .vote (4 * o + t)

/-- A privileged level is held at a tile's guard island. -/
def State.levelOn (s : State) (t code : Nat) : Bool := s.flag .priv (2048 * t + code)

/-- What a tile's guard island makes of its vote at the privileged levels it holds (R81, R82): FURL_N is asserted at a furl or a thermal
furl, REEF is at EMERGENCY_LEVEL or above, and the enable of a tripped rail or feed is low. -/
def State.guardVote (s : State) (o t : Nat) (v : Int) : Int :=
  if isReefOut o then (if s.levelOn t (8 + (o - 78)) then max v (s.get .emergencyLevel (o - 78)) else v)
  else if o < 68 then (if s.levelOn t (32 + o) then 0 else v)
  else if 70 ≤ o ∧ o < 78 then (if s.levelOn t (o - 70) ∨ s.levelOn t 16 then 0 else v)
  else v

/-- The level a tile feeds to a voter; injection point 0x081 + 16·t inverts its vote on one output (Table 19.1). -/
def State.voteOf (s : State) (o t : Nat) : Int :=
  let v := s.guardVote o t (s.ownVote o t)
  if s.injected (0x081 + 16 * t) = some (o : Int) then (if isReefOut o then 7 else 1) - v else v

/-- The inputs a voter counts. -/
def State.counted (s : State) (o : Nat) : List Int := ([0, 1, 2].filter s.votes).map (s.voteOf o)

/-- The level at a voted output's pad. -/
def State.padOf (s : State) (o : Nat) : Int := if isReefOut o then s.var .reefPad (o - 78) else s.var .pad o

/-- A counted input that differs from the voter's output is watched for VOTE_WINDOW from then on (R163). -/
def State.watchVotes (s : State) (o : Nat) : State :=
  s.each [0, 1, 2] (fun s x =>
    if s.votes x ∧ s.voteOf o x ≠ s.padOf o then s.armOnce .voteDisagree (4 * o + x) (s.getN .voteWindow * us)
    else if (s.timer .voteDisagree (4 * o + x)).isSome then s.disarm .voteDisagree (4 * o + x) else s)

/-- The pad takes the voted level of its counted inputs (R161, R162), and inputs that differ from it are watched (R163). -/
def State.revote (s : State) (o : Nat) : State :=
  (if isReefOut o then s.setV .reefPad (o - 78) (voteReef (s.counted o))
  else s.setV .pad o (voteBit (s.counted o))).watchVotes o

/-- One tile's input to a voter changes. -/
def State.setVote (s : State) (o t : Nat) (v : Int) : State :=
  (if isReefOut o then s.setV .reefVote (4 * (o - 78) + t) v else s.setV .vote (4 * o + t) v).revote o

/-- Every tile votes one level for an output, and the pad follows (R163, R164). -/
def State.drive (s : State) (o : Nat) (v : Int) : State :=
  ([0, 1, 2].foldl (fun s t => if s.votes t then s.setVote o t v else s) s).revote o

/-- The NAND is lost (R739). -/
def State.nandLost (s : State) : Bool := (s.varN .lossTile).testBit 2

/-- Every voted output. -/
def votedOutputs : List Nat := List.range 98

/-- Every voted output is voted again after a change of the counted tiles. -/
def State.revoteAll (s : State) : State := s.each votedOutputs State.revote

/-- The output numbers of Table 4.16. -/
def outRail (k : Nat) : Nat := k
def outFeed (f : Nat) : Nat := 64 + f
def outVddm : Nat := 68
def outVddz : Nat := 69
def outFurl (a : Nat) : Nat := 70 + a
def outReef (a : Nat) : Nat := 78 + a
def outIso (v : Nat) : Nat := 86 + v
def outValve (a : Nat) : Nat := 90 + a

/-- A value of LIMIT or MIN_GRANT is in range and on its step: W at node 0, else mW by 1,000; an accelerator's at most
4,000,000. -/
def okPower (n : Nat) (v : Int) : Bool :=
  decide (0 ≤ v) && decide (v ≤ 2147483647) && (decide (n = 0) || decide (v % 1000 = 0)) && (!(decide (8 ≤ n) && decide (n < 16)) || decide (v ≤ 4000000))

end Sys2Proof.Machine
end

