-- ==== Sys2Proof/Machine/Flits.lean ====
section
/-! DEFINITION. The bytes of the links: flits and training payloads, the messages of Shroud, Sheet and Ratline, and the
Sheet frames (Tables 5.3, 5.5, 5.7, 5.8, 7.6 to 7.9, 8.5, 10.1, 14.2 to 14.4, 14.7). All fields are little-endian (Table 0.3). -/

namespace Sys2Proof.Machine

/-- A byte string cut or filled with zeros to n bytes. -/
def padTo (n : Nat) (b : List Nat) : List Nat := b.take n ++ List.replicate (n - b.length) 0

/-- A signed field of a record given as bytes. -/
def leInt (b : List Nat) (off n : Nat) : Int :=
  let v := leAt b off n
  if 2 ^ (8 * n - 1) ≤ v then (v : Int) - (2 ^ (8 * n) : Nat) else v

/-- A byte string followed by its CRC-32C (R98). -/
def sealed (b : List Nat) : List Nat := b ++ leBytes 4 (crc32c b)

/-- A byte string of `n` bytes whose last four are the CRC-32C of those before (R199, R301). -/
def sealGood (n : Nat) (b : List Nat) : Bool := decide (b.length = n) && decide (leAt b (n - 4) 4 = crc32c (b.take (n - 4)))

/-! ### Flits (Table 5.3, R569) -/

/-- The bytes of a flit as it arrives (Table 5.3): KIND, FFLAGS, what stands between them and the CRC, and the CRC. -/
def wireFlit (kind flags : Nat) (body : List Nat) (crc : Nat) : List Nat := [kind, flags] ++ body ++ leBytes 4 crc

/-- A flit's 64 bytes. `credit` is byte 0x06, `chan` byte 0x07. -/
def flitBytes (kind flags seq : Nat) (ack : Option Nat) (credit chan : Nat) (payload : List Nat) : List Nat :=
  sealed (recordBytes [u8 kind, u8 flags, u16 seq, u16 ((ack.map (· + 0x8000)).getD 0 : Nat), u8 credit, u8 chan] ++ padTo 52 payload)

/-- A flit whose CRC passes. -/
def flitGood (b : List Nat) : Bool := sealGood 64 b

def flitKind (b : List Nat) : Nat := leAt b 0x00 1
def flitFirst (b : List Nat) : Bool := (leAt b 0x01 1).testBit 0
def flitLast (b : List Nat) : Bool := (leAt b 0x01 1).testBit 1
def flitNak (b : List Nat) : Bool := (leAt b 0x01 1).testBit 3
def flitSeq (b : List Nat) : Nat := leAt b 0x02 2 % 4096
/-- ACK, where VALID is set. -/
def flitAck (b : List Nat) : Option Nat := if (leAt b 0x04 2).testBit 15 then some (leAt b 0x04 2 % 4096) else none
def flitPayload (b : List Nat) : List Nat := (b.drop 0x08).take 52

/-- The stream (FFLAGS bit 2) of a Shroud flit, or the virtual channel (byte 0x07) of a Ratline flit. -/
def flitChan (shroud : Bool) (b : List Nat) : Nat :=
  if shroud then (leAt b 0x01 1 / 4) % 2 else leAt b 0x07 1 % 8

/-- The credits a flit returns, by channel: urgent and bulk on Shroud, a count and its virtual channel on Ratline. -/
def flitCredits (shroud : Bool) (b : List Nat) : List (Nat × Nat) :=
  let c := leAt b 0x06 1
  if shroud then [(0, c % 16), (1, c / 16)] else [(c / 16 % 8, c % 16)]

/-- Byte 0x06 that returns one credit of a channel. -/
def creditByte (shroud : Bool) (ch : Nat) : Nat := if shroud then (if ch = 0 then 1 else 16) else 1 + 16 * ch

/-- FFLAGS of a DATA flit. -/
def dataFlags (shroud : Bool) (ch : Nat) (first last : Bool) : Nat :=
  (if first then 1 else 0) + (if last then 2 else 0) + (if shroud && decide (ch = 1) then 4 else 0)

/-- The TRAIN payload (Table 5.5), which TRAIN flits and frames and Ratline TIME flits carry. -/
def trainPayload (role : Nat) (rxOk : Bool) (hold tTx tEcho : Nat) : List Nat :=
  recordBytes [u8 role, u8 (if rxOk then 1 else 0), rsv 2, u32 hold, u64 tTx, u64 tEcho, rsv 28]

/-- A TRAIN payload as received. -/
def trainOf (b : List Nat) : TrainFlit :=
  { role := leAt b 0x00 1, rxOk := (leAt b 0x01 1).testBit 0, hold := leAt b 0x04 4, tTx := leAt b 0x08 8, tEcho := leAt b 0x10 8 }

/-- The payloads of the DATA flits of a message: 52 bytes a flit, zeros after its end (R208, R575). -/
def cutMessage : Nat → List Nat → List (List Nat)
  | 0, _ => []
  | n + 1, b => padTo 52 b :: cutMessage n (b.drop 52)

/-- The DATA flits of a message. -/
def flitsOf (b : List Nat) : List (List Nat) := cutMessage ((b.length + 51) / 52) b

/-! ### Shroud messages (Tables 5.7, 5.8) -/

/-- The fields of a body the controller sends, in bytes; reserved ones are negative (Table 5.8). -/
def shroudSizes : Nat → List Int
  | 0x02 => [1, 1, 2, 1, -3, 8, 4, -12] | 0x06 => [4, 4, 8, 1, 1, -6] | 0x07 => [8, 2, 2, 4] | 0x09 => [4, 1, -3, 4]
  | 0x0A => [4] | 0x0C => [4, 4, 4, 2, -2] | 0x0D => [4, 1, -3] | _ => [4]

/-- A body: its fields, then one byte for each value left (the data of IMAGE_CHUNK). -/
def shroudBody (kind : Nat) (vs : List Int) : List Nat :=
  let sizes := shroudSizes kind
  recordBytes (layFields sizes vs ++ (vs.drop (sizes.filter (fun n => decide (0 < n))).length).map u8)

/-- A message: the header of Table 5.7 and the body. -/
def shroudBytes (kind : Nat) (resent : Bool) (num : Nat) (body : List Nat) : List Nat :=
  recordBytes [u8 kind, u8 (if resent then 1 else 0), u16 body.length, u32 num] ++ body

/-- The length of a body an accelerator sends (Table 5.6); 0 where it has none fixed or the type is unknown. -/
def shroudLen : Nat → Nat
  | 0x01 => 64 | 0x04 => 24 | 0x05 => 24 | 0x08 => 12 | 0x0B => 8 | 0x0E => 12 | 0x0F => 16 | _ => 0

/-- IDENTITY (Table 5.8). -/
def identityOf (b : List Nat) : Identity :=
  { major := leAt b 0x00 1, minor := leAt b 0x01 1, vendor := leAt b 0x02 2, device := leAt b 0x04 2, domains := leAt b 0x06 1,
    sensors := leAt b 0x07 1, serial := leAt b 0x08 8, fwVersion := leAt b 0x10 4, fwSvn := leAt b 0x14 4, fMin := leAt b 0x18 2,
    fMax := leAt b 0x1A 2, fStep := leAt b 0x1C 2, maxPower := leInt b 0x20 4, caps := leAt b 0x24 4, incarnation := leAt b 0x28 4,
    port := leAt b 0x2C 1, compat := leAt b 0x30 16 }

/-- HINT (Table 5.8). -/
def hintOf (b : List Nat) : Hint :=
  { stamp := leAt b 0x00 8, tagNow := leAt b 0x08 2, tagNext := leAt b 0x0A 2, nextIn := leAt b 0x0C 4, nextDuration := leAt b 0x10 4,
    mapping := leAt b 0x14 2, confidence := leAt b 0x16 1 }

/-- TELEMETRY (Table 5.8): as many temperatures as n says and the body holds. -/
def telemetryOf (b : List Nat) : Telemetry :=
  { stamp := leAt b 0x00 8, freq := leAt b 0x08 2, sustain := leAt b 0x0A 2, reefNow := leAt b 0x0C 1, state := leAt b 0x0E 2,
    power := leInt b 0x10 4, temps := (List.range (min (leAt b 0x0D 1) ((b.length - 24) / 4))).map (fun k => leInt b (24 + 4 * k) 4) }

/-- A message of an accelerator, read from its type and body (Tables 5.6, 5.8). One of a type that an accelerator does
not send, or with a body shorter than its type's, is unknown (log entry 257). -/
def shroudOf (kind : Nat) (b : List Nat) : ShroudMsg :=
  if b.length < shroudLen kind then .unknown
  else match kind with
  | 0x01 => .identity (identityOf b)
  | 0x03 => .reefTable (leAt b 0x00 4) (leAt b 0x04 4)
      ((List.range (min 8 ((b.length - 8) / 8))).map (fun k => (leAt b (8 + 8 * k) 2, leInt b (12 + 8 * k) 4)))
  | 0x04 => .hint (hintOf b)
  | 0x05 => .telemetry (telemetryOf b)
  | 0x08 => .freqAck (leAt b 0x00 4) (leAt b 0x04 2) (leAt b 0x06 2) (leInt b 0x08 4)
  | 0x0B => .qstate (leAt b 0x00 4) (leAt b 0x04 1)
  | 0x0E => .imageStatus (leAt b 0x00 4) (leAt b 0x04 4) (leAt b 0x08 2)
  | 0x0F => .alert (leAt b 0x00 2) (leAt b 0x02 1) (leAt b 0x04 4) (leAt b 0x08 8)
  | _ => .unknown

/-- A whole message as received: its number and what it says. One shorter than MLEN is unknown. -/
def shroudMessage (b : List Nat) : Nat × ShroudMsg :=
  let body := (b.drop 8).take (leAt b 0x02 2)
  (leAt b 0x04 4, if body.length < leAt b 0x02 2 then .unknown else shroudOf (leAt b 0x00 1) body)

/-! ### Sheet frames and the side channel (Tables 7.6 to 7.9) -/

/-- A downstream SLOT frame (Table 7.6): 384 bytes. -/
def slotFrame (port : Nat) (rearm : Bool) (domainRun slot : Nat) (words : List Nat) (side : List Nat) : List Nat :=
  sealed (recordBytes ([u8 1, u8 (port + if rearm then 2 else 0 : Nat), u16 domainRun, u32 (slot % 4294967296 : Nat), rsv 8]
    ++ ((List.range 72).map (fun l => u32 (words.getD l 0 : Nat)))) ++ padTo 76 side)

/-- A downstream TRAIN frame (R304): the payload of Table 5.5 at 0x008, zeros up to the CRC. -/
def trainFrame (port : Nat) (payload : List Nat) : List Nat :=
  sealed (padTo 380 (recordBytes [u8 2, u8 port, rsv 6] ++ payload))

/-- An upstream frame as received (Table 7.7). -/
def upFrameOf (b : List Nat) : UpFrame :=
  { stale := (leAt b 0x01 1).testBit 1, safeHeld := (leAt b 0x01 1).testBit 2, calActive := (leAt b 0x01 1).testBit 3,
    status := leAt b 0x02 2, peak := leAt b 0x08 9, currents := (List.range 72).map (fun l => leInt b (0x14 + 2 * l) 2),
    volts := (List.range 16).map (fun j => leAt b (0xA4 + 2 * j) 2), temps := (List.range 4).map (fun m => leInt b (0xC4 + 2 * m) 2),
    stageFault := leAt b 0xCC 9, faultLeg := leAt b 0xD5 1, faultCode := leAt b 0xD6 1,
    spareI := (List.range 8).map (fun k => leInt b (0x124 + 2 * k) 2) }

/-- A side-channel slice (Table 7.8): 76 bytes. -/
def sliceBytes (seq : Nat) (sack : Option Nat) (flags : Nat) (data : List Nat) : List Nat :=
  recordBytes [u16 seq, u16 ((sack.map (· + 0x8000)).getD 0 : Nat), u8 flags, u8 data.length, rsv 2] ++ padTo 68 data

/-- A slice as received (Table 7.8). -/
def sliceOf (b : List Nat) : Slice :=
  let f := leAt b 0x04 1
  { seq := leAt b 0x00 2 % 4096, sack := if (leAt b 0x02 2).testBit 15 then some (leAt b 0x02 2 % 4096) else none
    data := f.testBit 0, first := f.testBit 1, last := f.testBit 2, nak := f.testBit 3
    bytes := (b.drop 8).take (min 68 (leAt b 0x05 1)) }

/-- A message on the side channel: its 4-byte header and body (R310). -/
def sideBytes (kind : Nat) (body : List Nat) : List Nat := recordBytes [u8 kind, rsv 1, u16 body.length] ++ body

/-- The fields of a body the controller sends to a relay (Table 7.9); CONFIGURE's depend on its KIND. -/
def sideSizes (kind : Nat) (vs : List Int) : List Int :=
  match kind with
  | 0x02 => [1, 1, 2, 8]
  | 0x03 => [1, 1, -2] ++ (match vs.head? with
    | some 0 => List.replicate (vs.length - 2) 8
    | some 1 => List.replicate (vs.length - 2) 1
    | _ => List.replicate (vs.length - 2) 2)
  | 0x05 => [1, 1, 1, -1]
  | _ => [2, -2]

/-- A body the controller sends to a relay. -/
def sideBody (kind : Nat) (vs : List Int) : List Nat := recordBytes (layFields (sideSizes kind vs) vs)

/-- The data of the slices of a message: 68 bytes a slice. -/
def cutSide : Nat → List Nat → List (List Nat)
  | 0, _ => []
  | n + 1, b => b.take 68 :: cutSide n (b.drop 68)

/-- The length of a body a relay sends (Table 7.9); 0 for a type it does not send. -/
def sideLen : Nat → Nat
  | 0x01 => 108 | 0x04 => 8 | 0x06 => 12 | 0x07 => 8 | _ => 0

/-- A message of a relay, read from its bytes (R310, Table 7.9). -/
def relayMsgOf (m : List Nat) : RelayMsg :=
  let b := (m.drop 4).take (leAt m 0x02 2)
  let kind := leAt m 0x00 1
  if b.length < sideLen kind then .unknown
  else match kind with
  | 0x01 => .identity {
      major := leAt b 0x00 1, minor := leAt b 0x01 1, vendor := leAt b 0x02 2, device := leAt b 0x04 2, relay := leAt b 0x06 1,
      legs := leAt b 0x07 1, domains := leAt b 0x08 1, spares := leAt b 0x09 1, serial := leAt b 0x0C 8, fwVersion := leAt b 0x14 4,
      incarnation := leAt b 0x18 4, scale := (List.range 16).map (fun j => leAt b (0x1C + 4 * j) 4), compat := leAt b 0x5C 16 }
  | 0x04 => .configAck (leAt b 0x00 1) (leAt b 0x01 1) (leAt b 0x04 4)
  | 0x06 => .calResult (leAt b 0x00 1) (leAt b 0x01 1) (leAt b 0x02 1) (leInt b 0x04 4) (leInt b 0x08 4)
  | 0x07 => .alert (leAt b 0x00 2) (leAt b 0x02 1) (leAt b 0x04 4)
  | _ => .unknown

/-! ### Ratline messages (Tables 8.5, 10.1, 14.2 to 14.4, 14.7) -/

/-- The header of Table 14.2: 24 bytes. -/
def ratHeader (kind route len hops src dst serial : Nat) : List Nat :=
  recordBytes [u8 kind, u8 route, u16 len, u8 hops, rsv 3, u32 src, u32 dst, u64 serial]

/-- The fields of a body, reserved ones negative, and those of the group that repeats after them: an entry, or one byte
of data. -/
def ratSizes : Nat → List Int × List Int
  | 0x01 => ([1, 1, 1, 1, 8, 2, -2, 4], []) | 0x02 => ([1, 1, 2, 8], []) | 0x08 => ([8, 4, 4, 1, 1, 1, 1, -4], [])
  | 0x20 => ([8, 2, 1, 1, 1, 1, -2, 8], []) | 0x21 => ([8, 2, 1, 1, 4, 4, 4, 4, 4], []) | 0x22 => ([8, 2, 1, -1, 4, 8, 4, 4, 4, 8], [])
  | 0x28 => ([8, 4, 2, -2], [2, 2, 2, 1, -1, 4]) | 0x29 => ([8, 4, 2, -2, 8], [2, 2, 2, 1, -1, 4])
  | 0x2A => ([8, 2, 2, -4], []) | 0x2B => ([8, 2, 2, 2, -2], []) | 0x51 => ([8, 2, -2, -4], [1]) | 0x60 => ([], [1])
  | 0x62 => ([4, 4, 8, 4, -4], [1]) | 0x63 => ([4, 4, 2, -2], []) | 0x64 => ([4, -4, 8, 2, -6], []) | _ => ([], [])

/-- How many values a layout takes. -/
def takesValues (l : List Int) : Nat := (l.filter (fun n => decide (0 < n))).length

/-- A body laid out from its values. -/
def ratBody (kind : Nat) (vs : List Int) : List Nat :=
  let (fixed, group) := ratSizes kind
  let k := (vs.length - takesValues fixed) / max 1 (takesValues group)
  recordBytes (layFields (fixed ++ (List.replicate k group).flatten) vs)

/-- The bytes of a Gantline request packet (Table 3.1) as a message carries it on: the header, then parameters, padding
and CRC, which the model does not hold as bytes (log entry 258). -/
def packetBytes (h : Header) (op : Nat) : List Nat :=
  padTo h.packetLen (recordBytes [u8 h.version,
      u8 ((if h.replyRequired then 1 else 0) + (if h.safety then 2 else 0) + (if h.idempotent then 4 else 0) + (if h.force then 8 else 0)),
      u16 op, u16 h.tag, u16 h.queue, u32 h.object, u16 h.property, u16 h.paramLen, u64 h.condCsn, u64 h.deadline]
    ++ (List.range (h.packetLen - 32)).map (fun i => Config.content h.tag i % 256))

/-- The bytes after 0x38 of an OP_DOWN (Table 14.7): the packet, the items of R139, or RESET_GLOBAL's parameters. -/
def opPayloadBytes (scope : Nat) : OpPayload → List Nat
  | .none => []
  | .packet h b => packetBytes h b.opcode
  | .items l => recordBytes (u32 l.length :: l.flatMap (fun x => [u32 x.object, u16 x.property, u16 x.rsv]))
  | .reset kind mask deadline => recordBytes [u32 scope, u8 kind, u8 mask, rsv 2, u32 deadline]

/-- The body of OP_DOWN and OP_UP (Table 14.7). -/
def opBytes (m : OpMsg) : List Nat :=
  recordBytes [u32 m.opId, u8 m.kind, u8 m.reduceOp, rsv 2, u32 m.scope, u32 m.members, u32 m.missing, u32 m.firstMissing, u32 m.failed,
    u32 m.firstFailed, u16 m.firstStatus, rsv 2, u32 m.issuer, u64 m.value, u64 m.at_] ++ opPayloadBytes m.scope m.payload

end Sys2Proof.Machine
end

