-- ==== Sys2Proof/Machine/Wire.lean ====
section
/-! DEFINITION. Sending on the flit links, and the routes of Ratline messages (R203–R207, R569–R578). -/

namespace Sys2Proof

/-- The key of a port's link state. -/
def LinkPort.key : LinkPort → Nat
  | .shroud p => p.val | .sheet p => 16 + p.val | .ratline p => 48 + p.val
def FlitPort.key : FlitPort → Nat
  | .shroud p => p.val | .ratline p => 48 + p.val

end Sys2Proof

namespace Sys2Proof.Machine

def State.link (s : State) (p : Nat) : Link := s.links.get {} p
def State.modLink (s : State) (p : Nat) (f : Link → Link) : State := { s with links := s.links.put {} p (f (s.link p)) }

/-- Port state codes of Table 5.4. -/
def lkDown : Nat := 0
def lkLock : Nat := 1
def lkTrain : Nat := 2
def lkIdent : Nat := 3
def lkActive : Nat := 4
def lkRetrain : Nat := 5
def lkDisabled : Nat := 6

def isShroud (p : Nat) : Bool := decide (p < 16)
def isSheet (p : Nat) : Bool := decide (16 ≤ p) && decide (p < 48)

/-- A port is ACTIVE. -/
def State.linkUp (s : State) (p : Nat) : Bool := decide ((s.link p).state = lkActive)

/-! ### Sending (R203, R205, R207, R209, R572) -/

/-- An urgent flit waits on a Shroud port. -/
def Link.urgentWaits (x : Link) : Bool := x.queue.any (fun f => decide (f.ch = 0))

/-- The channels of a port in the order a transmitter serves them (R207, R572): on Shroud urgent before bulk, and at most
one bulk flit between two urgent ones while urgent ones wait; on Ratline VC0D, VC0U, VC1, then VC2 and VC3 by turns,
three VC2 flits to one of VC3. -/
def sendOrder (p : Nat) (x : Link) : List Nat :=
  if isShroud p then (if x.urgentWaits && decide (1 ≤ x.vcTurn) then [0] else [0, 1])
  else if x.vcTurn < 3 then [1, 0, 2, 3, 4] else [1, 0, 2, 4, 3]

/-- The turn after a flit of a channel has gone. -/
def Link.turnAfter (x : Link) (p ch : Nat) : Nat :=
  if isShroud p then (if ch = 1 && x.urgentWaits then x.vcTurn + 1 else 0)
  else if ch = 3 then x.vcTurn + 1 else if ch = 4 then 0 else x.vcTurn

/-- Take one credit of a channel. -/
def takeCredit (cs : List Nat) (ch : Nat) : List Nat := cs.modify ch (· - 1)

/-- The next flit to go: of the first channel in order with a flit and a credit, while 128 are not yet held (R203). -/
def Link.nextFlit (x : Link) (order : List Nat) : Option TxFlit :=
  if 128 ≤ x.unacked.length then none
  else match order.find? (fun ch => x.queue.any (fun f => f.ch = ch) && decide (0 < x.credits.getD ch 0)) with
    | some ch => x.queue.find? (fun f => f.ch = ch)
    | none => none

/-- The last DATA SEQ accepted in order, once one is (Table 5.3). -/
def Link.rxAck (x : Link) : Option Nat := if x.rxSeen then some x.rxSeq else none

/-- A DATA flit's bytes, as they leave now. -/
def Link.dataBytes (x : Link) (p : Nat) (g : TxFlit) : List Nat :=
  flitBytes 1 (dataFlags (isShroud p) g.ch g.first g.last) g.seq x.rxAck 0 (if isShroud p then 0 else g.ch) g.data

/-- A DATA flit goes out under the next SEQ and is kept until it is acknowledged (R203). -/
def State.emit (s : State) (p : Nat) (f : TxFlit) : State :=
  let x := s.link p
  let g := { f with seq := x.txSeq }
  let s := s.modLink p (fun x => { x with
    unacked := x.unacked ++ [g], txSeq := (x.txSeq + 1) % 4096, ackAt := if x.unacked.isEmpty then s.now else x.ackAt })
  s.send (.flit p (x.dataBytes p g))

/-- Send waiting flits while credits last, at most `n`. -/
def State.pumpN (s : State) (p : Nat) : Nat → State
  | 0 => s
  | n + 1 =>
    let x := s.link p
    match x.nextFlit (sendOrder p x) with
    | none => s
    | some f => State.pumpN ((s.modLink p (fun x =>
        let y := { x with queue := x.queue.erase f, credits := takeCredit x.credits f.ch }
        { y with vcTurn := y.turnAfter p f.ch })).emit p f) p n

/-- Send what credits allow. -/
def State.pump (s : State) (p : Nat) : State := if s.linkUp p then s.pumpN p (s.link p).queue.length else s

/-- The DATA flits of a message's bytes. -/
def State.txFlits (s : State) (ch kind num : Nat) (b : List Nat) : List TxFlit :=
  let l := flitsOf b
  (List.range l.length).map (fun i =>
    { since := s.now, ch, kind, num, first := decide (i = 0), last := decide (i + 1 = l.length), data := l.getD i [] })

/-- Queue a message on a port. -/
def State.sendOn (s : State) (p ch kind num : Nat) (b : List Nat) : State :=
  (s.modLink p (fun x => { x with queue := x.queue ++ s.txFlits ch kind num b })).pump p

/-- The ROLE of this end of a port (Tables 5.5, R304, R568). -/
def ownRole (p : Nat) : Nat := if p < 48 then 0 else 3

/-- The training payload that leaves on a port now (Table 5.5). -/
def State.training (s : State) (p : Nat) : List Nat :=
  let x := s.link p
  trainPayload (ownRole p) (decide (8 ≤ x.rxGood)) (s.now - x.rxAt) s.now x.rxTtx

/-! ### Tree addresses and routes (R576, R578) -/

/-- A child's address: its parent's with the depth raised and the new digit set (R578). -/
def childAddr (parent digit : Nat) : Nat :=
  let d := parent / 2 ^ 28 + 1
  let sh := 28 - 4 * d
  let low := parent % 2 ^ 28
  d * 2 ^ 28 + (low - low / 2 ^ sh % 16 * 2 ^ sh) + digit % 16 * 2 ^ sh

/-- The digit of level i, and the depth, of an address (R578). -/
def addrDigit (a i : Nat) : Nat := a / 2 ^ (28 - 4 * i) % 16
def addrDepth (a : Nat) : Nat := a / 2 ^ 28

/-- Address A is a prefix of B (R578). -/
def addrPrefix (a b : Nat) : Bool :=
  decide (addrDepth a < addrDepth b) && (List.range (addrDepth a)).all (fun i => addrDigit a (i + 1) = addrDigit b (i + 1))

/-- B lies in the subtree rooted at A. -/
def inScope (a b : Nat) : Bool := decide (a = b) || addrPrefix a b

/-- The digit of `a` one level below `own`. -/
def downPort (own a : Nat) : Nat := addrDigit a (addrDepth own + 1)

/-- The queue without the unsent VC1 messages of a type to a destination; one of which a flit has gone stays. -/
def dropUnsent (kind key : Nat) : Bool → List TxFlit → List TxFlit
  | _, [] => []
  | gone, f :: rest =>
    if f.ch = 2 ∧ f.kind = kind ∧ f.num = key then
      if f.first ∨ gone then dropUnsent kind key true rest else f :: dropUnsent kind key false rest
    else f :: dropUnsent kind key gone rest

/-- A Ratline message's bytes go out on a port (Tables 14.2, 14.3). -/
def State.ratPass (s : State) (p vc kind key : Nat) (m : Msg) (b : List Nat) : State := (s.send m).sendOn (48 + p) vc kind key b

/-- A message that this tray generates: on VC1 it replaces an older unsent one of its type to its destination (R573). -/
def State.ratOut (s : State) (p vc kind key : Nat) (m : Msg) (b : List Nat) : State :=
  (s.when (vc = 2) (fun s => s.modLink (48 + p) (fun x => { x with queue := dropUnsent kind key false x.queue }))).ratPass p vc kind key m b

/-- A message given by its header (route, source and destination addresses, serial, HOPS) and its body's fields. -/
def State.ratSend (s : State) (p vc kind route src dst serial hops : Nat) (body : List Int) : State :=
  let b := ratBody kind body
  s.ratOut p vc kind (if route = 1 then dst else serial % 4294967296)
    (.ratline p kind ([(route : Int), src, dst, serial, hops] ++ body)) (ratHeader kind route b.length hops src dst serial ++ b)

/-- A message to the neighbour only (ROUTE LINK). -/
def State.ratLink (s : State) (p vc kind : Nat) (body : List Int) : State :=
  s.ratSend p vc kind 0 (s.getN .taddr) 0 0 0 body

/-! ### Adverts (R579) -/

/-- The STATE field of TIME_STATUS: 0 UNSET, 1 SET, 2 LOCKED, 3 HOLDOVER (Table 2.3). -/
def State.timeState (s : State) : Nat := s.getN .timeStatus % 16
/-- The SOURCE field: 0 none, 1 host, 2 Ratline parent, 3 PPS_IN. -/
def State.timeSource (s : State) : Nat := s.getN .timeStatus / 256 % 4
/-- The tray is the masthead of its tree. -/
def State.isMasthead (s : State) : Bool := decide (s.var .upPort < 0) && decide (s.get .depth ≠ 255)

/-- A Ratline port is ACTIVE. -/
def State.ratUp (s : State) (p : Nat) : Bool := s.linkUp (48 + p)

/-- The ports that are ACTIVE. -/
def State.ratPortsUp (s : State) : List Nat := (List.range 10).filter s.ratUp

/-- The body of TREE_ADVERT on a port (Table 14.4). -/
def State.advertOf (s : State) (p : Nat) : List Int :=
  let mast := s.isMasthead
  let timed := if mast then decide (s.timeState ≠ 0) else s.flag .rootTimed
  [if s.var .rootSerial = 0 then s.var .serial else s.var .rootSerial, s.var .rootSeq, s.get .taddr,
   if mast then s.get .mastPriority else s.var .rootPrio, s.get .depth, s.get .height,
   (if s.var .upPort = p then 1 else 0) + (if timed then 2 else 0)]

/-- The advert goes out on every ACTIVE port (R579). -/
def State.advertise (s : State) : State := s.each s.ratPortsUp (fun s p => s.ratLink p 2 0x08 (s.advertOf p))

/-- Where a TREE message goes: this tray, a port, or nowhere (R576). -/
inductive Route where
  | here | port (p : Nat) | wrongTray | unreachable
deriving DecidableEq, Repr

def State.treeRoute (s : State) (dst serial : Nat) : Route :=
  let own := s.getN .taddr
  if s.get .depth = 255 then .unreachable
  else if dst = own then
    if serial = 0 ∨ serial = s.varN .serial then .here else .wrongTray
  else if addrPrefix own dst then
    let p := downPort own dst
    if p < 10 ∧ s.get .portRole p = 3 then .port p else .unreachable
  else if 0 ≤ s.var .upPort then .port (s.varN .upPort)
  else .unreachable

/-- A TREE message of this tray; one for the tray itself or without a route is not sent. -/
def State.ratTree (s : State) (vc kind dst serial : Nat) (body : List Int) : State :=
  match s.treeRoute dst serial with
  | .port p => s.ratSend p vc kind 1 (s.getN .taddr) dst serial 0 body
  | _ => s

/-- The port a TREE message of this tray leaves on; one for the tray itself loops back (port 15). -/
def State.treePort (s : State) (dst serial : Nat) : Option Nat :=
  match s.treeRoute dst serial with | .port p => some p | .here => some 15 | _ => none

/-! ### Remote replies (R601, R602) -/

/-- A REMOTE_REPLY: this tray's serial, the STATUS of delivery, and the reply packet's bytes. -/
def State.sendRemoteReply (s : State) (addr serial status : Nat) (packet : List Nat) : State :=
  match s.treePort addr serial with
  | some p => s.ratSend p 3 0x51 1 (s.getN .taddr) addr serial 0
      ([s.var .serial, (status : Int)] ++ packet.map (fun (b : Nat) => (b : Int)))
  | none => s

/-- A remote request has its reply: it is kept for a second attempt and, unless it is suppressed (R104), sent to the origin. -/
def State.remoteDone (s : State) (serial queue tag : Nat) (quiet : Bool) (packet : List Nat) : State :=
  let hit := fun (r : RemoteIn) => decide (r.serial = serial) && decide (r.queue = queue) && decide (r.tag = tag) && r.reply.isNone
  match s.remoteIns.find? hit with
  | some r =>
    let s : State := { s with remoteIns := s.remoteIns.map (fun x => if hit x then { x with reply := some packet } else x) }
    if quiet then s else s.sendRemoteReply r.addr serial 0 packet
  | none => s

/-- A tray's part of a broadcast is what its packet's outcome was (R597). -/
def State.opReply (s : State) (opId status csn : Nat) : State :=
  { s with globalOps := s.globalOps.map (fun x =>
      if x.opId = opId ∧ x.own.isNone then { x with own := some status, ownCsn := csn } else x) }

end Sys2Proof.Machine
end

