-- ==== Sys2Proof/Machine/Ops.lean ====
section
/-! DEFINITION. Sessions, events, the commit, and the reporting of outcomes. -/

namespace Sys2Proof.Machine

/-! ### Sources and sessions -/

/-- The session a binding carries. -/
def State.sessionAt (s : State) (b : Binding) : Option Session := s.sessions.find? (fun x => b ∈ x.bindings)

/-- The session with an ID. -/
def State.session (s : State) (id : Nat) : Option Session := s.sessions.find? (fun x => x.id = id)

/-- Change one session. -/
def State.modSession (s : State) (id : Nat) (f : Session → Session) : State :=
  { s with sessions := s.sessions.map (fun x => if x.id = id then f x else x) }

/-- A PCIe endpoint's registers. -/
def State.endpoint (s : State) (ep : Nat) : Endpoint := s.endpoints.get {} ep

/-- Change one endpoint's registers. -/
def State.modEndpoint (s : State) (ep : Nat) (f : Endpoint → Endpoint) : State :=
  { s with endpoints := s.endpoints.put {} ep (f (s.endpoint ep)) }

/-- One queue pair of an endpoint. -/
def Endpoint.qp (e : Endpoint) (q : Nat) : QueuePair := e.qps.get {} q

/-- Change one queue pair of an endpoint. -/
def State.modQp (s : State) (ep q : Nat) (f : QueuePair → QueuePair) : State :=
  s.modEndpoint ep (fun e => { e with qps := e.qps.put {} q (f (e.qp q)) })

/-! ### Ethernet sessions (R682–R685) -/

/-- The authenticated session of a port with a number. -/
def State.ethAt (s : State) (p n : Nat) : Option EthSess := s.ethSessions.find? (fun x => x.port = p ∧ x.session = n)

/-- AUTH_SESSIONS (Table 17.12). -/
def State.countEth (s : State) : State :=
  [0, 1].foldl (fun (s : State) p => s.put .authSessions (4 + p) (s.ethSessions.filter (fun x => x.port = p)).length) s

/-- An authenticated session ends: its binding carries no session any more. -/
def State.closeEth (s : State) (p : Fin 2) (n : Nat) : State :=
  let s := { s with ethSessions := s.ethSessions.filter (fun x => !(x.port = p.val && x.session = n)) }
  let s := { s with sessions := s.sessions.map (fun (x : Session) => ({ x with bindings := x.bindings.filter (· ≠ Binding.eth p n) } : Session)) }
  s.countEth

/-- The header of a record over UDP (Table 17.9). -/
def ethHeader (kind len session seq : Nat) : List Nat := recordBytes [u8 kind, rsv 1, u16 len, u32 session, u64 seq]

/-- A DATA record leaves in a session, with a packet of `len` bytes and its tag (R684): the header is shown, the rest is ciphertext. -/
def State.ethSent (s : State) (p n len : Nat) : State :=
  let seq := match s.ethAt p n with | some x => x.sent | none => 0
  let s := s.send (.eth p 4 ((ethHeader 4 (len + 16) n seq).map (fun (b : Nat) => (b : Int))))
  { s with ethSessions := s.ethSessions.map (fun (x : EthSess) => if x.port = p ∧ x.session = n then { x with sent := x.sent + 1 } else x) }

/-! ### Events (R141–R146, R734) -/

/-- The endpoint whose event ring a session's records go to, if one of its ring bindings has EVQ_ENABLE set (R143). A
session with other bindings too gets them on the ring alone, and with both rings enabled on endpoint 0: the model's choice
(log entry 232). -/
def State.ringOf (s : State) (x : Session) : Option Nat :=
  [0, 1].find? (fun ep => (s.endpoint ep).evqEnable && x.bindings.any (fun b => b = .ring 0 && ep = 0 || b = .ring 1 && ep = 1))

/-- The records an event ring holds (Table 3.16); a SIZE_LOG2 outside 6–12 stands for the default (log entry 233). -/
def Endpoint.evqSize (e : Endpoint) : Nat := if 6 ≤ e.evqSizeLog2 ∧ e.evqSizeLog2 ≤ 12 then 2 ^ e.evqSizeLog2 else 64

/-- MSI-X signals a vector of 0–63 (R113): where its table entry masks it (bit 0 of its fourth word), its bit of the PBA is
set instead. -/
def State.signal (s : State) (ep v : Nat) : State :=
  if 63 < v then s
  else if ((s.endpoint ep).msixTable.get 0 (4 * v + 3)).testBit 0 then
    s.modEndpoint ep (fun e => { e with msixPending := e.msixPending ||| 2 ^ v })
  else s.send (.msix ep v)

/-- Whether a session's ring or buffer has room for a record (R143, R144). -/
def State.hasRoom (s : State) (x : Session) : Bool :=
  match s.ringOf x with
  | some ep => decide ((s.endpoint ep).evqUnread < (s.endpoint ep).evqSize)
  | none => decide (x.buffer.length < 1024)

/-- Put a record into a session's ring or buffer. -/
def State.deliver (s : State) (id : Nat) (r : EventRec) : State :=
  match s.session id with
  | none => s
  | some x =>
    let r := { r with lostBefore := x.lost }
    let s := s.modSession id (fun x => { x with lost := false })
    match s.ringOf x with
    | some ep =>
      let e := s.endpoint ep
      let s := (s.send (.eventRing ep e.evqTail e.evqPhase r)).signal ep e.evqVector
      let wrap := e.evqSize ≤ e.evqTail + 1
      s.modEndpoint ep (fun e => { e with
        evqTail := if wrap then 0 else e.evqTail + 1
        evqPhase := if wrap then !e.evqPhase else e.evqPhase
        evqUnread := e.evqUnread + 1 })
    | none =>
      let s := s.modSession id (fun x => { x with buffer := x.buffer ++ [r] })
      if x.bindings.any (fun b => b.cls = .ethernet) then s.armOnce .eventNotice id (200 * us) else s

/-- The feature that gates an event number (R228). -/
def eventFeature (n : Nat) : Option Feature :=
  if 0x1C0 ≤ n ∧ n ≤ 0x1FF then some .forecast
  else if 0x200 ≤ n ∧ n ≤ 0x21F then some .lockstep
  else if 0x220 ≤ n ∧ n ≤ 0x23F then some .phasePlans
  else if 0x320 ≤ n ∧ n ≤ 0x33F then some .burinUser
  else if 0x340 ≤ n ∧ n ≤ 0x37F then some .ratline
  else if 0x3D0 ≤ n ∧ n ≤ 0x3DF then some .recorder
  else none

/-- Whether a session's feature word lets it receive an event number (R228). -/
def eventOpen (features n : Nat) : Bool := (eventFeature n).all (fun f => features.testBit f.ctorIdx)

/-- Post a record to one session (R144): with no room a safety record waits in the backlog of 64 and every other
record is dropped, as is every record without SAFETY_ACTION while the backlog is not empty. -/
def State.postTo (s : State) (r : EventRec) (id : Nat) : State :=
  match s.session id with
  | none => s
  | some x =>
    let r := { r with seq := x.nextSeq }
    let s := s.modSession id (fun x => { x with nextSeq := (x.nextSeq + 1) % 4294967296 })
    if x.backlog.isEmpty && s.hasRoom x then s.deliver id r
    else if r.safety && decide (x.backlog.length < 64) then
      s.modSession id (fun x => { x with backlog := x.backlog ++ [r] })
    else s.modSession id (fun x => { x with lost := true })

/-- Whether the long event log takes a record (R734). -/
def State.logs (s : State) (n : Nat) (safety : Bool) : Bool :=
  safety || decide (n < 0x40) || (decide (0x3C0 ≤ n) && decide (n ≤ 0x3FE)) || (s.getN .logMask).testBit n

/-- The tile that owns the flash bus and writes the log (R25, R735): Fore, or Main while Fore is fenced. -/
def State.flashTile (s : State) : Nat := if s.var .tilePhase 0 = 4 then 1 else 0

/-- A record reaches retained memory, which holds 4,096; one that finds it full is lost (R735, R736). -/
def State.logAdd (s : State) (r : LogRec) : State :=
  if s.log.waiting.length < 4096 then { s with log := { s.log with waiting := s.log.waiting ++ [r] } }
  else { s with log := { s.log with lost := s.log.lost + 1 } }

/-- A record is raised: it goes to the event controllers, to the long log where R734 takes it (unless `quiet`: a furl
and its cut have records of their own, Table 11.3), and to the sessions that `to` names besides those whose mask holds
it (unless `only`). -/
def State.raiseRec (s : State) (r : EventRec) (dest : List Nat) (only quiet : Bool) : State :=
  let s := { s with raised := s.raised ++ [r] }
  let s := s.when (s.logs r.num r.safety && !quiet) (fun s => s.logAdd
    { type := r.num, src := r.src, stamp := r.stamp, csn := r.csn, safety := r.safety, tile := s.flashTile, payload := r.payload })
  let ids := (s.sessions.filter (fun x => x.id ∈ dest || (!only && x.mask.testBit r.num && eventOpen x.features r.num))).map (·.id)
  s.each ids (fun s id => s.postTo r id)

/-- Raise an event with the payload its table gives. -/
def State.raiseTo (s : State) (e : Ev) (src : ObjId) (payload : List Int) (safety : Bool) (stamp : Ns)
    (dest : List Nat) (only : Bool) : State :=
  s.raiseRec { num := e.num, src, stamp, csn := s.journal.committed, safety, payload := layFields e.layout payload } dest only
    (decide (e = .furl ∨ e = .furlCut))

/-- The recorder's triggers (R651, R652): an event with SAFETY_ACTION while TRIGGER_ON_SAFETY is 1, or one whose bit
TRIGGER_MASK holds, at its stamp. In RECORDING it starts POST with Z = stamp + POST_TRIGGER; in POST and FROZEN it
is logged, at most 16 entries. The recorder's own events trigger nothing. -/
def State.recTrigger (s : State) (n : Nat) (stamp post : Ns) : State :=
  if s.get .recState = 1 then
    let s := s.put .recState 0 2 |>.setT .recFreeze 0 (some (stamp + post)) |>.setV .recTriggers 0 1
    let s := { s with recorder := { s.recorder with triggers := [(stamp, n)] } }
    let s := s.raiseTo .recorderTrigger oRecorder [n, 1, (stamp + post : Nat)] false s.now [] false
    s.raiseTo .recorderState oRecorder [1, 2, (stamp + post : Nat)] false s.now [] false
  else if s.get .recState = 2 ∨ s.get .recState = 3 then
    { s.countV .recTriggers 0 with recorder := { s.recorder with triggers := (s.recorder.triggers ++ [(stamp, n)]).take 16 } }
  else s

/-- Whether an event triggers the recorder (R651). -/
def State.trigger (s : State) (n : Nat) (safety : Bool) (stamp : Ns) : State :=
  if (safety && decide (s.get .triggerOnSafety = 1)) || (s.getN .triggerMask).testBit n
  then s.recTrigger n stamp (s.getN .postTrigger * ms) else s

/-- Raise an event stamped `stamp`, with or without SAFETY_ACTION. -/
def State.raiseAt (s : State) (e : Ev) (src : ObjId) (payload : List Int) (safety : Bool) (stamp : Ns)
    (dest : List Nat := []) : State :=
  (s.raiseTo e src payload safety stamp dest false).trigger e.num safety stamp

/-- Raise an event that is no safety action. -/
def State.raise (s : State) (e : Ev) (src : ObjId) (payload : List Int) : State :=
  s.raiseAt e src payload false s.now

/-- Raise an event with SAFETY_ACTION = 1. -/
def State.raiseSafety (s : State) (e : Ev) (src : ObjId) (payload : List Int) : State :=
  s.raiseAt e src payload true s.now

/-- Freed room takes backlogged safety records first (R144). -/
def State.drainBacklogN (s : State) (id : Nat) : Nat → State
  | 0 => s
  | k + 1 =>
    match s.session id with
    | some x =>
      match x.backlog with
      | r :: rest =>
        if s.hasRoom x then
          (s.modSession id (fun x => { x with backlog := rest })).deliver id r |>.drainBacklogN id k
        else s
      | [] => s
    | none => s

/-- Freed room takes up to the 64 backlogged records. -/
def State.drainBacklog (s : State) (id : Nat) : State := s.drainBacklogN id 64

/-! ### Commit (R130, R154–R156) -/

/-- An object's LAST_CSN (R131); the device's is the global commit CSN. -/
def State.lastCsnOf (s : State) (o : ObjId) : Nat :=
  if o = oDevice then s.journal.committed else s.lastCsn.get 0 o

/-- The CSN up to which entries are committed, by Table 4.1: in TRIO the leader and one follower hold them, in DUO
both tiles, in SOLO and SINGLE the tile and the NAND; nothing commits in LONE_MIZZEN or while no leader is in place. -/
def State.quorum (s : State) : Nat :=
  let acks := (s.tilesIn.filter (fun t => t ≠ s.leader)).map (fun t => s.varN .ackSeen t)
  if s.flag .electing then s.journal.committed
  else match s.membership with
  | 0 => s.journal.committed
  | 1 | 4 => s.journal.nand
  | _ => acks.foldl max 0

/-- A reply may be reported: its change is committed (O4), and the session waits for no safety record that is older
than the commit (O6, R145). A ring completion also needs a free slot of the completion ring (R113). -/
def State.releasable (s : State) (o : Outst) (r : Reply) : Bool :=
  decide (r.commitCsn ≤ s.journal.committed) &&
  (match s.session o.origin.session with
   | some x => x.backlog.all (fun b => decide (r.commitCsn ≤ b.csn))
   | none => true) &&
  (match o.dest with
   | .ring ep => let q := (s.endpoint ep.val).qp o.origin.queue; decide (q.unread < q.sizeM1 + 1)
   | _ => true)

/-- A queue pair stops with an error (R115). -/
def State.queueError (s : State) (ep q code : Nat) : State :=
  (s.modQp ep q (fun x => { x with error := code })).raise .queueError (oHostPort ep) [ep, q, code]

/-- RESET_BUSY falls once no queue pair of the endpoint drains (Table 3.15). -/
def State.resetDone (s : State) (ep : Nat) : State :=
  if (s.endpoint ep).resetBusy && !s.outst.any (fun o => match o.dest with
      | .ring e => decide (e.val = ep) && !((s.endpoint ep).qp o.origin.queue).enable
      | _ => false)
  then s.modEndpoint ep (fun e => { e with resetBusy := false }) else s

/-- A completion entry is written (Table 3.20, R113), after the reply buffer. -/
def State.completeRing (s : State) (ep : Nat) (o : Outst) (r : Reply) (quiet : Bool) : State :=
  let q := (s.endpoint ep).qp o.origin.queue
  let len := 36 + (recordLen r.results + 3) / 4 * 4
  let cut := decide (o.replySize < len)
  let s := s.when (!quiet) (fun s => s.send (.replyBuffer ep o.origin.queue o.slot r cut))
  let s := s.send (.completion ep o.origin.queue q.cqTail (completionBytes o.slot r.status
    (if quiet then 0 else min len o.replySize) q.phase (cut && !quiet) quiet r.commitCsn))
  let s := s.signal ep q.vector
  let wrap := q.cqTail = q.sizeM1
  (s.modQp ep o.origin.queue (fun q => { q with
    cqTail := if wrap then 0 else q.cqTail + 1
    phase := if wrap then !q.phase else q.phase
    unread := q.unread + 1 })).resetDone ep

/-- A reply reaches the REPLY area of a target port's window (R627). -/
def State.windowReply (s : State) (k : Nat) (bytes : List Nat) : State :=
  { s with windows := s.windows.put {} k { s.windows.get {} k with status := 2, reply := bytes } }

/-- Report one outcome to its source (R104, R113): suppressed replies leave a completion entry with NO_REPLY on a
ring, are sent all the same over MCTP and in the byte window (slot 1 of its binding), and are not sent elsewhere. Where host
memory takes no reply, the queue pair stops with ERROR 3 (R115). EVENTS_PENDING tells of records not yet read (R145). -/
def State.report (s : State) (o : Outst) (r : Reply) : State :=
  let pend := match s.session o.origin.session with
    | some x => x.buffer.any (fun b => decide (x.readTo ≤ b.seq) && decide (b.csn < r.commitCsn))
    | none => false
  let r := { r with eventsPending := pend }
  let quiet := o.mute || (!o.wantsReply && (decide (r.status = 0) || decide (r.status = 1)))
  let s := s.when (decide (r.status = Status.busy.code) && o.dest.cls.isHost)
    (fun s => s.count .busyReplies o.dest.port)
  match o.dest with
  | .ring ep => if o.noWrite && !quiet then s.queueError ep.val o.origin.queue 3 else s.completeRing ep.val o r quiet
  | .smbus k =>
    if o.slot = 1 then s.windowReply k.val r.packet else s.send (.reply o.dest r)
  | .vdm _ => s.send (.reply o.dest r)
  | .firmware => s
  | .burin e => if quiet then s else { s with mail := s.mail ++ [(e.val, r)] }
  | .ratline _ tray =>
    if 2 ^ 64 ≤ tray then s.opReply (tray - 2 ^ 64) r.status r.commitCsn
    else s.remoteDone tray o.origin.queue o.origin.tag quiet r.packet
  | .eth p n => if quiet ∨ (s.ethAt p.val n).isNone then s else (s.ethSent p.val n r.packet.length).send (.reply o.dest r)

/-- The first outcome that may be reported now: the oldest request of its queue, with its reply (O1). -/
def State.nextReport (s : State) : List Outst → List (Binding × Nat) → Option (Outst × Reply)
  | [], _ => none
  | o :: rest, held =>
    if (o.dest, o.origin.queue) ∈ held then s.nextReport rest held
    else match o.reply with
      | some r => if s.releasable o r then some (o, r) else s.nextReport rest ((o.dest, o.origin.queue) :: held)
      | none => s.nextReport rest ((o.dest, o.origin.queue) :: held)

/-- Report outcomes as long as one may be reported, at most `n`. -/
def State.flushN (s : State) : Nat → State
  | 0 => s
  | n + 1 =>
    match s.nextReport s.outst [] with
    | none => s
    | some (o, r) =>
      State.flushN (({ s with outst := s.outst.erase o, cmdCsn := if r.final then s.cmdCsn.put 0 o.origin.id 0 else s.cmdCsn } : State).report o r) n

/-- Report every outcome that may be reported now. -/
def State.flush (s : State) : State := s.flushN s.outst.length

/-- KIND (Table 4.3). -/
def EntryKind.code (k : EntryKind) : Nat := k.ctorIdx + 1

/-- The identity of the stitch crossing from one tile to another on a channel (Table 2.6): 0 journal, 1 vote, 2 stream,
3 command; the next tile of Mizzen is Fore (log entry 234). -/
def stitchId (src dst ch : Nat) : Nat := src * 2 ^ 14 + (if dst = (src + 1) % 3 then 2 else 3) * 2 ^ 8 + ch

/-- A stitch channel carries words: both ends are ACTIVE (R89). -/
def State.stitchUp (s : State) (src dst ch : Nat) : Bool :=
  decide (s.var .crossing (stitchId src dst ch) = 0) && decide (s.var .crossing (stitchId dst src ch) = 0)

/-- A word for another tile: while its crossing is not ACTIVE it is answered failed and counted (R89, Table 2.7). -/
def State.stitchSend (s : State) (src dst ch kind : Nat) (fields : List Int) : State :=
  if s.stitchUp src dst ch then s.send (.stitch src dst kind fields) else s.countV .crossingLost (stitchId src dst ch)

/-- An entry's 48-byte header (Table 4.2) and its body. -/
def Entry.fields (e : Entry) : List Fld :=
  let o := e.origin
  [u64 e.csn, u32 e.term, u16 e.kind.code, u16 e.bodyLen, u64 e.stamp, u32 o.session, u8 o.binding.cls.code, u8 o.binding.port,
   u16 o.queue, u16 o.tag, u16 (if o.id = 0 then 0 else o.op.info.code : Nat), u32 o.object, u64 e.refCsn] ++ e.body

/-- Bytes an entry takes in the ring (R153): 48 of header, and its body padded to eight. -/
def Entry.size (e : Entry) : Nat := 48 + (e.bodyLen + 7) / 8 * 8

/-- The length of the journal ring (R153). -/
def journalRing : Nat := 8 * 1048576

/-- A follower that serves writes an entry at once and acknowledges it: it has acknowledged every entry before it, and its stitch
carries words. That this is part of the step that writes the entry is the model's choice (log entry 235). -/
def State.responds (s : State) (t csn : Nat) : Bool :=
  s.votes t && s.stitchUp s.leader t 0 && !s.acts (0x082 + 16 * t) && decide (s.getN .ackCsn t + 1 = csn) && decide (s.varN .ackSeen t + 1 = csn)

/-- A follower writes an entry and acknowledges its CSN (R154). -/
def State.followerAck (s : State) (t csn : Nat) : State :=
  ((s.put .ackCsn t csn).setV .ackSeen t csn).stitchSend t s.leader 0 3 [csn]

/-- The committed CSN follows the acknowledgements, and never falls (R154). -/
def State.commitUp (s : State) : State :=
  { s with journal := { s.journal with committed := max s.journal.committed (min s.journal.assigned s.quorum) } }

/-- Write a journal entry (R130, R154): it receives the next CSN, the leader holds it and sends it to every follower, and those
that respond acknowledge it. LONE_MIZZEN keeps no journal (R171). -/
def State.journalWrite (s : State) (e : Entry) : State :=
  if s.membership = 0 then s
  else
    let csn := s.journal.assigned + 1
    let e := { e with csn, term := s.getN .term, addr := s.journal.ring, bodyLen := if e.body.isEmpty then e.bodyLen else recordLen e.body }
    let s := { s with journal := { s.journal with assigned := csn, entries := s.journal.entries ++ [e]
                                                  ring := (s.journal.ring + e.size) % journalRing } }.put .ackCsn s.leader csn
    (s.each (s.tilesIn.filter (fun t => t ≠ s.leader)) (fun s t =>
      let s := s.stitchSend s.leader t 0 1 (e.fields.map (·.val))
      if s.responds t csn then s.followerAck t csn else s)).commitUp

/-- Journal an entry stamped now. -/
def State.journalAdd (s : State) (kind : EntryKind) (o : Origin) (refCsn : Nat := 0) (body : List Fld := []) : State :=
  s.journalWrite { csn := 0, term := 0, kind, stamp := s.now, origin := o, refCsn, body }

/-- The CSN of the COMMAND entry of a request; 0 where it has none. -/
def State.csnOf (s : State) (o : Origin) : Nat := s.cmdCsn.get 0 o.id

/-- The CSN a reply carries: that of the request's entry, or for a read the one it read at (R97). -/
def State.replyCsn (s : State) (o : Origin) : Nat := if s.csnOf o = 0 then s.journal.committed else s.csnOf o

/-- The object a request with origin `o` changed has a new LAST_CSN (R131). -/
def State.touch (s : State) (x : ObjId) (csn : Nat) : State := { s with lastCsn := s.lastCsn.put 0 x csn }

/-- The COMMAND entry of a request that commits a change (R130, R154). -/
def State.journalCommand (s : State) (o : Origin) (b : Option Body) : State :=
  let kind : EntryKind := match o.op with
    | .negotiate | .hello | .close | .subscribe => .session
    | _ => .command
  let len := match b with
    | some _ => ((s.outst.find? (fun x => x.origin = o)).map (·.paramLen)).getD 0
    | none => 0
  let s := s.journalWrite { csn := 0, term := 0, kind, stamp := s.now, origin := o, request := b, bodyLen := len }
  { s with cmdCsn := if o.id = 0 then s.cmdCsn else s.cmdCsn.put 0 o.id s.journal.assigned }

/-- A change the controller commits by itself: its entry, and the object's LAST_CSN (R130, R131). -/
def State.commit (s : State) (o : Origin) : State :=
  let s := s.journalCommand o none
  s.touch o.object s.journal.assigned

/-- The tiles that act on a safety action: those whose votes count (R164). -/
def State.actors (s : State) : Nat := (([0, 1, 2].filter s.votes).map (fun t => 2 ^ t)).sum

/-- Journal a safety action (O6): its action code, its object, and the tiles that acted (Table 4.3). -/
def State.journalSafety (s : State) (object : ObjId) (action : Int) : State :=
  s.journalAdd .safety { object } 0 [u16 action, u16 0, u32 object, u8 s.actors]

/-- A MEMBERSHIP entry (Table 4.3): tile set, term, cause. -/
def State.journalMembers (s : State) (cause : Int) : State :=
  s.journalAdd .membership {} 0 [u8 (s.tilesIn.foldl (fun acc t => acc + 2 ^ t) 0 : Nat), rsv 3, u32 (s.get .term), u8 cause]

/-! ### Outcomes (R97, R103, R135) -/

/-- What a request's effect answers: a final outcome with its result fields, the acceptance of a long-running
command, or nothing yet (the outcome comes with a later command). -/
inductive Res where
  | done (st : Status) (results : List Fld)
  | accepted (results : List Fld)
  | later
deriving DecidableEq, Repr

/-- An outcome without results. -/
abbrev Res.st (x : Status) : Res := .done x []

/-- Whether an outcome commits a state-changing request. -/
def Res.commits : Res → Bool
  | .done .ok _ | .accepted _ | .later => true
  | _ => false

/-- The fault `check_parameters` finds (R102), if the outcome is one: a parameter or a property that the opcode's chapter
refuses as such. -/
def Res.fault : Res → Option Status
  | .done .badParam _ => some .badParam
  | .done .propUnknown _ => some .propUnknown
  | .done .propReadOnly _ => some .propReadOnly
  | _ => none

/-- The RECALL record of a request changes (R122). -/
def State.noteRecent (s : State) (o : Origin) (phase status csn : Nat) : State :=
  s.modSession o.session (fun x => { x with
    recent := x.recent.map (fun r => if r.id = o.id then { r with phase, status, csn } else r) })

/-- The reply of a request is formed; it is reported in its queue's order. -/
def State.fill (s : State) (o : Origin) (st : Status) (results : List Fld) (csn : Nat) (final : Bool) : State :=
  let f := fun (x : Outst) =>
    if x.origin = o ∧ x.reply = none then
      { x with reply := some { opcode := x.opcode, tag := o.tag, queue := o.queue, object := o.object, status := st.code,
                               results, commitCsn := csn, doneTime := s.now, final, safety := x.safety } }
    else x
  { s with outst := s.outst.map f, orphans := s.orphans.map f }

/-- The CSN RECALL gives: that of the commit, or 0 for a request that committed nothing (R122). -/
def State.recallCsn (s : State) (o : Origin) (csn : Nat) : Nat := if s.csnOf o = 0 then 0 else csn

/-- A request has its outcome: the reply is formed and reported in its queue's order. -/
def State.answer (s : State) (o : Origin) (st : Status) (results : List Fld) (csn : Nat) (final : Bool := true) : State :=
  let s := s.fill o st results csn final
  (s.noteRecent o (if final then 3 else 2) st.code (s.recallCsn o csn)).flush

/-- The completion block of an event (Table 3.23). -/
def Origin.block (o : Origin) (st : Status) (detail : Int) (csn : Nat) : List Int :=
  [o.binding.cls.code, o.binding.port, o.queue, o.tag, o.op.info.code, st.code, detail, csn]

/-- A command holds objects until it ends (R134). -/
def State.hold (s : State) (o : Origin) (objs : List ObjId) : State :=
  { s with holds := s.holds ++ objs.map (fun x => (o, x)) }

/-- A command lets go of what it holds. -/
def State.unhold (s : State) (o : Origin) : State := { s with holds := s.holds.filter (fun h => h.1 ≠ o) }

/-- An object is held by a running command. -/
def State.isHeld (s : State) (x : ObjId) : Bool := s.holds.any (fun h => h.2 = x)

/-- The owner tile starts an effect that is not a target state (R153). -/
def State.beginApply (s : State) (o : Origin) : State :=
  let csn := s.csnOf o
  let s := s.journalAdd .applyBegin o csn
  { s with applying := s.applying ++ [⟨o, csn⟩] }

/-- Such an effect is finished (R153); nothing follows where none began. -/
def State.endApply (s : State) (o : Origin) (st : Status) : State :=
  match s.applying.find? (fun x => x.origin = o) with
  | some x => ({ s with applying := s.applying.erase x } : State).journalAdd .applyEnd o x.csn [u16 st.code]
  | none => s

/-- The final entry of a command is committed (R135): its completion event, which the originating session receives whatever its
mask; a program receives the final reply in its mailbox instead (R541). -/
def State.ended (s : State) (x : Ending) : State :=
  let o := x.origin
  let s := (s.noteRecent o 3 x.status.code (s.recallCsn o x.csn)).touch o.object x.csn
  let s := { s with running := s.running.erase o, cmdCsn := s.cmdCsn.put 0 o.id 0 }
  let s := s.modSession o.session (fun y => { y with running := y.running - 1 })
  let s : State := match o.binding with
    | .burin b => { s with mail := s.mail ++ [(b.val,
        { opcode := o.op.info.code, tag := o.tag, queue := o.queue, object := o.object, status := x.status.code, results := []
          commitCsn := x.csn, doneTime := s.now, final := true, safety := o.safety })] }
    | _ => s
  s.raiseAt x.ev o.object (o.block x.status x.detail x.csn ++ x.data) false s.now [o.session]

/-- Completions whose FINAL entry is committed are reported. -/
def State.endDue (s : State) : State :=
  let due := s.endings.filter (fun x => decide (x.csn ≤ s.journal.committed))
  if due.isEmpty then s
  else ({ s with endings := s.endings.filter (fun x => !decide (x.csn ≤ s.journal.committed)) } : State).each due State.ended

/-- The committed CSN follows the acknowledgements, and what waited for it is reported (R154). -/
def State.recommit (s : State) : State := s.commitUp.endDue.flush

/-- The body of a FINAL entry (Table 4.3): the completion block and what follows it in the event. -/
def Ending.body (x : Ending) (csn : Nat) : List Fld := layFields x.ev.layout (x.origin.block x.status x.detail csn ++ x.data)

/-- A command that answered ST_ACCEPTED completes (R135): its final entry, and once that is committed its completion event. -/
def State.complete (s : State) (o : Origin) (e : Ev) (st : Status) (data : List Int) (detail : Int := 0) : State :=
  let s := (s.unhold o).endApply o st
  let x : Ending := ⟨s.journal.assigned + 1, o, e, st, data, detail⟩
  let s := s.journalAdd .final o (s.csnOf o) (x.body x.csn)
  let x := { x with csn := s.journal.assigned }
  if s.journal.assigned ≤ s.journal.committed then s.ended x else { s with endings := s.endings ++ [x] }

/-- A command ends: by its completion event where it answered ST_ACCEPTED, by its reply where it has none yet. -/
def State.finish (s : State) (o : Origin) (e : Ev) (st : Status) (data : List Int) (results : List Fld) (detail : Int := 0) : State :=
  if o ∈ s.running then s.complete o e st data detail
  else
    ((s.unhold o).endApply o st).answer o st results (s.replyCsn o)

end Sys2Proof.Machine
end

