-- ==== Sys2Proof/Machine/Points.lean ====
section
/-! DEFINITION. The injection catalogue (Table 19.1), the points that act, and the tests that run (chapter 19). -/

namespace Sys2Proof.Machine

/-! ### The catalogue (R716, Table 19.1) -/

/-- The detector input that catalogue number `p` names; none where no row of Table 19.1 defines it. -/
def pointOf (p : Nat) : Option Point :=
  let t := p % 64 / 16
  let r := p % 16
  if p < 0x0C0 then
    if 3 ≤ t then none
    else match p / 64, r with
    | 0, r => if r ≤ 5 ∨ r = 8 ∨ r = 9 then some (.memory t r) else none
    | 1, 0 => if t = 0 then some .refclk else none
    | 1, 1 => some (.island t) | 1, 2 => some (.crossing t) | 1, 3 => some (.guard t) | 1, 4 => some (.pace t)
    | 2, 0 => some (.heartbeat t) | 2, 1 => some (.vote t) | 2, 2 => some (.ack t) | 2, 3 => some (.stitch t)
    | _, _ => none
  else if p < 0x0C3 then some (.arrayTest (p - 0x0C0))
  else if p = 0x0D0 ∨ p = 0x0D1 then some (.norDie (p - 0x0D0))
  else if p = 0x0D2 then some .nand
  else if p = 0x0E0 then some .consistency
  else if 0x200 ≤ p ∧ p < 0x210 then some (.shroud (p - 0x200))
  else if 0x220 ≤ p ∧ p < 0x240 then some (.sheet (p - 0x220))
  else if 0x240 ≤ p ∧ p < 0x24A then some (.ratline (p - 0x240))
  else if 0x250 ≤ p ∧ p < 0x256 then some (.host (p - 0x250))
  else if 0x400 ≤ p ∧ p < 0x540 then some (.rail (p - 0x400))
  else if 0x560 ≤ p ∧ p < 0x564 then some (.feedCurrent (p - 0x560))
  else if 0x568 ≤ p ∧ p < 0x56C then some (.feedVoltage (p - 0x568))
  else if 0x600 ≤ p ∧ p < 0x610 then some (.stageFault (p - 0x600))
  else if 0x610 ≤ p ∧ p < 0x620 then some (.peakLimit (p - 0x610))
  else if 0x620 ≤ p ∧ p < 0x630 then some (.legChannel (p - 0x620))
  else if 0x630 ≤ p ∧ p < 0x640 then some (.upstream (p - 0x630))
  else if 0x800 ≤ p ∧ p < 0xBD8 then some (.thermal (p - 0x800))
  else if 0xC00 ≤ p ∧ p < 0xC10 then some (.tach (p - 0xC00))
  else if 0xC10 ≤ p ∧ p < 0xC20 then some (.current (p - 0xC10))
  else if 0xC20 ≤ p ∧ p < 0xC24 then some (.tach (p - 0xC20 + 16))
  else if 0xC24 ≤ p ∧ p < 0xC28 then some (.current (p - 0xC24 + 16))
  else if 0xC30 ≤ p ∧ p < 0xC38 then some (.flow (p - 0xC30))
  else if 0xC38 ≤ p ∧ p < 0xC40 then some (.pressure (p - 0xC38))
  else if 0xC44 ≤ p ∧ p < 0xC4C then some (.valve (p - 0xC40))
  else if 0xC50 ≤ p ∧ p < 0xC58 then some (.leak (p - 0xC50))
  else if 0xC58 ≤ p ∧ p < 0xC60 then some (.rope (p - 0xC58))
  else if 0xE00 ≤ p ∧ p < 0xE20 then some (.sdaLow (p - 0xE00))
  else if 0xE40 ≤ p ∧ p < 0xE60 then some (.sclLow (p - 0xE40))
  else if 0xE80 ≤ p ∧ p < 0xEA2 then some (.startSeen (p - 0xE80))
  else if 0xF00 ≤ p ∧ p < 0xF30 then some (.engine (p - 0xF00))
  else none

/-- The catalogue numbers of drive channel c's tach and current, and of a flit or Sheet port's receiver. -/
def pTach (c : Nat) : Nat := if c < 16 then 0xC00 + c else 0xC20 + (c - 16)
def pCurrent (c : Nat) : Nat := if c < 16 then 0xC10 + c else 0xC24 + (c - 16)
def pLink (key : Nat) : Nat := if key < 16 then 0x200 + key else if key < 48 then 0x220 + (key - 16) else 0x240 + (key - 48)

/-- The point may hold a condition; the others act once and take DURATION 0 (Table 19.2). -/
def Point.holds : Point → Bool
  | .memory _ _ | .crossing _ | .stitch _ | .arrayTest _ | .norDie _ | .nand | .consistency | .host _ | .legChannel _
  | .startSeen _ | .engine _ => false
  | _ => true

/-- The point also acts at one sample of its detector: the next word, flit, sample or operation. -/
def Point.once : Point → Bool
  | .memory _ _ | .crossing _ | .stitch _ | .refclk | .island _ | .guard _ | .heartbeat _ | .vote _ | .ack _ | .stageFault _
  | .peakLimit _ | .upstream _ | .tach _ | .rope _ | .sdaLow _ | .sclLow _ | .startSeen _ | .feedVoltage _ => false
  | _ => true

/-- The input's values reach the block as verdicts of a unit whose inputs it does not hold: the fault is put on that input. -/
def Point.outside : Point → Bool
  | .memory _ _ | .crossing _ | .stitch _ | .sdaLow _ | .sclLow _ | .startSeen _ | .feedVoltage _ => true
  | _ => false

/-- VALUE is one Table 19.1 gives the point. -/
def Point.takes (m : Member) (p : Point) (v : Int) : Bool :=
  let upTo (n : Int) : Bool := decide (0 ≤ v ∧ v ≤ n)
  match p with
  | .memory _ _ => decide (1 ≤ v ∧ v ≤ 3)
  | .island t => upTo 9 && m.island t v.toNat
  | .crossing _ | .stitch _ => upTo 255
  | .vote _ => upTo 97
  | .consistency => upTo 2
  | .rail _ => upTo 3
  | .stageFault _ => upTo 2047 && decide (v % 128 ≤ 71) && decide (256 ≤ v) && decide (v / 128 % 2 = 0)
  | .peakLimit _ | .legChannel _ => upTo 71
  | .thermal _ | .pressure _ => true
  | .flow _ | .valve _ => upTo 1000
  | .pace _ | .feedCurrent _ | .feedVoltage _ | .current _ | .leak _ => decide (0 ≤ v)
  | .engine _ => upTo 1
  | _ => decide (v = 0)

/-- The level a point needs with a VALUE and a DURATION (Table 19.1). -/
def State.pointLevel (s : State) (p : Point) (v : Int) (duration : Nat) : Nat :=
  match p with
  | .memory _ _ => if v = 3 then 2 else 0
  | .refclk | .guard _ | .nand | .host _ | .legChannel _ | .tach _ | .rope _ | .startSeen _ => 0
  | .island _ | .heartbeat _ | .vote _ | .ack _ | .consistency | .feedCurrent _ | .feedVoltage _ | .stageFault _ | .peakLimit _
  | .upstream _ | .flow _ => 2
  | .crossing _ | .stitch _ | .arrayTest _ | .norDie _ | .current _ | .pressure _ | .valve _ | .sdaLow _ | .sclLow _ | .engine _ => 1
  | .pace _ => if v < 650000 then 2 else 1
  | .shroud _ | .sheet _ | .ratline _ => if duration = 0 then 0 else 1
  | .rail _ => if v = 2 then 2 else 1
  | .thermal c => if s.get .furlT c < v ∨ s.get .tripT c < v then 2 else if s.get .reefT c < v then 1 else 0
  | .leak z => if v < s.get .wetR z then 2 else 0

/-- The lowest level of a point. -/
def Point.lowest : Point → Nat
  | .memory _ _ | .refclk | .guard _ | .nand | .host _ | .legChannel _ | .tach _ | .rope _ | .startSeen _ | .shroud _ | .sheet _
  | .ratline _ | .thermal _ | .leak _ => 0
  | .island _ | .heartbeat _ | .vote _ | .ack _ | .consistency | .feedCurrent _ | .feedVoltage _ | .stageFault _ | .peakLimit _
  | .upstream _ | .flow _ => 2
  | _ => 1

/-! ### States of a point (R722, Table 19.12) -/

def ptIdle : Int := 0
def ptArmed : Int := 1
def ptFiring : Int := 2

/-- Points armed or firing. -/
def State.armedPoints (s : State) : List Nat := (s.points.entries.map (·.1)).filter (fun p => decide (s.get .pointState p ≠ ptIdle))

/-- ARMED follows the points' states. -/
def State.setPoint (s : State) (p : Nat) (st : Int) : State :=
  let s := s.put .pointState p st
  s.put .armed 0 s.armedPoints.length

/-- A point returns to IDLE: what it held ends, on an input outside the block too. A fault that is due at its detector's next sample stays due. -/
def State.pointIdle (s : State) (p : Nat) : State :=
  let held := (s.timer .injHold p).isSome
  let s := s.when (held && (pointOf p).any Point.outside) (fun s => s.send (.fault p (s.points.get {} p).value 0))
  let s := (s.disarm .injHold p).disarm .armLimit p
  let s : State := { s with points := s.points.put {} p ({ pend := (s.points.get {} p).pend, value := if (s.points.get {} p).pend then (s.points.get {} p).value else 0 } : Inj) }
  (s.setPoint p ptIdle).when (held && (pointOf p).any (fun x => match x with | .vote _ => true | _ => false)) State.revoteAll

/-- EV_INJECTION (R722). -/
def State.pointEvent (s : State) (p : Nat) (what : Int) : State := s.raise .injection (oPoint p) [p, what, s.get .fires p]

/-- The level of what a point is armed with. -/
def State.armedLevel (s : State) (p : Nat) : Nat :=
  match pointOf p with
  | some x => if s.get .pointState p = ptIdle then x.lowest else s.pointLevel x (s.points.get {} p).value (s.points.get {} p).duration
  | none => 0

/-! ### Tests and calibrations that run (R725–R731) -/

/-- A self-test that acts on what it tests (Table 19.3). -/
def Trial.disturbs (x : Trial) : Bool := !x.cal && decide (8 ≤ x.test)

/-- What the test held its object by is gone. -/
def State.freeTrial (s : State) (x : Trial) : State :=
  let i := objIdx x.object
  let s := s.when (decide (x.test = 11)) (fun s => s.setV .testDrive i 0)
  s.when (decide (x.test = 10)) (fun s => s.setV .testValve i 0)

/-- A test ends: its completion (R725, R729). -/
def State.endTrial (s : State) (x : Trial) (st : Status) (outcome step : Nat) (measured : Int) : State :=
  let s : State := { s with tests := s.tests.erase x }
  match x.origin with
  | some o =>
    if x.cal then s.complete o .calibrateDone st [x.test, outcome, measured]
    else s.complete o .selftestDone st [x.test, outcome, step, measured]
  | none => s

/-- A test is aborted; what it measured is not given. -/
def State.abortTrial (s : State) (x : Trial) (st : Status) : State :=
  let (m, s) := s.draw
  s.endTrial x st 2 0 (m % 4294967296)

/-- An action of the controller falls on objects under a disturbing test: the test stops, restoring nothing (R727). -/
def State.stopTrials (s : State) (objs : List ObjId) : State :=
  s.each (s.tests.filter (fun x => x.disturbs && decide (x.object ∈ objs))) (fun s x => (s.freeTrial x).abortTrial x .diagAborted)

/-- Bank b of a tile (0 rail comparators, 1 fast sense) does not count: it is failed, or its calibration runs (R728, R729). -/
def State.bankOut (s : State) (t b : Nat) : Bool :=
  (s.varN .bankFailed t).testBit b ||
  s.tests.any (fun x => x.cal && decide (x.object = oTile t) && decide (x.test = 2 + 2 * b) && !x.waits)

end Sys2Proof.Machine
end

