-- ==== Sys2Proof/Machine/Admission.lean ====
section
/-! DEFINITION. Gantline admission and dispatch (chapter 3): what a request is checked for, in R102's order, and how
an admitted request runs, commits and is answered. -/

namespace Sys2Proof

/-- The feature bits a member has (Table 0.2); bit 10 follows the fuse. -/
def Member.features (m : Member) (dualSign : Bool) : Nat :=
  (match m with
   | .kt880 => 0x3FBFF | .kt860 => 0x3F3FD | .kt440 => 0x3F3FC | .kt420 => 0x3F3C0 | .kt110 => 0x30300) +
  (if dualSign then 0x400 else 0)

/-- How many domains the description gives an accelerator; none where it is not declared. -/
def TrayDesc.domains (d : TrayDesc) (a : Nat) : Nat :=
  match d.accels.find? (fun x => x.accel = a) with
  | some x => x.domains
  | none => 0

/-- The domain a leg belongs to. -/
def TrayDesc.legDomain (d : TrayDesc) (l : Nat) : Option Nat := (d.legs.find? (fun x => x.1 = l)).map (·.2)

end Sys2Proof

namespace Sys2Proof.Machine

/-! ### The tray description's declarations (R51, R774) -/

/-- The accelerator is declared. -/
def State.hasAccel (s : State) (a : Nat) : Bool :=
  match s.td with
  | some d => decide (a < s.member.accels) && d.accels.any (fun x => x.accel = a)
  | none => false

/-- The domain is declared (R51). -/
def State.hasDomain (s : State) (d : Nat) : Bool :=
  match s.td with
  | some td => decide (d / 32 < s.member.accels) && decide (d % 32 < td.domains (d / 32))
  | none => false

/-- The domain a leg belongs to, by the description in force. -/
def State.legDomain (s : State) (l : Nat) : Option Nat :=
  match s.td with
  | some td => td.legDomain l
  | none => none

/-- A relay is declared exactly when its accelerator has a domain in the relay's half (R774). -/
def State.hasRelay (s : State) (r : Nat) : Bool := s.hasDomain (32 * (r / 2) + 16 * (r % 2))

/-- The description in force declares an object. -/
def State.declared (s : State) (o : ObjId) : Bool :=
  match s.td with
  | some d => o ∈ d.declared
  | none => false

/-! ### Presence (R10, R50, R51, Table 1.10) -/

/-- The highest index of each class on the largest member; none for a class no member has (R49). -/
def familyMax (cls : Nat) : Option Nat :=
  match cls with
  | 0x01 => some 2 | 0x02 => some 7 | 0x03 => some 255 | 0x04 => some 1151 | 0x05 => some 319 | 0x06 => some 15
  | 0x07 => some 15 | 0x08 => some 3 | 0x09 => some 11 | 0x0A => some 7 | 0x0B => some 7 | 0x0C => some 7
  | 0x0D => some 983 | 0x0E => some 33 | 0x0F => some 47 | 0x10 => some 1023 | 0x11 => some 1 | 0x12 => some 0
  | 0x13 => some 63 | 0x14 => some 511 | 0x15 => some 65535 | 0x16 => some 9 | 0x17 => some 0 | 0x18 => some 5
  | 0x19 => some 5 | 0x1A => some 4095 | 0xFF => some 0 | _ => none

/-- A defined object (R49, R50): inside its class's range and given by a formula of Table 1.10. -/
def objDefined (o : ObjId) : Bool :=
  match familyMax (objCls o) with
  | none => false
  | some m => decide (objIdx o ≤ m) &&
    (if objCls o = 0x14 then decide (objIdx o ≤ 2) || (decide (8 ≤ objIdx o) && decide (objIdx o ≤ 15)) || decide (256 ≤ objIdx o)
     else if objCls o = 0x1A then (pointOf (objIdx o)).isSome
     else true)

/-- The stacks a tile serves (Table 1.4, R4, R2). -/
def State.stackMask (s : State) (t : Nat) : Nat :=
  match s.member, t with
  | .kt880, 1 => 3 | .kt880, 2 => 12 | .kt860, 1 => 15 | .kt440, 0 => 1 | _, _ => 0

/-- The unit an injection point acts on is on this member, declared, and in service (R716). -/
def State.pointPresent (s : State) (p : Point) : Bool :=
  let sheet (r : Nat) : Bool := s.hasRelay r
  let two := decide (1 < s.member.tiles)
  match p with
  | .memory t r => s.inService t && (decide (r < 8) || decide (r - 8 < ((List.range 4).filter (fun k => (s.stackMask t).testBit k)).length))
  | .refclk | .norDie _ => s.inService 0
  | .island t | .crossing t | .guard t | .pace t | .heartbeat t | .vote t | .ack t | .stitch t => s.inService t
  | .arrayTest t => s.inService t && (s.member.features false).testBit 2
  | .nand => !s.nandLost
  | .consistency => true
  | .shroud p => s.hasAccel (p / 2) && s.inService (p % 2)
  | .sheet p => sheet (p / 2) && s.inService (p % 2)
  | .ratline p => decide (p < s.member.ratPorts) && s.inService (p / 5)
  | .host h => s.member.hostPort h && s.tiled (match h with | 0 | 3 | 5 => 1 | 1 => 2 | _ => 0)
  | .rail k => if k < 64 then s.declared (oRail k) else s.hasDomain (k - 64)
  | .feedCurrent f | .feedVoltage f => s.td.any (fun d => decide (f < d.feeds))
  | .stageFault r | .peakLimit r | .legChannel r | .upstream r => sheet r
  | .thermal c =>
    if c < 72 then s.inService (c / 24)
    else if c < 216 then s.declared (oThermal c) && s.tiled (if 136 ≤ c ∧ c < 200 then 1 else 0)
    else match s.td with
      | some d => (d.accels.find? (fun x => x.accel = (c - 216) / 96)).any (fun x => decide ((c - 216) % 96 < x.sensors))
      | none => false
  | .tach c | .current c => s.declared (oDrive c) && s.inService 0
  | .flow m => s.declared (oFlow m) && s.inService 0
  | .pressure i => s.declared (oPressure i) && s.inService 0
  | .valve v => s.declared (oValve v) && s.inService 0
  | .leak z | .rope z => s.declared (oLeakZone z) && s.inService 0
  | .sdaLow b | .sclLow b | .startSeen b =>
    if b = 32 then s.inService 0 else if b < 16 then s.inService 0 && (decide (s.member ≠ .kt110) || decide (b < 8)) else two && s.inService 1
  | .engine e => s.inService (e / 16)

/-- Points whose unit has left service return to IDLE (R722). -/
def State.dropPoints (s : State) : State :=
  s.each (s.armedPoints.filter (fun p => !(pointOf p).any s.pointPresent)) State.pointIdle

/-- The unit an object is part of is on this member, declared, and in service (R10, R11, R51, Table 1.4). -/
def State.objPresent (s : State) (o : ObjId) : Bool :=
  let i := objIdx o
  let tiled (t : Nat) : Bool := s.inService t
  match objCls o with
  | 0x01 => decide (i < s.member.tiles)
  | 0x02 => s.hasAccel i
  | 0x03 => s.hasDomain i
  | 0x04 => (s.legDomain i).isSome
  | 0x05 => if i < 64 then s.declared o else s.hasDomain (i - 64)
  | 0x06 => s.hasRelay i
  | 0x07 | 0x08 | 0x09 | 0x0A | 0x0B | 0x0C => s.declared o && tiled 0
  | 0x0D =>
    let up (t : Nat) : Bool := decide (s.var .tilePhase (s.tileFor t) ≠ 4)
    if i < 72 then decide (i / 24 < s.member.tiles) && up (i / 24)
    else if i < 216 then s.declared o && up (if 136 ≤ i ∧ i < 200 then 1 else 0)
    else match s.td with
      | some d => (d.accels.find? (fun x => x.accel = (i - 216) / 96)).any (fun x => decide ((i - 216) % 96 < x.sensors))
      | none => false
  | 0x0E => if i = 32 then tiled 0 else if i < 16 then tiled 0 && (decide (s.member ≠ .kt110) || decide (i < 8)) else decide (1 < s.member.tiles) && tiled 1
  | 0x0F => tiled (i / 16)
  | 0x12 => !s.nandLost
  | 0x14 => if i ≤ 2 then true else if i < 16 then s.hasAccel (i - 8) else s.hasDomain (i - 256)
  | 0x16 => decide (i < s.member.ratPorts) && tiled (i / 5)
  | 0x17 => (s.member.features false).testBit 4
  | 0x18 => s.member.hostPort i && s.tiled (match i with | 0 | 3 | 5 => 1 | 1 => 2 | _ => 0)
  | 0x1A => (pointOf i).any s.pointPresent
  | _ => true

/-- The unit a feature bit stands for is in service (R11, R12, R174, Tables 1.4, 4.9): the tiles, the forecast arrays, the stacks
and the recorder, the Ratline and Ethernet ports of Fore and Main, and Fore's valve drive; other features are lost with
nothing. -/
def State.unitUp (s : State) (bit : Nat) : Bool :=
  match bit with
  | 0 => s.inService 1
  | 1 | 11 => s.inService 2
  | 2 | 3 => s.tilesIn.any (fun t => s.get .arrayState t = 0)
  | 4 | 5 => decide (s.varN .stacksUp ≠ 0)
  | 6 | 12 => s.inService 0 || s.inService 1
  | 13 => s.inService 0
  | _ => true

/-- Tests of a tile that leaves service end with it (R183, Table 19.6). -/
def State.trialsLost (s : State) (t : Nat) : State :=
  s.each (s.tests.filter (fun x => decide (x.object = oTile t))) (fun s x =>
    let (m, s) := s.draw
    let s : State := { s with tests := s.tests.erase x }
    match x.origin with
    | some o => s.complete o (if x.cal then .calibrateDone else .selftestDone) .internal
        (if x.cal then [x.test, 2, m % 4294967296] else [x.test, 2, 0, m % 4294967296]) (detailWord 1 t (s.getN .fenceCause t))
    | none => s)

/-- The features in service (R7, R11, R174). -/
def State.featuresUp (s : State) : Nat :=
  let all := s.member.features (s.flag .dualSign)
  ((List.range 18).map (fun b => if all.testBit b && s.unitUp b then 2 ^ b else 0)).sum

/-- Units were lost: their bits leave every session's word, and each session that lost one is told (R226). -/
def State.dropFeatures (s : State) : State :=
  let up := s.featuresUp
  let hit := (s.sessions.filter (fun x => x.features &&& up ≠ x.features)).map (fun x => (x.id, x.features - (x.features &&& up)))
  let s := { s with sessions := s.sessions.map (fun (x : Session) => ({ x with features := x.features &&& up } : Session)) }
  s.each hit (fun s h => s.raiseTo .featuresChanged oDevice [h.1, h.2] false s.now [h.1] true)

/-- The bit of a feature (Table 0.2). -/
def featureBit (f : Feature) : Nat := f.ctorIdx

/-- The feature that gates an object (Table 5.15). -/
def objFeature (o : ObjId) : Option Feature :=
  let i := objIdx o
  match objCls o with
  | 0x0F => if i < 16 then none else if i < 32 then some .tileMain else some .tileMizzen
  | 0x13 => some .forecast
  | 0x17 => some .recorder
  | 0x16 => some .ratline
  | 0x15 => some .lockstep
  | 0x18 => if i = 1 then some .dualPcie else if i = 4 ∨ i = 5 then some .ethernet else none
  | 0x09 => some .valves
  | _ => none

/-- The feature that gates a property: bit 5 the stacks' (Tables 5.15, 16.15). Which these are is a reading (log entry 236). -/
def propFeature : P → Option Feature
  | .stackState | .spareRowsFree | .scrubPeriod | .ceRowLimit | .ueStackLimit => some .stacks
  | _ => none

/-- The features that gate an opcode (Tables 3.8, 5.15): its own, and Ratline for class 0x09. -/
def opFeatures (op : Op) : List Feature := op.info.feature.toList ++ (if op.info.code / 256 = 9 then [.ratline] else [])

/-- Presence of a request's object and units, then negotiation (R10): of the object, the opcode and the property. Sources that
carry no session are not gated. -/
def State.checkPresence (s : State) (x : Option Session) (o : ObjId) (l : List Feature) : Status :=
  let need := (objFeature o).toList ++ l
  if !objDefined o then .badObject
  else if !s.objPresent o || need.any (fun f => !s.featuresUp.testBit (featureBit f)) then .notPresent
  else if need.any (fun f => x.any (fun x => !x.features.testBit (featureBit f))) then .notNegotiated
  else .ok

/-! ### Admission (R102, R108–R110, R124, R126) -/

/-- The source classes' authority (R110, Table 3.11, R44, R171); class 0x09 comes over Ratline in OP_START alone, and
in no packet (R597). -/
def State.permitted (s : State) (b : Binding) (op : Op) : Bool :=
  let c := op.info.code / 256
  if s.membership = 0 ∧ s.tilesIn = [2] then
    decide (b = .ring 1 ∨ b = .vdm 1) && decide (op = .getProp ∨ op = .getSnapshot ∨ op = .readEvents)
  else match b.cls with
    | .firmware => true
    | .host | .smbus | .ethernet => decide (s.get .powerState ≠ 4) || decide (c = 1 ∨ c = 2 ∨ c = 12 ∨ c = 13)
    | .ratline => decide (op = .getProp ∨ op = .getSnapshot ∨ c = 4 ∨ c = 6 ∨ c = 11)
    | .burin => match b with
      | .burin e => (s.varN .engineClasses e.val).testBit c && decide (c ≠ 2 ∧ c ≠ 12 ∧ c ≠ 13) && decide (op ≠ .inject)
      | _ => false

/-- The opcodes whose chapter defines the FORCE flag (R96). -/
def definesForce : Op → Bool
  | .setProp | .setValve | .busTransfer | .pmbusWrite | .etch | .inject | .selftest => true
  | _ => false

/-- How many requests may be outstanding on one queue of a binding (Table 3.10); a ring's limit is kept by fetching (R108). -/
def queueLimit : Binding → Option Nat
  | .ring _ | .firmware => none
  | .vdm _ | .smbus _ => some 1
  | .eth _ _ => some 32
  | .ratline _ _ => some 8
  | .burin _ => some 4

/-- The class a request is arbitrated in (R124); none where a Ratline queue and the request do not match. -/
def classOf (b : Binding) (q : Nat) (safety : Bool) (op : Op) : Option CmdClass :=
  let own := if safety then .safety else op.info.cls
  match b with
  | .ratline _ _ =>
    let ofQueue : CmdClass := match q with | 0 => .safety | 1 => .control | 2 => .manage | _ => .bulk
    if own = ofQueue then some own else none
  | _ => some own

/-- The queue numbers of a binding (Table 3.10). -/
def queueOk (b : Binding) (q : Nat) : Bool :=
  match b with
  | .ring _ => decide (q < 64)
  | .vdm _ => decide (q = 64)
  | .smbus _ | .burin _ => decide (q = 0)
  | .eth _ _ => decide (q < 16)
  | .ratline _ _ => decide (q < 4)
  | .firmware => true

/-- A request that may run as a long-running command (Table 3.8); of the writes SET_PROP makes, those of POWER_STATE and LEADER
(R37, R137, R151). -/
def longRequest (op : Op) (h : Header) : Bool :=
  op.info.long && (decide (op ≠ .setProp) || (decide (h.object = oDevice) && decide (h.property = 0x20 ∨ h.property = 0x61)))

/-- Round up to a multiple of four. -/
def up4 (n : Nat) : Nat := (n + 3) / 4 * 4

/-- The ports and engines of a member that a binding may name (Table 1.4). -/
def State.bindingExists (s : State) (b : Binding) : Bool :=
  match b with
  | .ring e | .vdm e => s.member.hostPort e.val
  | .smbus k => s.member.hostPort (2 + k.val)
  | .eth p _ => s.member.hostPort (4 + p.val)
  | .ratline p _ => decide (p.val < s.member.ratPorts)
  | .burin e => decide (e.val / 16 < s.member.tiles)
  | .firmware => true

/-- A binding's tile is in service and Gantline is served on it (R45, R40); in PROOF_RECOVERY only on SMBus target port 32 and
Ethernet port 0 (R44); over Ethernet in an open session (R682). -/
def State.servedOn (s : State) (b : Binding) : Bool :=
  s.flag .serving && s.bindingExists b && (s.inService (s.tileOf b) || b = .firmware) &&
    (decide (s.get .powerState ≠ 4) || (match b with | .smbus 0 | .eth 0 _ | .firmware => true | _ => false)) &&
    (match b with | .eth p n => (s.ethAt p.val n).isSome | _ => true)

/-- The property a request names, where it names one of its object. -/
def namedProp (h : Header) : Body → Option P
  | .getProp | .setProp _ _ | .watch _ _ _ _ => (P.all.find? (fun p => p.desc.cls = objCls h.object && p.desc.code = h.property))
  | _ => none

/-- Requests outstanding on a queue (R109): admitted and not yet reported. -/
def State.outstandingOn (s : State) (b : Binding) (q : Nat) : List Outst :=
  s.outst.filter (fun (o : Outst) => o.admitted && decide (o.dest = b) && decide (o.origin.queue = q))

/-- Commands of a session that run after ST_ACCEPTED, or are admitted and may (R136). -/
def State.longOf (s : State) (x : Session) : Nat :=
  x.running + (s.outst.filter (fun (o : Outst) => o.admitted && o.long && o.reply.isNone && decide (o.origin.session = x.id))).length

/-- SAFETY requests of a source admitted in the last millisecond (R126). -/
def State.safetyCount (s : State) (b : Binding) : Nat :=
  (s.safetyAdmits.filter (fun p => decide (p.1 = b) && decide (s.now < p.2 + ms))).length

/-- The checks of R102 in their order, up to the opcode's own parameters; a request admitted again after a failover is not counted
against itself (R167). -/
def State.checks (s : State) (a : Arrival) (body : Body) (again : Bool) : Status :=
  let h := a.hdr
  let x := s.sessionAt a.binding
  if h.version ≠ 2 then .incompatible
  else if h.rsv || decide (h.paramLen > 4032) || decide (h.packetLen ≠ 36 + up4 h.paramLen) || decide (h.queue ≠ a.queue)
      || !queueOk a.binding a.queue then .badParam
  else match body.op with
    | none => if x.isNone && a.binding.cls.isHost then .noSession else .badParam
    | some op =>
      if x.isNone && a.binding.cls.isHost && decide (op ≠ .negotiate ∧ op ≠ .hello) then .noSession
      else if !again && (s.outstandingOn a.binding a.queue).any (fun o => o.origin.tag = h.tag) then .badParam
      else match s.checkPresence (if a.binding.cls.isHost then x else none) h.object
          (opFeatures op ++ ((namedProp h body).bind propFeature).toList) with
        | .ok =>
          if !s.permitted a.binding op then .denied
          else if h.safety && (!op.info.safety || decide (h.condCsn ≠ 0) || decide (h.deadline ≠ 0)) then .badParam
          else if h.force && !definesForce op then .badParam
          else if (classOf a.binding a.queue h.safety op).isNone then .badParam
          else if decide (h.condCsn ≠ 0) && x.any (fun x => !x.features.testBit (featureBit .conditionCsn)) then .notNegotiated
          else if again then .ok
          else if (match queueLimit a.binding with
              | some l => decide (l ≤ (s.outstandingOn a.binding a.queue).length)
              | none => false) then .busy
          else if longRequest op h && x.any (fun (x : Session) => decide (64 ≤ s.longOf x)) then .busy
          else if h.safety && decide (a.binding ≠ Binding.firmware) && decide (s.getN .safetyRate ≤ s.safetyCount a.binding) then .busy
          else match body with
            | .malformed _ => .badParam
            | _ => .ok
        | st => st

/-- The admission procedure (R102): its checks, and last the opcode's parameters, as the opcode's chapter refuses them (`eff` is the
opcode's effect). -/
def State.admission (s : State) (a : Arrival) (body : Body) (eff : State → State × Res) (again : Bool := false) : Status :=
  match s.checks a body again with
  | .ok => ((eff s).2.fault).getD .ok
  | st => st

/-- The origin of a request that arrives. -/
def State.newOrigin (s : State) (a : Arrival) (op : Op) : Origin :=
  { binding := a.binding, queue := a.queue, tag := a.hdr.tag, op, object := a.hdr.object,
    session := (match s.sessionAt a.binding with | some x => x.id | none => 0)
    safety := a.hdr.safety, idempotent := a.hdr.idempotent, id := s.varN .admitted + 1 }

/-- The origin of an admitted request: what it was when the request arrived. -/
def State.originOf (s : State) (a : Arrival) (op : Op) : Origin :=
  match s.outst.find? (fun (o : Outst) => decide (o.origin.binding = a.binding) && decide (o.origin.queue = a.queue)
      && decide (o.origin.tag = a.hdr.tag) && decide (o.origin.op = op) && o.admitted && o.reply.isNone) with
  | some o => o.origin
  | none => s.newOrigin a op

/-- A request takes its place in its queue's order (R109); an admitted one also in its session's RECALL window (R122). -/
def State.enrol (s : State) (a : Arrival) (o : Origin) (opcode : Nat) (reply : Option Reply) : State :=
  let e : Outst := { origin := o, opcode, slot := a.slot, replySize := a.replySize, wantsReply := a.hdr.replyRequired,
                     safety := a.hdr.safety, reply, admitted := reply.isNone, paramLen := a.hdr.paramLen
                     long := longRequest o.op a.hdr, noWrite := a.noWrite }
  let s := { s with outst := s.outst ++ [e] }
  if reply.isSome then s
  else (s.countV .admitted 0).modSession o.session (fun x => { x with
    recent := (({ port := a.binding.port, queue := a.queue, tag := a.hdr.tag, phase := 1, status := 0, csn := 0, id := o.id } : Recent)
      :: x.recent).take 1024 })

/-- A refused request is answered without effect; COMMIT_CSN is the global commit CSN (R103). It was not executed in the SAFETY
class (Table 3.4). -/
def State.refuse (s : State) (a : Arrival) (body : Body) (st : Status) : State :=
  let o := s.newOrigin a (match body.op with | some op => op | none => .getProp)
  let r : Reply :=
    { opcode := body.opcode, tag := a.hdr.tag, queue := a.queue, object := a.hdr.object, status := st.code,
      results := if st = .internal then [u32 (0x02C00000 + s.journal.committed % 65536 : Nat)] else []
      commitCsn := s.journal.committed, doneTime := s.now, final := true, safety := false }
  (s.enrol a o body.opcode (some r)).flush

/-- Any request feeds its session's timeout (R121). -/
def State.feedSession (s : State) (b : Binding) : State :=
  match s.sessionAt b with
  | some x => s.arm .sessionIdle x.id (s.getN .sessionTimeout * sec)
  | none => s

/-- A SAFETY request that the rate limit refuses is reported at most once a second for a source (R126). -/
def State.noteSafetyRate (s : State) (a : Arrival) (st : Status) : State :=
  let b := a.binding
  if st = .busy && a.hdr.safety && decide (s.getN .safetyRate ≤ s.safetyCount b)
      && !s.safetyLimited.any (fun x => decide (x.1 = b) && decide (s.now < x.2 + sec)) then
    ({ s with safetyLimited := s.safetyLimited.filter (fun x => decide (x.1 ≠ b)) ++ [(b, s.now)] } : State).raise .safetyRateLimited
      (oHostPort b.port) [b.cls.code, b.port, a.queue]
  else s

/-! ### Dispatch (R125, R130–R133) -/

/-- Dispatch waits: the journal has stalled or a handover is under way (R155, R170), or 512 entries are sent and not
yet committed (Table 4.4). -/
def State.dispatchHeld (s : State) : Bool :=
  s.journal.stalled || decide (512 ≤ s.journal.assigned - s.journal.committed)

/-- A change waits for the commit of the change before it, so that each acts on the state the earlier one left (R134); SAFETY
requests and reads do not. That changes are not overlapped is the model's choice (log entry 237). -/
def State.mustWait (s : State) (op : Op) (safety : Bool) : Bool := op.info.changes && !safety && !s.unapplied.isEmpty

/-- An MCTP request's final outcome is due 80 ms after its dispatch (R117). -/
def State.noteDispatch (s : State) (o : Origin) : State :=
  match o.binding with
  | .vdm _ | .smbus _ => { s with outst := s.outst.map (fun x =>
      if x.origin = o ∧ x.reply = none then { x with dueMctp := some (s.now + 80 * ms) } else x) }
  | _ => s

/-- The opcodes whose chapter says what they do on an object that a running command holds (R134): sequences and furls
(R253, R257, R458, R461), the loads and stage commands of their own holder (R378, R534, R693, R694), and ETCH and ACTIVATE, which wait
for what they need (R129). -/
def meetsHold : Op → Bool
  | .startSequence | .stopSequence | .disableRail | .furl | .loadModel | .loadProgram | .openStage | .writeStage
  | .verifyStage | .etch | .activate => true
  | _ => false

/-- The resources a request takes, in the order of R129: ETCH the stage and its plate, ACTIVATE the stage (R696, R703). -/
def needs (op : Op) (h : Header) : List ObjId :=
  match op with
  | .etch => if h.property = 1 then [oStage] else [oStage, h.object]
  | .activate => [oStage]
  | _ => []

/-- No other command holds an object. -/
def State.freeFor (s : State) (o : Origin) (x : ObjId) : Bool := !s.holds.any (fun h => h.2 = x && h.1 ≠ o)

/-- A command waits for what it needs, and holds what it obtained so far (R129). -/
def State.awaitNeeds (s : State) (a : Arrival) (body : Body) (o : Origin) : State :=
  { s.hold o ((needs o.op a.hdr).takeWhile (s.freeFor o)) with resWaits := s.resWaits ++ [{ arr := a, body, origin := o, since := s.now }] }

/-- The objects whose properties differ between two states. -/
def changedObjects (s t : State) : List ObjId :=
  P.all.flatMap (fun p =>
    let x := s.regs.get {} p.ctorIdx
    let y := t.regs.get {} p.ctorIdx
    if x = y then []
    else ((x.entries.map (·.1)) ++ (y.entries.map (·.1))).filterMap (fun i =>
      if x.get (p.dfltAt i) i = y.get (p.dfltAt i) i then none
      else if p.desc.cls = 7 ∧ 16 ≤ i then some (obj 8 (i - 16))
      else if p = .ecHold ∨ p = .ecHoldLimit then some (obj 16 1023)
      else if p.desc.cls = 16 then some (obj 16 (i / 3))
      else some (obj p.desc.cls i)))

/-- LAST_CSN of the object a request names and of every object whose properties its effect changed (R131). -/
def State.touched (s u : State) (o : Origin) (csn : Nat) : State :=
  (changedObjects u s).foldl (fun s x => s.touch x csn) (s.touch o.object csn)

/-- A request's outcome becomes its reply (R97, R103, R135): the answer, the interim answer of a long-running command, or nothing
yet. -/
def State.outcome (s : State) (o : Origin) (r : Res) (csn : Nat) : State :=
  match r with
  | .done st rs => (s.answer o st rs csn).recommit
  | .accepted rs =>
    let s := { s with running := s.running ++ [o] }
    let s := s.modSession o.session (fun x => { x with running := x.running + 1 })
    (s.answer o .accepted rs csn false).recommit
  | .later =>
    (if s.outst.any (fun x => decide (x.origin = o) && x.reply.isNone) then s.noteRecent o 2 0 (s.recallCsn o csn) else s).recommit

/-- What follows the effect of a request with origin `o` (R130, R131, R133, R164). `u` is the state the effect acted on: for a change it
ends with the request's own entry, whose CSN the reply carries; a SAFETY request acted first and is journaled now, by the SAFETY entry of its action or one of its own; a read carries the CSN
it read at. -/
def State.conclude (s u : State) (o : Origin) (r : Res) : State :=
  if !(o.op.info.changes && r.commits) then s.outcome o r u.journal.committed
  else if o.safety then
    let told := s.journal.entries.any (fun e => decide (u.journal.assigned < e.csn) && decide (e.kind = .safety))
    let s := (if told then s else s.journalSafety o.object o.op.info.code).journalCommand o none
    (s.touched u o s.journal.assigned).outcome o r s.journal.assigned
  else (s.touched u o u.journal.assigned).outcome o r u.journal.assigned

/-- Whether every entry is committed. -/
def State.allCommitted (s : State) : Bool := decide (s.journal.assigned ≤ s.journal.committed)

/-- The state a request's effect acts on: for a change that is no SAFETY request, with its COMMAND entry (R130, R154). -/
def State.entered (s : State) (o : Origin) (b : Body) : State :=
  if o.op.info.changes && !o.safety then s.journalCommand o (some b) else s

/-- A dispatched request runs: DEADLINE, COND_CSN, the resources it needs, its entry, and once that is committed its effect (R130–R132, R154). Where the
followers, or the NAND in SOLO, have yet to hold the entry, the effect waits for them. `eff` is the opcode's effect. -/
def State.run (s : State) (a : Arrival) (body : Body) (o : Origin) (eff : State → State × Res) : State :=
  let h := a.hdr
  if s.journal.lost then s.answer o .internal [u32 (0x02C00000 + s.journal.committed % 65536 : Nat)] s.journal.committed
  else if s.nandLost ∧ o.op.info.changes ∧ (s.membership = 1 ∨ s.membership = 4) then
    s.answer o .internal [u32 0x07C00000] s.journal.committed
  else if h.deadline ≠ 0 ∧ h.deadline ≤ s.now then s.answer o .deadlinePassed [] s.journal.committed
  else if h.condCsn ≠ 0 ∧ h.condCsn < s.lastCsnOf h.object then s.answer o .conditionFailed [] s.journal.committed
  else if o.op.info.changes && !meetsHold o.op && s.isHeld h.object then s.answer o .busy [] s.journal.committed
  else if !(needs o.op h).all (s.freeFor o) then s.awaitNeeds a body o
  else
    let s := s.noteDispatch o
    let u := s.entered o body
    let x := eff u
    if o.op.info.changes && !o.safety && !x.2.commits then s.outcome o x.2 s.journal.committed
    else if o.op.info.changes && !o.safety && !u.allCommitted then { u with unapplied := u.unapplied ++ [⟨u.journal.assigned, a, body, o⟩] }
    else x.1.conclude u o x.2

/-- A request that repeats a committed one without a reported final outcome within 10 s of a failover is attached to it (R169): to
its outcome, or, where that command runs on, to its acceptance. -/
def State.attach (s : State) (a : Arrival) (o : Origin) : Option State :=
  let same (x : Origin) : Bool := decide (x.session = o.session) && decide (x.queue = o.queue) && decide (x.tag = o.tag)
    && decide (x.op = o.op) && decide (x.object = o.object)
  let here (x : Outst) : Outst := { x with via := some a.binding, slot := a.slot, replySize := a.replySize, wantsReply := a.hdr.replyRequired }
  if s.var .failoverAt < 0 ∨ s.varN .failoverAt + 10 * sec < s.now ∨ o.session = 0 then none
  else match s.orphans.find? (fun (x : Outst) => same x.origin) with
  | some x => some ({ s with orphans := s.orphans.erase x, outst := s.outst ++ [here x] } : State).flush
  | none =>
    match s.outst.find? (fun (x : Outst) => x.admitted && same x.origin && decide (s.csnOf x.origin ≠ 0)) with
    | some x => some ({ s with outst := s.outst ++ [here x] } : State).flush
    | none =>
    match s.running.find? same with
    | some r =>
      let csn := s.csnOf r
      let e : Outst := { origin := r, opcode := o.op.info.code, slot := a.slot, replySize := a.replySize, wantsReply := a.hdr.replyRequired
                         safety := a.hdr.safety, via := some a.binding
                         reply := some { opcode := o.op.info.code, tag := o.tag, queue := o.queue, object := o.object
                                         status := Status.accepted.code, results := [], commitCsn := csn, doneTime := s.now
                                         final := false, safety := a.hdr.safety } }
      some ({ s with outst := s.outst ++ [e] } : State).flush
    | none => none

/-! ### Arrival (R101, R102) -/

/-- A packet whose CRC fails is counted, and reported at most once a second for a port (R101). -/
def State.crcError (s : State) (port : Nat) : State :=
  let s := s.count .crcErrors port
  if s.var .eventAt port < 0 ∨ s.var .eventAt port + sec ≤ s.now then
    (s.setV .eventAt port s.now).raise .packetCrc (oHostPort port) [port, s.get .crcErrors port]
  else s

/-- The HOST_PORT a binding belongs to, if it belongs to one (Table 1.10). -/
def hostPort : Binding → Option Nat
  | .ring e | .vdm e => some e.val
  | .smbus k => some (2 + k.val)
  | .eth p _ => some (4 + p.val)
  | _ => none

/-- A completion entry with NO_REPLY and ST_BAD_PARAM, in its queue's order (R101, R113). -/
def State.muteCompletion (s : State) (ep : Fin 2) (q slot : Nat) : State :=
  let r : Reply := { opcode := 0, tag := 0, queue := q, object := 0, status := Status.badParam.code, results := []
                     commitCsn := s.journal.committed, doneTime := s.now, final := true, safety := false }
  let o : Outst := { origin := { binding := .ring ep, queue := q }, opcode := 0, slot, replySize := 0
                     wantsReply := false, safety := false, mute := true, reply := some r, admitted := false }
  State.flush { s with outst := s.outst ++ [o] }

/-- What follows a packet whose CRC fails (Table 3.5): a ring's slot is completed with ST_BAD_PARAM and NO_REPLY; every other
packet is discarded. -/
def State.crcDiscard (s : State) (b : Binding) (queue slot : Nat) : State :=
  let s := match hostPort b with | some h => s.crcError h | none => s
  match b with
  | .ring ep => s.muteCompletion ep queue slot
  | _ => s

/-- An injection point corrupts the next packet a HOST_PORT receives (Table 19.1). -/
def State.packetCut (s : State) (b : Binding) : Option Nat :=
  match hostPort b with
  | some h => if s.acts (0x250 + h) then some h else none
  | none => none

/-- An admitted SAFETY request counts against its source's rate (R126). -/
def State.noteSafety (s : State) (b : Binding) : State :=
  { s with safetyAdmits := s.safetyAdmits.filter (fun p => decide (s.now < p.2 + ms)) ++ [(b, s.now)] }

/-- A request arrives (R102): unserved bindings are deaf; a refused request is answered; an admitted one joins its
queue's order and answers its origin and class. After the loss of a committed entry every request is answered
ST_INTERNAL (R157). -/
def State.take (s : State) (a : Arrival) (body : Body) (eff : State → State × Res) : State × Option (Origin × CmdClass) :=
  let s := s.tick a.t
  if !s.servedOn a.binding then (s, none)
  else match s.packetCut a.binding with
  | some h => ((s.spend (0x250 + h)).crcDiscard a.binding a.queue a.slot, none)
  | none =>
    let s := s.feedSession a.binding
    match (if s.journal.lost then .internal else s.admission a body eff), body.op with
    | .ok, some op =>
      let o := s.newOrigin a op
      match s.attach a o with
      | some s => (s, none)
      | none =>
      let s := (s.enrol a o body.opcode none).when a.hdr.safety (fun s => s.noteSafety a.binding)
      (s, some (o, (classOf a.binding a.queue a.hdr.safety op).getD .bulk))
    | st, _ => ((s.noteSafetyRate a st).refuse a body st, none)

/-- An admitted request waits at the leader (R125). -/
def State.enqueue (s : State) (a : Arrival) (body : Body) (cls : CmdClass) : State :=
  { s with waiting := s.waiting ++ [{ arr := a, body, cls, since := s.now, cap := s.getN .ageCap, weights := s.getN .arbWeights }] }

/-- An admitted request cannot be dispatched at once: dispatch is held, a request waits before it (for a SAFETY request: a SAFETY
request), or a change is not yet committed. -/
def State.queues (s : State) (o : Origin) (cls : CmdClass) : Bool :=
  s.dispatchHeld || s.mustWait o.op o.safety || s.waiting.any (fun w => decide (cls ≠ .safety) || decide (w.cls = .safety))

/-- A request arrives, and runs at once where nothing holds it; else it waits its turn (R125, R127). -/
def State.request (s : State) (a : Arrival) (body : Body) (eff : State → State × Res) : State :=
  match s.take a body eff with
  | (s, none) => s
  | (s, some (o, cls)) => if s.queues o cls then s.enqueue a body cls else s.run a body o eff

/-- A request arrives and waits at the leader for its dispatch (R125). -/
def State.arrive (s : State) (a : Arrival) (body : Body) (eff : State → State × Res) : State :=
  match s.take a body eff with
  | (s, none) => s
  | (s, some (_, cls)) => s.enqueue a body cls

end Sys2Proof.Machine
end

