-- ==== Sys2Proof/Machine/BusBase.lean ====
section
/-! DEFINITION. Controller ports of the two-wire buses: the owners' queues, holds and transactions, recovery and isolation
(R607–R623, R630, R631). -/

namespace Sys2Proof.Machine

/-! ### A port and its configuration (Tables 15.5, 15.8) -/

def State.bus (s : State) (p : Nat) : BusSt := s.buses.get {} p
def State.modBus (s : State) (p : Nat) (f : BusSt → BusSt) : State := { s with buses := s.buses.put {} p (f (s.bus p)) }

/-- The tile of a BUS object (Table 1.4). -/
def busTile (p : Nat) : Nat := if p < 16 ∨ p = 32 then 0 else 1

/-- A field of the configuration block in force, by its offset and size. -/
def State.busField (s : State) (p off size : Nat) : Nat := s.getN .busConfig p / 256 ^ off % 256 ^ size

def State.busMode (s : State) (p : Nat) : Nat := s.busField p 0 1
def State.holdLimit (s : State) (p : Nat) : Ns := s.busField p 6 2 * ms
def State.busRetries (s : State) (p : Nat) : Nat := s.busField p 8 1
def State.queueWait (s : State) (p : Nat) : Ns := s.busField p 0x0A 2 * ms
def State.ageBus (s : State) (p : Nat) : Ns := s.busField p 0x0C 2 * ms

def busOff : Nat := 0
def busIdle : Nat := 1
def busBusy : Nat := 2
def busForeign : Nat := 3
def busRecovering : Nat := 4
def busFailed : Nat := 5

/-- PORT_STATE bits 3:0, and the isolation switch (bit 8). -/
def State.portState (s : State) (p : Nat) : Nat := s.getN .busPortState p % 16
def State.switchOpen (s : State) (p : Nat) : Bool := (s.getN .busPortState p).testBit 8

/-- A port enters a state; entry to and exit from RECOVERING and FAILED are reported, and FAILED retries every second. -/
def State.setPort (s : State) (p new : Nat) : State :=
  let old := s.portState p
  let open_ : Nat := if s.switchOpen p then 1 else 0
  let s := s.put .busPortState p (new + 256 * open_ : Nat)
  let s := if new = busFailed then s.arm .busRetry p sec else s.disarm .busRetry p
  if old ≠ new ∧ (4 ≤ old ∨ 4 ≤ new) then s.raise .busPortState (oBus p) [p, old, new, open_] else s

/-- The isolation switch opens or closes (R607, Table 15.12). -/
def State.setSwitch (s : State) (p : Nat) (open_ : Bool) (cause : Nat) : State :=
  if s.switchOpen p = open_ then s
  else (s.put .busPortState p (s.portState p + (if open_ then 256 else 0) : Nat)).raise .busIsolation (oBus p)
    [p, if open_ then 0 else 1, cause]

/-- QUEUED (Table 15.11). -/
def State.countQueued (s : State) (p : Nat) : State :=
  let n (k : Nat) : Nat := min 255 ((s.bus p).queue.filter (fun r => r.owner = k)).length
  s.put .queued p (n 0 * 65536 + n 1 * 256 + n 2 : Nat)

/-- The owner class of a binding (R614). -/
def busOwner (b : Binding) : Nat := match b.cls with | .firmware => 0 | .burin => 1 | _ => 2

/-! ### Declared devices (Table 5.1) -/

/-- The declared device of a port at an address. -/
def State.device (s : State) (p addr : Nat) : Option BusDevice :=
  s.td.bind (fun d => d.devices.find? (fun x => x.port = p ∧ x.addr = addr))

/-- A device acknowledges: it arrives. -/
def State.deviceAcked (s : State) (p addr : Nat) : State :=
  if (s.device p addr).isSome ∧ !s.flag .devSeen (1024 * p + addr) then
    (s.setV .devSeen (1024 * p + addr) 1).raise .partnerArrived (oBus p) [3, p, oBus p, 0]
  else s

/-- A device departs. -/
def State.deviceGone (s : State) (d : BusDevice) (cause : Nat) : State :=
  let i := 1024 * d.port + d.addr
  if s.flag .devSeen i then
    ((s.setV .devSeen i 0).setV .devFails i 0).raise .partnerDeparted (oBus d.port) [3, cause, oBus d.port, d.action]
  else s

/-- A transaction of mainline firmware ends at a device: three failures in a row make it depart. -/
def State.deviceTried (s : State) (p addr : Nat) (failed : Bool) : State :=
  let i := 1024 * p + addr
  match s.device p addr with
  | some d =>
    if !failed then s.setV .devFails i 0
    else
      let s := s.countV .devFails i
      if 3 ≤ s.var .devFails i then s.deviceGone d 5 else s
  | none => s

/-! ### PMBus values (R630, R631) -/

/-- Two's complement of the low `n` bits. -/
def signed (n v : Nat) : Int := if v % 2 ^ n < 2 ^ (n - 1) then (v % 2 ^ n : Nat) else (v % 2 ^ n : Nat) - (2 ^ n : Nat)

/-- Round to the nearest integer, halves away from zero. -/
def roundHalfAway (x : Rat) : Int := if 0 ≤ x then (x + 1 / 2).floor else -((-x + 1 / 2).floor)

/-- 2^n for a signed exponent. -/
def twoTo (n : Int) : Rat := if 0 ≤ n then ((2 ^ n.toNat : Nat) : Rat) else 1 / ((2 ^ (-n).toNat : Nat) : Rat)
/-- 10^n for a signed exponent. -/
def tenTo (n : Int) : Rat := if 0 ≤ n then ((10 ^ n.toNat : Nat) : Rat) else 1 / ((10 ^ (-n).toNat : Nat) : Rat)

def linear11 (w : Nat) : Rat := ((signed 11 w : Int) : Rat) * twoTo (signed 5 (w / 2048))
def linear16 (w mode : Nat) : Rat := ((w : Nat) : Rat) * twoTo (signed 5 mode)

/-- Direct, with m, b and R; none where m is 0. -/
def direct (w : Nat) (c : Int × Int × Int) : Option Rat :=
  if c.1 = 0 then none else some ((((signed 16 w : Int) : Rat) * tenTo (-c.2.2) - ((c.2.1 : Int) : Rat)) / ((c.1 : Int) : Rat))

/-- The PMBus command of a code in a request, and the bytes it reads (Table 15.7). -/
def pmCommand : Nat → Option (Nat × Nat)
  | 0 => some (0x8B, 2) | 1 => some (0x8C, 2) | 2 => some (0x96, 2) | 3 => some (0x8D, 2) | 4 => some (0x8E, 2)
  | 5 => some (0x78, 1) | 6 => some (0x79, 2) | _ => none

/-- The value of a PMBus read in the unit of Table 15.7; none: ST_BUS_FORMAT. `mode` is VOUT_MODE. -/
def pmValue (d : Option BusDevice) (code w mode : Nat) : Option Int :=
  let coeffs := d.bind (fun x => (x.coeffs.find? (fun c => c.1 = code)).map (·.2))
  let unit : Rat := if code = 0 then 1000000 else 1000
  if 5 ≤ code then some (w : Nat)
  else
    let x : Option Rat :=
      if code = 0 then (match mode / 32 with | 0 => some (linear16 w mode) | 2 => coeffs.bind (direct w) | _ => none)
      else match coeffs with | some c => direct w c | none => some (linear11 w)
    match x with
    | some r =>
      let v := roundHalfAway (r * unit)
      if v < -2147483648 ∨ 2147483647 < v then none else some v
    | none => none

/-! ### Outcomes (R615, R617) -/

/-- The result block of BUS_TRANSFER. -/
def transferResults (ended : Nat) (failed : Nat) (reads : List (List Nat)) : List Fld :=
  [u8 ended, u8 failed, rsv 2] ++ reads.flatMap (fun r =>
    [u16 r.length, rsv 2] ++ r.map (fun (b : Nat) => u8 b) ++ (if r.length % 4 = 0 then [] else [rsv (4 - r.length % 4)]))

/-- The outcome of a PMBus read that ran. -/
def pmResults (d : Option BusDevice) (code : Nat) (vout : Bool) (reads : List (List Nat)) : Status × List Fld :=
  let mode := if vout then leValue (reads.headD []) else 0
  let w := leValue (reads.getLastD [])
  match pmValue d code w mode with
  | some v => (.ok, [⟨4, v⟩, u16 w, u8 mode, rsv 1])
  | none => (.busFormat, [])

/-- A command ends with its own CSN. -/
def State.busAnswer (s : State) (o : Origin) (csn : Nat) (st : Status) (results : List Fld) (detail : Int := 0) : State :=
  if o ∈ s.running then s.complete o .commandDone st [] detail else ((s.unhold o).endApply o st).answer o st results csn

/-- A request of a port ends: `ended` transactions were completed, `failed` is the segment that failed (0xFF none). -/
def State.busDone (s : State) (p : Nat) (r : BusReq) (st : Status) (ended failed : Nat) (reads : List (List Nat)) : State :=
  match r.work, r.origin with
  | .relay x, _ => { s with relayDone := s.relayDone ++ [{ relay := x, status := st, reads }] }
  | .pmRead addr code vout, some o =>
    let x := if st = .ok then pmResults (s.device p addr) code vout reads else (st, [])
    s.busAnswer o r.csn x.1 x.2
  | w, some o => s.busAnswer o r.csn st (if w = .transfer then transferResults ended failed reads else [])
  | _, none => s

/-! ### Transactions (R614–R619) -/

/-- The transaction a hold is at, and the index of its first segment among all. -/
def BusSt.txn (b : BusSt) : List BusSeg := match b.hold with | some r => r.txns.getD b.index [] | none => []
def BusSt.firstSeg (b : BusSt) : Nat := match b.hold with | some r => ((r.txns.take b.index).map (·.length)).sum | none => 0

/-- The default frequency of a speed in kHz, and its times in ns: tLOW, tHIGH, tHD;STA, tSU;STA, tSU;STO, tBUF, tHD;DAT and tSU;DAT
(Table 15.2). -/
def speedTimes : Nat → Nat × List Nat
  | 0 => (100, [4800, 4200, 4200, 5000, 4200, 5000, 300, 4500])
  | 1 => (400, [1400, 800, 800, 800, 800, 1400, 300, 1100])
  | _ => (1000, [560, 320, 320, 320, 320, 560, 120, 440])

/-- The times of a port in ns (R610): where SCL_KHZ is below the default, tLOW and tHIGH are scaled and rounded up to 20 ns. -/
def State.busTimes (s : State) (p : Nat) : List Nat :=
  let x := speedTimes (s.busField p 1 1)
  let khz := s.busField p 2 2
  let scaled (v : Nat) : Nat := if khz = 0 ∨ x.1 ≤ khz then v else (v * x.1 + khz * 20 - 1) / (khz * 20) * 20
  (x.2.take 2).map scaled ++ x.2.drop 2

/-- The port sends START and runs the transaction with its times; while its two-wire island is held in reset it waits for it (R85). -/
def State.startTxn (s : State) (p : Nat) : State :=
  if s.flag .islandDown (16 * s.tileFor (busTile p) + 9) then s
  else
  let fields := (s.busTimes p).map (fun (v : Nat) => (v : Int)) ++ (s.bus p).txn.flatMap (fun (x : BusSeg) => [(x.addr : Int), if x.ten then 1 else 0, if x.read then 1 else 0, if x.pec then 1 else 0,
    if x.block then 1 else 0, x.len] ++ x.data.map (fun (b : Nat) => (b : Int)))
  ((s.modBus p (fun b => { b with paused := false })).setPort p busBusy).send (.bus p 0 fields)

/-- The transactions that waited for the two-wire island of a tile start. -/
def State.startWaiting (s : State) (t : Nat) : State :=
  s.each ((List.range 34).filter (fun p => decide (s.tileFor (busTile p) = t) && (s.bus p).hold.isSome && !(s.bus p).paused && decide (s.portState p = busIdle)))
    State.startTxn

/-- A BUS_RECOVER that waits acts on the switch; sub-functions 0 and 2 then ask for a recovery (R634), before whose first clock
APPLY_BEGIN is written (R617). -/
def State.actRec (s : State) (p : Nat) : State :=
  let l := (s.bus p).recCmds.filter (fun c => !c.acted)
  let s := s.modBus p (fun b => { b with recCmds := b.recCmds.map (fun (c : RecCmd) => { c with acted := true })
                                         look := b.look || l.any (fun c => c.kind ≠ 1) })
  s.each l (fun s c =>
    if c.kind = 1 then s.setSwitch p true 1
    else
      let s := s.beginApply c.origin
      if c.kind = 2 then s.setSwitch p false 1 else s)

/-- The BUS_RECOVERs that waited end: the port is IDLE or FAILED. -/
def State.endRec (s : State) (p : Nat) (st : Status) : State :=
  let l := (s.bus p).recCmds.filter (fun c => c.acted)
  let s := s.modBus p (fun b => { b with recCmds := b.recCmds.filter (fun c => !c.acted) })
  s.each l (fun s c => s.busAnswer c.origin c.csn st [])

/-- A configuration that waits takes effect: the bus is free, and no hold runs (R633). -/
def State.applyConfig (s : State) (p : Nat) : State :=
  match (s.bus p).config with
  | some n => (s.put .busConfig p n).modBus p (fun b => { b with config := none })
  | none => s

/-- The port is IDLE between holds: what waited for that is done, unless a recovery comes first. -/
def State.portIdle (s : State) (p : Nat) : State :=
  let s := ((s.setPort p busIdle).applyConfig p).actRec p
  if (s.bus p).look then s else s.endRec p .ok

/-- A hold ends; the port's own STOP leaves the bus free, or `next` holds. -/
def State.endHold (s : State) (p : Nat) (st : Status) (failed next : Nat) : State :=
  let b := s.bus p
  match b.hold with
  | some r =>
    let s := s.modBus p (fun b => { b with hold := none, index := 0, tries := 0, reads := [], paused := false })
    let s := if next = busIdle then s.portIdle p else (s.setPort p next).actRec p
    s.busDone p r st b.index failed b.reads
  | none => s

/-- The reads of a transaction, cut or filled to their lengths; none: a block count of 0 or above 255, at that segment. -/
def fitReads : List BusSeg → List (List Nat) → Nat → Except Nat (List (List Nat))
  | [], _, _ => .ok []
  | x :: xs, rs, k =>
    if x.read then
      let r := rs.headD []
      let got := if x.block then r else (r ++ List.replicate x.len 0xFF).take x.len
      if x.block ∧ (r.length = 0 ∨ 255 < r.length) then .error k
      else match fitReads xs rs.tail (k + 1) with
        | .ok l => .ok (got :: l)
        | .error e => .error e
    else fitReads xs rs (k + 1)

/-- Every device a transaction addressed acknowledged; mainline firmware's counts. -/
def State.txnAcked (s : State) (p : Nat) (l : List BusSeg) : State :=
  let own := (s.bus p).hold.any (fun r => r.owner = 0)
  s.each (l.map (·.addr)).eraseDups (fun s a => (if own then s.deviceTried p a false else s).deviceAcked p a)

/-- The devices addressed before the segment at which a transaction fails acknowledged. For the device it fails at this counts
towards its arrival alone. -/
def State.txnBefore (s : State) (p : Nat) (l : List BusSeg) (seg : Nat) : State :=
  let at_ := (l[seg]?.map (·.addr)).getD 0
  let l := l.take seg
  (s.txnAcked p (l.filter (fun x => x.addr ≠ at_))).when (l.any (fun x => x.addr = at_)) (fun s => s.deviceAcked p at_)

/-- A transaction ends well (R616). -/
def State.txnOk (s : State) (p : Nat) (reads : List (List Nat)) : State :=
  let b := s.bus p
  match b.hold with
  | none => s
  | some r =>
    let s := s.txnAcked p b.txn
    match fitReads b.txn reads 0 with
    | .error k => s.endHold p .busBlockCount (b.firstSeg + k) busIdle
    | .ok l =>
      let s := s.modBus p (fun b => { b with index := b.index + 1, tries := 0, reads := b.reads ++ l })
      if r.txns.length ≤ b.index + 1 then s.endHold p .ok 0xFF busIdle
      else if b.holdSince + s.holdLimit p ≤ s.now ∧ !b.queue.isEmpty then s.endHold p .busPreempted 0xFF busIdle
      else
        let s := s.actRec p
        if (s.bus p).look then s.modBus p (fun b => { b with paused := true }) else s.startTxn p

/-- A transaction fails (R618): it is retried once the bus is free, or ends its hold. -/
def State.txnFails (s : State) (p : Nat) (st : Status) (seg : Nat) (retried : Bool) (next : Nat) : State :=
  let b := s.bus p
  match b.hold with
  | none => s
  | some r =>
    let s := (s.actRec p)
    if retried ∧ b.tries < r.retries ∧ !b.txn.any (fun x => !x.read && x.noRetry) then
      s.modBus p (fun b => { b with tries := b.tries + 1, paused := true })
    else s.endHold p st (b.firstSeg + seg) next

/-! ### The bus is free, or is not (R612, R620–R623) -/

/-- The bus is free: a recovery has nothing to do, and what waited runs on. -/
def State.busFree (s : State) (p : Nat) : State :=
  let s := (s.modBus p (fun b => { b with look := false })).disarm .sclStuck p
  let s := s.actRec p |>.modBus p (fun b => { b with look := false })
  let s := s.endRec p .ok
  if (s.bus p).hold.isSome then s.startTxn p else s.portIdle p

/-- The port is FAILED: every request on it ends (Table 15.5). -/
def State.failPort (s : State) (p : Nat) : State :=
  let b := s.bus p
  let s := (s.modBus p (fun b => { b with look := false, queue := [], hold := none, index := 0, tries := 0, reads := [], paused := false })).disarm
    .sclStuck p
  let s := ((s.setPort p busFailed).actRec p).modBus p (fun b => { b with look := false })
  let s := s.endRec p .busStuck
  let s : State := match b.hold with | some r => s.busDone p r .busStuck b.index 0xFF b.reads | none => s
  (s.each b.queue (fun s r => s.busDone p r .busStuck 0 0xFF [])).countQueued p

/-- The devices of a port with a mapped reset line. -/
def State.resetLines (s : State) (p : Nat) : List BusDevice :=
  match s.td with
  | some d => d.devices.filter (fun x => x.port = p ∧ x.reset.isSome)
  | none => []

/-- A reset line is pulsed. -/
def State.pulse (s : State) (p : Nat) (d : BusDevice) : State := s.send (.bus p 1 [((d.reset.getD 0 : Nat) : Int), d.pulse])

/-- Recovery of a held SDA (R622): `clocked`, `pulsed`, `near` say whether SDA is high after the clocks of the first pass, after
those that follow the reset pulse, and after those on the near segment. -/
def State.recoverSda (s : State) (p : Nat) (clocked pulsed near : Bool) : State :=
  let s := ((s.count .recoveries p).setPort p busRecovering)
  if clocked then s.busFree p
  else
    let isolate (s : State) : State :=
      let s := s.setSwitch p true 0
      if near then s.busFree p else s.failPort p
    match s.resetLines p with
    | d :: _ =>
      let s := (s.raise .busStuckSda (oBus p) [p, 1, d.addr]).pulse p d
      if pulsed then s.busFree p else isolate s
    | [] => isolate (s.raise .busStuckSda (oBus p) [p, 2, 0xFFFF])

/-- A held SCL (R623): `pulsed`, `near` as above; `low` is how long it has been low, in ms. -/
def State.recoverScl (s : State) (p low : Nat) (pulsed near : Bool) : State :=
  let s := ((s.count .recoveries p).setPort p busRecovering).disarm .sclStuck p
  let l := s.resetLines p
  let s := s.raise .busStuckScl (oBus p) [p, if l.isEmpty then 2 else 1, low]
  let s := s.each l (fun s d => s.pulse p d)
  if !l.isEmpty ∧ pulsed then s.busFree p
  else
    let s := s.setSwitch p true 0
    if near then s.busFree p else s.failPort p

/-! ### A tile's ports (R607, R617) -/

/-- The ports of a tile that comes into service: the bus free check follows, and each device's next acknowledge is its first
after the bring-up (Table 5.1). -/
def State.busUp (s : State) (t : Nat) : State :=
  let ds := match s.td with | some d => d.devices.filter (fun x => busTile x.port = t) | none => []
  let s := s.each ds (fun s x => (s.setV .devSeen (1024 * x.port + x.addr) 0).setV .devFails (1024 * x.port + x.addr) 0)
  s.each ((List.range 32).filter (fun p => busTile p = t)) (fun s p => s.modBus p (fun b => { b with look := true }))

/-- The commands that wait for their outcome on a tile's ports and have no reply yet. -/
def State.busCommands (s : State) (t : Nat) : Nat :=
  (((List.range 32).filter (fun p => busTile p = t)).map (fun p =>
    let b := s.bus p
    ((b.hold.toList ++ b.queue).filter (fun r => r.origin.any (fun o => decide (o ∉ s.running)))).length
      + (b.recCmds.filter (fun c => decide (c.origin ∉ s.running))).length)).sum

/-- The ports of a tile that leaves service: every request ends as Table 4.8 has it, with what took the tile in its detail,
and the switches close with the tile's reset. A device does not depart with its port (Table 5.1). -/
def State.busDown (s : State) (t : Nat) : State :=
  let detail : Nat := detailWord 1 t (s.getN .fenceCause t)
  let word : List Fld := [u32 detail]
  let s := s.each ((List.range 32).filter (fun p => busTile p = t)) (fun s p =>
    let b := s.bus p
    let s : State := { s with buses := s.buses.put {} p {} }
    let s := ((s.setSwitch p false 2).setPort p busOff).countQueued p |>.disarm .sclStuck p
    let s := s.each (b.hold.toList ++ b.queue) (fun s r => match r.work, r.origin with
      | .relay x, _ => { s with relayDone := s.relayDone ++ [{ relay := x, status := .internal, reads := [] }] }
      | _, some o => s.busAnswer o r.csn .internal word detail
      | _, none => s)
    s.each b.recCmds (fun s c => s.busAnswer c.origin c.csn .internal word detail))
  { s with windows := s.windows.put {} t {} }

end Sys2Proof.Machine
end

