-- ==== Sys2Proof/Machine/Lead.lean ====
section
/-! DEFINITION. Leadership (chapter 4): the roles, a change of leader and what it interrupts, checkpoints, and planned handovers. -/

namespace Sys2Proof.Machine

/-! ### Global operations a change of leader ends (R600) -/

/-- The operations held; OPS_OPEN counts them. -/
def State.putOps (s : State) (l : List GlobalOp) : State := { s with globalOps := l }.put .opsOpen 0 l.length

/-- A session's result is held, its 16 newest for 60 s (R594). -/
def State.holdResult (s : State) (r : OpResult) : State :=
  let live := s.opResults.filter (fun y => decide (s.now < y.at_ + 60 * sec))
  let own := (r :: live.filter (fun y => y.session = r.session)).take 16
  { s with opResults := own ++ live.filter (fun y => y.session ≠ r.session) }

/-- The requests that wait for an operation complete (Table 14.12). -/
def State.opComplete (s : State) (x : GlobalOp) (st : Status) (m : OpMsg) (detail : Int := 0) : State :=
  s.each x.origins (fun s o =>
    (s.holdResult { session := o.session, at_ := s.now, status := st.code, msg := m }).finish o .globalOpDone st
      [m.members, m.firstMissing] [] detail)

/-- What a lost tile or a change of leader does to the operations held (R600): those issued here complete with
ST_INTERNAL, and no OP_UP goes out for any. -/
def State.opsInterrupted (s : State) (detail : Int) : State :=
  let l := s.globalOps
  let outs := s.remoteOuts
  let s := { s with remoteOuts := [] }.putOps []
  let s := s.each l (fun s x => s.opComplete x .internal { opId := x.opId } detail)
  s.each outs (fun s r => s.opComplete { opId := r.opId, origins := [r.origin] } .internal { opId := r.opId } detail)

/-! ### Membership and roles (R147, R151, R183) -/

/-- Roles follow the leader (Table 4.13). -/
def State.syncRoles (s : State) : State :=
  s.each s.tilesIn (fun s t => s.put .role t (if t = s.leader then 0 else 1))

/-- MEMBERSHIP follows the tiles in service (Table 4.13), and every output is voted again. -/
def State.syncMembers (s : State) : State :=
  let mask := s.tilesIn.foldl (fun acc t => acc + 2 ^ t) 0
  (s.put .membership 0 (mask + 256 * s.membership : Nat)).revoteAll

/-- EV_TILE_FAILOVER (R183), which counts. -/
def State.failoverEvent (s : State) (lost : Nat) (cause : Int) (old new : Nat) (stamp : Ns) (again : Int × Int) (cut : Nat) : State :=
  let src := if lost = 0xFF then oDevice else oTile lost
  (s.count .failoverCount 0).raiseAt .tileFailover src
    [lost, cause, old, new, (s.getN .membership % 256 : Nat), s.membership, s.get .term, again.1, again.2, cut] false stamp

/-- A new leader starts its term (R148, R353): it grants no increase in its first two tray epochs, DEFICIT and AGE start
anew. -/
def State.lead (s : State) (new : Nat) : State :=
  let s := (s.put .leader 0 new).put .term 0 (s.get .term + 1) |>.setV .trayHold 0 2 |>.setV .electing 0 0
  let ns := s.nodes.entries.map (fun e => (e.1, { e.2 with deficit := 0 }))
  let s : State := { s with nodes := ns.foldl (fun t e => t.put {} e.1 e.2) {} }
  let s : State := { s with regs := s.regs.put {} P.age.ctorIdx {}, journal := { s.journal with stalled := false } }
  s.syncRoles

/-- The operations held end with the change of leader (R600); a planned one names no tile in the detail. -/
def State.leadEnds (s : State) (lost : Nat) (cause : Int) : State := s.opsInterrupted (detailWord 1 (if lost = 0xFF then 3 else lost) cause.toNat)

/-- The leader takes a checkpoint at the commit CSN (R153): the entries up to it leave the ring for the archive, and an entry says
so. The digest of an image is a free value: the manual does not say how it is computed (log entry 238). -/
def State.checkpoint (s : State) : State :=
  let c := s.journal.committed
  let (d, s) := s.draw
  let s : State := { s with journal := { s.journal with
    checkpointCsn := c, checkpointAt := s.now, entries := s.journal.entries.filter (fun e => decide (c < e.csn)) } }
  s.journalAdd .checkpoint {} 0 [u64 c, ⟨48, d % 2 ^ 384⟩]

/-- Entries a tile lacks are sent to it (R154, R165). -/
def State.catchUp (s : State) (src dst : Nat) : State :=
  let l := s.journal.entries.filter (fun e => decide (s.getN .ackCsn dst < e.csn))
  let s := s.each l (fun s e => s.stitchSend src dst 0 1 (e.fields.map (·.val)))
  (s.put .ackCsn dst s.journal.assigned).setV .ackSeen dst s.journal.assigned

/-- A planned handover (R151, R183): the tile catches up, then leads; a MEMBERSHIP entry with cause 0xFF follows, and the event names
no lost tile. -/
def State.handover (s : State) (dest : Nat) : State :=
  let old := s.leader
  let s := (s.catchUp old dest).setV .ackSeen old s.journal.assigned
  let s := ((s.lead dest).journalMembers 0xFF).leadEnds 0xFF 0xFF
  (s.failoverEvent 0xFF 0xFF old dest s.now (0, 0) 0).recommit

end Sys2Proof.Machine
end

