-- ==== Sys2Proof/Machine/Registers.lean ====
section
/-! DEFINITION. Finding a property by its object and code, the capability block, and what a write is held to (R137,
R225). -/

namespace Sys2Proof.Machine

/-- THERMAL_CEILING (Table 11.4): C_a, which is LIMIT while no throttle runs (R451). -/
def State.ceilingOf (s : State) (a : Nat) : Int :=
  if s.flag .throttle a then s.get .thermalCeiling a else s.get .limit (nodeAccel a)

/-- The class whose table rows an object's properties stand in: fans and pumps share theirs. -/
def propClass (o : ObjId) : Nat := if objCls o = 8 then 7 else objCls o

/-- The property of a code on an object (R137); LAST_CSN is on every object, and each event source has one
configuration and one status register a tile (Table 13.9). -/
def findProp (o : ObjId) (code : Nat) : Option P :=
  if code = 1 then some .lastCsn
  else
    let code := if objCls o = 16 ∧ 0x130 ≤ code ∧ code ≤ 0x132 then 0x130
      else if objCls o = 16 ∧ 0x134 ≤ code ∧ code ≤ 0x136 then 0x134 else code
    match P.all.find? (fun p => p.desc.cls = propClass o && p.desc.code = code) with
    | some p =>
      if ((p = .ecHold ∨ p = .ecHoldLimit) ∧ objIdx o ≠ 1023) ∨ ((p = .rackOther ∨ p = .installFallback) ∧ objIdx o ≠ 1) then none
      else some p
    | none => none

/-- The index a property of an object is kept under: pumps follow the 16 fans; the registers of an event source are
kept tile by tile. -/
def propIndex (o : ObjId) (p : P) (code : Nat) : Nat :=
  if objCls o = 8 then 16 + objIdx o
  else if p = .srcConfig then 3 * objIdx o + (code - 0x130)
  else if p = .srcStatus then 3 * objIdx o + (code - 0x134)
  else if p = .ecHold ∨ p = .ecHoldLimit then 0
  else objIdx o

/-- Whole seconds to a timer's instant, rounded up; 0 where it does not run. -/
def State.secondsTo (s : State) (x : T) (i : Nat) : Int :=
  match s.timer x i with
  | some d => ((d - s.now + sec - 1) / sec : Nat)
  | none => 0

/-- The number of set bits among the low `n`. -/
def popCount (n x : Nat) : Nat := ((List.range n).filter (fun b => x.testBit b)).length

/-- Coolant channels of a member (Table 5.18): fans, pumps, valves, leak zones. -/
def coolantChannels : Member → Nat × Nat × Nat × Nat
  | .kt880 | .kt860 => (16, 4, 12, 8)
  | .kt440 | .kt420 => (16, 4, 8, 8)
  | .kt110 => (4, 1, 0, 2)

/-- The tile whose stacks hold the model and training store (R644): TRAIN_TILE of the slot that trains. -/
def State.storeTile (s : State) : Nat :=
  match (List.range 64).find? (fun m => decide (1 ≤ (s.models.get {} m).training.mode)) with
  | some m => s.getN .trainTile m
  | none => s.getN .trainTile 0

/-- The recorder's space in GiB (Table 16.3) for the stacks in service: 36 a stack beside the store, 60 a stack on the other
tile; without the store's tile the store has moved. -/
def State.recorderSpace (s : State) : Nat :=
  let up := s.varN .stacksUp
  let on (t : Nat) : Nat := popCount 4 (up &&& s.stackMask t)
  let x := s.storeTile
  if popCount 4 up = 4 then 192
  else if s.member = .kt860 then 48 * popCount 4 up
  else if s.member = .kt440 then 36 * popCount 4 up
  else if on x = 0 then 36 * on (3 - x) else 36 * on x + 60 * on (3 - x)

/-- The recorder's guaranteed window in ms for the stacks in service (R650). -/
def State.recorderWindow (s : State) : Nat := s.recorderSpace * 1073741824 / 6442000000 * 1000

/-- Spare rows free on a die of a stack (R641). -/
def State.spareFree (s : State) (stack die : Nat) : Nat := Config.spareRows - s.varN .sparesUsed (16 * stack + die)

/-- SPARE_ROWS_FREE: the lowest of the dies of a tile's stacks; 0 where it has none. -/
def State.spareLowest (s : State) (t : Nat) : Nat :=
  match (List.range 64).filterMap (fun i => if (s.stackMask t).testBit (i / 16) then some (s.spareFree (i / 16) (i % 16)) else none) with
  | x :: rest => rest.foldl min x
  | [] => 0

/-- The stacks' segments of 1 GiB in the order of the ring (R648): by turns over the stacks in service, as (stack, segment of that
stack); the store takes the place of 24 segments of each of its stacks (Table 16.3). -/
def State.segMap (s : State) : List (Nat × Nat) :=
  let up := s.varN .stacksUp
  let x := s.storeTile
  let space (k : Nat) : Nat :=
    if !up.testBit k then 0
    else if s.member = .kt860 then 48
    else if s.member = .kt440 ∨ up &&& s.stackMask x = 0 ∨ (s.stackMask x).testBit k then 36 else 60
  (List.range 60).flatMap (fun n => ((List.range 4).filter (fun k => decide (n < space k))).map (fun k => (k, n)))

/-- The bytes of a frame's decision records. -/
def SlotFrame.extra (f : SlotFrame) : Nat := f.own + f.turn

/-- The frames of the last second. -/
def State.lastSecond (s : State) : List SlotFrame := s.recorder.frames.takeWhile (fun f => decide (s.now < f.slot * 500 + sec))

/-- STREAM_RATE (Table 16.15): the mean over the last second, in MB/s. -/
def State.streamMb (s : State) : Nat := (s.lastSecond.map (fun f => 2848 + f.extra)).sum / 1000000

/-- WINDOW (R650): the span the ring holds at the present rate, to the nearest ms; 0 in OFF. -/
def State.windowMs (s : State) : Nat :=
  let rate := 5696000000 + s.recorder.extra
  if s.get .recState = 0 then 0 else (s.recorderSpace * 1073741824 * 1000 + rate / 2) / rate

/-- FC_STEP (R368); 0 where no tile in service has a working array (R405). -/
def State.fcStep (s : State) : Nat := if s.featuresUp.testBit 2 then (if s.membership = 1 then 4000 else 2000) else 0

/-- The capability block's fields in the order of Table 5.14: what is in service now (R225). -/
def State.capability (s : State) : List Int :=
  let m := s.member
  let per (t n : Nat) : Nat := if s.inService t then n else 0
  let two := decide (m.tiles > 1)
  let split (both one : Nat) : Nat := if two then per 0 (both / 2) + per 1 (both / 2) else per 0 one
  let ch := coolantChannels m
  let fore (n : Nat) : Int := per 0 n
  let relays := if m = .kt110 then 2 else 2 * m.accels
  [64, 1, (s.tilesIn.foldl (fun acc t => acc + 2 ^ t) 0 : Nat), s.membership, m.accels, 32,
   144 * m.accels, 64 + 32 * m.accels,
   relays, split 16 m.accels, split 32 relays, split 10 (match m with | .kt440 => 4 | .kt420 => 2 | _ => 0),
   split 32 (match m with | .kt110 => 8 | _ => 16), split 2 1,
   (match m with | .kt880 => per 1 1 + per 2 1 | .kt860 => per 1 1 | _ => per 0 1),
   split 2 (match m with | .kt110 => 0 | _ => 1),
   16 * s.tilesIn.length, fore ch.1, fore ch.2.1, fore ch.2.2.1,
   fore ch.2.2.2, 64, 8, 0, s.fcStep, (73728 * popCount 4 (s.varN .stacksUp) : Nat), s.recorderWindow,
   32, 4096, s.get .guardBand]

/-- TIME_ERROR (R76, R77): in HOLDOVER it grows by the rate bound of R70, rounded up. -/
def State.timeError (s : State) : Int :=
  if s.getN .timeStatus % 16 = 3 then
    min (s.var .holdErr + (((s.now - s.varN .holdAt) * s.varN .holdPpm + 999999) / 1000000 : Nat)) 4294967295
  else s.get .timeError

/-! ### Writing (R137) -/

/-- A value keeps to a row's type, range and step. -/
def descAccepts (d : Desc) (len : Nat) (v : Int) : Bool :=
  decide (len = d.bytes) && decide (d.lo ≤ v) && decide (v ≤ d.hi) && decide (v % (d.step : Int) = 0)

/-- What R137 answers to a write of property `p` of the object and property a request names. -/
def writeStatus (a : Arrival) (p : P) (len : Nat) (v : Int) : Status :=
  if findProp a.hdr.object a.hdr.property ≠ some p then .propUnknown
  else if p.desc.acc = .ro then .propReadOnly
  else if descAccepts p.desc len v then .ok else .badParam

/-- A request that names a property. -/
def named (a : Arrival) (code : Nat) : Arrival := { a with hdr := { a.hdr with property := code } }

/-- A SET_PROP of property `p` under a code, with its effect on the object of that index once R137 accepts the value. -/
def State.writeAt (s : State) (a : Arrival) (p : P) (code : Nat) (v : Int) (eff : Nat → State → State × Res) : State :=
  let a := named a code
  s.request a (.setProp p.desc.bytes v) (fun s =>
    match writeStatus a p p.desc.bytes v with
    | .ok => eff (propIndex a.hdr.object p code) s
    | st => (s, .st st))

/-- A SET_PROP of a property under its own code. -/
def State.write (s : State) (a : Arrival) (p : P) (v : Int) (eff : Nat → State → State × Res) : State :=
  s.writeAt a p p.desc.code v eff

end Sys2Proof.Machine
end

