-- ==== Sys2Proof/Machine/LegOps.lean ====
section
/-! DEFINITION. Legs and domains: the loop engine's arithmetic, edge-timing words, leg states, and the start, stop and
trip of a domain (chapter 7). -/

namespace Sys2Proof.Machine

/-- A quotient whose rounding the manual leaves open: exact where it divides, else one of the two nearest integers,
which one is a free value. -/
def State.roundDiv (s : State) (num : Int) (den : Nat) : Int × State :=
  if den = 0 then s.draw
  else if num % den = 0 then (num / den, s)
  else let (x, s) := s.draw; (num / den + x % 2, s)

/-- An exact value shown in a field of whole units, where the manual does not say how it is rounded. -/
def State.whole (s : State) (q : Rat) : Int × State := s.roundDiv q.num q.den

/-- A domain's loop. -/
def State.dom (s : State) (d : Nat) : DomSt := s.domains.get {} d
def State.modDom (s : State) (d : Nat) (f : DomSt → DomSt) : State :=
  { s with domains := s.domains.put {} d (f (s.dom d)) }
/-- A leg's counters and word. -/
def State.leg (s : State) (l : Nat) : LegSt := s.legs.get {} l
def State.modLeg (s : State) (l : Nat) (f : LegSt → LegSt) : State := { s with legs := s.legs.put {} l (f (s.leg l)) }
/-- A relay's calibration and frame counters. -/
def State.relay (s : State) (r : Nat) : RelaySt := s.relays.get {} r
def State.modRelay (s : State) (r : Nat) (f : RelaySt → RelaySt) : State :=
  { s with relays := s.relays.put {} r (f (s.relay r)) }

/-- The legs of a domain in rising order (R33). -/
def State.legsOf (s : State) (d : Nat) : List Nat :=
  match s.td with
  | some td => (List.range 144).map (fun l => 144 * (d / 32) + l) |>.filter (fun l => td.legDomain l = some d)
  | none => []

/-- The relay of a leg and of a domain, and a domain's place on it (R32). -/
def relayOfLeg (l : Nat) : Nat := 2 * (l / 144) + l % 144 / 72
def relayOfDomain (d : Nat) : Nat := 2 * (d / 32) + d % 32 / 16
def localDomain (d : Nat) : Nat := d % 16
/-- The LEG index of a relay's local leg, and the DOMAIN index of its local domain (R32). -/
def legOfRelay (r l : Nat) : Nat := 144 * (r / 2) + 72 * (r % 2) + l
def domainOfRelay (r j : Nat) : Nat := 32 * (r / 2) + 16 * (r % 2) + j

/-- The leg state codes of Table 7.4. -/
def legOff : Int := 0
def legSleep : Int := 1
def legWaking : Int := 2
def legActive : Int := 3
def legDraining : Int := 4
def legFaulted : Int := 5
def legDisabled : Int := 6

/-- A leg counts as healthy: not FAULTED or DISABLED (R287). -/
def State.healthy (s : State) (l : Nat) : Bool := s.get .legState l ≠ legFaulted && s.get .legState l ≠ legDisabled
/-- The legs of a domain in a state. -/
def State.legsIn (s : State) (d : Nat) (st : Int) : List Nat := (s.legsOf d).filter (fun l => s.get .legState l = st)
def State.nHealthy (s : State) (d : Nat) : Nat := ((s.legsOf d).filter s.healthy).length

/-- LEG_COUNTS (Table 7.10) follows the leg states. -/
def State.countLegs (s : State) (d : Nat) : State :=
  s.put .legCounts d (65536 * s.nHealthy d + 256 * (s.legsIn d legWaking).length + (s.legsIn d legActive).length : Nat)

/-- A leg enters a state. -/
def State.setLeg (s : State) (l : Nat) (st : Int) : State :=
  let s := (s.note 0x03 (oLeg l) [u32 (s.get .legState l), u32 st]).put .legState l st
  match s.legDomain l with
  | some d => s.countLegs d
  | none => s

/-- A leg's words end: OFF goes out, and those computed ahead do not. -/
def LegSt.idle (x : LegSt) : LegSt := { x with sent := 0, ahead := [], carry := 0, wakeAt := none }

/-- Every leg of a domain that is in service goes to OFF, with word OFF (Table 7.4, R296). -/
def State.legsToOff (s : State) (d : Nat) : State :=
  s.each (s.legsOf d) (fun s l =>
    let s := s.modLeg l (fun x => { x.idle with drainAt := none })
    if s.healthy l then
      if (s.leg l).disableAfter then (s.modLeg l (fun x => { x with disableAfter := false })).setLeg l legDisabled
      else s.setLeg l legOff
    else s)

/-- The tile that regulates an accelerator (LOOP_ACCELS, Table 4.13). -/
def State.regTile (s : State) (a : Nat) : Option Nat := [0, 1, 2].find? (fun t => (s.getN .loopAccels t).testBit a)

/-- A domain is updated in this slot (R277, Table 4.11): every slot, in SOLO every second. -/
def State.updatedIn (s : State) (d slot : Nat) : Bool :=
  (s.regTile (d / 32)).isSome && (decide (s.membership ≠ 1) || decide (d / 32 / 4 = slot % 2))

/-- The first update slot of a domain at or after the instant that sequence decisions are reckoned at (R250). -/
def State.updateFrom (s : State) (d : Nat) : Ns :=
  let k := (s.seqNow + 499) / 500
  if s.updatedIn d k then 500 * k else 500 * (k + 1)

/-- The enable instant of a domain (R250, Table 7.4): its reference ramps from 0, its DOMAIN_RUN bit is set, its legs
leave OFF for SLEEP. -/
def State.domainStart (s : State) (d : Nat) (ramp : Ns) : State :=
  let at_ := s.updateFrom d
  let s := s.modDom d (fun x => { x with
    mode := .rampUp, rampAt := at_, ramp, rampFrom := 0, ref := 0, refAt := at_, run := true, es := [0, 0, 0]
    us := [0, 0, 0], ocSince := none, ocFired := false, ocBelow := none, shedSince := none
    placed := [] })
  s.each (s.legsIn d legOff) (fun s l => s.setLeg l legSleep)

/-- The disable of a domain (R250): its reference ramps to 0 over RAMP, then its legs stop. -/
def State.domainStop (s : State) (d : Nat) (ramp : Ns) : State :=
  s.modDom d (fun x => if x.mode = .stopped then x else { x with mode := .rampDown, rampAt := s.updateFrom d, ramp, rampFrom := x.ref })

/-- A domain's legs stop at once. -/
def State.domainHalt (s : State) (d : Nat) : State :=
  (s.modDom d (fun x => { x with mode := .stopped, ref := 0, run := false, ocSince := none, ocFired := false, ocBelow := none })).legsToOff d

/-- A domain trip (R296): its DOMAIN_RUN bit clears through the privileged path until its next enable instant, and
FURL_N of its accelerator is asserted (R221). -/
def State.domainTrip (s : State) (d cause : Nat) : State :=
  if (s.dom d).run then
    let n := s.nHealthy d
    ((s.drive (outFurl (d / 32)) 0).setV .furlHeld (d / 32) 1 |>.domainHalt d |>.journalSafety (oDomain d) cause).raiseSafety .domainTrip (oDomain d) [d, cause, n, s.now] |>.gauge (meterFault d) 1
  else s

/-- A domain with fewer than MIN_HEALTHY healthy legs trips (R294). -/
def State.checkHealthy (s : State) (l : Nat) : State :=
  match s.legDomain l with
  | some d =>
    let s := s.gauge (meterFault d) 1
    if (s.nHealthy d : Int) < s.get .minHealthy d then s.domainTrip d 1 else s
  | none => s

/-- A leg trips (R292, R293): its word is forced to OFF and it enters FAULTED; the domain trips when fewer than
MIN_HEALTHY legs stay healthy (R294). -/
def State.legFault (s : State) (l cause code : Nat) (fail : Ns) : State :=
  if s.healthy l && decide (s.get .legState l ≠ legOff) then
    let s := ((s.modLeg l LegSt.idle).put .faultCause l cause).setLeg l legFaulted
    ((s.journalSafety (oLeg l) cause).raiseSafety .legFault (oLeg l) [l, cause, code, s.get .current l, fail]).checkHealthy l
  else s

/-! ### The loop engine (R280, R281, R284) -/

/-- The reference of a domain at an instant, before the load line (R250, R281): on its ramp, or moving to SETPOINT at
SETPOINT_SLEW. How a quotient that does not come out even is rounded is free. -/
def State.refAt (s : State) (d at_ : Nat) : Int × State :=
  let x := s.dom d
  let setpoint := s.get .setpoint d
  let e := at_ - x.rampAt
  match x.mode with
  | .stopped => (0, s)
  | .rampUp => if x.ramp ≤ e then (setpoint, s) else s.roundDiv (setpoint * e) x.ramp
  | .rampDown => if x.ramp ≤ e then (0, s) else s.roundDiv (x.rampFrom * (x.ramp - e : Nat)) x.ramp
  | .on =>
    let (step, s) := s.roundDiv (s.get .setpointSlew d * (at_ - x.refAt : Nat)) 1000
    (if x.ref ≤ setpoint then min setpoint (x.ref + step) else max setpoint (x.ref - step), s)

/-- COEFF_SET for a regulating tile and a membership (R279): C in SOLO, B on Mizzen, else A. -/
def State.coeffSet (s : State) (tile : Nat) : Nat :=
  if s.membership = 1 then 2 else if tile = 2 ∧ s.membership ≠ 4 then 1 else 0

/-- The tile that takes an accelerator over when a tile is lost (Table 4.10). -/
def lossTile (lost a : Nat) : Nat :=
  match lost with
  | 0 => [1, 2, 1, 1, 1, 2, 2, 2].getD a 0
  | 1 => [0, 0, 0, 0, 2, 2, 2, 2].getD a 0
  | _ => [0, 0, 1, 1, 1, 0, 0, 1].getD a 0

/-- The tile that regulates a domain (R175, R176): that of its accelerator, or its mirror once that has taken the domain over. -/
def State.regDom (s : State) (d : Nat) : Option Nat :=
  (s.regTile (d / 32)).map (fun p => if (s.dom d).mirrored then lossTile p (d / 32) else p)

/-- The coefficients a domain runs on. -/
def State.coeffs (s : State) (d : Nat) : Coeffs :=
  match s.td with
  | some td => match td.coeffs.find? (fun c => c.1 = 4 * d + s.getN .coeffSet d) with
    | some c => c.2
    | none => {}
  | none => {}

/-- The sum of products of two lists. -/
def dot : List Int → List Int → Int
  | x :: xs, y :: ys => x * y + dot xs ys
  | _, _ => 0

/-- Keep a value within a range. -/
def clampTo (x lo hi : Int) : Int := if x < lo then lo else if hi < x then hi else x

/-- An edge-timing word (Table 7.2). -/
def edgeWord (mode rise fall : Nat) : Nat := mode * 0x20000000 + rise % 4096 * 0x10000 + fall % 4096

/-- The word of the i-th of n active legs in slot j of its period (R284), with the part of the pulse that the next slot
carries on: `carry` is what the slot before left. -/
def placeWord (i n slots j on carry : Nat) : Nat × Nat :=
  let p := i * (4000 * slots) / n
  if carry ≠ 0 then (edgeWord 2 0 carry, 0)
  else if p / 4000 = j then
    let rise := p % 4000
    if 3999 < rise + on then (edgeWord 3 rise 0, rise + on - 4000) else (edgeWord 1 rise (rise + on), 0)
  else (edgeWord 4 0 0, 0)

/-- The word of a leg that is not ACTIVE (Table 7.4). -/
def stateWord (st : Int) : Nat :=
  if st = legSleep then edgeWord 6 0 0 else if st = legDraining then edgeWord 5 0 0 else edgeWord 0 0 0

/-- The slots that the words of an update for slot k govern (R277, R278): the third after it, on Mizzen the fourth, and in SOLO,
where the next update is two slots away, also the one after. -/
def State.governed (s : State) (d k : Nat) : List Nat :=
  let g := k + (if s.regDom d = some 2 then 4 else 3)
  if s.membership = 1 then [g, g + 1] else [g]

/-- The word of a leg for a slot is ready; it is launched one slot before (R278). -/
def State.putWord (s : State) (l slot word : Nat) : State :=
  s.modLeg l (fun y => { y with ahead := y.ahead.filter (fun e => decide (e.1 + 1 ≠ slot)) ++ [(slot - 1, word)] })

/-- The on-times of legs, balanced against their mean (R280). -/
def State.onTimes (s : State) (c : Coeffs) (u iMean : Int) : List Nat → List (Nat × Nat) × State
  | [] => ([], s)
  | l :: rest =>
    let (bal, s) := s.roundDiv (256 * c.balGain * (iMean - s.get .current l)) (2 ^ 29)
    let (on, s) := s.roundDiv (clampTo (u + bal) 0 (256 * c.maxOn)) 256
    let (r, s) := s.onTimes c u iMean rest
    ((l, on.toNat) :: r, s)

/-- The words of a domain's legs for one slot (R284, R297). The legs that share a period are those ACTIVE at its start; one that
became ACTIVE since waits for the next. The FALL of a pulse that goes on past the end of the slot after its own is not given, and
is free (log entry 270). -/
def State.layWords (s : State) (d slot : Nat) (ons : List (Nat × Nat)) : State :=
  let slots := max 1 (s.varN .switchSlots d)
  let s := if slot % slots = 0 then s.modDom d (fun x => { x with placed := s.legsIn d legActive }) else s
  let placed := (s.dom d).placed
  s.each (s.legsOf d) (fun s l =>
    if s.get .legState l ≠ legActive then (s.putWord l slot (stateWord (s.get .legState l))).modLeg l (fun y => { y with carry := 0 })
    else match ons.find? (fun x => x.1 = l), placed.idxOf? l with
    | some (_, on), some i =>
      let w := placeWord i placed.length slots (slot % slots) on (s.leg l).carry
      let s := s.modLeg l (fun y => { y with carry := w.2 })
      if 4000 ≤ w.1 % 4096 ∧ w.1 / 0x20000000 = 2 then
        let (x, s) := s.draw
        s.putWord l slot (edgeWord 2 0 (x % 4000).toNat)
      else s.putWord l slot w.1
    | _, _ => s.putWord l slot (edgeWord 0 0 0))

/-- One update of a domain for slot k (R280): reference, error, compensator with the clamped value in its history, and
the words of its legs. Products and quotients that are not whole in the carried fraction are rounded by free values. -/
def State.updateDomain (s : State) (d k : Nat) : State :=
  let x := s.dom d
  let active := s.legsIn d legActive
  let iDom := (active.map (fun l => s.get .current l)).sum
  let at_ := 500 * k
  let ended := x.mode = .rampDown ∧ x.ramp ≤ at_ - x.rampAt
  if x.mode = .stopped then s
  else if ended then s.domainHalt d
  else
    let mode := if x.mode = .rampUp ∧ x.ramp ≤ at_ - x.rampAt then .on else x.mode
    let c := s.coeffs d
    let (ref0, s) := s.refAt d at_
    let (drop, s) := s.roundDiv (s.get .loadLine d * iDom) 1000
    let e := ref0 - drop - x.volt
    let (u, s) := s.roundDiv (256 * dot c.b (e :: x.es) - dot c.a x.us) (2 ^ 29)
    let u := clampTo u 0 (256 * c.maxOn)
    let s := s.modDom d (fun x => { x with
      mode, ref := ref0, refAt := at_, es := (e :: x.es).take 3, us := (u :: x.us).take 3 })
    let (iMean, s) := s.roundDiv iDom active.length
    let (ons, s) := s.onTimes c u iMean active
    s.each (s.governed d k) (fun s g => s.layWords d g ons)

end Sys2Proof.Machine
end

