-- ==== Sys2Proof/Machine/PowerOps.lean ====
section
/-! DEFINITION. Power states (chapter 1): the changes every trigger of Table 1.8 is made of. -/

namespace Sys2Proof.Machine

/-- The power state's codes (Table 1.7). -/
def psOff : Int := 0
def psDeepSleep : Int := 1
def psStandby : Int := 2
def psRunning : Int := 3
def psRecovery : Int := 4

/-- The device has settled with no transition in progress: every write still running was overtaken (R37). -/
def State.powerSettle (s : State) : State :=
  let now := s.get .powerState
  let ws := s.powerWrites
  let s := { s with powerWrites := [] }
  (s.each ws (fun s w => s.finish w.1 .powerState .powerOvertaken [now, now, w.2, s.var .goalCause] [])).setV .goal 0 (-1)

/-- A power state is reached (R36, R37, R54): the writes that named it complete with EV_POWER_STATE, and so, overtaken, do the others where
no transition is left; a change that completes no write is an event with a zero completion block. -/
def State.powerReached (s : State) (new cause : Int) : State :=
  let old := s.get .powerState
  let s := s.put .powerState 0 new
  let ends := decide (s.var .goal = new ∨ s.var .goal < 0)
  let ws := s.powerWrites
  let ended := ws.filter (fun w => ends || decide ((w.2 : Int) = new))
  let asked : Int := match ws with | w :: _ => w.2 | [] => 0xFF
  let s := { s with powerWrites := ws.filter (fun w => !ends && decide ((w.2 : Int) ≠ new)) }
  let s : State := if ended.isEmpty then s.raise .powerState oDevice [0, 0, 0, 0, 0, 0, 0, 0, old, new, asked, cause]
    else s.each ended (fun s w => s.finish w.1 .powerState (if (w.2 : Int) = new then .ok else .powerOvertaken) [old, new, w.2, cause] [])
  s.when ends (fun s => s.setV .goal 0 (-1))

/-- The bytes of an export. -/
def exportTotal (x : Export) : Nat := x.data.length

/-- The bytes a DMA export has written by now, at EXPORT_RATE (R656); of one over Ratline, those acknowledged or received. -/
def State.exported (s : State) (x : Export) : Nat :=
  if x.path = 0 then min (min (exportTotal x) x.room) ((s.now - x.since) * s.getN .exportRate / 1000) else x.got

/-- The bytes an export by DMA writes to the host's buffers. -/
def State.dma (s : State) (x : Export) : State :=
  s.when (x.path = 0) (fun s => s.send (.dma 0 ((x.data.take (s.exported x)).map (fun (b : Nat) => (b : Int)))))

/-- The recorder stops: RUNNING is left, or no stack is in service; its contents are lost (Table 16.8a). What an export that
runs then ends with the manual does not say: ST_REC_STATE (DESIGN CHOICE, log entry 195). -/
def State.recorderOff (s : State) : State :=
  let old := s.get .recState
  if old = 0 then s
  else
    let running := s.exports
    let s := ({ s with recorder := {}, stipple := [], exports := [] }.put .recState 0 0 |>.disarm .recFreeze 0 |>.setV .recTriggers 0 0
      |>.put .captureStart 0 0 |>.put .captureEnd 0 0 |>.disarm .stipple 0).raise .recorderState oRecorder [old, 0]
    s.each running (fun s x => (s.dma x).complete x.origin .recorderExported .recState [s.exported x])

/-- A stipple interval begins (R654): REEF_LEVEL, the reef sources and PLAN_SOURCE stand in it from its start. -/
def State.newInterval (s : State) : State :=
  let planned := (List.range 256).filter (fun d => decide (s.get .planSource d = 1))
  let s : State := { s with recorder := { s.recorder with meters := {}, planned } }
  s.each (List.range 8) (fun s a =>
    (s.gauge (meterReef a) (s.get .reefLevel a)).each ((List.range 8).filter (fun b => (s.getN .reefSources a).testBit b))
      (fun s b => s.gauge (meterSource a b) 1))

/-- RUNNING with a stack in service: the recorder records (Table 16.8a). -/
def State.recorderOn (s : State) : State :=
  if s.get .recState = 0 ∧ s.get .powerState = psRunning ∧ s.varN .stacksUp ≠ 0
  then
    let s := { s with recorder := { start := s.now, seenCsn := s.journal.committed, seenEvents := s.raised.length }, stipple := [] }
    ((s.put .recState 0 1).newInterval.arm .stipple 0 (s.getN .stippleInterval * ms)).raise .recorderState oRecorder [0, 1]
  else s

/-- Runs of consecutive slots among slots in rising order. -/
def slotRuns : List Nat → List (Nat × Nat)
  | [] => []
  | k :: rest => match slotRuns rest with
    | (a, b) :: l => if a = k + 1 then (k, b) :: l else (k, k) :: (a, b) :: l
    | [] => [(k, k)]

/-- Frames on segments that the recorder no longer has are lost; the slots are listed as gaps, at most 128 (R644, R645). -/
def State.gapCapture (s : State) : State :=
  let r := s.recorder
  let places := s.segMap
  let gone := r.frames.filter (fun f => f.place ∉ places)
  if gone.isEmpty then s
  else { s with recorder := { r with frames := r.frames.filter (fun f => f.place ∈ places)
                                     gaps := (r.gaps ++ slotRuns (gone.reverse.map (·.slot))).take 128 } }

/-- What changes the recorder's space is reported (R644, R645). -/
def State.windowed (s : State) (f : State → State) : State :=
  let old := s.windowMs
  let s := (f s).gapCapture
  if s.windowMs = old then s else s.raise .recorderWindow oRecorder [old, s.windowMs]

/-- Stacks leave service; with the last of them the recorder stops (R645, R651). `cause` as EV_STACK_LOST has it. -/
def State.stacksDown (s : State) (mask : Nat) (cause : Nat := 2) : State :=
  let gone := s.varN .stacksUp &&& mask
  if gone = 0 then s
  else s.windowed (fun s =>
    let s := s.setV .stacksUp 0 (s.varN .stacksUp &&& (15 ^^^ mask) : Nat)
    let s := { s with poison := s.poison.filter (fun b => !gone.testBit b.1), rowHits := s.rowHits.filter (fun h => !gone.testBit h.stack) }
    let s := s.each ((List.range 4).filter (fun k => gone.testBit k)) (fun s k => s.raise .stackLost oRecorder [k, cause])
    if s.varN .stacksUp = 0 then s.recorderOff else s)

/-- A binding on a tile; the controller's own requests are on none. -/
def State.onTile (s : State) (t : Nat) (b : Binding) : Bool := decide (s.tileOf b = t) && decide (b ≠ .firmware)

/-- What arrived on the ports of a tile that stops is lost with them (R167, Table 4.9): endpoint registers return to
reset, sessions are unbound, waiting requests are gone, and the outcome of one whose change is journaled is reported to a repeat alone
(R169). -/
def State.dropBindings (s : State) (t : Nat) : State :=
  let s : State := if t = 0 then s else { s with endpoints := s.endpoints.put {} (t - 1) {} }
  let gone := s.outst.filter (fun o => s.onTile t o.dest)
  let kept (b : Binding) : Bool := !s.onTile t b
  let s := ({ s with ethSessions := s.ethSessions.filter (fun x => x.port ≠ t), ethShakes := s.ethShakes.filter (fun x => x.port ≠ t) } : State).countEth
  let vdms := ([0, 1] : List (Fin 2)).filter (fun e => decide (s.tileOf (.vdm e) = t))
  { s with windows := vdms.foldl (fun w e => w.put {} (2 + e.val) {}) s.windows
           outst := s.outst.filter (fun o => kept o.dest)
           orphans := s.orphans ++ (gone.filter (fun o => o.admitted && decide (s.csnOf o.origin ≠ 0))).map (fun (o : Outst) => { o with via := none })
           waiting := s.waiting.filter (fun w => kept w.arr.binding)
           sessions := s.sessions.map (fun (x : Session) => { x with bindings := x.bindings.filter kept }) }

/-- The tile that samples a channel (Table 11.1); none for an accelerator's sensor. -/
def chanTile (c : Nat) : Option Nat :=
  if c < 72 then some (c / 24) else if c < 136 then some 0 else if c < 200 then some 1 else if c < 216 then some 0 else none

/-- The channels of a tile that stops give no readings (R448): TEMPERATURE is none and VALID is clear. -/
def State.chansStop (s : State) (t : Nat) : State :=
  s.each ((List.range 216).filter (fun c => chanTile c = some t)) (fun s c =>
    (s.put .thermalTemperature c (-2147483648)).put .thermalStatus c (s.getN .thermalStatus c / 2 * 2 : Nat))

/-- Main and Mizzen power down with RUNNING (R183): before it Fore takes the lead by a planned handover, and a MEMBERSHIP entry with
cause 0xFF leaves Fore in SOLO. -/
def State.tilesDown (s : State) : State :=
  let others := s.tilesIn.filter (fun t => decide (t ≠ 0))
  let s := s.when (decide (s.leader ≠ 0) && s.inService 0) (fun s => s.handover 0)
  let s := s.each [1, 2] (fun s t => if s.var .tilePhase t = 0 then s else
    ((s.setV .tilePhase t 0).put .role t 2).put .loopAccels t 0 |>.setV .tileReset t 0 |>.disarm .supplyPg t |>.disarm .tileReady t
      |>.dropBindings t |>.busDown t |>.chansStop t)
  let s := ((s.put .leader 0 0).put .role 0 (if s.inService 0 then 0 else 2)).stacksDown 15
  let s := s.put .loopAccels 0 (2 ^ s.member.accels - 1 : Nat)
  let s := [1, 2].foldl (fun (s : State) t => s.trialsLost t) s.dropPoints
  let s := s.syncMembers
  (s.when (!others.isEmpty) (fun s => s.journalMembers 0xFF)).recommit

/-- Outside RUNNING every node's GRANT is 0 (R354). -/
def State.clearGrants (s : State) : State :=
  let ns := s.nodes.entries.map (fun e => (e.1, { e.2 with pend := [] }))
  { s with regs := s.regs.put {} P.grant.ctorIdx {}, nodes := ns.foldl (fun t e => t.put {} e.1 e.2) {} }

/-- STANDBY is entered from RUNNING: FEED_EN, VDDM_EN and VDDZ_EN are deasserted, Main and Mizzen power down, and an
entry to DEEP_SLEEP goes on where the pair of transitions leads there (Table 1.8). -/
def State.toStandby (s : State) (cause : Int) : State :=
  let s := s.each [0, 1, 2, 3] (fun s f => s.drive (outFeed f) 0)
  let s := (s.drive outVddm 0).drive outVddz 0
  let s := s.tilesDown.clearGrants.setV .bringUp 0 3
  let s := s.recorderOff.powerReached psStandby cause
  if s.var .goal = psDeepSleep then s.arm .runOn 0 (s.getN .runOn * sec) else s

/-- A scope's state (Tables 6.4, 6.11). -/
def State.scope (s : State) (i : Nat) : Int := if i < 8 then s.get .seqState i else s.get .traySeqState 0

/-- The scopes: one an accelerator, and the tray's. -/
def scopes : List Nat := List.range 9

/-- Every off-sequence has run to completion: no scope is waiting, rising, up, or falling. -/
def State.allDown (s : State) : Bool := scopes.all (fun i => decide (s.scope i = 0 ∨ s.scope i = 5 ∨ s.scope i = 6))

/-- In RUNNING, a transition to STANDBY completes once the off-sequence has (Table 1.8). -/
def State.checkStandby (s : State) : State :=
  if s.get .powerState = psRunning ∧ (s.var .goal = psStandby ∨ s.var .goal = psDeepSleep ∨ s.flag .restart43) ∧ s.allDown
  then s.toStandby (s.var .goalCause) else s

/-- A trigger of R40 takes RUNNING to STANDBY once the off-sequence has run to completion (Table 1.8); it overtakes a write that waits for a
restart (R37, R43). -/
def State.fallToStandby (s : State) (cause : Int) : State :=
  if s.get .powerState = psRunning then (((s.setV .restart43 0 0).setV .goal 0 psStandby).setV .goalCause 0 cause).checkStandby else s

/-- An entry to DEEP_SLEEP is overtaken by a wake trigger (R40, R41): the device stays in STANDBY, or comes to rest there. -/
def State.abortSleep (s : State) : State :=
  if s.var .goal ≠ psDeepSleep then s
  else if s.get .powerState = psStandby then (s.disarm .runOn 0 |>.setV .goal 0 (-1) |>.setV .goalCause 0 5).powerSettle
  else s.setV .goal 0 psStandby

end Sys2Proof.Machine
end

