-- ==== Sys2Proof/Machine/CoolBase.lean ====
section
/-! DEFINITION. Leak actions as they are held, and the feeds (chapter 12): what sequences and furls ask of them. -/

namespace Sys2Proof

/-- What the description says of a zone, a drive, a pressure input (R774). -/
def TrayDesc.zone (d : TrayDesc) (z : Nat) : ZoneDesc := (d.zones.find? (fun x => x.zone = z)).getD { zone := z }
def TrayDesc.drive (d : TrayDesc) (c : Nat) : DriveDesc := (d.drives.find? (fun x => x.chan = c)).getD { chan := c }

end Sys2Proof

namespace Sys2Proof.Machine

def State.zoneDesc (s : State) (z : Nat) : ZoneDesc :=
  match s.td with
  | some d => d.zone z
  | none => { zone := z }

/-- Valves are in service (FEAT_VALVES). -/
def State.hasValves (s : State) : Bool := (s.member.features false).testBit 13

/-- The zones that hold an action of `n` or more. -/
def State.zonesHolding (s : State) (n : Int) : List Nat := (List.range 8).filter (fun z => n ≤ s.get .heldAction z)

/-- A held action names an accelerator (R506). -/
def State.leakNames (s : State) (a : Nat) : Bool := (s.zonesHolding 1).any (fun z => (s.zoneDesc z).accels.testBit a)

/-- The scope's start waits for a leak (R512). -/
def State.leakBars (s : State) (i : Nat) : Bool := if i = 8 then !(s.zonesHolding 2).isEmpty else s.leakNames i

/-- An isolation valve, and a pump, that a zone holds (R506, R508). -/
def State.valveHeld (s : State) (v : Nat) : Bool := s.hasValves && (s.zonesHolding 2).any (fun z => (s.zoneDesc z).valves.testBit v)
def State.pumpHeld (s : State) (p : Nat) : Bool :=
  (s.zonesHolding 2).any (fun z => !s.hasValves || (s.zoneDesc z).pumps.testBit p)

/-- A pulse's high time for a code of a scale (R471): 2 µs + 36 µs × code / CODE_MAX, to the nearest 20 ns, which is never a
tie on the scales of Table 12.1 and R495. -/
def pulseHigh (code top : Nat) : Ns := 2000 + (2 * 36000 * code + 20 * top) / (40 * top) * 20

/-- A proportional valve's command, and its pulse (R495). -/
def State.commandValve (s : State) (v : Nat) (x : Int) : State :=
  ((s.note 0x0B (oValve v) [u64 x]).put .command v x).setV .drvHigh (16 + v) (pulseHigh x.toNat 1000)

/-- A furled accelerator's proportional valve goes to 0 % at its cut (R506): of a zone's accelerators, and of every
accelerator where the tray is furled by an action of 2 or 3. -/
def State.leakAtCut (s : State) (i : Nat) : State :=
  if i < 8 ∧ s.hasValves ∧ (s.leakNames i ∨ !(s.zonesHolding 2).isEmpty) then
    let s := s.stopTrials [oValve (4 + i)]
    ((s.setV .leakShut i 1).commandValve (4 + i) 0).put .valveControl (4 + i) 3
  else s

/-- FEED_EN[3:0] is driven low by a leak stage (R506). -/
def State.cutFeeds (s : State) : State :=
  (s.each [0, 1, 2, 3] (fun s f => s.drive (outFeed f) 0)).disarm .leakCut |>.setV .feedCut 0 1

/-- Scope 8's off-sequence is complete: a leak cut that waits comes now (R506). -/
def State.leakFeeds (s : State) : State := if (s.timer .leakCut).isSome then s.cutFeeds else s

end Sys2Proof.Machine
end

