-- ==== Sys2Proof/Machine/LockOps.lean ====
section
/-! DEFINITION. Membership of lockstep groups (R410, R434): members, and how a join or leave ends. -/

namespace Sys2Proof.Machine

/-- LOCK_STATE (Table 10.6). -/
def lsNone : Int := 0
def lsJoining : Int := 1
def lsInStep : Int := 2
def lsLagging : Int := 3
def lsSuspended : Int := 4
def lsAbsent : Int := 5

def State.lockMember (s : State) (a : Nat) : LockMember := s.lockMembers.get {} a
def State.modMember (s : State) (a : Nat) (f : LockMember → LockMember) : State :=
  { s with lockMembers := s.lockMembers.put {} a (f (s.lockMember a)) }

/-- The group of an accelerator, if it has one (R410). -/
def State.groupOf (s : State) (a : Nat) : Option Nat := if s.getN .lockGroup a < 65535 then some (s.getN .lockGroup a) else none

/-- The local members of a group, and of any. -/
def State.localOf (s : State) (g : Nat) : List Nat := (List.range 8).filter (fun a => s.groupOf a = some g)
def State.lockedAccels (s : State) : List Nat := (List.range 8).filter (fun a => (s.groupOf a).isSome)

/-- LOCAL_MEMBERS follows. -/
def State.syncGroup (s : State) (g : Nat) : State :=
  s.put .localMembers g (((s.localOf g).map (fun a => 2 ^ a)).sum : Nat)

/-- The low 32 bits of a round number. -/
def State.roundNo (s : State) : Nat := s.varN .lockRound % 4294967296
/-- An accelerator leaves its group. -/
def State.leaveGroup (s : State) (a : Nat) : State :=
  let g := s.getN .lockGroup a
  let s := (s.put .lockGroup a 0xFFFFFFFF |>.put .lockState a lsNone |>.put .lagRounds a 0).modMember a (fun _ => {})
  if g < 65535 then s.syncGroup g else s

/-- A join or leave ends. -/
def State.lockDone (s : State) (c : LockCmd) (st : Status) : State :=
  ({ s with lockCmds := s.lockCmds.erase c }).complete c.origin .lockMembership st [c.group, c.mask, s.roundNo]

/-- A join is withdrawn. -/
def State.lockWithdraw (s : State) (c : LockCmd) (st : Status) : State :=
  (s.each ((List.range 8).filter (fun a => c.mask.testBit a && decide (s.groupOf a = some c.group) && !(s.lockMember a).joined)) State.leaveGroup).lockDone c st

/-- A partner departed: joins and leaves that name it end (R188). -/
def State.lockLost (s : State) (a : Nat) : State :=
  s.each (s.lockCmds.filter (fun c => c.mask.testBit a)) (fun s c => s.lockWithdraw c .partnerLost)

end Sys2Proof.Machine
end

