-- ==== Sys2Proof/Machine/ReefOps.lean ====
section
/-! DEFINITION. The REEF and FURL_N pins of an accelerator (R221, R343, R344), and partners that arrive and depart. -/

namespace Sys2Proof.Machine

/-- Report a change of the level in force, at most once per 1 ms per accelerator (R344). A change that may not be
reported yet waits for the next tray epoch. -/
def State.reportReef (s : State) (a : Nat) : State :=
  let new := s.get .reefLevel a
  if s.var .reefPend a ≠ 0 ∧ (s.var .reefEvAt a < 0 ∨ s.var .reefEvAt a + ms ≤ s.now) then
    let old := s.var .reefShown a
    let safety := decide (s.var .reefPend a = 2)
    let s := (s.setV .reefPend a 0 |>.setV .reefEvAt a s.now).setV .reefShown a new
    if old = new ∧ !safety then s
    else s.raiseAt .reefLevel (oAccel a) [a, old, new, s.get .reefSources a] safety s.now
  else s

/-- The level every tile votes for: the largest among the active sources (R343). -/
def State.reefTarget (s : State) (a : Nat) : Int :=
  ((List.range 7).map (fun b => if (s.getN .reefSources a).testBit b then s.var .reefSrc (8 * a + b) else 0)).foldl max 0

/-- REEF_LEVEL follows the pads (Table 8.12). -/
def State.syncReef (s : State) (a : Nat) : State :=
  let v := s.var .reefPad a
  if s.get .reefLevel a = v then s
  else (((((s.put .reefLevel a v).gauge (meterReef a) v).note 0x04 (oAccel a) [u32 v, u32 (s.get .reefSources a)]).setV .reefPend a (max 1 (s.var .reefPend a))).reportReef a)

/-- The tiles vote anew on an accelerator's REEF (R343). -/
def State.applyReef (s : State) (a : Nat) : State := (s.drive (outReef a) (s.reefTarget a)).syncReef a

/-- A reef source becomes active at a level (Table 8.6). -/
def State.setReef (s : State) (a bit : Nat) (level : Int) : State :=
  let src := s.getN .reefSources a
  let s : State := if src.testBit bit then s
    else ((s.put .reefSources a (src + 2 ^ bit : Nat)).gauge (meterSource a bit) 1).when (bit = 0 ∨ bit = 1 ∨ bit = 5) (fun s => s.setV .reefPend a 2)
  (s.setV .reefSrc (8 * a + bit) level).applyReef a

/-- A reef source ends. -/
def State.clearReef (s : State) (a bit : Nat) : State :=
  let src := s.getN .reefSources a
  if src.testBit bit then ((s.put .reefSources a (src - 2 ^ bit : Nat)).setV .reefSrc (8 * a + bit) 0).applyReef a else s

/-- A reef source takes a level, and ends at level 0. -/
def State.stepReef (s : State) (a bit : Nat) (level : Int) : State :=
  if level ≤ 0 then s.clearReef a bit else s.setReef a bit level

/-- The smallest level whose POWER is at most a target, in mW; 7 with no accepted reef table (R345, R347). -/
def State.levelFor (s : State) (a : Nat) (target : Int) : Int :=
  if s.flag .reefTable a then
    (((List.range 8).find? (fun k => decide (s.var .reefPower (8 * a + k) ≤ target))).getD 7 : Nat)
  else 7

/-- The accelerators the description in force declares. -/
def State.accels (s : State) : List Nat := (List.range 8).filter s.hasAccel

/-- FURL_N of an accelerator is asserted: its pad goes low (R221). -/
def State.assertFurl (s : State) (a : Nat) : State := (s.drive (outFurl a) 0).setV .furlHeld a 1

/-- FURL_N is released once all of the accelerator's domains are in regulation and its IDENTITY is accepted, in a
sequence later than the one FURL_N was asserted in (R221). -/
def State.releaseFurl (s : State) (a : Nat) : State :=
  if s.scope a = 3 ∧ s.flag .identified a ∧ !s.flag .furlHeld a then (s.drive (outFurl a) 1).put .furlState a 0 else s

/-- FURL_N of an accelerator is low. -/
def State.furled (s : State) (a : Nat) : Bool := s.var .pad (outFurl a) = 0

/-- EV_PARTNER_ARRIVED (R187). -/
def State.partnerArrived (s : State) (kind port : Nat) (o : ObjId) (serial : Nat) : State :=
  s.raise .partnerArrived o [kind, port, o, serial]

/-- EV_PARTNER_DEPARTED (R187, R189). -/
def State.partnerDeparted (s : State) (kind cause : Nat) (o : ObjId) (action : Nat) (safety : Bool) : State :=
  s.raiseAt .partnerDeparted o [kind, cause, o, action] safety s.now

/-- A running command that needs a departed partner completes with ST_PARTNER_LOST (R188). -/
def State.partnerLost (s : State) (needs : Origin → Bool) (e : Ev) (data : List Int) : State :=
  s.each (s.running.filter needs) (fun s o => s.complete o e .partnerLost data)

/-- Severity-2 holds and the no-link reef of the alert pin make reef source 3 (R222). -/
def State.refreshAlert (s : State) (a : Nat) : State :=
  let holds := (s.alertHolds.filter (fun h => h.accel = a)).map (·.level)
  let lvl := (holds.foldl max 0 : Nat)
  s.stepReef a 3 (if s.flag .alertNoLink a then 7 else lvl)

/-- An accelerator has departed (R193, R209, R222): no port is joined and its alert holds are gone; the no-link reef of its
alert pin stays. -/
def State.accelGone (s : State) (a : Nat) : State :=
  ((({ s with alertHolds := s.alertHolds.filter (fun h => h.accel ≠ a) } : State).setV .identified a 0).refreshAlert a).lockLost a

end Sys2Proof.Machine
end

