-- ==== Sys2Proof/Machine/SeqOps.lean ====
section
/-! DEFINITION. The sequencer's operations (chapter 6): rails and their conditions, scope states, runs, off-sequences,
incidents, and the judgement of rail samples. -/

namespace Sys2Proof.Machine

/-! ### Rails and tables (R231, R232, R241) -/

def State.rail (s : State) (k : Nat) : RailSt := s.rails.get {} k
def State.modRail (s : State) (k : Nat) (f : RailSt → RailSt) : State := { s with rails := s.rails.put {} k (f (s.rail k)) }

/-- The scope of a rail (R232). -/
def scopeOf (k : Nat) : Nat := if k < 64 then 8 else (k - 64) / 32

/-- The active table (R241). -/
def State.activeTable (s : State) : SeqTable := s.tables.get {} (s.getN .activeTable)

/-- The active table's entry of a rail (R243). -/
def State.entryOf (s : State) (k : Nat) : Option SeqEntry := s.activeTable.entries.find? (fun e => e.rail = k)

/-- The declared scopes. -/
def State.scopesDeclared (s : State) : List Nat := scopes.filter (fun i => decide (i = 8) && s.td.isSome || decide (i < 8) && s.hasAccel i)

/-- The declared rails of a scope. -/
def State.railsOf (s : State) (i : Nat) : List Nat :=
  if i = 8 then (List.range 64).filter (fun k => s.declared (oRail k))
  else (List.range 32).filter (fun d => s.hasDomain (32 * i + d)) |>.map (fun d => 64 + 32 * i + d)

/-- The object a scope's events name. -/
def oScope (i : Nat) : ObjId := if i < 8 then oAccel i else oDevice

/-- A relay is present (R190 codes). -/
def State.relayPresent (s : State) (r : Nat) : Bool := s.get .relayPresence r = 2

/-- A rail can be sensed: a domain rail needs its relay (R261). -/
def State.sensed (s : State) (k : Nat) : Bool := decide (k < 64) || s.relayPresent (relayOfDomain (k - 64))

/-- The rail counts as discharged (R237, R261). -/
def State.discharged (s : State) (k : Nat) : Bool :=
  if s.sensed k then (s.rail k).below
  else match s.scope (scopeOf k) with
    | 0 | 1 | 6 => true
    | 5 => decide (s.varN .dischargingAt (scopeOf k) + s.getN .minOffTime * ms ≤ s.seqNow)
    | _ => (s.rail k).below

/-- RAIL_STATUS (Table 6.12). -/
def State.railStatus (s : State) (k : Nat) : Nat :=
  let x := s.rail k
  let bit (b : Bool) (n : Nat) : Nat := if b then 2 ^ n else 0
  let n := (x.seen.filter (fun t => decide (s.now ≤ t + s.getN .luffWindow k * us))).length
  bit x.enabled 0 + bit x.raw 1 + bit x.good 2 + bit x.high 3 + bit (s.discharged k) 4 + bit x.above 5
    + bit (s.entryOf k).isSome 6 + bit x.heldOff 7 + min 15 n * 256 + x.lastCause * 65536 + scopeOf k * 16777216

/-! ### Sequence time (R244–R248) -/

/-- Round an instant up to a multiple of `g`. -/
def ceilTo (g t : Nat) : Nat := (t + g - 1) / g * g

/-- τ of a run at an instant; none before S. -/
def Run.tauAt (r : Run) (now : Ns) : Option Ns :=
  match r.start with
  | some st => if now < st then none else if r.holding then some r.tau else some (r.tau + (now - r.since))
  | none => none

/-- σ of an off-sequence at an instant; none before it is 0. -/
def OffRun.sigmaAt (r : OffRun) (now : Ns) : Option Ns :=
  if r.holding then some r.sigma else if now < r.since then none else some (r.sigma + (now - r.since))

/-- τ0 of a run: the smallest ON_SLOT among the entries of its scopes at its start (R245). -/
def State.slot0 (s : State) (r : Run) : Nat :=
  match (s.activeTable.entries.filter (fun e => scopeOf e.rail ∈ r.all)).map (·.onSlot) with
  | [] => 0
  | x :: xs => xs.foldl min x

/-- σ0 of an off-sequence: the smallest OFF_SLOT among the rails it disables (R248). -/
def State.offSlot0 (s : State) (r : OffRun) : Nat :=
  match r.all.map (fun k => ((s.entryOf k).map (·.offSlot)).getD 0) with
  | [] => 0
  | x :: xs => xs.foldl min x

/-- The run of a scope. -/
def State.runOf (s : State) (i : Nat) : Option Run := s.runs.find? (fun r => i ∈ r.scopes)

/-- A HOLD_ON rail of the run is enabled and not yet good-confirmed (R245). -/
def State.runHolds (s : State) (r : Run) : Bool :=
  s.activeTable.entries.any (fun e => e.holdOn && decide (scopeOf e.rail ∈ r.scopes) && (s.rail e.rail).enabled
    && !(s.rail e.rail).goodOnce)

/-- τ and σ stand still or move on as their holds are now. -/
def State.rehold (s : State) : State :=
  { s with
    runs := s.runs.map (fun r =>
      match r.tauAt s.seqNow with
      | none => r
      | some tau =>
        let h := s.runHolds r
        if h = r.holding then r else { r with tau, since := s.seqNow, holding := h })
    offRuns := s.offRuns.map (fun r =>
      match r.sigmaAt s.seqNow with
      | none => r
      | some sigma =>
        let h := r.all.any (fun k => (s.rail k).offHold)
        if h = r.holding then r else { r with sigma, since := s.seqNow, holding := h }) }

/-- SEQ_TIME of Table 6.7: τ in µs, 0xFFFF_FFFF outside ON_SEQ. -/
def State.seqTime (s : State) (i : Nat) : Nat :=
  if s.scope i = 2 then
    match (s.runOf i).bind (·.tauAt s.seqNow) with
    | some tau => tau / 1000
    | none => 0
  else 0xFFFFFFFF

/-! ### Incidents (R777, R265) -/

/-- A failure is confirmed: it begins an incident, or falls within the 100 µs of one (R265, R777). -/
def State.noteFailure (s : State) (f : Failure) : State :=
  if s.flag .incidentOpen then
    if (s.timer .firstFault 0).any (fun d => decide (s.seqNow ≤ d)) then { s with failures := s.failures ++ [f] } else s
  else
    let s := s.count .incident 0 |>.setV .incidentOpen 0 1 |>.setV .incidentScopes 0 0
    ({ s with failures := [f] }).armSeq .firstFault 0 (100 * us)

/-- A scope is involved in the open incident. -/
def State.involve (s : State) (i : Nat) : State :=
  if s.flag .incidentOpen then s.setV .incidentScopes 0 (s.varN .incidentScopes ||| 2 ^ i : Nat) else s

/-- The incident ends when every scope involved has ended it and its record is formed (R777). -/
def State.closeIncident (s : State) : State :=
  if s.flag .incidentOpen ∧ s.var .incidentScopes = 0 ∧ s.timer .firstFault 0 = none then s.setV .incidentOpen 0 0 else s

/-! ### Scope states (R251, R252) -/

/-- The scope's start commands have its outcome (R253): a command that waits for no more scopes completes. -/
def State.resolveStart (s : State) (i : Nat) (st : Status) (rail : Nat) : State :=
  let upd := s.starts.map (fun c =>
    if i ∈ c.scopes then
      let c := { c with scopes := c.scopes.erase i }
      if st ≠ .ok ∧ c.status = .ok then { c with status := st, rail } else c
    else c)
  let done := upd.filter (fun c => c.scopes.isEmpty)
  let s := { s with starts := upd.filter (fun c => !c.scopes.isEmpty) }
  s.each done (fun s c =>
    let one := objCls c.origin.object = 2
    s.finish c.origin .seqComplete c.status
      [if one then objIdx c.origin.object else 0xFF, if one then s.scope i else 0xFF, c.rail, s.get .incident] [])

/-- The scope's stop commands have its outcome (Table 6.9). -/
def State.resolveStop (s : State) (i : Nat) : State :=
  let upd := s.stops.map (fun c => { c with scopes := c.scopes.erase i })
  let done := upd.filter (fun c => c.scopes.isEmpty)
  let s := { s with stops := upd.filter (fun c => !c.scopes.isEmpty) }
  s.each done (fun s c =>
    let one := objCls c.origin.object = 2
    s.finish c.origin .seqComplete .ok
      [if one then objIdx c.origin.object else 0xFF, if one then s.scope i else 0xFF, 0xFFFF, s.get .incident] [])

/-- The furl of a scope. -/
def State.furlOf (s : State) (i : Nat) : FurlSt := s.furls.get {} i

/-- The FURL commands that wait for a scope's off-sequence (R461). -/
def State.resolveFurl (s : State) (i : Nat) : State :=
  let upd := s.furlCmds.map (fun c => { c with scopes := c.scopes.erase i })
  let done := upd.filter (fun c => c.scopes.isEmpty)
  let s := { s with furlCmds := upd.filter (fun c => !c.scopes.isEmpty) }
  s.each done (fun s c =>
    let sc := if objCls c.origin.object = 2 then objIdx c.origin.object else 8
    s.finish c.origin .furlDone .ok [sc, (s.furlOf sc).reason] [u64 (s.furlOf sc).cut])

/-- What follows when the domains of accelerator a are off: it departs with cause 7, its departure reef ends, and its
held budget node is released (R194, R195, Table 8.6). -/
def State.domainsOff (s : State) (a : Nat) : State :=
  let s : State := if s.get .accelPresence a = 2 then
      let s := (s.put .accelPresence a 4 |>.disarm .accelLoss a).disarm .telemetry a
      (s.accelGone a).partnerDeparted 1 7 (oAccel a) 0 false
    else s
  (s.clearReef a 4).setV .heldNode a (-1)

/-- A scope's state changes (R252), with the actions that hang on it: FURL_N at OFF_SEQ and at UP (R221), the discharge
timers, the departure of the accelerator, the end of an incident. -/
def State.setScope (s : State) (i : Nat) (new cause rail : Nat) : State :=
  let old := s.scope i
  let s : State := if i < 8 then s.put .seqState i new else s.put .traySeqState 0 new
  let s := s.raise .seqState (oScope i) [i, old, new, cause, rail, s.get .incident]
  let s : State := match new with
    | 1 => s.armSeq .startWait i (s.getN .startWait * sec)
    | 2 => if i < 8 then s.setV .furlHeld i 0 else s.put .trayFurlState 0 0
    | 3 => if i < 8 then s.releaseFurl i else s
    | 4 =>
      let s := (s.setV .offAt i s.seqNow).setV .offFrom i old
      if i < 8 then s.assertFurl i else s
    | 5 =>
      let s := (s.setV .dischargingAt i s.seqNow).armSeq .discharge i (s.getN .dischargeTimeout * ms)
      if i < 8 then s.domainsOff i else s
    | _ => s
  let s : State := if new ≠ 1 then s.disarm .startWait i else s
  let s : State := if new ≠ 5 then s.disarm .discharge i else s
  let s : State := if s.flag .stoppedBy6 i ∧ old = 5 ∧ (new = 0 ∨ new = 1) then s.setV .stoppedBy6 i 2 else s
  if new = 0 ∨ new = 3 ∨ new = 6 ∨ (old = 5 ∧ new = 1) then
    (s.setV .incidentScopes 0 (s.varN .incidentScopes &&& (0x1FF ^^^ 2 ^ i) : Nat)).closeIncident
  else if new = 4 then s.involve i
  else s

/-- Change every off-sequence; one without scopes has ended. -/
def State.modOffRuns (s : State) (f : OffRun → OffRun) : State :=
  { s with offRuns := (s.offRuns.map f).filter (fun r => !r.scopes.isEmpty) }

/-- A rail leaves the off-sequence that was to disable it. -/
def State.dropOffRail (s : State) (k : Nat) : State := s.modOffRuns (fun r => { r with rails := r.rails.erase k })

/-- Change every run; one without scopes has ended. -/
def State.modRuns (s : State) (f : Run → Run) : State := { s with runs := (s.runs.map f).filter (fun r => !r.scopes.isEmpty) }

/-- A scope leaves its run (R247, R255). -/
def State.leaveRun (s : State) (i : Nat) : State := (s.modRuns (fun r => { r with scopes := r.scopes.erase i })).rehold

/-- A domain's disable is under way: its reference still ramps down, on a loop engine that has its supply (R250). -/
def State.rampingDown (s : State) (k : Nat) : Bool :=
  decide (64 ≤ k) && decide ((s.dom (k - 64)).mode = .rampDown) && (s.regDom (k - 64)).isSome && s.sensed k

/-- Scopes whose last disable is done, with σ free of holds, enter DISCHARGING (Table 6.5); a domain's disable is done when
its legs have stopped (R250). -/
def State.offNext (s : State) : State :=
  let ready := s.offRuns.flatMap (fun r =>
    if r.holding then []
    else r.scopes.filter (fun i => !r.rails.any (fun k => scopeOf k = i) && !r.all.any (fun k => decide (scopeOf k = i) && s.rampingDown k)))
  let s := s.modOffRuns (fun r => { r with scopes := r.scopes.filter (fun i => i ∉ ready) })
  let s := s.each ready (fun s i => ((s.setScope i 5 0 0xFFFF).resolveStop i).resolveFurl i)
  let s := if 8 ∈ ready then s.leakFeeds else s
  if 8 ∈ ready ∧ s.get .trayFurlState = 2 ∧ s.flag .furlNoAuto then s.fallToStandby 3 else s.checkStandby

/-- Whether the start of a scope that an off-sequence overtakes was cancelled or aborted (Tables 6.5, 6.10). -/
def abortStatus (cause : Nat) : Status := if cause = 0 ∨ cause = 6 then .seqCancelled else .seqAborted

/-- The furl state of a scope (Table 11.4): 0 none, 1 furling, 2 cut. -/
def State.furlStateOf (s : State) (i : Nat) : Int := if i < 8 then s.get .furlState i else s.get .trayFurlState 0
def State.putFurl (s : State) (i : Nat) (v : Int) : State := if i < 8 then s.put .furlState i v else s.put .trayFurlState 0 v

/-- The furl or cut record of Table 11.3, which takes the place of the event's generic log record. -/
def State.furlRecord (s : State) (i : Nat) (cut : Bool) : State :=
  let f := s.furlOf i
  let body : List Fld :=
    [u16 (if cut then 0x243 else 0x242), u16 1, u8 i, u8 f.origin, u16 f.channel, u64 f.start, u64 (if cut then s.now else 0),
     u64 s.journal.committed, u32 f.temp, u32 f.threshold, u32 f.deadline, u8 (if cut then f.reason else 0xFF),
     u8 (s.get .powerState), u8 s.membership, rsv 13]
  s.logAdd { type := if cut then 0x243 else 0x242, src := oScope i, stamp := s.now, csn := s.journal.committed
             safety := true, tile := s.flashTile, payload := withCrc body }

/-- Scopes enter OFF_SEQ: one trigger begins one off-sequence, with one σ (R248, R252). -/
def State.beginOffOf (s : State) (items : List (Nat × Nat × Nat)) : State :=
  let live := items.filter (fun x => s.scope x.1 = 2 ∨ s.scope x.1 = 3)
  let ids := live.map (·.1)
  if ids.isEmpty then s
  else
    let s := s.each live (fun s x =>
      let was := s.scope x.1
      let s := (s.leaveRun x.1).setScope x.1 4 x.2.1 x.2.2
      let s := s.when (x.2.1 = 6) (fun s => s.setV .stoppedBy6 x.1 1)
      let s := s.when (x.1 < 8 ∧ s.furlStateOf x.1 = 1) (fun s => s.putFurl x.1 2)
      if was = 2 then s.resolveStart x.1 (abortStatus x.2.1) x.2.2 else s)
    let rails := (List.range 320).filter (fun k => (s.rail k).enabled && decide (scopeOf k ∈ ids))
    let run : OffRun := { scopes := ids, rails, all := rails, since := ceilTo us (s.seqNow + 2 * us) }
    { s with offRuns := s.offRuns ++ [run] }.offNext

/-- The cut of a furling scope (R456): EV_FURL_CUT, the cut record, and the scope's off-sequence with cause 9. -/
def State.cutScope (s : State) (i reason : Nat) : State :=
  if s.furlStateOf i = 1 then
    let s := { s with furls := s.furls.put {} i { s.furlOf i with reason } }.putFurl i 2
    let s := (s.furlRecord i true).raiseSafety .furlCut (oScope i) [i, reason, s.now]
    let s := (s.leakAtCut i).beginOffOf [(i, 9, 0xFFFF)]
    if i = 8 then
      let s := s.setV .furlNoAuto 0 1 |>.setV .restartWanted 0 0 |>.setV .autoStart 0 0
      if s.scope 8 = 4 then s else s.fallToStandby 3
    else s
  else s

/-- Scope 8 of a tray furl is cut once no accelerator scope furls any more, for the reason of the last (R456); a furl
that found none to wait for is cut for reason 1. -/
def State.cutTray (s : State) (reason : Nat) : State :=
  if s.furlStateOf 8 = 1 ∧ !s.accels.any (fun a => decide (s.get .furlState a = 1)) then s.cutScope 8 reason else s

/-- An off-sequence begins (R248, R252) for the scopes in ON_SEQ or UP among `items`, each with its cause and rail. It
ends any furl of those scopes, and with the last of them the tray's. -/
def State.beginOff (s : State) (items : List (Nat × Nat × Nat)) : State := (s.beginOffOf items).cutTray 1

/-- A furling scope is cut (R456). -/
def State.cutFurl (s : State) (i reason : Nat) : State := (s.cutScope i reason).cutTray reason

/-- Every scope, the named one with its own cause and rail, the others with cause 10 (Table 6.5). -/
def linked (i cause rail : Nat) : List (Nat × Nat × Nat) :=
  scopes.map (fun j => if j = i then (j, cause, rail) else (j, 10, rail))

/-! ### Enabling and disabling rails (R245, R248, R250) -/

/-- A rail's enable instant. -/
def State.enableRail (s : State) (k : Nat) (e : SeqEntry) : State :=
  let s := s.modRail k (fun x => { x with
    enabled := true, goodOnce := false, transitions := [], seen := []
    deadline := some (s.seqNow + e.goodDeadline * 10 * us), disabledAt := none, offHold := false })
  let s : State := if k < 64 then s.drive (outRail k) 1 else s.domainStart (k - 64) (e.ramp * 10 * us)
  s.rehold

/-- A rail's disable. A command that waits for the rail to become good fails. -/
def State.disableRail (s : State) (k : Nat) : State :=
  let x := s.rail k
  let s := s.modRail k (fun x => { x with enabled := false, deadline := none, disabledAt := some s.seqNow, enableCmd := none })
  let s : State := if k < 64 then s.drive (outRail k) 0
    else if s.sensed k && (s.regDom (k - 64)).isSome then s.domainStop (k - 64) ((((s.entryOf k).map (·.ramp)).getD 0) * 10 * us)
    else s.domainHalt (k - 64)
  let s : State := match x.enableCmd with
    | some o => s.finish o .seqComplete .seqAborted [scopeOf k, s.scope (scopeOf k), k, s.get .incident] []
    | none => s
  s.rehold

/-- A scope in ON_SEQ whose rails of the active table are all good-confirmed or held off reaches UP (R247). -/
def State.checkUp (s : State) (i : Nat) : State :=
  let ok := s.activeTable.entries.all (fun e => decide (scopeOf e.rail ≠ i) || (s.rail e.rail).heldOff
    || ((s.rail e.rail).goodOnce && (s.rail e.rail).good))
  if s.scope i = 2 ∧ ok then ((s.setScope i 3 0 0xFFFF).leaveRun i).resolveStart i .ok 0xFFFF else s

/-! ### Faults and trips (R255, R262–R265) -/

/-- A rail's scope is in ON_SEQ or UP, or was until a trigger of the present sample instant (R256): its state then. -/
def State.liveState (s : State) (i : Nat) : Option Int :=
  if s.scope i = 2 ∨ s.scope i = 3 then some (s.scope i)
  else if s.scope i = 4 ∧ s.var .offAt i = s.seqNow ∧ (s.var .offFrom i = 2 ∨ s.var .offFrom i = 3) then some (s.var .offFrom i)
  else none

/-- The failure of a rail as the first-fault record takes it (Table 6.7). -/
def State.failureOf (s : State) (k cause : Nat) (fail : Ns) : Failure :=
  let i := scopeOf k
  { rail := k, cause, failTime := fail, confirmTime := s.seqNow, scope := i, state := ((s.liveState i).getD (s.scope i)).toNat
    code := (s.rail k).code, seqTime := s.seqTime i }

/-- A fault of a rail whose scope is in ON_SEQ or UP (R255, R262): EV_RAIL_FAULT, the incident, and the rail's ACTION,
which changes nothing more where another trigger of the same sample instant came first (R256). A rail that ENABLE_RAIL was
enabling is disabled and held off again (R264). -/
def State.railFault (s : State) (k cause : Nat) (fail : Ns) : State :=
  let i := scopeOf k
  let action := ((s.entryOf k).map (·.action)).getD 0
  let on := decide (s.liveState i = some 2)
  let eff := if k < 64 then (if on || decide (1 ≤ action) then 2 else 0)
    else if action = 2 then 2 else if on || decide (action = 1) then 1 else 0
  let f := s.failureOf k cause fail
  let s := (s.modRail k (fun x => { x with lastCause := cause })).raise .railFault (oRail k) [k, cause, eff, f.code, fail]
  let s := s.when (decide (64 ≤ k)) (fun s => s.gauge (meterFault (k - 64)) 1)
  let s := s.noteFailure f
  let s : State := if (s.rail k).enableCmd.isSome then (s.disableRail k).modRail k (fun x => { x with heldOff := true }) else s
  match eff with
  | 0 => s
  | 1 => s.beginOff [(i, cause, k)]
  | _ => s.beginOff (linked i cause k)

/-- OVER confirmed on an enabled rail trips it, and aborts its scope (R263); a tray rail, or a domain with ACTION 2,
aborts every scope. -/
def State.railTrip (s : State) (k : Nat) (fail : Ns) : State :=
  let s := s.stopTrials [oRail k]
  let i := scopeOf k
  let f := s.failureOf k 3 fail
  let live := (s.liveState i).isSome
  let all := decide (k < 64) || decide ((s.entryOf k).any (fun e => e.action = 2))
  let s := s.modRail k (fun x => { x with enabled := false, deadline := none, disabledAt := some s.seqNow, lastCause := 3 })
  let s : State := if k < 64 then s.drive (outRail k) 0 else s.domainTrip (k - 64) 3
  let s := (s.journalSafety (oRail k) 3).raiseSafety .railTrip (oRail k) [k, f.code, fail]
  let s : State := match (s.rail k).enableCmd with
    | some o => (s.modRail k (fun x => { x with enableCmd := none })).finish o .seqComplete .seqAborted [i, s.scope i, k, s.get .incident] []
    | none => s
  let s := s.dropOffRail k
  let s := s.rehold.offNext
  if live then (s.noteFailure f).beginOff (if all then linked i 3 k else [(i, 3, k)]) else s

/-- Good is confirmed on an enabled rail for the first time since its enable. -/
def State.railGood (s : State) (k : Nat) : State :=
  let x := s.rail k
  let s := (s.modRail k (fun x => { x with goodOnce := true, deadline := none, enableCmd := none })).rehold
  let s : State := match x.enableCmd with
    | some o => s.finish o .seqComplete .ok [scopeOf k, s.scope (scopeOf k), 0xFFFF, s.get .incident] []
    | none => s
  s.checkUp (scopeOf k)

/-! ### Rail samples (R233–R239) -/

/-- The instant a condition has been met since. -/
def metSince (old : Option Ns) (met : Bool) (now : Ns) : Option Ns := if met then some (old.getD now) else none

/-- A condition is confirmed: met at every sample of its filter time (R237). -/
def confirmed (since : Option Ns) (filter now : Ns) : Bool := since.any (fun t => decide (t + filter ≤ now))

/-- One sample of a rail: its code and the conditions met of Table 6.2. -/
structure RailReading where
  rail : Nat
  code : Nat
  above : Bool
  high : Bool
  low : Bool
  below : Bool

/-- The conditions a sample brings about, and which of them are newly confirmed (R236–R239): luffing is counted from
enable to disable, and its five transitions never count again. Answers the rail's new record and the failure instant of a
luffing confirmed. -/
def State.readRail (s : State) (r : RailReading) : RailSt × Option Ns :=
  let k := r.rail
  let x := s.rail k
  let now := s.seqNow
  let inj := s.injected (0x400 + k)
  let since := (s.timer .injHold (0x400 + k)).getD now - (s.points.get {} (0x400 + k)).duration * us
  let above := r.above || decide (inj = some 2)
  let high := r.high || decide (inj = some 1 ∨ inj = some 2)
  let low := r.low || decide (inj = some 0) || (decide (inj = some 3) && decide ((now - since) / (4 * us) % 2 = 0))
  let raw := !high && !low
  let g := s.getN .glitch k * us
  let window := s.getN .luffWindow k * us
  let change := x.enabled && raw != x.raw
  let trs := if change then (x.transitions.filter (fun t => decide (now ≤ t + window))) ++ [now] else x.transitions
  let luff := if 5 ≤ trs.length then trs.head? else none
  let y : RailSt := { x with
    code := r.code
    overSince := metSince x.overSince above now
    highSince := metSince x.highSince high now
    lowSince := metSince x.lowSince low now
    belowSince := metSince x.belowSince r.below now
    goodSince := metSince x.goodSince raw now
    raw
    transitions := if luff.isSome then [] else trs
    seen := if change then x.seen.filter (fun t => decide (now ≤ t + window)) ++ [now] else x.seen }
  let y := { y with
    above := confirmed y.overSince (s.getN .ovGlitch k * us) now
    high := confirmed y.highSince g now
    low := confirmed y.lowSince g now
    below := confirmed y.belowSince ms now
    good := confirmed y.goodSince g now }
  ({ y with undischargedSince := if y.below then none else some (x.undischargedSince.getD now) }, luff)

/-- The rank of what a sample confirms (R239, R256): overvoltage, then luffing, then LOW or HIGH, then nothing. -/
def State.railRank (s : State) (r : RailReading) : Nat :=
  let x := s.rail r.rail
  let (y, luff) := s.readRail r
  if y.above && !x.above && y.enabled then 0
  else if luff.isSome then 1
  else if y.goodOnce && ((y.low && !x.low) || (y.high && !x.high)) then 2
  else 3

/-- One sample of a rail is judged (R236–R239, R256, R262, R263): the highest-ranked of the conditions newly confirmed
decides. A scope whose last rail is good again may reach UP (R247). -/
def State.sampleRail (s : State) (r : RailReading) : State :=
  let k := r.rail
  let x := s.rail k
  let (y, luff) := s.readRail r
  let s := s.spend (0x400 + k)
  let s := (s.modRail k (fun _ => y)).put .voltage k (y.code * s.get .scale k)
  let i := scopeOf k
  let judged := !y.heldOff && (s.liveState i).isSome && y.enabled
  let s : State := match luff with
    | some t => s.raise .railLuffing (oRail k) [k, 5, s.get .luffWindow k, t]
    | none => s
  let s : State :=
    if y.above && !x.above && y.enabled then s.railTrip k (y.overSince.getD s.seqNow)
    else match luff with
      | some t => if judged && (s.entryOf k).isSome then s.railFault k 2 t else s
      | none =>
        if judged && y.goodOnce && y.low && !x.low then s.railFault k 4 (y.lowSince.getD s.seqNow)
        else if judged && y.goodOnce && y.high && !x.high then s.railFault k 5 (y.highSince.getD s.seqNow)
        else if y.enabled && y.good && !y.goodOnce then s.railGood k
        else if y.enabled && y.good && !x.good then s.checkUp i
        else s
  let s : State := if (s.rail k).offHold && s.discharged k then
      (s.modRail k (fun x => { x with offHold := false })).rehold.offNext
    else s
  if s.scope i = 0 ∧ y.undischargedSince.any (fun t => decide (t + ms ≤ s.seqNow)) then
    (s.setScope i 6 11 k).raise .railNotDischarged (oRail k) [k, i, y.code]
  else s

/-- The samples of one instant are judged, the highest-ranked of the rails first (R256), reckoned at that instant (R240). -/
def State.sampleRails (s : State) (at_ : Ns) (l : List RailReading) : State :=
  s.reckon at_ (fun s => s.each (sortBy (fun x y => decide (s.railRank x ≤ s.railRank y)) l) State.sampleRail)

/-- The rails of an absent relay can no longer be sensed: they hold σ for no time (R261). -/
def State.relayUnsensed (s : State) (r : Nat) : State :=
  let s := s.each (List.range 16) (fun s j => s.modRail (64 + domainOfRelay r j) (fun x => { x with offHold := false }))
  s.rehold.offNext

/-! ### Starting (R253, R254, Table 6.6) -/

/-- A scope, or scopes, wait for the preconditions of a run (R253). -/
def State.beginWait (s : State) (ids : List Nat) (joint auto : Bool) : State :=
  if ids.isEmpty then s
  else
    let s := s.each ids (fun s i => s.setScope i 1 (if auto then 13 else 0) 0xFFFF)
    { s with runs := s.runs ++ [{ scopes := ids, all := ids, joint, auto }] }

/-- Scopes in WAIT_READY are cancelled (Table 6.5). -/
def State.cancelWait (s : State) (ids : List Nat) (cause : Nat) : State :=
  s.each (ids.filter (fun i => s.scope i = 1)) (fun s i =>
    ((s.leaveRun i).setScope i 0 cause 0xFFFF).resolveStart i .seqCancelled 0xFFFF |>.resolveStop i)

/-- The scope's pending start is cancelled (R253, Table 6.10). -/
def State.cancelPending (s : State) (i : Nat) : State :=
  if s.flag .pendingStart i then (s.setV .pendingStart i 0).resolveStart i .seqCancelled 0xFFFF else s

/-- The declared relays of an accelerator that are not present. -/
def State.relaysMissing (s : State) (a : Nat) : Bool := [2 * a, 2 * a + 1].any (fun r => s.hasRelay r && !s.relayPresent r)

/-- Main and Mizzen are each ready or fenced (R46, Table 6.6). -/
def State.tilesSettled (s : State) : Bool :=
  [1, 2].all (fun t => decide (s.member.tiles ≤ t) || decide (s.var .tilePhase t = 3 ∨ s.var .tilePhase t = 4))

/-- A thermal channel bars the start of a scope (R459): it names the scope and is above FURL_T − HYST, or is lost with
LOSS_ACTION 1. -/
def State.thermalBars (s : State) (i : Nat) : Bool :=
  (List.range 984).any (fun c =>
    (s.getN .owner c).testBit (if i = 8 then 15 else i) &&
    ((s.getN .thermalStatus c).testBit 9 || ((s.getN .thermalStatus c).testBit 1 && decide (s.get .lossAction c = 1))))

/-- Instants of automatic restarts in the last 3,600 s (R260). -/
def State.recentRestarts (s : State) : List Ns := s.restarts.filter (fun t => decide (s.now < t + 3600 * sec))

/-- The preconditions of a run but for its relays (Table 6.6, R459, R512). -/
def State.runReady (s : State) (r : Run) : Bool :=
  decide (s.get .powerState = psRunning) && decide (s.get .flowProven = 1) && s.flag .mainGood && s.tilesSettled
    && r.scopes.all (fun i => !s.thermalBars i && !s.leakBars i)
    && (!r.auto || (decide (s.get .firstFaultLatched = 0) && !s.flag .furlNoAuto))

end Sys2Proof.Machine
end

