-- ==== Sys2Proof/Machine/FurlOps.lean ====
section
/-! DEFINITION. Starting a furl (R454–R458). -/

namespace Sys2Proof.Machine

/-- An accelerator's part of a furl (R456, R458): in UP it furls until its cut; in ON_SEQ it is cut at once; in
WAIT_READY its start is cancelled; elsewhere FURL_N is asserted and nothing is cut. A furl of a furling scope keeps
the first origin and the earlier cut instant. -/
def State.furlAccel (s : State) (a : Nat) (f : FurlSt) : State :=
  let s := s.assertFurl a
  if s.get .furlState a = 1 then
    let old := s.furlOf a
    { s with furls := s.furls.put {} a { old with cut := min old.cut f.cut, deadline := if f.cut < old.cut then f.deadline else old.deadline } }
  else
    let s := { s with furls := s.furls.put {} a f }
    match s.scope a with
    | 3 => s.put .furlState a 1
    | 2 => (s.put .furlState a 1).cutScope a 3
    | 1 => (s.cancelWait [a] 0).put .furlState a 2
    | _ => s.put .furlState a 2

/-- A furl of scope i starts (R454, R455): FURL_N, the SAFETY entry, EV_FURL and the furl record. A furl of a furling
scope raises EV_FURL again only when its cut instant moves earlier (R458). -/
def State.startFurl (s : State) (i origin channel : Nat) (temp threshold : Int) (deadline : Nat) : State :=
  let s := s.stopTrials (if i < 8 then [oAccel i] else (List.range 8).map oAccel)
  let f : FurlSt := { origin, channel, start := s.now, cut := s.now + deadline * ms, deadline, temp, threshold }
  let old := s.furlOf i
  let again := decide (s.furlStateOf i = 1)
  let g : FurlSt := if again then { old with cut := min old.cut f.cut, deadline := if f.cut < old.cut then deadline else old.deadline } else f
  let report := !again || decide (f.cut < old.cut)
  let s : State := if i < 8 then s else ({ s with furls := s.furls.put {} 8 g }).putFurl 8 1
  let s : State := if i < 8 then s.assertFurl i else s.each s.accels State.assertFurl
  let s := s.journalSafety (oScope i) origin
  let s : State := if report then
      let s := s.raiseSafety .furl (oScope i) [i, g.origin, g.channel, g.deadline, g.cut]
      let held := s.furls
      { ({ s with furls := s.furls.put {} i g }).furlRecord i false with furls := held }
    else s
  if i < 8 then (s.furlAccel i f).cutTray 1
  else ((s.each s.accels (fun s a => s.furlAccel a f)).cancelWait [8] 0).cutTray 1

/-- A furl with the device's deadline (R455). -/
def State.furl (s : State) (i origin channel : Nat) (temp threshold : Int) : State :=
  s.startFurl i origin channel temp threshold (s.getN .furlDeadline)

/-- A furl that no reading started: its record names no channel and no temperature (Table 11.3). -/
def State.furlPlain (s : State) (i origin : Nat) : State := s.furl i origin 0xFFFF (-2147483648) 0

end Sys2Proof.Machine
end

