-- ==== Sys2Proof/Machine/LinkOps.lean ====
section
/-! DEFINITION. The link layer's operations, shared by Shroud, Sheet and Ratline: port states, flit queues, credits, and
sending messages (R199–R207, R569–R573). -/

namespace Sys2Proof.Machine

/-- The tile a port stands on (Table 1.4): even Shroud and Sheet ports on Fore, odd ones on Main; Ratline ports 0–4 on
Fore. -/
def portTile (p : Nat) : Nat := if p < 48 then p % 2 else if p - 48 < 5 then 0 else 1

/-- The flit buffers of a receiver, by channel (R205, Table 14.1). -/
def bufferCounts (p : Nat) : List Nat := if isShroud p then [48, 16] else [16, 16, 32, 48, 48]

/-- Some Shroud port of the accelerator is ACTIVE. -/
def State.accelUp (s : State) (a : Nat) : Bool := s.linkUp (2 * a) || s.linkUp (2 * a + 1)

/-- A fresh retry state (R205, R206): SEQ, ACK, the replay buffer and credits start anew. -/
def Link.fresh (x : Link) (p : Nat) : Link :=
  { x with rxSeq := 4095, rxSeen := false, rxBuf := {}, nak := false, nakDue := false, badRun := 0, txSeq := 0, unacked := []
           queue := [], credits := bufferCounts p, replays := 0 }

/-- Training starts anew: no good TRAIN flit has been received, and the one-way delay is measured afresh. -/
def Link.untrained (x : Link) : Link := { x with rxGood := 0, aligned := false, rxOk := 0, best := none }

/-- The state properties follow the links (SHROUD_STATE, SHEET_STATE, PORT_STATE). -/
def State.syncLink (s : State) (p : Nat) : State :=
  if p < 16 then s.put .shroudState (p / 2) ((s.link (p / 2 * 2)).state + 16 * (s.link (p / 2 * 2 + 1)).state : Nat)
  else if p < 48 then
    let r := (p - 16) / 2
    s.put .sheetState r ((s.link (16 + 2 * r)).state + 16 * (s.link (17 + 2 * r)).state : Nat)
  else s.put .ratlinePortState (p - 48) (s.link p).state

/-- Entry to or exit from ACTIVE, DISABLED or RETRAIN is reported (Tables 5.17, 7.11, 14.12). -/
def State.reportLink (s : State) (p old new : Nat) : State :=
  let shown (x : Nat) : Bool := decide (4 ≤ x)
  if old = new ∨ !(shown old || shown new) then s
  else if p < 16 then s.raise .shroudPort (oAccel (p / 2)) [(p / 2 : Nat), (p % 2 : Nat), old, new]
  else if p < 48 then s.raise .sheetPort (oRelay ((p - 16) / 2)) [((p - 16) / 2 : Nat), ((p - 16) % 2 : Nat), old, new]
  else s.raise .ratPort (oRatPort (p - 48)) [(p - 48 : Nat), old, new, s.get .portRole (p - 48)]

/-- A flit port that is not ACTIVE or DISABLED sends TRAIN flits (R200), while its tile and island run. They go out
continuously; the model sends one at each entry to a state and one for each received (log entry 256). -/
def State.sendTrain (s : State) (p : Nat) : State :=
  let x := s.link p
  if (p < 16 ∨ 48 ≤ p) ∧ p < 58 ∧ x.state ≠ lkActive ∧ x.state ≠ lkDisabled ∧ s.islandRuns (portTile p) (if p < 48 then 2 else 3) then
    s.send (.flit p (flitBytes 3 0 0 none 0 0 (s.training p)))
  else s

/-- A port enters a state (Table 5.4). DOWN clears its retry state (R206), and ends a rejection; ACTIVE after IDENT counts
the credits (R205). -/
def State.setLink (s : State) (p new : Nat) : State :=
  let old := (s.link p).state
  let s := s.modLink p (fun x =>
    let y := { x with state := new, since := s.now }
    if new = lkDown then { (y.fresh p).untrained with why := 0, whySerial := 0 }
    else if new = lkLock ∨ new = lkRetrain then { y.untrained with left := s.now, badRun := 0 }
    else if new = lkActive ∧ old = lkIdent then { y with credits := bufferCounts p }
    else y)
  ((s.syncLink p).reportLink p old new).sendTrain p

end Sys2Proof.Machine
end

