-- ==== Sys2Proof/Machine/TimeOps.lean ====
section
/-! DEFINITION. Common time's states (R70–R77). -/

namespace Sys2Proof.Machine

/-- Common time is LOCKED. -/
def State.locked (s : State) : Bool := decide (s.timeState = 2)

/-- HOPS while common time has no source that gives it (Table 2.3): 0 at a masthead, else unknown. -/
def State.hopsFree (s : State) : Nat := if s.isMasthead then 0 else 255

/-- TIME_STATUS is written; a change of STATE raises EV_TIME_STATE (R76), and an advert where ROOT_TIMED changes with it (R579).
REFCLK_OK is kept; PPS_USED is 1 while PPS_IN disciplines this masthead. -/
def State.putTime (s : State) (st src hops : Nat) (err : Int) : State :=
  let old := s.getN .timeStatus
  let new := st + 256 * src + old / 1024 % 2 * 1024 + (if st = 2 ∧ src = 3 then 2048 else 0) + 65536 * hops
  let s := (s.put .timeStatus 0 new).put .timeError 0 err
  let s := s.when (s.isMasthead && decide ((old % 16 = 0) ≠ (st = 0))) State.advertise
  if old % 16 = st then s else s.raise .timeState oDevice [old, new]

/-- REFCLK_OK (Table 2.3). -/
def State.putRefclk (s : State) (ok : Bool) : State :=
  let old := s.getN .timeStatus
  s.put .timeStatus 0 (old - old / 1024 % 2 * 1024 + (if ok then 1024 else 0) : Nat)

/-- HOPS follows the tree while common time has no source that gives it. -/
def State.syncHops (s : State) : State :=
  let old := s.getN .timeStatus
  if s.timeState ≤ 1 then s.put .timeStatus 0 (old - old / 65536 % 256 * 65536 + 65536 * s.hopsFree : Nat) else s

/-- The time master's tile: Fore, or Main while Fore is out of service (R65, R69). Mizzen alone masters its own time: the manual names
no master then, and this is the model's choice (log entry 245). -/
def State.timeTile (s : State) : Nat := if s.inService 0 then 0 else if s.inService 1 then 1 else if s.inService 2 then 2 else 0

/-- A tile's loop moves to its own backup oscillator (R67, R69). One not measured for 60 s by then does not count as measured (R70). -/
def State.loopMoves (s : State) (x : Nat) : State :=
  let s := s.setV .oscUse x 1
  if s.var .oscMeasured x < 0 ∨ s.now < s.varN .oscMeasured x + 60 * sec then s.setV .oscMeasured x (-1) else s

/-- A tile's loop is locked to its reference again; its oscillator is measured from then on (R66). -/
def State.loopBack (s : State) (x : Nat) : State := (s.setV .oscUse x 0).setV .oscMeasured x (-1)

/-- The time master has changed (R65, R69): the new one, but for Fore, runs on its backup oscillator and forwards it, and the others lock
to what it forwards. -/
def State.settleLoops (s : State) : State :=
  s.each (s.tilesIn.filter (fun x => x ≠ 0)) (fun s x =>
    if x = s.timeTile then (if s.flag .oscUse x then s else s.loopMoves x)
    else if s.flag .oscUse x then s.loopBack x else s)

/-- A tile's backup oscillator had been measured for 60 s (R70). -/
def State.oscGood (s : State) (x : Nat) : Bool := decide (0 ≤ s.var .oscMeasured x ∧ s.var .oscMeasured x + 60 * sec ≤ s.now)

/-- The source of common time is lost (Table 2.4, R70): LOCKED becomes HOLDOVER, and TIME_ERROR grows from there; each tile's measurement
and temperature at that instant are kept. SOURCE and HOPS read those of the lost source: the manual does not say what they read in
HOLDOVER, and this is the model's choice (log entry 246). -/
def State.timeLost (s : State) : State :=
  if s.timeState = 2 then
    let s := s.each [0, 1, 2] (fun s x => (s.setV .holdGood x (if s.oscGood x then 1 else 0)).setV .holdTemp x (s.get .thermalTemperature (24 * x)))
    let s := (s.setV .holdErr 0 (s.get .timeError)).setV .holdAt 0 s.now |>.setV .holdPpm 0 (if s.flag .holdGood s.timeTile then 2 else 25)
    s.putTime 3 s.timeSource (s.getN .timeStatus / 65536 % 256) (s.get .timeError)
  else s

/-- Common time locks (Table 2.4, R77): to PPS_IN at a masthead, or to a Ratline parent `hops` from the masthead. -/
def State.timeLock (s : State) (src hops : Nat) : State := s.putTime 2 src hops (20 * max 1 hops : Nat)

/-- What is left of the slew that runs, ns (R71): while the counter gains 10,005 ns or gains 9,995 ns, 5 ns of the correction are applied.
The instants of commands are readings of the counter (log entry 247). -/
def State.slewLeft (s : State) : Int :=
  let e : Nat := s.now - s.varN .slewAt
  if 0 ≤ s.var .slew then max 0 (s.var .slew - (e * 5 / 10005 : Nat)) else min 0 (s.var .slew + (e * 5 / 9995 : Nat))

/-- The rate of the counter in parts of its normal rate: 1.0005 while it is slewed forward, 0.9995 while it is slewed back (R71), trimmed
to the Ratline parent's by the parts in a thousand million of `rateTrim` (R587). -/
def State.counterRate (s : State) : Rat :=
  (if 0 < s.slewLeft then 10005 / 10000 else if s.slewLeft < 0 then 9995 / 10000 else 1) * (1 + (s.var .rateTrim : Rat) / 1000000000)

/-- A correction of common time (R71): forward by more than 10 µs it is one step, else it is slewed. It is measured against the counter as
it stands, and replaces what is left of a slew that runs: the manual does not say how two combine, and this is the model's choice (log
entry 248). -/
def State.correct (s : State) (delta : Int) : State :=
  if 10000 < delta then
    let before := s.now
    let s := { s with now := s.now + delta.toNat }
    (s.setV .slew 0 0).raise .timeStep oDevice [before, s.now]
  else (s.setV .slew 0 delta).setV .slewAt 0 s.now

end Sys2Proof.Machine
end

