-- ==== Sys2Proof/Machine/TreeOps.lean ====
section
/-! DEFINITION. The Ratline tree: adverts, the tray's place, port roles, and the routes of messages (R575–R589). -/

namespace Sys2Proof.Machine

def State.rat (s : State) (p : Nat) : RatPort := s.ratPorts.get {} p
def State.modRat (s : State) (p : Nat) (f : RatPort → RatPort) : State := { s with ratPorts := s.ratPorts.put {} p (f (s.rat p)) }

/-- A fresh advert of a port (R580). -/
def State.freshAdvert (s : State) (p : Nat) : Option Advert :=
  if s.ratUp p ∧ s.now < (s.rat p).freshAt + ms then (s.rat p).advert else none

/-- The adverts that count as candidates, with their ports: fresh, no CHILD, DEPTH at most 6 (R580). -/
def State.candidates (s : State) : List (Nat × Advert) :=
  (List.range 10).filterMap (fun p => match s.freshAdvert p with
    | some a => if a.child ∨ 6 < a.depth then none else some (p, a)
    | none => none)

/-- (priority, serial) is lower (R580). -/
def better (p q : Nat × Nat) : Bool := decide (p.1 < q.1) || (decide (p.1 = q.1) && decide (p.2 < q.2))

/-- The best of a list of roots. -/
def bestRoot (own : Nat × Nat) (l : List (Nat × Advert)) : Nat × Nat :=
  l.foldl (fun b x => if better (x.2.prio, x.2.root) b then (x.2.prio, x.2.root) else b) own

/-- The port with the lowest DEPTH, the lowest index on a tie. -/
def shallowest : List (Nat × Advert) → Option (Nat × Advert)
  | [] => none
  | x :: rest => match shallowest rest with
    | some y => if y.2.depth < x.2.depth then some y else some x
    | none => some x

/-- The roles of the ports follow from the adverts (R582). -/
def State.setRoles (s : State) : State :=
  let u := s.var .upPort
  let alt : Option Nat := (s.candidates.find? (fun x => decide ((x.1 : Int) ≠ u ∧ 0 ≤ u ∧ (x.2.root : Int) = s.var .rootSerial
      ∧ (x.2.depth : Int) + 1 = s.get .depth))).map (fun x => x.1)
  s.each (List.range 10) (fun s p =>
    let role : Int := if !s.ratUp p then 0 else if (p : Int) = u then 1 else if alt = some p then 2
      else if (s.freshAdvert p).any (·.child) then 3 else 4
    s.put .portRole p role)

/-- HEIGHT (R583): one more than the largest advertised by the DOWN neighbours. -/
def State.setHeight (s : State) : State :=
  let hs := (List.range 10).filterMap (fun p =>
    if s.get .portRole p = 3 then (s.freshAdvert p).map (fun a => a.height + 1) else none)
  s.put .height 0 (hs.foldl max 0 : Nat)

/-- The tray takes a place in the tree (R582): masthead (`up` −1, depth 0), outside it (depth 255), or under a port. -/
def State.place (s : State) (up depth taddr : Int) (root prio seq : Nat) (cause : Int) : State :=
  let oldUp := s.var .upPort
  let oldT := s.get .taddr
  let oldRoot : Int := if s.var .rootSerial = 0 then s.var .serial else s.var .rootSerial
  let s := (s.setV .upPort 0 up).put .depth 0 depth |>.put .taddr 0 taddr |>.setV .rootSerial 0 root |>.setV .rootPrio 0 prio
  let s : State := if 0 ≤ up then s.setV .rootSeq 0 seq else if 0 ≤ oldUp then s.setV .installNew 0 2 else s
  let newRoot : Int := if s.var .rootSerial = 0 then s.var .serial else s.var .rootSerial
  let s : State := if oldUp ≠ up ∨ oldT ≠ taddr then
      (s.count .treeChanges 0).raise .ratParent oDevice
        [if oldUp < 0 then 0xFF else oldUp, if up < 0 then 0xFF else up, cause, depth, oldT, taddr]
    else s
  let s : State := if oldRoot ≠ newRoot then
      s.raise .masthead oDevice [if up < 0 then 1 else 0, oldRoot, newRoot]
    else s
  let s : State := if 0 ≤ up ∧ oldUp ≠ up then s.modRat up.toNat (fun x => { x with exchanges := [], close := 0 }) else s
  (if oldUp ≠ up ∧ s.timeSource = 2 then s.timeLost else s).syncHops

/-- The cause of a change of up port (Table 14.12). -/
def State.parentCause (s : State) : Int :=
  let u := s.varN .upPort
  if s.var .upPort < 0 then 2
  else if !s.ratUp u then 0
  else match s.freshAdvert u with
    | none => 1
    | some a => if (a.root : Int) = s.var .rootSerial then 3 else 2

/-- The election of R580 and the failover of R581, then the roles, the height, and an advert where anything changed. -/
def State.elect (s : State) : State :=
  let own := (s.getN .mastPriority, s.varN .serial)
  let cands := s.candidates
  let best := bestRoot own cands
  let before := (List.range 10).map s.advertOf
  let u := s.varN .upPort
  let cause := s.parentCause
  let offers := cands.filter (fun x => (x.2.prio, x.2.root) = best)
  let present := offers.find? (fun x => (x.1 : Int) = s.var .upPort)
  let keep := match present with
    | some x => !offers.any (fun y => decide (y.2.depth + 2 ≤ x.2.depth))
    | none => false
  let lost := decide (0 ≤ s.var .upPort) && (s.freshAdvert u).isNone
  let alt := offers.find? (fun x => lost && decide ((x.2.root : Int) = s.var .rootSerial) && decide ((x.2.depth : Int) + 1 = s.get .depth))
  let deep := (List.range 10).filterMap (fun p => match s.freshAdvert p with
    | some a => if !a.child ∧ a.depth = 7 ∧ better (a.prio, a.root) own then some (p, a) else none
    | none => none)
  let pick := if keep then present else if alt.isSome then alt else shallowest offers
  let s : State := if best = own ∨ offers.isEmpty then
      match deep with
      | (p, a) :: _ =>
        let s : State := if s.get .depth = 255 then s else s.raise .ratDepth oDevice [p, a.depth]
        s.place (-1) 255 0x0FFFFFFF 0 own.1 0 cause
      | [] => s.place (-1) 0 0x0FFFFFFF 0 own.1 0 cause
    else match pick with
      | some (p, a) =>
        let (c, s) : Int × State := if s.var .upPort = p then s.draw else (cause, s)
        (s.place p (a.depth + 1) (childAddr a.taddr (s.rat p).far) a.root a.prio a.seq (if s.var .upPort = p then c % 4 else c)).setV .rootTimed 0
          (if a.timed then 1 else 0)
      | none => s
  let s := s.setRoles.setHeight
  if (List.range 10).map s.advertOf = before then s else s.advertise

/-- A Ratline port's neighbour is gone with its link (R570). -/
def State.ratLost (s : State) (p : Nat) : State :=
  if (s.rat p).accepted then
    let s := (s.modRat p (fun _ => {})).put .neighbour p 0
    s.raise .partnerDeparted (oRatPort p) [5, 0, oRatPort p, 0]
  else s

/-- After a Ratline port changed state (R570, R581). -/
def State.treeLinks (s : State) (p : Nat) : State :=
  let s : State := if (s.link (48 + p)).state = lkDown ∨ (s.link (48 + p)).state = lkDisabled then s.ratLost p else s
  s.elect

/-! ### Routing (R576, R577) -/

/-- The port on which a tray of the rack was heard with the fewest hops (R577). -/
def State.rackPort (s : State) (serial : Nat) : Option Nat :=
  let live := s.hearings.filter (fun h => h.serial = serial ∧ s.now < h.at_ + ms)
  (live.foldl (fun (b : Option Hearing) h => match b with
    | some x => if h.hops < x.hops ∨ (h.hops = x.hops ∧ h.port < x.port) then some h else b
    | none => some h) none).map (·.port)

/-- A RACK message of this tray. -/
def State.ratRack (s : State) (kind serial : Nat) (body : List Int) : State :=
  match s.rackPort serial with
  | some p => s.ratSend p 2 kind 2 (s.getN .taddr) 0 serial 0 body
  | none => s

end Sys2Proof.Machine
end

