-- ==== Sys2Proof/Machine/GlobalOps.lean ====
section
/-! DEFINITION. Global operations as one tray runs them: the wait for its children, merging, the up half, the release,
and the results (R590–R596, R598, R600). -/

namespace Sys2Proof
open Sys2Proof.Machine

/-- A 64-bit two's complement number. -/
def wrap64 (n : Nat) : Int := let m : Nat := n % 2 ^ 64; if 2 ^ 63 ≤ m then (m : Int) - 2 ^ 64 else (m : Int)
def bits64 (v : Int) : Nat := (v % 2 ^ 64).toNat

/-- Two values merge by REDUCE_OP: SUM saturates at the i64 limits, then MIN, MAX, AND, OR (Table 14.6). -/
def reduceValue (op : Nat) (a b : Int) : Int :=
  match op with
  | 0 => max (-(2 ^ 63)) (min (2 ^ 63 - 1) (a + b))
  | 1 => min a b
  | 2 => max a b
  | 3 => wrap64 (bits64 a &&& bits64 b)
  | _ => wrap64 (bits64 a ||| bits64 b)

/-- A report merges into what is merged so far (Table 14.7). -/
def OpMsg.merge (a b : OpMsg) : OpMsg :=
  { a with
    members := a.members + b.members
    missing := a.missing + b.missing
    firstMissing := min a.firstMissing b.firstMissing
    failed := a.failed + b.failed
    firstFailed := min a.firstFailed b.firstFailed
    firstStatus := if b.firstFailed < a.firstFailed then b.firstStatus else a.firstStatus
    value := if a.members = 0 then b.value else reduceValue a.reduceOp a.value b.value }

/-- Whether a status counts as failed (R597). -/
def failedStatus (st : Nat) : Bool := decide (st ≠ Status.ok.code) && decide (st ≠ Status.accepted.code)

/-- One failure in what is merged: the lowest address keeps its status. -/
def OpMsg.fail (m : OpMsg) (addr status n : Nat) : OpMsg :=
  { m with failed := m.failed + n, firstFailed := min m.firstFailed addr, firstStatus := if addr < m.firstFailed then status else m.firstStatus }

/-- The status an operation completes with at its root (R592). -/
def OpMsg.verdict (m : OpMsg) : Status := if m.missing = 0 then .ok else .ratPartial

end Sys2Proof

namespace Sys2Proof.Machine

/-- The DOWN ports that are ACTIVE: the children within any scope this tray is in (R582, R590). -/
def State.downPorts (s : State) : List Nat := (List.range 10).filter (fun p => decide (s.get .portRole p = 3) && s.ratUp p)

/-- One operation changes. -/
def State.setOp (s : State) (x y : GlobalOp) : State :=
  { s with globalOps := s.globalOps.map (fun z => if z = x then y else z) }

/-- What this tray reports (R590, R592): what is merged, its missing subtrees, and its own failure. -/
def State.upHalf (s : State) (x : GlobalOp) : OpMsg :=
  let own := s.getN .taddr
  let gone := x.expected.filter (fun p => p ∉ x.heard)
  let m : OpMsg := { x.up with
    opId := x.opId, kind := x.kind, reduceOp := x.reduceOp, scope := x.scope, issuer := x.issuer, at_ := x.at_
    missing := x.up.missing + gone.length
    firstMissing := gone.foldl (fun b p => min b (childAddr own p)) x.up.firstMissing }
  let st := x.own.getD 0
  if failedStatus st then m.fail own st 1 else m

/-- An operation is no longer held. -/
def State.dropOp (s : State) (x : GlobalOp) : State := s.putOps (s.globalOps.erase x)

/-- The bytes a snapshot buffer holds at most (R598): 256 MiB of DRAM on members with stacks, else 8 MiB of SRAM. -/
def State.snapRoom (s : State) : Nat := if s.featuresUp.testBit 5 then 256 * 1048576 else 8 * 1048576

/-- A record goes into an issuer's buffer, or is noted as not fitting (R598). -/
def State.snapStore (s : State) (opId taddr : Nat) (r : List Fld) : State :=
  { s with snapBufs := s.snapBufs.map (fun b =>
      if b.opId ≠ opId then b
      else if s.snapRoom < (b.records.map recordLen).sum + recordLen r then { b with spill := b.spill ++ [taddr] }
      else { b with records := b.records ++ [r] }) }

/-- How many members' data an issuer has had. -/
def State.snapHeard (s : State) (opId : Nat) : Nat :=
  match s.snapBufs.find? (fun b => b.opId = opId) with | some b => b.records.length + b.spill.length | none => 0

/-- A snapshot completes (R598): members whose data is missing or does not fit count as failed. Which tray is the first
of them is not known where data is missing: a free value. A member that has failed already counts once. -/
def State.snapComplete (s : State) (x : GlobalOp) : State :=
  let m := x.up
  let spill := match s.snapBufs.find? (fun b => b.opId = x.opId) with | some b => b.spill | none => []
  let trunc := Status.ratSnapshotTruncated.code
  let m := spill.foldl (fun m a => m.fail a trunc 1) m
  let lost := m.members - s.snapHeard x.opId - x.up.failed
  let (m, s) : OpMsg × State :=
    if lost = 0 then (m, s)
    else let (v, s) := s.draw; (m.fail (v % 4294967296).toNat trunc lost, s)
  (s.dropOp x).opComplete x (if m.missing = 0 then .ok else .ratPartial) m

/-- An operation ends at this tray with what its root merged (R592, R596, R598): a snapshot's issuer waits for data. -/
def State.opFinish (s : State) (x : GlobalOp) (st : Status) (m : OpMsg) : State :=
  if x.kind = 3 ∧ !x.origins.isEmpty then
    let y : GlobalOp := { x with closed := true, up := m, dataDue := some (s.now + sec) }
    let s := s.setOp x y
    if m.members ≤ s.snapHeard x.opId then s.snapComplete y else s
  else (s.dropOp x).opComplete x st m

/-- OP_DOWN to every child in scope, on VC0D. -/
def State.opDown (s : State) (m : OpMsg) : State :=
  s.each s.downPorts (fun s p => s.ratOut p 1 0x40 m.opId (.ratOp p 0x40 m) (ratHeader 0x40 0 (opBytes m).length 0 (s.getN .taddr) 0 0 ++ opBytes m))

/-- A snapshot's data goes to its issuer (R598). -/
def State.sendSnap (s : State) (x : GlobalOp) : State :=
  if x.record.isEmpty || !x.origins.isEmpty then s
  else match s.treePort x.issuer 0 with
    | some p => s.ratSend p 4 0x60 1 (s.getN .taddr) x.issuer 0 0 ((recordBytes x.record).map (fun (b : Nat) => (b : Int)))
    | none => s

/-- A tray's wait is over (R590–R592): the root releases the scope and is done, another tray sends OP_UP. A tray that
has lost its parent ends with its own subtree (R596). -/
def State.opClose (s : State) (x : GlobalOp) : State :=
  let m := s.upHalf x
  if x.root then
    let s := s.opDown m
    (s.sendSnap x).opFinish x m.verdict m
  else if s.var .upPort < 0 then s.opFinish x .ratPartial m
  else
    let up : OpMsg := { m with payload := .none }
    let s := s.ratOut (s.varN .upPort) 0 0x41 m.opId (.ratOp (s.varN .upPort) 0x41 up)
      (ratHeader 0x41 0 (opBytes up).length 0 (s.getN .taddr) 0 0 ++ opBytes up)
    (s.setOp x { x with closed := true }).sendSnap x

/-- The wait of an operation may close (R590, R591): its own part is done and committed, and every child has reported,
has left ACTIVE, or is late. -/
def State.opReady (s : State) (x : GlobalOp) : Bool :=
  x.begun && !x.closed && x.own.isSome && decide (x.ownCsn ≤ s.journal.committed) &&
  (decide (x.closeAt ≤ s.now) || (x.expected.filter (fun p => p ∉ x.heard)).all (fun p => !s.ratUp p))

/-- An operation of a tray whose parent link has failed since it began (R596). -/
def State.opOrphan (s : State) (x : GlobalOp) : Bool :=
  !x.root && x.dataDue.isNone && decide (0 ≤ x.parent) && (decide (x.parent ≠ s.var .upPort) || !s.ratUp x.parent.toNat)

/-- Operations go on as far as they can. -/
def State.settleOps (s : State) : State :=
  let s := s.each (s.globalOps.filter s.opOrphan) (fun s x => (s.dropOp x).opComplete x .ratPartial (s.upHalf x))
  s.each (s.globalOps.filter s.opReady) State.opClose

end Sys2Proof.Machine
end

