-- ==== Sys2Proof/Machine/Links.lean ====
section
/-! DEFINITION. The Shroud link layer, shared with Ratline: what hangs on the ports, messages to accelerators, retry,
and the commands (R197–R212). -/

namespace Sys2Proof.Machine

/-! ### What hangs on an accelerator's ports -/

/-- After a port of accelerator a changed state: the loss timer runs while none is ACTIVE (R194), the silence timer
starts when the first becomes ACTIVE, and the alert pin is handled with or without a link (R222). -/
def State.accelLinks (s : State) (a : Nat) (wasUp : Bool) : State :=
  let up := s.accelUp a
  if up ∧ !wasUp then
    let s := (s.disarm .accelLoss a |>.disarm .alertReef a).disarm .alertFurl a
    let s := s.when (s.get .accelPresence a = 2) (fun s => s.arm .telemetry a ms)
    s.when (s.flag .alertPin a) (fun s => s.arm .alertHandover a (20 * us))
  else if !up ∧ wasUp then
    let s := s.when (s.get .accelPresence a = 2) (fun s => s.arm .accelLoss a (s.getN .accelLossTime * us))
    let s := (s.disarm .telemetry a).disarm .alertHandover a
    s.when (s.flag .alertPin a) (fun s => (s.arm .alertReef a (10 * us)).arm .alertFurl a (s.getN .alertNolinkDelay * us))
  else s

/-- Some Sheet port of a relay is ACTIVE. -/
def State.relayUp (s : State) (r : Nat) : Bool := s.linkUp (16 + 2 * r) || s.linkUp (17 + 2 * r)

/-- After a port of relay r changed state: its loss timer runs while none is ACTIVE (R314). -/
def State.relayLinks (s : State) (r : Nat) : State :=
  if s.relayUp r then s.disarm .relayLoss r
  else if s.relayPresent r then s.armOnce .relayLoss r (s.getN .relayLossTime * us) else s

/-- A DOWN port of an accelerator clears the message numbers with the rest, unless the other port keeps its link (R206,
log entry 259). -/
def State.clearNumbers (s : State) (p : Nat) : State :=
  let a := p / 2
  let other := (s.link (if p % 2 = 0 then p + 1 else p - 1)).state
  if other = lkActive ∨ other = lkRetrain then s
  else
    let s : State := { s with held := s.held.filter (fun h => h.accel ≠ a) }
    s.setV .accTx (2 * a) 0 |>.setV .accTx (2 * a + 1) 0 |>.setV .accRx (2 * a) 0 |>.setV .accRx (2 * a + 1) 0
      |>.disarm .shroudGap (2 * a) |>.disarm .shroudGap (2 * a + 1)

/-- A port changes state, with what hangs on it. Whether an accelerator's last port went with a fence is kept (R194). -/
def State.moveLink (s : State) (p new : Nat) : State :=
  if p < 16 then
    let was := s.accelUp (p / 2)
    let s := s.setLink p new
    let s := s.when (new = lkDown) (fun s => s.clearNumbers p)
    let s := s.when (was && !s.accelUp (p / 2)) (fun s => s.setV .lastFenced (p / 2) (if (s.link p).fenced then 1 else 0))
    s.accelLinks (p / 2) was
  else if p < 48 then (s.setLink p new).relayLinks ((p - 16) / 2)
  else ((s.setLink p new).treeLinks (p - 48)).settleOps

/-- The stream of a message to an accelerator (Table 5.6): bulk for IDENTITY_ACK and the image messages. -/
def shroudStream (kind : Nat) : Nat := if kind = 0x02 ∨ kind = 0x0C ∨ kind = 0x0D then 1 else 0

/-- The bit of IDENTITY.CAPS a message to an accelerator belongs to (R213, Table 5.8). -/
def shroudCap (kind : Nat) : Option Nat :=
  match kind with | 0x07 => some 1 | 0x09 => some 2 | 0x0A => some 2 | 0x0C => some 3 | 0x0D => some 3 | _ => none

/-- A message goes to an accelerator on every ACTIVE port, under the next number of its stream (R209); not one of a
capability that it does not declare (R213). -/
def State.sendAccel (s : State) (a kind : Nat) (fields : List Int) (resent : Bool := false) : State :=
  let ch := shroudStream kind
  let num := s.varN .accTx (2 * a + ch)
  if s.accelUp a ∧ (shroudCap kind).all (fun b => (s.varN .caps a).testBit b) then
    let s := (s.countV .accTx (2 * a + ch)).send (.accel a kind fields)
    s.each ([2 * a, 2 * a + 1].filter s.linkUp) (fun s p => s.sendOn p ch kind num (shroudBytes kind resent num (shroudBody kind fields)))
  else s

/-- BUDGET (Table 5.8): 0 mW while FURL_N is asserted (R221). -/
def State.sendBudget (s : State) (a : Nat) (effective : Ns) (resent : Bool := false) : State :=
  let low := s.furled a
  s.sendAccel a 0x06 [if low then 0 else s.get .grant (nodeAccel a), s.get .reefGen a, effective, s.var .reefStatus a, if low then 1 else 0]
    resent

/-- A message of IDENT on a port: without a credit while the port is not ACTIVE, which is when credits are first counted
(R205, log entry 260). -/
def State.sendIdent (s : State) (p ch kind : Nat) (m : Msg) (b : List Nat) : State :=
  let s := s.send m
  if (s.link p).state = lkActive then s.sendOn p ch kind 0 b
  else s.each (s.txFlits ch kind 0 b) (fun s f => s.emit p f)

/-! ### Receiving (R201–R206) -/

/-- ACK covers the flits up to its SEQ (R203, R204). -/
def State.takeAck (s : State) (p ack : Nat) : State :=
  let x := s.link p
  match x.unacked.findIdx? (fun f => f.seq = ack) with
  | some i => s.modLink p (fun x => { x with unacked := x.unacked.drop (i + 1), replays := 0, ackAt := s.now })
  | none => s

/-- Credits are returned (R205). -/
def State.addCredit (s : State) (p ch n : Nat) : State := s.modLink p (fun x => { x with credits := x.credits.modify ch (· + n) })

/-- A discarded flit or message is counted (Tables 5.16, 14.11). -/
def State.linkError (s : State) (p : Nat) : State :=
  if p < 16 then s.count .accelLinkErrors (p / 2) else if p < 48 then s.count .relayLinkErrors ((p - 16) / 2)
  else s.count .ratlineLinkErrors (p - 48)

/-- Unacknowledged flits are replayed in SEQ order; after 16 replays without ACK advancing the port enters RETRAIN
(R204). -/
def State.replay (s : State) (p : Nat) : State :=
  let x := s.link p
  if x.unacked.isEmpty then s
  else
    let s := if p < 16 then s.count .accelReplays (p / 2) else s.count .ratlineReplays (p - 48)
    let s := s.each x.unacked (fun s g => s.send (.flit p (x.dataBytes p g)))
    let s := s.modLink p (fun x => { x with replays := x.replays + 1, ackAt := s.now })
    if 16 ≤ x.replays + 1 then s.moveLink p lkRetrain else s

/-- A NAK is sent once until the expected SEQ is accepted (R202). -/
def State.sendNak (s : State) (p : Nat) : State :=
  let x := s.link p
  if x.nak then s else (s.modLink p (fun x => { x with nak := true })).send (.flit p (flitBytes 2 8 0 x.rxAck 0 0 []))

/-- A LINK flit returns the credit of an accepted flit that has been consumed, with the ACK (R203, R205). -/
def State.returnCredit (s : State) (p ch : Nat) : State :=
  s.send (.flit p (flitBytes 2 0 0 (s.link p).rxAck (creditByte (isShroud p) ch) 0 []))

/-- A bad or out-of-sequence DATA flit (R202); eight consecutive bad CRCs end ACTIVE (Table 5.4). -/
def State.badFlit (s : State) (p : Nat) (crc : Bool) : State :=
  let s := (s.linkError p).sendNak p
  let s := s.modLink p (fun x => { x with badRun := if crc then x.badRun + 1 else 0 })
  if 8 ≤ (s.link p).badRun ∧ s.linkUp p then s.moveLink p lkRetrain else s

/-- A DATA flit is accepted in order (R202): its SEQ becomes the last accepted. Answers whether it was. -/
def State.acceptFlit (s : State) (p seq : Nat) : State × Bool :=
  if seq ≠ ((s.link p).rxSeq + 1) % 4096 then (s.badFlit p false, false)
  else (s.modLink p (fun x => { x with rxSeq := seq, rxSeen := true, nak := false }), true)

/-- The data of an accepted flit joins the message it belongs to; the last flit gives the whole message (R207). -/
def State.joinFlit (s : State) (p ch : Nat) (first last : Bool) (data : List Nat) : State × Option (List Nat) :=
  let b := (if first then [] else (s.link p).rxBuf.get [] ch) ++ data
  if last then (s.modLink p (fun x => { x with rxBuf := x.rxBuf.put [] ch [] }), some b)
  else (s.modLink p (fun x => { x with rxBuf := x.rxBuf.put [] ch b }), none)

/-! ### The commands -/

/-- SIGNAL_DETECT (R200): a port in DOWN enters LOCK, if its tile is in service and it is not held in DOWN. -/
def execSignalDetect (t : Ns) (port : FlitPort) (s : State) : Out :=
  let s := s.tick t
  let p := port.key
  let held := (s.timer .injHold (pLink p)).isSome || (decide (48 ≤ p) && decide (s.get .portAdmin (p - 48) = 1))
    || s.flag .islandDown (16 * portTile p + (if p < 48 then 2 else 3))
  .next (if (s.link p).state = lkDown ∧ s.inService (portTile p) ∧ !held then s.moveLink p lkLock else s)

/-- The ROLE expected of the far end of a port (Tables 5.5, R305, R568). -/
def farRole (p : Nat) : Nat := if p < 16 then 1 else if p < 48 then 2 else 3

/-- The good TRAIN flits that end LOCK: eight, which are 64 blocks (R200, log entry 256); two frames on Sheet (R313). -/
def lockFlits (p : Nat) : Nat := if isSheet p then 2 else 8

/-- A trained port that was not in RETRAIN enters IDENT: its partner is identifying (R190), and a Ratline port sends its
identity (R570). -/
def State.enterIdent (s : State) (p : Nat) : State :=
  let s := s.moveLink p lkIdent
  if p < 16 then
    if (s.get .accelPresence (p / 2) = 0 ∨ s.get .accelPresence (p / 2) = 4) ∧ s.hasAccel (p / 2) then s.put .accelPresence (p / 2) 1 else s
  else if p < 48 then
    let r := (p - 16) / 2
    if (s.get .relayPresence r = 0 ∨ s.get .relayPresence r = 4) ∧ s.hasRelay r then s.put .relayPresence r 1 else s
  else
    let body : List Int := [1, 0, (p - 48 : Nat), s.get .mastPriority, s.var .serial, s.get .rackId, s.var .ctlIncarnation]
    s.sendIdent p 2 0x01 (.ratline (p - 48) 0x01 body) (ratHeader 0x01 0 24 0 (s.getN .taddr) 0 0 ++ ratBody 0x01 body)

/-- Training is done: the one-way delay is half of the smallest round trip (R201), and the port enters IDENT, or ACTIVE
again from RETRAIN. -/
def State.trained (s : State) (p : Nat) : State :=
  let s := s.modLink p (fun x => { x with oneWay := (x.best.getD 0) / 2 })
  let s := s.when (48 ≤ p) (fun s => s.put .oneWay (p - 48) (s.link p).oneWay)
  if (s.link p).state = lkRetrain then (s.moveLink p lkActive).pump p else s.enterIdent p

/-- A good TRAIN flit or frame (R199 to R201, R313): one whose ROLE is not the far end's is ignored. Its T_TX is kept for
the echo. In LOCK the good ones find the alignment; from then on each gives a round trip, and eight with RX_OK end
training. -/
def State.takeTrain (s : State) (p : Nat) (f : TrainFlit) : State :=
  let x := s.link p
  if f.role ≠ farRole p then s
  else
    let s := s.modLink p (fun x => { x with rxTtx := f.tTx, rxAt := s.now })
    if x.state ≠ lkLock ∧ x.state ≠ lkTrain ∧ x.state ≠ lkRetrain then s.sendTrain p
    else
      let rtt := s.now - f.tEcho - f.hold
      let s := s.modLink p (fun x => { x with
        rxGood := x.rxGood + 1, aligned := x.aligned || decide (lockFlits p ≤ x.rxGood + 1)
        rxOk := if x.aligned && f.rxOk then x.rxOk + 1 else 0
        best := if x.aligned then some (match x.best with | some b => min b rtt | none => rtt) else x.best })
      if 8 ≤ (s.link p).rxOk then s.trained p
      else if x.state = lkLock ∧ (s.link p).aligned then s.moveLink p lkTrain
      else s.sendTrain p

/-- What arrives while a port trains fails its CRC: the run of good TRAIN flits is broken. -/
def State.breakTrain (s : State) (p : Nat) : State := s.modLink p (fun x => { x with rxGood := 0, rxOk := 0 })

/-- A port trains. -/
def State.inTraining (s : State) (p : Nat) : Bool :=
  let st := (s.link p).state
  decide (st = lkLock ∨ st = lkTrain ∨ st = lkRetrain)

/-- REPLAY_TIMEOUT (R204): ACK has not advanced for 10 µs with flits unacknowledged. -/
def execReplayTimeout (t : Ns) (port : FlitPort) (s : State) : Out :=
  let s := s.tick t
  let p := port.key
  let x := s.link p
  .next (if s.linkUp p ∧ !x.unacked.isEmpty ∧ x.ackAt + 10 * us ≤ s.now then s.replay p else s)

/-- A port misses a bound of Table 5.4: LOCK and TRAIN 100 µs after leaving DOWN, IDENT 10 ms, RETRAIN 1 ms. -/
def State.linkLate (s : State) (p : Nat) : Bool :=
  let x := s.link p
  if x.state = lkLock ∨ x.state = lkTrain then decide (x.left + 100 * us ≤ s.now)
  else if x.state = lkIdent then decide (x.since + 10 * ms ≤ s.now)
  else if x.state = lkRetrain then decide (x.left + ms ≤ s.now)
  else false

/-- INVALID_SYNC_HEADERS (Table 5.4): 16 in any 64 blocks move an ACTIVE port to RETRAIN. -/
def execInvalidSyncHeaders (t : Ns) (port : LinkPort) (s : State) : Out :=
  let s := s.tick t
  .next (if s.linkUp port.key then s.moveLink port.key lkRetrain else s)

/-- TIME_FLIT_SEND (R211): one TIME flit on each ACTIVE Shroud port: T and the port's one-way delay. -/
def execTimeFlitSend (t : Ns) (s : State) : Out :=
  let s := s.tick t
  .next (s.each ((List.range 16).filter s.linkUp) (fun s p =>
    s.send (.flit p (flitBytes 4 0 0 none 0 0 (recordBytes [u64 s.now, u32 (s.link p).oneWay, rsv 4])))))

/-- BUDGET_RESEND (R213): the BUDGET of every linked accelerator goes out again, as a periodic repeat. -/
def execBudgetResend (t : Ns) (s : State) : Out :=
  let s := s.tick t
  .next (s.each (s.accels.filter s.accelUp) (fun s a => s.sendBudget a 0 true))

end Sys2Proof.Machine
end

