-- ==== Sys2Proof/Machine/Partners.lean ====
section
/-! DEFINITION. Accelerators as partners (R186–R196, R215–R222): arrival and departure, reef tables, quiesce states,
alerts. -/

namespace Sys2Proof.Machine

/-! ### Ports that leave DISABLED (R191, R192, R312) -/

/-- The ports of a list whose rejection's cause has cleared leave DISABLED for DOWN (Table 5.4). -/
def State.reopen (s : State) (ps : List Nat) (cleared : Link → Bool) : State :=
  s.each ps (fun s p => if (s.link p).state = lkDisabled ∧ cleared (s.link p) then s.moveLink p lkDown else s)

/-- A port is rejected: its status and the serial number stay with it while it is DISABLED. -/
def State.rejectPort (s : State) (p status serial : Nat) : State :=
  (s.moveLink p lkDisabled).modLink p (fun x => { x with why := status, whySerial := serial })

/-- Another accelerator's latest report is this serial number (R191, log entry 261). -/
def State.reportedElsewhere (s : State) (a serial : Nat) : Bool :=
  (List.range 8).any (fun b => decide (b ≠ a) && decide (s.var .reportedSerial b = serial))

/-! ### Departure (R189, R193–R195) -/

/-- An accelerator departs. Of causes 0, 1 and 4 only a scope in ON_SEQ or UP hears (R194): REEF goes to 7, the budget
node is held at the lower of its grant and POWER[7], and a furl follows after SILENT_FURL_DELAY (R195). -/
def State.accelDepart (s : State) (a cause : Nat) : State :=
  let live := decide (s.scope a = 2 ∨ s.scope a = 3)
  let silent := decide (cause = 0 ∨ cause = 1 ∨ cause = 4)
  let cause := if silent && !live then 7 else cause
  let s := (s.put .accelPresence a 4 |>.disarm .accelLoss a |>.disarm .telemetry a).accelGone a
  let s := s.reopen [2 * a, 2 * a + 1] (fun x => decide (x.why = 4))
  if silent && live then
    let hold := if s.flag .reefTable a then min (s.get .grant (nodeAccel a)) (s.var .reefPower (8 * a + 7)) else s.get .grant (nodeAccel a)
    let s := (s.journalSafety (oAccel a) cause).setReef a 4 7 |>.setV .heldNode a hold
    if s.get .silentAction a = 1 then
      (s.arm .silentFurl a (s.getN .silentFurlDelay * ms)).partnerDeparted 1 cause (oAccel a) 2 true
    else s.partnerDeparted 1 cause (oAccel a) 1 true
  else s.partnerDeparted 1 cause (oAccel a) 0 false

/-! ### Arrival (R191–R193) -/

/-- The first condition of R191 that fails; 0 where all hold. -/
def State.identityStatus (s : State) (a : Nat) (m : Identity) : Nat :=
  let declared := match s.td with
    | some td => td.accels.any (fun x => x.accel = a && x.domains = m.domains && x.sensors = m.sensors)
    | none => false
  if m.major ≠ 1 then 1
  else if !declared then 2
  else if s.reportedElsewhere a m.serial then 3
  else 0

/-- IDENTITY_ACK goes out on the port the IDENTITY came in on, under the number of Table 5.7 (R191, R209). -/
def State.identityAck (s : State) (p status : Nat) : State :=
  let body : List Int := [1, 0, status, (p / 2 : Nat), s.var .serial, s.var .ctlIncarnation]
  s.sendIdent p 1 0x02 (.accel (p / 2) 0x02 body) (shroudBytes 0x02 false 0xFFFFFFFF (shroudBody 0x02 body))

/-- An accelerator arrives (R191, R193): message numbering starts anew, the departure reef and a pending furl end,
budgeting resumes at MIN_GRANT (R354), every quiesce is cleared (R218). -/
def State.accelArrive (s : State) (p : Nat) (m : Identity) : State :=
  let a := p / 2
  let s := s.when (decide (s.get .accelSerial a ≠ m.serial)) (fun s => (s.setV .reefTable a 0).put .reefGen a 0)
  let s := s.put .accelPresence a 2 |>.put .accelSerial a m.serial |>.setV .incarnation a m.incarnation
    |>.setV .caps a m.caps |>.setV .fMin a m.fMin |>.setV .fMax a m.fMax |>.setV .fStep a m.fStep
    |>.setV .maxPower a m.maxPower |>.setV .fwVersion a m.fwVersion |>.setV .fwSvn a m.fwSvn |>.setV .compat a m.compat
    |>.setV .identified a 1 |>.setV .telemetrySeen a 0 |>.setV .hintSeen a 0 |>.setV .qstate a 0 |>.setV .quiesceId a 0 |>.disarm .quiesce a
    |>.setV .accTx (2 * a) 0 |>.setV .accTx (2 * a + 1) 0 |>.setV .accRx (2 * a) 0 |>.setV .accRx (2 * a + 1) 0
    |>.disarm .shroudGap (2 * a) |>.disarm .shroudGap (2 * a + 1)
  let s := { s with held := s.held.filter (fun h => h.accel ≠ a)
                    nodes := s.nodes.put {} (nodeAccel a) { s.nodes.get ({} : NodeSt) (nodeAccel a) with pend := [] } }
  let s := (s.disarm .silentFurl a).setV .heldNode a (-1) |>.put .grant (nodeAccel a) (s.get .minGrant (nodeAccel a))
  ((s.clearReef a 4).releaseFurl a).partnerArrived 1 (p % 2) (oAccel a) m.serial

/-- The identity is rejected: the port enters DISABLED (R191, R192). -/
def State.identityReject (s : State) (p status : Nat) (m : Identity) : State :=
  let s := (s.identityAck p status).rejectPort p status m.serial
  let s := s.when (decide (s.get .accelPresence (p / 2) = 1)) (fun s => s.put .accelPresence (p / 2) 3)
  s.raise .partnerRejected (oAccel (p / 2)) [1, (p % 2 : Nat), status, oAccel (p / 2), m.serial]

/-- The identity is accepted: IDENTITY_ACK with STATUS 0, the port becomes ACTIVE, BUDGET follows. -/
def State.identityAccept (s : State) (p : Nat) : State :=
  let s := s.identityAck p 0
  let s := if (s.link p).state = lkIdent then s.moveLink p lkActive else s
  (s.when (!(s.timer .telemetry (p / 2)).isSome) (fun s => s.arm .telemetry (p / 2) ms)).sendBudget (p / 2) 0

/-- An IDENTITY on a port (R191–R193). -/
def State.takeIdentity (s : State) (p : Nat) (m : Identity) : State :=
  let a := p / 2
  if (s.link p).state ≠ lkIdent ∧ (s.link p).state ≠ lkActive then s
  else
  let s := s.setV .reportedSerial a m.serial
  let s := s.each (List.range 16) (fun s q => s.reopen [q] (fun x => decide (x.why = 3) && !s.reportedElsewhere (q / 2) x.whySerial))
  match s.identityStatus a m with
  | 0 =>
    if s.get .accelPresence a = 2 then
      if s.get .accelSerial a = m.serial then
        if s.var .incarnation a = m.incarnation then s.identityAccept p
        else ((s.accelDepart a 2).accelArrive p m).identityAccept p
      else if !s.accelUp a then ((s.accelDepart a 3).accelArrive p m).identityAccept p
      else s.identityReject p 4 m
    else (s.accelArrive p m).identityAccept p
  | st => s.identityReject p st m

/-- IDENTITY (R191). -/
def onIdentity (t : Ns) (port : Fin 16) (m : Identity) (s : State) : Out := .next ((s.tick t).takeIdentity port.val m)

/-! ### Loss and silence (R194, R195) -/

/-- ACCEL_LOSS_TIMEOUT (R194): cause 4 when the last port went down with a fence. -/
def onAccelLossTimeout (t : Ns) (a : Fin 8) (s : State) : Out :=
  let s := s.tick t
  .next (if s.due .accelLoss a.val ∧ s.get .accelPresence a.val = 2 ∧ !s.accelUp a.val
    then s.accelDepart a.val (if s.flag .lastFenced a.val then 4 else 0) else s)

/-- TELEMETRY_SILENCE (R194): cause 1. -/
def onTelemetrySilence (t : Ns) (a : Fin 8) (s : State) : Out :=
  let s := s.tick t
  .next (if s.due .telemetry a.val ∧ s.get .accelPresence a.val = 2 ∧ s.accelUp a.val then s.accelDepart a.val 1 else s)

/-- SILENT_FURL_DELAY_EXPIRY (R195). -/
def execSilentFurlDelayExpiry (t : Ns) (a : Fin 8) (s : State) : Out :=
  let s := s.tick t
  .next (if s.due .silentFurl a.val then (s.disarm .silentFurl a.val).furlPlain a.val 3 else s)

/-! ### Reef tables and quiesce states (R215, R218) -/

/-- Values do not rise from one to the next. -/
def notRising : List Int → Bool
  | x :: y :: rest => decide (y ≤ x) && notRising (y :: rest)
  | _ => true

/-- A reef table is accepted or refused (R215); one without eight levels is malformed. -/
def State.takeReefTable (s : State) (a generation latency : Nat) (levels : List (Nat × Int)) : State :=
  let status := if levels.length ≠ 8 then 3
    else if !notRising (levels.map (fun l => (l.1 : Int))) || !notRising (levels.map (·.2)) then 1
    else if 1000 < latency then 2 else 0
  let s := s.setV .reefStatus a status
  let s := s.when (decide (status = 0)) (fun s =>
    let s := (s.setV .reefTable a 1).put .reefGen a generation
    s.each (List.range 8) (fun s k =>
      (s.setV .reefPower (8 * a + k) ((levels.getD k (0, 0)).2)).setV .reefFreq (8 * a + k) ((levels.getD k (0, 0)).1)))
  (s.raise .reefTable (oAccel a) [a, status, generation]).sendBudget a 0

/-- REEF_TABLE (R215). -/
def execReefTable (t : Ns) (a : Fin 8) (generation latency : Nat) (levels : List (Nat × Int)) (s : State) : Out :=
  .next ((s.tick t).takeReefTable a.val generation latency levels)

/-- A quiesce or furl state (R218, R456): QSTATE 4 cuts a furl that runs. -/
def State.takeQstate (s : State) (a qid state : Nat) : State :=
  let s := s.setV .qstate a state
  let s := s.when (decide (state = 2) && decide (s.var .quiesceId a = qid)) (fun s => s.disarm .quiesce a)
  if state = 4 then s.cutFurl a 0 else s

/-- QSTATE (R218). -/
def onQstate (t : Ns) (a : Fin 8) (qid state : Nat) (s : State) : Out := .next ((s.tick t).takeQstate a.val qid state)

/-! ### Alerts (R222) -/

/-- An ALERT is acknowledged and acted on by its severity (R222). -/
def State.takeAlert (s : State) (a num code severity detail stamp : Nat) : State :=
  let s := (s.sendAccel a 0x10 [num]).raise .accAlert (oAccel a) [a, severity, code, detail, stamp]
  let others := s.alertHolds.filter (fun h => !(decide (h.accel = a) && decide (h.code = code)))
  match severity with
  | 0 => { s with alertHolds := others }.refreshAlert a
  | 2 =>
    let before := ((s.alertHolds.filter (fun h => decide (h.accel = a) && decide (h.code = code))).map (·.level)).foldl max 0
    { s with alertHolds := others ++ [({ accel := a, code, level := max before (detail % 8) } : AlertHold)] }.refreshAlert a
  | 3 => s.furlPlain a 4
  | _ => s

/-- ALERT (R222). -/
def execAlert (t : Ns) (a : Fin 8) (num code severity detail stamp : Nat) (s : State) : Out :=
  .next ((s.tick t).takeAlert a.val num code severity detail stamp)

/-- ALERT_PIN_ASSERT (R222): with no port ACTIVE the no-link timers start. -/
def execAlertPinAssert (t : Ns) (a : Fin 8) (s : State) : Out :=
  let s := (s.tick t).setV .alertPin a.val 1
  .next (if s.accelUp a.val then s
    else (s.armOnce .alertReef a.val (10 * us)).armOnce .alertFurl a.val (s.getN .alertNolinkDelay * us))

/-- ALERT_PIN_RELEASE (R222): the no-link reef ends; a furl is not undone. -/
def execAlertPinRelease (t : Ns) (a : Fin 8) (s : State) : Out :=
  let s := (s.tick t).setV .alertPin a.val 0 |>.disarm .alertReef a.val |>.disarm .alertFurl a.val |>.disarm .alertHandover a.val
  .next ((s.setV .alertNoLink a.val 0).refreshAlert a.val)

/-- ALERT_NOLINK_REEF (R222). -/
def execAlertNolinkReef (t : Ns) (a : Fin 8) (s : State) : Out :=
  let s := s.tick t
  .next (if s.due .alertReef a.val ∧ s.flag .alertPin a.val ∧ !s.accelUp a.val
    then ((s.disarm .alertReef a.val).setV .alertNoLink a.val 1).refreshAlert a.val else s)

/-- ALERT_NOLINK_FURL (R222). -/
def execAlertNolinkFurl (t : Ns) (a : Fin 8) (s : State) : Out :=
  let s := s.tick t
  .next (if s.due .alertFurl a.val ∧ s.flag .alertPin a.val ∧ !s.accelUp a.val
    then (s.disarm .alertFurl a.val).furlPlain a.val 4 else s)

/-- ALERT_LINK_HANDOVER (R222). -/
def execAlertLinkHandover (t : Ns) (a : Fin 8) (s : State) : Out :=
  let s := s.tick t
  .next (if s.due .alertHandover a.val
    then ((s.disarm .alertHandover a.val).setV .alertNoLink a.val 0).refreshAlert a.val else s)

end Sys2Proof.Machine
end

