-- ==== Sys2Proof/Machine/NorOps.lean ====
section
/-! DEFINITION. The two NOR dies: what a read takes from them, where a write lands, and which die it reaches (R21–R24, Table 1.2). -/

namespace Sys2Proof.Machine

/-- A read takes the copy on die 0 when its check passes, and the copy on die 1 otherwise; where neither passes there is nothing (R23). -/
def readCopy {α : Type} (x y : Option (Copy α)) : Option α :=
  match x with
  | some ⟨v, true⟩ => some v
  | _ => match y with
    | some ⟨v, true⟩ => some v
    | _ => none

/-- The records of a ring, slot by slot. -/
def readRing {α : Type} : List (Copy α) → List (Copy α) → List α
  | [], y => y.filterMap (fun c => readCopy none (some c))
  | x, [] => x.filterMap (fun c => readCopy (some c) none)
  | a :: x, b :: y => (readCopy (some a) (some b)).toList ++ readRing x y

/-- A die that has failed is read no more (R24). -/
def State.norDie (s : State) (d : Nat) : NorDie :=
  if (s.varN .norLost).testBit d then {} else if d = 0 then s.nor.die0 else s.nor.die1

/-- The copy of an area that a die holds. -/
def areaOf {α : Type} (l : List (Fin 2 × Copy α)) (k : Nat) : Option (Copy α) := (l.find? (fun x => x.1.val = k)).map (·.2)

/-- A plate's image, read (R23). -/
def State.plate (s : State) (p : Nat) : Option Plate := readCopy (areaOf (s.norDie 0).plates p) (areaOf (s.norDie 1).plates p)

/-- A copy of the tray description, read. -/
def State.tdCopyAt (s : State) (k : Nat) : Option TdCopy := readCopy (areaOf (s.norDie 0).copies k) (areaOf (s.norDie 1).copies k)

/-- The metadata records that count, in force or not, oldest first (R669). -/
def State.records (s : State) : List MetaRec := readRing (s.norDie 0).records (s.norDie 1).records

/-- The first-fault records that are valid, newest first (R266, R267). -/
def State.firstFaults (s : State) : List FirstFault := (readRing (s.norDie 0).faults (s.norDie 1).faults).reverse

/-- What is written reaches every die that has not failed (R22, R24). -/
def State.norPut (s : State) (f : NorDie → NorDie) : State :=
  let alive (d : Nat) : Bool := !(s.varN .norLost).testBit d
  { s with nor := { die0 := if alive 0 then f s.nor.die0 else s.nor.die0, die1 := if alive 1 then f s.nor.die1 else s.nor.die1 } }

/-- An area holds a new copy, or is erased. -/
def putArea {α : Type} (l : List (Fin 2 × Copy α)) (k : Nat) (x : Option α) : List (Fin 2 × Copy α) :=
  l.filter (fun y => y.1.val ≠ k) ++ (x.map (fun v => ((Fin.ofNat 2 k : Fin 2), (⟨v, true⟩ : Copy α)))).toList

def State.putPlate (s : State) (p : Nat) (x : Option Plate) : State := s.norPut (fun d => { d with plates := putArea d.plates p x })

def State.putCopy (s : State) (k : Nat) (x : Option TdCopy) : State := s.norPut (fun d => { d with copies := putArea d.copies k x })

/-- Records of 64 bytes in a sector of 64 KiB. -/
def sectorRecords : Nat := 1024

/-- Slots of the two rings (R266, R669): 48 and 128 sectors. -/
def metaSlots : Nat := 48 * sectorRecords
def faultSlots : Nat := 128 * sectorRecords

/-- Records a ring may hold so that a fully erased sector lies ahead of the write point. -/
def ringRoom (slots : Nat) : Nat := slots - sectorRecords

/-- A first-fault record is in its slot; the oldest sector is erased where none would be left ahead (R266). -/
def State.addFault (s : State) (r : FirstFault) : State :=
  let s := s.norPut (fun d => { d with faults := d.faults ++ [⟨r, true⟩] })
  if ringRoom faultSlots < max (s.norDie 0).faults.length (s.norDie 1).faults.length then
    (s.norPut (fun d => { d with faults := d.faults.drop sectorRecords })).countV .faultErased 0
  else s

/-- The NOR address a write begins at (Table 1.2). -/
def State.norAddr (s : State) : NorWhat → Nat
  | .plate p => 0x04000000 * p
  | .tdCopy k => 0x08000000 + 0x400000 * k
  | .record _ => 0x08800000 + 64 * ((sectorRecords * s.varN .metaErased + max (s.norDie 0).records.length (s.norDie 1).records.length) % metaSlots)
  | .firstFault _ => 0x08C00000 + 64 * ((sectorRecords * s.varN .faultErased + max (s.norDie 0).faults.length (s.norDie 1).faults.length) % faultSlots)

end Sys2Proof.Machine
end

