-- ==== Sys2Proof/Machine/Sequencer.lean ====
section
/-! DEFINITION. The sequencer's commands (chapter 6). -/

namespace Sys2Proof.Machine

/-! ### Samples and slots -/

/-- THRESHOLDS' fields (Table 6.1). -/
def thrDisch (v : Nat) : Nat := v % 4096
def thrLo (v : Nat) : Nat := v / 2 ^ 16 % 4096
def thrHi (v : Nat) : Nat := v / 2 ^ 32 % 4096
def thrOv (v : Nat) : Nat := v / 2 ^ 48 % 4096

/-- The codes that count: a bank on a tile out of service, in an island held in reset, or marked failed, is ignored (R85, R233). -/
def State.bankCodes (s : State) (x : RailSample) : List Nat :=
  (if s.islandGives 0 6 && !s.bankOut 0 0 then [x.fore.val] else []) ++
  (if s.islandGives 1 6 && !s.bankOut 1 0 then [x.main.val] else [])

/-- One tray rail's sample: a condition is met when either bank reports it (R233, Table 6.2); none where no bank counts. -/
def State.readTrayRail (s : State) (x : RailSample) : Option RailReading :=
  let v := s.getN .thresholds x.rail.val
  match s.bankCodes x with
  | [] => none
  | c :: rest =>
    let some_ (f : Nat → Bool) : Bool := (c :: rest).any f
    some { rail := x.rail.val, code := c, above := some_ (fun c => decide (thrOv v < c)), high := some_ (fun c => decide (thrHi v < c))
           low := some_ (fun c => decide (c < thrLo v)), below := some_ (fun c => decide (c < thrDisch v)) }

/-- TRAY_RAIL_SAMPLE (R62, R233, R236–R240, R262, R263). -/
def execTrayRailSample (t : Ns) (samples : List RailSample) (s : State) : Out :=
  let s := s.tick t
  let xs := if s.onGrid us then samples.filter (fun x => s.declared (oRail x.rail.val)) else []
  .next (s.sampleRails s.now (xs.filterMap s.readTrayRail))

/-- The start of a run is committed (R244): scopes whose declared relays are not all present leave a joint run, and S is
fixed for the others. -/
def State.commitRun (s : State) (scope : Nat) (r : Run) : State :=
  let missing := r.scopes.filter (fun i => decide (i < 8) && s.relaysMissing i)
  let s := s.each missing (fun s i =>
    ((s.leaveRun i).setScope i 0 0 0xFFFF).raise .seqScopeSkipped (oScope i) [i, 0] |>.resolveStart i .seqNotReady 0xFFFF)
  let go := r.scopes.filter (fun i => i ∉ missing)
  if go.isEmpty then s
  else
    let s := s.journalAdd .command {}
    let at_ := ceilTo (10 * us) (s.now + 20 * us)
    let s := s.modRuns (fun x =>
      if scope ∈ x.scopes ∨ x.scopes = go then { x with all := go, start := some at_, tau := 0, since := at_, holding := false } else x)
    let s := s.each go (fun s i => s.setScope i 2 (if r.auto then 13 else 0) 0xFFFF)
    (s.each go State.checkUp).recommit

/-- SEQ_RUN_START (R244, R254, Table 6.6): the leader commits the start of a run whose preconditions hold. A run of one scope
waits for its declared relays. -/
def execSeqRunStart (t : Ns) (scope : Fin 9) (s : State) : Out :=
  let s := s.tick t
  .next (match s.runs.find? (fun r => decide (scope.val ∈ r.scopes) && r.start.isNone) with
    | none => s
    | some r =>
      if !s.runReady r ∨ (!r.joint ∧ r.scopes.any (fun i => decide (i < 8) && s.relaysMissing i)) then s
      else s.commitRun scope.val r)

/-- RAIL_ENABLE_SLOT (R231, R245, R250): τ has reached a rail's slot, and the rail is neither enabled nor held off. -/
def execRailEnableSlot (t : Ns) (rail : Fin 320) (s : State) : Out :=
  let s := s.tick t
  let k := rail.val
  .next (match s.runOf (scopeOf k), s.entryOf k with
    | some r, some e =>
      match r.tauAt s.now with
      | some tau =>
        let x := s.rail k
        let slot := (e.onSlot - s.slot0 r) * 10 * us
        if s.scope (scopeOf k) = 2 ∧ !x.enabled ∧ !x.heldOff ∧ slot ≤ tau
        then s.reckon (s.now - (tau - slot)) (fun s => s.enableRail k e) else s
      | none => s
    | _, _ => s)

/-- GOOD_DEADLINE_EXPIRY (R246): good was not confirmed in time, a fault at the deadline instant. -/
def execGoodDeadlineExpiry (t : Ns) (rail : Fin 320) (s : State) : Out :=
  let s := s.tick t
  let k := rail.val
  let x := s.rail k
  .next (match x.deadline with
    | some d =>
      if d ≤ s.now ∧ x.enabled ∧ !x.goodOnce then
        s.reckon d (fun s =>
          if (s.liveState (scopeOf k)).isSome then (s.modRail k (fun x => { x with deadline := none })).railFault k 1 d else s)
      else s
    | none => s)

/-- RAIL_DISABLE_SLOT (R248, R250, R261): σ has reached a rail's OFF_SLOT; a HOLD_OFF rail that can be sensed and is
not discharged holds σ. The last disable moves the scope to DISCHARGING. -/
def execRailDisableSlot (t : Ns) (rail : Fin 320) (s : State) : Out :=
  let s := s.tick t
  let k := rail.val
  .next (match s.offRuns.find? (fun r => k ∈ r.rails) with
    | some r =>
      match r.sigmaAt s.now with
      | some sigma =>
        let e := (s.entryOf k).getD { rail := k }
        let slot := (e.offSlot - s.offSlot0 r) * 10 * us
        if slot ≤ sigma then
          s.reckon (s.now - (sigma - slot)) (fun s =>
            let s := s.disableRail k
            let s := s.dropOffRail k
            let s := s.modRail k (fun (x : RailSt) => { x with offHold := e.holdOff && s.sensed k && !s.discharged k })
            s.rehold.offNext)
        else s
      | none => s
    | none => s)

/-- OFF_DEADLINE_EXPIRY (R248): a HOLD_OFF rail is past OFF_DEADLINE; σ moves on. -/
def execOffDeadlineExpiry (t : Ns) (rail : Fin 320) (s : State) : Out :=
  let s := s.tick t
  let k := rail.val
  let x := s.rail k
  let e := (s.entryOf k).getD { rail := k }
  .next (match x.disabledAt with
    | some d =>
      if x.offHold ∧ d + e.offDeadline * 10 * us ≤ s.now then
        let s := s.modRail k (fun x => { x with offHold := false })
        (s.raise .railOffSlow (oRail k) [k, x.code, ((s.now - d) / 1000 : Nat)]).rehold.offNext
      else s
    | none => s)

/-- START_WAIT_EXPIRY (Table 6.5). -/
def execStartWaitExpiry (t : Ns) (scope : Fin 9) (s : State) : Out :=
  let s := s.tick t
  .next (if s.scope scope.val = 1 ∧ s.due .startWait scope.val then
      ((s.leaveRun scope.val).setScope scope.val 0 0 0xFFFF).resolveStart scope.val .seqNotReady 0xFFFF
    else s)

/-- SCOPE_DISCHARGED (Table 6.5, R253, R261): out of DISCHARGING to OFF, or to WAIT_READY where a start is pending; out
of DISCHARGE_FAILED to OFF. -/
def onScopeDischarged (t : Ns) (scope : Fin 9) (s : State) : Out :=
  let s := s.tick t
  let i := scope.val
  let all := (s.railsOf i).all s.discharged
  .next (if s.scope i = 5 ∧ all ∧ s.varN .dischargingAt i + s.getN .minOffTime * ms ≤ s.now then
      let p := s.var .pendingStart i
      if p ≠ 0 then (s.setV .pendingStart i 0).beginWait [i] (decide (p = 2)) false
      else s.setScope i 0 0 0xFFFF
    else if s.scope i = 6 ∧ all then s.setScope i 0 0 0xFFFF
    else s)

/-- DISCHARGE_TIMEOUT (Table 6.5, R261): a rail that can be sensed is not discharged. -/
def execDischargeTimeout (t : Ns) (scope : Fin 9) (s : State) : Out :=
  let s := s.tick t
  let i := scope.val
  .next (if s.scope i = 5 ∧ s.due .discharge i then
      match (s.railsOf i).find? (fun k => s.sensed k && !s.discharged k) with
      | some k =>
        let s := (s.setScope i 6 11 k).setV .pendingStart i 0
        (s.resolveStart i .seqNotDischarged k).raise .railNotDischarged (oRail k) [k, i, (s.rail k).code]
      | none => s
    else s)

/-! ### First faults (R265–R268) -/

/-- A NOR write begins (R22). -/
def State.norWrite (s : State) (w : NorWhat) (o : Option Origin) : State :=
  { s with norWrites := s.norWrites ++ [{ what := w, origin := o }] }

/-- The fields every first-fault record takes from the device as it is formed (Table 6.7). -/
def State.stampFault (s : State) (kind : Nat) (f : Failure) (coincident : Nat) : FirstFault :=
  { kind, incident := s.getN .incident, seq := s.varN .firstFaultSeq + 1, failTime := f.failTime
    confirmTime := f.confirmTime, csn := s.journal.committed, rail := f.rail, cause := f.cause, scope := f.scope
    state := f.state, powerState := s.getN .powerState, code := f.code, seqTime := f.seqTime, coincident
    table := s.getN .activeTable, timeState := s.getN .timeStatus % 16, generation := s.activeTable.generation }

/-- A first-fault record is formed and written to both dies (R266). -/
def State.writeFault (s : State) (r : FirstFault) (o : Option Origin) : State :=
  (s.setV .firstFaultSeq 0 r.seq).norWrite (.firstFault r) o

/-- The first failing rail: the earliest failure instant, the lower index on a tie (R265). -/
def firstFailing : List Failure → Option Failure
  | [] => none
  | f :: rest => match firstFailing rest with
    | none => some f
    | some g => if f.failTime < g.failTime ∨ (f.failTime = g.failTime ∧ f.rail ≤ g.rail) then some f else some g

/-- FIRST_FAULT_FORM (R265). -/
def execFirstFaultForm (t : Ns) (s : State) : Out :=
  let s := s.tick t
  .next (if s.due .firstFault then
      let s1 := s.disarm .firstFault
      let s2 : State := match firstFailing s.failures with
        | some f => s1.writeFault (s.stampFault 1 f ((s.failures.map (fun (x : Failure) => x.rail)).eraseDups.length - 1)) none
        | none => s1
      ({ s2 with failures := [] }).closeIncident
    else s)

/-- The layout of Table 6.7. -/
def faultLayout (r : FirstFault) : List Fld :=
  [u16 r.kind, u16 1, u32 r.incident, u64 r.seq, u64 r.failTime, u64 r.confirmTime, u64 r.csn, u16 r.rail, u8 r.cause, u8 r.scope,
   u8 r.state, u8 r.powerState, u16 r.code, u32 r.seqTime, u16 r.coincident, u8 r.table, u8 r.timeState, u32 r.generation]

/-- READ_FIRST_FAULT (R271). -/
def doReadFirstFault (start count : Nat) (s : State) : State × Res :=
  if count = 0 ∨ 62 < count then (s, .st .badParam)
  else
    let rs := (s.firstFaults.drop start).take count
    (s, .done .ok ([u32 rs.length, rsv 4] ++ rs.flatMap (fun r => withCrc (faultLayout r))))

def execReadFirstFault (a : Arrival) (start count : Nat) (s : State) : Out :=
  .next (s.request a (.readFirstFault start count) (doReadFirstFault start count))

/-- CLEAR_FIRST_FAULT (R268): a KIND 2 record, whose instants and code the manual does not give. -/
def doClearFirstFault (a : Arrival) (s : State) : State × Res :=
  let o := s.originOf a .clearFirstFault
  let (x, s) := s.draw
  let (y, s) := s.draw
  let f : Failure := { rail := 0xFFFF, cause := 0, failTime := x.toNat, confirmTime := x.toNat, scope := 0xFF, state := 0xFF
                       code := (y % 65536).toNat, seqTime := 0xFFFFFFFF }
  (s.writeFault (s.stampFault 2 f 0) (some o), .later)

def execClearFirstFault (a : Arrival) (s : State) : Out := .next (s.request a .clearFirstFault (doClearFirstFault a))

/-- Causes whose records set the latch (Table 6.8). -/
def setsLatch (cause : Nat) : Bool := decide (1 ≤ cause ∧ cause ≤ 5) || decide (cause = 8)

/-- FIRST_FAULT_LATCHED (R267), from the ring: some KIND 1 record of a latching cause has no later KIND 2 record. -/
def State.refreshLatch (s : State) : State :=
  let set := s.firstFaults.any (fun r => decide (r.kind = 1) && setsLatch r.cause
    && !s.firstFaults.any (fun c => decide (c.kind = 2) && decide (r.seq < c.seq)))
  s.put .firstFaultLatched 0 (if set then 1 else 0)

/-! ### Starts and stops (R253, R257, R260) -/

/-- A start command waits for scopes, and holds their accelerators (Table 6.9). -/
def State.awaitStart (s : State) (o : Origin) (ids : List Nat) : State :=
  ({ s with starts := s.starts ++ [({ origin := o, scopes := ids } : StartCmd)] }).hold o ((ids.filter (· < 8)).map oAccel)

/-- Scopes in OFF_SEQ or DISCHARGING take a pending start; a further start attaches to it (R253). -/
def State.placePending (s : State) (ids : List Nat) (joint : Bool) : State :=
  s.each ids (fun s i => if s.flag .pendingStart i then s else s.setV .pendingStart i (if joint then 2 else 1))

/-- ACTIVATE keeps the scope OFF (R704). -/
def State.keptOff (s : State) (i : Nat) : Bool := s.holds.any (fun h => decide (h.1.op = .activate ∧ h.2 = oAccel i))

/-- START_SEQUENCE (R253). -/
def doStartSequence (a : Arrival) (s : State) : State × Res :=
  let o := s.originOf a .startSequence
  let obj := a.hdr.object
  if objCls obj ≠ 2 ∧ obj ≠ oDevice then (s, .st .badParam)
  else if s.get .powerState ≠ psRunning then (s, .st .seqNotReady)
  else if objCls obj = 2 then
    let i := objIdx obj
    if s.keptOff i then (s, .st .busy)
    else match s.scope i with
    | 0 => ((s.beginWait [i] false false).awaitStart o [i], .accepted [])
    | 1 => (s.awaitStart o [i], .accepted [])
    | 4 | 5 => ((s.placePending [i] false).awaitStart o [i], .accepted [])
    | 6 => (s, .st .seqNotDischarged)
    | _ => (s, .st .seqState)
  else
    let ids := s.scopesDeclared.filter (fun i => !s.keptOff i)
    let off := ids.filter (fun i => s.scope i = 0)
    let pend := ids.filter (fun i => s.scope i = 4 ∨ s.scope i = 5)
    let wait := ids.filter (fun i => s.scope i = 1)
    if off.isEmpty && pend.isEmpty && wait.isEmpty then
      (s, .st (if ids.any (fun i => decide (s.scope i = 6)) then .seqNotDischarged else .seqState))
    else (((s.beginWait off true false).placePending pend true).awaitStart o (off ++ wait ++ pend), .accepted [])

def execStartSequence (a : Arrival) (s : State) : Out := .next (s.request a .startSequence (doStartSequence a))

/-- Scopes are stopped by command (Table 6.5, R257, R458): pending starts are cancelled, a furl is cut, waiting starts
end, and those that are on enter one joint off-sequence. -/
def State.stopScopes (s : State) (ids : List Nat) (cause : Nat) : State :=
  let s := s.each ids (fun s i => s.cancelPending i)
  let s := s.each (ids.filter (· < 8)) (fun s i => s.cutFurl i 1)
  (s.cancelWait ids cause).beginOff (ids.map (fun i => (i, cause, 0xFFFF)))

/-- STOP_SEQUENCE (R257, Table 6.9). -/
def doStopSequence (a : Arrival) (s : State) : State × Res :=
  let o := s.originOf a .stopSequence
  let obj := a.hdr.object
  if objCls obj ≠ 2 ∧ obj ≠ oDevice then (s, .st .badParam)
  else
    let ids := if obj = oDevice then s.scopesDeclared else [objIdx obj]
    let s := s.stopScopes ids 0
    let left := ids.filter (fun i => s.scope i = 4)
    if left.isEmpty then (s, .st .ok) else ({ s with stops := s.stops ++ [({ origin := o, scopes := left } : StopCmd)] }, .accepted [])

def execStopSequence (a : Arrival) (s : State) : Out := .next (s.request a .stopSequence (doStopSequence a))

/-- ENABLE_RAIL (R243, R264). -/
def doEnableRail (a : Arrival) (s : State) : State × Res :=
  let o := s.originOf a .enableRail
  let k := objIdx a.hdr.object
  if objCls a.hdr.object ≠ 5 then (s, .st .badParam)
  else match s.entryOf k with
    | none => (s, .st .railNotSequenced)
    | some e =>
      if !(s.rail k).heldOff then (s, .st .seqState)
      else match s.scope (scopeOf k) with
        | 3 => ((((s.beginApply o).modRail k (fun x => { x with heldOff := false })).enableRail k e).modRail k (fun x => { x with enableCmd := some o })
               , .accepted [])
        | 0 => (s.modRail k (fun x => { x with heldOff := false }), .st .ok)
        | _ => (s, .st .seqState)

def execEnableRail (a : Arrival) (s : State) : Out := .next (s.request a .enableRail (doEnableRail a))

/-- DISABLE_RAIL (R257, R264, R272): the rail is disabled and held off; one not yet enabled is skipped, and its hold on
τ or σ released. -/
def doDisableRail (a : Arrival) (s : State) : State × Res :=
  let k := objIdx a.hdr.object
  if objCls a.hdr.object ≠ 5 then (s, .st .badParam)
  else
    let x := s.rail k
    let s := s.modRail k (fun x => { x with heldOff := true, enableCmd := none, offHold := false })
    let s : State := match x.enableCmd with
      | some o => s.finish o .seqComplete .seqCancelled [scopeOf k, s.scope (scopeOf k), k, s.get .incident] []
      | none => s
    let s : State := if x.enabled then s.disableRail k else s
    let s := s.dropOffRail k
    (s.rehold.offNext.checkUp (scopeOf k), .st .ok)

def execDisableRail (a : Arrival) (s : State) : Out := .next (s.request a .disableRail (doDisableRail a))

/-- An entry breaks a rule of R242. -/
def State.badEntry (s : State) (all : List SeqEntry) (e : SeqEntry) : Bool :=
  let dom := decide (64 ≤ e.rail)
  decide (319 < e.rail) || !(if dom then s.hasDomain (e.rail - 64) else s.declared (oRail e.rail))
    || decide (1 < (all.filter (fun x => x.rail = e.rail)).length)
    || (!dom && decide (e.ramp ≠ 0)) || (dom && decide (e.ramp = 0)) || (dom && decide (e.goodDeadline ≤ e.ramp))
    || (e.holdOff && decide (e.offDeadline = 0)) || (!dom && decide (e.action = 2)) || decide (2 < e.action)

/-- LOAD_SEQUENCE (R241, R242). -/
def doLoadSequence (a : Arrival) (table generation : Nat) (entries : List SeqEntry) (s : State) : State × Res :=
  if a.hdr.object ≠ oDevice then (s, .st .badParam)
  else if table ≠ a.hdr.property ∨ 7 < table ∨ entries.isEmpty ∨ 320 < entries.length then (s, .done .seqTableInvalid [u32 0xFFFFFFFF])
  else match entries.findIdx? (s.badEntry entries) with
    | some i => (s, .done .seqTableInvalid [u32 i])
    | none =>
      if entries.any (fun e => decide (e.goodDeadline = 0 ∨ 65535 < e.goodDeadline)) then (s, .st .badParam)
      else if table = s.getN .activeTable ∧ !scopes.all (fun i => decide (s.scope i = 0)) then (s, .st .busy)
      else
        let (x, s) := s.draw
        ({ s with tables := s.tables.put {} table { generation, entries } }, .done .ok [u32 x])

def execLoadSequence (a : Arrival) (table generation : Nat) (entries : List SeqEntry) (s : State) : Out :=
  .next (s.request a (.loadSequence table generation entries) (doLoadSequence a table generation entries))

/-- AUTO_RESTART (R260): after an off-sequence with cause 6, the controller restarts, or raises EV_SEQ_START_BLOCKED
and waits for a host. -/
def execAutoRestart (t : Ns) (s : State) : Out :=
  let s := s.tick t
  let back := scopes.all (fun i => decide (s.var .stoppedBy6 i ≠ 1))
  .next (if s.flag .restartWanted ∧ s.get .autoRestart = 1 ∧ back ∧ s.flag .mainGood ∧ s.get .powerState = psStandby
        ∧ s.var .goal < 0 then
      let s := s.setV .restartWanted 0 0
      if s.get .firstFaultLatched = 1 then s.raise .seqStartBlocked oDevice [0xFF, 0, s.get .incident]
      else if s.getN .restartLimit ≤ s.recentRestarts.length then s.raise .seqStartBlocked oDevice [0xFF, 1, s.get .incident]
      else
        let s := { s with restarts := s.recentRestarts ++ [s.now] }
        (s.setV .goal 0 psRunning).setV .goalCause 0 6
    else s)

end Sys2Proof.Machine
end

