-- ==== Sys2Proof/Machine/Stream.lean ====
section
/-! DEFINITION. The recorder's stream: slot frames, decision records, and the ring they are packed into (R647 to R649). -/

namespace Sys2Proof.Machine

/-- The bytes of the stream that a segment of 1 GiB holds beside its header (R648). -/
def segBytes : Nat := 1073741824 - 4096

/-- The block of a relay in a slot frame (Table 16.6): its currents and voltages. -/
def upBlock (f : UpFrame) : List Nat := recordBytes (f.currents.map (fun v => ⟨2, v⟩) ++ f.volts.map (fun (v : Nat) => (⟨2, v⟩ : Fld)))

/-- A slot frame's 2,848 bytes (Table 16.6). -/
def SlotFrame.bytes (f : SlotFrame) : List Nat :=
  recordBytes [u64 f.slot, u64 f.csn, u16 f.stale, u8 f.flags, rsv 1, u32 f.extra, rsv 8]
    ++ (List.range 16).flatMap (fun r => let b := f.blocks.getD r []; b.take 176 ++ List.replicate (176 - b.length) 0)

/-- A decision record of the frame of a slot (Table 16.7), padded to its units. -/
def Decision.record (x : Decision) (slot : Nat) : List Fld :=
  let units := (8 + recordLen x.value + 15) / 16
  [u8 x.kind, u8 units, u16 (min 499 (x.at_ - slot * 500) : Nat), u32 x.obj] ++ x.value
    ++ (if 8 + recordLen x.value = 16 * units then [] else [rsv (16 * units - 8 - recordLen x.value)])

/-- The decision of a commit (Table 16.8). -/
def Entry.decision (e : Entry) : Decision :=
  let o := e.origin
  { kind := 0x01, obj := o.object, at_ := e.stamp
    value := [u64 e.csn, u16 (if o.id = 0 then 0 else o.op.info.code : Nat), u16 e.kind.code, u8 o.binding.cls.code, u8 o.binding.port, u16 o.queue,
      u16 o.tag, rsv 2, u32 o.session, rsv 2] }

/-- The decision of an event raised (Table 16.8): its record without SEQUENCE. -/
def EventRec.decision (r : EventRec) : Decision :=
  { kind := 0x02, obj := r.src, at_ := r.stamp
    value := [u16 r.num, u8 (if r.safety then 4 else 0), u8 (recordLen r.payload), u32 r.src, u64 r.stamp, u64 r.csn] ++ r.payload
      ++ (if recordLen r.payload < 32 then [rsv (32 - recordLen r.payload)] else []) }

/-- The records that fit into `room` bytes, in their order, and the decisions that go on waiting. -/
def fitRecords (slot : Nat) : Nat → List Decision → List (List Fld) × List Decision
  | _, [] => ([], [])
  | room, x :: rest =>
    let r := x.record slot
    if recordLen r ≤ room then
      let y := fitRecords slot (room - recordLen r) rest
      (r :: y.1, y.2)
    else ([], x :: rest)

/-- Class 1 of a domain (Table 16.8): its grant, and its forecasts for 8 and 32 µs. -/
def State.domainRecords (s : State) (slot d : Nat) : List (List Fld) :=
  [({ kind := 0x06, obj := oDomain d, at_ := 0, value := [u64 (s.get .grant (nodeDomain d))] } : Decision).record slot,
   ({ kind := 0x08, obj := oDomain d, at_ := 0, value := [u32 (s.var .forecast (8 * d + 2)), u32 (s.var .forecast (8 * d + 4))] } : Decision).record slot]

/-- The enabled domains that class 1 visits in a slot (R649): four, round robin, so that 16 slots hold 2,048 bytes. -/
def State.visited (s : State) : List Nat :=
  let l := (List.range 256).filter (fun d => (s.dom d).run)
  (l.filter (fun d => decide (s.recorder.nextDomain ≤ d)) ++ l.filter (fun d => decide (d < s.recorder.nextDomain))).take 4

/-- The stream buffers hold 8 MiB (Table 16.2): decisions beyond it are dropped and counted, and EV_RECORDER_DROP is raised at most
once a second (R649). -/
def State.dropWaits (s : State) : State :=
  let kept := (fitRecords 0 (8 * 1048576) s.recorder.waits).2
  if kept.isEmpty then s
  else
    let s : State := { s with recorder := { s.recorder with waits := s.recorder.waits.take (s.recorder.waits.length - kept.length) } }
    let s := s.put .drops 0 (min (s.get .drops + kept.length) 4294967295)
    if s.var .eventAt 0x5000 < 0 ∨ s.var .eventAt 0x5000 + sec ≤ s.now then
      (s.setV .eventAt 0x5000 s.now).raise .recorderDrop oRecorder [s.get .drops]
    else s

/-- The latest frame takes no more samples: the decision records of its slot follow it (R647, R649). Class 1 has 2,048 bytes of any
16 consecutive slots, class 0 what is left of 5,968. -/
def State.closeFrame (s : State) : State :=
  let r := s.recorder
  match r.frames with
  | [] => s
  | f :: older =>
    if !r.filling then s
    else
      let fresh := ((s.journal.entries.filter (fun e => decide (r.seenCsn < e.csn) && decide (e.csn ≤ s.journal.committed))).map Entry.decision)
        ++ (s.raised.drop r.seenEvents).map EventRec.decision
      let waits := sortBy (fun (x y : Decision) => decide (x.at_ ≤ y.at_)) (r.waits ++ fresh)
      let ds := s.visited
      let turns := ds.flatMap (s.domainRecords f.slot)
      let c1 := 32 * ds.length
      let used := ((older.take 15).map (·.own)).sum
      let y := fitRecords f.slot (5968 - 16 * c1 - used) waits
      let own := (y.1.map recordLen).sum
      let f : SlotFrame := { f with records := y.1 ++ turns, own, turn := c1 }
      let s : State := { s with recorder := { r with
        frames := f :: older, filling := false, pos := f.pos + 2848 + own + c1, waits := y.2, seenCsn := s.journal.committed
        seenEvents := s.raised.length, nextDomain := match ds.getLast? with | some d => d + 1 | none => 0 } }
      let s : State := { s with recorder := { s.recorder with extra := (s.lastSecond.map SlotFrame.extra).sum } }
      s.dropWaits

/-- The frame of a slot begins (R647, R648): each relay's block repeats its last samples until its own come; the segment it begins in
overwrites the oldest one. -/
def State.openFrame (s : State) (slot : Nat) : State :=
  let r := s.recorder
  let places := s.segMap
  let n := places.length
  let seg := r.pos / segBytes
  let tile := if s.tiled 1 then s.tileFor 1 else 2
  let gap : Bool := match r.frames with | g :: _ => decide (g.slot + 1 < slot) | [] => false
  let blocks : List (List Nat) := match r.frames with | g :: _ => g.blocks | [] => List.replicate 16 []
  let f : SlotFrame := { slot, csn := min (s.getN .ackCsn tile) s.journal.committed, flags := (if r.poison then 1 else 0) + (if gap then 2 else 0)
                         blocks, pos := r.pos, place := places.getD (seg % n) (0, 0) }
  { s with recorder := { r with
      frames := f :: r.frames.filter (fun g => decide (seg < g.pos / segBytes + n)), filling := true, poison := false } }

/-- A slot frame takes a relay's samples, or counts it STALE (R647), while the recorder writes: in POST only slots before Z. -/
def State.recordSlot (s : State) (relay slot : Nat) (b : Option (List Nat)) : State :=
  let live := decide (s.get .recState = 1) || (decide (s.get .recState = 2) && (s.timer .recFreeze).any (fun z => decide (slot * 500 < z)))
  let last := match s.recorder.frames with | f :: _ => some f.slot | [] => none
  if !live ∨ last.any (fun k => decide (slot < k)) then s
  else
    let s := if last = some slot then s else s.closeFrame.openFrame slot
    match s.recorder.frames, b with
    | f :: older, some b =>
      { s with recorder := { s.recorder with
          frames := { f with blocks := f.blocks.set relay b, stale := if f.stale.testBit relay then f.stale - 2 ^ relay else f.stale } :: older } }
    | _, _ => s

end Sys2Proof.Machine
end

