-- ==== Sys2Proof/Machine/Legs.lean ====
section
/-! DEFINITION. Legs, domains, relays and Sheet links: the commands of chapter 7. -/

namespace Sys2Proof.Machine

/-! ### The side channel (R309, R310) -/

/-- The key of a relay's side channel among the links: its slice numbers, replay buffer and queue. -/
def sideKey (r : Nat) : Nat := 64 + r

/-- A message to a relay is queued on its side channel: 68 bytes a slice (Table 7.8, R310). -/
def State.sendRelay (s : State) (r kind : Nat) (fields : List Int) : State :=
  let b := sideBytes kind (sideBody kind fields)
  let l := cutSide ((b.length + 67) / 68) b
  let fs := (List.range l.length).map (fun i =>
    ({ kind, first := decide (i = 0), last := decide (i + 1 = l.length), data := l.getD i [] } : TxFlit))
  (s.modLink (sideKey r) (fun x => { x with queue := x.queue ++ fs })).send (.relay r kind fields)

/-- The slice that the next frame carries (R309): the oldest queued one while 32 are not held for acknowledgement. A NAK
that is due goes with it, once (R202). -/
def State.nextSlice (s : State) (r : Nat) : State × List Nat :=
  let x := s.link (sideKey r)
  let nak := if x.nakDue then 8 else 0
  let s := s.modLink (sideKey r) (fun x => { x with nakDue := false })
  match x.queue with
  | f :: rest =>
    if x.unacked.length < 32 then
      let g := { f with seq := x.txSeq }
      (s.modLink (sideKey r) (fun x => { x with
        queue := rest, unacked := x.unacked ++ [g], txSeq := (x.txSeq + 1) % 4096
        ackAt := if x.unacked.isEmpty then s.now else x.ackAt }),
       sliceBytes g.seq x.rxAck (1 + (if g.first then 2 else 0) + (if g.last then 4 else 0) + nak) g.data)
    else (s, sliceBytes 0 x.rxAck nak [])
  | [] => (s, sliceBytes 0 x.rxAck nak [])

/-- The numbering restarts when the relay arrives (R309). -/
def State.resetSide (s : State) (r : Nat) : State := s.modLink (sideKey r) (fun x => { rxSeq := x.rxSeq, rxSeen := x.rxSeen })

/-- Unacknowledged slices are replayed; 16 replays without SACK advancing end ACTIVE (R309, R313). -/
def State.replaySlices (s : State) (r : Nat) : State :=
  let x := s.link (sideKey r)
  if x.unacked.isEmpty then s
  else
    let s := s.modLink (sideKey r) (fun x => { x with
      queue := x.unacked ++ x.queue, unacked := [], txSeq := (x.unacked.head?.map (fun g => g.seq)).getD x.txSeq
      replays := x.replays + 1, ackAt := s.now })
    if 16 ≤ x.replays + 1 then s.each ([16 + 2 * r, 17 + 2 * r].filter s.linkUp) (fun s p => s.moveLink p lkRetrain) else s

/-! ### Downstream frames (R282, R293, R296, R302, R304, R308) -/

/-- The domains of a relay that the description declares. -/
def State.domainsOf (s : State) (r : Nat) : List Nat := (List.range 16).map (domainOfRelay r) |>.filter s.hasDomain

/-- DOMAIN_RUN of a relay: one bit a local domain. -/
def State.domainRun (s : State) (r : Nat) : Nat :=
  ((s.domainsOf r).map (fun d => if (s.dom d).run then 2 ^ localDomain d else 0)).sum

/-- REARM goes out only with DOMAIN_RUN zero and the accelerator's scope in OFF (R308). -/
def State.rearmOf (s : State) (r : Nat) : Bool := (s.relay r).safe && decide (s.domainRun r = 0) && decide (s.scope (r / 2) = 0)

/-- A privileged leg trip is held at the guard island of a tile in service (R81, R82). -/
def State.legHeld (s : State) (l : Nat) : Bool := [0, 1, 2].any (fun t => s.inService t && s.levelOn t (128 + l))

/-- The word a leg's frame carries (R293, R297): OFF where DOMAIN_RUN is clear and for a leg out of service or held by a trip, else
its word for the slot. -/
def State.wordFor (s : State) (l : Nat) : Nat :=
  if (s.legDomain l).any (fun d => (s.dom d).run) && s.healthy l && !s.legHeld l then (s.leg l).sent else 0

/-- One downstream frame on a port whose tile and Sheet island run (R304, R313): a SLOT frame on an ACTIVE port, a TRAIN
frame otherwise. -/
def State.launchOn (s : State) (p slot : Nat) (side : List Nat) : State :=
  let r := (p - 16) / 2
  if !s.islandRuns (portTile p) 2 then s
  else if s.linkUp p then
    s.send (.sheet (p - 16) (slotFrame (p % 2) (s.rearmOf r) (s.domainRun r) slot
      ((List.range 72).map (fun l => s.wordFor (legOfRelay r l))) side))
  else s.send (.sheet (p - 16) (trainFrame (p % 2) (s.training p)))

/-- The frames of one relay: both ports carry the same slice, which waits until one of them is ACTIVE (log entry 263). -/
def State.launchRelay (s : State) (slot r : Nat) : State :=
  let (s, side) := if s.relayUp r then s.nextSlice r else (s, [])
  s.each [16 + 2 * r, 17 + 2 * r] (fun s p => s.launchOn p slot side)

/-- A word missed its launch (R282): the word before is repeated, and the miss counted on the regulating tile. -/
def State.missWord (s : State) (d : Nat) : State :=
  let t := (s.regDom d).getD 0
  let s := (s.modDom d (fun x => { x with misses := x.misses + 1 })).count .tileOverruns t
  let key := 0x2000 + t
  if s.var .eventAt key < 0 ∨ s.var .eventAt key + sec ≤ s.now then
    (s.setV .eventAt key s.now).raise .loopOverrun (oTile t) [t, d, s.get .tileOverruns t]
  else s

/-- The words of a leg for the slot after a launch slot, or the last ones again where there are none (R278, R282). -/
def LegSt.launch (y : LegSt) (slot : Nat) : LegSt :=
  { y with sent := ((y.ahead.find? (fun e => e.1 = slot)).map (·.2)).getD y.sent, ahead := y.ahead.filter (fun e => decide (slot < e.1)) }

/-- The legs of a domain send their words for the next slot (R282). -/
def State.sendWords (s : State) (slot d : Nat) : State :=
  s.each (s.legsOf d) (fun s l => s.modLeg l (LegSt.launch · slot)) |>.modDom d (fun x => { x with misses := 0 })

/-- The frames of a slot go out with the new words, `missing` being the domains whose new words are not in the transmit
islands. -/
def State.launchSlot (s : State) (missing : List (Fin 256)) : State :=
  let late := missing.map (·.val)
  let s := s.each (late.filter (fun d => (s.dom d).run)) State.missWord
  let s := s.each ((List.range 16).flatMap s.domainsOf |>.filter (fun d => d ∉ late)) (State.sendWords · (s.now / 500))
  s.each ((List.range 16).filter s.hasRelay) (fun s r => s.launchRelay (s.now / 500) r)

/-- SLOT_INSTANT (R57, R302, R282): slot k's instant is k × 500 ns of common time; at any other nothing is launched. -/
def execSlotInstant (t : Ns) (slot : Nat) (missing : List (Fin 256)) (s : State) : Out :=
  let s := s.tick t
  .next (if s.now = 500 * slot then s.launchSlot missing else s)

/-! ### Relay loss (R196, R307, R308, R314) -/

/-- What R196 does when a relay is lost: REEF 7, FURL_N, and the accelerator's off-sequence with cause 8. -/
def State.relayActions (s : State) (r : Nat) : State :=
  let a := r / 2
  let k := 64 + domainOfRelay r 0
  let live := decide (s.scope a = 2 ∨ s.scope a = 3)
  let f := s.failureOf k 8 s.now
  let s := ((s.journalSafety (oRelay r) 8).setReef a 4 7).assertFurl a
  let s : State := if live then s.noteFailure f else s
  s.beginOff [(a, 8, k)]

/-- A relay departs (R314, R196): its domains stop, and its rails can no longer be sensed. One that an update restarts in a
scope that is OFF departs with cause 7, which is no safety action (R189, R704). -/
def State.relayDepart (s : State) (r cause : Nat) : State :=
  let s := s.each (s.tests.filter (fun x => x.cal && decide (x.test = 0) && decide (x.object = oRelay r))) (fun s x => s.abortTrial x .partnerLost)
  let s := (s.put .relayPresence r 4).disarm .relayLoss r
  let s := s.modRelay r (fun x => { x with identified := false, acks := [], configs := [], agreed := [], cal := none, safe := false })
  let s := s.reopen [16 + 2 * r, 17 + 2 * r] (fun x => decide (x.why = 4))
  let s : State := if cause = 7 then s.partnerDeparted 2 cause (oRelay r) 0 false
    else (s.partnerDeparted 2 cause (oRelay r) 3 true).relayActions r
  let s := s.each ((s.domainsOf r).filter (fun d => (s.dom d).mode ≠ .stopped)) (fun s d => s.domainHalt d)
  s.relayUnsensed r

/-- RELAY_LOSS_TIMEOUT (R314). -/
def execRelayLossTimeout (t : Ns) (r : Fin 16) (s : State) : Out :=
  let s := s.tick t
  let fenced := (s.link (16 + 2 * r.val)).fenced || (s.link (17 + 2 * r.val)).fenced
  .next (if s.due .relayLoss r.val ∧ s.relayPresent r.val ∧ !s.relayUp r.val
    then s.relayDepart r.val (if s.flag .unitRestart r.val then 7 else if fenced then 4 else 0) else s)

/-! ### Calibration (R298–R300) -/

/-- SPARES follows the usable spares; fewer than two is reported once as it comes about (R300). -/
def State.syncSpares (s : State) (r : Nat) : State :=
  let n := (s.relay r).free.length
  let old := s.getN .spares r
  let s := s.put .spares r n
  if n < 2 ∧ 2 ≤ old then s.raise .relaySparesLow (oRelay r) [r, n] else s

/-- CAL_STEP (Table 7.9). -/
def State.calStep (s : State) (r leg spare op : Nat) : State := s.sendRelay r 0x05 [leg, spare, op]

/-- A rotation of this leg is postponed (R300). -/
def State.calPostponed (s : State) (l : Nat) : Bool :=
  decide (s.get .legState l = legFaulted) ||
  (match s.legDomain l with
   | some d => decide ((s.dom d).mode = .rampUp) || !(s.legsIn d legWaking).isEmpty || !(s.legsIn d legDraining).isEmpty
   | none => false)

/-- A relay's next comparison starts (R298, R300): with two spares free, none running and its leg not busy. -/
def State.startCal (s : State) (r : Nat) : State :=
  let x := s.relay r
  match x.free with
  | sp :: _ :: _ =>
    if x.cal.isSome ∨ s.calPostponed (legOfRelay r x.nextLeg) then s
    else (s.modRelay r (fun x => { x with cal := some { leg := x.nextLeg, spare := sp } })).calStep r x.nextLeg sp 0
  | _ => s

/-- CAL_ROTATION (R298, R300): every CAL_INTERVAL one leg of each present relay starts its comparison with a spare. -/
def execCalRotation (t : Ns) (s : State) : Out :=
  let s := s.tick t
  .next (if 0 ≤ s.var .calRotated ∧ s.now < s.varN .calRotated + s.getN .calInterval * ms then s else
    (s.setV .calRotated 0 s.now).each ((List.range 16).filter s.relayPresent) State.startCal)

/-- The leg moves to the channel of a spare, and the spare takes the leg's channel, which is calibrated or retired. -/
def State.calMove (s : State) (r leg sp : Nat) (retire : Bool) : State :=
  let l := legOfRelay r leg
  let own := s.getN .senseChannel l
  let s := s.put .senseChannel l ((s.relay r).spareCh.getD sp 0)
  let s := s.modRelay r (fun x => { x with
    spareCh := x.spareCh.set sp own, free := x.free.erase sp
    calibrating := if retire then x.calibrating else x.calibrating ++ [sp] })
  (s.calStep r leg sp (if retire then 3 else 1)).syncSpares r

/-- The rotation is over, and the next one takes the next leg. -/
def State.calDone (s : State) (r : Nat) : State :=
  let s : State := match (s.relay r).cal with
    | some c => if s.injected (0x620 + r) = some (c.leg : Int) then s.spend (0x620 + r) else s
    | none => s
  s.modRelay r (fun x => { x with cal := none, nextLeg := (x.nextLeg + 1) % 72 })

/-- CAL_COMPARE_DONE (R298, R299). -/
def execCalCompareDone (t : Ns) (r : Fin 16) (s : State) : Out :=
  let s := s.tick t
  let r := r.val
  let far (d : Int) : Bool := decide (64 * s.get .calMismatch < (d.natAbs : Int))
  .next (match (s.relay r).cal with
    | none => s
    | some c =>
      let c : CalRun := if s.injected (0x620 + r) = some (c.leg : Int) then { c with sum := c.sum + 128 * s.get .calMismatch } else c
      if c.slots < 64 then s
      else match c.first with
      | none =>
        if !far c.sum then (s.calMove r c.leg c.spare false).calDone r
        else match (s.relay r).free.filter (· ≠ c.spare) with
          | sp :: _ =>
            (s.modRelay r (fun x => { x with cal := some { leg := c.leg, spare := sp, first := some (c.spare, c.sum) } })).calStep r c.leg sp 0
          | [] => (s.calStep r c.leg c.spare 2).calDone r
      | some (sp1, sum1) =>
        let l := legOfRelay r c.leg
        let (diff, s) := s.roundDiv sum1 64
        if !far c.sum then
          let bad := (s.relay r).spareCh.getD sp1 0
          let s := s.modRelay r (fun x => { x with free := x.free.erase sp1 })
          let s := (s.calStep r c.leg sp1 2).syncSpares r
          (s.raise .senseChannelFailed (oRelay r) [r, bad, l, diff]).calDone r
        else if !far (c.sum - sum1) then
          let bad := s.getN .senseChannel l
          let s := s.calMove r c.leg c.spare true
          (s.raise .senseChannelFailed (oRelay r) [r, bad, l, diff]).calDone r
        else ((s.legFault l 6 0 s.now).calStep r c.leg c.spare 2).calDone r)

/-- A channel the relay has calibrated comes back as a spare; one out of tolerance does not (R298). -/
def State.takeCalResult (s : State) (r channel status : Nat) : State :=
  match (s.relay r).calibrating.find? (fun sp => (s.relay r).spareCh.getD sp 0 = channel) with
  | some sp => (s.modRelay r (fun x => { x with
      calibrating := x.calibrating.erase sp, free := if status = 0 then x.free ++ [sp] else x.free })).syncSpares r
  | none => s

/-- CAL_RESULT (R298). -/
def execCalResult (t : Ns) (r : Fin 16) (_leg channel status : Nat) (_offset _gain : Int) (s : State) : Out :=
  .next ((s.tick t).takeCalResult r.val channel status)

/-- The comparison under way takes one slot, or is abandoned with its leg (R298, R300). -/
def State.calSample (s : State) (r : Nat) (f : UpFrame) : State :=
  match (s.relay r).cal with
  | some c =>
    if s.get .legState (legOfRelay r c.leg) = legFaulted then
      (s.modRelay r (fun x => { x with cal := none })).calStep r c.leg c.spare 2
    else if c.slots < 64 ∧ f.spareI.getD c.spare (-32768) ≠ -32768 then
      s.modRelay r (fun x => { x with cal := some { c with
        slots := c.slots + 1, sum := c.sum + 4 * (f.currents.getD c.leg 0 - f.spareI.getD c.spare 0) } })
    else s
  | none => s

/-! ### Upstream frames: samples and protection (R290–R296, R305, R307) -/

/-- A run goes on or breaks. -/
def Streak.step (x : Streak) (met : Bool) (at_ : Ns) : Streak :=
  if met then { n := x.n + 1, since := if x.n = 0 then at_ else x.since } else {}

/-- One leg's sample of instant `at_` (R291, Table 7.5): its current, its runs, and the fault they confirm. The code of
a stage fault is known for the lowest such leg only; another leg's is a free value. -/
def State.sampleLeg (s : State) (r : Nat) (f : UpFrame) (at_ : Ns) (ℓ : Nat) : State :=
  let l := legOfRelay r ℓ
  let i := 4 * f.currents.getD ℓ 0
  let bad := f.stageFault.testBit ℓ
  let (code, s) : Nat × State :=
    if !bad then (0, s) else if f.faultLeg = ℓ then (f.faultCode, s)
    else let (x, s) := s.draw; ((1 + x % 7).toNat, s)
  let y := s.leg l
  let y := { y with
    peak := y.peak.step (f.peak.testBit ℓ) at_
    ocSince := metSince y.ocSince (decide (s.get .legOcAvg < i)) at_
    neg := y.neg.step (decide (i < -20000)) at_
    stage := y.stage.step (bad && decide (1 ≤ code ∧ code ≤ 6)) at_
    wordErr := y.wordErr.step (bad && decide (code = 7)) at_ }
  let s := (s.put .current l i).modLeg l (fun _ => y)
  if s.getN .peakLimitSlots ≤ y.peak.n then s.legFault l 1 0 y.peak.since
  else if confirmed y.ocSince (s.getN .legOcTime * us) at_ then s.legFault l 2 0 (y.ocSince.getD at_)
  else if 4 ≤ y.neg.n then s.legFault l 3 0 y.neg.since
  else if 2 ≤ y.stage.n then s.legFault l 5 code y.stage.since
  else if 4 ≤ y.wordErr.n then s.legFault l 7 7 y.wordErr.since
  else s

/-- One leg's temperature reading (Table 7.7): leg 4·(slot mod 18) + m. -/
def State.readLegTemp (s : State) (r slot : Nat) (f : UpFrame) (at_ : Ns) (m : Nat) : State :=
  let l := legOfRelay r (4 * (slot % 18) + m)
  let (v, s) := s.roundDiv (125 * f.temps.getD m 0) 2
  let s := (s.put .legTemperature l v).modLeg l (fun y => { y with hot := y.hot.step (decide (s.get .legTempLimit < v)) at_ })
  if 2 ≤ (s.leg l).hot.n then s.legFault l 4 0 (s.leg l).hot.since else s

/-- Source 5 of an accelerator ends with the overcurrent of its last domain (Table 8.6). -/
def State.refreshOc (s : State) (a : Nat) : State :=
  if (List.range 32).any (fun j => (s.dom (32 * a + j)).ocFired) then s else s.clearReef a 5

/-- The sum of a domain's samples, and its overcurrent (R295). -/
def State.sampleCurrent (s : State) (at_ : Ns) (d : Nat) : State :=
  let i := ((s.legsOf d).map (fun l => s.get .current l)).sum
  let high := decide (s.get .domainOc d < i)
  let s := (s.put .domainCurrent d i).modDom d (fun x => { x with
    currents := (i :: x.currents).take 560
    ocSince := metSince x.ocSince (high && x.run) at_
    ocBelow := metSince x.ocBelow (decide (i < s.get .domainOc d)) at_ })
  let x := s.dom d
  if !x.ocFired ∧ confirmed x.ocSince (s.getN .domainOcTime d * us) at_ then
    let s := (s.modDom d (fun x => { x with ocFired := true })).arm .ocTrip d (50 * us)
    ((s.journalSafety (oDomain d) 5).setReef (d / 32) 5 7).raiseSafety .domainOc (oDomain d) [d, i]
  else if x.ocFired ∧ confirmed x.ocBelow ms at_ then
    (s.modDom d (fun x => { x with ocFired := false })).refreshOc (d / 32)
  else s

/-- DOMAIN_OC_TRIP_CHECK (R295). -/
def execDomainOcTripCheck (t : Ns) (d : Fin 256) (s : State) : Out :=
  let s := s.tick t
  let d := d.val
  .next (if s.due .ocTrip d then
      let s := s.disarm .ocTrip d
      if s.get .domainOc d < s.get .domainCurrent d then (s.domainTrip d 2).refreshOc (d / 32) else s
    else s)

/-- One domain's voltage, from its word (Table 7.7). -/
def State.sampleVolt (s : State) (f : UpFrame) (d : Nat) : State :=
  let v := (f.volts.getD (localDomain d) 0 % 4096 : Nat) * s.get .scale (64 + d)
  s.modDom d (fun x => { x with volt := v, powers := (v * s.get .domainCurrent d :: x.powers).take 20 })

/-- A domain's current, voltage and ACTIVE legs enter the stipple frame (Table 16.10). -/
def State.gaugeDomain (s : State) (d : Nat) : State :=
  ((s.gauge (meterCurrent d) (s.get .domainCurrent d)).gauge (meterVolt d) ((s.dom d).volt / 1000)).gauge (meterActive d)
    ((s.legsIn d legActive).length : Nat)

/-- One domain's rail reading, from its word (Table 7.7): OVER, HIGH, LOW, BELOW_DISCH and the code. -/
def readDomainRail (f : UpFrame) (d : Nat) : RailReading :=
  let w := f.volts.getD (localDomain d) 0
  { rail := 64 + d, code := w % 4096, above := w.testBit 15, high := w.testBit 14, low := w.testBit 13, below := w.testBit 12 }

/-- A slot number's low 32 bits have reached those of another (R312). -/
def slotReached (now slot : Nat) : Bool := decide ((now + 2 ^ 32 - slot % 2 ^ 32) % 2 ^ 32 < 2 ^ 31)

/-- Thresholds the relay has acknowledged apply from the SLOT it reported (R235, R312). -/
def State.applyThresholds (s : State) (r slot : Nat) : State :=
  let l := (s.relay r).agreed
  let s := s.modRelay r (fun x => { x with agreed := l.filter (fun e => !slotReached slot e.2.2) })
  s.each (l.filter (fun e => slotReached slot e.2.2)) (fun s e =>
    let s := s.put .thresholds e.1 e.2.1
    if s.var .thrPend e.1 = e.2.1 then s.setV .thrPend e.1 (-1) else s)

/-- Injected stage faults and current limits of a relay's local leg (Table 19.1). -/
def State.frameFaults (s : State) (r : Nat) (f : UpFrame) : UpFrame :=
  let f : UpFrame := match s.injected (0x600 + r) with
    | some v =>
      let l := (v % 128).toNat
      let f : UpFrame := if f.stageFault = 0 ∨ l ≤ f.faultLeg then { f with faultLeg := l, faultCode := (v / 256).toNat } else f
      { f with stageFault := f.stageFault ||| 2 ^ l }
    | none => f
  match s.injected (0x610 + r) with
  | some v => { f with peak := f.peak ||| 2 ^ v.toNat }
  | none => f

/-- The samples of a good frame. -/
def State.takeFrame (s : State) (r slot : Nat) (f : UpFrame) : State :=
  let at_ := slot * 500
  let s := s.modRelay r (fun x => { x with
    staleRun := 0, wordStale := f.stale, firstStale := if f.stale && !x.wordStale then slot - 1 else x.firstStale })
  let s := s.each (List.range 72) (fun s ℓ => s.sampleLeg r f at_ ℓ)
  let s := s.each (List.range 4) (fun s m => s.readLegTemp r slot f at_ m)
  let s := s.each (s.domainsOf r) (fun s d => s.sampleCurrent at_ d)
  let s := s.applyThresholds r slot
  let s := s.each (s.domainsOf r) (fun s d => s.sampleVolt f d)
  let s := s.each (s.domainsOf r) State.gaugeDomain
  let s := s.sampleRails at_ ((s.domainsOf r).map (readDomainRail f))
  let s := (s.calSample r f).refreshOc (r / 2)
  if f.safeHeld && !(s.relay r).safe then
    let s := s.modRelay r (fun x => { x with safe := true })
    (s.raiseSafety .relaySafe (oRelay r) [r, (s.relay r).firstStale]).relayActions r
  else s.modRelay r (fun x => { x with safe := f.safeHeld })

/-- A slot without a good frame on either port (R307). -/
def State.staleSlot (s : State) (r : Nat) : State :=
  let s := (s.count .staleSlots r).modRelay r (fun x => { x with staleRun := x.staleRun + 1 })
  let s := s.each (s.domainsOf r) (fun s d => s.modDom d (fun x => { x with
    currents := (s.get .domainCurrent d :: x.currents).take 340, powers := (x.volt * s.get .domainCurrent d :: x.powers).take 20 }))
  if (s.relay r).staleRun = 4 then s.each (s.domainsOf r) (fun s d => s.domainTrip d 4) else s

/-- A Sheet port's frame of this slot is good or bad (R302, R313): eight bad slots in a row end ACTIVE. -/
def State.noteFrame (s : State) (p : Nat) (ok : Bool) : State :=
  if !s.linkUp p then s
  else if ok then s.modLink p (fun x => { x with badRun := 0 })
  else
    let s := (s.modLink p (fun x => { x with badRun := x.badRun + 1 })).linkError p
    if 8 ≤ (s.link p).badRun then s.moveLink p lkRetrain else s

/-- The slot that a frame arriving on a port now belongs to: that of its arrival less the one-way delay (R302). -/
def State.arrivalSlot (s : State) (p : Nat) : Nat := (s.now - (s.link p).oneWay) / 500

/-- An upstream frame on a port is good (R302): a SLOT frame of 320 bytes whose CRC passes and whose SLOT is that of its
arrival. One that injection cuts or a closed island holds back is not (R85, Table 19.1). -/
def State.frameGood (s : State) (p : Nat) (b : List Nat) : Bool :=
  sealGood 320 b && decide (leAt b 0x00 1 = 1) && decide (leAt b 0x04 4 = s.arrivalSlot p % 4294967296) && s.linkUp p
    && s.islandGives (portTile p) 2 && !s.acts (0x630 + (p - 16) / 2) && !s.acts (0x220 + (p - 16))

/-- SHEET_UPSTREAM_FRAME (R305–R308, R280): the frames of one slot on a relay's two ports, an empty string where none came.
The regulating tile takes its own port's, else the other (R307); with none good the samples before are repeated. Then the
relay's domains are updated, once a slot, and a scope whose last domain has stopped goes on (R250). -/
def execSheetUpstreamFrame (t : Ns) (r : Fin 16) (data0 : List Nat) (crc0 : Nat) (data1 : List Nat) (crc1 : Nat) (s : State) : Out :=
  let s := s.tick t
  let bytes0 := data0 ++ leBytes 4 crc0
  let bytes1 := data1 ++ leBytes 4 crc1
  let r := r.val
  let p0 := 16 + 2 * r
  let p1 := 17 + 2 * r
  let ok0 := s.frameGood p0 bytes0
  let ok1 := s.frameGood p1 bytes1
  let s := (s.spend (0x220 + 2 * r)).spend (0x221 + 2 * r)
  let s := (s.noteFrame p0 ok0).noteFrame p1 ok1
  let own1 := decide (s.regTile (r / 2) = some 1)
  let use1 := ok1 && (own1 || !ok0)
  let f := s.frameFaults r (upFrameOf (if use1 then bytes1 else bytes0))
  let slot := if ok0 || ok1 then s.arrivalSlot (if use1 then p1 else p0) else s.now / 500
  .next (if !s.relayPresent r ∨ s.var .frameSlot r = slot then s
    else
      let s : State := if ok0 || ok1 then s.takeFrame r slot f else s.staleSlot r
      let s := (s.recordSlot r slot (if ok0 || ok1 then some (upBlock f) else none)).setV .frameSlot r slot
      (s.each ((s.domainsOf r).filter (fun d => s.updatedIn d slot)) (fun s d => s.updateDomain d slot)).offNext)

/-! ### Adding and shedding legs (R286–R289) -/

/-- The largest 2 µs mean of the last 16 µs, times four (R287). -/
def peakMean4 : List Int → Nat → Int
  | _, 0 => 0
  | l, n + 1 => max ((l.take 4).sum) (peakMean4 (l.drop 4) n)

/-- The index of the smallest forecast horizon of at least LEG_WAKE + 2 µs; horizon k is 2^(k+1) µs (R287, R369). -/
def State.wakeHorizon (s : State) : Nat := ((List.range 8).find? (fun k => decide (s.getN .legWake + 2 ≤ 2 ^ (k + 1)))).getD 7

/-- One domain is re-planned. -/
def State.replan (s : State) (d : Nat) : State :=
  let x := s.dom d
  let fc := s.flag .forecastOk d
  let s := s.putPlanSource d fc
  let f : Int := if fc then s.var .forecast (8 * d + s.wakeHorizon) else 0
  let plan := max (peakMean4 x.currents 8) (4 * f) * (1000 + s.get .planMargin d)
  let healthy := s.nHealthy d
  let target := s.get .iLegTarget d
  let wanted := (plan + 4000 * target - 1) / (4000 * target)
  let n := if x.mode = .rampUp then s.get .nMin d else min (healthy : Int) (max (s.get .nMin d) wanted)
  let s := (s.when (decide (s.var .nTarget d ≠ n)) (fun s => s.note 0x07 (oDomain d) [u64 n])).setV .nTarget d n
  let up := (s.legsIn d legWaking).length + (s.legsIn d legActive).length
  let active := s.legsIn d legActive
  let s := s.each ((s.legsIn d legSleep).take (n - up).toNat) (fun s l =>
    (s.modLeg l (fun y => { y with wakeAt := some (s.now + s.getN .legWake * us) })).setLeg l legWaking)
  let below := metSince x.shedSince (decide (n < active.length)) s.now
  let s := s.modDom d (fun x => { x with shedSince := below })
  let hold := s.getN .shedHold d * us
  let s : State := match active.getLast? with
    | some l =>
      if confirmed below hold s.now ∧ x.lastShed.all (fun t => decide (t + hold ≤ s.now)) then
        ((s.modDom d (fun x => { x with lastShed := some s.now })).modLeg l (fun y => { y with
          drainAt := some s.now, carry := 0 })).setLeg l legDraining
      else s
    | none => s
  let capacity := healthy * target
  let (iPlan, s) := s.roundDiv plan 4000
  if 4000 * capacity < plan then
    let s : State := if s.var .shortfall d = 0 then
        s.raise .domainCapacity (oDomain d) [d, healthy, active.length, capacity, iPlan] else s
    s.setV .shortfall d (max 1 (iPlan - capacity))
  else s.setV .shortfall d 0

/-- LEG_REPLAN (R287): every 2 µs each enabled domain is re-planned; another instant is none of them (log entry 244). -/
def execLegReplan (t : Ns) (s : State) : Out :=
  let s := s.tick t
  .next (if s.onGrid (2 * us) then s.each ((List.range 256).filter (fun d => (s.dom d).run)) State.replan else s)

/-- LEG_WAKE_DONE (R286): ACTIVE from the first period start at which LEG_WAKE has passed. -/
def execLegWakeDone (t : Ns) (l : Fin 1152) (s : State) : Out :=
  let s := s.tick t
  let l := l.val
  .next (match (s.leg l).wakeAt, s.legDomain l with
    | some w, some d =>
      if s.get .legState l = legWaking ∧ ceilTo (500 * max 1 (s.varN .switchSlots d)) w ≤ s.now then
        (s.modLeg l (fun y => { y with wakeAt := none })).setLeg l legActive
      else s
    | _, _ => s)

/-- A leg has drained: it sleeps, or is disabled where ADMIN asked for it. -/
def State.drained (s : State) (l : Nat) : State :=
  let off := (s.leg l).disableAfter
  let s := s.modLeg l (fun y => { y with drainAt := none, disableAfter := false })
  if off then ((s.modLeg l LegSt.idle).setLeg l legDisabled).checkHealthy l else s.setLeg l legSleep

/-- LEG_DRAIN_DONE (R286): current below 1 A, or 8 slots passed. -/
def execLegDrainDone (t : Ns) (l : Fin 1152) (s : State) : Out :=
  let s := s.tick t
  let l := l.val
  .next (match (s.leg l).drainAt with
    | some w => if s.get .legState l = legDraining ∧ (s.get .current l < 1000 ∨ w + 4 * us ≤ s.now) then s.drained l else s
    | none => s)

/-! ### Writes (R281, R297, R235) -/

/-- Maintenance mode is on (R723). -/
def State.inMaintenance (s : State) : Bool := (s.timer .maintenance 0).any (fun d => decide (s.now < d))

/-- ADMIN of a leg (R297, Table 7.4). -/
def setLegAdmin (force : Bool) (v : Int) (l : Nat) (s : State) : State × Res :=
  let st := s.get .legState l
  if v = 1 then
    match s.legDomain l with
    | some d =>
      if s.healthy l ∧ (s.nHealthy d : Int) - 1 < s.get .minHealthy d ∧ !(force && s.inMaintenance) then (s, .st .wouldDisturb)
      else
        let s := s.put .admin l 1
        if st = legFaulted ∨ st = legDisabled then (s, .st .ok)
        else if st = legActive then
          ((s.modLeg l (fun y => { y with drainAt := some s.now, disableAfter := true, carry := 0 })).setLeg l legDraining, .st .ok)
        else if st = legDraining then (s.modLeg l (fun y => { y with disableAfter := true }), .st .ok)
        else (((s.modLeg l LegSt.idle).setLeg l legDisabled).checkHealthy l, .st .ok)
    | none => (s, .st .notPresent)
  else
    let s := (s.put .admin l 0).put .faultCause l 0
    let s := s.modLeg l (fun y => { y with
      disableAfter := false, peak := {}, ocSince := none, neg := {}, hot := {}, stage := {}, wordErr := {} })
    if st = legFaulted ∨ st = legDisabled then
      (s.setLeg l legSleep, .st .ok)
    else (s, .st .ok)

def execWriteLegAdmin (a : Arrival) (v : Int) (s : State) : Out := .next (s.write a .admin v (setLegAdmin a.hdr.force v))

/-- SETPOINT (R281): the slew starts from the present reference. -/
def setSetpoint (v : Int) (d : Nat) (s : State) : State × Res :=
  if v < s.var .setMin d ∨ s.var .setMax d < v then (s, .st .badParam)
  else
    let s := if (s.dom d).mode = .on then
        let (ref, s) := s.refAt d s.now
        s.modDom d (fun x => { x with ref, refAt := s.now })
      else s
    (s.put .setpoint d v, .st .ok)

def execWriteSetpoint (a : Arrival) (v : Int) (s : State) : Out := .next (s.write a .setpoint v (setSetpoint v))

/-- CONFIGURE kind 0 for some local domains of a relay (R312): the thresholds written last. -/
def State.configThresholds (s : State) (r first n : Nat) : State :=
  let vs := (List.range n).map (fun j =>
    let k := 64 + domainOfRelay r (first + j)
    if s.var .thrPend k < 0 then s.get .thresholds k else s.var .thrPend k)
  (s.modRelay r (fun x => { x with configs := x.configs ++ [(first, vs)] })).sendRelay r 0x03 ([(0 : Int), first] ++ vs)

/-- THRESHOLDS (R235): a tray rail's apply at the next sample, a domain rail's when its relay acknowledges. -/
def setThresholds (v : Int) (k : Nat) (s : State) : State × Res :=
  let n := v.toNat
  let rsvd := n &&& 0xF000F000F000F000
  if rsvd ≠ 0 ∨ thrLo n ≤ thrDisch n ∨ thrHi n < thrLo n ∨ thrOv n ≤ thrHi n then (s, .st .badParam)
  else if k < 64 then (s.put .thresholds k v, .st .ok)
  else if !s.relayPresent (relayOfDomain (k - 64)) then (s, .st .partnerLost)
  else ((s.setV .thrPend k v).configThresholds (relayOfDomain (k - 64)) (localDomain (k - 64)) 1, .st .ok)

def execWriteThresholds (a : Arrival) (v : Int) (s : State) : Out := .next (s.write a .thresholds v (setThresholds v))

/-! ### Sheet training (R313) -/

/-- SHEET_TRAIN_FRAME (R304, R305, R313): as a TRAIN flit, but two consecutive good frames end LOCK. A frame that arrives
on a port in DOWN shows that its receiver has signal, and the port enters LOCK (log entry 264). -/
def execSheetTrainFrame (t : Ns) (p : Fin 32) (bytes : List Nat) (s : State) : Out :=
  let s := s.tick t
  let p := 16 + p.val
  .next (if (s.timer .injHold (pLink p)).isSome ∨ !s.islandGives (portTile p) 2 then s
    else
      let s := if (s.link p).state = lkDown then s.moveLink p lkLock else s
      let good := sealGood 320 bytes && decide (leAt bytes 0x00 1 = 2) && !s.acts (0x220 + (p - 16))
      let s := (s.spend (0x220 + (p - 16))).when (!good) (fun s => s.linkError p)
      if good then s.takeTrain p (trainOf (bytes.drop 8)) else if s.inTraining p then s.breakTrain p else s)

/-- A Sheet port misses its bound (R313): RETRAIN 100 µs, the others as Table 5.4. -/
def State.sheetLate (s : State) (p : Nat) : Bool :=
  if (s.link p).state = lkRetrain then decide ((s.link p).left + 100 * us ≤ s.now) else s.linkLate p

/-- SHEET_PORT_TIMEOUT (R313, Table 5.4): a bound missed, or no signal. -/
def execSheetPortTimeout (t : Ns) (x : SheetLapse) (s : State) : Out :=
  let s := s.tick t
  let p := 16 + x.port.val
  .next (if s.sheetLate p ∨ (x.noSignal ∧ (s.link p).state ≠ lkDown) then s.moveLink p lkDown else s)

/-! ### Relay arrival (R311, R312) -/

/-- The first condition of R311 that fails; 0 where all hold. -/
def State.relayStatus (s : State) (p : Nat) (m : RelayIdentity) : Nat :=
  let r := (p - 16) / 2
  let other := if p % 2 = 0 then p + 1 else p - 1
  if m.major ≠ 1 then 1
  else if m.legs ≠ 72 ∨ m.domains ≠ 16 ∨ m.spares ≠ 8 then 2
  else if (List.range 16).any (fun q => q ≠ r && decide (s.var .reportedSerial (16 + q) = m.serial)) then 3
  else if s.linkUp other ∧ s.get .relaySerial r ≠ m.serial then 4
  else if m.relay ≠ r then 5
  else 0

/-- IDENTITY_ACK to a relay (Table 7.9). -/
def State.relayAck (s : State) (r status : Nat) : State := s.sendRelay r 0x02 [1, 0, status, s.var .serial]

/-- The identity is accepted by a relay that is not in place yet, or has restarted: numbering, channels and counters
start anew, and CONFIGURE of kinds 1, 2 and 0 goes out (R309, R312). -/
def State.relayArrive (s : State) (r : Nat) (m : RelayIdentity) : State :=
  let s := s.resetSide r
  let s := { s with relays := s.relays.put {} r ({
    identified := true, incarnation := m.incarnation, compat := m.compat, fw := m.fwVersion } : RelaySt) }
  let s := s.put .relayPresence r 1 |>.put .relaySerial r m.serial
  let s := s.each (List.range 72) (fun s ℓ => s.put .senseChannel (legOfRelay r ℓ) ℓ)
  let s := s.each (List.range 16) (fun s j => s.put .scale (64 + domainOfRelay r j) (m.scale.getD j 0))
  let s := (s.syncSpares r).relayAck r 0
  let legDom := (List.range 72).map (fun ℓ => match s.legDomain (legOfRelay r ℓ) with
    | some d => (localDomain d : Int) | none => 0xFF)
  let s := s.sendRelay r 0x03 ((1 : Int) :: 0 :: legDom)
  let s := s.sendRelay r 0x03 ([(2 : Int), 0, s.var .peakLimit r, s.var .deadTime r]
    ++ (List.range 16).map (fun j => s.var .switchSlots (domainOfRelay r j)))
  s.configThresholds r 0 16

/-- RELAY_IDENTITY on a port (R311, R312). One of a new INCARNATION ends the rejection of a relay whose configuration was
refused: its ports leave DISABLED, and identify again. -/
def State.takeRelayIdentity (s : State) (p : Nat) (m : RelayIdentity) : State :=
  let r := (p - 16) / 2
  let x := s.relay r
  let s := s.setV .reportedSerial (16 + r) m.serial
  if x.rejected && decide ((s.link p).state = lkDisabled) && decide (x.incarnation ≠ m.incarnation) then
    (s.modRelay r (fun x => { x with rejected := false, incarnation := m.incarnation })).reopen [16 + 2 * r, 17 + 2 * r] (fun _ => true)
  else if (s.link p).state ≠ lkIdent ∧ (s.link p).state ≠ lkActive then s
  else match s.relayStatus p m with
  | 0 =>
    let fresh := !x.identified || decide (x.incarnation ≠ m.incarnation) || decide (s.get .relaySerial r ≠ (m.serial : Int))
    let s : State := if fresh then
        let s : State := if s.relayPresent r then
            s.relayDepart r (if s.get .relaySerial r = (m.serial : Int) then 2 else 3) else s
        s.relayArrive r m
      else s.relayAck r 0
    if (s.link p).state = lkActive then s else s.moveLink p lkActive
  | st =>
    let s := (s.relayAck r st).rejectPort p st m.serial
    let s : State := if s.get .relayPresence r = 1 ∧ !x.identified then s.put .relayPresence r 3 else s
    s.raise .partnerRejected (oRelay r) [2, (p % 2 : Nat), st, oRelay r, m.serial]

/-- RELAY_IDENTITY (R311). -/
def onRelayIdentity (t : Ns) (p : Fin 32) (m : RelayIdentity) (s : State) : Out :=
  .next ((s.tick t).takeRelayIdentity (16 + p.val) m)

/-- CONFIG_ACK (R312): one of kind 0 acknowledges the oldest CONFIGURE of that kind still open, whose thresholds apply from
its SLOT (R235, log entry 265). -/
def State.takeConfigAck (s : State) (r kind status slot : Nat) : State :=
  let x := s.relay r
  if !x.identified then s
  else if status ≠ 0 then
    let s : State := if s.relayPresent r then s.relayDepart r 0 else s
    let s := s.modRelay r (fun x => { x with identified := false, rejected := true, acks := [] })
    let s := s.put .relayPresence r 3
    let s := s.each [16 + 2 * r, 17 + 2 * r] (fun s p => s.rejectPort p 6 (s.getN .relaySerial r))
    s.raise .partnerRejected (oRelay r) [2, 0, 6, oRelay r, s.get .relaySerial r]
  else
    let s : State := if kind = 0 then
        match x.configs with
        | (first, vs) :: rest =>
          let l := (List.range vs.length).map (fun j => (64 + domainOfRelay r (first + j), vs.getD j 0, slot))
          (s.modRelay r (fun x => { x with configs := rest, agreed := x.agreed ++ l })).applyThresholds r (s.varN .frameSlot r)
        | [] => s
      else s
    let s := s.modRelay r (fun x => { x with acks := if kind ∈ x.acks then x.acks else x.acks ++ [kind] })
    let acks := (s.relay r).acks
    if s.relayPresent r ∨ !(0 ∈ acks ∧ 1 ∈ acks ∧ 2 ∈ acks) then s
    else
      let s := s.put .relayPresence r 2
      let port : Nat := if s.linkUp (16 + 2 * r) then 0 else 1
      (s.partnerArrived 2 port (oRelay r) (s.getN .relaySerial r)).relayLinks r

def onConfigAck (t : Ns) (r : Fin 16) (kind status slot : Nat) (s : State) : Out :=
  .next ((s.tick t).takeConfigAck r.val kind status slot)

/-- A relay alert is acknowledged and reported (Tables 7.9, 7.11). -/
def State.takeRelayAlert (s : State) (r code severity detail : Nat) : State :=
  (s.sendRelay r 0x08 [code]).raise .relayAlert (oRelay r) [r, severity, code, detail]

/-- RELAY_ALERT (R317). -/
def execRelayAlert (t : Ns) (r : Fin 16) (code severity detail : Nat) (s : State) : Out :=
  .next ((s.tick t).takeRelayAlert r.val code severity detail)

/-- A message of a relay is handled (Table 7.9); one of unknown type is discarded and counted (R310). -/
def State.takeRelayMsg (s : State) (p : Nat) : RelayMsg → State
  | .identity m => s.takeRelayIdentity p m
  | .configAck kind status slot => s.takeConfigAck ((p - 16) / 2) kind status slot
  | .calResult _ channel status _ _ => s.takeCalResult ((p - 16) / 2) channel status
  | .alert code severity detail => s.takeRelayAlert ((p - 16) / 2) code severity detail
  | .unknown => s.count .relayLinkErrors ((p - 16) / 2)

/-- SIDE_SLICE (R309): SACK frees the replay buffer, a NAK replays, and a slice with DATA is accepted in order from the
port that delivers it first, later copies being discarded; one ahead of its turn asks for a NAK in the next frame, unless
the other port delivers what is missing first. The last slice of a message gives the message. A relay that identifies
anew, with no port ACTIVE, starts its numbers anew with the slices of its identity. -/
def execSideSlice (t : Ns) (p : Fin 32) (bytes : List Nat) (s : State) : Out :=
  let s := s.tick t
  let p := 16 + p.val
  let k := sideKey ((p - 16) / 2)
  let x := sliceOf bytes
  let s : State := match x.sack with | some a => s.takeAck k a | none => s
  let s : State := if x.nak then s.replaySlices ((p - 16) / 2) else s
  let anew := decide ((s.link p).state = lkIdent) && !s.relayUp ((p - 16) / 2) && x.first
  let ahead := (x.seq + 4096 - (s.link k).rxSeq) % 4096
  .next (if !x.data then s
    else if ahead = 1 ∨ anew then
      let s := s.modLink k (fun y => { y with rxSeq := x.seq, rxSeen := true, nak := false, nakDue := false })
      match s.joinFlit k 0 x.first x.last x.bytes with
      | (s, some m) => s.takeRelayMsg p (relayMsgOf m)
      | (s, none) => s
    else if ahead < 2048 ∧ ahead ≠ 0 ∧ !(s.link k).nak then s.modLink k (fun y => { y with nak := true, nakDue := true })
    else s)

/-- SLICE_REPLAY_TIMEOUT (R309). -/
def execSliceReplayTimeout (t : Ns) (r : Fin 16) (s : State) : Out :=
  let s := s.tick t
  let x := s.link (sideKey r.val)
  .next (if !x.unacked.isEmpty ∧ x.ackAt + 20 * us ≤ s.now then s.replaySlices r.val else s)

end Sys2Proof.Machine
end

