-- ==== Sys2Proof/Machine/BudgetOps.lean ====
section
/-! DEFINITION. The power budget's operations (chapter 8): caps in force, demand, the split, grants. -/

namespace Sys2Proof.Machine

def nodeInstall : Nat := 0
def nodeRack : Nat := 1
def nodeTray : Nat := 2

def State.node (s : State) (n : Nat) : NodeSt := s.nodes.get {} n
def State.modNode (s : State) (n : Nat) (f : NodeSt → NodeSt) : State := { s with nodes := s.nodes.put {} n (f (s.node n)) }

/-- FEAT_RATLINE is in service (R342). -/
def State.hasRatline (s : State) : Bool := s.featuresUp.testBit 6

/-! ### Limits, grants and caps (R320–R323) -/

/-- LIMIT in force at an instant (R323). -/
def State.limitAt (s : State) (n : Nat) (t : Ns) : Int :=
  match (s.node n).lims.find? (fun x => decide (t < x.1)) with
  | some x => x.2
  | none => s.get .limit n

/-- GRANT in force at an instant (R321). -/
def State.grantAt (s : State) (n : Nat) (t : Ns) : Int :=
  match ((s.node n).pend.filter (fun x => decide (x.1 ≤ t))).getLast? with
  | some x => x.2
  | none => s.get .grant n

/-- The node has a parent that grants: not the installation, nor the rack of a tray without Ratline (Table 8.2, R342). -/
def State.isGranted (s : State) (n : Nat) : Bool := decide (n ≠ nodeInstall) && (decide (n ≠ nodeRack) || s.hasRatline)

/-- CAP at an instant (Table 8.2). -/
def State.capAt (s : State) (n : Nat) (t : Ns) : Int :=
  if s.isGranted n then min (s.limitAt n t) (s.grantAt n t) else s.limitAt n t

/-- The lowest CAP from an instant over a lead (R322). -/
def State.lowCap (s : State) (n : Nat) (t lead : Ns) : Int :=
  let at_ := ((s.node n).pend ++ (s.node n).lims).map (·.1) |>.filter (fun x => decide (t < x) && decide (x ≤ t + lead))
  at_.foldl (fun c x => min c (s.capAt n x)) (s.capAt n t)

/-- CAP and GRANT show what is in force now; entries that have passed are dropped. -/
def State.settleNode (s : State) (n : Nat) : State :=
  let s := (s.put .grant n (s.grantAt n s.now)).put .cap n (s.capAt n s.now)
  s.modNode n (fun x => { x with
    pend := x.pend.filter (fun y => decide (s.now < y.1)), lims := x.lims.filter (fun y => decide (s.now < y.1)) })

/-- The grant given last, in force or not. -/
def State.lastGrant (s : State) (n : Nat) : Int :=
  match (s.node n).pend.getLast? with
  | some x => x.2
  | none => s.get .grant n

/-- A node's new grant and the instant it holds from (R321). -/
def State.giveGrant (s : State) (n : Nat) (v : Int) (at_ : Ns) : State :=
  if v = s.lastGrant n then s else ((s.when (decide (8 ≤ n) && decide (n < 16)) (fun s => s.note 0x05 (oAccel (n - 8)) [u64 v, u64 at_, rsv 8])).modNode n (fun x => { x with pend := x.pend ++ [(at_, v)] })).settleNode n

/-- The instant a new grant holds from: the decrease lead after a cut, the increase lead after a rise. -/
def leadOf (now : Ns) (last new : Int) (dec inc : Ns) : Ns :=
  if new < last then now + dec else if last < new then now + inc else now

/-! ### The split (R331, R332) -/

/-- A child in a split: its key, demand, minimum, WSUM, DEFICIT and AGE; then its share and whether it is still open;
then its grant and whether its minimum was rationed. -/
structure Child where
  key : Nat
  demand : Int
  floor : Int
  w : Nat
  deficit : Rat
  age : Nat
  share : Rat := 0
  isOpen : Bool := false
  grant : Int := 0
  rationed : Bool := false
deriving DecidableEq, Repr

/-- The weight a child is split by. -/
def Child.weight (c : Child) : Nat := max 1 c.w

/-- Round a value down to a quantum. -/
def downTo (quantum : Int) (x : Rat) : Int := quantum * (x / quantum).floor

/-- The while loop of R331 over the open children, at most `n` rounds. -/
def fillShares : Nat → Rat → List Child → List Child
  | 0, _, l => l
  | n + 1, spare, l =>
    let total := ((l.filter (·.isOpen)).map Child.weight).sum
    if spare ≤ 0 ∨ total = 0 then l
    else
      let gain (c : Child) : Rat := spare * c.weight / total
      let isFull (c : Child) : Bool := c.isOpen && decide ((c.demand : Rat) ≤ c.share + gain c)
      if l.any isFull then
        let used : Rat := ((l.filter isFull).map (fun c => (c.demand : Rat) - c.share)).sum
        fillShares n (spare - used) (l.map (fun c => if isFull c then { c with share := c.demand, isOpen := false } else c))
      else l.map (fun c => if c.isOpen then { c with share := c.share + gain c } else c)

/-- Grants are quantised, an open child carrying its rounding on. -/
def quantise (quantum : Int) (c : Child) : Child :=
  if c.isOpen then
    let x := c.share + c.deficit
    let g := downTo quantum x
    { c with grant := g, deficit := x - g }
  else { c with grant := downTo quantum c.share, deficit := 0 }

/-- The open child with the smallest DEFICIT, the first on a tie. -/
def smallestDeficit : List Child → Option Child
  | [] => none
  | c :: rest => match smallestDeficit rest with
    | some d => if c.isOpen ∧ ¬ d.deficit < c.deficit then some c else some d
    | none => if c.isOpen then some c else none

/-- Take back one quantum at a time while the grants exceed X, at most `n` times. -/
def trim (quantum : Int) : Nat → List Child → List Child
  | 0, l => l
  | n + 1, l => match smallestDeficit l with
    | some c => trim quantum n (l.map (fun d => if d.key = c.key then { d with grant := d.grant - quantum, deficit := d.deficit + quantum } else d))
    | none => l

/-- A child put before the first younger one. -/
def insertByAge (c : Child) : List Child → List Child
  | [] => [c]
  | d :: rest => if d.age < c.age then c :: d :: rest else d :: insertByAge c rest

/-- Descending AGE, then ascending index. -/
def byAge (l : List Child) : List Child := l.foldl (fun acc c => insertByAge c acc) []

/-- The children served in full, from the oldest, until one's floor exceeds what remains. -/
def served (remain : Rat) : List Child → List Nat × Rat
  | [] => ([], remain)
  | c :: rest => if (c.floor : Rat) ≤ remain then
      let (ks, r) := served (remain - c.floor) rest
      (c.key :: ks, r)
    else ([], remain)

/-- Rationing (R332). -/
def ration (quantum : Int) (x : Rat) (l : List Child) : List Child :=
  let want := byAge (l.filter (fun c => decide (c.floor ≠ 0)))
  let (ks, remain) := served (max 0 x) want
  let total : Int := ((want.filter (fun c => c.key ∉ ks)).map (·.floor)).sum
  l.map (fun c =>
    if c.floor = 0 then { c with grant := 0 }
    else if c.key ∈ ks then { c with grant := c.floor, age := 0 }
    else { c with grant := downTo quantum (remain * c.floor / total), age := min 255 (c.age + 1), rationed := true })

/-- The split of R331 of power X among children. -/
def split (quantum : Int) (x : Rat) (l : List Child) : List Child :=
  let floors : Int := (l.map (·.floor)).sum
  if x < floors then ration quantum x l
  else
    let l := l.map (fun c => { c with share := c.floor, age := 0, isOpen := decide (c.floor < c.demand), rationed := false })
    let l := (fillShares (l.length + 1) (x - floors) l).map (quantise quantum)
    let above : Rat := (((l.map (·.grant)).sum : Int) : Rat) - x
    if 0 < above then trim quantum (above / quantum).ceil.toNat l else l

/-- EV_BUDGET_RATIONED, at most once a second for a parent (R332). -/
def State.noteRation (s : State) (parent : Nat) (x : Rat) (l : List Child) : State :=
  let missed := (l.filter (·.rationed)).length
  let key := 0x3000 + parent
  if 0 < missed ∧ (s.var .eventAt key < 0 ∨ s.var .eventAt key + sec ≤ s.now) then
    let (xi, s) := s.whole x
    (s.setV .eventAt key s.now).raise .budgetRationed (oNode parent) [oNode parent, missed, xi, (l.map (·.floor)).sum]
  else s

/-! ### Demand (R324–R328) -/

/-- The demand of a domain, and whether its capacity clips it (R324). -/
def State.domainDemand (s : State) (d : Nat) : (Int × Bool) × State :=
  let x := s.dom d
  if !x.run then ((0, false), s)
  else
    let f : List Int := if s.flag .forecastOk d then (List.range 5).map (fun h => 4 * s.var .forecast (8 * d + h)) else []
    let i4 := f.foldl max (peakMean4 x.currents 8)
    let cap4 : Int := 4 * (s.nHealthy d * s.get .iLegTarget d)
    let (v, s) := s.roundDiv (s.get .setpoint d * min i4 cap4) 4000000
    ((v, decide (cap4 < i4)), s)

/-- The declared domains of an accelerator. -/
def State.domainsOfAccel (s : State) (a : Nat) : List Nat := (List.range 32).map (fun j => 32 * a + j) |>.filter s.hasDomain

/-- The domains' DEMAND and WSUM (R324, R330). -/
def State.putDomainDemands (s : State) (a : Nat) : State :=
  s.each (s.domainsOfAccel a) (fun s d =>
    let n := nodeDomain d
    let ((v, clip), s) := s.domainDemand d
    let s := (s.put .demand n v).modNode n (fun x => { x with clipped := clip })
    s.put .wsum n (if s.get .minGrant n < v then s.get .weight n else 0))

/-- The demand of an accelerator (R325). A departed accelerator held under R195 keeps its held value also while its
FURL_N is asserted. -/
def State.accelDemand (s : State) (a : Nat) : Int × State :=
  let n := nodeAccel a
  if 0 ≤ s.var .heldNode a then (s.var .heldNode a, s)
  else if s.furled a ∨ s.get .accelPresence a ≠ 2 then (0, s)
  else if !s.flag .telemetrySeen a then (s.get .minGrant n, s)
  else
    let total := ((s.domainsOfAccel a).map (fun d => s.get .demand (nodeDomain d))).sum
    let (probe, s) : Int × State := if (s.varN .telState a).testBit 1 then
        s.roundDiv (s.get .grant n * (1000 + s.get .demandProbe)) 1000 else (0, s)
    let want := max total (max (s.var .planDemand a) probe)
    (min (min (s.get .limit n) (s.var .maxPower a)) (min (s.var .thermalCeil a) want), s)

/-- The accelerators' DEMAND and WSUM (R325, R330), and the tray's WSUM. -/
def State.putAccelDemands (s : State) : State :=
  let s := s.each s.accels (fun s a =>
    let s := s.putDomainDemands a
    let n := nodeAccel a
    let (v, s) := s.accelDemand a
    s.put .demand n v |>.put .wsum n (if s.get .minGrant n < v then s.get .weight n else 0))
  s.put .wsum nodeTray ((s.accels.map (fun a => s.get .wsum (nodeAccel a))).sum)

/-- A(p): accelerator power as it counts at the tray input (R326). -/
def State.atInput (s : State) (p : Rat) : Rat := p * 1000 / s.get .convEff

/-- The measured output power of an accelerator over the last `n` slots, mW: a mean of at most four (R345). -/
def State.outputPower (s : State) (a n : Nat) : Rat :=
  ((s.domainsOfAccel a).map (fun d =>
    let l := (s.dom d).powers.take n
    if l.isEmpty then (0 : Rat) else ((l.sum : Int) : Rat) / (1000000 * (l.length : Int)))).sum

/-- P_aux (R326). -/
def State.pAux (s : State) : Rat :=
  (s.auxHistory.map (·.2)).foldl max (s.get .auxFloor : Rat)

/-- The row of Table 8.3 and its band in 0.01 %. -/
def State.bandRow (s : State) : Nat × Nat :=
  let up := s.accels.filter (fun a => s.scope a = 3)
  let all1 := up.all (fun a => (s.domainsOfAccel a).all (fun d => s.get .planSource d = 1))
  if s.unitUp 2 ∧ (s.member.features false).testBit 2 ∧ all1 ∧ s.membership ≠ 0 then
    if s.membership = 1 then (2, 300) else (1, 200)
  else (3, 800)

/-- The guard band g (R327): a rise at once, a fall after 10 ms. -/
def State.setBand (s : State) : State :=
  let (row, band) := s.bandRow
  let new : Int := band + s.get .guardExtra
  let old := s.get .guardBand
  let change (s : State) : State :=
    ((s.put .guardBand 0 new).setV .guardSince 0 (-1)).raise .guardBand oDevice [old, new, row]
  if old < new then change s
  else if new = old then s.setV .guardSince 0 (-1)
  else
    let since := if s.var .guardSince < 0 then (s.now : Int) else s.var .guardSince
    if since + 10 * ms ≤ s.now then change s else s.setV .guardSince 0 since

/-- 1 − g. -/
def State.oneMinusG (s : State) : Rat := (((10000 - s.get .guardBand : Int) : Rat)) / 10000

/-- X_t of R328, with P_aux as it is now. -/
def State.trayPower (s : State) (cap : Int) : Rat := ((cap : Rat) * s.oneMinusG - s.pAux) * s.get .convEff / 1000

/-- BUDGET of a new grant (Table 5.8); 0 mW while FURL_N is asserted. -/
def State.sendGrant (s : State) (a : Nat) (v : Int) (effective : Ns) : State :=
  let low := s.furled a
  s.sendAccel a 0x06 [if low then 0 else v, s.get .reefGen a, effective, s.var .reefStatus a, if low then 1 else 0]

/-- The first instant of a level's epoch (R318), where its split has not run yet. -/
def State.epochDue (s : State) (level len : Nat) : Bool := s.onGrid len && decide (s.var .epochAt level ≠ s.now)

/-- A leader is in place: splits run (R353). -/
def State.splitsRun (s : State) : Bool := decide (s.get .powerState = psRunning) && !s.journal.stalled && s.td.isSome

/-- A child's state in a split, from its node. -/
def State.childOf (s : State) (n : Nat) : Child :=
  { key := n, demand := s.get .demand n, floor := min (s.get .minGrant n) (s.get .demand n), w := s.getN .wsum n
    deficit := (s.node n).deficit, age := s.getN .age n }

/-- A split's outcome goes back to the child's node. -/
def State.putChild (s : State) (c : Child) (grant : Int) (dec inc : Ns) : State :=
  let last := s.lastGrant c.key
  let s := (s.modNode c.key (fun x => { x with deficit := c.deficit, rationed := c.rationed })).put .age c.key c.age
  s.giveGrant c.key grant (leadOf s.now last grant dec inc)

/-! ### Racks (R335–R342) -/

/-- This tray is its rack's leader (R336, R342). -/
def State.isRackLeader (s : State) : Bool := !s.hasRatline || decide (s.get .rackLeader = s.var .serial)

/-- The rack leader (R336): the lowest (RACK_PRIORITY, SERIAL) among LOCKED trays heard in the last millisecond and this
one. -/
def State.rackElect (s : State) : State :=
  if !s.hasRatline then s
  else
    let own := if s.locked then [(s.getN .rackPriority, s.varN .serial)] else []
    let all := own ++ (s.hearings.filter (fun h => h.locked ∧ s.now < h.at_ + ms)).map (fun h => (h.prio, h.serial))
    let new := match all with
      | [] => 0
      | x :: rest => (rest.foldl (fun b y => if better y b then y else b) x).2
    let old := s.getN .rackLeader
    if old = new then s
    else
      let s := (s.put .rackLeader 0 new).raise .rackLeader oDevice [s.get .rackId, old, new]
      if new = s.varN .serial then s.setV .rackNew 0 2 else s

/-- A tray's or a rack's grant is accepted (R337, R340). -/
def State.acceptGrant (s : State) (level : Nat) (epoch : Nat) (v : Int) (effective : Ns) : State :=
  let n := if level = 0 then nodeTray else nodeRack
  let s := (s.setV .grantEpoch level epoch).setV .granted level 1 |>.arm .rackHold level (s.getN .rackHold * us)
  let s := s.giveGrant n v effective
  if s.flag .isolated level then
    (s.setV .isolated level 0).raise .rackIsolated oDevice [1, s.get .grant n]
  else s

/-- No grant has been accepted in time (R340, R341): the node falls to its floor under the decrease rule. -/
def State.isolate (s : State) (level : Nat) : State :=
  let n := if level = 0 then nodeTray else nodeRack
  let low := if level = 0 then s.get .minGrant n else s.get .installFallback n
  let s := (s.disarm .rackHold level).setV .isolated level 1
  let s := s.raise .rackIsolated oDevice [0, s.get .grant n]
  s.giveGrant n low (s.now + (if level = 0 then 25 else 200) * us)

/-- RUNNING is entered: the tray starts at its MIN_GRANT, its rack at INSTALL_FALLBACK, until they are granted (R340, R341,
R354). A tray in a fabric that has not been granted since cold boot is isolated, and so is the rack it leads (log entry 272). -/
def State.startBudget (s : State) : State :=
  let s := s.put .grant nodeTray (s.get .minGrant nodeTray) |>.put .grant nodeRack (s.get .installFallback nodeRack)
  let s := (s.settleNode nodeTray).settleNode nodeRack
  s.each [0, 1] (fun s l =>
    if s.flag .granted l then s.arm .rackHold l (s.getN .rackHold * us)
    else if s.hasRatline ∧ (l = 0 ∨ s.isRackLeader) ∧ !s.flag .isolated l then
      (s.setV .isolated l 1).raise .rackIsolated oDevice [0, s.get .grant (if l = 0 then nodeTray else nodeRack)]
    else s)

end Sys2Proof.Machine
end

