-- ==== Sys2Proof/Machine/CoolOps.lean ====
section
/-! DEFINITION. Drives, valves, flow proof and leak actions: the operations of chapter 12. -/

namespace Sys2Proof.Machine

/-! ### Curves and tables (R475, R488) -/

/-- Linear interpolation from a first point, held beyond the last. -/
def interpFrom (x0 y0 : Rat) : List (Rat × Rat) → Rat → Rat
  | [], _ => y0
  | (x1, y1) :: rest, x =>
    if x ≤ x1 then (if x1 = x0 then y1 else y0 + (y1 - y0) * (x - x0) / (x1 - x0)) else interpFrom x1 y1 rest x

/-- A table's value: its end values are held beyond its ends. -/
def interpTable (pts : List (Rat × Rat)) (x : Rat) : Rat :=
  match pts with
  | [] => 0
  | (x0, y0) :: rest => if x ≤ x0 then y0 else interpFrom x0 y0 rest x

/-- rpm(V), I(V) and V(rpm) of a channel's curve. Below its first point the curve runs to the origin. -/
def curveRpm (d : DriveDesc) (v : Rat) : Rat := interpFrom 0 0 (d.curve.map (fun p => ((p.1 : Rat), (p.2.1 : Rat)))) v
def curveMa (d : DriveDesc) (v : Rat) : Rat := interpFrom 0 0 (d.curve.map (fun p => ((p.1 : Rat), (p.2.2 : Rat)))) v
def curveVolt (d : DriveDesc) (r : Rat) : Rat := interpFrom 0 0 (d.curve.map (fun p => ((p.2.1 : Rat), (p.1 : Rat)))) r

/-! ### Channels (Tables 12.1, 12.2) -/

def driveFull (c : Nat) : Nat := if c < 16 then 13200000 else 26000000
def driveStep (c : Nat) : Nat := if c < 16 then 50000 else 100000

/-- A voltage rounded down to the channel's step, at most FULL (R471). -/
def floorStep (c : Nat) (v : Rat) : Nat := min (driveFull c) ((v / (driveStep c : Rat)).floor.toNat * driveStep c)

def chOff : Int := 0
def chKick : Int := 1
def chRest : Int := 2
def chRun : Int := 3
def chOpenLoop : Int := 4
def chStalled : Int := 5
def chOpen : Int := 6

def State.drv (s : State) (c : Nat) : DriveSt := s.drives.get {} c
def State.modDrv (s : State) (c : Nat) (f : DriveSt → DriveSt) : State := { s with drives := s.drives.put {} c (f (s.drv c)) }
def State.driveDesc (s : State) (c : Nat) : DriveDesc :=
  match s.td with
  | some d => d.drive c
  | none => { chan := c }

/-- The declared channels: fans 0–15, pumps 16–19. -/
def State.drivesUsed (s : State) : List Nat := (List.range 20).filter (fun c => s.declared (oDrive c))

/-- Fore drives the channels: it is in service and Gantline is served (R472). -/
def State.coolRuns (s : State) : Bool := s.inService 0 && s.flag .serving

/-! ### Targets (R481–R488) -/

/-- A valid reading of a thermal channel. -/
def State.validTemp (s : State) (c : Nat) : Option Int :=
  if (s.getN .thermalStatus c).testBit 0 then some (s.get .thermalTemperature c) else none

/-- The autonomous table in force of a channel (R487). -/
def State.fanTable (s : State) (c : Nat) : FanTable := ((s.drv c).table).getD (s.driveDesc c).table

/-- The highest SPEED of a table. -/
def topSpeed (x : FanTable) : Nat := (x.points.map (·.2)).foldl max 0

/-- The table's speed at the highest valid input (R488). -/
def State.tableSpeed (s : State) (c : Nat) : Rat :=
  let x := s.fanTable c
  match x.inputs.filterMap s.validTemp with
  | [] => topSpeed x
  | r :: rest => interpTable (x.points.map (fun (p : Int × Nat) => ((p.1 : Rat), (p.2 : Rat)))) ((rest.foldl max r : Int) : Rat)

/-- What AUTO asks of a channel (Table 12.4, R485). -/
def State.autoSpeed (s : State) (c : Nat) : Rat :=
  let d := s.driveDesc c
  let ps := s.get .powerState
  if ps = psOff ∨ ps = psDeepSleep then 0
  else if s.flag .coolStart ∧ (c < 16 ∨ ps ≠ psRunning) then d.start
  else if c < 16 then s.tableSpeed c
  else if ps = psRunning then s.varN .pumpTarget
  else max (s.tableSpeed c) d.start

/-- A Fore sensor is confirmed above FURL_T, or lost with LOSS_ACTION 1, with no main power (R447, R464). -/
def State.foreHot (s : State) : Bool :=
  decide (s.get .powerState = psStandby ∨ s.get .powerState = psRecovery)
    && (List.range 24).any (fun c => (s.getN .thermalStatus c).testBit 9
      || ((s.getN .thermalStatus c).testBit 1 && decide (s.get .lossAction c = 1)))

/-- A channel is in a speed mode (R482). -/
def State.speedMode (s : State) (c : Nat) : Bool := decide (s.get .control c = 0 ∨ s.get .control c = 1 ∨ s.get .control c = 3)

/-- Members of a channel's group that are lost, itself aside (R482). -/
def State.lostMembers (s : State) (c : Nat) : List Nat :=
  s.drivesUsed.filter (fun x => decide (x ≠ c) && decide (decide (x < 16) = decide (c < 16))
    && decide ((s.driveDesc x).group = (s.driveDesc c).group) && decide (s.get .channelState x = chStalled ∨ s.get .channelState x = chOpen))

/-- A target strictly inside a band goes to the nearer edge, and up on a tie (R483). -/
def skipBand (r : Rat) (b : Nat × Nat) : Rat :=
  if (b.1 : Rat) < r ∧ r < (b.2 : Rat) then (if r - b.1 < b.2 - r then b.1 else b.2) else r

/-- The effective target of a channel (R481); a pump that a zone holds has none (R506). -/
def State.effective (s : State) (c : Nat) : Rat :=
  let d := s.driveDesc c
  if 16 ≤ c ∧ (s.pumpHeld (c - 16) ∨ s.flag .testDrive (c - 16)) then 0
  else if s.foreHot then topSpeed (s.fanTable c)
  else
    let speed := s.speedMode c
    let base : Rat := match s.get .control c with
      | 0 => s.autoSpeed c
      | 1 | 3 => (s.drv c).value
      | _ => curveRpm d (s.drv c).value
    let r := if speed then base * (1000 + d.raise * (s.lostMembers c).length) / 1000 else base
    min (d.bands.foldl skipBand r) (curveRpm d (driveFull c))

/-! ### Voltages and states (R476–R480) -/

/-- The drive voltage; while the supply pressure is high, pump commands do not rise (R494). -/
def State.putVolt (s : State) (c : Nat) (v : Nat) : State :=
  let v := if 16 ≤ c ∧ 0 ≤ s.var .pressDropAt then min v (s.getN .driveVoltage c) else v
  let s := ((s.note 0x0B (oDrive c) [u64 v]).put .driveVoltage c v).setV .drvHigh c (pulseHigh (v / driveStep c) (driveFull c / driveStep c))
  let s := if v < 2000000 then s.modDrv c (fun x => { x with band := 0 }) else s
  if s.get .channelState c = chRun then s.modDrv c (fun x => { x with lastRun := v }) else s

/-- The voltage a state other than RUN applies; RUN in voltage mode applies the setter's. -/
def State.applyVolt (s : State) (c : Nat) : State :=
  let st := s.get .channelState c
  if st = chKick then s.putVolt c (driveFull c)
  else if st = chOpenLoop then s.putVolt c (max (s.drv c).lastRun (floorStep c (curveVolt (s.driveDesc c) (s.effective c))))
  else if st = chRun then (if s.speedMode c then s else s.putVolt c (floorStep c (s.drv c).value))
  else s.putVolt c 0

/-- CHANNEL_FLAGS (Table 12.14). -/
def State.putFlags (s : State) (c : Nat) (crossing : Bool) : State :=
  s.put .channelFlags c
    ((if s.get .channelState c = chOpenLoop then 1 else 0) + (if s.speedMode c ∧ !(s.lostMembers c).isEmpty then 2 else 0)
      + (if crossing then 4 else 0) + (if 16 ≤ c ∧ s.pumpHeld (c - 16) then 8 else 0) : Nat)

/-- A channel enters a state. -/
def State.enterDrive (s : State) (c : Nat) (st : Int) (attempt : Nat) : State :=
  let s := (s.put .channelState c st).modDrv c (fun x => { x with
    since := s.now, attempt, edgeCount := 0, near := 0
    arrives := x.arrives || decide (st = chOff ∨ st = chStalled ∨ st = chOpen) })
  (s.applyVolt c).putFlags c false

/-- A channel is lost (R477, R479, R482): its event, and its departure. -/
def State.driveLost (s : State) (c : Nat) (st : Int) : State :=
  let v := s.get .driveVoltage c
  let here := !(s.drv c).arrives
  let s := s.enterDrive c st 1
  let n := (s.lostMembers c).length + 1
  let g := (s.driveDesc c).group
  let s := if st = chStalled then s.raise .fanStalled (oDrive c) [g, n, s.get .driveCurrent c, v]
    else s.raise .fanOpen (oDrive c) [g, n, s.get .driveCurrent c]
  if here then s.partnerDeparted 4 6 (oDrive c) 0 false else s

/-- The tach is lost; the drive goes on by its current (R477). -/
def State.tachLost (s : State) (c : Nat) : State :=
  (s.enterDrive c chOpenLoop 1).raise .fanTachLost (oDrive c) [0, s.get .driveCurrent c, s.get .speed c]

/-- A current band is confirmed (R473). -/
def State.bandIs (s : State) (c n : Nat) : Bool := decide ((s.drv c).band = n) && decide ((s.drv c).bandAt + 100 * ms ≤ s.now)

/-- The effective target is formed anew, and starts or stops the channel (R477, R481). -/
def State.retarget (s : State) (c : Nat) : State :=
  let e := s.effective c
  let (shown, s) := s.whole e
  let s := s.put .effectiveTarget c shown
  let st := s.get .channelState c
  let s : State := if st = chOff ∧ 0 < e then s.enterDrive c chKick 1
    else if st ≠ chOff ∧ e ≤ 0 then s.enterDrive c chOff 0
    else s
  s.putFlags c ((s.getN .channelFlags c).testBit 2)

/-- Every channel is retargeted, where Fore drives them by a description. -/
def State.retargetAll (s : State) : State := if s.coolRuns ∧ s.td.isSome then s.each s.drivesUsed State.retarget else s

/-- The end of a kick (R477), once KICK_TIME has passed. -/
def State.kickEnd (s : State) (c : Nat) : State :=
  let x := s.drv c
  if s.get .channelState c = chKick ∧ x.since + s.getN .kickTime c * ms ≤ s.now then
    if (s.driveDesc c).ppr ≤ x.edgeCount then s.enterDrive c chRun x.attempt
    else if s.bandIs c 2 then
      if x.attempt < s.getN .kickAttempts c then s.enterDrive c chRest x.attempt else s.driveLost c chStalled
    else if s.bandIs c 3 then s.tachLost c
    else s
  else s

/-- The speed estimated from the current (R478), from its mean in mA. -/
def State.estSpeed (s : State) (c : Nat) (mean : Rat) : Rat :=
  let d := s.driveDesc c
  let v : Rat := (s.get .driveVoltage c : Rat)
  let top := curveRpm d v
  let i := curveMa d v
  if i = 0 then 0 else max 0 (min (top * mean / i) (12 * top / 10))

/-- The 10 ms mean of a drive's current (R473). -/
def DriveSt.mean (x : DriveSt) : Rat := if x.isns.isEmpty then 0 else (x.isns.sum : Rat) / ((x.isns.length : Int) : Rat)

/-- T_LOSS (R477), ns: by the effective target, or in voltage mode by the estimated speed. -/
def State.tachLimit (s : State) (c : Nat) : Nat :=
  let e := if s.speedMode c then s.effective c else s.estSpeed c (s.drv c).mean
  let ppr := (s.driveDesc c).ppr
  if e ≤ 0 ∨ ppr = 0 then 100 * ms else max (100 * ms) ((240 * (sec : Rat) / (ppr * e)).ceil.toNat)

/-- A running channel whose tach has been silent for T_LOSS (R477). -/
def State.tachSilent (s : State) (c : Nat) : State :=
  let x := s.drv c
  let last := max x.since (x.edges.headD 0)
  if s.get .channelState c = chRun ∧ last + s.tachLimit c ≤ s.now then
    if s.bandIs c 3 then s.tachLost c
    else if s.bandIs c 2 then s.enterDrive c chRest 1
    else s
  else s

/-- What a confirmed band does by itself (R477, R479). -/
def State.bandActs (s : State) (c : Nat) : State :=
  let st := s.get .channelState c
  let s : State := if s.bandIs c 3 ∧ (s.drv c).arrives ∧ st ≠ chOff then
      (s.modDrv c (fun x => { x with arrives := false })).partnerArrived 4 (if c < 16 then c else c - 16) (oDrive c) 0
    else s
  if s.bandIs c 1 ∧ (st = chKick ∨ st = chRun ∨ st = chOpenLoop) then s.driveLost c chOpen
  else if s.bandIs c 2 ∧ st = chOpenLoop then s.enterDrive c chRest 1
  else s

/-! ### Valves (R484, R495, R496, R506) -/

/-- The level that opens an isolation valve. -/
def State.isoOpenLevel (s : State) (v : Nat) : Int :=
  match s.td with
  | some d => if v ∈ d.isoOpen then 0 else 1
  | none => 1

/-- A valve takes what its holder or setter gives it (R511); the controller holds a stuck valve's command (R495). -/
def State.syncValve (s : State) (v : Nat) : State :=
  if !s.declared (oValve v) ∨ !s.coolRuns then s
  else if v < 4 then
    let held := s.valveHeld v
    let closed := held || s.flag .testValve v || decide (s.var .valveSetter v ≠ 0 ∧ s.var .valveSet v = 1)
    let s := s.drive (outIso v) (if closed then 1 - s.isoOpenLevel v else s.isoOpenLevel v)
    let at_ : Int := if closed then 0 else 1000
    (s.put .command v at_).put .position v at_ |>.put .valveControl v (if held then 3 else s.var .valveSetter v)
  else
    let s := s.drive (outValve (v - 4)) 1
    if s.flag .leakShut (v - 4) then (s.commandValve v 0).put .valveControl v 3
    else if s.flag .testValve v then s.commandValve v (s.var .testValve v - 1)
    else
      let s := s.put .valveControl v (s.var .valveSetter v)
      if s.flag .valveSetter v then s.commandValve v (s.var .valveSet v)
      else if s.get .powerState = psRunning ∨ s.get .stuck v = 1 then s else s.commandValve v 1000

def State.syncValves (s : State) : State := s.each (List.range 12) State.syncValve

/-! ### Flow proof (R492) -/

/-- The supply pressure inputs and their limits. -/
def State.supplyInputs (s : State) : List Nat :=
  match s.td with
  | some d => (d.press.filter (fun x => x.supply && s.declared (oPressure x.input))).map (·.input)
  | none => []

/-- An unusable pressure or temperature. -/
def noReading : Int := -2147483648

/-- The first condition of R492 that fails, in its order. -/
def State.flowFails (s : State) : Option Nat :=
  if !([16, 17, 18, 19].any (fun c => s.declared (oDrive c) && decide (s.get .channelState c = chRun ∨ s.get .channelState c = chOpenLoop))) then some 0
  else if s.var .flowOkSince < 0 ∨ s.now < s.varN .flowOkSince + s.getN .flowProvenTime * ms then some 1
  else if s.supplyInputs.any (fun i => decide (s.get .pressure i = noReading ∨ s.get .pressure i < s.get .pMin i ∨ s.get .pMax i < s.get .pressure i)) then some 2
  else if !(s.zonesHolding 2).isEmpty then some 3
  else none

/-- Flow proof is judged, and each change reported; the field that names no condition is not given. -/
def State.judgeFlow (s : State) : State :=
  let f := s.flowFails
  let was := decide (s.get .flowProven = 1)
  if f.isNone = was then s
  else match f with
    | some i => (s.put .flowProven 0 0).raise .flowProven oDevice [0, i, s.get .totalFlow]
    | none =>
      let (x, s) := s.draw
      (s.put .flowProven 0 1).raise .flowProven oDevice [1, x % 256, s.get .totalFlow]

/-! ### Firmware furls and leak actions (R493, R505–R511) -/

/-- The scopes of a furl whose off-sequences are still to come (R461). -/
def State.furlWaits (s : State) (i : Nat) : List Nat :=
  (if i < 8 then [i] else s.accels ++ [8]).filter (fun j => decide (s.scope j = 2 ∨ s.scope j = 3 ∨ s.scope j = 4))

/-- A firmware FURL with the SAFETY flag (R164, R493, R506): the action and its SAFETY entry, then its COMMAND entry; it runs until its scopes' off-sequences are complete. -/
def State.firmwareFurl (s : State) (i deadline : Nat) : State :=
  let o : Origin := { op := .furl, object := oScope i, safety := true, id := s.varN .admitted + 1 }
  let s := (s.countV .admitted 0).startFurl i 2 0xFFFF noReading 0 deadline
  let s := s.commit o
  let w := s.furlWaits i
  if w.isEmpty then s
  else
    ({ s with running := s.running ++ [o], furlCmds := s.furlCmds ++ [({ origin := o, scopes := w } : FurlCmd)] }).hold o
      ((w.filter (· < 8)).map oAccel)

def State.zone (s : State) (z : Nat) : ZoneSt := s.zones.get {} z
def State.modZone (s : State) (z : Nat) (f : ZoneSt → ZoneSt) : State := { s with zones := s.zones.put {} z (f (s.zone z)) }

/-- Zone states (Table 12.7). -/
def zDry : Int := 0
def zSuspect : Int := 1
def zWet : Int := 2
def zEscalated : Int := 3
def zDrying : Int := 4
def zRope : Int := 5

/-- A zone reports wet (R505). -/
def State.zoneWet (s : State) (z : Nat) : Bool := decide (s.get .zoneState z = zWet ∨ s.get .zoneState z = zEscalated)
def State.anyWet (s : State) : Bool := (List.range 8).any s.zoneWet

/-- A leak action takes hold (R506, R507): the furls it orders, valves and pumps, and the wait for the feeds' cut. -/
def State.holdLeak (s : State) (z : Nat) (action : Int) : State :=
  let old := s.get .heldAction z
  if action ≤ old then s
  else
    let s := (s.put .heldAction z action).journalSafety (oLeakZone z) action
    let s := s.stopTrials ((List.range 4).filter s.valveHeld |>.map oValve)
    let s := s.stopTrials ((List.range 4).filter s.pumpHeld |>.map (fun p => oDrive (16 + p)))
    let s := if 2 ≤ action then (s.syncValves.retargetAll).judgeFlow else s
    let d := s.getN .leakFurlDeadline
    let s : State := if 2 ≤ action then (if old < 2 then s.firmwareFurl 8 d else s)
      else s.each (s.accels.filter (fun a => (s.zoneDesc z).accels.testBit a)) (fun s a => s.firmwareFurl a d)
    if action = 3 then
      let s := s.armOnce .leakCut 0 (s.getN .leakCutTime * ms)
      if s.scope 8 = 0 ∨ s.scope 8 = 5 ∨ s.scope 8 = 6 then s.cutFeeds else s
    else s

/-- A zone changes state, with the action it takes on (0 none), and EV_LEAK. -/
def State.zoneTo (s : State) (z : Nat) (st action : Int) : State :=
  let old := s.get .zoneState z
  let before := s.get .heldAction z
  let s := (s.put .zoneState z st).holdLeak z action
  s.raiseAt .leak (oLeakZone z) [z, old, st, s.get .heldAction z, s.get .leakR z, (s.zone z).firstWet]
    (decide (before < s.get .heldAction z)) s.now

/-- A WET zone escalates (Table 12.8). -/
def State.escalate (s : State) (z : Nat) : State :=
  if s.get .zoneState z = zWet then
    (s.zoneTo z zEscalated (max (s.get .firstAction z) (s.get .secondAction z))).disarm .leakEscalate z
  else s

/-- A zone enters WET, or comes back to WET or ESCALATED: its escalation runs, and with another zone wet every WET zone escalates at once. -/
def State.zoneIsWet (s : State) (z : Nat) (st action : Int) : State :=
  let s := (s.abortSleep.zoneTo z st action).disarm .leakConfirm z |>.disarm .leakDry z
  let s := if st = zWet ∧ s.get .leakEscalate ≠ 0 then s.arm .leakEscalate z (s.getN .leakEscalate * sec) else s
  if 2 ≤ ((List.range 8).filter s.zoneWet).length then s.each (List.range 8) State.escalate else s

/-- A zone's actions are released (R509): valves and pumps that no zone holds return to their setters. -/
def State.releaseZone (s : State) (z : Nat) : State :=
  let s := s.put .heldAction z 0
  let s := s.when (s.zonesHolding 3).isEmpty (fun s => s.disarm .leakCut)
  let s := s.each (List.range 8) (fun s a =>
    if s.flag .leakShut a ∧ !s.leakNames a ∧ (s.zonesHolding 2).isEmpty then s.setV .leakShut a 0 else s)
  (s.syncValves.retargetAll).judgeFlow

/-! ### Autonomous mode (R486) -/

/-- Milliseconds since the latest KEEPALIVE. -/
def State.silence (s : State) : Nat := (s.now - s.varN .keepAt) / ms

/-- Channels and valves that a host set return to AUTO. -/
def State.hostSettersOff (s : State) : State :=
  let s := s.each (List.range 20) (fun s c => if s.get .control c = 1 ∨ s.get .control c = 2 then s.put .control c 0 else s)
  let s := s.each (List.range 12) (fun s v => if s.var .valveSetter v = 1 then s.setV .valveSetter v 0 else s)
  s.syncValves.retargetAll

/-- A KEEPALIVE of a host-class session ends autonomous mode, PROOF_RECOVERY aside. -/
def State.hostAlive (s : State) : State :=
  let quiet := s.silence
  let s := (s.setV .keepAt 0 s.now).arm .hostSilence 0 (s.getN .hostSilence * sec)
  if s.get .autonomous = 1 ∧ s.get .powerState ≠ psRecovery then (s.put .autonomous 0 0).raise .autonomous oDevice [1, quiet] else s

/-! ### Fore's coming and going (R173, R472, R485, R512) -/

/-- Fans, pumps and valves start (step 3 of Table 1.9, R485). -/
def State.coolStart (s : State) : State :=
  let s := s.each (List.range 20) (fun s c => (s.put .control c 0).modDrv c (fun x => { table := x.table }))
  let s := s.each (List.range 20) (fun s c => s.put .channelState c chOff |>.put .driveVoltage c 0)
  if s.td.isSome then
    ((s.setV .coolStart 0 1).arm .fanHandover 0 (10 * sec)).syncValves.retargetAll
  else
    let ch := coolantChannels s.member
    s.each ((List.range ch.1) ++ (List.range ch.2.1).map (· + 16)) (fun s c =>
      (s.put .channelState c chOpenLoop).putVolt c (floorStep c (driveFull c * 7 / 10 : Nat)))

/-- Fore leaves service: its DRV pins go low, its board stages to failsafe, and zones are not sensed. -/
def State.coolLost (s : State) : State :=
  let s := s.each (List.range 20) (fun s c => (s.put .channelState c chOff).put .driveVoltage c 0 |>.setV .drvHigh c 0
    |>.modDrv c (fun x => { value := x.value, table := x.table }))
  let s := s.each (List.range 8) (fun s a => s.setV .drvHigh (20 + a) 0)
  let s := s.each (List.range 8) (fun s z =>
    s.disarm .leakConfirm z |>.disarm .leakEscalate z |>.disarm .leakDry z |>.modZone z (fun x => { x with broken := 0, whole := 0 }))
  s.judgeFlow

end Sys2Proof.Machine
end

