-- ==== Sys2Proof/Machine/TestOps.lean ====
section
/-! DEFINITION. What self-tests do between their start and their end, and the end of maintenance mode (R723–R727). -/

namespace Sys2Proof.Machine

/-- A test gives its object back: its valve, pump or, before the cut, its accelerator's furl (R724, R725). -/
def State.restoreTrial (s : State) (x : Trial) : State :=
  let i := objIdx x.object
  let s := s.freeTrial x
  match x.test with
  | 8 => if s.furlStateOf i = 1 then (s.putFurl i 0).releaseFurl i else s
  | 10 => (if i < 4 then s else s.commandValve i x.prior).syncValve i
  | 11 => if s.coolRuns then s.retarget (16 + i) else s
  | _ => s

/-- A proportional valve that has reached what its stroke commands moves on: 0 %, 100 %, the command before (Table 19.3). -/
def State.strokeValve (s : State) (v : Nat) (pos : Int) : State :=
  match s.tests.find? (fun x => !x.cal && decide (x.test = 10 ∧ x.object = oValve v ∧ x.stage < 2)) with
  | some x =>
    if s.get .valveTol v < (pos - s.get .command v).natAbs ∨ !s.flag .testValve v then s
    else
      let next : Int := if x.stage = 0 then 1000 else x.prior
      let s : State := { s with tests := s.tests.map (fun y => if y = x then { x with stage := x.stage + 1 } else y) }
      (s.setV .testValve v (1 + next)).commandValve v next
  | none => s

/-- PUMP_STOP's time without drive has passed: the pump is kicked (Table 19.3). -/
def State.restartPumps (s : State) : State :=
  s.each (s.tests.filter (fun x => !x.cal && decide (x.test = 11 ∧ x.since + x.arg * ms ≤ s.now))) (fun s x =>
    let p := objIdx x.object
    if s.flag .testDrive p then (s.setV .testDrive p 0).retarget (16 + p) else s)

/-- Maintenance mode ends (R723, R724): points of level 1 and 2 are disarmed, disturbing tests aborted. What SECONDS says of an
end the manual does not give. -/
def State.endMaintenance (s : State) (cause : Int) : State :=
  if (s.timer .maintenance).isNone then s
  else
    let (x, s) := s.draw
    let s := (s.disarm .maintenance 0).raise .maintenance oDevice [1, cause, x % 4294967296]
    let s := s.each (s.armedPoints.filter (fun p => decide (1 ≤ s.armedLevel p))) (fun s p => (s.pointIdle p).pointEvent p 4)
    s.each (s.tests.filter (·.disturbs)) (fun s x => (s.restoreTrial x).abortTrial x .diagAborted)

end Sys2Proof.Machine
end

