-- ==== Sys2Proof/Machine/NonVol.lean ====
section
/-! DEFINITION. What survives the loss of power (Table 1.8, R754). -/

namespace Sys2Proof.Machine

/-- Fuses, straps, and what is known of the copies: registers no reset clears. -/
def keptVars : List (V × Nat) :=
  [(.revoked, 0), (.keyEcFuse, 4), (.keyEcFuse, 5), (.keyMlFuse, 4), (.keyMlFuse, 5), (.dualSign, 0), (.serial, 0),
   (.fieldDead, 0), (.tdLast, 0), (.testMode, 0), (.smbAddr, 0), (.firstFaultSeq, 0), (.norLost, 0), (.metaErased, 0), (.faultErased, 0)]

/-- Properties that fuses or the NAND hold. -/
def keptProps : List (P × Nat) :=
  [(.svnFloor, 0), (.stageState, 0), (.stagePrefix, 0), (.stageTotal, 0), (.bundleVersion, 0)]

/-- Every tile is reset and only what NOR, NAND and the fuses hold survives (Table 1.8). Log records that had not reached
the NAND are lost (R736); a verification in progress is undone. -/
def State.powerOff (s : State) : State :=
  let z : State :=
    { now := s.now, pending := s.pending, member := s.member, draws := s.draws, outbox := s.outbox
      nor := s.nor, shelf := s.shelf, progShelf := s.progShelf, stage := { parts := s.stage.parts }, descStore := s.descStore
      log := { held := s.log.held, first := s.log.first, lost := s.log.lost + s.log.waiting.length } }
  let z := keptVars.foldl (fun (z : State) k => z.setV k.1 k.2 (s.var k.1 k.2)) z
  let z := keptProps.foldl (fun (z : State) k => z.put k.1 k.2 (s.get k.1 k.2)) z
  if z.get .stageState = 2 then z.put .stageState 0 1 else z

/-- The whole device is held in reset (R463, R754). -/
def State.holdReset (s : State) (why : Int) : State := s.powerOff.setV .heldReset 0 why

end Sys2Proof.Machine
end

