-- ==== Sys2Proof/Machine/ThermOps.lean ====
section
/-! DEFINITION. Judging the readings of thermal channels (R439–R450, R462–R465). -/

namespace Sys2Proof.Machine

def State.therm (s : State) (c : Nat) : ThermSt := s.therms.get {} c
def State.modTherm (s : State) (c : Nat) (f : ThermSt → ThermSt) : State := { s with therms := s.therms.put {} c (f (s.therm c)) }

/-- Bits of THERMAL_STATUS (Table 11.5). -/
def tsValid : Nat := 0
def tsLost : Nat := 1
def tsPromoted : Nat := 2
def tsHot : Nat := 3
/-- REEFED, FURLED and TRIPPED: thresholds 0, 1 and 2. -/
def tsOf (k : Nat) : Nat := 8 + k

def State.tstat (s : State) (c bit : Nat) : Bool := (s.getN .thermalStatus c).testBit bit
def State.putTstat (s : State) (c bit : Nat) (v : Bool) : State :=
  let x := s.getN .thermalStatus c
  let off := if x.testBit bit then x - 2 ^ bit else x
  s.put .thermalStatus c (if v then off + 2 ^ bit else off : Nat)

/-- A channel gives readings (R448). -/
def State.chanRuns (s : State) (c : Nat) : Bool :=
  match chanTile c with
  | some t => s.votes t && (decide (c < 72 ∨ 200 ≤ c) || s.islandGives t 7)
  | none => true

/-- Threshold k of a channel. -/
def State.threshold (s : State) (c k : Nat) : Int :=
  match k with
  | 0 => s.get .reefT c
  | 1 => s.get .furlT c
  | _ => s.get .tripT c

/-- x_c (R450). -/
def State.excessOf (s : State) (c : Nat) : Int :=
  if s.tstat c (tsOf 0) then
    match (s.therm c).last with
    | [] => 0
    | r :: rest => max 0 (rest.foldl min r - s.get .reefT c)
  else 0

/-- The channels whose OWNER names an accelerator. -/
def State.chansOf (s : State) (a : Nat) : List Nat := (List.range 984).filter (fun c => (s.getN .owner c).testBit a)

/-- x_a and the channel that gives it (R450). -/
def State.excess (s : State) (a : Nat) : Int × Nat :=
  (s.chansOf a).foldl (fun b c => if b.1 < s.excessOf c then (s.excessOf c, c) else b) (0, 0xFFFF)

/-- The scopes a channel furls (R441, Table 11.2). -/
def State.chanScopes (s : State) (c : Nat) : List Nat :=
  let o := s.getN .owner c
  if o.testBit 15 then [8] else s.accels.filter (fun a => o.testBit a)

/-- A throttle starts when x_a first exceeds 0 (R451). -/
def State.startThrottle (s : State) (a : Nat) : State :=
  let (x, c) := s.excess a
  if 0 < x ∧ !s.flag .throttle a then
    let cap := s.get .limit (nodeAccel a)
    ((s.setV .throttle a 1).setV .thermalCeil a cap |>.put .thermalCeiling a cap).raise .thermalThrottle (oAccel a) [a, 0, c, cap, x]
  else s

/-- A controller sensor above TRIP_T resets its tile (R463): its votes leave at once; the only tile running takes the whole
device with it. -/
def State.tripTile (s : State) (t : Nat) : State :=
  if s.tilesIn = [t] then s.holdReset 2 else ((s.setV .tileReset t 1).chansStop t).revoteAll

/-- A confirmed crossing of TRIP_T (R462). -/
def State.tripScope (s : State) (c i : Nat) (r : Int) : State :=
  let s := s.stopTrials (if i < 8 then [oAccel i] else (List.range 8).map oAccel)
  let s := if s.furlStateOf i = 0 then s.furl i 1 c r (s.get .tripT c) else s
  let s : State := if i < 8 then s.cutFurl i 2 else (s.each s.accels (fun s a => s.cutScope a 2)).cutTray 2
  s.raiseSafety .thermalTrip (oThermal c) [c, i, r]

/-- What a threshold does when it is confirmed upwards (R454, R462–R465). -/
def State.crossed (s : State) (c k : Nat) (r : Int) : State :=
  let run := decide (s.get .powerState = psRunning)
  match k with
  | 1 => if run ∧ !s.tstat c (tsOf 2) then s.each (s.chanScopes c) (fun s i => s.furl i 0 c r (s.get .furlT c)) else s
  | 2 =>
    let s := if run then s.each (s.chanScopes c) (fun s i => s.tripScope c i r) else s
    if c < 72 then
      let s := if run then s else s.raiseSafety .thermalTrip (oThermal c) [c, 8, r]
      s.tripTile (c / 24)
    else s
  | _ => s

/-- The run of readings above a threshold, and of those at or below it less HYST (R446), by the instant of its first reading. -/
def stepRun (x : Nat × Ns) (met : Bool) (now : Ns) : Nat × Ns := if met then (if x.1 = 0 then (1, now) else (x.1 + 1, x.2)) else (0, 0)

/-- Threshold k is judged by a valid reading; while the channel is lost its state holds (R447). -/
def State.judgeThreshold (s : State) (c : Nat) (r : Int) (at_ : Ns) (k : Nat) : State :=
  let th := s.threshold c k
  let x := s.therm c
  let up := stepRun (x.ups.getD k (0, 0)) (decide (th < r)) at_
  let down := stepRun (x.downs.getD k (0, 0)) (decide (r ≤ th - s.get .hyst c)) at_
  let s := s.modTherm c (fun x => { x with ups := x.ups.set k up, downs := x.downs.set k down })
  if s.tstat c tsLost then s
  else if !s.tstat c (tsOf k) ∧ 2 ≤ up.1 then
    ((s.putTstat c (tsOf k) true).raise .thermalThreshold (oThermal c) [c, k, 0, r, up.2]).crossed c k r
  else if s.tstat c (tsOf k) ∧ 2 ≤ down.1 then
    (s.putTstat c (tsOf k) false).raise .thermalThreshold (oThermal c) [c, k, 1, r, down.2]
  else s

/-! ### Promotion (R443, R444) -/

/-- Board channel c is converted at this instant (R443): at its place in the slow round, or in the fast round in its turn among its bank's
promoted channels. -/
def State.boardTurn (s : State) (c : Nat) : Bool :=
  let i := (c - 72) % 64
  let first := c - i
  let rank := ((List.range i).filter (fun j => s.tstat (first + j) tsPromoted)).length
  decide (s.now % (16 * ms) = i * 250 * us) || (s.tstat c tsPromoted && decide (s.now % ms = rank * 10 * us))

/-- The board channels of a bank that qualify for the fast round, by margin to REEF_T. -/
def State.qualifying (s : State) (bank : Nat) : List Nat :=
  let l := ((List.range 64).map (fun i => 72 + 64 * bank + i)).filter (fun c => (s.therm c).wants)
  let m (c : Nat) : Int := s.get .reefT c - s.get .thermalTemperature c
  sortBy (fun x y => decide (m x < m y) || (decide (m x = m y) && decide (x ≤ y))) l

/-- A valid reading of a board channel promotes or demotes it. -/
def State.promoteChan (s : State) (c : Nat) (r : Int) : State :=
  if c < 72 ∨ 200 ≤ c then s
  else
    let band := s.get .promoteBand
    let th := s.get .reefT c
    let cool := decide (r < th - band - s.get .hyst c)
    let since := if cool then some (((s.therm c).coolSince).getD s.now) else none
    let done := since.any (fun t => decide (t + sec ≤ s.now))
    let s := s.modTherm c (fun x => { x with
      wants := if th - band ≤ r then true else if done then false else x.wants, coolSince := since })
    let bank := (c - 72) / 64
    let q := s.qualifying bank
    let s := s.each ((List.range 64).map (fun i => 72 + 64 * bank + i)) (fun s x => s.putTstat x tsPromoted (decide (x ∈ q.take 16)))
    if 16 < q.length ∧ (s.var .promoteEvAt bank < 0 ∨ s.varN .promoteEvAt bank + sec ≤ s.now) then
      (s.setV .promoteEvAt bank s.now).raise .thermalPromoteFull (oTile bank) [bank, q.length]
    else s

/-! ### Readings (R446, R447) -/

/-- A channel's reading of an instant: none is invalid, for reason 0 unavailable or 1 out of table. TRIP_T is judged before
FURL_T. -/
def State.reading (s : State) (c : Nat) (r : Option Int) (reason : Nat) (at_ : Ns) : State :=
  let r : Option Int := match s.injected (0x800 + c) with
    | some v => if v = noReading then none else r.map (fun x => max x v)
    | none => r
  let s := s.spend (0x800 + c)
  match r with
  | some r =>
    let s := s.modTherm c (fun x => { x with last := (r :: x.last).take 2, bad := 0, good := x.good + 1 })
    let s := (((s.note 0x0A (oThermal c) [u64 r]).gauge (meterThermal c) r).put .thermalTemperature c r).putTstat c tsValid true
    let s : State := if s.tstat c tsLost ∧ 3 ≤ (s.therm c).good then
        (s.putTstat c tsLost false).raise .thermalSensorLost (oThermal c) [c, 1, (s.therm c).reason]
      else s
    let s := if 216 ≤ c then s.gauge (meterHot ((c - 216) / 96)) r else s
    let s := s.each [0, 2, 1] (fun s k => if s.flag .heldReset then s else s.judgeThreshold c r at_ k)
    if s.flag .heldReset then s
    else
    let s := s.putTstat c tsHot (decide (s.get .hotBand ≤ s.excessOf c))
    let s := s.promoteChan c r
    s.each (s.accels.filter (fun a => (s.getN .owner c).testBit a)) State.startThrottle
  | none =>
    let s := (s.modTherm c (fun x => { x with bad := x.bad + 1, good := 0 })).putTstat c tsValid false
    if !s.tstat c tsLost ∧ 3 ≤ (s.therm c).bad then
      let s := ((s.modTherm c (fun x => { x with reason })).putTstat c tsLost true).raise .thermalSensorLost (oThermal c) [c, 0, reason]
      if s.get .lossAction c = 1 ∧ s.get .powerState = psRunning then
        s.each (s.chanScopes c) (fun s i => s.furl i 8 c noReading (s.get .furlT c))
      else s
    else s

/-! ### Conversion and compensation (R442, R466, R467) -/

/-- Entry i of a compensation table: the fuses' value, and what measurements have added to it. -/
def State.compEntry (s : State) (x : V) (i : Nat) : Rat := ((Config.compFactory x.ctorIdx i + s.var x i : Int) : Rat)

/-- The compensation table of 32 points at −5 + 5i °C from entry `base`, at a temperature in m°C; its ends are held. -/
def State.compAt (s : State) (x : V) (base : Nat) (temp : Int) : Rat :=
  interpTable ((List.range 32).map (fun (i : Nat) => (((5000 * i : Nat) : Rat) - 5000, s.compEntry x (base + i)))) temp

/-- A converter code, corrected by the gain error of its bank's reference at sensor 1's temperature, through the channel's
table (R442): none outside the table's ends; a value between whole millidegrees may be rounded either way. -/
def State.convert (s : State) (c code : Nat) : Option Int × State :=
  let tile := (chanTile c).getD 0
  let gain := s.compAt .compRef (32 * (4 * tile + 2)) ((s.validTemp (24 * tile + 1)).getD 25000)
  let x : Rat := (code : Rat) * (1000000 + gain) / 1000000
  match s.td with
  | none => (none, s)
  | some d =>
    match d.chanTables.find? (fun e => e.1 = c) with
    | none => (none, s)
    | some e =>
      let pts := e.2.map (fun (p : Nat × Int) => ((p.1 : Rat), (p.2 : Rat)))
      match pts.head?, pts.getLast? with
      | some lo, some hi =>
        if x < lo.1 ∨ hi.1 < x then (none, s)
        else
          let (v, s) := s.whole (interpTable pts x)
          (some v, s)
      | _, _ => (none, s)

end Sys2Proof.Machine
end

