-- ==== Sys2Proof/Machine/Coolant.lean ====
section
/-! DEFINITION. The commands of chapter 12: fans, pumps, valves, flow, water mode and leaks. -/

namespace Sys2Proof.Machine

/-! ### Drives (R473–R485) -/

/-- Of a real and an injected value, the one further outside [lo, hi) (R719). -/
def further (lo hi real inj : Rat) : Bool :=
  let off (x : Rat) : Rat := if x < lo then lo - x else if hi ≤ x then x - hi else 0
  decide (off real < off inj)

/-- An ISNS sample as injection leaves it: the value further from the running band (Table 19.1). -/
def State.isnsOf (s : State) (c : Nat) (ma : Int) : Int :=
  match s.injected (pCurrent c) with
  | some v => if further (s.get .iOpen c) ((s.get .stallG c : Rat) * s.get .driveVoltage c / 1000000) ma v then v else ma
  | none => ma

/-- One ISNS sample of a channel: its 10 ms mean, its band, and what a confirmed band does. -/
def State.sampleDrive (s : State) (c : Nat) (ma : Int) : State :=
  let l := (s.isnsOf c ma :: (s.drv c).isns).take 10
  let s := s.spend (pCurrent c)
  let (shown, s) := s.roundDiv l.sum l.length
  let v := s.get .driveVoltage c
  let mean : Rat := (l.sum : Rat) / ((l.length : Int) : Rat)
  let band := if v < 2000000 then 0 else if mean < (s.get .iOpen c : Rat) then 1
    else if ((s.get .stallG c * v : Int) : Rat) ≤ mean * 1000000 then 2 else 3
  let s := s.put .driveCurrent c shown
  let s := s.modDrv c (fun x => { x with isns := l, band, bandAt := if x.band = band then x.bandAt else s.now })
  let s := ((s.bandActs c).kickEnd c).tachSilent c
  if s.get .channelState c = chOpenLoop then
    let (r, s) := s.whole (s.estSpeed c mean)
    s.put .speed c r
  else s

/-- DRIVE_CURRENT_SAMPLE: mA. -/
def execDriveCurrentSample (t : Ns) (samples : List (Fin 20 × Int)) (s : State) : Out :=
  let s := s.tick t
  .next (if s.coolRuns ∧ s.td.isSome ∧ s.onGrid ms ∧ s.islandGives 0 8 then
      (s.each (samples.filter (fun x => s.declared (oDrive x.1.val))) (fun (s : State) (x : Fin 20 × Int) => s.sampleDrive x.1.val x.2)).judgeFlow
    else s)

/-- A tachometer edge of a drive (R474, R477): the speed over its pulses a turn, the end of a kick, and the return from OPEN_LOOP. -/
def State.takeEdge (s : State) (c : Nat) : State :=
  let d := s.driveDesc c
  let ppr := max 1 d.ppr
  let old := (s.drv c).edges
  let s := s.modDrv c (fun x => { x with edges := (s.now :: x.edges).take 16, edgeCount := x.edgeCount + 1 })
  let st := s.get .channelState c
  let span := s.now - old.getD (ppr - 1) s.now
  let known := decide (ppr ≤ old.length) && decide (0 < span)
  let speed : Rat := if known then (60 * (sec : Rat)) / (span : Rat) else 0
  let s : State := if known ∧ st ≠ chOpenLoop then let (r, s) := s.whole speed; s.put .speed c r else s
  let s : State :=
    if st = chKick ∧ known ∧ s.effective c ≤ speed then s.enterDrive c chRun (s.drv c).attempt
    else if st = chOpenLoop then
      let est : Rat := (s.get .speed c : Rat)
      let period : Rat := match old with | e :: _ => ((s.now - e : Nat) : Rat) | [] => 0
      let implied : Rat := if est ≤ 0 then 0 else 60 * (sec : Rat) / (ppr * est)
      let near := decide (0 < implied ∧ implied / 2 ≤ period ∧ period ≤ 3 * implied / 2)
      let s := s.modDrv c (fun x => { x with near := if near then x.near + 1 else 0 })
      if 8 ≤ (s.drv c).near then
        (s.enterDrive c chRun 1).raise .fanTachLost (oDrive c) [1, s.get .driveCurrent c, s.get .speed c]
      else s
    else s
  s.judgeFlow

/-- TACH_EDGE (R474, R477). -/
def execTachEdge (t : Ns) (c : Fin 20) (s : State) : Out :=
  let s := s.tick t
  let c := c.val
  .next (if !s.coolRuns || !s.islandGives 0 8 || !s.declared (oDrive c) || s.acts (pTach c) then s
    else s.takeEdge c)

/-- KICK_TIME_EXPIRY (Table 12.3). -/
def execKickTimeExpiry (t : Ns) (c : Fin 20) (s : State) : Out :=
  let s := s.tick t
  .next (if s.coolRuns then (s.kickEnd c.val).judgeFlow else s)

/-- REST_TIME_EXPIRY (Table 12.3). -/
def execRestTimeExpiry (t : Ns) (c : Fin 20) (s : State) : Out :=
  let s := s.tick t
  let x := s.drv c.val
  .next (if s.coolRuns ∧ s.get .channelState c.val = chRest ∧ x.since + s.getN .restTime c.val * ms ≤ s.now then
      s.enterDrive c.val chKick (x.attempt + 1)
    else s)

/-- TACH_LOSS_EXPIRY (Table 12.3). -/
def execTachLossExpiry (t : Ns) (c : Fin 20) (s : State) : Out :=
  let s := s.tick t
  .next (if s.coolRuns then (s.tachSilent c.val).judgeFlow else s)

/-- STALL_RETRY_EXPIRY (Table 12.3). -/
def execStallRetryExpiry (t : Ns) (c : Fin 20) (s : State) : Out :=
  let s := s.tick t
  let st := s.get .channelState c.val
  let retry := s.getN .stallRetry c.val
  .next (if s.coolRuns ∧ (st = chStalled ∨ st = chOpen) ∧ retry ≠ 0 ∧ (s.drv c.val).since + retry * sec ≤ s.now then
      s.enterDrive c.val chKick 1
    else s)

/-- The moving speed target, and whether it crosses a band in this update (R480, R483). -/
def moveTarget (d : DriveDesc) (cur goal step : Rat) : Rat × Bool :=
  let next := if cur < goal then min goal (cur + step) else max goal (cur - step)
  match d.bands.find? (fun b => decide ((b.1 : Rat) < next ∧ next < (b.2 : Rat))
      || decide (cur ≤ (b.1 : Rat) ∧ (b.2 : Rat) ≤ next) || decide (next ≤ (b.1 : Rat) ∧ (b.2 : Rat) ≤ cur)) with
  | some b => if cur < goal then (max next b.2, true) else (min next b.1, true)
  | none => (next, false)

/-- One channel's 20 ms update. The manual gives the PI law no discrete form: in a speed mode the voltage is a free value on
the channel's steps. -/
def State.loopDrive (s : State) (c : Nat) : State :=
  let s := s.retarget c
  let d := s.driveDesc c
  let st := s.get .channelState c
  if st = chRun ∧ s.speedMode c then
    let (dest, crossing) := moveTarget d (s.drv c).speedT (s.effective c) ((s.get .speedSlew c : Rat) / 50)
    let s := s.modDrv c (fun x => { x with speedT := dest })
    let (v, s) := s.draw
    let n : Nat := driveFull c / driveStep c + 1
    (s.putVolt c ((v % (n : Int)).toNat * driveStep c)).putFlags c crossing
  else ((s.modDrv c (fun x => { x with speedT := 0 })).applyVolt c).putFlags c false

/-- SPEED_LOOP_UPDATE (R480–R483). -/
def execSpeedLoopUpdate (t : Ns) (s : State) : Out :=
  let s := s.tick t
  .next (if s.coolRuns ∧ s.td.isSome ∧ s.islandTakes 0 8 then (s.restartPumps.each s.drivesUsed State.loopDrive).judgeFlow else s)

/-- FAN_TABLE_HANDOVER (R485). -/
def execFanTableHandover (t : Ns) (s : State) : Out :=
  let s := s.tick t
  .next (if s.due .fanHandover then ((s.disarm .fanHandover).setV .coolStart 0 0).retargetAll else s)

/-- HOST_SILENCE_EXPIRY (R486). -/
def execHostSilenceExpiry (t : Ns) (s : State) : Out :=
  let s := s.tick t
  .next (if s.due .hostSilence then
      let s := s.disarm .hostSilence
      if s.get .autonomous = 1 then s
      else (s.put .autonomous 0 1).hostSettersOff.raise .autonomous oDevice [0, s.silence]
    else s)

/-! ### Flow and pressure (R490–R494) -/

/-- A flow stays too low for FLOW_LOSS_TIME: acted on once in a run (R493). -/
def State.watchFlow (s : State) (i : Nat) (low : Bool) (flow : Int) : State :=
  if !low then (s.setV .flowLowSince i (-1)).setV .flowLowDone i 0
  else
    let s := if s.var .flowLowSince i < 0 then s.setV .flowLowSince i s.now else s
    if !s.flag .flowLowDone i ∧ s.varN .flowLowSince i + s.getN .flowLossTime * ms ≤ s.now then
      let s := (s.setV .flowLowDone i 1).raiseSafety .flowLow (if i < 8 then oAccel i else oDevice) [if i < 8 then i else 0xFF, flow]
      s.firmwareFurl i (s.getN .furlDeadline)
    else s

/-- The meter of a role: a branch, or 0xFF the total. -/
def State.meterOf (s : State) (role : Nat) : Option Nat :=
  (List.range 8).find? (fun m => s.declared (oFlow m) && decide (s.get .flowRole m = role))

/-- The flows of the last 100 ms (R490, R492, R493): each meter's, the total, whether flow is proven, and low flow. -/
def State.updateFlow (s : State) (d : TrayDesc) (pulses : List (Fin 8 × Nat)) : State :=
  let s := s.each (pulses.filter (fun x => s.declared (oFlow x.1.val))) (fun (s : State) (x : Fin 8 × Nat) =>
    let k := ((d.kFactors.find? (fun e => e.1 = x.1.val)).map (·.2)).getD 0
    let n := match s.injected (0xC30 + x.1.val) with | some m => x.2 * m.toNat / 1000 | none => x.2
    let s := s.spend (0xC30 + x.1.val)
    let (v, s) := s.roundDiv (n * 600000 : Nat) k
    (s.note 0x0B (oFlow x.1.val) [u64 v]).put .flow x.1.val v)
  let total : Int := match s.meterOf 0xFF with
    | some m => s.get .flow m
    | none => ((List.range 8).filterMap (fun a => (s.meterOf a).map (fun m => s.get .flow m))).sum
  let s := s.put .totalFlow 0 total
  let s := if s.get .flowProvenMin ≤ total then (if s.var .flowOkSince < 0 then s.setV .flowOkSince 0 s.now else s)
    else s.setV .flowOkSince 0 (-1)
  let s := s.judgeFlow
  let run := decide (s.get .powerState = psRunning)
  let s := s.watchFlow 8 (run && decide (total < s.get .flowMin)) total
  s.each s.accels (fun s a => match s.meterOf a with
    | some m =>
      let f := s.get .flow m
      s.watchFlow a (run && decide (2 * f < s.get .flowFloor a) && decide (500 ≤ s.get .command (4 + a)) && decide (s.scope a = 3)) f
    | none => s)

/-- FLOW_UPDATE (R490, R492, R493): pulses of the last 100 ms. -/
def execFlowUpdate (t : Ns) (pulses : List (Fin 8 × Nat)) (s : State) : Out :=
  let s := s.tick t
  .next (match s.td with
    | none => s
    | some d =>
      if !s.coolRuns then s
      else s.updateFlow d pulses)

/-- AUTO pumps come down by 5 % of FULL a second while the supply pressure is high (R494). -/
def State.lowerPumps (s : State) : State :=
  let since := s.varN .pressDropAt
  s.each ([16, 17, 18, 19].filter (fun c => s.declared (oDrive c) && decide (s.get .control c = 0))) (fun s c =>
    let v : Rat := (s.varN .pressDropFrom (c - 16) : Rat) - (driveFull c : Rat) * 5 * ((s.now - since : Nat) : Rat) / (100 * (sec : Rat))
    let v := floorStep c (max 0 v)
    if v < s.getN .driveVoltage c then s.putVolt c v else s)

/-- One pressure input (R491, R494), in mV: 0.5–4.5 V maps onto its range. EV_PRESSURE's codes are 0 high, 1 low, 2 normal. -/
def State.samplePressure (s : State) (x : PressDesc) (mv : Nat) : State :=
  let i := x.input
  let (p, s) : Int × State := if mv < 250 ∨ 4750 < mv then (noReading, s)
    else
      let (v, s) := s.roundDiv (((mv : Int) - 500) * (x.hi - x.lo)) 4000
      match s.injected (0xC38 + i) with
      | some q => (if further (s.get .pMin i) (s.get .pMax i) (x.lo + v : Int) q then q else x.lo + v, s)
      | none => (x.lo + v, s)
  let s := s.spend (0xC38 + i)
  let s := s.put .pressure i p
  if !x.supply ∨ p = noReading then s
  else
    let st := s.var .pressState i
    let s := if p < s.get .pMin i then (if s.var .pressLowSince i < 0 then s.setV .pressLowSince i s.now else s) else s.setV .pressLowSince i (-1)
    let low := decide (0 ≤ s.var .pressLowSince i) && decide (s.varN .pressLowSince i + sec ≤ s.now)
    let new : Int := if s.get .pMax i < p ∨ (st = 1 ∧ s.get .pMax i ≤ p) then 1 else if low then 2 else if p < s.get .pMin i ∧ st = 2 then 2 else 0
    if new = st then s else (s.setV .pressState i new).raise .pressure (oPressure i) [i, (new + 2) % 3, p]

/-- The pressures (R491, R494): while one is above its limit the pumps are lowered. -/
def State.updatePressure (s : State) (d : TrayDesc) (mv : List (Fin 8 × Nat)) : State :=
  let s := s.each mv (fun (s : State) (m : Fin 8 × Nat) =>
    match d.press.find? (fun x => x.input = m.1.val) with
    | some x => if s.declared (oPressure m.1.val) then s.samplePressure x m.2 else s
    | none => s)
  let high := (List.range 8).any (fun i => decide (s.var .pressState i = 1))
  let s : State := if !high then s.setV .pressDropAt 0 (-1)
    else if s.var .pressDropAt < 0 then
      (s.each [16, 17, 18, 19] (fun s c => s.setV .pressDropFrom (c - 16) (s.get .driveVoltage c))).setV .pressDropAt 0 s.now
    else s
  (if high then s.lowerPumps else s).judgeFlow

/-- PRESSURE_SAMPLE (R62, R491, R494). -/
def execPressureSample (t : Ns) (mv : List (Fin 8 × Nat)) (s : State) : Out :=
  let s := s.tick t
  .next (match s.td with
    | none => s
    | some d =>
      if !s.coolRuns || !s.onGrid ms then s
      else s.updatePressure d mv)

/-! ### Flow sharing and water mode (R497–R503) -/

def State.branch (s : State) (a : Nat) : BranchSt := s.branches.get {} a
def State.modBranch (s : State) (a : Nat) (f : BranchSt → BranchSt) : State := { s with branches := s.branches.put {} a (f (s.branch a)) }

/-- A coolant channel that is declared and not lost (R502). -/
def State.chanGood (s : State) (c : Option Nat) : Bool :=
  match c with
  | some c => s.declared (oThermal c) && !s.tstat c tsLost
  | none => false

/-- The mode an accelerator's own target follows (R502, R503): it falls back to 0 without its inputs, and returns once they
have been valid for 10 s. The channel of EV_WATER_FALLBACK is the one that is lost; with none lost its value is not given. -/
def State.waterModeOf (s : State) (d : TrayDesc) (a : Nat) : Int × State :=
  let mode := if (s.member.features false).testBit 14 then s.get .waterMode else 0
  if mode = 0 then (0, s)
  else
    let sensor := ((List.range 96).map (fun k => 216 + 96 * a + k)).any (fun c => s.tstat c tsValid)
    let bad : Option Int := if !s.chanGood d.supplyChan then some (d.supplyChan.getD 0xFFFF : Nat)
      else if !s.chanGood d.returnChan then some (d.returnChan.getD 0xFFFF : Nat)
      else if !sensor then some (-1) else none
    let b := s.branch a
    match bad with
    | some c =>
      let s := s.modBranch a (fun b => { b with okSince := none })
      if b.fallback then (0, s)
      else
        let (f, s) := s.draw
        (0, (s.modBranch a (fun b => { b with fallback := true })).raise .waterFallback (oAccel a) [a, 0, if c < 0 then f % 65536 else c])
    | none =>
      if !b.fallback then (mode, s)
      else
        let since := b.okSince.getD s.now
        let s := s.modBranch a (fun b => { b with okSince := some since })
        if since + 10 * sec ≤ s.now then
          let (f, s) := s.draw
          (mode, (s.modBranch a (fun b => { b with fallback := false, okSince := none })).raise .waterFallback (oAccel a) [a, 1, f % 65536])
        else (0, s)

/-- T_lim of R501. -/
def State.tLim (s : State) (a : Nat) : Int :=
  match (s.chansOf a).map (fun c => s.get .reefT c) with
  | [] => 150000 - s.get .junctionMargin
  | x :: xs => xs.foldl min x - s.get .junctionMargin

/-- The measured outlet of a branch: its channel, or the return. -/
def State.outletTemp (s : State) (d : TrayDesc) (a : Nat) : Int :=
  match d.outlets.find? (fun x => x.1 = a) with
  | some x => s.get .thermalTemperature x.2
  | none => s.get .returnTemp

/-- T_o (Table 12.6); T_* is a real number the manual does not round (Config.tStar). -/
def State.outletGoal (s : State) (d : TrayDesc) (a : Nat) (mode : Int) : Int × State :=
  if mode = 0 then (d.outletSetpoint, s)
  else
    let l := ((s.branch a).hots).map (·.2)
    let (mean, s) := s.roundDiv l.sum l.length
    let dT := mean - s.outletTemp d a
    let lim := min (s.get .returnTarget) (s.tLim a - dT)
    (if mode = 1 then lim
      else min lim (Config.tStar (s.getN .waterWeight) (s.getN .leakRef a) (s.getN .leakDoubling a) - dT), s)

/-- req[a] of R500. -/
def State.formRequest (s : State) (d : TrayDesc) (a : Nat) : State :=
  let (mode, s) := s.waterModeOf d a
  let (goal, s) := s.outletGoal d a mode
  let s := s.put .outletTarget a goal
  let out := s.outletTemp d a
  let s : State := if out = noReading then s
    else s.modBranch a (fun b => { b with k := max (1 / 2) (min 2 (b.k + ((out - goal : Int) : Rat) / 1000000)) })
  let top := s.get .branchMax a
  let supply := s.get .supplyTemp
  let rise := goal - supply
  let p := s.outputPower a 4
  let q : Int := if supply = noReading ∨ rise < s.get .minRise ∨ s.get .cV = 0 ∨ rise ≤ 0 then top
    else (p * 60000 / ((s.get .cV : Rat) * rise) * (s.branch a).k).floor
  let q := max (s.get .flowFloor a) (min top q)
  s.put .flowRequest a (if 0 < (s.excess a).1 then top else q)

/-- Hand out S to throttled accelerators in order, each at most its request (R497). -/
def giveHot : List (Nat × Int × Int) → Int → List (Nat × Int × Int) × Int
  | [], left => ([], left)
  | (a, q, req) :: rest, left =>
    let give := max 0 (min (req - q) left)
    let (l, left) := giveHot rest (left - give)
    ((a, q + give, req) :: l, left)

/-- q[a] with sharing active (R497): accelerators with floor, request and excess. -/
def shareFlow (xs : List (Nat × Int × Int × Int)) (cap : Int) : List (Nat × Int) :=
  let floors := (xs.map (fun x => x.2.1)).sum
  if cap < floors then xs.map (fun x => (x.1, x.2.1 * cap / floors))
  else
    let hot := sortBy (fun x y => decide (y.2.2.2 < x.2.2.2) || (decide (x.2.2.2 = y.2.2.2) && decide (x.1 ≤ y.1))) (xs.filter (fun x => decide (0 < x.2.2.2)))
    let (hots, left) := giveHot (hot.map (fun x => (x.1, x.2.1, x.2.2.1))) (cap - floors)
    let cold := xs.filter (fun x => decide (x.2.2.2 ≤ 0))
    let rest := cold.filter (fun x => decide (x.2.1 < x.2.2.1))
    let want := (rest.map (fun x => x.2.2.1 - x.2.1)).sum
    hots.map (fun x => (x.1, x.2.1)) ++ cold.map (fun x =>
      (x.1, if x.2.1 < x.2.2.1 then x.2.1 + min left want * (x.2.2.1 - x.2.1) / want else x.2.1))

/-- Sharing is active (R497): every AUTO pump is at rpm(FULL) and the largest valve command is 100 %. -/
def State.sharingNow (s : State) : Bool :=
  let pumps := [16, 17, 18, 19].filter (fun c => s.declared (oDrive c) && decide (s.get .control c = 0))
  s.hasValves && !pumps.isEmpty && pumps.all (fun c => decide (curveRpm (s.driveDesc c) (driveFull c) ≤ s.effective c))
    && (s.accels.any (fun a => s.declared (oValve (4 + a)) && decide (s.get .command (4 + a) = 1000)))

/-- Positions are read; a valve away from its command for VALVE_STUCK_TIME is stuck (R495). -/
def State.readValve (s : State) (a : Nat) (pos : Int) : State :=
  let v := 4 + a
  if !s.declared (oValve v) then s
  else
    let pos := (s.injected (0xC40 + v)).getD pos
    let s := s.spend (0xC40 + v)
    let s := (s.put .position v pos).strokeValve v pos
    let cmd := s.get .command v
    if s.get .valveTol v < (pos - cmd).natAbs then
      let since := ((s.branch a).offSince).getD s.now
      let s := s.modBranch a (fun b => { b with offSince := some since })
      if s.get .stuck v = 0 ∧ since + s.getN .valveStuckTime v * ms ≤ s.now then
        (s.put .stuck v 1).raise .valveStuck (oValve v) [v, cmd, pos]
      else s
    else (s.modBranch a (fun b => { b with offSince := none })).put .stuck v 0

/-- Steps 1 to 4 of R497. The PI laws of valves and pumps have no discrete form in the manual: the command and the speed
target they give are free values. -/
def State.coolStep (s : State) (d : TrayDesc) : State :=
  let s := s.each s.accels (fun s a => s.formRequest d a)
  let active := s.sharingNow
  let cap := s.get .totalFlow
  let alloc : List (Nat × Int) := if active then
      shareFlow (s.accels.map (fun a => (a, s.get .flowFloor a, s.get .flowRequest a, (s.excess a).1))) cap
    else s.accels.map (fun a => (a, s.get .flowRequest a))
  let s := s.each alloc (fun (s : State) (x : Nat × Int) => s.put .flowAllocated x.1 x.2)
  let below := (alloc.filter (fun x => decide (x.2 < s.get .flowRequest x.1))).length
  let s : State := if active ≠ s.flag .sharing then
      (s.setV .sharing 0 (if active then 1 else 0)).raise .flowShort oDevice [if active then 0 else 1, below, cap]
    else s
  let autos := s.accels.filter (fun a => s.hasValves && s.declared (oValve (4 + a)) && !s.flag .leakShut a
    && !s.flag .testValve (4 + a) && decide (s.var .valveSetter (4 + a) = 0) && decide (s.get .stuck (4 + a) = 0))
  let s := s.each autos (fun s a => let (v, s) := s.draw; s.commandValve (4 + a) (v % 1001))
  let (v, s) := s.draw
  (s.setV .pumpTarget 0 v.natAbs).retargetAll

/-- COOLANT_UPDATE (R495, R497): valve feedback in 0.1 %. -/
def execCoolantUpdate (t : Ns) (positions : List (Fin 8 × Int)) (s : State) : Out :=
  let s := s.tick t
  .next (match s.td with
    | none => s
    | some d =>
      if !s.coolRuns then s
      else
        let s := s.each positions (fun (s : State) (x : Fin 8 × Int) => s.readValve x.1.val x.2)
        if s.get .powerState = psRunning then s.coolStep d
        else
          let s := s.when (s.flag .sharing) (fun s => (s.setV .sharing 0 0).raise .flowShort oDevice [1, 0, s.get .totalFlow])
          s.syncValves)

/-! ### Leaks (R504–R506) -/

/-- One sample of a zone: its resistance, and whether continuity is broken. -/
def State.sampleZone (s : State) (z : Nat) (ohm : Nat) (broken : Bool) : State :=
  let ohm := match s.injected (0xC50 + z) with | some v => min ohm v.toNat | none => ohm
  let broken := broken || s.acts (0xC58 + z)
  let s := s.spend (0xC50 + z)
  let s := s.put .leakR z ohm
  let s := s.modZone z (fun x => { x with broken := if broken then x.broken + 1 else 0, whole := if broken then 0 else x.whole + 1 })
  let st := s.get .zoneState z
  if st = zRope then
    if 3 ≤ (s.zone z).whole then
      (s.put .zoneState z (if 0 < s.get .heldAction z then zDrying else zDry)).raise .leakRopeFault (oLeakZone z) [z, 1]
    else s
  else if 3 ≤ (s.zone z).broken then
    let s := s.when (s.zoneWet z) (fun s => s.modZone z (fun x => { x with came := st.toNat }))
    ((s.put .zoneState z zRope).disarm .leakConfirm z |>.disarm .leakEscalate z |>.disarm .leakDry z).raise .leakRopeFault (oLeakZone z) [z, 0]
  else
    let wet := decide ((ohm : Int) < s.get .wetR z)
    let was := (s.zone z).wet
    let s := s.modZone z (fun x => { x with wet, firstWet := if wet && !was then s.now else x.firstWet })
    if st = zDry then (if wet then (s.put .zoneState z zSuspect).arm .leakConfirm z (s.getN .leakConfirm * ms) else s)
    else if st = zSuspect then (if wet then s.armOnce .leakConfirm z (s.getN .leakConfirm * ms) else (s.put .zoneState z zDry).disarm .leakConfirm z)
    else if st = zDrying then (if wet then s.armOnce .leakConfirm z (s.getN .leakConfirm * ms) else s.disarm .leakConfirm z)
    else if wet then
      let s := s.disarm .leakDry z
      if st = zWet ∧ s.get .leakEscalate ≠ 0 then s.armOnce .leakEscalate z (s.getN .leakEscalate * sec) else s
    else (s.armOnce .leakDry z (s.getN .leakDryTime * sec)).disarm .leakEscalate z

/-- LEAK_SAMPLE (R504): resistance and broken continuity of zones. -/
def execLeakSample (t : Ns) (samples : List (Fin 8 × Nat × Bool)) (s : State) : Out :=
  let s := s.tick t
  .next (if s.coolRuns ∧ s.onGrid (10 * ms) then
      s.each (samples.filter (fun x => s.declared (oLeakZone x.1.val))) (fun (s : State) (x : Fin 8 × Nat × Bool) => s.sampleZone x.1.val x.2.1 x.2.2)
    else s)

/-- LEAK_CONFIRM_EXPIRY (Table 12.8). -/
def execLeakConfirmExpiry (t : Ns) (z : Fin 8) (s : State) : Out :=
  let s := s.tick t
  let z := z.val
  .next (if s.due .leakConfirm z then
      let s := s.disarm .leakConfirm z
      if s.get .zoneState z = zSuspect then s.zoneIsWet z zWet (s.get .firstAction z)
      else if s.get .zoneState z = zDrying then s.zoneIsWet z (s.zone z).came 0
      else s
    else s)

/-- LEAK_ESCALATE_EXPIRY (Table 12.8). -/
def execLeakEscalateExpiry (t : Ns) (z : Fin 8) (s : State) : Out :=
  let s := s.tick t
  .next (if s.due .leakEscalate z.val then (s.disarm .leakEscalate z.val).escalate z.val else s)

/-- LEAK_DRY_EXPIRY (Table 12.8). -/
def execLeakDryExpiry (t : Ns) (z : Fin 8) (s : State) : Out :=
  let s := s.tick t
  let z := z.val
  .next (if s.due .leakDry z then
      let s := s.disarm .leakDry z
      if s.zoneWet z then
        ((s.modZone z (fun x => { x with came := s.getN .zoneState z })).disarm .leakEscalate z).zoneTo z zDrying 0
      else s
    else s)

/-- LEAK_CUT_EXPIRY (R506). -/
def execLeakCutExpiry (t : Ns) (s : State) : Out :=
  let s := s.tick t
  .next (if s.due .leakCut then s.cutFeeds else s)

/-! ### Commands (R513) -/

/-- The code of CONTROL a setter's mode has by its source (R484). -/
def setterCode (b : Binding) (mode : Nat) : Int :=
  if mode = 0 then 0 else if b.cls = .burin then 2 + mode else mode

/-- SET_FAN and SET_PUMP (R484, R486, R510, R515). -/
def doSetDrive (a : Arrival) (cls mode : Nat) (value : Int) (s : State) : State × Res :=
  let obj := a.hdr.object
  let c := if cls = 7 then objIdx obj else 16 + objIdx obj
  let good := match mode with
    | 0 => true
    | 1 => decide (0 ≤ value ∧ (value : Rat) ≤ curveRpm (s.driveDesc c) (driveFull c) ∧ value % 10 = 0)
    | 2 => decide (0 ≤ value ∧ value ≤ driveFull c ∧ value % (driveStep c : Int) = 0)
    | _ => false
  if objCls obj ≠ cls ∨ !good then (s, .st .badParam)
  else if s.get .autonomous = 1 ∧ a.binding.cls.isHost then (s, .st .coolAutonomous)
  else if cls = 8 ∧ s.pumpHeld (objIdx obj) then (s, .st .coolLeakHold)
  else
    let s := (s.put .control c (setterCode a.binding mode)).modDrv c (fun x => { x with value })
    let st := s.get .channelState c
    let s := if st = chStalled ∨ st = chOpen then s.enterDrive c chKick 1 else s
    ((if s.coolRuns then s.retarget c else s), .st .ok)

def execSetFan (a : Arrival) (mode : Nat) (value : Int) (s : State) : Out :=
  .next (s.request a (.setFan mode value) (doSetDrive a 7 mode value))

def execSetPump (a : Arrival) (mode : Nat) (value : Int) (s : State) : Out :=
  .next (s.request a (.setPump mode value) (doSetDrive a 8 mode value))

/-- SET_VALVE (R486, R496, R510). -/
def doSetValve (a : Arrival) (mode : Nat) (value : Int) (s : State) : State × Res :=
  let v := objIdx a.hdr.object
  let top : Int := if v < 4 then 1 else 1000
  if objCls a.hdr.object ≠ 9 ∨ 1 < mode ∨ (mode = 1 ∧ (value < 0 ∨ top < value)) then (s, .st .badParam)
  else if s.get .autonomous = 1 ∧ a.binding.cls.isHost then (s, .st .coolAutonomous)
  else if (v < 4 ∧ s.valveHeld v) ∨ (4 ≤ v ∧ s.flag .leakShut (v - 4)) then (s, .st .coolLeakHold)
  else if v < 4 ∧ mode = 1 ∧ value = 1 ∧ !scopes.all (fun i => decide (s.scope i = 0)) ∧ !(a.hdr.force && s.inMaintenance) then
    (s, .st .wouldDisturb)
  else
    let who : Int := if mode = 0 then 0 else if a.binding.cls = .burin then 2 else 1
    (((s.setV .valveSetter v who).setV .valveSet v value).syncValve v, .st .ok)

def execSetValve (a : Arrival) (mode : Nat) (value : Int) (s : State) : Out :=
  .next (s.request a (.setValve mode value) (doSetValve a mode value))

/-- ISOLATE_LEAK (Table 12.8). -/
def doIsolateLeak (a : Arrival) (action : Nat) (s : State) : State × Res :=
  let obj := a.hdr.object
  if (objCls obj ≠ 12 ∧ obj ≠ oDevice) ∨ action = 0 ∨ 3 < action then (s, .st .badParam)
  else
    let zs := if obj = oDevice then (List.range 8).filter (fun z => s.declared (oLeakZone z)) else [objIdx obj]
    (s.each zs (fun s z =>
      let s := if (s.zone z).wet then s else s.modZone z (fun x => { x with firstWet := s.now })
      s.zoneIsWet z zWet (max (s.get .firstAction z) action)), .st .ok)

def execIsolateLeak (a : Arrival) (action : Nat) (s : State) : Out :=
  .next (s.request a (.isolateLeak action) (doIsolateLeak a action))

/-- RESET_LEAK_ZONE (R509). -/
def doResetLeakZone (a : Arrival) (s : State) : State × Res :=
  let z := objIdx a.hdr.object
  if objCls a.hdr.object ≠ 12 then (s, .st .badParam)
  else if s.get .zoneState z = zDrying then
    ((s.put .zoneState z zDry).releaseZone z |>.disarm .leakConfirm z, .st .ok)
  else if s.get .zoneState z = zDry then (s, .st .ok)
  else (s, .st .leakStillWet)

def execResetLeakZone (a : Arrival) (s : State) : Out := .next (s.request a .resetLeakZone (doResetLeakZone a))

/-- Points rise strictly in TEMP, and do not fall in SPEED (R487). -/
def pointsRise : List (Int × Nat) → Bool
  | (t0, v0) :: (t1, v1) :: rest => decide (t0 < t1) && decide (v0 ≤ v1) && pointsRise ((t1, v1) :: rest)
  | _ => true

/-- LOAD_FAN_TABLE (R487). -/
def doLoadFanTable (a : Arrival) (inputs points : Nat) (thermals : List Nat) (curve : List (Int × Nat)) (s : State) : State × Res :=
  let obj := a.hdr.object
  let c := if objCls obj = 7 then objIdx obj else 16 + objIdx obj
  let used := thermals.take inputs
  if objCls obj ≠ 7 ∧ objCls obj ≠ 8 then (s, .st .badParam)
  else if inputs = 0 ∨ 4 < inputs ∨ points < 2 ∨ 8 < points ∨ used.length ≠ inputs ∨ curve.length ≠ points
      ∨ used.any (fun i => decide (983 < i) || !s.objPresent (oThermal i)) ∨ !pointsRise curve then (s, .st .coolTableInvalid)
  else
    let s := s.modDrv c (fun x => { x with table := some { inputs := used, points := curve } })
    ((if s.coolRuns then s.retarget c else s), .st .ok)

def execLoadFanTable (a : Arrival) (inputs points : Nat) (thermals : List Nat) (curve : List (Int × Nat)) (s : State) : Out :=
  .next (s.request a (.loadFanTable inputs points thermals curve) (doLoadFanTable a inputs points thermals curve))

/-- SET_WATER_MODE (R503). -/
def doSetWaterMode (a : Arrival) (mode : Nat) (target weight : Int) (s : State) : State × Res :=
  if a.hdr.object ≠ oDevice ∨ 2 < mode ∨ target < 20000 ∨ 70000 < target ∨ target % 500 ≠ 0 ∨ weight < 0 ∨ 100000 < weight ∨ weight % 100 ≠ 0 then
    (s, .st .badParam)
  else ((s.put .waterMode 0 mode).put .returnTarget 0 target |>.put .waterWeight 0 weight, .st .ok)

def execSetWaterMode (a : Arrival) (mode : Nat) (target weight : Int) (s : State) : Out :=
  .next (s.request a (.setWaterMode mode target weight) (doSetWaterMode a mode target weight))

end Sys2Proof.Machine
end

