-- ==== Sys2Proof/Machine/Signed.lean ====
section
/-! DEFINITION. Signed objects and key slots (R664, R666, R667). -/

namespace Sys2Proof.Machine

/-- The bytes of a range. -/
def bytesAt (b : List Nat) (off n : Nat) : List Nat := (b.drop off).take n

/-- A range holds zeros only. -/
def zeroAt (b : List Nat) (off n : Nat) : Bool := (bytesAt b off n).all (· = 0)

/-- Bytes of the signature block (R666). -/
def sigLen : Nat := 7424

/-- The fused digests of a key slot (Table 17.1): root slots are fused at test, slots 4 and 5 by R665. -/
def State.keyEc (s : State) (i : Nat) : Nat := if i < 4 then Config.keyEc i else s.varN .keyEcFuse i
def State.keyMl (s : State) (i : Nat) : Nat := if i < 4 then Config.keyMl i else s.varN .keyMlFuse i

/-- REVOKE_PENDING records with no REVOKE_DONE of their slot after them (R664, R669). -/
def pendingIn (slot : Nat) : List MetaRec → Bool → Bool
  | [], p => p
  | r :: rest, p => pendingIn slot rest (if r.kind = 5 ∧ r.arg = slot then true else if r.kind = 6 ∧ r.arg = slot then false else p)

/-- KEY_SLOT states (R664): 0 EMPTY, 1 LIVE, 2 PENDING, 3 REVOKED (Table 17.12). -/
def State.keyState (s : State) (i : Nat) : Nat :=
  if s.keyEc i = 0 then 0
  else if (s.varN .revoked).testBit i then 3
  else if pendingIn i s.records false then 2
  else 1

/-- What R667 asks of the signature block at `sig` but for the slot's state: its form, the fused digests, the signatures. -/
def State.sigHolds (s : State) (b : List Nat) (sig : Nat) : Bool :=
  let slot := leAt b (sig + 6) 1
  let algs := leAt b (sig + 7) 1
  let d := Config.sha384 (b.take sig)
  let ecKey := bytesAt b (sig + 8) 97
  let mlKey := bytesAt b (sig + 0xCC) 2592
  decide (b.length = sig + sigLen) && decide (leAt b sig 4 = 0x4B53474E) && decide (leAt b (sig + 4) 2 = 1)
    && decide (slot < 6) && decide (algs = 1 ∨ algs = 3)
    && zeroAt b (sig + 0x69) 3 && zeroAt b (sig + 0x1CFF) 1
    && (decide (algs = 3) || zeroAt b (sig + 0xCC) (2592 + 4627))
    && decide (Config.sha384 ecKey = s.keyEc slot)
    && Config.ecdsaVerifies ecKey (bytesAt b (sig + 0x6C) 48) (bytesAt b (sig + 0x9C) 48) d
    && (!s.flag .dualSign || (decide (algs = 3) && decide (Config.sha384 mlKey = s.keyMl slot)
        && Config.mldsaVerifies mlKey (bytesAt b (sig + 0xAEC) 4627) d))

/-- An object verifies (R667): the signature block at SIG against a set of permitted slots. `fuseOnly`: a PENDING slot
counts as LIVE. -/
def State.verifies (s : State) (b : List Nat) (sig : Nat) (permitted : List Nat) (fuseOnly : Bool) : Bool :=
  let slot := leAt b (sig + 6) 1
  s.sigHolds b sig && decide (slot ∈ permitted) && (decide (s.keyState slot = 1) || (fuseOnly && decide (s.keyState slot = 2)))

end Sys2Proof.Machine
end

