-- ==== Sys2Proof/Machine/Container.lean ====
section
/-! DEFINITION. Model containers (R374–R377, R387): their fields, the checks of R379's step 2, and inference. -/

namespace Sys2Proof.Machine

/-- Fields of the container header (Table 9.6). -/
def cLayers (b : List Nat) : Nat := leAt b 0x18 1
def cFeatures (b : List Nat) : Nat := leAt b 0x19 1
def cTagDim (b : List Nat) : Nat := leAt b 0x1A 1
def cDomDim (b : List Nat) : Nat := leAt b 0x1B 1
def cTagRows (b : List Nat) : Nat := leAt b 0x1C 2
def cCost (b : List Nat) : Nat := leAt b 0x1E 2
def cVersion (b : List Nat) : Nat := leAt b 0x10 2
def cSvn (b : List Nat) : Nat := leAt b 0x12 2
def cFlags (b : List Nat) : Nat := leAt b 0x14 4
/-- The offset of section i: FEATMAP, TAGTAB, DOMTAB, TRAIN, SIG. -/
def cSection (b : List Nat) (i : Nat) : Nat := leAt b (0x20 + 4 * i) 4
def cSig (b : List Nat) : Nat := cSection b 4
def cTrainable (b : List Nat) : Bool := (cFlags b).testBit 1

/-- A layer descriptor (Table 9.7). -/
structure Layer where
  ins : Nat
  outs : Nat
  wfmt : Nat
  afmt : Nat
  act : Nat
  flags : Nat
  weights : Nat
  bias : Nat
deriving DecidableEq, Repr

def cLayer (b : List Nat) (l : Nat) : Layer :=
  let o := 0x40 + 16 * l
  { ins := leAt b o 2, outs := leAt b (o + 2) 2, wfmt := leAt b (o + 4) 1, afmt := leAt b (o + 5) 1
    act := leAt b (o + 6) 1, flags := leAt b (o + 7) 1, weights := leAt b (o + 8) 4, bias := leAt b (o + 12) 4 }

def cAll (b : List Nat) : List Layer := (List.range (cLayers b)).map (cLayer b)

/-- Bytes of a block of 32 weights (R375). -/
def blockBytes (fmt : Nat) : Nat := match fmt with | 3 => 17 | 4 => 64 | _ => 33

/-- Bytes of a layer's weights. -/
def Layer.weightBytes (x : Layer) : Nat := x.outs * (x.ins / 32) * blockBytes x.wfmt

/-- A quotient rounded up. -/
def ceilDiv (a b : Nat) : Nat := (a + b - 1) / b

/-- A layer's weight tiles (R377). -/
def Layer.tiles (x : Layer) : Nat := ceilDiv x.ins (if x.wfmt = 3 then 256 else 128) * ceilDiv x.outs 128

/-- A model's cost for n domains, without the 80 of feature assembly (R387). -/
def cCostFor (b : List Nat) (n : Nat) : Nat :=
  ((cAll b).map (fun x => x.tiles * (if x.wfmt = 4 then 4 else 1) * max 128 n + 48)).sum

/-- Bytes of a container's weight image (R377). -/
def cWeightBytes (b : List Nat) : Nat := ((cAll b).map Layer.weightBytes).sum

/-- The sections and the layers' data: the offset of the field that places each, where it begins and its length. -/
def cPieces (b : List Nat) : List (Nat × Nat × Nat) :=
  [(0x20, cSection b 0, 12 * cFeatures b), (0x24, cSection b 1, cTagRows b * (4 + 2 * cTagDim b)),
   (0x28, cSection b 2, 64 * cDomDim b), (0x2C, cSection b 3, 32)]
  ++ (List.range (cLayers b)).flatMap (fun l =>
    let x := cLayer b l
    (0x48 + 16 * l, x.weights, x.weightBytes) :: (if x.flags % 2 = 1 then [(0x4C + 16 * l, x.bias, 4 * x.outs)] else []))

/-- Two ranges overlap. -/
def overlaps (a la b lb : Nat) : Bool := decide (0 < la) && decide (0 < lb) && decide (a < b + lb) && decide (b < a + la)

/-- Faults of placement: outside the space between header and SIG, or over an earlier piece. -/
def placeFaults (sig : Nat) : List (Nat × Nat × Nat) → List (Nat × Nat × Nat) → List (Nat × Bool)
  | _, [] => []
  | seen, (f, o, n) :: rest =>
    (f, (decide (n = 0) || (decide (256 ≤ o) && decide (o + n ≤ sig))) && !seen.any (fun x => overlaps x.2.1 x.2.2 o n))
      :: placeFaults sig ((f, o, n) :: seen) rest

/-- A feature ID of Table 9.5. -/
def featureKnown (i : Nat) : Bool :=
  decide (i ≤ 0x19) || (decide (0x20 ≤ i) && decide (i ≤ 0x2E)) || (decide (0x30 ≤ i) && decide (i ≤ 0x5F))

/-- No tag appears twice among valid rows of the tag table, row 0 apart. -/
def tagsUnique : List (Nat × Nat) → Bool
  | [] => true
  | (tag, v) :: rest => (decide (v = 0) || !rest.any (fun x => x.1 = tag ∧ x.2 = 1)) && tagsUnique rest

def cTagRow (b : List Nat) (i : Nat) : Nat × Nat :=
  let o := cSection b 1 + i * (4 + 2 * cTagDim b)
  (leAt b o 2, leAt b (o + 2) 2)

/-- An FP32 field within a range. -/
def f32In (b : List Nat) (off : Nat) (lo hi : Rat) : Bool :=
  match F32.ofBits (leAt b off 4) with
  | .num q => decide (lo ≤ q) && decide (q ≤ hi)
  | _ => false

/-- The checks of one layer descriptor. -/
def layerChecks (b : List Nat) (l : Nat) : List (Nat × Bool) :=
  let o := 0x40 + 16 * l
  let x := cLayer b l
  let n := cLayers b
  let prev := if l = 0 then cFeatures b else (cLayer b (l - 1)).outs
  [(o, decide (32 ≤ x.ins ∧ x.ins ≤ 1024 ∧ x.ins % 32 = 0 ∧ x.ins = prev)),
   (o + 2, if l + 1 = n then decide (x.outs = 8) else decide (32 ≤ x.outs ∧ x.outs ≤ 1024 ∧ x.outs % 32 = 0)),
   (o + 4, decide (x.wfmt ≤ 4)), (o + 5, decide (x.afmt ≤ 4 ∧ (x.wfmt = 4 ↔ x.afmt = 4))), (o + 6, decide (x.act ≤ 5)),
   (o + 7, decide (x.flags ≤ 1)), (o + 12, decide (x.flags % 2 = 1 ∨ x.bias = 0))]

/-- The checks of R379's step 2 with the offset each reports. -/
def cChecks (b : List Nat) : List (Nat × Bool) :=
  let n := cLayers b
  let used := if n ≤ 8 then n else 0
  let sig := cSig b
  let head : List (Nat × Bool) :=
    [(0, decide (leAt b 0 4 = 0x4D46544B)), (4, decide (leAt b 4 2 = 1)), (6, zeroAt b 6 2),
     (8, decide (leAt b 8 4 = b.length ∧ b.length ≤ 4194304 ∧ b.length = sig + sigLen)), (0x10, decide (1 ≤ cVersion b)),
     (0x14, decide (cFlags b < 4)), (0x18, decide (1 ≤ n ∧ n ≤ 8)),
     (0x19, decide (cFeatures b ∈ [32, 64, 96, 128])), (0x1A, decide (cTagDim b ∈ [0, 4, 8, 16])), (0x1B, decide (cDomDim b ≤ 8)),
     (0x1C, decide (1 ≤ cTagRows b ∧ cTagRows b ≤ 1024)), (0x1E, decide (cCost b = cCostFor b 128)),
     (0x34, zeroAt b 0x34 12)]
  let layers := (List.range used).flatMap (layerChecks b)
  let unused := (List.range (8 - used)).map (fun i => (0x40 + 16 * (used + i), zeroAt b (0x40 + 16 * (used + i)) 16))
  let tiles := [(0x40, decide (((cAll b).map Layer.tiles).sum ≤ 64))]
  let fm := (List.range (cFeatures b)).map (fun i =>
    let o := cSection b 0 + 12 * i
    (o, featureKnown (leAt b o 1) && zeroAt b (o + 1) 3))
  let rows := (List.range (cTagRows b)).map (cTagRow b)
  let tags := (List.range (cTagRows b)).map (fun i => (cSection b 1 + i * (4 + 2 * cTagDim b) + 2, decide ((cTagRow b i).2 ≤ 1)))
  let tr := cSection b 3
  head ++ layers ++ unused ++ tiles ++ placeFaults sig [] (cPieces b) ++ fm ++ tags
    ++ [(cSection b 1, tagsUnique (rows.drop 1)), (tr + 8, f32In b (tr + 8) 0 1), (tr + 12, f32In b (tr + 12) 1 10), (tr + 20, zeroAt b (tr + 20) 12)]

/-- The first byte between the header and SIG that no section covers and that is not zero. -/
def strayByte (b : List Nat) : Option Nat :=
  let ps := cPieces b
  (List.range (cSig b - 256)).map (· + 256) |>.find? (fun i =>
    b.getD i 0 ≠ 0 && !ps.any (fun p => p.2.1 ≤ i ∧ i < p.2.1 + p.2.2))

/-- The byte offset of the container's first fault; none where it is well formed. -/
def cFault (b : List Nat) : Option Nat :=
  let bad := (cChecks b).filter (fun x => !x.2)
  match bad.map (·.1) with
  | [] => strayByte b
  | x :: xs => some (xs.foldl min x)

/-! ### Inference (R365, R372) -/

/-- One block of stored weights, and whether its scale is NaN (R363). MXFP4 elements stand low half first. -/
def weightBlock (b : List Nat) (fmt off : Nat) : Block × Bool :=
  if fmt = 4 then
    ({ scale := 1, elems := (List.range 32).map (fun i => ofElement 4 (leAt b (off + 2 * i) 2)) }, false)
  else
    let sc := b.getD off 0
    let elem (i : Nat) : Option Rat :=
      if fmt = 3 then ofElement 3 (b.getD (off + 1 + i / 2) 0 / 16 ^ (i % 2) % 16) else ofElement fmt (b.getD (off + 1 + i) 0)
    if sc = 255 then ({ scale := 1, elems := (List.range 32).map (fun _ => some 0) }, true)
    else ({ scale := pow2 ((sc : Int) - 127), elems := (List.range 32).map elem }, false)

/-- One output of a layer and the numeric faults met. -/
def layerOut (b : List Nat) (x : Layer) (xs : List Block) (o : Nat) : F32 × Nat :=
  let n := x.ins / 32
  let ws := (List.range n).map (fun i => weightBlock b x.wfmt (x.weights + (o * n + i) * blockBytes x.wfmt))
  let y := dotBlocks (decide (x.wfmt = 4)) (.num 0) (ws.map (·.1)) xs
  let y := if x.flags % 2 = 1 then y.add (F32.ofBits (leAt b (x.bias + 4 * o) 4)) else y
  (activate x.act y, (ws.filter (·.2)).length)

/-- A layer: its input is quantised, every output formed. -/
def runLayer (b : List Nat) (x : Layer) (v : List F32) : List F32 × Nat :=
  let xs := quantiseVec x.afmt v
  let outs := (List.range x.outs).map (layerOut b x xs)
  (outs.map (·.1), (v.filter F32.isFault).length + (outs.map (·.2)).sum)

/-- The whole model: its eight outputs and the numeric faults met. -/
def runModel (b : List Nat) (v : List F32) : List F32 × Nat :=
  (cAll b).foldl (fun acc x => let r := runLayer b x acc.1; (r.1, acc.2 + r.2)) (v, 0)

/-- The row of the tag table that serves a tag (R373). -/
def tagRow (b : List Nat) (tag : Nat) : Nat :=
  match (List.range (cTagRows b)).find? (fun i => i ≠ 0 && cTagRow b i = (tag, 1)) with
  | some i => i
  | none => 0

/-- An element of a tag embedding, and of a domain embedding; beyond its dimension it reads 0. -/
def tagElem (b : List Nat) (row i : Nat) : F32 :=
  if i < cTagDim b then F32.ofBf16 (leAt b (cSection b 1 + row * (4 + 2 * cTagDim b) + 4 + 2 * i) 2) else .num 0
def domElem (b : List Nat) (row i : Nat) : F32 :=
  if i < cDomDim b then F32.ofBf16 (leAt b (cSection b 2 + (row * cDomDim b + i) * 2) 2) else .num 0

/-- The input vector (R372): each feature's raw value, less its OFFSET, times its SCALE. -/
def inputVector (b : List Nat) (raw : Nat → F32) : List F32 :=
  (List.range (cFeatures b)).map (fun i =>
    let o := cSection b 0 + 12 * i
    ((raw (leAt b o 1)).add (F32.ofBits (leAt b (o + 4) 4)).neg).mul (F32.ofBits (leAt b (o + 8) 4)))

end Sys2Proof.Machine
end

