-- ==== Sys2Proof/Machine/Loads.lean ====
section
/-! DEFINITION. What a session holds while it loads a model, a program or the stage, and how it lets go of it (R378,
R534, R693). -/

namespace Sys2Proof.Machine

/-! ### Model slots (Tables 9.9, 9.10) -/

/-- The model slot codes of Table 9.10. -/
def slEmpty : Int := 0
def slLoading : Int := 1
def slVerifying : Int := 2
def slLoaded : Int := 3
def slActive : Int := 4
def slDemoted : Int := 5

def State.model (s : State) (m : Nat) : Model := s.models.get {} m
def State.modModel (s : State) (m : Nat) (f : Model → Model) : State := { s with models := s.models.put {} m (f (s.model m)) }
/-- The slots, in rising order. -/
def slots : List Nat := List.range 64

/-- A slot changes state, and what it shows with it; an image that could not be read is the slot's no more (Table 16.2). -/
def State.setSlot (s : State) (m : Nat) (st : Int) : State :=
  (s.each [0, 1, 2] (fun s t => if (s.varN .fcBad t).testBit m then s.setV .fcBad t (s.varN .fcBad t - 2 ^ m : Nat) else s)).put .modelState m st

/-- A held slot returns to its state before BEGIN (Table 9.10). -/
def State.unload (s : State) (m : Nat) : State :=
  let x := s.model m
  let s : State := match x.holder with | some o => s.unhold o | none => s
  (s.modModel m (fun x => { x with holder := none, ending := none, parts := [], total := 0 })).setSlot m x.prior

/-- The model slots a session was loading return to their former state (R378); an END that runs goes on (R121). -/
def State.dropModelLoads (s : State) (id : Nat) : State :=
  s.each (slots.filter (fun m => decide (s.get .modelState m = slLoading) && (s.model m).ending.isNone && ((s.model m).holder.any (fun o => decide (o.session = id))))) State.unload

/-- What an ended session was loading, and the results and snapshot buffers it held, are let go of. -/
def State.dropLoads (s : State) (id : Nat) : State :=
  let s := s.dropModelLoads id
  { s with stage := if s.stage.holder = some id then { s.stage with holder := none } else s.stage
           opResults := s.opResults.filter (fun r => r.session ≠ id), snapBufs := s.snapBufs.filter (fun b => b.session ≠ id) }

end Sys2Proof.Machine
end

