-- ==== Sys2Proof/Machine/EngineOps.lean ====
section
/-! DEFINITION. Burin engines and event controllers: images and their checks, data memory, routes, occurrences and
their assignment, starting, stopping and losing engines (chapter 13). -/

namespace Sys2Proof.Machine

/-! ### Program images (R531–R533, R545–R548) -/

/-- Fields of the image header (Table 13.7). -/
def iProgram (b : List Nat) : Nat := leAt b 0x0C 4
def iVersion (b : List Nat) : Nat := leAt b 0x10 2
def iSvn (b : List Nat) : Nat := leAt b 0x12 2
def iRelocatable (b : List Nat) : Bool := decide (leAt b 0x14 4 % 2 = 1)
def iRecords (b : List Nat) : Nat := leAt b 0x18 2
def iWords (b : List Nat) : Nat := leAt b 0x1A 2
def iData (b : List Nat) : Nat := leAt b 0x1C 2
/-- The offset of section i: MANIFEST, CODE, DATA, SIG. -/
def iSection (b : List Nat) (i : Nat) : Nat := leAt b (0x20 + 4 * i) 4

/-- A signed 32-bit number. -/
def signed32 (n : Nat) : Int := if 2 ^ 31 ≤ n then (n : Int) - 2 ^ 32 else n

/-- Manifest record i (Table 13.9a). -/
def iRecord (b : List Nat) (i : Nat) : ManRec :=
  let o := iSection b 0 + 24 * i
  { kind := leAt b o 1, bits := leAt b (o + 1) 1, source := leAt b (o + 2) 2, first := leAt b (o + 4) 4, last := leAt b (o + 8) 4
    prop := leAt b (o + 12) 2, check := leAt b (o + 14) 2, lo := signed32 (leAt b (o + 16) 4), hi := signed32 (leAt b (o + 20) 4) }

def iManifest (b : List Nat) : List ManRec := (List.range (iRecords b)).map (iRecord b)

/-- The HANDLER of a source. -/
def handlerOf (b : List Nat) (n : Nat) : Option ManRec := (iManifest b).find? (fun r => decide (r.kind = 1) && decide (r.source = n))

/-- The global HANDLERs: the routes (R547). -/
def routesOf (b : List Nat) : List ManRec := (iManifest b).filter (fun r => decide (r.kind = 1) && decide (r.source ≤ 1022))

/-- The local vectors of R525. -/
def vInit : Nat := 0x400
def vTimer : Nat := 0x401
def vReply : Nat := 0x402

/-- The PRIORITY, MODE, IDLE_BYPASS and MOD of a HANDLER. -/
def hPrio (r : ManRec) : Nat := r.prop % 16
def hMode (r : ManRec) : Nat := r.prop / 256 % 2
def hBypass (r : ManRec) : Nat := r.prop / 512 % 2
def hMod (r : ManRec) : Nat := r.lo.toNat / 10

/-- An opcode that no COMMAND record may name (R546): classes 0x02, 0x05, 0x08 (but for RAISE_EVENT), 0x0C and 0x0D,
INJECT and SET_MAINTENANCE. -/
def opcodeBarred (n : Nat) : Bool :=
  (decide (n / 256 ∈ [2, 5, 8, 12, 13]) && decide (n ≠ 0x0805)) || decide (n = 0x0E01) || decide (n = 0x0E04)

/-- A record's object range: one class, the last not lower than the first (R545). -/
def rangeOk (r : ManRec) : Bool := decide (objCls r.first = objCls r.last) && decide (r.first ≤ r.last)

/-- The checks of a record by offset (Table 13.9a, R545, R546). -/
def recChecks (words : Nat) (r : ManRec) : List (Nat × Bool) :=
  let none2 := [(14, decide (r.check = 0)), (16, decide (r.lo = 0)), (20, decide (r.hi = 0))]
  match r.kind with
  | 1 =>
    let global := decide (r.source ≤ 1022)
    [(1, decide (r.bits = 0)), (2, global || decide (r.source = vInit ∨ r.source = vTimer ∨ r.source = vReply)),
     (4, decide (r.first < words)), (8, decide (16 ≤ r.last ∧ r.last ≤ 16384)),
     (12, decide (r.prop / 1024 = 0 ∧ r.prop / 16 % 16 = 0) && (global || decide (r.prop / 256 = 0))),
     (14, decide (r.check = 0)),
     (16, if global then decide (10 ≤ r.lo ∧ r.lo ≤ 2550 ∧ r.lo % 10 = 0)
          else if r.source = vTimer then decide (10 ≤ r.lo ∧ r.lo ≤ 10000000) else decide (r.lo = 0)),
     (20, decide (r.hi = 0))]
  | 2 => [(1, decide (r.bits = 0)), (2, decide (r.source = 0)), (8, rangeOk r)] ++ none2
  | 3 => [(1, decide (r.bits ≤ 1)), (2, !opcodeBarred r.source), (8, rangeOk r), (14, decide (r.check % 4 = 0 ∨ r.check = 0xFFFF))]
  | 4 => [(1, decide (r.bits = 0)), (2, decide (r.source = 0)), (4, decide (objCls r.first = 2 ∨ objCls r.first = 3)), (8, rangeOk r),
          (12, decide (r.prop = 0))] ++ none2
  | _ => [(0, false)]

/-- Ranges that do not overlap. -/
def disjoint (l : List (Nat × Nat)) : Bool :=
  (List.range l.length).all (fun i => (List.range i).all (fun j =>
    let a := l.getD i (0, 0); let b := l.getD j (0, 0)
    decide (a.2 = 0) || decide (b.2 = 0) || decide (a.1 + a.2 ≤ b.1) || decide (b.1 + b.2 ≤ a.1)))

/-- The checks of an image by offset (Table 13.7, R545, R546). -/
def imageChecks (b : List Nat) : List (Nat × Bool) :=
  let secs := [(0, 64), (iSection b 0, 24 * iRecords b), (iSection b 1, 4 * iWords b), (iSection b 2, iData b), (iSection b 3, sigLen)]
  let inside (i : Nat) : Bool := let x := secs.getD i (0, 0); decide (x.1 + x.2 ≤ b.length)
  let hs := (iManifest b).filter (fun r => r.kind = 1)
  [(0x00, decide (leAt b 0 4 = 0x4E525542)), (0x04, decide (leAt b 4 2 = 1)), (0x06, zeroAt b 6 2),
   (0x08, decide (leAt b 8 4 = b.length ∧ b.length ≤ 65536)), (0x10, decide (1 ≤ iVersion b)), (0x14, decide (leAt b 0x14 4 ≤ 1)),
   (0x18, decide (1 ≤ iRecords b ∧ iRecords b ≤ 128) && decide (hs.length ≤ 32) && (hs.map (·.source)).Nodup),
   (0x1A, decide (1 ≤ iWords b ∧ iWords b ≤ 4096)), (0x1C, decide (iData b ≤ 6144)), (0x1E, zeroAt b 0x1E 2),
   (0x20, inside 1 && disjoint secs), (0x24, inside 2), (0x28, inside 3), (0x2C, decide (iSection b 3 + sigLen = b.length)),
   (0x30, zeroAt b 0x30 16)]
  ++ (List.range (iRecords b)).flatMap (fun i => (recChecks (iWords b) (iRecord b i)).map (fun c => (iSection b 0 + 24 * i + c.1, c.2)))

/-- The offset of an image's first fault. -/
def imageFault (b : List Nat) : Option Nat := ((imageChecks b).find? (fun c => !c.2)).map (·.1)

/-- UTILISATION in 0.1 %, exact (R531). -/
def utilisation (b : List Nat) : Rat :=
  (((iManifest b).filter (fun r => decide (r.kind = 1) && decide (r.source ≠ vInit))).map (fun r =>
    let spacing : Rat := if r.source = vReply then 10000 else (r.lo : Rat) * 1000
    (r.last : Rat) * (62 : Rat) / 10 / spacing * 1000)).sum

/-- A record lies within one of a ceiling (R548). -/
def withinCeiling (r c : ManRec) : Bool :=
  decide (r.kind = c.kind) && decide (c.first ≤ r.first) && decide (r.last ≤ c.last) &&
  (decide (c.prop = 0xFFFF) || decide (c.prop = r.prop)) &&
  (decide (r.kind = 2) || (decide (r.source = c.source) && decide (r.bits ≤ c.bits) &&
    (decide (c.check = 0xFFFF) || (decide (r.check = c.check) && decide (c.lo ≤ r.lo) && decide (r.hi ≤ c.hi)))))

/-- The checks of END, in order, and the offset of the first fault (R532). -/
def State.checkProgram (s : State) (b : List Nat) (total : Nat) : Status × Nat :=
  let slot := leAt b (iSection b 3 + 6) 1
  let ceiling : List ManRec := match s.td with | some d => (d.ceilings.filter (fun (c : Nat × ManRec) => decide (c.1 = slot))).map (·.2) | none => []
  if b.length ≠ total then (.burinLoadIncomplete, 0)
  else match imageFault b with
  | some o => (.burinImageInvalid, o)
  | none =>
    if !s.verifies b (iSection b 3) [0, 1, 2, 3, 4, 5] false then (.burinSignature, 0)
    else if (iSvn b : Int) < s.get .burinSvnFloor then (.burinSvn, 0)
    else if decide (4 ≤ slot) && (iManifest b).any (fun r => decide (r.kind = 2 ∨ r.kind = 3) && !ceiling.any (withinCeiling r)) then
      (.burinAuthority, 0)
    else if 750 < utilisation b then (.burinOverload, 0)
    else (.ok, 0)

/-! ### Engines (R518–R525) -/

/-- The engine states of Table 13.1. -/
def enEmpty : Int := 0
def enLoading : Int := 1
def enLoaded : Int := 2
def enRunning : Int := 3
def enStopped : Int := 4
def enFaulted : Int := 5
def enLost : Int := 6

def State.engine (s : State) (e : Nat) : Engine := s.engines.get {} e
def State.modEngine (s : State) (e : Nat) (f : Engine → Engine) : State := { s with engines := s.engines.put {} e (f (s.engine e)) }

/-- An engine changes state (R519). -/
def State.setEngine (s : State) (e : Nat) (new cause : Int) : State :=
  let old := s.get .engineState e
  if old = new then s else (s.put .engineState e new).raise .burinState (oBurin e) [e, old, new, cause]

/-- The properties an image shows (Table 13.15). -/
def State.showProgram (s : State) (e : Nat) (b : List Nat) : State :=
  let u := utilisation b
  (s.put .programId e (iProgram b)).put .programVersion e (iVersion b * 65536 + iSvn b : Nat) |>.put .utilisation e u.ceil

/-- Bytes of data memory (R524). -/
def Engine.readData (x : Engine) (addr n : Nat) : Nat := leValue ((List.range n).map (fun i => x.data.get 0 (addr + i)))
def Engine.writeData (x : Engine) (addr n v : Nat) : Engine :=
  { x with data := ((leBytes n v).zipIdx addr).foldl (fun m b => m.put 0 b.2 b.1) x.data }
def Engine.writeBytes (x : Engine) (addr : Nat) (l : List Nat) : Engine :=
  { x with data := (l.zipIdx addr).foldl (fun m b => m.put 0 b.2 b.1) x.data }

/-- The code word at an index (R524). -/
def Engine.codeAt (x : Engine) (pc : Nat) : Nat :=
  if pc < iWords x.image then leAt x.image (iSection x.image 1 + 4 * pc) 4 else Config.codeWord pc % 2 ^ 32

/-- The running priority (R555). -/
def Engine.runPrio (x : Engine) : Nat := match x.stack with | l :: _ => l.prio | [] => 16

/-! ### Sources, occurrences and assignment (R549–R560) -/

def State.src (s : State) (n t : Nat) : SrcSt := s.srcs.get {} (3 * n + t)
def State.modSrc (s : State) (n t : Nat) (f : SrcSt → SrcSt) : State := { s with srcs := s.srcs.put {} (3 * n + t) (f (s.src n t)) }

/-- Fields of SRC_CONFIG (Table 13.10). -/
def State.cfg (s : State) (n t : Nat) : Nat := s.getN .srcConfig (3 * n + t)
def cfgEnable (c : Nat) : Bool := c.testBit 31
def cfgMode (c : Nat) : Nat := c / 2 ^ 30 % 2
def cfgBypass (c : Nat) : Bool := c.testBit 29
def cfgPrio (c : Nat) : Nat := c / 2 ^ 24 % 16
def cfgMod (c : Nat) : Nat := c / 2 ^ 16 % 256
def cfgMask (c : Nat) : Nat := c % 65536
def cfgWord (enable mode bypass prio mod mask : Nat) : Nat :=
  enable * 2 ^ 31 + mode * 2 ^ 30 + bypass * 2 ^ 29 + prio * 2 ^ 24 + mod * 2 ^ 16 + mask

/-- Levels that run a handler of a source on a tile. -/
def State.activeOn (s : State) (n t : Nat) : Nat :=
  ((List.range 16).map (fun e => ((s.engine (16 * t + e)).stack.filter (fun l => decide (l.source = n))).length)).sum

/-- A tile holds assignment (R553). -/
def State.ecHeld (s : State) (t : Nat) : Bool := (s.getN .ecHold).testBit t

/-- Moderation holds a source on a tile (R559). -/
def State.moderated (s : State) (n t : Nat) : Bool :=
  (s.src n t).claimAt.any (fun c => decide (s.now < c + cfgMod (s.cfg n t) * (10 * us)))

/-- An engine is idle (R560). -/
def State.engineIdle (s : State) (e : Nat) : Bool :=
  (s.engine e).stack.isEmpty && !s.srcs.entries.any (fun x => decide (x.1 % 3 = e / 16) && decide (x.2.assigned = some e))

/-- The enabled targets of a source on a tile, starting after the one assigned before (R521, R554). -/
def State.targets (s : State) (n t : Nat) : List Nat :=
  let l := ((List.range 16).filter (fun e => (cfgMask (s.cfg n t)).testBit e)).map (fun e => 16 * t + e)
  let l := l.filter (fun e => decide (s.get .engineState e = enRunning) && decide ((s.engine e).init = 0))
  match (s.src n t).lastTarget with
  | some k => l.filter (fun e => decide (k < e)) ++ l.filter (fun e => decide (e ≤ k))
  | none => l

/-- A deliverable occurrence is assigned (R554, R560). -/
def State.assign (s : State) (n t : Nat) : State :=
  let x := s.src n t
  let c := s.cfg n t
  if x.pending = 0 ∨ x.assigned.isSome ∨ !cfgEnable c ∨ s.ecHeld t ∨ (cfgMode c = 1 ∧ 0 < s.activeOn n t) then s
  else
    let ts := s.targets n t
    let ts := if s.moderated n t then (if cfgBypass c then ts.filter s.engineIdle else []) else ts
    let pick := match ts.find? (fun e => decide (cfgPrio c < (s.engine e).runPrio)) with | some e => some e | none => ts.head?
    match pick with
    | some e => s.modSrc n t (fun x => { x with assigned := some e, lastTarget := some e })
    | none => s

/-- Every source of a tile with an occurrence pending is looked at. -/
def State.assignAll (s : State) (t : Nat) : State :=
  s.each ((s.srcs.entries.map (·.1)).filter (fun k => decide (k % 3 = t))) (fun s k => s.assign (k / 3) t)

/-- An occurrence is lost or its record is (R551): reported at most once a second for a source and tile. -/
def State.ecOverflow (s : State) (n t : Nat) : State :=
  let i := 0x10000 + 3 * n + t
  let s := (s.modSrc n t (fun x => { x with overflow := true })).setV .srcOvAt (3 * n + t) s.now
  if s.var .eventAt i < 0 ∨ s.var .eventAt i + sec ≤ s.now then
    (s.setV .eventAt i s.now).raise .ecOverflow (oEventSrc n) [t, n, (s.src n t).lost]
  else s

/-- An occurrence of a source is posted to a tile (R549, R551, R552). -/
def State.post (s : State) (n t : Nat) (o : Occurrence) : State :=
  let s := s.modSrc n t (fun x => { x with posted := x.posted + 1 })
  let o : Occurrence := { o with record := { o.record with seq := (s.src n t).posted } }
  let s : State := if cfgMode (s.cfg n t) = 1 then
      let live := decide (0 < s.activeOn n t)
      s.modSrc n t (fun x => { x with pending := 1, recs := [o], merged := min (x.merged + 1) 255, repend := x.repend || live })
    else if 255 ≤ (s.src n t).pending then
      (s.modSrc n t (fun x => { x with lost := min (x.lost + 1) 255 })).ecOverflow n t
    else
      s.modSrc n t (fun x =>
        let full := decide (4 ≤ x.recs.length)
        { x with pending := x.pending + 1, recs := (if full then x.recs.drop 1 else x.recs) ++ [o], lostBefore := x.lostBefore || full })
  s.assign n t

/-- A claim record's bytes (R525, Table 3.23). -/
def Occurrence.bytes (o : Occurrence) (lostBefore : Bool) : List Nat :=
  let r := o.record
  recordBytes ([u16 r.num, u8 ((if lostBefore then 2 else 0) + (if r.safety then 4 else 0) + (if o.software then 8 else 0)),
    u8 (recordLen r.payload), u32 r.src, u64 r.stamp, u64 r.csn, u32 r.seq, rsv 4] ++ r.payload ++
    (if recordLen r.payload < 32 then [rsv (32 - recordLen r.payload)] else []))

/-! ### Starting and stopping (R521, R522, R547) -/

/-- A route of an image conflicts on a tile (R547). -/
def State.routeConflict (s : State) (t : Nat) (b : List Nat) : Bool :=
  (routesOf b).any (fun r =>
    let c := s.cfg r.source t
    decide (cfgMask c ≠ 0) && (decide (cfgPrio c ≠ hPrio r) || decide (cfgMode c ≠ hMode r) || decide (cfgMod c ≠ hMod r)))

/-- The routes of an engine are set (R547). -/
def State.setRoutes (s : State) (e : Nat) (b : List Nat) : State :=
  let t := e / 16
  s.each (routesOf b) (fun s r =>
    let c := s.cfg r.source t
    let en := if cfgEnable c then 1 else 0
    let w := if cfgMask c = 0 then cfgWord en (hMode r) (hBypass r) (hPrio r) (hMod r) (2 ^ (e % 16)) else c ||| 2 ^ (e % 16)
    s.put .srcConfig (3 * r.source + t) w)

/-- The routes of an engine are removed, and what was assigned to it is assigned anew (R522, R554). -/
def State.clearRoutes (s : State) (e : Nat) : State :=
  let t := e / 16
  let s := s.each (routesOf (s.engine e).image) (fun s r =>
    let c := s.cfg r.source t
    if (cfgMask c).testBit (e % 16) then s.put .srcConfig (3 * r.source + t) (c - 2 ^ (e % 16) : Nat) else s)
  let mine := (s.srcs.entries.filter (fun x => decide (x.1 % 3 = t) && decide (x.2.assigned = some e))).map (·.1)
  let s := s.each mine (fun s k => s.modSrc (k / 3) t (fun x => { x with assigned := none }))
  s.assignAll t

/-- An engine leaves RUNNING (R522): its routes, its levels, its timer and what waits for it are gone. -/
def State.stopEngine (s : State) (e : Nat) (new cause : Int) : State :=
  let by_ := (s.engine e).startBy
  let s := (s.modEngine e (fun x => { x with stack := [], init := 0, timer := none, replies := [], period := 0, startBy := none })).disarm
    .engineTimer e
  let s := (s.setEngine e new cause).clearRoutes e
  match by_ with
  | some o => s.answer o .ok [] (s.replyCsn o)
  | none => s

/-- An engine starts (R521): data memory, routes, and INIT where it is declared. -/
def State.startEngine (s : State) (e : Nat) (cause : Int) : State :=
  let b := (s.engine e).image
  let x : Engine := { s.engine e with data := {}, stack := [], timer := none, replies := [], period := 0, overruns := []
                                      init := if (handlerOf b vInit).isSome then 1 else 0 }
  let x := x.writeBytes 0 (bytesAt b (iSection b 2) (iData b))
  let x := x.writeBytes 0x1E00 (recordBytes [u32 e, u32 (e / 16 : Nat), u32 (iProgram b), u32 (iVersion b), u64 s.now])
  let s := (s.modEngine e (fun _ => x)).disarm .engineTimer e
  ((s.setRoutes e b).setEngine e enRunning cause).assignAll (e / 16)

/-- An engine faults (Table 13.9). -/
def State.engineFault (s : State) (e cause pc word source : Nat) : State :=
  let s := s.put .lastFault e (cause * 2 ^ 24 + pc % 4096 : Nat)
  (s.raise .burinFault (oBurin e) [e, cause, pc, word, source]).stopEngine e enFaulted 2

/-- The opcode classes of an image's COMMAND records, one bit a class (Table 3.11). -/
def manifestClasses (b : List Nat) : Nat :=
  ((iManifest b).filter (fun r => decide (r.kind = 3))).foldl (fun m r => m ||| 2 ^ (r.source / 256)) 0

/-- An image takes its place on an engine. -/
def State.placeProgram (s : State) (e : Nat) (b : List Nat) : State :=
  ((s.modEngine e (fun x => { x with image := b, slot := leAt b (iSection b 3 + 6) 1, stack := [], data := {} })).setV .engineClasses e
    (manifestClasses b : Nat)).showProgram e b

/-- An engine's image is gone. -/
def State.dropProgram (s : State) (e : Nat) : State :=
  ((s.modEngine e (fun _ => {})).setV .engineClasses e 0).put .programId e 0 |>.put .programVersion e 0 |>.put .utilisation e 0

/-- A load ends without a new image: the state before BEGIN (Table 13.2). -/
def State.unloadEngine (s : State) (e : Nat) : State :=
  let x := s.engine e
  let s : State := match x.holder with | some o => s.unhold o | none => s
  (s.modEngine e (fun x => { x with holder := none, ending := none, parts := [], total := 0 })).setEngine e x.prior 0

/-- The engines a session was loading return to their former state (Table 13.2); an END that runs goes on (R121). -/
def State.dropProgramLoads (s : State) (id : Nat) : State :=
  s.each ((List.range 48).filter (fun e => decide (s.get .engineState e = enLoading) && (s.engine e).ending.isNone
    && ((s.engine e).holder.any (fun o => decide (o.session = id))))) State.unloadEngine

/-! ### Tile loss, rejoin, and boot (R535–R537) -/

/-- Every engine of the device. -/
def allEngines : List Nat := List.range 48

/-- A tile leaves service: its engines are LOST, and relocatable programs that ran move to empty engines (R535). -/
def State.enginesLost (s : State) (t : Nat) : State :=
  let lost := allEngines.filter (fun e => decide (e / 16 = t) && decide (s.get .engineState e ≠ enEmpty) && decide (s.get .engineState e ≠ enLost))
  let s := s.each lost (fun s e =>
    let s : State := if s.get .engineState e = enLoading then
        match (s.engine e).ending with
        | some o => (s.unloadEngine e).complete o .burinLoaded .internal [e, (s.engine e).prior, s.get .programId e]
            (detailWord 1 t (s.getN .fenceCause t))
        | none => s.unloadEngine e
      else s
    let before := s.getN .engineState e
    if before = 0 then s
    else (s.stopEngine e enLost 3).modEngine e (fun x => { x with before, moved := false }))
  s.each lost (fun s e =>
    let x := s.engine e
    if s.get .engineState e ≠ enLost ∨ x.before ≠ 3 ∨ !iRelocatable x.image then s
    else match allEngines.find? (fun k => decide (s.get .engineState k = enEmpty) && s.inService (k / 16)) with
      | none => s
      | some k =>
        let s := (s.placeProgram k x.image).modEngine e (fun y => { y with moved := true })
        let s := s.raise .burinRelocated (oBurin e) [e, k, iProgram x.image]
        if s.routeConflict (k / 16) x.image then s.setEngine k enLoaded 3 else s.startEngine k 3)

/-- A tile rejoins (R536). -/
def State.enginesBack (s : State) (t : Nat) : State :=
  s.each (allEngines.filter (fun e => decide (e / 16 = t) && decide (s.get .engineState e = enLost))) (fun s e =>
    let x := s.engine e
    if x.moved then (s.dropProgram e).setEngine e enEmpty 4
    else if x.before = 3 then
      if s.routeConflict t x.image then s.setEngine e enStopped 4 else s.startEngine e 4
    else s.setEngine e x.before 4)

/-- The shelf's images of a tile are checked again and loaded, and those with AUTOSTART started (R537). -/
def State.restorePrograms (s : State) (t : Nat) : State :=
  s.each (allEngines.filter (fun e => decide (e / 16 = t) && decide (s.get .engineState e = enEmpty)
      && !(s.progShelf.get {} e).bytes.isEmpty)) (fun s e =>
    let p := s.progShelf.get {} e
    let r := s.checkProgram p.bytes p.bytes.length
    if r.1 ≠ .ok then
      let o : Origin := { op := .loadProgram, object := oBurin e }
      s.raise .burinLoaded (oBurin e) (o.block r.1 r.2 s.journal.committed ++ [(e : Int), 0, iProgram p.bytes])
    else
      let s := (s.placeProgram e p.bytes).modEngine e (fun x => { x with shelved := true })
      let s := (s.put .autostart e p.auto).setEngine e enLoaded 5
      if p.auto = 1 ∧ !s.routeConflict t p.bytes then s.startEngine e 5 else s)

/-- Every engine stops (R537). -/
def State.stopEngines (s : State) : State :=
  s.each (allEngines.filter (fun e => decide (s.get .engineState e = enRunning))) (fun s e => s.stopEngine e enStopped 0)

end Sys2Proof.Machine
end

