-- ==== Sys2Proof/Machine/ForecastOps.lean ====
section
/-! DEFINITION. The forecast array's operations (chapter 9): slots, costs, shedding, features, forecasts in force,
training and its store. -/

namespace Sys2Proof.Machine

def State.fcDom (s : State) (d : Nat) : FcDom := s.fcDoms.get {} d
def State.modFc (s : State) (d : Nat) (f : FcDom → FcDom) : State := { s with fcDoms := s.fcDoms.put {} d (f (s.fcDom d)) }

/-- The slot a domain is bound to (FC_SLOT). -/
def State.slotOf (s : State) (d : Nat) : Option Nat := if s.getN .fcSlot d < 64 then some (s.getN .fcSlot d) else none

/-- Domains the description declares. -/
def State.domainsDeclared (s : State) : List Nat := (List.range 256).filter s.hasDomain

/-- The domains bound to a slot. -/
def State.boundTo (s : State) (m : Nat) : List Nat := s.domainsDeclared.filter (fun d => s.slotOf d = some m)

/-- MODEL_VERSION of a generation (R384). -/
def State.versionOf (s : State) (m gen : Nat) : Nat := cVersion (s.model m).bytes * 65536 + min gen 65535

/-- FC_BUDGET (R386). -/
def State.fcBudget (s : State) : Nat := if s.membership = 1 then 2080 else 1040

/-! ### Cost and shedding (R387–R390) -/

/-- A tile's cost for a binding of domains and an assignment of domains to tiles (R387), shed slots apart. -/
def State.tileCost (s : State) (bind : Nat → Option Nat) (tileOf : Nat → Option Nat) (counts : Nat → Bool) (tile : Nat) : Nat :=
  let mine := s.domainsDeclared.filter (fun d => tileOf d = some tile)
  80 + ((slots.filter counts).map (fun m =>
    let n := (mine.filter (fun d => bind d = some m)).length
    if n = 0 then 0 else cCostFor (s.model m).bytes n)).sum

/-- Slots that take part in inference: the active ones. -/
def State.isActive (s : State) (m : Nat) : Bool := s.get .modelState m = slActive

/-- FC_LOAD: the cost in the present case, with every active slot. -/
def State.fcLoad (s : State) (t : Nat) : Nat := s.tileCost s.slotOf s.regDom s.isActive t

/-- The slots a tile sheds (R390): the highest ones, one after another, until the cost fits; at most `n`. -/
def State.shedOf (s : State) (t : Nat) : Nat → Nat → Nat
  | 0, mask => mask
  | n + 1, mask =>
    if s.tileCost s.slotOf s.regDom (fun m => s.isActive m && !mask.testBit m) t ≤ s.fcBudget then mask
    else s.shedOf t n (if s.isActive n && (s.domainsDeclared.any (fun d => s.regDom d = some t ∧ s.slotOf d = some n))
      then mask ||| 2 ^ n else mask)

/-- The bindings once every pending activation has applied (R382). -/
def State.bindAfter (s : State) (more : List (Nat × Nat)) : Nat → Option Nat := fun d =>
  let acts := (s.switches.filterMap (fun x => x.mask.map (fun m => (x.slot, m)))) ++ more
  acts.foldl (fun b x => if x.2.testBit d then some x.1 else if b = some x.1 then none else b) (s.slotOf d)

/-- The first failure of R389 for a new binding: tile, case and cost. -/
def State.noCapacity (s : State) (m mask : Nat) : Option (Nat × Nat × Nat) :=
  let bind := s.bindAfter [(m, mask)]
  let counts (k : Nat) : Bool := s.isActive k || decide (k = m) || s.switches.any (fun x => x.mask.isSome ∧ x.slot = k)
  let cost (assign : Nat → Option Nat) (t : Nat) : Nat := s.tileCost bind assign counts t
  let present := s.tilesIn.map (fun t => (t, 0, cost s.regDom t))
  let lossCase (lost : Nat) : List (Nat × Nat × Nat) :=
    ([0, 1, 2].filter (· ≠ lost)).map (fun t => (t, lost + 1, cost (fun d => some (lossTile lost (d / 32))) t))
  let all := match s.membership with
    | 1 => []
    | 3 => present ++ lossCase 0 ++ lossCase 1 ++ lossCase 2
    | _ => present
  all.find? (fun x => decide (s.fcBudget < x.2.2))

/-! ### Forecasts in force (R370) -/

/-- A domain has no forecast any more: PLAN_SOURCE 0 until 16 valid steps (R370). -/
def State.dropForecast (s : State) (d : Nat) : State :=
  let s := s.modFc d (fun x => { x with next := none, valid := false, okRun := 0, missRun := max 2 x.missRun })
  (s.setV .forecastOk d 0).putPlanSource d false

/-- A domain's step goes missing (R370): its forecast stays, stale; the second in a row makes PLAN_SOURCE 0. -/
def State.missStep (s : State) (d : Nat) : State :=
  let s := s.modFc d (fun x => { x with next := none, okRun := 0, missRun := x.missRun + 1 })
  let s : State := match s.slotOf d with
    | some m => s.modModel m (fun x => { x with misses := min (x.misses + 1) 4294967295 })
    | none => s
  if 2 ≤ (s.fcDom d).missRun then (s.setV .forecastOk d 0).putPlanSource d false else s

/-- A domain's forecast of the step that began at `tj` is published. -/
def State.publish (s : State) (d : Nat) (tj : Ns) (f : List Int) : State :=
  let v := match s.slotOf d with | some m => s.versionOf m (s.model m).gen | none => 0
  let s := s.each (List.range 8) (fun s h => s.setV .forecast (8 * d + h) (f.getD h 0))
  let s := s.modFc d (fun x => { x with
    next := none, at_ := tj, version := v, valid := true, okRun := x.okRun + 1, missRun := 0, fresh := false })
  if 16 ≤ (s.fcDom d).okRun then (s.setV .forecastOk d 1).putPlanSource d true else s

/-! ### Currents and features (Table 9.5) -/

/-- The mean current of a domain over `n` slots that end at an instant, in mA; samples not yet delivered are left
out, and with none the mean is 0. -/
def State.meanEnding (s : State) (d : Nat) (end_ : Ns) (n : Nat) : Rat :=
  let last := s.var .frameSlot (relayOfDomain d)
  let skip : Int := last - (end_ / 500 : Nat) + 1
  let l := (s.dom d).currents
  let l := if skip < 0 then l.take ((n : Int) + skip).toNat else (l.drop skip.toNat).take n
  if l.isEmpty then 0 else ((l.sum : Int) : Rat) / ((l.length : Int) : Rat)

/-- Feature 0x02 of a step (mA). -/
def State.currentNow (s : State) (d : Nat) (tj : Ns) : Rat := s.meanEnding d (tj - us) 4

/-- A hint of the accelerator is in use (R373). -/
def State.hintUsed (s : State) (a : Nat) : Bool := s.flag .hintSeen a && s.flag .telemetrySeen a

/-- The largest of a list, if it has one. -/
def listMax : List Int → Option Int
  | [] => none
  | x :: xs => some (xs.foldl max x)

/-- The raw value of a feature of domain d in the step of `tj` (Table 9.5). -/
def State.rawFeature (s : State) (b : List Nat) (d : Nat) (tj : Ns) (id : Nat) : F32 :=
  let a := d / 32
  let h := s.hints.get {} a
  let tl := s.telemetry.get {} a
  let used := s.hintUsed a
  let age : Rat := (((tj : Int) - h.stamp : Int) : Rat) / 1000
  let amps (x : Rat) : F32 := toF32 (x / 1000)
  let bit (x : Bool) : F32 := if x then .num 1 else .num 0
  if id = 0 then .num 0
  else if id = 1 then .num 1
  else if id ≤ 0x11 then amps (s.meanEnding d (tj - us - 2 * us * (id - 2)) 4)
  else if id ≤ 0x15 then amps (s.meanEnding d (tj - 33 * us - 32 * us * (id - 0x12)) 64)
  else if id = 0x16 then toF32 ((s.get .setpoint d : Rat) / 1000000)
  else if id = 0x17 then toF32 (((s.dom d).volt : Rat) / 1000000)
  else if id = 0x18 then toF32 ((s.legsIn d legActive).length : Nat)
  else if id = 0x19 then toF32 (((listMax ((s.legsOf d).map (fun l => s.get .legTemperature l))).getD 0 : Rat) / 1000)
  else if id = 0x20 then toF32 ((tl.freq : Rat) / 1000)
  else if id = 0x21 then toF32 ((tl.sustain : Rat) / 1000)
  else if id = 0x22 then toF32 (s.get .reefLevel a : Rat)
  else if id = 0x23 then toF32 ((tl.power : Rat) / 1000)
  else if id = 0x24 then toF32 ((s.grantAt (nodeAccel a) tj : Rat) / 1000)
  else if id = 0x25 then toF32 (((listMax (tl.temps.filter (fun x => x ≠ -2147483648))).getD 0 : Rat) / 1000)
  else if id = 0x26 then bit (tl.state.testBit 0)
  else if id = 0x27 then bit (tl.state.testBit 1)
  else if id = 0x28 then
    if !used ∨ h.nextIn = 0xFFFFFFFF then .num 1000 else toF32 (min 1000 (max 0 ((h.nextIn : Rat) / 1000 - age)))
  else if id = 0x29 then if used then toF32 ((h.nextDuration : Rat) / 1000) else .num 0
  else if id = 0x2A then if used then toF32 ((h.confidence : Rat) / 255) else .num 0
  else if id = 0x2B then if used then toF32 (min 10000 age) else .num 0
  else if id = 0x2C then bit (used && decide (h.mapping ≠ 0))
  else if id = 0x2D then if used then toF32 (min 100000 ((((tj : Int) - s.var .tagAt a : Int) : Rat) / 1000)) else .num 0
  else if id = 0x2E then toF32 ((s.var .planDemand a : Rat) / 1000)
  else if id ≤ 0x3F then tagElem b (if used then tagRow b h.tagNow else 0) (id - 0x30)
  else if id ≤ 0x4F then tagElem b (if used then tagRow b h.tagNext else 0) (id - 0x40)
  else if id ≤ 0x57 then domElem b (d % 32) (id - 0x50)
  else if (s.fcDom d).fresh then .num 0
  else amps (s.var .forecast (8 * d + (id - 0x58)) : Rat)

/-- F(h) of one output (R369): scaled, offset, with the domain current where RESIDUAL is set, clamped and rounded. -/
def forecastOf (b : List Nat) (k : Nat) (y : F32) (iNow : Rat) (oc : Int) : Option Int :=
  let z := (y.mul (F32.ofBits (leAt b (0xC0 + 4 * k) 4))).add (F32.ofBits (leAt b (0xE0 + 4 * k) 4))
  let z := if (cFlags b).testBit 0 then z.add (toF32 iNow) else z
  match y with
  | .num _ => match z with
    | .num q => some (roundEven (min (oc : Rat) (max 0 q)))
    | .inf neg => some (if neg then 0 else oc)
    | .nan => none
  | _ => none

/-- All of a list, or nothing. -/
def allSome {α : Type} : List (Option α) → Option (List α)
  | [] => some []
  | some x :: rest => (allSome rest).map (x :: ·)
  | none :: _ => none

/-- The forecasts of a domain in the step of `tj`, and the numeric faults met. A trained generation's weights are no
part of the model, so its outputs are free values within R369's range. -/
def State.infer (s : State) (m d : Nat) (tj : Ns) : (Option (List Int) × Nat) × State :=
  let b := (s.model m).bytes
  if (s.model m).gen = 0 then
    let (ys, n) := runModel b (inputVector b (s.rawFeature b d tj))
    let ys := ys.take 8
    let n := n + (ys.filter F32.isFault).length
    ((allSome ((List.range 8).map (fun k => forecastOf b k (ys.getD k .nan) (s.currentNow d tj) (s.get .domainOc d))), n), s)
  else
    let oc := s.get .domainOc d
    let l := (List.range 8).foldl (fun (acc : List Int × State) _ =>
      let (x, s) := acc.2.draw; (acc.1 ++ [clampTo x 0 oc], s)) ([], s)
    ((some l.1, 0), l.2)

/-! ### Training (R392–R401) -/

/-- A tile in service has stacks in service. -/
def State.tileStacks (s : State) (t : Nat) : Bool := s.inService t && decide (s.stackMask t &&& s.varN .stacksUp ≠ 0)

/-- A slot trains: the container allows it, the feature is in service, MODE is at least 1 and the store is there
(R392). -/
def State.trains (s : State) (m : Nat) : Bool :=
  let x := s.model m
  s.featuresUp.testBit 3 && cTrainable x.bytes && decide (1 ≤ x.training.mode) && s.isActive m && s.tileStacks (s.getN .trainTile m)

/-- A container's limits in the units of Table 9.11, rounded down. -/
def limitOf (b : List Nat) (off : Nat) (scale : Rat) : Nat :=
  match F32.ofBits (leAt b (cSection b 3 + off) 4) with
  | .num q => (q * scale).floor.toNat
  | _ => 0

/-- LR_MAX, LR_DEFAULT, DRIFT_LIMIT and UNDER_WEIGHT_MAX of a container. -/
def lrMax (b : List Nat) : Nat := limitOf b 0 1000000000
def lrDefault (b : List Nat) : Nat := limitOf b 4 1000000000
def driftLimit (b : List Nat) : Nat := limitOf b 8 1000
def underMax (b : List Nat) : Nat := limitOf b 12 10

/-- Training settings at load (R396). -/
def State.loadTraining (s : State) (b : List Nat) : Training :=
  { mode := if cTrainable b && s.featuresUp.testBit 3 then 3 else 0, lr := lrDefault b, drift := driftLimit b }

/-- EV_TRAINING_STATE. -/
def State.trainingEvent (s : State) (m old new reason : Nat) : State :=
  s.raise .trainingState (oModel m) [m, old, new, reason, s.get .trainTile m]

/-- CANDIDATE_INTERVAL runs while the slot trains and evaluates. -/
def State.armCandidate (s : State) (m : Nat) : State :=
  if s.trains m ∧ 2 ≤ (s.model m).training.mode then s.armOnce .candidate m ((s.model m).training.interval * ms)
  else s.disarm .candidate m

/-- Training stops with the slot's MODE 0. -/
def State.stopTraining (s : State) (m reason : Nat) : State :=
  let old := (s.model m).training.mode
  if old = 0 then s
  else ((s.modModel m (fun x => { x with training := { x.training with mode := 0 } })).disarm .candidate m).trainingEvent m old 0 reason

/-- The store of a training tile is lost (R392, R401): training moves to the other tile with stacks, with an empty ring,
or stops. -/
def State.trainingLost (s : State) : State :=
  s.each (slots.filter (fun m => decide (1 ≤ (s.model m).training.mode) && !s.tileStacks (s.getN .trainTile m))) (fun s m =>
    match [0, 1, 2].find? s.tileStacks with
    | some t =>
      let mode := (s.model m).training.mode
      ((s.put .trainTile m t).modModel m (fun x => { x with ring := 0, store := [], tags := [] })).trainingEvent m mode mode 2
    | none => s.stopTraining m 1)

/-! ### Slots (R378–R384, R399) -/

/-- A slot shows the version in use (R384). -/
def State.showVersion (s : State) (m : Nat) : State := s.put .modelVersion m (s.versionOf m (s.model m).gen)

/-- The counters of Table 9.13 start at zero (R403). -/
def Model.fresh (x : Model) : Model :=
  { x with misses := 0, samples := 0, dropped := 0, minibatches := 0, candidates := 0, promotions := 0, rollbacks := 0
           sRatio := 0, uCand := 0, uAct := 0, faults := 0, ratio := [0, 0, 0], errM := [0, 0, 0], errP := [0, 0, 0]
           bad := [0, 0, 0], outs := [] }

/-- A verified container is placed in its slot: LOADED, generation 0 (R379, R396). -/
def State.placeModel (s : State) (m : Nat) (b : List Nat) : State :=
  let x : Model := { (({} : Model)) with bytes := b, training := s.loadTraining b, shelfAt := (s.model m).shelfAt }
  let s := s.modModel m (fun _ => x)
  (s.put .modelId m (leAt b 0x0C 4) |>.put .modelSvn m (cSvn b) |>.put .cost128 m (cCost b)).showVersion m |>.setSlot m slLoaded

/-- A slot becomes EMPTY. -/
def State.emptySlot (s : State) (m : Nat) : State :=
  let s := s.modModel m (fun _ => {})
  (s.put .modelId m 0 |>.put .modelSvn m 0 |>.put .cost128 m 0 |>.put .modelVersion m 0).setSlot m slEmpty |>.disarm .candidate m

/-- A pending promotion or rollback of a slot is discarded (R383). -/
def State.dropPromotion (s : State) (m : Nat) : State :=
  { s with switches := s.switches.filter (fun x => !(decide (x.slot = m) && x.gen.isSome)) }

/-- The first step boundary at least 100 µs away (R382). -/
def State.switchInstant (s : State) : Ns :=
  let step := max 2000 s.fcStep
  (s.now + 100 * us + step - 1) / step * step

/-- A slot is demoted (R399): its domains lose their forecasts and training stops. -/
def State.demote (s : State) (m cause : Nat) : State :=
  let ds := s.boundTo m
  let s := (s.dropPromotion m).setSlot m slDemoted
  let s := s.each ds State.dropForecast
  let s := s.raise .modelDemoted (oModel m) [m, cause, ds.length, s.get .modelVersion m]
  s.stopTraining m 3

/-- Numeric faults of a step are counted; more than 1 % of a slot's outputs over any second demote it (R399). -/
def State.noteFaults (s : State) (m outputs faults : Nat) : State :=
  let s := s.modModel m (fun x => { x with
    faults := min (x.faults + faults) 4294967295
    outs := ((s.now, outputs, faults) :: x.outs).filter (fun o => decide (s.now < o.1 + sec)) })
  let l := (s.model m).outs
  if s.isActive m ∧ (l.map (·.2.1)).sum < 100 * (l.map (·.2.2)).sum then s.demote m 1 else s

end Sys2Proof.Machine
end

