-- ==== Sys2Proof/Machine/Forecast.lean ====
section
/-! DEFINITION. The forecast array's commands (chapter 9). -/

namespace Sys2Proof.Machine

/-! ### Steps (R368–R371, R388, R390) -/

/-- Slots of a tile are shed or return (R390). -/
def State.shed (s : State) (t : Nat) : State :=
  let old := s.varN .fcShed t
  let cost := s.fcLoad t
  let new := s.shedOf t 64 0
  let s := (s.put .fcLoad t cost).setV .fcShed t new
  let gone := new &&& (old ^^^ new)
  let mine := s.domainsDeclared.filter (fun d => s.regDom d = some t)
  let dark := mine.filter (fun d => (s.slotOf d).any (fun m => new.testBit m))
  let s := s.each (dark.filter (fun d => (s.fcDom d).valid)) State.dropForecast
  if gone = 0 then s
  else s.raise .forecastShed (oTile t) [t, popCount 64 new, dark.length, cost, s.fcBudget]

/-- Realised currents of steps 8 µs back enter the running window of the tile that regulates the domain (R399). -/
def State.realise (s : State) (d t : Nat) : State :=
  let ready := (s.fcDom d).hist.filter (fun h => decide (h.1 + 9 * us ≤ s.now))
  let s := s.modFc d (fun x => { x with hist := x.hist.filter (fun h => !decide (h.1 + 9 * us ≤ s.now)) })
  match s.slotOf d with
  | none => s
  | some m => s.each ready (fun s h =>
      let real := s.meanEnding d (h.1 + 8 * us) 4
      s.modModel m (fun x => { x with
        errM := x.errM.modify t (· + qabs ((h.2.1 : Rat) - real))
        errP := x.errP.modify t (· + qabs (h.2.2 - real)) }))

/-- A sample of a training slot's domain is formed in this step (R393), with the features as they are and the F(h) to be published. -/
def State.formSample (s : State) (d m : Nat) (tj : Ns) (features : List F32) (forecast : List Int) : State :=
  let x := s.fcDom d
  let tagAge : Int := tj - s.var .tagAt (d / 32)
  if s.trains m ∧ (x.sampleAt + (s.model m).training.sample * us ≤ tj
      ∨ (s.flag .hintSeen (d / 32) ∧ 0 ≤ tagAge ∧ tagAge < 16 * (s.fcStep : Int))) then
    s.modFc d (fun x => { x with
      sampleAt := if x.sampleAt + (s.model m).training.sample * us ≤ tj then tj else x.sampleAt
      samples := x.samples ++ [{ at_ := tj, features := features.map F32.toBf16, forecast }] })
  else s

/-- Inference of one tile in the step of `tj` (R368, R385): every regulated domain bound to an active slot that is not
shed. -/
def State.inferTile (s : State) (tj : Ns) (t : Nat) : State :=
  let s := s.shed t
  let mine := s.domainsDeclared.filter (fun d => s.regDom d = some t)
  s.each mine (fun s d =>
    let s := s.realise d t
    match s.slotOf d with
    | none => s
    | some m =>
      if !s.isActive m ∨ (s.varN .fcShed t ||| s.varN .fcBad t).testBit m ∨ s.get .arrayState t ≠ 0 then s
      else
        let b := (s.model m).bytes
        let features := inputVector b (s.rawFeature b d tj)
        let ((f, n), s) := s.infer m d tj
        let pers := s.currentNow d tj
        let s := s.modFc d (fun x => { x with
          next := f, hist := match f with | some l => x.hist ++ [(tj, l.getD 2 0, pers)] | none => x.hist })
        (s.formSample d m tj features (f.getD [])).noteFaults m 8 n)

/-- FORECAST_STEP (R368, R371): at t_j = j × FC_STEP. -/
def execForecastStep (t : Ns) (s : State) : Out :=
  let s := s.tick t
  .next (if s.fcStep = 0 ∨ s.now % max 1 s.fcStep ≠ 0 then s
    else (s.each s.tilesIn (fun s x => s.inferTile s.now x)).setV .fcStart 0 s.now)

/-- One tile's publication (R370, R388): `late` where it missed t_j+1. -/
def State.publishTile (s : State) (tj : Ns) (t : Nat) (late : Bool) : State :=
  let mine := s.domainsDeclared.filter (fun d => s.regDom d = some t)
  let live := mine.filter (fun d => (s.slotOf d).any (fun m => s.isActive m && !(s.varN .fcShed t ||| s.varN .fcBad t).testBit m) && decide (s.get .arrayState t = 0))
  let s : State := if late ∧ !live.isEmpty then s.count .fcMisses t else s
  let s := s.each live (fun s d =>
    match (s.fcDom d).next with
    | some f => if late then s.missStep d else s.publish d tj f
    | none => s.missStep d)
  let stale := live.filter (fun d => decide (0 < (s.fcDom d).missRun))
  if late ∧ !live.isEmpty ∧ (s.var .fcEvAt t < 0 ∨ s.var .fcEvAt t + sec ≤ s.now) then
    (s.setV .fcEvAt t s.now).raise .forecastDeadline (oTile t) [t, stale.length, s.get .fcMisses t]
  else s

/-- FORECAST_PUBLISH (R370, R388): the step in progress is published by t_j+1. A tile is late only where its cost is
above FC_BUDGET or its pace below the slow corner. -/
def execForecastPublish (t : Ns) (late : List (Fin 3)) (s : State) : Out :=
  let s := s.tick t
  .next (if s.var .fcStart < 0 then s
    else
      let tj := s.varN .fcStart
      let mayMiss (x : Nat) : Bool := decide (s.get .pace x < 650000) ||
        decide (s.fcBudget < s.tileCost s.slotOf s.regDom (fun m => s.isActive m && !(s.varN .fcShed x).testBit m) x)
      let s := s.each s.tilesIn (fun s x => s.publishTile tj x (late.any (fun y => y.val = x) && mayMiss x))
      (s.setV .fcStart 0 (-1)).setV .fcTj 0 tj)

/-- An array fails (R391). -/
def State.arrayFails (s : State) (t test : Nat) : State :=
  let mine := s.accels.filter (fun a => s.regTile a = some t)
  let s := s.put .arrayState t 1
  let move := decide (s.membership = 3)
  let s := s.raise .arrayFault (oTile t) [t, if move then 0 else 1, test]
  let s : State := if move then { s with moves := s.moves ++ mine.map (fun a => (a, lossTile t a)) } else s
  let s := s.each (mine.flatMap (fun a => (List.range 32).map (fun j => 32 * a + j))) (fun s d =>
    if (s.fcDom d).valid then s.dropForecast d else s)
  s.dropFeatures

/-- KNOWN_ANSWER_TEST (R385, R391). -/
def execKnownAnswerTest (t : Ns) (tile : Fin 3) (pass : Bool) (test : Nat) (s : State) : Out :=
  let s := s.tick t
  let bad := s.acts (0x0C0 + tile.val)
  let s := s.spend (0x0C0 + tile.val)
  .next (if (pass && !bad) ∨ !s.inService tile.val ∨ s.get .arrayState tile.val ≠ 0 ∨ !(s.member.features false).testBit 2 then s
    else s.arrayFails tile.val test)

/-! ### Training (R392–R401) -/

/-- Samples the 40 GiB ring holds (R393). -/
def ringSamples : Nat := 40 * 1073741824 / 320

/-- The eight realised currents of a step: the means over the 2 µs that end 2, 4, 8, ... 256 µs after it (R369, R393). -/
def State.realisedAt (s : State) (d : Nat) (tj : Ns) : List Rat := (List.range 8).map (fun k => s.meanEnding d (tj + 2 ^ (k + 1) * us) 4)

/-- TRAINING_SAMPLE_COMPLETE (R393): 256 µs after it was formed, a domain's oldest sample is written, or dropped. A tag
with no valid row takes a row of the table (R395). -/
def execTrainingSampleComplete (t : Ns) (d : Fin 256) (carried : Bool) (s : State) : Out :=
  let s := s.tick t
  .next (match (s.fcDom d.val).samples, s.slotOf d.val with
    | x :: rest, some m =>
      if s.now < x.at_ + 256 * us then s
      else
        let s := s.modFc d.val (fun x => { x with samples := rest })
        if carried ∧ s.trains m then
          let b := (s.model m).bytes
          let sample := { x with realised := s.realisedAt d.val x.at_ }
          let tag := (s.hints.get {} (d.val / 32)).tagNow
          let free := ((List.range (cTagRows b)).filter (fun i => i ≠ 0 ∧ (cTagRow b i).2 = 0)).length
          s.modModel m (fun x => { x with
            samples := x.samples + 1, ring := min (x.ring + 1) ringSamples
            store := ({ sample with num := x.samples + 1 } :: x.store).take ringSamples
            tags := if s.hintUsed (d.val / 32) ∧ tagRow b tag = 0 ∧ tag ∉ x.tags ∧ x.tags.length < free then x.tags ++ [tag] else x.tags })
        else s.modModel m (fun x => { x with dropped := x.dropped + 1 })
    | _ :: rest, none => s.modFc d.val (fun x => { x with samples := rest })
    | [], _ => s)

/-- MINIBATCH_DONE (R394): a minibatch over the ring is applied, or discarded for a NaN or infinity. -/
def execMinibatchDone (t : Ns) (m : Fin 64) (numeric : Bool) (s : State) : Out :=
  let s := s.tick t
  let x := s.model m.val
  .next (if s.trains m.val ∧ 2 ≤ x.training.mode ∧ 0 < x.ring - x.ring / 8 ∧ !numeric
    then s.modModel m.val (fun x => { x with minibatches := x.minibatches + 1 }) else s)

/-- A promotion is committed with its switch instant; it replaces one of the same slot that waits (R398). -/
def State.promote (s : State) (m : Nat) (gen : Nat) : State :=
  let s := s.dropPromotion m |>.commit { object := oModel m, op := .activateModel }
  let x : Switch := { at_ := s.switchInstant, csn := s.journal.assigned, slot := m, gen := some gen }
  State.recommit { s with switches := s.switches ++ [x] }

/-- A candidate is scored (R397): S and U of the candidate and of the version in use are free; in MODE 3 one better by the
margin and no worse in under-forecast is promoted. -/
def State.scoreCandidate (s : State) (m : Nat) : State :=
  let (sc, s) := s.draw
  let (sa, s) := s.draw
  let (uc, s) := s.draw
  let (ua, s) := s.draw
  let (ratio, s) := s.roundDiv (1000 * (sc.natAbs : Int)) sa.natAbs
  let s := s.modModel m (fun x => { x with candidates := x.candidates + 1, sRatio := ratio, uCand := uc.natAbs % 100001, uAct := ua.natAbs % 100001 })
  let x := s.model m
  if x.training.mode = 3 ∧ 1000 * sc.natAbs ≤ sa.natAbs * (1000 - x.training.margin) ∧ x.uCand ≤ x.uAct ∧ s.isActive m then
    let g := min (x.gen + 1) 65535
    let s := s.promote m g
    let at_ := ((s.switches.getLast?).map (·.at_)).getD 0
    let s := s.modModel m (fun x => { x with promotions := x.promotions + 1 })
    s.raise .modelPromoted (oModel m) [m, s.get .trainTile m, s.versionOf m g, ratio, at_]
  else s

/-- CANDIDATE_EVALUATE (R397): with 4,096 held-out samples or more. -/
def execCandidateEvaluate (t : Ns) (m : Fin 64) (s : State) : Out :=
  let s := s.tick t
  let m := m.val
  .next (if !s.due .candidate m then s
    else if !(s.trains m && decide (2 ≤ (s.model m).training.mode)) then s.disarm .candidate m
    else
      let s := (s.disarm .candidate m).armCandidate m
      if (s.model m).ring / 8 < 4096 then s else s.scoreCandidate m)

/-! ### Switches (R382, R398, R399) -/

/-- A slot follows its bindings: ACTIVE with a domain, LOADED without (Table 9.10). -/
def State.followBindings (s : State) (m : Nat) : State :=
  let n := (s.boundTo m).length
  if n = 0 ∧ s.isActive m then (s.setSlot m slLoaded).disarm .candidate m
  else s

/-- Bindings change at the switch instant (R382). -/
def State.applyBinding (s : State) (m mask : Nat) (at_ : Ns) : State :=
  let st := s.get .modelState m
  if st ≠ slLoaded ∧ st ≠ slActive ∧ st ≠ slDemoted then s
  else
    let old := slots
    let s := s.each s.domainsDeclared (fun s d =>
      let was := s.slotOf d
      let now : Option Nat := if mask.testBit d then some m else if was = some m then none else was
      if now = was then s
      else
        let s := (s.put .fcSlot d (match now with | some k => (k : Int) | none => 4294967295)).modFc d (fun x => { x with
          fresh := true, hist := [], samples := [] })
        if now = none then s.dropForecast d else s)
    let s : State := if st = slDemoted then (s.modModel m (fun x => { x with gen := 0, rollback := none })).showVersion m else s
    let s := s.modModel m Model.fresh
    let n := (s.boundTo m).length
    let s := s.setSlot m (if n = 0 then slLoaded else slActive)
    let s := s.each old State.followBindings
    let s : State := if (s.shelf.get {} m).bytes.isEmpty then s
      else { s with shelf := s.shelf.put {} m { s.shelf.get {} m with mask } }
    (s.armCandidate m).raise .modelActivated (oModel m) [m, n, s.get .modelVersion m, at_]

/-- A generation comes into use (R398, R399). -/
def State.applyGen (s : State) (m gen : Nat) : State :=
  if !s.isActive m then s
  else
    let s := s.modModel m (fun x => { x with
      rollback := if x.gen < gen then some x.gen else none, gen, bad := [0, 0, 0]
      shelfDue := x.shelfDue || (decide (x.gen < gen) && decide (x.training.persist = 1)) })
    s.showVersion m

/-- MODEL_SWITCH_INSTANT (R382): what has waited for its instant applies, in CSN order. -/
def execModelSwitchInstant (t : Ns) (s : State) : Out :=
  let s := s.tick t
  let due := s.switches.filter (fun x => decide (x.at_ ≤ s.now))
  let s : State := { s with switches := s.switches.filter (fun x => !decide (x.at_ ≤ s.now)) }
  .next (s.each due (fun s x =>
    match x.mask, x.gen with
    | some mask, _ => s.applyBinding x.slot mask x.at_
    | none, some g => s.applyGen x.slot g
    | none, none => s))

/-! ### Error windows (R399) -/

/-- The window of one slot on one tile ends. -/
def State.endWindow (s : State) (m t : Nat) : State :=
  let x := s.model m
  let em := x.errM.getD t 0
  let ep := x.errP.getD t 0
  let s := s.modModel m (fun x => { x with errM := x.errM.set t 0, errP := x.errP.set t 0 })
  if ep = 0 ∨ !s.isActive m then s
  else
    let (ratio, s) := s.whole (1000 * em / ep)
    let above := decide ((s.get .demoteRatio m : Rat) * ep < 1000 * em)
    let run := if above then x.bad.getD t 0 + 1 else 0
    let s := s.modModel m (fun x => { x with ratio := x.ratio.set t ratio, bad := x.bad.set t run })
    if run < s.getN .rollbackWindows m then s
    else if x.gen = 0 then s.demote m 0
    else
      let dest := x.rollback.getD 0
      let from_ := s.get .modelVersion m
      let s := s.promote m dest
      let s := s.modModel m (fun x => { x with bad := [0, 0, 0], rollbacks := x.rollbacks + 1 })
      s.raise .modelRollback (oModel m) [m, t, from_, s.versionOf m dest, ratio]

/-- ERROR_WINDOW (R399): every 10 ms. -/
def execErrorWindow (t : Ns) (s : State) : Out :=
  let s := s.tick t
  .next (if s.now % (10 * ms) ≠ 0 then s
    else s.each (slots.filter s.isActive) (fun s m => s.each s.tilesIn (fun s x => s.endWindow m x)))

/-! ### The shelf (R380, R400) -/

/-- A container is on the shelf (R379): its slot becomes LOADED, and its END completes. -/
def State.modelLoaded (s : State) (m : Nat) (o : Origin) : State :=
  let b := (s.model m).parts.flatMap (·.2)
  let x := s.model m
  let s : State := match x.holder with | some h => s.unhold h | none => s
  let s := s.placeModel m b
  let s : State := if x.keep then { s with shelf := s.shelf.put {} m { bytes := b, training := (s.model m).training } } else s
  s.complete o .modelLoaded .ok [m, slLoaded, s.get .modelVersion m]

/-- A write of the shelf has completed (R739). -/
def State.nandModel (s : State) (m : Nat) : State :=
  match (s.model m).ending with
  | some o => s.modelLoaded m o
  | none => s

/-- SHELF_WEIGHT_WRITE (R400): a promoted weight set goes to the shelf, at most once per 60 s. -/
def execShelfWeightWrite (t : Ns) (m : Fin 64) (s : State) : Out :=
  let s := s.tick t
  let x := s.model m.val
  .next (if x.shelfDue ∧ x.training.persist = 1 ∧ (x.shelfAt.all (fun at_ => decide (at_ + 60 * sec ≤ s.now)))
      ∧ !(s.shelf.get {} m.val).bytes.isEmpty then
      let s := s.modModel m.val (fun x => { x with shelfDue := false, shelfAt := some s.now })
      { s with shelf := s.shelf.put {} m.val { s.shelf.get {} m.val with gen := x.gen, training := x.training } }
    else s)

/-- The status of R379 for a container, and the offset of its first fault. -/
def State.checkModel (s : State) (m : Nat) (b : List Nat) (total : Nat) : Status × Nat :=
  if b.length ≠ total then (.fcLoadIncomplete, 0)
  else match cFault b with
  | some o => (.fcContainerInvalid, o)
  | none =>
    if !s.verifies b (cSig b) [0, 1, 2, 3, 4, 5] false then (.fcSignature, 0)
    else if (cSvn b : Int) < s.get .fcSvnFloor then (.fcSvn, 0)
    else
      let others := ((slots.filter (· ≠ m)).map (fun k => cWeightBytes (s.model k).bytes)).sum
      if 24 * 1048576 < others + cWeightBytes b then (.fcTooLarge, 0) else (.ok, 0)

/-- A shelf container is loaded again, with its trained weights where their MAC, a free value, verifies; its binding comes
back at `at_` (R380, R400). -/
def State.restoreShelf (s : State) (at_ : Ns) (m : Nat) : State :=
  let x := s.shelf.get {} m
  if (s.checkModel m x.bytes x.bytes.length).1 ≠ .ok then s
  else
    let s := s.placeModel m x.bytes
    let (mac, s) := s.draw
    let s := (s.modModel m (fun y => { y with training := x.training, gen := if mac % 2 = 1 then x.gen else 0 })).showVersion m
    if x.mask = 0 then s
    else { s with switches := s.switches ++ [{ at_, csn := s.journal.assigned, slot := m, mask := some x.mask }] }

/-- SHELF_RESTORE (R380, R400): once Main and Mizzen are ready or fenced, every shelf container is loaded again, and its
binding comes back at the next step boundary. -/
def execShelfRestore (t : Ns) (s : State) : Out :=
  let s := s.tick t
  let ready := [1, 2].all (fun x => decide (s.member.tiles ≤ x) || s.inService x || decide (s.var .tilePhase x = 4))
  .next (if s.flag .shelfDone ∨ s.get .powerState ≠ psRunning ∨ !ready ∨ !(s.member.features false).testBit 2 then s
    else
      let s := s.setV .shelfDone 0 1
      let step := max 2000 s.fcStep
      let at_ := (s.now + step - 1) / step * step
      s.each (slots.filter (fun m => !(s.shelf.get {} m).bytes.isEmpty && decide (s.get .modelState m = slEmpty)))
        (fun s m => s.restoreShelf at_ m))

/-! ### Opcodes (Table 9.14) -/

/-- Whether a request comes from the holder of a load. -/
def sameHolder (o h : Origin) : Bool :=
  if o.session = 0 ∧ h.session = 0 then decide (o.binding = h.binding) else decide (o.session = h.session)

/-- LOAD_MODEL (R378, Table 9.9). -/
def doLoadModel (a : Arrival) (x : LoadParams) (s : State) : State × Res :=
  let o := s.originOf a .loadModel
  let m := objIdx a.hdr.object
  let y := s.model m
  let st := s.get .modelState m
  if objCls a.hdr.object ≠ 0x13 then (s, .st .badParam)
  else if y.holder.any (fun h => !sameHolder o h) then (s, .st .busy)
  else match a.hdr.property, x with
  | 0, .start total persist auto =>
    if 1 < persist ∨ total = 0 ∨ auto ≠ 0 then (s, .st .badParam)
    else if persist = 1 ∧ s.nandLost then (s, .st .notPresent)
    else if 4194304 < total then (s, .st .fcTooLarge)
    else if st ≠ slEmpty ∧ st ≠ slLoaded then (s, .st .fcSlotState)
    else
      let s := s.dropPromotion m |>.modModel m (fun y => { y with
        holder := some o, prior := st.toNat, total, keep := persist = 1, parts := [] })
      ((s.hold o [oModel m]).setSlot m slLoading, .st .ok)
  | 1, .data off bytes =>
    if st ≠ slLoading then (s, .st .fcSlotState)
    else if bytes.isEmpty ∨ 4024 < bytes.length ∨ y.total < off + bytes.length
        ∨ y.parts.any (fun p => overlaps p.1 p.2.length off bytes.length) then (s, .st .badParam)
    else
      let ins := fun (l : List (Nat × List Nat)) => l.filter (fun p => decide (p.1 < off)) ++ [(off, bytes)]
        ++ l.filter (fun p => decide (off < p.1))
      (s.modModel m (fun y => { y with parts := ins y.parts }), .st .ok)
  | 2, .none =>
    if st ≠ slLoading then (s, .st .fcSlotState)
    else ((s.modModel m (fun y => { y with ending := some o })).setSlot m slVerifying, .accepted [])
  | 3, .none => if st ≠ slLoading then (s, .st .fcSlotState) else (s.unload m, .st .ok)
  | _, _ => (s, .st .badParam)

def execLoadModel (a : Arrival) (x : LoadParams) (s : State) : Out := .next (s.request a (.loadModel x) (doLoadModel a x))

/-- MODEL_VERIFY_DONE (R379): END completes with the first check that fails; a container that passes is placed, after it
is on the shelf where PERSIST is 1. -/
def execModelVerifyDone (t : Ns) (m : Fin 64) (s : State) : Out :=
  let s := s.tick t
  let m := m.val
  .next (match (s.model m).ending with
    | some o =>
      if s.get .modelState m ≠ slVerifying ∨ .model m ∈ s.nandWrites then s
      else
        let x := s.model m
        let (st, off) := if x.keep ∧ s.nandLost then (.notPresent, 0) else s.checkModel m (x.parts.flatMap (·.2)) x.total
        if st ≠ .ok then
          let v := s.get .modelVersion m
          (s.unload m).complete o .modelLoaded st [m, x.prior, v] off
        else if x.keep then { s with nandWrites := s.nandWrites ++ [.model m] }
        else s.modelLoaded m o
    | none => s)

/-- ACTIVATE_MODEL (R382, R389). -/
def doActivateModel (a : Arrival) (mask : Nat) (s : State) : State × Res :=
  let m := objIdx a.hdr.object
  let st := s.get .modelState m
  if objCls a.hdr.object ≠ 0x13 then (s, .st .badParam)
  else if st ≠ slLoaded ∧ st ≠ slActive ∧ st ≠ slDemoted then (s, .st .fcSlotState)
  else if (List.range 256).any (fun d => mask.testBit d && !s.hasDomain d) then (s, .st .badParam)
  else match s.noCapacity m mask with
  | some (t, c, cost) => (s, .done .fcNoCapacity [u8 t, u8 c, rsv 2, u32 cost])
  | none =>
    let at_ := s.switchInstant
    ({ s with switches := s.switches ++ [{ at_, csn := s.replyCsn (s.originOf a .activateModel), slot := m, mask := some mask }] }, .done .ok [u64 at_])

def execActivateModel (a : Arrival) (mask : Nat) (s : State) : Out := .next (s.request a (.activateModel mask) (doActivateModel a mask))

/-- RETIRE_MODEL (R383). -/
def doRetireModel (a : Arrival) (s : State) : State × Res :=
  let m := objIdx a.hdr.object
  let st := s.get .modelState m
  if objCls a.hdr.object ≠ 0x13 then (s, .st .badParam)
  else if (st ≠ slLoaded ∧ st ≠ slDemoted) ∨ !(s.boundTo m).isEmpty then (s, .st .fcSlotState)
  else ({ (s.dropPromotion m).emptySlot m with shelf := s.shelf.put {} m {} }, .st .ok)

def execRetireModel (a : Arrival) (s : State) : Out := .next (s.request a .retireModel (doRetireModel a))

/-- Latest 2 µs mean of a domain, mA. -/
def State.measured (s : State) (d : Nat) : Rat :=
  let l := (s.dom d).currents.take 4
  if l.isEmpty then 0 else ((l.sum : Int) : Rat) / ((l.length : Int) : Rat)

/-- One value that all of a list agree on; where they differ, a free value (Table 9.12 on ACCEL). -/
def State.agreed (s : State) (l : List Int) (none_ : Int) : Int × State :=
  match l with
  | [] => (none_, s)
  | x :: xs => if xs.all (· = x) then (x, s) else s.draw

/-- Values rounded one after another. -/
def State.wholes (s : State) : List Rat → List Int × State
  | [] => ([], s)
  | q :: rest =>
    let (x, s) := s.whole q
    let (xs, s) := s.wholes rest
    (x :: xs, s)

/-- The table a forecast query returns (Table 9.12) for a domain: T_J, SLOT, QFLAGS, VERSION, F, MEASURED. -/
def State.domainForecast (s : State) (d : Nat) : List Fld × State :=
  let x := s.fcDom d
  let shed := (s.slotOf d).any (fun m => (s.regDom d).any (fun t => (s.varN .fcShed t).testBit m))
  let flags : Nat := (if x.valid then 1 else 0) + (if x.valid && decide (0 < x.missRun) then 2 else 0) + (if shed then 4 else 0)
  let (m, s) := s.whole (s.measured d)
  ([u64 x.at_, u16 ((s.slotOf d).getD 0xFFFF : Nat), u16 flags, u32 x.version]
    ++ (List.range 8).map (fun h => u32 (s.var .forecast (8 * d + h))) ++ [u32 m, rsv 4], s)

/-- The same for an accelerator: sums over its enabled domains, in mW (R402). -/
def State.accelForecast (s : State) (a : Nat) : List Fld × State :=
  let ds := (s.domainsOfAccel a).filter (fun d => decide ((s.dom d).mode ≠ .stopped))
  let ok (d : Nat) : Bool := (s.fcDom d).valid && s.flag .forecastOk d
  let volts (d : Nat) : Rat := (s.get .setpoint d : Rat) / 1000000
  let f (h : Nat) : Rat := (ds.map (fun d => (if ok d then (s.var .forecast (8 * d + h) : Rat) else s.measured d) * volts d)).sum
  let shed := ds.any (fun d => (s.slotOf d).any (fun m => (s.regDom d).any (fun t => (s.varN .fcShed t).testBit m)))
  let flags : Nat := (if ds.any ok then 1 else 0) + (if ds.any (fun d => ok d && decide (0 < (s.fcDom d).missRun)) then 2 else 0)
    + (if shed then 4 else 0) + (if ds.any (fun d => !ok d) then 8 else 0)
  let (slot, s) := s.agreed (ds.map (fun d => (((s.slotOf d).getD 0xFFFF : Nat) : Int))) 0xFFFF
  let (v, s) := s.agreed (ds.map (fun d => ((s.fcDom d).version : Int))) 0
  let (fs, s) := s.wholes ((List.range 8).map f)
  let (m, s) := s.whole (ds.map (fun d => s.measured d * volts d)).sum
  ([u64 (s.varN .fcTj : Nat), u16 slot, u16 flags, u32 v] ++ fs.map u32 ++ [u32 m, rsv 4], s)

/-- QUERY_FORECAST (R402). -/
def doQueryForecast (a : Arrival) (s : State) : State × Res :=
  let o := a.hdr.object
  if objCls o = 0x03 then let (r, s) := s.domainForecast (objIdx o); (s, .done .ok r)
  else if objCls o = 0x02 then let (r, s) := s.accelForecast (objIdx o); (s, .done .ok r)
  else (s, .st .badParam)

def execQueryForecast (a : Arrival) (s : State) : Out := .next (s.request a .queryForecast (doQueryForecast a))

/-- A field of SET_TRAINING: 0 takes the default, else it keeps to its range and step. -/
def trainField (v dflt lo hi step : Nat) : Option Nat :=
  if v = 0 then some dflt else if lo ≤ v ∧ v ≤ hi ∧ v % step = 0 then some v else none

/-- SET_TRAINING (R396). -/
def doSetTraining (a : Arrival) (mode persist lr drift under margin interval sample : Nat) (s : State) : State × Res :=
  let m := objIdx a.hdr.object
  let b := (s.model m).bytes
  if objCls a.hdr.object ≠ 0x13 ∨ 3 < mode ∨ 1 < persist then (s, .st .badParam)
  else if mode ≠ 0 ∧ (b.isEmpty ∨ !cTrainable b) then (s, .st .fcSlotState)
  else if mode ≠ 0 ∧ ! [0, 1, 2].any s.tileStacks then (s, .st .fcNoStore)
  else match trainField lr (lrDefault b) 1 (lrMax b) 1, trainField drift (driftLimit b) 1 (driftLimit b) 1,
      trainField under 20 10 (underMax b) 1, trainField margin 20 1 500 1,
      trainField interval 10000 1000 3600000 1000, trainField sample 256 16 65536 16 with
  | some lr, some drift, some under, some margin, some interval, some sample =>
    let old := (s.model m).training
    let new : Training := { mode, persist, lr, drift, under, margin, interval, sample }
    let s := s.modModel m (fun x => { x with training := new })
    let s : State := if (s.shelf.get {} m).bytes.isEmpty then s
      else { s with shelf := s.shelf.put {} m { s.shelf.get {} m with training := new } }
    let s := (s.disarm .candidate m).armCandidate m
    (s.when (old.mode ≠ mode) (fun s => s.trainingEvent m old.mode mode 0), .st .ok)
  | _, _, _, _, _, _ => (s, .st .badParam)

def execSetTraining (a : Arrival) (mode persist lr drift under margin interval sample : Nat) (s : State) : Out :=
  .next (s.request a (.setTraining mode persist lr drift under margin interval sample)
    (doSetTraining a mode persist lr drift under margin interval sample))

/-- READ_MODEL_STATS (R403). -/
def doReadModelStats (a : Arrival) (s : State) : State × Res :=
  let m := objIdx a.hdr.object
  let x := s.model m
  if objCls a.hdr.object ≠ 0x13 then (s, .st .badParam)
  else if s.get .modelState m = slEmpty then (s, .st .fcSlotState)
  else
    let shed := ([0, 1, 2].map (fun t => if (s.varN .fcShed t).testBit m then 2 ^ t else 0)).sum
    let cost (t : Nat) : Nat :=
      let n := ((s.boundTo m).filter (fun d => s.regDom d = some t)).length
      if n = 0 then 0 else cCostFor x.bytes n
    let rows := ((List.range (cTagRows x.bytes)).filter (fun i => i = 0 ∨ (cTagRow x.bytes i).2 = 1)).length + x.tags.length
    (s, .done .ok ([u8 (s.get .modelState m), u8 x.training.mode, u8 (if [0, 1, 2].any s.tileStacks then s.get .trainTile m else 0xFF),
      u8 shed, u32 (s.get .modelVersion m), u32 (match x.rollback with | some g => s.versionOf m g | none => 0),
      u16 (s.boundTo m).length, u16 rows, u16 (cost 0), u16 (cost 1), u16 (cost 2), rsv 2]
      ++ x.ratio.map u32 ++ [u32 x.misses, u64 x.samples, u64 x.dropped, u64 x.minibatches, u32 x.candidates, u32 x.promotions,
      u32 x.rollbacks, u32 x.sRatio, u32 x.uCand, u32 x.uAct, u32 x.faults, rsv 4]))

def execReadModelStats (a : Arrival) (s : State) : Out := .next (s.request a .readModelStats (doReadModelStats a))

/-! ### Properties with rows of their own (Table 9.16) -/

/-- A write of TRAIN_TILE (R392, R401): training restarts there with an empty ring. -/
def setTrainTile (v : Int) (m : Nat) (s : State) : State × Res :=
  if !s.tileStacks v.toNat then (s, .st .badParam)
  else
    let old := s.get .trainTile m
    let s := s.windowed (fun s => s.put .trainTile m v)
    let mode := (s.model m).training.mode
    (if old ≠ v ∧ 1 ≤ mode then
      (s.modModel m (fun x => { x with ring := 0, store := [], tags := [] })).trainingEvent m mode mode 2
     else s, .st .ok)

def execWriteTrainTile (a : Arrival) (v : Int) (s : State) : Out := .next (s.write a .trainTile v (setTrainTile v))

/-- A write of FC_SVN_FLOOR (R384): it only rises. -/
def setFcSvnFloor (v : Int) (i : Nat) (s : State) : State × Res :=
  if v < s.get .fcSvnFloor i then (s, .st .badParam) else (s.put .fcSvnFloor i v, .st .ok)

def execWriteFcSvnFloor (a : Arrival) (v : Int) (s : State) : Out := .next (s.write a .fcSvnFloor v (setFcSvnFloor v))

end Sys2Proof.Machine
end

