-- ==== Sys2Proof/Machine/Gantline.lean ====
section
/-! DEFINITION. Gantline transports, sessions and events to the host (chapter 3): the PCIe rings, the session
commands, notices and time limits. -/

namespace Sys2Proof.Machine

/-! ### Sessions (R119–R122) -/

/-- A session ends (R121): its watches, subscriptions and buffer go with it, its commands run on without one. -/
def State.endSession (s : State) (id cause : Nat) : State :=
  let eths := ((s.session id).map (·.bindings)).getD []
  let s := { s with sessions := s.sessions.filter (fun x => x.id ≠ id) }.dropLoads id |>.dropProgramLoads id
  let s := if cause = 1 then s.each eths (fun (s : State) b => match b with | .eth p n => s.closeEth p n | _ => s) else s
  (s.disarm .sessionIdle id |>.disarm .eventNotice id).raise .sessionClosed oDevice [id, cause]

/-- SESSION_TIMEOUT (R121). -/
def execSessionTimeout (t : Ns) (id : Nat) (s : State) : Out :=
  let s := s.tick t
  .next (if s.due .sessionIdle id && (s.session id).isSome then s.endSession id 1 else s)

/-- KEEPALIVE (R121, R486): it keeps the session alive and, from a host-class session, feeds the host-silence timer. -/
def doKeepalive (a : Arrival) (s : State) : State × Res :=
  (s.when a.binding.cls.isHost State.hostAlive, .st .ok)

def execKeepalive (a : Arrival) (s : State) : Out := .next (s.request a .keepalive (doKeepalive a))

/-- Move a binding to a session (R120). -/
def State.bind (s : State) (b : Binding) (id : Nat) : State :=
  { s with sessions := s.sessions.map (fun x =>
      if x.id = id then { x with bindings := x.bindings.filter (· ≠ b) ++ [b] }
      else { x with bindings := x.bindings.filter (· ≠ b) }) }

/-- HELLO (R120). -/
def doHello (a : Arrival) (id token : Nat) (s : State) : State × Res :=
  match s.session id with
  | some x =>
    if x.token = token then
      ((s.bind a.binding id).arm .sessionIdle id (s.getN .sessionTimeout * sec), .st .ok)
    else (s, .st .unknownSession)
  | none => (s, .st .unknownSession)

def execHello (a : Arrival) (id token : Nat) (s : State) : Out := .next (s.request a (.hello id token) (doHello a id token))

/-- CLOSE (R121). -/
def doClose (a : Arrival) (s : State) : State × Res :=
  match s.sessionAt a.binding with
  | some x => (s.endSession x.id 0, .st .ok)
  | none => (s, .st .noSession)

def execClose (a : Arrival) (s : State) : Out := .next (s.request a .close (doClose a))

/-- RECALL (R122): u16 outcome, final status (0xFFFF where there is none), and the CSN of the commit. A request that the
window of 1,024 does not hold was never admitted while the window is not full, and is older than it once it is. -/
def doRecall (a : Arrival) (port queue tag : Nat) (s : State) : State × Res :=
  match s.sessionAt a.binding with
  | none => (s, .st .noSession)
  | some x =>
    match x.recent.find? (fun r => r.port = port && r.queue = queue && r.tag = tag) with
    | some r => (s, .done .ok [u16 r.phase, u16 (if r.phase = 3 then r.status else 0xFFFF), rsv 4, u64 r.csn])
    | none => (s, .done .ok [u16 (if x.recent.length < 1024 then 0 else 4), u16 0xFFFF, rsv 4, u64 0])

def execRecall (a : Arrival) (port queue tag : Nat) (s : State) : Out :=
  .next (s.request a (.recall port queue tag) (doRecall a port queue tag))

/-! ### Subscriptions, buffers, notices (R141–R145, R228) -/

/-- A mask without the gated events whose feature a session has not negotiated (R228). -/
def gateMask (features mask : Nat) : Nat :=
  (List.range 1024).foldl (fun acc n =>
    if mask.testBit n && eventOpen features n then acc ||| 1 <<< n else acc) 0

/-- SUBSCRIBE (R141, R228): PROPERTY 0 replaces the mask, 1 adds to it, 2 removes from it. -/
def doSubscribe (a : Arrival) (mask : Nat) (s : State) : State × Res :=
  match s.sessionAt a.binding with
  | none => (s, .st .noSession)
  | some x =>
    let full := 2 ^ 1024 - 1
    let mask := mask % 2 ^ 1024
    let set := fun m => (s.modSession x.id (fun x => { x with mask := gateMask x.features m }), Res.st .ok)
    match a.hdr.property with
    | 0 => set mask
    | 1 => set (x.mask ||| mask)
    | 2 => set (x.mask &&& (full ^^^ mask))
    | _ => (s, .st .badParam)

def execSubscribe (a : Arrival) (mask : Nat) (s : State) : Out := .next (s.request a (.subscribe mask) (doSubscribe a mask))

/-- A record as Table 3.23 lays it out, 64 bytes. -/
def EventRec.fields (r : EventRec) : List Fld :=
  [u16 r.num, u8 ((if r.lostBefore then 2 else 0) + (if r.safety then 4 else 0)), u8 (recordLen r.payload), u32 r.src, u64 r.stamp,
   u64 r.csn, u32 r.seq, rsv 4] ++ r.payload ++ (if recordLen r.payload < 32 then [rsv (32 - recordLen r.payload)] else [])

/-- Records as a variable array (R100): a u32 count, and four bytes that bring the first record's u64 fields to multiples of eight
(log entry 239). -/
def eventArray (l : List EventRec) : List Fld := [u32 l.length, rsv 4] ++ l.flatMap EventRec.fields

/-- READ_EVENTS (R143): records below the acknowledge sequence are released, backlogged safety records take the freed
space, and the oldest unreleased records are returned. -/
def doReadEvents (a : Arrival) (ack count : Nat) (s : State) : State × Res :=
  match s.sessionAt a.binding with
  | none => (s, .st .noSession)
  | some x =>
    if count = 0 ∨ 63 < count then (s, .st .badParam)
    else
      let s := s.modSession x.id (fun x => { x with buffer := x.buffer.filter (fun r => decide (ack ≤ r.seq)) })
      let s := s.drainBacklog x.id
      let l := ((s.session x.id).map (·.buffer)).getD [] |>.take count
      let upTo := match l.getLast? with | some r => r.seq + 1 | none => x.readTo
      (s.modSession x.id (fun x => { x with readTo := max x.readTo upTo }), .done .ok (eventArray l))

def execReadEvents (a : Arrival) (ack count : Nat) (s : State) : Out :=
  .next (s.request a (.readEvents ack count) (doReadEvents a ack count))

/-- EVENT_NOTICE's packet: a reply header with TAG 0 and ST_OK, and the records (R143). -/
def State.noticePacket (s : State) (l : List EventRec) : Reply :=
  { opcode := 0x0F03, tag := 0, queue := 0, object := oDevice, status := 0, results := eventArray l
    commitCsn := s.journal.committed, doneTime := s.now, final := true, safety := false }

/-- EVENT_NOTICE (R143): up to 63 records not yet carried by a notice go to the session's Ethernet bindings; notices
are not retransmitted. Records left over leave with the next notice, which is due at once. -/
def execEventNotice (t : Ns) (id : Nat) (s : State) : Out :=
  let s := s.tick t
  .next (match s.session id with
    | some x =>
      if (s.timer .eventNotice id).isSome then
        let l := x.buffer.filter (fun r => decide (x.noticed ≤ r.seq))
        let recs := l.take 63
        let s := s.each (x.bindings.filter (fun b => b.cls = .ethernet)) (fun s b =>
          match b with | .eth p n => (s.ethSent p.val n (s.noticePacket recs).packet.length).send (.reply b (s.noticePacket recs)) | _ => s)
        let upTo := match recs.getLast? with | some r => r.seq + 1 | none => x.noticed
        let s := (s.modSession id (fun x => { x with noticed := upTo })).disarm .eventNotice id
        if 63 < l.length then s.arm .eventNotice id 0 else s
      else s
    | none => s)

/-! ### Packets that fail (R101, Table 3.5) -/

/-- ST_INTERNAL with a detail word, for a packet that was discarded (Table 3.5). -/
def State.crcReply (s : State) (tag word : Nat) : Reply :=
  { opcode := 0, tag, queue := 0, object := 0, status := Status.internal.code, results := [u32 word]
    commitCsn := s.journal.committed, doneTime := s.now, final := true, safety := false }

/-- A packet of another transport than a ring fails its CRC (R101, Table 3.5): nothing is executed. A Burin engine
or firmware source receives ST_INTERNAL, whose detail names the engine, 0xFFFF for firmware (Table 19.6). -/
def execGantlineCrcError (t : Ns) (b : Binding) (tag : Nat) (s : State) : Out :=
  let s := s.tick t
  .next (match hostPort b, b with
    | some p, _ => s.crcError p
    | none, .burin e => { s with mail := s.mail ++ [(e.val, s.crcReply tag (0x03C00000 + e.val))] }
    | none, .firmware => s.send (.reply b (s.crcReply tag 0x03C0FFFF))
    | none, _ => s)

/-! ### PCIe rings (R111–R115) -/

/-- An endpoint of this member whose tile runs, so that its registers take writes, whether READY is set or not; a write of one whose tile does
not is lost: the model's choice (log entry 240). -/
def State.epUp (s : State) (ep : Nat) : Bool :=
  s.member.hostPort ep && (decide (s.var .tilePhase (s.tileFor (1 + ep)) = 2) || s.tiled (1 + ep)) &&
    !s.flag .islandDown (16 * s.tileFor (1 + ep) + 4)

/-- READY of GL_STATUS (Table 3.15): the endpoint's tile has joined the journal, and its PCIe island is not held in reset (R85). -/
def State.epReady (s : State) (ep : Nat) : Bool := s.member.hostPort ep && s.tiled (1 + ep) && !s.flag .islandDown (16 * s.tileFor (1 + ep) + 4)

/-- Requests of a queue pair that are outstanding, and those of them not yet dispatched (R109, R113). -/
def State.qpOutstanding (s : State) (ep : Fin 2) (q : Nat) : Nat :=
  (s.outst.filter (fun o => o.admitted && o.origin.binding = .ring ep && o.origin.queue = q)).length

def State.qpWaiting (s : State) (ep : Fin 2) (q : Nat) : Nat :=
  (s.waiting.filter (fun w => w.arr.binding = .ring ep && w.arr.queue = q)).length

/-- SQ_DOORBELL (R113, R115): a write of SQ_TAIL. -/
def execSqDoorbell (t : Ns) (ep : Fin 2) (q : Fin 64) (tail : Nat) (s : State) : Out :=
  let s := s.tick t
  .next (if !s.epUp ep.val then s
    else if ((s.endpoint ep.val).qp q.val).sizeM1 < tail % 256 then s.queueError ep.val q.val 4
    else s.modQp ep.val q.val (fun x => { x with sqTail := tail % 256 }))

/-- An entry of a queue pair could be fetched (R113): enabled without error, entries announced, fewer than SIZE_M1 + 1 outstanding
and 16 undispatched. -/
def State.qpReady (s : State) (ep : Fin 2) (q : Nat) : Bool :=
  let x := (s.endpoint ep.val).qp q
  x.enable && decide (x.error = 0) && decide (x.fetch ≠ x.sqTail) && decide (s.qpOutstanding ep q < x.sizeM1 + 1)
    && decide (s.qpWaiting ep q < 16)

/-- The queue pair whose turn is next in round robin (R113): the first ready one after the one whose turn it was. -/
def State.nextTurn (s : State) (ep : Fin 2) : Option Nat :=
  ((List.range 64).map (fun k => ((s.var .sqTurnQ ep.val + 1 + k) % 64).toNat)).find? (fun q => s.qpReady ep q)

/-- The endpoint may fetch an entry of a queue pair now (R113): the one whose turn it is, for at most 8 entries, or the one whose turn
is next. -/
def State.mayFetch (s : State) (ep : Fin 2) (q : Nat) : Bool :=
  s.epReady ep.val && s.qpReady ep q &&
    ((decide (s.var .sqTurnQ ep.val = q) && decide (s.varN .sqTurnN ep.val < 8)) || decide (s.nextTurn ep = some q))

/-- CQ_DOORBELL (R111, R115): consumed completion slots are freed, and outcomes that waited for one are reported. -/
def execCqDoorbell (t : Ns) (ep : Fin 2) (q : Fin 64) (head : Nat) (s : State) : Out :=
  let s := s.tick t
  .next (if !s.epUp ep.val then s
    else
      let x := (s.endpoint ep.val).qp q.val
      let head := head % 256
      if x.sizeM1 < head then s.queueError ep.val q.val 4
      else
        let freed := (head + (x.sizeM1 + 1) - x.cqHead) % (x.sizeM1 + 1)
        (s.modQp ep.val q.val (fun x => { x with cqHead := head, unread := x.unread - freed })).flush)

/-- Where records of an endpoint's sessions wait, freed space takes them, and what they held back is reported (R144, R145). -/
def State.drainAll (s : State) : State := (s.each (s.sessions.map (·.id)) State.drainBacklog).flush

/-- EVQ_DOORBELL (R143, R144): event-ring space is freed; backlogged safety records take it first. A value equal to the one before
frees nothing, also where every slot is unread: the model's choice (log entry 241). -/
def execEvqDoorbell (t : Ns) (ep : Fin 2) (head : Nat) (s : State) : Out :=
  let s := s.tick t
  .next (if !s.epUp ep.val then s
    else
      let e := s.endpoint ep.val
      let size := e.evqSize
      let freed := (head % size + size - e.evqHead % size) % size
      (s.modEndpoint ep.val (fun e => { e with evqHead := head % size, evqUnread := e.evqUnread - freed })).drainAll)

/-- QP_ENABLE (R113, R115): QP_CONFIG is written with ENABLE 1. An enable of a ring of one entry, with a vector past 63 or a base that
is not 64-byte aligned, or at an endpoint that is not READY (Table 3.15, log entry 240), is invalid. -/
def execQpEnable (t : Ns) (ep : Fin 2) (q : Fin 64) (vector sizeM1 : Nat) (s : State) : Out :=
  let s := s.tick t
  let x := (s.endpoint ep.val).qp q.val
  let set (s : State) : State := s.modQp ep.val q.val (fun x => { x with vector := vector % 256, sizeM1 := sizeM1 % 256, enable := true })
  .next (if !s.epUp ep.val then s
    else if x.enable then set s
    else if !s.epReady ep.val || decide (sizeM1 % 256 = 0) || decide (63 < vector % 256) || decide (x.sqBase % 64 ≠ 0)
        || decide (x.cqBase % 64 ≠ 0) then (set s).queueError ep.val q.val 1
    else (set s).modQp ep.val q.val (fun x => { x with
      error := 0, sqTail := 0, fetch := 0, cqTail := 0, cqHead := 0, unread := 0, phase := true }))

/-- A queue pair is disabled (R114): fetching stops, and fetched requests not yet dispatched are discarded
unexecuted; RECALL reports them as never admitted. -/
def State.disableQp (s : State) (ep : Fin 2) (q : Nat) : State :=
  let drop := s.waiting.filter (fun w => w.arr.binding = .ring ep && w.arr.queue = q)
  let isDropped (o : Outst) : Bool := drop.any (fun w => o.origin.binding = Binding.ring ep && o.origin.queue = q
    && o.origin.tag = w.arr.hdr.tag && o.reply.isNone)
  let s := s.each (s.outst.filter isDropped) (fun s o => s.noteRecent o.origin 0 0 0)
  let s := { s with
    waiting := s.waiting.filter (fun w => !(decide (w.arr.binding = Binding.ring ep) && decide (w.arr.queue = q)))
    outst := s.outst.filter (fun o => !isDropped o) }
  (s.modQp ep.val q (fun x => { x with enable := false, error := 0 })).flush

/-- QP_DISABLE (R114). -/
def execQpDisable (t : Ns) (ep : Fin 2) (q : Fin 64) (s : State) : Out :=
  let s := s.tick t
  .next (if ((s.endpoint ep.val).qp q.val).enable then s.disableQp ep q.val else s)

/-- ENABLED and DRAINING of QP_STATUS (Table 3.18): a disabled pair drains while a completion entry is left to write. -/
def State.qpDraining (s : State) (ep : Fin 2) (q : Nat) : Bool :=
  !((s.endpoint ep.val).qp q).enable && s.outst.any (fun o => decide (o.dest = .ring ep) && decide (o.origin.queue = q))

/-- QP_STATUS (Table 3.18). -/
def State.qpStatus (s : State) (ep : Fin 2) (q : Nat) : Nat :=
  let x := (s.endpoint ep.val).qp q
  x.error * 256 + (if s.qpDraining ep q then 3 else if x.enable && x.error = 0 then 1 else 0)

/-- GL_STATUS (Table 3.15). -/
def State.glStatus (s : State) (ep : Nat) : Nat :=
  s.leader * 256 + (if (s.endpoint ep).resetBusy then 2 else 0) + (if s.epReady ep then 1 else 0)

/-- GL_ID (Table 3.13): major 2, minor 0 (R224), the endpoint's tile, 64 queue pairs. -/
def glId (ep : Nat) : Nat := 2 * 2 ^ 24 + 0 * 2 ^ 16 + (1 + ep) * 2 ^ 8 + 64

/-- The offset of a register in BAR0 (Table 3.12). -/
def BarReg.offset : BarReg → Nat
  | .glId => 0 | .glControl => 4 | .glStatus => 8 | .evqBase => 0x10 | .evqConfig => 0x18
  | .sqBase q => 0x1000 + 0x40 * q.val | .cqBase q => 0x1008 + 0x40 * q.val | .qpConfig q => 0x1010 + 0x40 * q.val
  | .qpStatus q => 0x1014 + 0x40 * q.val | .sqTail q => 0x2000 + 8 * q.val | .cqHead q => 0x2004 + 8 * q.val
  | .evqHead => 0x2200 | .msix i => 0x3000 + 4 * i.val | .pba => 0x3800 | .reserved n => n

/-- What a read of a BAR0 register returns (Tables 0.6, 3.12–3.18); WO and reserved registers read zero here. -/
def State.barRead (s : State) (ep : Fin 2) (r : BarReg) : Nat :=
  let e := s.endpoint ep.val
  match r with
  | .glId => glId ep.val
  | .glControl => if e.evqEnable then 2 else 0
  | .glStatus => s.glStatus ep.val
  | .evqBase => e.evqBase
  | .evqConfig => e.evqVector * 2 ^ 16 + e.evqSizeLog2
  | .sqBase q => (e.qp q.val).sqBase
  | .cqBase q => (e.qp q.val).cqBase
  | .qpConfig q => (if (e.qp q.val).enable then 2 ^ 31 else 0) + (e.qp q.val).vector * 2 ^ 16 + (e.qp q.val).sizeM1
  | .qpStatus q => s.qpStatus ep q.val
  | .sqTail _ | .cqHead _ | .evqHead | .reserved _ => 0
  | .msix i => e.msixTable.get 0 i.val
  | .pba => e.msixPending

/-- RESET_QUEUES (R114): every queue pair and the event ring of the endpoint; the session stays bound. RESET_BUSY reads 1 while a pair
drains. -/
def execResetQueues (t : Ns) (ep : Fin 2) (s : State) : Out :=
  let s := s.tick t
  .next (if !s.epUp ep.val then s
    else
      let s := s.modEndpoint ep.val (fun e => { e with evqEnable := false, resetBusy := true })
      let s := s.each (List.range 64) (fun s q => if ((s.endpoint ep.val).qp q).enable then s.disableQp ep q else s)
      (s.resetDone ep.val).drainAll)

/-- EVQ_ENABLE (R143, Table 3.14): event delivery of the binding moves to the ring, from its first slot and with PHASE
1, or back to the session's buffer; either has room for records that wait (R144). -/
def execEvqEnable (t : Ns) (ep : Fin 2) (on : Bool) (s : State) : Out :=
  let s := s.tick t
  .next (if !s.epUp ep.val then s
    else (s.modEndpoint ep.val (fun e =>
      if on && !e.evqEnable then { e with evqEnable := true, evqTail := 0, evqHead := 0, evqUnread := 0, evqPhase := true }
      else { e with evqEnable := on })).drainAll)

/-- A word of the MSI-X table is written: a vector that is unmasked and pending is signalled. -/
def State.msixWrite (s : State) (ep i v : Nat) : State :=
  let s := s.modEndpoint ep (fun e => { e with msixTable := e.msixTable.put 0 i v })
  let k := i / 4
  if i % 4 = 3 ∧ !v.testBit 0 ∧ (s.endpoint ep).msixPending.testBit k then
    (s.modEndpoint ep (fun e => { e with msixPending := e.msixPending - 2 ^ k })).send (.msix ep k)
  else s

/-- REGISTER_WRITE (R17, Table 3.12): the RW fields of a BAR0 register that has no row of its own; a write of an RO
or reserved register is ignored. QP_CONFIG stands here for a write that leaves ENABLE as it is; GL_CONTROL and the doorbells have rows
of their own. -/
def execRegisterWrite (t : Ns) (ep : Fin 2) (r : BarReg) (v : Nat) (s : State) : Out :=
  let s := s.tick t
  .next (if !s.epUp ep.val then s
    else match r with
    | .evqBase => s.modEndpoint ep.val (fun e => { e with evqBase := v / 64 * 64 % 2 ^ 64 })
    | .evqConfig => (s.modEndpoint ep.val (fun e => { e with evqVector := v / 65536 % 256, evqSizeLog2 := v % 16 })).drainAll
    | .sqBase q => s.modQp ep.val q.val (fun x => { x with sqBase := v / 64 * 64 % 2 ^ 64 })
    | .cqBase q => s.modQp ep.val q.val (fun x => { x with cqBase := v / 64 * 64 % 2 ^ 64 })
    | .qpConfig q => s.modQp ep.val q.val (fun x => { x with vector := v / 65536 % 256, sizeM1 := v % 256 })
    | .msix i => s.msixWrite ep.val i.val (v % 2 ^ 32)
    | _ => s)

/-! ### Limits on waiting (R117) -/

/-- MCTP_INTERIM_TIMEOUT (R117): no final outcome 80 ms after dispatch: the reply is ST_ACCEPTED, and the request
completes by event later. -/
def execMctpInterimTimeout (t : Ns) (b : Binding) (tag : Nat) (s : State) : Out :=
  let s := s.tick t
  .next (match s.outst.find? (fun o => o.origin.binding = b && o.origin.tag = tag && o.reply.isNone) with
    | some o =>
      if o.dueMctp.any (fun d => decide (d ≤ s.now)) then
        let s := { s with running := s.running ++ [o.origin] }
        let s := s.modSession o.origin.session (fun x => { x with running := x.running + 1 })
        s.answer o.origin .accepted [] (s.replyCsn o.origin) false
      else s
    | none => s)

end Sys2Proof.Machine
end

