-- ==== Sys2Proof/Machine/Reading.lean ====
section
/-! DEFINITION. Reading properties: GET_PROP, GET_SNAPSHOT and watches (R137, R139, R140). -/

namespace Sys2Proof.Machine

/-- SRC_STATUS (Table 13.11). -/
def State.srcStatus (s : State) (n t : Nat) : Nat :=
  let x := s.src n t
  let held := decide (0 < x.pending) && x.assigned.isNone && (s.moderated n t || !cfgEnable (s.cfg n t) || s.ecHeld t)
  min x.pending 255 * 2 ^ 24 + (if x.overflow then 2 ^ 23 else 0) + (if x.repend then 2 ^ 22 else 0) + (if held then 2 ^ 21 else 0)
    + (match x.assigned with | some e => 2 ^ 20 + e % 16 * 2 ^ 16 | none => 0) + s.activeOn n t % 256 * 256 + x.lost

/-- The number a property reads as. Counters, states and statuses that follow from other state are formed at the read;
a write-only property reads as 0. -/
def State.readNum (s : State) (o : ObjId) (p : P) (i : Nat) (session : Nat := 0) : Int :=
  match p with
  | .lastCsn => s.lastCsnOf o
  | .commonTime => s.now
  | .timeError => s.timeError
  | .masthead => if s.var .rootSerial = 0 then s.var .serial else s.var .rootSerial
  | .maintenance => s.secondsTo .maintenance 0
  | .softPend => 0
  | .thermalCeiling => s.ceilingOf i
  | .level => s.armedLevel i
  | .logNext => (s.log.first + s.log.held.length : Nat)
  | .logFirst => s.log.first
  | .logCursor => match s.session session with | some x => x.cursor | none => 0
  | .railStatus => s.railStatus i
  | .keyState => s.keyState i
  | .srcStatus => s.srcStatus (i / 3) (i % 3)
  | .fcStep => s.fcStep
  | .window => s.windowMs
  | .streamRate => s.streamMb
  | .stippleSpan => (s.stipple.length * s.getN .stippleInterval / 1000 : Nat)
  | .stackState => (s.varN .stacksUp &&& s.stackMask i : Nat)
  | .spareRowsFree => s.spareLowest i
  | .fcBudget => if s.fcStep = 0 then 0 else s.fcBudget
  | .fcLoad => s.fcLoad i
  | _ => s.get p i

/-- The capability block (Table 5.14). -/
def State.capFields (s : State) : List Fld :=
  layFields ([2, 2, 1, 1, 1, 1, 2, 2] ++ List.replicate 15 1 ++ [1, 4, 4, 4, 2, 2, 2, -18]) s.capability

/-- A record of the long event log (Tables 19.8, 11.3): furl and cut records stand as they were formed. -/
def LogRec.fields (r : LogRec) : List Fld :=
  if r.type = 0x242 ∨ r.type = 0x243 then r.payload
  else withCrc ([u16 r.type, u16 1, u32 r.src, u64 r.stamp, u64 r.csn, u8 (if r.safety then 4 else 0), u8 r.tile,
    u8 (recordLen r.payload), rsv 1] ++ r.payload ++ (if recordLen r.payload < 32 then [rsv (32 - recordLen r.payload)] else []))

/-- LOG_RECORDS (R737): up to 62 records from the session's cursor, or from the oldest held. -/
def State.logFields (s : State) (session : Nat) : List Fld :=
  let cursor := match s.session session with | some x => x.cursor | none => 0
  let start := max cursor s.log.first
  let l := (s.log.held.drop (start - s.log.first)).take 62
  [u64 start, u32 l.length, rsv 4] ++ l.flatMap LogRec.fields

/-- The value of a property in the property's type (R137). -/
def State.propFields (s : State) (o : ObjId) (p : P) (i : Nat) (session : Nat) : List Fld :=
  match p with
  | .capability => s.capFields
  | .logRecords => s.logFields session
  | _ => [⟨p.desc.bytes, s.readNum o p i session⟩]

/-- GET_PROP (R137). -/
def doGetProp (a : Arrival) (s : State) : State × Res :=
  match findProp a.hdr.object a.hdr.property with
  | none => (s, .st .propUnknown)
  | some p =>
    let id := match s.sessionAt a.binding with | some x => x.id | none => 0
    (s, .done .ok (s.propFields a.hdr.object p (propIndex a.hdr.object p a.hdr.property) id))

def execGetProp (a : Arrival) (s : State) : Out := .next (s.request a .getProp (doGetProp a))

/-- One item of a snapshot (R139): its own status, and its value where that is ST_OK. -/
def State.snapItem (s : State) (x : Option Session) (m : SnapItem) : Status × List Fld :=
  match s.checkPresence x m.object ((findProp m.object m.property).bind propFeature).toList with
  | .ok =>
    if m.rsv ≠ 0 then (.badParam, [])
    else match findProp m.object m.property with
      | none => (.propUnknown, [])
      | some p => (.ok, s.propFields m.object p (propIndex m.object p m.property) (match x with | some x => x.id | none => 0))
  | st => (st, [])

/-- An item as the result lays it out: u16 status, u16 length, the value padded to four bytes. -/
def itemFields (r : Status × List Fld) : List Fld :=
  let n := recordLen r.2
  [u16 r.1.code, u16 n] ++ r.2 ++ (if n % 4 = 0 then [] else [rsv (4 - n % 4)])

/-- The first whole microsecond at least 2 µs after an instant (R139). -/
def latchAfter (t : Ns) : Ns := (t + 2 * us + us - 1) / us * us

/-- GET_SNAPSHOT (R139): the reply is formed at the latch instant L. -/
def doGetSnapshot (a : Arrival) (items : List SnapItem) (s : State) : State × Res :=
  if items.length = 0 ∨ 256 < items.length then (s, .st .badParam)
  else
    let t := s.tick (latchAfter s.now)
    let body := items.flatMap (fun m => itemFields (t.snapItem (t.sessionAt a.binding) m))
    if 4060 < 16 + recordLen body then (s, .st .snapshotTooLarge)
    else (t, .done .ok ([u64 t.now, u32 items.length, rsv 4] ++ body))

def execGetSnapshot (a : Arrival) (items : List SnapItem) (s : State) : Out :=
  .next (s.request a (.getSnapshot items) (doGetSnapshot a items))

/-! ### Watches (R140) -/

/-- WATCH (R140): watch ID 0 makes a new watch, minimum interval 0 removes one. The model's choice (log entry 242): a watch that has not
reported has as its last reported value and instant those of its creation; an ID the session has, with an interval, aims that watch anew
and keeps what it last reported; an ID it has not, and ID 0 with interval 0, are ST_BAD_PARAM. -/
def doWatch (a : Arrival) (id minUs : Nat) (delta : Int) (maxUs : Nat) (s : State) : State × Res :=
  match s.sessionAt a.binding, findProp a.hdr.object a.hdr.property with
  | none, _ => (s, .st .noSession)
  | _, none => (s, .st .propUnknown)
  | some x, some p =>
    let i := propIndex a.hdr.object p a.hdr.property
    if minUs ≠ 0 ∧ (minUs < 100 ∨ 60000000 < minUs) then (s, .st .badParam)
    else if p.desc.bytes > 8 then (s, .st .badParam)
    else if id = 0 then
      if minUs = 0 then (s, .st .badParam)
      else if 256 ≤ x.watches.length ∨ 4096 ≤ (s.sessions.map (·.watches.length)).sum then (s, .st .watchFull)
      else
        let n := s.varN .nextWatch
        let w : Watch := { id := n, object := a.hdr.object, prop := p, index := i, minUs, delta, maxUs
                           last := s.readNum a.hdr.object p i x.id, lastAt := s.now }
        ((s.countV .nextWatch 0).modSession x.id (fun x => { x with watches := x.watches ++ [w] }), .done .ok [u32 n])
    else if !x.watches.any (fun w => w.id = id) then (s, .st .badParam)
    else if minUs = 0 then
      (s.modSession x.id (fun x => { x with watches := x.watches.filter (fun w => w.id ≠ id) }), .done .ok [u32 id])
    else
      (s.modSession x.id (fun x => { x with watches := x.watches.map (fun w =>
        if w.id = id then { w with object := a.hdr.object, prop := p, index := i, minUs, delta, maxUs } else w) }),
       .done .ok [u32 id])

def execWatch (a : Arrival) (id minUs : Nat) (delta : Int) (maxUs : Nat) (s : State) : Out :=
  .next (s.request a (.watch id minUs delta maxUs) (doWatch a id minUs delta maxUs))

/-- The conditions of a watch hold (R140). -/
def State.watchHolds (s : State) (session : Nat) (w : Watch) : Bool :=
  let v := s.readNum w.object w.prop w.index session
  (decide (w.delta.natAbs < (v - w.last).natAbs) || (decide (w.maxUs ≠ 0) && decide (w.lastAt + w.maxUs * us ≤ s.now)))
    && decide (w.lastAt + w.minUs * us ≤ s.now)

/-- WATCH_REPORT (R140): the watch's value is reported and becomes its last reported one. -/
def execWatchReport (t : Ns) (session id : Nat) (s : State) : Out :=
  let s := s.tick t
  .next (match s.session session with
    | some x => match x.watches.find? (fun w => w.id = id) with
      | some w =>
        if s.watchHolds session w then
          let v := s.readNum w.object w.prop w.index session
          let s := s.modSession session (fun x => { x with watches := x.watches.map (fun y =>
            if y.id = id then { y with last := v, lastAt := s.now } else y) })
          s.raise .propertyChanged w.object [id, w.object, w.prop.desc.code, v]
        else s
      | none => s
    | none => s)

end Sys2Proof.Machine
end

