-- ==== Sys2Proof/Machine/Recorder.lean ====
section
/-! DEFINITION. The flight recorder: triggers and freezes, the stipple history, exports (R647–R662). -/

namespace Sys2Proof.Machine

/-! ### Freezing (R651–R653) -/

/-- FROZEN at Z: the capture runs from the oldest slot the ring holds to the last slot before Z. -/
def State.freeze (s : State) (z : Ns) : State :=
  let old := s.get .recState
  let s := s.closeFrame
  let oldest := match s.recorder.frames.getLast? with | some f => f.slot * 500 | none => (z - 1) / 500 * 500
  let s := ((s.put .recState 0 3).put .captureStart 0 ((oldest : Nat) : Int)).put .captureEnd 0 (((z - 1) / 500 * 500 : Nat) : Int)
  let s : State := { s with recorder := { s.recorder with z, frozenAt := s.now } }
  (s.disarm .recFreeze 0).raise .recorderState oRecorder [old, 3, z]

/-- The capture is discarded, and the recorder records again. -/
def State.resume (s : State) : State :=
  let old := s.get .recState
  let s : State := { s with recorder := { start := s.now, pos := s.recorder.pos, seenCsn := s.journal.committed, seenEvents := s.raised.length } }
  ((s.put .recState 0 1).put .captureStart 0 0 |>.put .captureEnd 0 0 |>.setV .recTriggers 0 0 |>.disarm .recFreeze 0).raise .recorderState
    oRecorder [old, 1, 0]

/-- RECORDER_FREEZE_INSTANT (R651). -/
def execRecorderFreezeInstant (t : Ns) (s : State) : Out :=
  let s := s.tick t
  .next (match s.timer .recFreeze with
    | some z => if s.due .recFreeze ∧ s.get .recState = 2 then s.freeze z else s
    | none => s)

/-- AUTO_RELEASE_EXPIRY (R651). -/
def execAutoReleaseExpiry (t : Ns) (s : State) : Out :=
  let s := s.tick t
  .next (if s.get .recState = 3 ∧ s.get .autoRelease ≠ 0 ∧ s.recorder.frozenAt + s.getN .autoRelease * sec ≤ s.now ∧ s.exports.isEmpty then
      s.resume else s)

/-- TRIGGER_RECORDER (R652): Z, or 0 where the trigger is logged only. -/
def doTriggerRecorder (a : Arrival) (post : Nat) (s : State) : State × Res :=
  if objCls a.hdr.object ≠ 0x17 ∨ (post ≠ 0xFFFFFFFF ∧ (16000 < post ∨ post % 100 ≠ 0)) then (s, .st .badParam)
  else if s.get .recState = 0 then (s, .st .recState)
  else
    let first := decide (s.get .recState = 1)
    let d := if post = 0xFFFFFFFF then s.getN .postTrigger * ms else post * ms
    (s.recTrigger 0x3FF s.now d, .done .ok [u64 (if first then (s.now + d : Nat) else 0)])

def execTriggerRecorder (a : Arrival) (post : Nat) (s : State) : Out :=
  .next (s.request a (.triggerRecorder post) (doTriggerRecorder a post))

/-- FREEZE_RECORDER (R651): a FROZEN recorder answers with its Z. -/
def doFreezeRecorder (a : Arrival) (s : State) : State × Res :=
  if objCls a.hdr.object ≠ 0x17 then (s, .st .badParam)
  else if s.get .recState = 0 then (s, .st .recState)
  else if s.get .recState = 3 then (s, .done .ok [u64 s.recorder.z])
  else (s.freeze s.now, .done .ok [u64 s.now])

def execFreezeRecorder (a : Arrival) (s : State) : Out := .next (s.request a .freezeRecorder (doFreezeRecorder a))

/-- RELEASE_RECORDER (R651): where nothing is captured there is nothing to release. -/
def doReleaseRecorder (a : Arrival) (s : State) : State × Res :=
  if objCls a.hdr.object ≠ 0x17 then (s, .st .badParam)
  else if 2 ≤ s.get .recState then (s.resume, .st .ok)
  else (s, .st .ok)

def execReleaseRecorder (a : Arrival) (s : State) : Out := .next (s.request a .releaseRecorder (doReleaseRecorder a))

/-! ### Stipple history (R654, R658) -/

/-- Fields of a size with the values of a list. -/
def fieldsOf (size : Nat) (l : List Int) : List Fld := l.map (fun v => ⟨size, v⟩)

/-- The mean, the largest and the smallest of a meter's samples of this interval; with no sample, what stands now (log entry 189). -/
def State.meanOf (s : State) (m : Nat) (present : Rat) : Rat :=
  let x := s.recorder.meters.get {} m
  if x.n = 0 then present else x.sum / (x.n : Nat)
def State.highOf (s : State) (m : Nat) (present : Rat) : Rat := let x := s.recorder.meters.get {} m; if x.n = 0 then present else x.high
def State.lowOf (s : State) (m : Nat) (present : Rat) : Rat := let x := s.recorder.meters.get {} m; if x.n = 0 then present else x.low

/-- A meter has a sample of this interval. -/
def State.metered (s : State) (m : Nat) : Bool := decide (0 < (s.recorder.meters.get {} m).n)

/-- An accelerator's entry of a stipple frame (Table 16.10). -/
def State.stippleAccel (s : State) (a : Nat) : List Fld × State :=
  let power := s.atInput (s.outputPower a 1)
  let freq : Rat := ((s.telemetry.get {} a).freq : Nat)
  let (v, s) := s.wholes [s.meanOf (meterPower a) power, s.highOf (meterPower a) power,
    s.meanOf (meterGrant a) (s.get .grant (nodeAccel a)), s.meanOf (meterDemand a) (s.get .demand (nodeAccel a))]
  let (f, s) := s.wholes [s.meanOf (meterFreq a) freq, s.lowOf (meterFreq a) freq]
  let (h, s) := s.wholes [s.highOf (meterHot a) noReading, s.highOf (meterReef a) (s.get .reefLevel a)]
  let seen := ((List.range 8).map (fun b => if s.metered (meterSource a b) then 2 ^ b else 0)).sum
  (fieldsOf 4 (v ++ [s.ceilingOf a, h.getD 0 0]) ++ fieldsOf 2 f ++
    fieldsOf 1 [h.getD 1 0, (seen : Nat), s.get .lockState a, s.get .seqState a] ++ [rsv 32], s)

/-- A domain's entry of a stipple frame (Table 16.10). -/
def State.stippleDomain (s : State) (d : Nat) : List Fld × State :=
  let i := s.get .domainCurrent d
  let (v, s) := s.wholes [s.meanOf (meterCurrent d) i, s.highOf (meterCurrent d) i, s.meanOf (meterVolt d) ((s.dom d).volt / 1000),
    s.meanOf (meterActive d) ((s.legsIn d legActive).length : Nat)]
  let flags : Nat := (if d ∈ s.recorder.planned then 1 else 0) + (if s.metered (meterFault d) then 2 else 0)
  (fieldsOf 4 (v.take 2) ++ fieldsOf 2 ((v.drop 2).take 1) ++ fieldsOf 1 (v.drop 3 ++ [(flags : Int)]), s)

/-- The stipple frame of this instant (Table 16.10). How its means are rounded is not said: one of the two nearest, which one is a free
value. -/
def State.stippleNow (s : State) : StippleFrame × State :=
  let (p, s) := s.wholes [s.meanOf meterInput (s.get .inputPower), s.highOf meterInput (s.get .inputPower)]
  let tray := [s.get .pAux, s.get .cap nodeTray]
  let flow := [s.get .totalFlow, s.get .supplyTemp, s.get .returnTemp, s.get .guardBand]
  let join (f : State → Nat → List Fld × State) (x : List Fld × State) (k : Nat) : List Fld × State := let (l, s) := f x.2 k; (x.1 ++ l, s)
  let (accels, s) := (List.range 8).foldl (join State.stippleAccel) ([], s)
  let (therm, s) := s.wholes ((List.range 144).map (fun k =>
    if s.metered (meterThermal (72 + k)) then s.meanOf (meterThermal (72 + k)) 0 / 100 else -32768))
  let sec0 := [u64 s.now, u64 s.journal.committed, u32 (s.get .stippleInterval * 1000), rsv 44] ++ fieldsOf 4 p ++ fieldsOf 4 tray ++
    fieldsOf 4 flow ++ [rsv 32] ++ accels ++ fieldsOf 2 therm ++ [rsv 96]
  let (low, s) := (List.range 128).foldl (join State.stippleDomain) ([], s)
  let (high, s) := ((List.range 256).drop 128).foldl (join State.stippleDomain) ([], s)
  ({ at_ := s.now, sections := [sec0, low, high] }, s)

/-- STIPPLE_FRAME (R654): the ring of 12 GiB holds 3,145,728 frames. -/
def execStippleFrame (t : Ns) (s : State) : Out :=
  let s := s.tick t
  .next (if s.due .stipple ∧ s.get .recState ≠ 0 then
      let (f, s) := s.stippleNow
      (({ s with stipple := (f :: s.stipple).take 3145728 } : State).newInterval).arm .stipple 0 (s.getN .stippleInterval * ms)
    else s)

/-- WRITE_STIPPLE_INTERVAL (R660): the ring restarts. -/
def setStippleInterval (v : Int) (_ : Nat) (s : State) : State × Res :=
  let s : State := State.newInterval { s.put .stippleInterval 0 v with stipple := [] }
  (if s.get .recState = 0 then s else s.arm .stipple 0 (v.toNat * ms), .st .ok)

def execWriteStippleInterval (a : Arrival) (v : Int) (s : State) : Out := .next (s.write a .stippleInterval v (setStippleInterval v))

/-- READ_STIPPLE (R658). -/
def doReadStipple (a : Arrival) (start section_ count : Nat) (s : State) : State × Res :=
  if objCls a.hdr.object ≠ 0x17 ∨ 2 < section_ ∨ count = 0 ∨ (if section_ = 0 then 3 else 2) < count then (s, .st .badParam)
  else
    let l := (s.stipple.reverse.filter (fun f => decide (start ≤ f.at_))).take count
    match l with
    | [] => (s, .st .recRange)
    | f :: _ => (s, .done .ok ([u64 f.at_, u16 l.length, rsv 2, rsv 4] ++ l.flatMap (fun f => f.sections.getD section_ [])))

def execReadStipple (a : Arrival) (start section_ count : Nat) (s : State) : Out :=
  .next (s.request a (.readStipple start section_ count) (doReadStipple a start section_ count))

/-! ### Exports (R655–R657) -/

/-- The endpoint whose DMA a binding reaches. -/
def dmaPort : Binding → Option Nat
  | .ring e | .vdm e => some e.val
  | _ => none

/-- An instant lies in an export's range; a LAST of 0 is the end of what is held. -/
def inRange (first last at_ : Nat) : Bool := decide (first ≤ at_) && (decide (last = 0) || decide (at_ ≤ last))

/-- The export header (Table 16.9): 4 KiB. -/
def State.exportHeader (s : State) (content first last : Nat) : List Nat :=
  let r := s.recorder
  let fill (n : Nat) (l : List Fld) : List Fld := l ++ (if recordLen l < n then [rsv (n - recordLen l)] else [])
  let pairs (n : Nat) (l : List (Nat × Nat)) : List Fld := fill (16 * n) ((l.take n).flatMap (fun x => [u64 x.1, u64 x.2]))
  recordBytes ([u32 0x5245434B, u16 1, u8 content, u8 r.triggers.length, u64 (s.get .captureStart), u64 (s.get .captureEnd), u64 first, u64 last,
    u64 (s.var .serial), u32 r.gaps.length, u32 r.poisoned.length, rsv 8]
    ++ fill 256 (r.triggers.flatMap (fun x => [u64 x.1, u16 x.2, rsv 2, rsv 4])) ++ pairs 128 r.gaps ++ pairs 108 r.poisoned)

/-- The content of an export in time order, each piece with its instant (R656): of the capture's slots the frames and decision records
asked for, and stipple frames. -/
def State.exportParts (s : State) (content first last : Nat) : List (Ns × List Nat) :=
  let slots := if content % 4 = 0 then [] else s.recorder.frames.filter (fun f => inRange first last (f.slot * 500))
  let stipples := if content.testBit 2 then s.stipple.filter (fun f => inRange first last f.at_) else []
  sortBy (fun (x y : Ns × List Nat) => decide (x.1 ≤ y.1))
    (slots.map (fun f => (f.slot * 500, (if content.testBit 0 then f.bytes else []) ++ (if content.testBit 1 then f.records.flatMap recordBytes else [])))
      ++ stipples.map (fun f => (f.at_, f.sections.flatMap recordBytes)))

/-- What an export writes: the header and the content; nothing where nothing is in range (R656). -/
def State.exportData (s : State) (content first last : Nat) : List Nat :=
  match s.exportParts content first last with
  | [] => []
  | l => s.exportHeader content first last ++ l.flatMap (·.2)

/-- The messages of an export on PATH 1. -/
def exportCount (x : Export) : Nat := (exportTotal x + 4095) / 4096

/-- Messages leave while fewer than 64 are unacknowledged (R657). -/
def State.exportPump (s : State) (x : Export) : State :=
  let n := min (64 - x.open_.length) (exportCount x - x.next)
  let seqs := (List.range n).map (fun i => x.next + i)
  let s := s.each seqs (fun s q => s.ratTree 3 0x62 x.addr x.serial ([(x.id : Int), (q : Nat), (4096 * q : Nat), (min 4096 (exportTotal x - 4096 * q) : Nat)]
    ++ ((x.data.drop (4096 * q)).take 4096).map (fun (b : Nat) => (b : Int))))
  { s with exports := s.exports.map (fun y => if y = x then { x with next := x.next + n, open_ := x.open_ ++ seqs } else y) }

/-- An export ends. -/
def State.exportDone (s : State) (x : Export) (st : Status) (bytes : Nat) : State :=
  ({ s with exports := s.exports.erase x } : State).complete x.origin .recorderExported st [bytes]

/-- EXPORT_RECORDER (R655, R656). -/
def doExportRecorder (a : Arrival) (path content id first last taddr serial : Nat) (bufs : List (Nat × Nat)) (s : State) : State × Res :=
  let o := s.originOf a .exportRecorder
  let room := (bufs.map (·.2)).sum
  if objCls a.hdr.object ≠ 0x17 ∨ 2 < path ∨ content = 0 ∨ 7 < content ∨ (path ≠ 1 ∧ (bufs.isEmpty ∨ 64 < bufs.length)) then (s, .st .badParam)
  else if path ≠ 1 ∧ ((dmaPort a.binding).isNone ∨ bufs.any (fun b => decide (b.1 % 4096 ≠ 0 ∨ b.2 % 4096 ≠ 0 ∨ b.2 = 0))) then
    (s, .st .recBufferInvalid)
  else if path ≠ 2 ∧ ((content % 4 ≠ 0 ∧ s.get .recState ≠ 3) ∨ s.get .recState = 0) then (s, .st .recState)
  else
    let s := s.hold o [oRecorder]
    if path = 2 then
      ({ s with exports := s.exports ++ [{ origin := o, path, content, id, room, heard := s.now }] }, .accepted [])
    else
      let x : Export := { origin := o, path, content, id, addr := taddr, serial, room, data := s.exportData content first last, since := s.now
                          heard := s.now }
      let s : State := { s with exports := s.exports ++ [x] }
      (if path = 1 then s.exportPump x else s, .accepted [])

def execExportRecorder (a : Arrival) (path content id first last taddr serial : Nat) (bufs : List (Nat × Nat)) (s : State) : Out :=
  .next (s.request a (.exportRecorder path content id first last taddr serial bufs)
    (doExportRecorder a path content id first last taddr serial bufs))

/-- EXPORT_COMPLETE (R656, R657): an export that had nothing in range, a DMA export at the pace of EXPORT_RATE, and one over
Ratline that has heard nothing for REMOTE_TIMEOUT. -/
def execExportComplete (t : Ns) (k : Nat) (s : State) : Out :=
  let s := s.tick t
  .next (match s.exports[k]? with
    | some x =>
      if x.path ≠ 2 ∧ exportTotal x = 0 then s.exportDone x .recRange 0
      else if x.path = 0 then
        if s.exported x < min (exportTotal x) x.room then s
        else
          let s := s.dma x
          if x.room < exportTotal x then s.exportDone x .recBufferFull x.room
          else s.exportDone x .ok (exportTotal x)
      else if x.heard + s.getN .remoteTimeout * us ≤ s.now then s.exportDone x .ratOutcomeUnknown x.got
      else s
    | none => s)

/-- EXPORT_DATA (R657): the destination writes it and acknowledges; a message that the buffers do not hold fills them. -/
def execExportData (t : Ns) (src serial id seq offset len : Nat) (s : State) : Out :=
  let s := s.tick t
  .next (match s.exports.find? (fun x => x.path = 2 ∧ x.id = id) with
    | some x =>
      let full := decide (x.room < offset + len)
      let s := s.ratTree 3 0x63 src serial [id, seq, if full then Status.recBufferFull.code else 0]
      if full then s.exportDone x .recBufferFull (min x.room (max x.got offset))
      else { s with exports := s.exports.map (fun y => if y = x then { x with got := x.got + len, heard := s.now } else y) }
    | none => s)

/-- EXPORT_ACK (R657): the window advances; with everything acknowledged EXPORT_END goes out. -/
def execExportAck (t : Ns) (id seq status : Nat) (s : State) : Out :=
  let s := s.tick t
  .next (match s.exports.find? (fun x => x.path = 1 ∧ x.id = id ∧ seq ∈ x.open_) with
    | some x =>
      if status ≠ 0 then s.exportDone x .recBufferFull x.got
      else
        let y : Export := { x with open_ := x.open_.filter (· ≠ seq), heard := s.now, got := x.got + min 4096 (exportTotal x - 4096 * seq) }
        let s : State := { s with exports := s.exports.map (fun z => if z = x then y else z) }
        if y.open_.isEmpty ∧ exportCount y ≤ y.next then
          (s.ratTree 3 0x64 y.addr y.serial [y.id, (exportTotal y : Nat), 0]).exportDone y .ok (exportTotal y)
        else s.exportPump y
    | none => s)

/-- EXPORT_END (R657). -/
def execExportEnd (t : Ns) (id bytes status : Nat) (s : State) : Out :=
  let s := s.tick t
  .next (match s.exports.find? (fun x => x.path = 2 ∧ x.id = id) with
    | some x => s.exportDone x (if status = 0 then .ok else .ratOutcomeUnknown) (if status = 0 then bytes else x.got)
    | none => s)

end Sys2Proof.Machine
end

