-- ==== Sys2Proof/Machine/Bus.lean ====
section
/-! DEFINITION. The commands of the controller ports (R607–R623, R629–R636). -/

namespace Sys2Proof.Machine

/-! ### Requests (R614, R615, R629–R632) -/

/-- A port's object, or what its request is refused with (R634). -/
def ctrlPort (o : ObjId) : Except Status Nat :=
  if objCls o ≠ 0x0E then .error .badParam else if 32 ≤ objIdx o then .error .busNotController else .ok (objIdx o)

/-- A request names a far-segment device while the switch is open (Table 15.5). -/
def State.farBlocked (s : State) (p : Nat) (txns : List (List BusSeg)) : Bool :=
  s.switchOpen p && txns.any (fun l => l.any (fun x => (s.device p x.addr).any (·.far)))

/-- A request joins its owner's FIFO, or is refused by the port's state. -/
def State.queueBus (s : State) (a : Arrival) (op : Op) (p : Nat) (work : BusWork) (txns : List (List BusSeg)) (retries : Nat) : State × Res :=
  if s.farBlocked p txns then (s, .st .busIsolated)
  else if s.portState p = busFailed then (s, .st .busStuck)
  else
    let r : BusReq := { owner := busOwner a.binding, origin := some (s.originOf a op), csn := s.replyCsn (s.originOf a op), work, txns, retries, since := s.now }
    ((s.modBus p (fun b => { b with queue := b.queue ++ [r] })).countQueued p, .later)

/-- Maintenance mode and FORCE are both given (R632, R697). -/
def State.mayDisturb (s : State) (a : Arrival) : Bool := a.hdr.force && (s.timer .maintenance).isSome

/-- A write to a protected device is refused (R632). -/
def State.guards (s : State) (a : Arrival) (p addr : Nat) : Bool := (s.device p addr).any (·.guarded) && !s.mayDisturb a

/-- A segment's fields lie in range (Table 15.4). -/
def BusSeg.right (x : BusSeg) : Bool :=
  decide (x.addr < (if x.ten then 1024 else 128)) &&
  (if x.read then (if x.block then decide (x.len = 0) else decide (1 ≤ x.len) && decide (x.len ≤ 256))
   else decide (x.len ≤ 256) && decide (x.data.length = x.len))

/-- The segments from START to STOP. -/
def splitTxns : List BusSeg → List BusSeg → List (List BusSeg)
  | [], acc => if acc.isEmpty then [] else [acc]
  | x :: xs, acc => if x.stop then (acc ++ [x]) :: splitTxns xs [] else splitTxns xs (acc ++ [x])

/-- BUS_TRANSFER (R615). -/
def doBusTransfer (a : Arrival) (retries : Nat) (segs : List BusSeg) (s : State) : State × Res :=
  match ctrlPort a.hdr.object with
  | .error st => (s, .st st)
  | .ok p =>
    if segs.isEmpty ∨ 16 < segs.length ∨ (7 < retries ∧ retries ≠ 0xFF) ∨ !segs.all BusSeg.right ∨ !segs.getLast?.any (·.stop) then
      (s, .st .badParam)
    else if segs.any (fun x => !x.read && s.guards a p x.addr) then (s, .st .wouldDisturb)
    else s.queueBus a .busTransfer p .transfer (splitTxns segs []) (if retries = 0xFF then s.busRetries p else retries)

def execBusTransfer (a : Arrival) (retries : Nat) (segs : List BusSeg) (s : State) : Out :=
  .next (s.request a (.busTransfer retries segs) (doBusTransfer a retries segs))

/-- A read of a command's bytes as one transaction. -/
def readTxn (addr cmd len : Nat) (pec : Bool) : List BusSeg :=
  [{ addr, len := 1, data := [cmd], stop := false }, { addr, read := true, pec, len }]

/-- PAGE is written first where it is not 0xFF (R629). -/
def pageTxns (addr page : Nat) (pec : Bool) : List (List BusSeg) :=
  if page = 0xFF then [] else [[{ addr, len := 2, data := [0x00, page % 256], pec }]]

/-- PMBUS_READ (R629–R631). -/
def doPmbusRead (a : Arrival) (addr page code : Nat) (s : State) : State × Res :=
  match ctrlPort a.hdr.object, pmCommand code with
  | .error st, _ => (s, .st st)
  | .ok _, none => (s, .st .badParam)
  | .ok p, some (cmd, len) =>
    if 127 < addr then (s, .st .badParam)
    else
      let pec := (s.device p addr).any (·.pec)
      let txns := pageTxns addr page pec ++ (if code = 0 then [readTxn addr 0x20 1 pec] else []) ++ [readTxn addr cmd len pec]
      s.queueBus a .pmbusRead p (.pmRead addr code (decide (code = 0))) txns (s.busRetries p)

def execPmbusRead (a : Arrival) (addr page code : Nat) (s : State) : Out :=
  .next (s.request a (.pmbusRead addr page code) (doPmbusRead a addr page code))

/-- PMBUS_WRITE (R629, R632). -/
def doPmbusWrite (a : Arrival) (addr page code value : Nat) (s : State) : State × Res :=
  match ctrlPort a.hdr.object with
  | .error st => (s, .st st)
  | .ok p =>
    if 127 < addr ∨ code < 0x80 ∨ 0x81 < code then (s, .st .badParam)
    else if s.guards a p addr then (s, .st .wouldDisturb)
    else
      let pec := (s.device p addr).any (·.pec)
      s.queueBus a .pmbusWrite p .pmWrite (pageTxns addr page pec ++ [[{ addr, len := 2, data := [code - 0x7F, value % 256], pec }]])
        (s.busRetries p)

def execPmbusWrite (a : Arrival) (addr page code value : Nat) (s : State) : Out :=
  .next (s.request a (.pmbusWrite addr page code value) (doPmbusWrite a addr page code value))

/-! ### Configuration and recovery commands (R633, R634) -/

/-- An address a target port cannot take. -/
def badTarget (x : Nat) : Bool := decide (x < 8 ∨ x = 0x0C ∨ x = 0x61 ∨ 0x77 < x)

/-- A configuration block lies in range (Tables 15.8, 15.9). -/
def configRight (p : Nat) (b : List Nat) : Bool :=
  let f (off n : Nat) : Nat := leValue ((b.drop off).take n)
  let khz := f 2 2
  decide (b.length = 16) &&
  (if p < 32 then
    decide (f 0 1 ≤ 1) && decide (f 1 1 ≤ 2) &&
    (decide (khz = 0) || (match f 1 1 with
      | 0 => decide (10 ≤ khz ∧ khz ≤ 100) | 1 => decide (101 ≤ khz ∧ khz ≤ 400) | _ => decide (401 ≤ khz ∧ khz ≤ 1000))) &&
    decide (1 ≤ f 4 2 ∧ f 4 2 ≤ 100) && decide (1 ≤ f 6 2 ∧ f 6 2 ≤ 100) && decide (f 8 1 ≤ 7) && decide (25 ≤ f 9 1 ∧ f 9 1 ≤ 35) &&
    decide (10 ≤ f 10 2 ∧ f 10 2 ≤ 10000 ∧ f 10 2 % 10 = 0) && decide (10 ≤ f 12 2 ∧ f 12 2 ≤ 1000 ∧ f 12 2 % 10 = 0) && decide (f 14 2 = 0)
  else
    !badTarget (f 0 1) && !badTarget (f 1 1) && decide (f 0 1 ≠ f 1 1) && decide (f 2 1 ≤ 1) && (b.drop 3).all (· = 0))

/-- CONFIGURE_BUS (R633): the block takes effect when the bus is free. -/
def doConfigureBus (a : Arrival) (block : List Nat) (s : State) : State × Res :=
  let p := objIdx a.hdr.object
  if objCls a.hdr.object ≠ 0x0E ∨ !configRight p block then (s, .st .badParam)
  else if 32 ≤ p then (s.put .busConfig p (leValue block), .st .ok)
  else
    let s := s.modBus p (fun b => { b with config := some (leValue block) })
    (if s.portState p = busIdle then s.applyConfig p else s, .st .ok)

def execConfigureBus (a : Arrival) (block : List Nat) (s : State) : Out :=
  .next (s.request a (.configureBus block) (doConfigureBus a block))

/-- BUS_RECOVER (R634): it waits behind a transaction; 0 and 2 end with the recovery or with a bus found free, 1 once the
port is IDLE or FAILED. -/
def doBusRecover (a : Arrival) (s : State) : State × Res :=
  match ctrlPort a.hdr.object with
  | .error st => (s, .st st)
  | .ok p =>
    let k := a.hdr.property
    if 2 < k then (s, .st .badParam)
    else
      let o := s.originOf a .busRecover
      let running := (s.bus p).hold.isSome && !(s.bus p).paused
      if k = 1 ∧ !running ∧ s.portState p = busIdle then (s.setSwitch p true 1, .st .ok)
      else if k = 1 ∧ s.portState p = busFailed then ((s.setSwitch p true 1).busAnswer o (s.csnOf o) .busStuck [], .later)
      else
        let s := s.modBus p (fun b => { b with recCmds := b.recCmds ++ [{ origin := o, kind := k, csn := s.csnOf o, acted := false }] })
        (if running then s else s.actRec p, .later)

def execBusRecover (a : Arrival) (s : State) : Out := .next (s.request a .busRecover (doBusRecover a))

/-! ### Grants (R614) -/

/-- The owner classes in the order they are granted. -/
def grantOrder (i : Nat) : Nat := [0, 1, 0, 2].getD (i % 4) 0

/-- The request granted next, and the place in the order after it: the oldest aged one, else the oldest of the next class that
has one. -/
def State.nextGrant (s : State) (p : Nat) : Option (BusReq × Nat) :=
  let b := s.bus p
  match b.queue.find? (fun r => decide (r.since + s.ageBus p ≤ s.now)) with
  | some r => some (r, b.turn)
  | none => [0, 1, 2, 3].findSome? (fun k => (b.queue.find? (fun r => r.owner = grantOrder (b.turn + k))).map (fun r => (r, (b.turn + k + 1) % 4)))

/-- BUS_GRANT (R614): a free port grants the next request and starts its transactions. -/
def onBusGrant (t : Ns) (port : Fin 32) (s : State) : Out :=
  let s := s.tick t
  let p := port.val
  let b := s.bus p
  .next (if s.portState p = busIdle ∧ !b.look ∧ b.hold.isNone ∧ s.inService (busTile p) then
      match s.nextGrant p with
      | some (r, turn) =>
        let s := (s.modBus p (fun b => { b with queue := b.queue.erase r, turn })).countQueued p
        if s.farBlocked p r.txns then s.busDone p r .busIsolated 0 0xFF []
        else
          let s : State := match r.work, r.origin with
            | .transfer, some o | .pmWrite, some o => s.beginApply o
            | _, _ => s
          (s.modBus p (fun b => { b with hold := some r, index := 0, tries := 0, holdSince := s.now, reads := [], paused := false })).startTxn p
      | none => s
    else s)

/-- QUEUE_WAIT_EXPIRY (R614). -/
def onQueueWaitExpiry (t : Ns) (port : Fin 32) (s : State) : Out :=
  let s := s.tick t
  let p := port.val
  let late := (s.bus p).queue.filter (fun r => decide (r.since + s.queueWait p ≤ s.now))
  .next (let s := (s.modBus p (fun b => { b with queue := b.queue.filter (fun r => decide (r ∉ late)) })).countQueued p
    s.each late (fun s r => s.busDone p r .busy 0 0xFF []))

/-! ### The ends of transactions (R613, R616, R618–R621) -/

/-- A transaction runs on a port. -/
def State.txnRuns (s : State) (p : Nat) : Bool :=
  decide (s.portState p = busBusy) && (s.bus p).hold.isSome && !(s.bus p).paused

/-- TWO_WIRE_TRANSACTION_END (R618). -/
def onTwoWireTransactionEnd (t : Ns) (port : Fin 32) (x : TxnEnd) (s : State) : Out :=
  let s := s.tick t
  let p := port.val
  let b := s.bus p
  let own := b.hold.any (fun r => r.owner = 0)
  let addr (k : Nat) : Nat := (b.txn[k]?.map (·.addr)).getD 0
  let acked (s : State) (k : Nat) : State := s.txnAcked p (b.txn.take (k + 1))
  .next (if !s.txnRuns p then s
    else match x with
    | .done reads => s.txnOk p reads
    | .addrNak k =>
      let s := (s.count .naks p).txnBefore p b.txn k
      (if own then s.deviceTried p (addr k) true else s).txnFails p .busAddrNak k false busIdle
    | .dataNak k => (acked (s.count .naks p) k).txnFails p .busDataNak k false busIdle
    | .pec k => (acked (s.count .pecErrors p) k).txnFails p .busPec k false busIdle
    | .arbLost k => ((s.count .arbLosses p).txnBefore p b.txn k).txnFails p .busArbLost k true busForeign)

/-- At most once a second for a port (R636). -/
def State.busEvent (s : State) (k p : Nat) (e : Ev) (payload : List Int) : State :=
  let i := 0x4000 + 64 * k + p
  if s.var .eventAt i < 0 ∨ s.var .eventAt i + sec ≤ s.now then (s.setV .eventAt i s.now).raise e (oBus p) payload else s

/-- TWO_WIRE_TIMEOUT (R613): `kind` as EV_BUS_TIMEOUT has it; a port in I²C mode has the stretch limit alone, one in SMBus mode
the limits of Table 15.3. The port looks for a held SDA next. -/
def onTwoWireTimeout (t : Ns) (port : Fin 32) (kind : Fin 3) (seg : Nat) (s : State) : Out :=
  let s := s.tick t
  let p := port.val
  let b := s.bus p
  let addr := (b.txn[seg]?.map (·.addr)).getD 0
  .next (if s.txnRuns p ∧ (kind.val = 2 ↔ s.busMode p = 0) then
      let s := (s.count .timeouts p).modBus p (fun b => { b with look := true })
      let s := (s.arm .sclStuck p (10 * ms)).busEvent 1 p .busTimeout [p, kind.val, addr, s.get .timeouts p]
      let s := s.txnBefore p b.txn seg
      (if b.hold.any (fun r => r.owner = 0) then s.deviceTried p addr true else s).txnFails p .busTimeout seg true busBusy
    else s)

/-- BUS_ILLEGAL_COND (R620): the port releases both lines; it looks for a held SDA next (R622). -/
def onBusIllegalCond (t : Ns) (port : Fin 32) (kind : Fin 2) (bit : Fin 10) (seg : Nat) (s : State) : Out :=
  let s := s.tick t
  let p := port.val
  .next (if s.txnRuns p then
      let s := (s.count .illegalConds p).modBus p (fun b => { b with look := true })
      ((s.busEvent 0 p .busIllegalCond [p, kind.val, 0, bit.val, s.get .illegalConds p]).txnBefore p (s.bus p).txn seg).txnFails p .busInterrupted seg true busForeign
    else s)

/-! ### The state of the bus (R612, R620, R622, R623) -/

/-- The port runs no transaction of its own. -/
def State.portRests (s : State) (p : Nat) : Bool := s.inService (busTile p) && ((s.bus p).hold.isNone || (s.bus p).paused)

/-- BUS_RECOVERY (R622): SDA is found held low where the port looks for that. -/
def onBusRecovery (t : Ns) (port : Fin 32) (clocked pulsed near : Bool) (s : State) : Out :=
  let s := s.tick t
  let p := port.val
  .next (if s.portRests p ∧ (s.bus p).look then s.recoverSda p clocked pulsed near else s)

/-- SCL_STUCK (R623). -/
def onSclStuck (t : Ns) (port : Fin 32) (low : Nat) (pulsed near : Bool) (s : State) : Out :=
  let s := s.tick t
  let p := port.val
  .next (if s.portRests p ∧ s.due .sclStuck p then s.recoverScl p low pulsed near else s)

/-- FAILED_PORT_RETRY (R622, Table 15.5): one attempt a second. -/
def onFailedPortRetry (t : Ns) (port : Fin 32) (clocked pulsed near : Bool) (s : State) : Out :=
  let s := s.tick t
  let p := port.val
  .next (if s.inService (busTile p) ∧ s.portState p = busFailed ∧ s.due .busRetry p then s.recoverSda p clocked pulsed near else s)

/-- FOREIGN_START_STOP (R620): another controller takes the bus or frees it. -/
def onForeignStartStop (t : Ns) (port : Fin 32) (start : Bool) (s : State) : Out :=
  let s := s.tick t
  let p := port.val
  .next (if !s.portRests p then s
    else if start then (if s.portState p = busIdle then s.setPort p busForeign else s)
    else if s.portState p = busForeign ∨ s.portState p = busBusy then s.busFree p else s)

/-- BUS_IDLE_TIME (R612): the bus counts as free; a port that looked for a held SDA has not found one. -/
def onBusIdleTime (t : Ns) (port : Fin 32) (s : State) : Out :=
  let s := s.tick t
  let p := port.val
  let st := s.portState p
  .next (if !s.portRests p then s
    else if st = busFailed then (if (s.bus p).look then (s.count .recoveries p).setPort p busRecovering |>.busFree p else s)
    else if st = busIdle ∧ !(s.bus p).look then s
    else s.busFree p)

end Sys2Proof.Machine
end

