-- ==== Sys2Proof/Machine/Burin.lean ====
section
/-! DEFINITION. The instructions of Burin engines (R523–R530, R540–R544). A command names an instruction an engine
retires; it acts where that instruction stands at the top level's program counter. -/

namespace Sys2Proof.Machine

/-! ### Words (Table 13.4) -/

/-- The fields of an instruction word. -/
def wOp (w : Nat) : Nat := w / 2 ^ 26
def wRd (w : Nat) : Nat := w / 2 ^ 22 % 16
def wRs (w : Nat) : Nat := w / 2 ^ 18 % 16
def wImm18 (w : Nat) : Nat := w % 2 ^ 18
def wImm22 (w : Nat) : Nat := w % 2 ^ 22

/-- The words of each format. -/
def wordR (func : Nat) (rd rs rt : Fin 16) : Nat := rd.val * 2 ^ 22 + rs.val * 2 ^ 18 + rt.val * 2 ^ 14 + func
def wordI (op : Nat) (rd rs : Fin 16) (imm : Nat) : Nat := op * 2 ^ 26 + rd.val * 2 ^ 22 + rs.val * 2 ^ 18 + imm
def wordL (op : Nat) (rd : Fin 16) (imm : Nat) : Nat := op * 2 ^ 26 + rd.val * 2 ^ 22 + imm

/-- A word that is an instruction (R527): an OP of Table 13.5, a FUNC of OP 0, no fourth shift, no COND above 12. -/
def wLegal (w : Nat) : Bool :=
  let op := wOp w
  if op = 0 then decide (w % 2 ^ 14 ≤ 0x10)
  else if op = 5 then decide (w / 32 % 4 ≠ 3)
  else if op = 0x20 then decide (wRd w ≤ 12)
  else decide (op ≤ 8) || (decide (0x10 ≤ op) && decide (op ≤ 0x15)) || decide (op ∈ [0x21, 0x22, 0x30, 0x31, 0x32, 0x33, 0x35, 0x36, 0x37, 0x3F])

/-- A sign-extended immediate. -/
def sext (n bits : Nat) : BitVec 32 := BitVec.ofInt 32 (if 2 ^ (bits - 1) ≤ n then (n : Int) - 2 ^ bits else n)

/-! ### Levels (R523) -/

def Level.reg (l : Level) (r : Fin 16) : BitVec 32 := l.g.getD r.val 0
def Level.setReg (l : Level) (r : Fin 16) (v : BitVec 32) : Level := { l with g := l.g.set r.val v }

/-- Z and N of a result. -/
def Level.zn (l : Level) (v : BitVec 32) : Level := { l with z := decide (v = 0), n := v.msb }

/-- A result with Z and N, and V cleared. -/
def Level.logic (l : Level) (r : Fin 16) (v : BitVec 32) : Level := { (l.setReg r v).zn v with v := false }

/-- The flags of a sum: carry out and signed overflow. -/
def Level.addFlags (l : Level) (a b : BitVec 32) : Level :=
  { l.zn (a + b) with c := decide (2 ^ 32 ≤ a.toNat + b.toNat), v := decide (a.toInt + b.toInt ≠ (a + b).toInt) }

/-- The flags of a difference: unsigned borrow and signed overflow. -/
def Level.subFlags (l : Level) (a b : BitVec 32) : Level :=
  { l.zn (a - b) with c := decide (a.toNat < b.toNat), v := decide (a.toInt - b.toInt ≠ (a - b).toInt) }

/-- A value held to the signed 32-bit limits. -/
def saturate (v : Int) : BitVec 32 := BitVec.ofInt 32 (max (-(2 ^ 31)) (min (2 ^ 31 - 1) v))

/-- A condition of Table 13.6. -/
def Level.holds (l : Level) (cond : Nat) : Bool :=
  match cond with
  | 0 => true | 1 => l.z | 2 => !l.z | 3 => l.c | 4 => !l.c | 5 => l.n | 6 => !l.n | 7 => l.v | 8 => !l.v
  | 9 => l.n != l.v | 10 => l.n == l.v | 11 => !l.z && (l.n == l.v) | 12 => l.z || (l.n != l.v) | _ => false

/-! ### An instruction at its boundary (R529, R530) -/

/-- The top level of an engine is replaced. -/
def State.setTop (s : State) (e : Nat) (l : Level) : State := s.modEngine e (fun x => { x with stack := l :: x.stack.drop 1 })

/-- A handler ends (R556): its level closes; a re-pend source that was reposted is pending again; the end of INIT admits
routed events and completes START_PROGRAM (R521). -/
def State.eoi (s : State) (e : Nat) : State :=
  match (s.engine e).stack with
  | [] => s
  | l :: rest =>
    let t := e / 16
    let by_ := (s.engine e).startBy
    let s := s.modEngine e (fun x => { x with stack := rest })
    let s : State := if l.source = vInit then
        let s := (s.modEngine e (fun x => { x with init := 0, startBy := none })).assignAll t
        match by_ with | some o => s.answer o .ok [] (s.replyCsn o) | none => s
      else s
    let s : State := if l.source ≤ 1022 then
        let s : State := if (s.src l.source t).repend then s.modSrc l.source t (fun x => { x with pending := 1 }) else s
        s.assign l.source t
      else s
    s.assignAll t

/-- The top level's budget is below the cost of its next instruction (R530): the handler is abandoned by its EOI; a
third overrun within a second faults the engine. -/
def State.overrun (s : State) (e : Nat) (l : Level) (word : Nat) : State :=
  let x := s.engine e
  let recent := (x.overruns.filter (fun t => decide (s.now < t + sec))) ++ [s.now]
  let s := (s.modEngine e (fun x => { x with overruns := recent })).count .budgetFaults e
  let budget := match handlerOf x.image l.source with | some r => r.last | none => 0
  let s := s.raise .burinBudget (oBurin e) [e, recent.length, l.source, budget]
  if 3 ≤ recent.length then s.engineFault e 5 l.pc word l.source else s.eoi e

/-- One instruction of an engine: the word at the top level's program counter is the one the command names (`fits`).
`eff` finds the cost deducted and the program counter advanced. -/
def State.instr (s : State) (e : Fin 48) (fits : Nat → Bool) (cost : Level → Nat) (eff : State → Level → State) : State :=
  let x := s.engine e.val
  match x.stack with
  | [] => s
  | l :: _ =>
    if s.get .engineState e.val ≠ enRunning then s
    else if 4096 ≤ l.pc then s.engineFault e.val 4 l.pc 0 l.source
    else
      let w := x.codeAt l.pc
      if !wLegal w then s.engineFault e.val 1 l.pc w l.source
      else if !fits w then s
      else if l.budget < cost l then s.overrun e.val l w
      else
        let l' : Level := { l with budget := l.budget - cost l, pc := l.pc + 1 }
        eff (s.setTop e.val l') l'

/-- A fault inside an instruction, whose level has advanced past it. -/
def State.instrFault (s : State) (e cause : Nat) (l : Level) : State :=
  s.engineFault e cause (l.pc - 1) ((s.engine e).codeAt (l.pc - 1)) l.source

/-- An instruction that only changes its level. -/
def State.pure1 (s : State) (e : Fin 48) (fits : Nat → Bool) (cost : Nat) (f : Level → Level) : State :=
  s.instr e fits (fun _ => cost) (fun s l => s.setTop e.val (f l))

/-! ### Register instructions -/

/-- ADD. -/
def execAdd (t : Ns) (e : Fin 48) (rd rs rt : Fin 16) (s : State) : Out :=
  .next ((s.tick t).pure1 e (· = wordR 0x000 rd rs rt) 1 (fun l => (l.setReg rd (l.reg rs + l.reg rt)).addFlags (l.reg rs) (l.reg rt)))

/-- SUB. -/
def execSub (t : Ns) (e : Fin 48) (rd rs rt : Fin 16) (s : State) : Out :=
  .next ((s.tick t).pure1 e (· = wordR 0x001 rd rs rt) 1 (fun l => (l.setReg rd (l.reg rs - l.reg rt)).subFlags (l.reg rs) (l.reg rt)))

/-- AND. -/
def execAnd (t : Ns) (e : Fin 48) (rd rs rt : Fin 16) (s : State) : Out :=
  .next ((s.tick t).pure1 e (· = wordR 0x002 rd rs rt) 1 (fun l => l.logic rd (l.reg rs &&& l.reg rt)))

/-- OR. -/
def execOr (t : Ns) (e : Fin 48) (rd rs rt : Fin 16) (s : State) : Out :=
  .next ((s.tick t).pure1 e (· = wordR 0x003 rd rs rt) 1 (fun l => l.logic rd (l.reg rs ||| l.reg rt)))

/-- XOR. -/
def execXor (t : Ns) (e : Fin 48) (rd rs rt : Fin 16) (s : State) : Out :=
  .next ((s.tick t).pure1 e (· = wordR 0x004 rd rs rt) 1 (fun l => l.logic rd (l.reg rs ^^^ l.reg rt)))

/-- SHL. -/
def execShl (t : Ns) (e : Fin 48) (rd rs rt : Fin 16) (s : State) : Out :=
  .next ((s.tick t).pure1 e (· = wordR 0x005 rd rs rt) 1 (fun l => l.logic rd (l.reg rs <<< ((l.reg rt).toNat % 32))))

/-- SHR. -/
def execShr (t : Ns) (e : Fin 48) (rd rs rt : Fin 16) (s : State) : Out :=
  .next ((s.tick t).pure1 e (· = wordR 0x006 rd rs rt) 1 (fun l => l.logic rd (l.reg rs >>> ((l.reg rt).toNat % 32))))

/-- SAR. -/
def execSar (t : Ns) (e : Fin 48) (rd rs rt : Fin 16) (s : State) : Out :=
  .next ((s.tick t).pure1 e (· = wordR 0x007 rd rs rt) 1 (fun l => l.logic rd ((l.reg rs).sshiftRight ((l.reg rt).toNat % 32))))

/-- MUL. -/
def execMul (t : Ns) (e : Fin 48) (rd rs rt : Fin 16) (s : State) : Out :=
  .next ((s.tick t).pure1 e (· = wordR 0x008 rd rs rt) 2 (fun l => l.logic rd (l.reg rs * l.reg rt)))

/-- MULH. -/
def execMulh (t : Ns) (e : Fin 48) (rd rs rt : Fin 16) (s : State) : Out :=
  .next ((s.tick t).pure1 e (· = wordR 0x009 rd rs rt) 2 (fun l =>
    l.logic rd (BitVec.ofInt 32 ((l.reg rs).toInt * (l.reg rt).toInt / 2 ^ 32))))

/-- DIV: truncated; V where the divisor is 0 or the quotient does not fit. -/
def execDiv (t : Ns) (e : Fin 48) (rd rs rt : Fin 16) (s : State) : Out :=
  .next ((s.tick t).pure1 e (· = wordR 0x00A rd rs rt) 8 (fun l =>
    let a := (l.reg rs).toInt
    let b := (l.reg rt).toInt
    let q : BitVec 32 := if b = 0 then 0 else BitVec.ofInt 32 (a.tdiv b)
    { (l.setReg rd q).zn q with v := decide (b = 0 ∨ (a = -(2 ^ 31) ∧ b = -1)) }))

/-- DIVU. -/
def execDivu (t : Ns) (e : Fin 48) (rd rs rt : Fin 16) (s : State) : Out :=
  .next ((s.tick t).pure1 e (· = wordR 0x00B rd rs rt) 8 (fun l =>
    let q : BitVec 32 := if l.reg rt = 0 then 0 else l.reg rs / l.reg rt
    { (l.setReg rd q).zn q with v := decide (l.reg rt = 0) }))

/-- MIN. -/
def execMin (t : Ns) (e : Fin 48) (rd rs rt : Fin 16) (s : State) : Out :=
  .next ((s.tick t).pure1 e (· = wordR 0x00C rd rs rt) 1 (fun l =>
    l.logic rd (if (l.reg rs).toInt ≤ (l.reg rt).toInt then l.reg rs else l.reg rt)))

/-- MAX. -/
def execMax (t : Ns) (e : Fin 48) (rd rs rt : Fin 16) (s : State) : Out :=
  .next ((s.tick t).pure1 e (· = wordR 0x00D rd rs rt) 1 (fun l =>
    l.logic rd (if (l.reg rs).toInt ≤ (l.reg rt).toInt then l.reg rt else l.reg rs)))

/-- CMP; rd is ignored. -/
def execCmp (t : Ns) (e : Fin 48) (rs rt : Fin 16) (s : State) : Out :=
  .next ((s.tick t).pure1 e (fun w => decide (wOp w = 0) && decide (w % 2 ^ 22 = wordR 0x00E 0 rs rt)) 1
    (fun l => l.subFlags (l.reg rs) (l.reg rt)))

/-- SADD: V where it saturated. -/
def execSadd (t : Ns) (e : Fin 48) (rd rs rt : Fin 16) (s : State) : Out :=
  .next ((s.tick t).pure1 e (· = wordR 0x00F rd rs rt) 1 (fun l =>
    let a := l.reg rs
    let b := l.reg rt
    let q := saturate (a.toInt + b.toInt)
    { (l.setReg rd q).zn q with c := decide (2 ^ 32 ≤ a.toNat + b.toNat), v := decide (q.toInt ≠ a.toInt + b.toInt) }))

/-- SSUB: V where it saturated. -/
def execSsub (t : Ns) (e : Fin 48) (rd rs rt : Fin 16) (s : State) : Out :=
  .next ((s.tick t).pure1 e (· = wordR 0x010 rd rs rt) 1 (fun l =>
    let a := l.reg rs
    let b := l.reg rt
    let q := saturate (a.toInt - b.toInt)
    { (l.setReg rd q).zn q with c := decide (a.toNat < b.toNat), v := decide (q.toInt ≠ a.toInt - b.toInt) }))

/-! ### Immediate instructions -/

/-- ADDI. -/
def execAddi (t : Ns) (e : Fin 48) (rd rs : Fin 16) (imm : Fin 262144) (s : State) : Out :=
  .next ((s.tick t).pure1 e (· = wordI 0x01 rd rs imm.val) 1 (fun l =>
    (l.setReg rd (l.reg rs + sext imm.val 18)).addFlags (l.reg rs) (sext imm.val 18)))

/-- ANDI. -/
def execAndi (t : Ns) (e : Fin 48) (rd rs : Fin 16) (imm : Fin 262144) (s : State) : Out :=
  .next ((s.tick t).pure1 e (· = wordI 0x02 rd rs imm.val) 1 (fun l => l.logic rd (l.reg rs &&& BitVec.ofNat 32 imm.val)))

/-- ORI. -/
def execOri (t : Ns) (e : Fin 48) (rd rs : Fin 16) (imm : Fin 262144) (s : State) : Out :=
  .next ((s.tick t).pure1 e (· = wordI 0x03 rd rs imm.val) 1 (fun l => l.logic rd (l.reg rs ||| BitVec.ofNat 32 imm.val)))

/-- XORI. -/
def execXori (t : Ns) (e : Fin 48) (rd rs : Fin 16) (imm : Fin 262144) (s : State) : Out :=
  .next ((s.tick t).pure1 e (· = wordI 0x04 rd rs imm.val) 1 (fun l => l.logic rd (l.reg rs ^^^ BitVec.ofNat 32 imm.val)))

/-- SHIFTI: imm[6:5] is the kind of shift, imm[4:0] the count. -/
def execShifti (t : Ns) (e : Fin 48) (rd rs : Fin 16) (imm : Fin 262144) (s : State) : Out :=
  .next ((s.tick t).pure1 e (· = wordI 0x05 rd rs imm.val) 1 (fun l =>
    let k := imm.val % 32
    l.logic rd (match imm.val / 32 % 4 with
      | 0 => l.reg rs <<< k
      | 1 => l.reg rs >>> k
      | _ => (l.reg rs).sshiftRight k)))

/-- CMPI; rd is ignored. -/
def execCmpi (t : Ns) (e : Fin 48) (rs : Fin 16) (imm : Fin 262144) (s : State) : Out :=
  .next ((s.tick t).pure1 e (fun w => decide (wOp w = 0x06) && decide (wRs w = rs.val) && decide (wImm18 w = imm.val)) 1
    (fun l => l.subFlags (l.reg rs) (sext imm.val 18)))

/-- LUI. -/
def execLui (t : Ns) (e : Fin 48) (rd : Fin 16) (imm : Fin 4194304) (s : State) : Out :=
  .next ((s.tick t).pure1 e (· = wordL 0x07 rd imm.val) 1 (fun l =>
    let v := BitVec.ofNat 32 (imm.val * 1024)
    (l.setReg rd v).zn v))

/-- MOVI. -/
def execMovi (t : Ns) (e : Fin 48) (rd : Fin 16) (imm : Fin 4194304) (s : State) : Out :=
  .next ((s.tick t).pure1 e (· = wordL 0x08 rd imm.val) 1 (fun l =>
    let v := sext imm.val 22
    (l.setReg rd v).zn v))

/-! ### Loads and stores (R524, R528) -/

/-- An effective address. -/
def Level.addr (l : Level) (rs : Fin 16) (imm : Fin 262144) : Nat := (l.reg rs + sext imm.val 18).toNat

/-- An access of n bytes lies in data memory and is aligned. -/
def accessOk (addr n : Nat) : Bool := decide (addr + n ≤ 0x2000) && decide (addr % n = 0)

/-- A load of n bytes into rd. -/
def State.load (s : State) (e : Fin 48) (n : Nat) (rd rs : Fin 16) (imm : Fin 262144) (l : Level) (f : Nat → BitVec 32) : State :=
  let a := l.addr rs imm
  if accessOk a n then s.setTop e.val (l.setReg rd (f ((s.engine e.val).readData a n))) else s.instrFault e.val 2 l

/-- LDW. -/
def execLdw (t : Ns) (e : Fin 48) (rd rs : Fin 16) (imm : Fin 262144) (s : State) : Out :=
  .next ((s.tick t).instr e (· = wordI 0x10 rd rs imm.val) (fun _ => 2) (fun s l => s.load e 4 rd rs imm l (BitVec.ofNat 32)))

/-- LDH. -/
def execLdh (t : Ns) (e : Fin 48) (rd rs : Fin 16) (imm : Fin 262144) (s : State) : Out :=
  .next ((s.tick t).instr e (· = wordI 0x11 rd rs imm.val) (fun _ => 2) (fun s l => s.load e 2 rd rs imm l (fun v => sext v 16)))

/-- LDB. -/
def execLdb (t : Ns) (e : Fin 48) (rd rs : Fin 16) (imm : Fin 262144) (s : State) : Out :=
  .next ((s.tick t).instr e (· = wordI 0x12 rd rs imm.val) (fun _ => 2) (fun s l => s.load e 1 rd rs imm l (BitVec.ofNat 32)))

/-- A store of the low n bytes of rd. -/
def State.store (s : State) (e : Fin 48) (n : Nat) (rd rs : Fin 16) (imm : Fin 262144) (l : Level) : State :=
  let a := l.addr rs imm
  if !accessOk a n then s.instrFault e.val 2 l
  else if 0x1800 ≤ a then s.instrFault e.val 3 l
  else s.modEngine e.val (fun x => x.writeData a n (l.reg rd).toNat)

/-- STW. -/
def execStw (t : Ns) (e : Fin 48) (rd rs : Fin 16) (imm : Fin 262144) (s : State) : Out :=
  .next ((s.tick t).instr e (· = wordI 0x13 rd rs imm.val) (fun _ => 2) (fun s l => s.store e 4 rd rs imm l))

/-- STH. -/
def execSth (t : Ns) (e : Fin 48) (rd rs : Fin 16) (imm : Fin 262144) (s : State) : Out :=
  .next ((s.tick t).instr e (· = wordI 0x14 rd rs imm.val) (fun _ => 2) (fun s l => s.store e 2 rd rs imm l))

/-- STB. -/
def execStb (t : Ns) (e : Fin 48) (rd rs : Fin 16) (imm : Fin 262144) (s : State) : Out :=
  .next ((s.tick t).instr e (· = wordI 0x15 rd rs imm.val) (fun _ => 2) (fun s l => s.store e 1 rd rs imm l))

/-! ### Branches -/

/-- The target of OFF22, counted from the instruction after the branch (R526). -/
def Level.target (l : Level) (off : Fin 4194304) : Int := l.pc + (sext off.val 22).toInt

/-- A jump; outside code memory it is a fault. -/
def State.jump (s : State) (e : Fin 48) (l : Level) (target : Int) (f : Level → Level) : State :=
  if 0 ≤ target ∧ target < 4096 then s.setTop e.val { f l with pc := target.toNat } else s.instrFault e.val 4 l

/-- BR: it costs 2 where it is taken. -/
def execBr (t : Ns) (e : Fin 48) (cond : Fin 16) (off : Fin 4194304) (s : State) : Out :=
  .next ((s.tick t).instr e (· = wordL 0x20 cond off.val) (fun l => if l.holds cond.val then 2 else 1)
    (fun s l => if l.holds cond.val then s.jump e l (l.target off) (fun l => l) else s))

/-- CALL. -/
def execCall (t : Ns) (e : Fin 48) (off : Fin 4194304) (s : State) : Out :=
  .next ((s.tick t).instr e (fun w => decide (wOp w = 0x21) && decide (wImm22 w = off.val)) (fun _ => 2)
    (fun s l => s.jump e l (l.target off) (fun l => l.setReg 15 (BitVec.ofNat 32 l.pc))))

/-- JR. -/
def execJr (t : Ns) (e : Fin 48) (rs : Fin 16) (s : State) : Out :=
  .next ((s.tick t).instr e (fun w => decide (wOp w = 0x22) && decide (wRs w = rs.val)) (fun _ => 2)
    (fun s l => s.jump e l (l.reg rs).toNat (fun l => l)))

/-! ### System instructions (R540–R544, R556) -/

/-- Two registers take a 64-bit value, low part first; rd + 1 of g15 is a fault (R528). -/
def State.setPair (s : State) (e : Fin 48) (l : Level) (rd : Fin 16) (v : Nat) (f : Level → Level) : State :=
  if rd.val = 15 then s.instrFault e.val 1 l
  else s.setTop e.val (f ((l.setReg rd (BitVec.ofNat 32 v)).setReg (rd + 1) (BitVec.ofNat 32 (v / 2 ^ 32))))

/-- RDP (R542). -/
def execRdp (t : Ns) (e : Fin 48) (rd rs : Fin 16) (imm : Fin 262144) (s : State) : Out :=
  .next ((s.tick t).instr e (· = wordI 0x30 rd rs imm.val) (fun _ => 16) (fun s l =>
    let o := (l.reg rs).toNat
    let code := imm.val % 65536
    let refuse (v : Bool) : State := s.setTop e.val { l.setReg rd 0 with c := true, v }
    if !(iManifest (s.engine e.val).image).any (fun r => decide (r.kind = 2) && decide (r.first ≤ o ∧ o ≤ r.last)
        && decide (r.prop = 0xFFFF ∨ r.prop = code)) then refuse true
    else if s.checkPresence none o [] ≠ .ok then refuse false
    else match findProp o code with
      | none => refuse false
      | some p =>
        if 8 < p.desc.bytes then refuse false
        else
          let v : Nat := (s.readNum o p (propIndex o p code) % 2 ^ 64).toNat
          let ok (l : Level) : Level := { l with c := false, v := false }
          if p.desc.bytes = 8 then s.setPair e l rd v ok else s.setTop e.val (ok (l.setReg rd (BitVec.ofNat 32 v)))))

/-- FCQ (R543): the forecast table of the engine's own tile, over the domains of an accelerator that the tile regulates. Where the tile holds no entry, or the query is not
permitted, the value is free. -/
def execFcq (t : Ns) (e : Fin 48) (rd rs : Fin 16) (imm : Fin 262144) (s : State) : Out :=
  .next ((s.tick t).instr e (· = wordI 0x31 rd rs imm.val) (fun _ => 24) (fun s l =>
    let o := (l.reg rs).toNat
    let i := objIdx o
    let k := imm.val % 8
    let meas := decide (imm.val / 8 % 2 = 1)
    let put (s : State) (v : Int) (c n ov : Bool) : State := s.setTop e.val { l.setReg rd (BitVec.ofInt 32 v) with c, n, v := ov }
    let ok (d : Nat) : Bool := (s.fcDom d).valid && s.flag .forecastOk d
    let at_ (d : Nat) : Rat := if meas then s.measured d else (s.var .forecast (8 * d + k) : Rat)
    let here (d : Nat) : Bool := decide (s.regDom d = some (e.val / 16)) && decide (s.fcStep ≠ 0)
    if !(iManifest (s.engine e.val).image).any (fun r => decide (r.kind = 4) && decide (r.first ≤ o ∧ o ≤ r.last)) then
      let (v, s) := s.draw; put s v true false true
    else if objCls o = 3 ∧ here i ∧ s.hasDomain i then
      let (v, s) := s.whole (at_ i); put s v (!ok i) (ok i && decide (0 < (s.fcDom i).missRun)) false
    else if objCls o = 2 ∧ (s.domainsOfAccel i).any here ∧ s.hasAccel i then
      let part := !(s.domainsOfAccel i).all here
      let ds := (s.domainsOfAccel i).filter (fun d => here d && decide ((s.dom d).mode ≠ .stopped))
      let (v, s) := s.whole (ds.map (fun d => at_ d * ((s.get .setpoint d : Rat) / 1000000))).sum
      put s v (part || ds.any (fun d => !ok d)) (ds.any (fun d => ok d && decide (0 < (s.fcDom d).missRun))) false
    else let (v, s) := s.draw; put s v true false false))

/-- The address of mailbox slot k (Table 13.3). -/
def mailAddr (k : Nat) : Nat := 0x1A00 + 256 * k
def Engine.slotState (x : Engine) (k : Nat) : Nat := x.readData (mailAddr k) 4

/-- Whether a COMMAND record permits a request whose packet stands at an address (R548). -/
def Engine.permits (x : Engine) (addr opcode object prop paramLen : Nat) (safety : Bool) : Bool :=
  (iManifest x.image).any (fun r => decide (r.kind = 3) && decide (r.source = opcode) && decide (r.first ≤ object ∧ object ≤ r.last)
    && decide (r.prop = 0xFFFF ∨ r.prop = prop) && (!safety || decide (r.bits % 2 = 1))
    && (decide (r.check = 0xFFFF) || (decide (r.check + 4 ≤ paramLen) &&
      (let v := signed32 (x.readData (addr + 32 + r.check) 4); decide (r.lo ≤ v ∧ v ≤ r.hi)))))

/-- A request packet in data memory as a header (Tables 3.1, 3.2), with the slot as its TAG. Its reserved bits are those of FLAGS, and its
padding (R99). -/
def Engine.packetAt (x : Engine) (a slot : Nat) : Header :=
  let f := x.readData (a + 1) 1
  let n := x.readData (a + 14) 2
  { version := x.readData a 1, rsv := decide (16 ≤ f) || decide (x.readData (a + 32 + n) (up4 n - n) ≠ 0), force := f.testBit 3, idempotent := f.testBit 2, safety := f.testBit 1
    replyRequired := true, tag := slot, queue := 0, object := x.readData (a + 8) 4, property := x.readData (a + 12) 2, paramLen := n
    packetLen := 36 + up4 n, condCsn := x.readData (a + 16) 8, deadline := x.readData (a + 24) 8 }

/-- GPOLL. -/
def execGpoll (t : Ns) (e : Fin 48) (rd : Fin 16) (imm : Fin 262144) (s : State) : Out :=
  .next ((s.tick t).instr e (fun w => decide (wOp w = 0x33) && decide (wRd w = rd.val) && decide (wImm18 w = imm.val)) (fun _ => 2) (fun s l =>
    let k := imm.val % 4
    let st := (s.engine e.val).slotState k
    let done := decide (st = 2 ∨ st = 3)
    let s := s.setTop e.val { l.setReg rd (BitVec.ofNat 32 st) with z := done }
    if done ∧ imm.val / 4 % 2 = 1 then s.modEngine e.val (fun x => x.writeData (mailAddr k) 4 0) else s))

/-- EOI. -/
def execEoi (t : Ns) (e : Fin 48) (s : State) : Out :=
  .next ((s.tick t).instr e (fun w => decide (wOp w = 0x35)) (fun _ => 8) (fun s _ => s.eoi e.val))

/-- The CSN a tile has applied (R154): what it holds of the committed entries. -/
def State.appliedOn (s : State) (t : Nat) : Nat := min (s.getN .ackCsn t) s.journal.committed

/-- TIME; an imm above 3 names no value: a free one is read. -/
def execTime (t : Ns) (e : Fin 48) (rd : Fin 16) (imm : Fin 262144) (s : State) : Out :=
  .next ((s.tick t).instr e (fun w => decide (wOp w = 0x36) && decide (wRd w = rd.val) && decide (wImm18 w = imm.val)) (fun _ => 2) (fun s l =>
    match imm.val with
    | 0 => s.setPair e l rd s.now (fun l => l)
    | 1 => s.setPair e l rd (s.appliedOn (e.val / 16)) (fun l => l)
    | 2 => s.setTop e.val (l.setReg rd (BitVec.ofNat 32 l.budget))
    | 3 => s.setTop e.val (l.setReg rd (BitVec.ofNat 32 (s.varN .paceNow (e.val / 16))))
    | _ => let (v, s) := s.draw; s.setTop e.val (l.setReg rd (BitVec.ofInt 32 v))))

/-- TSET (R540). -/
def execTset (t : Ns) (e : Fin 48) (rs : Fin 16) (s : State) : Out :=
  .next ((s.tick t).instr e (fun w => decide (wOp w = 0x37) && decide (wRs w = rs.val)) (fun _ => 2) (fun s l =>
    let v := (l.reg rs).toNat
    let ok := match handlerOf (s.engine e.val).image vTimer with | some r => decide (r.lo ≤ v ∧ v ≤ 10000000) | none => false
    if v = 0 then ((s.setTop e.val { l with v := false }).modEngine e.val (fun x => { x with period := 0 })).disarm .engineTimer e.val
    else if ok then
      ((s.setTop e.val { l with v := false }).modEngine e.val (fun x => { x with period := v })).setT .engineTimer e.val
        (some ((s.now / (v * us) + 1) * (v * us)))
    else s.setTop e.val { l with v := true }))

/-- HALT. -/
def execHalt (t : Ns) (e : Fin 48) (s : State) : Out :=
  .next ((s.tick t).instr e (fun w => decide (wOp w = 0x3F)) (fun _ => 1) (fun s _ => s.stopEngine e.val enStopped 1))

end Sys2Proof.Machine
end

