-- ==== Sys2Proof/Machine/EventCtl.lean ====
section
/-! DEFINITION. The event controllers, the loading and running of programs, and the opcodes of class 0x08 (R521, R522,
R534, R541, R549–R566). -/

namespace Sys2Proof.Machine

/-! ### Occurrences and dispatch (R549–R560) -/

/-- OCCURRENCE_POST (R549): the oldest raised event is posted to every tile in service. -/
def execOccurrencePost (t : Ns) (s : State) : Out :=
  let s := s.tick t
  .next (match s.raised with
    | [] => s
    | r :: rest => ({ s with raised := rest }).each s.tilesIn (fun s t => s.post r.num t { record := r }))

/-- What may be dispatched on an engine: its priority, stamp and source (R555). -/
def State.candidatesOf (s : State) (e : Nat) : List (Nat × Ns × Nat) :=
  let x := s.engine e
  let prio (v : Nat) : Nat := match handlerOf x.image v with | some r => hPrio r | none => 15
  ((s.srcs.entries.filter (fun y => decide (y.1 % 3 = e / 16) && decide (y.2.assigned = some e))).map (fun y =>
    (cfgPrio (s.cfg (y.1 / 3) (e / 16)), (match y.2.recs with | o :: _ => o.record.stamp | [] => 0), y.1 / 3)))
  ++ (if x.init = 1 then [(prio vInit, 0, vInit)] else [])
  ++ (match x.timer with | some (at_, _) => [(prio vTimer, at_, vTimer)] | none => [])
  ++ (match x.replies with | (_, at_) :: _ => [(prio vReply, at_, vReply)] | [] => [])

/-- Of two candidates, the more urgent, then the older, then the lower source comes first (R555). -/
def earlier (a b : Nat × Ns × Nat) : Bool :=
  decide (a.1 < b.1) || (decide (a.1 = b.1) && (decide (a.2.1 < b.2.1) || (decide (a.2.1 = b.2.1) && decide (a.2.2 < b.2.2))))

/-- A level opens on a handler (R523, R555). -/
def State.openLevel (s : State) (e n prio count : Nat) (o : Occurrence) (lostBefore : Bool) : State :=
  let x := s.engine e
  let addr := 0x1800 + 64 * x.stack.length
  let (entry, budget) := match handlerOf x.image n with | some r => (r.first, r.last) | none => (0, 0)
  let g : List (BitVec 32) := [BitVec.ofNat 32 n, BitVec.ofNat 32 count, BitVec.ofNat 32 addr] ++ List.replicate 13 0
  let l : Level := { g, pc := entry, budget, prio, source := n }
  (s.modEngine e (fun x => { x.writeBytes addr (o.bytes lostBefore) with stack := l :: x.stack })).count .dispatches e

/-- A source's occurrence is claimed (R555, R558). A claim beyond the four records held has no record: what the claim
record shows is free. -/
def State.claim (s : State) (e n : Nat) : State :=
  let t := e / 16
  let x := s.src n t
  let c := s.cfg n t
  let (o, s) : Occurrence × State := match x.recs with
    | o :: _ => (o, s)
    | [] =>
      let (src, s) := s.draw
      let (stamp, s) := s.draw
      let (csn, s) := s.draw
      ({ record := { num := n, src := src.toNat, stamp := stamp.toNat, csn := csn.toNat, safety := false, payload := [] } }, s)
  let lost := x.lostBefore || x.recs.isEmpty
  let count := if cfgMode c = 1 then min x.merged 255 else x.pending - 1
  let s := s.modSrc n t (fun x =>
    if cfgMode c = 1 then { x with pending := 0, repend := false, merged := 0, recs := [], assigned := none, claimAt := some s.now }
    else { x with pending := x.pending - 1, recs := x.recs.drop 1, assigned := none, claimAt := some s.now, lostBefore := false })
  let s := s.when (lost && decide (cfgMode c = 0)) (fun s => s.ecOverflow n t)
  (s.openLevel e n (cfgPrio c) count o (lost && decide (cfgMode c = 0))).assign n t

/-- A local vector is claimed (R525). g1 counts the deliveries of the vector that still wait. -/
def State.claimLocal (s : State) (e v prio : Nat) : State :=
  let x := s.engine e
  let (seq, s) := s.draw
  let (stamp, payload, count) : Ns × List Fld × Nat :=
    if v = vTimer then (match x.timer with | some (at_, k) => (at_, [u32 k], 0) | none => (s.now, [], 0))
    else if v = vReply then (match x.replies with | (k, at_) :: rest => (at_, [u32 k], rest.length) | [] => (s.now, [], 0))
    else (s.now, [], 0)
  let o : Occurrence := { record := { num := v, src := oBurin e, stamp, csn := s.appliedOn (e / 16), safety := false, payload, seq := seq.toNat } }
  let s := s.modEngine e (fun x => { x with
    init := if v = vInit then 2 else x.init
    timer := if v = vTimer then none else x.timer
    replies := if v = vReply then x.replies.drop 1 else x.replies })
  s.openLevel e v prio count o false

/-- An injected illegal instruction, or a budget that is exhausted, at a dispatch (Table 19.1). -/
def State.dispatchFault (s : State) (e : Nat) (d : State) : State :=
  match s.injected (0xF00 + e), (d.engine e).stack with
  | some 0, l :: _ => (d.spend (0xF00 + e)).engineFault e 1 l.pc ((d.engine e).codeAt l.pc) l.source
  | some _, l :: rest => (d.spend (0xF00 + e)).modEngine e (fun x => { x with stack := { l with budget := 0 } :: rest })
  | _, _ => d

/-- ENGINE_DISPATCH (R555). -/
def execEngineDispatch (t : Ns) (e : Fin 48) (s : State) : Out :=
  let s := s.tick t
  let x := s.engine e.val
  .next (match s.candidatesOf e.val with
    | [] => s
    | c :: cs =>
      let best := cs.foldl (fun b y => if earlier y b then y else b) c
      if s.get .engineState e.val ≠ enRunning ∨ x.runPrio ≤ best.1 ∨ 8 ≤ x.stack.length then s
      else s.dispatchFault e.val (if best.2.2 ≤ 1022 then s.claim e.val best.2.2 else s.claimLocal e.val best.2.2 best.1))

/-- MODERATION_EXPIRY (R559). -/
def execModerationExpiry (t : Ns) (tile : Fin 3) (n : Fin 1024) (s : State) : Out := .next ((s.tick t).assign n.val tile.val)

/-- TIMER_TICK (R540): a tick is delivered, or coalesced into the delivery that waits or runs. -/
def execTimerTick (t : Ns) (e : Fin 48) (s : State) : Out :=
  let s := s.tick t
  let x := s.engine e.val
  .next (match s.timer .engineTimer e.val with
    | some at_ =>
      if s.now < at_ ∨ x.period = 0 then s
      else
        let s := s.setT .engineTimer e.val (some (at_ + x.period * us))
        match x.timer with
        | some (st, k) => s.modEngine e.val (fun x => { x with timer := some (st, k + 1) })
        | none =>
          match x.stack.reverse.findIdx? (fun l => decide (l.source = vTimer)) with
          | some i =>
            let a := 0x1800 + 64 * i + 0x20
            s.modEngine e.val (fun x => x.writeData a 4 (x.readData a 4 + 1))
          | none => s.modEngine e.val (fun x => { x with timer := some (at_, 0) })
    | none => s)

/-- MAILBOX_REPLY (R541, Table 13.8): the engine's oldest reply goes to its slot; a final one is announced by REPLY. Replies
of an earlier run are discarded (R522). -/
def execMailboxReply (t : Ns) (e : Fin 48) (s : State) : Out :=
  let s := s.tick t
  .next (match s.mail.find? (fun m => m.1 = e.val) with
    | none => s
    | some (k, r) =>
      let s := { s with mail := s.mail.erase (k, r) }
      let x := s.engine e.val
      if s.get .engineState e.val ≠ enRunning ∨ 4 ≤ r.tag ∨ (x.slotState r.tag ≠ 1 ∧ x.slotState r.tag ≠ 4) then s
      else
        let a := mailAddr r.tag
        let res := recordBytes r.results
        let x := x.writeData a 4 (if !r.final then 4 else if 216 < res.length then 3 else 2)
        let x := (x.writeBytes (a + 8) (r.packet.take 32)).writeBytes (a + 0x28) (res.take 216)
        let x : Engine := if r.final && (handlerOf x.image vReply).isSome then { x with replies := x.replies ++ [(r.tag, s.now)] } else x
        s.modEngine e.val (fun _ => x))

/-! ### EC_HOLD, SRC_CONFIG, SRC_STATUS, SOFT_PEND (R550, R553, R561) -/

/-- A tile's hold is set or cleared. -/
def State.setEcHold (s : State) (t : Nat) (on : Bool) (how : Int) : State :=
  let old := s.getN .ecHold
  if old.testBit t = on then s
  else
    let s := (s.put .ecHold 0 ((if on then old ||| 2 ^ t else old - 2 ^ t : Nat))).raise .ecHold (oEventSrc 1023) [t, how]
    if on then s.arm .ecHold t (s.getN .ecHoldLimit * ms) else (s.disarm .ecHold t).assignAll t

/-- EC_HOLD_LIMIT_EXPIRY (R553). -/
def execEcHoldLimitExpiry (t : Ns) (tile : Fin 3) (s : State) : Out :=
  let s := s.tick t
  .next (if s.due .ecHold tile.val then s.setEcHold tile.val false 2 else s)

/-- WRITE_EC_HOLD (R553). -/
def setEcHold (v : Int) (_ : Nat) (s : State) : State × Res :=
  (s.each [0, 1, 2] (fun s t => let on := v.toNat.testBit t; s.setEcHold t on (if on then 0 else 1)), .st .ok)

def execWriteEcHold (a : Arrival) (v : Int) (s : State) : Out := .next (s.write a .ecHold v (setEcHold v))

/-- WRITE_SRC_CONFIG (Table 13.10): ENABLE, IDLE_BYPASS and MOD; fields that are read only are not written. -/
def setSrcConfig (v : Int) (i : Nat) (s : State) : State × Res :=
  let n := i / 3
  let t := i % 3
  let v := v.toNat
  let c := s.cfg n t
  let routed := (List.range 16).filter (fun e => (cfgMask c).testBit e)
  let least := (routed.map (fun e => match handlerOf (s.engine (16 * t + e)).image n with | some r => hMod r | none => 0)).foldl max 0
  if v.testBit 28 then (s, .st .badParam)
  else if cfgMod v < least then (s, .st .burinRouteConflict)
  else
    let w := cfgWord (if cfgEnable v then 1 else 0) (cfgMode c) (if cfgBypass v then 1 else 0) (cfgPrio c) (cfgMod v) (cfgMask c)
    ((s.put .srcConfig i w).assign n t, .st .ok)

def execWriteSrcConfig (a : Arrival) (tile : Fin 3) (v : Int) (s : State) : Out :=
  .next (s.writeAt a .srcConfig (0x130 + tile.val) v (setSrcConfig v))

/-- WRITE_SRC_STATUS (Table 13.11): writing 1 to OVERFLOW clears it and LOST, unless it is set at that very instant (R18). -/
def setSrcStatus (v : Int) (i : Nat) (s : State) : State × Res :=
  (if v.toNat.testBit 23 ∧ s.var .srcOvAt i ≠ s.now then s.modSrc (i / 3) (i % 3) (fun x => { x with overflow := false, lost := 0 }) else s, .st .ok)

def execWriteSrcStatus (a : Arrival) (tile : Fin 3) (v : Int) (s : State) : Out :=
  .next (s.writeAt a .srcStatus (0x134 + tile.val) v (setSrcStatus v))

/-- SOFT_PEND (R561). The occurrence's SOURCE is free. -/
def setSoftPend (force : Bool) (v : Int) (n : Nat) (s : State) : State × Res :=
  let free := decide (0x320 ≤ n ∧ n ≤ 0x33F)
  if !free && !(force && (s.timer .maintenance).isSome) then (s, .st .wouldDisturb)
  else
    let (src, s) := s.draw
    let o (s : State) : Occurrence := { record := { num := n, src := src.toNat, stamp := s.now, csn := s.journal.committed, safety := false, payload := [] }
                                        software := true }
    (s.each ([0, 1, 2].filter (fun t => v.toNat.testBit t && s.inService t)) (fun s t => s.post n t (o s)), .st .ok)

def execSoftPend (a : Arrival) (v : Int) (s : State) : Out := .next (s.write a .softPend v (setSoftPend a.hdr.force v))

/-- WRITE_AUTOSTART (Table 13.15). -/
def setAutostart (v : Int) (e : Nat) (s : State) : State × Res :=
  if !(s.engine e).shelved then (s, .st .burinEngineState)
  else
    let p := s.progShelf.get {} e
    ({ s.put .autostart e v with progShelf := s.progShelf.put {} e { p with auto := v.toNat } }, .st .ok)

def execWriteAutostart (a : Arrival) (v : Int) (s : State) : Out := .next (s.write a .autostart v (setAutostart v))

/-! ### Opcodes of class 0x08 (Table 13.13) -/

/-- LOAD_PROGRAM (R534). -/
def doLoadProgram (a : Arrival) (x : LoadParams) (s : State) : State × Res :=
  let o := s.originOf a .loadProgram
  let e := objIdx a.hdr.object
  let y := s.engine e
  let st := s.get .engineState e
  if objCls a.hdr.object ≠ 0x0F then (s, .st .badParam)
  else if y.holder.any (fun h => !sameHolder o h) then (s, .st .busy)
  else match a.hdr.property, x with
  | 0, .start total persist auto =>
    if 1 < persist ∨ 1 < auto ∨ total = 0 then (s, .st .badParam)
    else if persist = 1 ∧ s.nandLost then (s, .st .notPresent)
    else if 65536 < total then (s, .st .fcTooLarge)
    else if st = enRunning ∨ st = enLost ∨ st = enLoading then (s, .st .burinEngineState)
    else
      let s := s.modEngine e (fun y => { y with holder := some o, prior := st.toNat, total, keep := persist = 1, auto, parts := [] })
      ((s.hold o [oBurin e]).setEngine e enLoading 0, .st .ok)
  | 1, .data off bytes =>
    if st ≠ enLoading ∨ y.ending.isSome then (s, .st .burinEngineState)
    else if bytes.isEmpty ∨ 4024 < bytes.length ∨ y.total < off + bytes.length
        ∨ y.parts.any (fun p => overlaps p.1 p.2.length off bytes.length) then (s, .st .badParam)
    else
      let ins := fun (l : List (Nat × List Nat)) => l.filter (fun p => decide (p.1 < off)) ++ [(off, bytes)]
        ++ l.filter (fun p => decide (off < p.1))
      (s.modEngine e (fun y => { y with parts := ins y.parts }), .st .ok)
  | 2, .none =>
    if st ≠ enLoading ∨ y.ending.isSome then (s, .st .burinEngineState)
    else (s.modEngine e (fun y => { y with ending := some o }), .accepted [])
  | 3, .none =>
    if st ≠ enLoading ∨ y.ending.isSome then (s, .st .burinEngineState) else (s.unloadEngine e, .st .ok)
  | _, _ => (s, .st .badParam)

def execLoadProgram (a : Arrival) (x : LoadParams) (s : State) : Out := .next (s.request a (.loadProgram x) (doLoadProgram a x))

/-- A verified image takes the engine, and END completes (Table 13.2). -/
def State.programLoaded (s : State) (e : Nat) (o : Origin) : State :=
  let x := s.engine e
  let b := x.parts.flatMap (·.2)
  let s : State := match x.holder with | some h => s.unhold h | none => s
  let s := (s.placeProgram e b).modEngine e (fun y => { y with holder := none, ending := none, parts := [], shelved := x.keep })
  let s : State := if x.keep then { s.put .autostart e x.auto with progShelf := s.progShelf.put {} e { bytes := b, auto := x.auto } }
    else s.put .autostart e 0
  (s.setEngine e enLoaded 0).complete o .burinLoaded .ok [e, enLoaded, iProgram b]

/-- The program shelf holds the image (R534, R739). -/
def State.nandProgram (s : State) (e : Nat) : State :=
  match (s.engine e).ending with
  | some o => s.programLoaded e o
  | none => s

/-- PROGRAM_VERIFY_DONE (R532). -/
def execProgramVerifyDone (t : Ns) (e : Fin 48) (s : State) : Out :=
  let s := s.tick t
  let e := e.val
  .next (match (s.engine e).ending with
    | some o =>
      if s.get .engineState e ≠ enLoading ∨ .program e ∈ s.nandWrites then s
      else
        let x := s.engine e
        let (st, off) := if x.keep ∧ s.nandLost then (.notPresent, 0) else s.checkProgram (x.parts.flatMap (·.2)) x.total
        if st ≠ .ok then
          let id := s.get .programId e
          (s.unloadEngine e).complete o .burinLoaded st [e, x.prior, id] off
        else if x.keep then { s with nandWrites := s.nandWrites ++ [.program e] }
        else s.programLoaded e o
    | none => s)

/-- START_PROGRAM (R521): with an INIT handler it completes once that has ended. -/
def doStartProgram (a : Arrival) (s : State) : State × Res :=
  let e := objIdx a.hdr.object
  let st := s.get .engineState e
  if objCls a.hdr.object ≠ 0x0F then (s, .st .badParam)
  else if st ≠ enLoaded ∧ st ≠ enStopped ∧ st ≠ enFaulted then (s, .st .burinEngineState)
  else if s.routeConflict (e / 16) (s.engine e).image then (s, .st .burinRouteConflict)
  else
    let s := s.startEngine e 0
    if (s.engine e).init = 1 then (s.modEngine e (fun x => { x with startBy := some (s.originOf a .startProgram) }), .later)
    else (s, .st .ok)

def execStartProgram (a : Arrival) (s : State) : Out := .next (s.request a .startProgram (doStartProgram a))

/-- STOP_PROGRAM (R522). -/
def doStopProgram (a : Arrival) (s : State) : State × Res :=
  let e := objIdx a.hdr.object
  let st := s.get .engineState e
  if objCls a.hdr.object ≠ 0x0F then (s, .st .badParam)
  else match a.hdr.property with
  | 0 => (if st = enRunning then s.stopEngine e enStopped 0 else s, .st .ok)
  | 1 =>
    if st = enRunning ∨ st = enLoading ∨ st = enLost then (s, .st .burinEngineState)
    else
      let s := (s.dropProgram e).setEngine e enEmpty 0
      ({ s.put .autostart e 0 with progShelf := s.progShelf.put {} e {} }, .st .ok)
  | _ => (s, .st .badParam)

def execStopProgram (a : Arrival) (s : State) : Out := .next (s.request a .stopProgram (doStopProgram a))

/-- READ_ENGINE (Table 13.13): the priorities stand from the lowest level up. -/
def doReadEngine (a : Arrival) (s : State) : State × Res :=
  let e := objIdx a.hdr.object
  let x := s.engine e
  if objCls a.hdr.object ≠ 0x0F then (s, .st .badParam)
  else if s.get .engineState e = enEmpty then (s, .st .burinEngineState)
  else
    let l := x.stack.headD {}
    let prios := (x.stack.reverse.map (fun (l : Level) => l.prio) ++ List.replicate 8 0xFF).take 8
    let bit (b : Bool) (w : Nat) : Nat := if b then w else 0
    (s, .done .ok ([u8 (s.get .engineState e), u8 x.stack.length, u16 l.pc, u32 (s.get .programId e), u16 (iVersion x.image), u8 x.slot, rsv 1,
      u32 (s.get .dispatches e), u32 (s.get .budgetFaults e)] ++ prios.map (fun (p : Nat) => u8 p)
      ++ [u32 (bit l.z 8 + bit l.n 4 + bit l.c 2 + bit l.v 1 : Nat)] ++ l.g.map (fun v => u32 v.toNat)))

def execReadEngine (a : Arrival) (s : State) : Out := .next (s.request a .readEngine (doReadEngine a))

/-- RAISE_EVENT (R562). -/
def doRaiseEvent (a : Arrival) (len : Nat) (payload : List Nat) (s : State) : State × Res :=
  let n := objIdx a.hdr.object
  if objCls a.hdr.object ≠ 0x10 ∨ n < 0x320 ∨ 0x33F < n ∨ 32 < len ∨ payload.length ≠ 32 then (s, .st .badParam)
  else
    let src : ObjId := match a.binding with
      | .burin e => oBurin e.val
      | .firmware => oDevice
      | b => oHostPort b.port
    let r : EventRec := { num := n, src, stamp := s.now, csn := s.journal.committed, safety := false
                          payload := (payload.take len).map (fun (b : Nat) => u8 b) }
    ((s.raiseRec r [] false false).trigger n false s.now, .st .ok)

def execRaiseEvent (a : Arrival) (len : Nat) (payload : List Nat) (s : State) : Out :=
  .next (s.request a (.raiseEvent len payload) (doRaiseEvent a len payload))

end Sys2Proof.Machine
end

