-- ==== Sys2Proof/Machine/Budget.lean ====
section
/-! DEFINITION. The power budget's commands (chapter 8): epochs, racks, fast protection, compliance, reefs. -/

namespace Sys2Proof.Machine

/-! ### Epochs (R318–R333) -/

/-- ACCEL_EPOCH (R318): the accelerator's GRANT is split among its domains, in 10 mW. -/
def execAccelEpoch (t : Ns) (a : Fin 8) (s : State) : Out :=
  let s := s.tick t
  let a := a.val
  .next (if !s.splitsRun ∨ (s.regTile a).isNone ∨ !s.epochDue (8 + a) (2 * us) then s
    else
      let s := (s.setV .epochAt (8 + a) s.now).putDomainDemands a
      let x : Rat := s.get .grant (nodeAccel a)
      let l := split 10 x ((s.domainsOfAccel a).map (fun d => s.childOf (nodeDomain d)))
      (s.noteRation (nodeAccel a) x l).each l (fun s c => s.putChild c c.grant 0 0))

/-- The tray's demand (R328): the largest over the last rack epoch. -/
def State.putTrayDemand (s : State) : State :=
  let total : Rat := (s.accels.map (fun a => s.atInput (s.get .demand (nodeAccel a) : Rat))).sum
  let (d, s) := s.whole ((total + s.pAux) / s.oneMinusG)
  let s := { s with trayDemands := ((min (s.get .limit nodeTray) d) :: s.trayDemands).take 10 }
  s.put .demand nodeTray (s.trayDemands.foldl max 0)

/-- EMERGENCY_LEVEL of each accelerator (R347). -/
def State.putEmergency (s : State) : State :=
  s.each s.accels (fun s a =>
    s.put .emergencyLevel a (s.levelFor a (s.grantAt (nodeAccel a) s.now * (1000 - s.get .fastDepth) / 1000)))

/-- The epoch number of an instant, low 32 bits. -/
def epochNo (len t : Ns) : Nat := t / len % 4294967296

/-- The member's report to its rack leader (R337), for the rack epoch 10 µs on. -/
def State.sendReport (s : State) : State :=
  let e := epochNo (100 * us) (s.now + 10 * us)
  let flags : Nat := (if s.flag .isolated 0 then 1 else 0) + (if s.get .minGrant nodeTray < s.get .demand nodeTray then 2 else 0)
  if s.isRackLeader then s
  else s.ratRack 0x21 (s.getN .rackLeader)
    [s.var .serial, s.get .rackId, 0, flags, e, s.get .demand nodeTray, s.get .minGrant nodeTray, s.get .grant nodeTray, s.get .wsum nodeTray]

/-- A tray epoch (R318, R321, R325–R328, R347, R353): demands, the guard band, the split, BUDGET, and the stage-1 levels.
Reports of reef levels that had to wait go out as well. -/
def State.trayEpoch (s : State) : State :=
  let s := s.each s.accels State.reportReef
  let s := s.each s.accels (fun s a =>
    (s.gauge (meterGrant a) (s.get .grant (nodeAccel a))).gauge (meterDemand a) (s.get .demand (nodeAccel a)))
  if !s.splitsRun then s
  else
    let s := s.settleNode nodeTray |>.putAccelDemands |>.setBand
    let (aux, s) := s.whole s.pAux
    let s := s.put .pAux 0 aux
    let x := s.trayPower (s.lowCap nodeTray s.now (15 * us))
    let l := split 1000 x (s.accels.map (fun a => s.childOf (nodeAccel a)))
    let held := s.flag .trayHold
    let s := (s.noteRation nodeTray x l).each l (fun s c =>
      let last := s.lastGrant c.key
      let g := if held then min c.grant last else c.grant
      let s := s.putChild c g (5 * us) (15 * us)
      if g = last then s else s.sendGrant (c.key - 8) g (leadOf s.now last g (5 * us) (15 * us)))
    let s := s.when held (fun s => s.setV .trayHold 0 (s.var .trayHold - 1))
    let s := s.putTrayDemand.putEmergency
    if s.now % (100 * us) = 90 * us ∧ s.hasRatline then s.sendReport else s

/-- GRANT_EFFECTIVE (R321). -/
def execGrantEffective (t : Ns) (n : Fin 512) (s : State) : Out := .next ((s.tick t).settleNode n.val)

/-- LIMIT_EFFECTIVE (R323). -/
def execLimitEffective (t : Ns) (n : Fin 512) (s : State) : Out := .next ((s.tick t).settleNode n.val)

/-! ### Racks and the installation (R335–R342) -/

/-- RACK_HELLO_SEND (R336): to every neighbour of the same rack; leadership is decided anew as hellos age. -/
def execRackHelloSend (t : Ns) (s : State) : Out :=
  let s := s.tick t
  let body : List Int := [s.var .serial, s.get .rackId, s.get .rackPriority, 0, s.get .rackMembers, if s.locked then 1 else 0, s.now]
  let ports := s.ratPortsUp.filter (fun p => ((s.rat p).rackId : Int) = s.get .rackId)
  .next (if s.hasRatline then (s.each ports (fun s p => s.ratLink p 2 0x20 body)).rackElect else s)

/-- A hello of the rack is recorded, and forwarded once with HOPS raised to the other neighbours of the rack (R336,
R577). -/
def State.takeHello (s : State) (p : Nat) (m : RackHello) : State :=
  if (m.rackId : Int) ≠ s.get .rackId ∨ (m.serial : Int) = s.var .serial then s
  else
    let old := s.hearings.any (fun h => decide (h.serial = m.serial) && decide (h.stamp = m.stamp))
    let h : Hearing := { serial := m.serial, port := p, hops := m.hops, at_ := s.now, stamp := m.stamp, prio := m.prio, locked := m.locked }
    let s := { s with hearings := h :: s.hearings.filter (fun x => !(decide (x.serial = m.serial) && decide (x.port = p))) }
    let ports := s.ratPortsUp.filter (fun q => decide (q ≠ p) && decide (((s.rat q).rackId : Int) = s.get .rackId))
    let s : State := if old ∨ 8 ≤ m.hops then s
      else s.each ports (fun s q => s.ratLink q 2 0x20
        [m.serial, m.rackId, m.prio, m.hops + 1, m.members, if m.locked then 1 else 0, m.stamp])
    s.rackElect

def execRackHello (t : Ns) (p : Fin 10) (m : RackHello) (s : State) : Out := .next ((s.tick t).takeHello p.val m)

/-- A report as a member's record takes it. -/
def BudgetMember.report (x : BudgetMember) (m : BudgetReport) (now : Ns) : BudgetMember :=
  { x with rackId := m.rackId, taddr := m.src, epoch := m.epoch, demand := m.demand, minGrant := m.minGrant, wsum := m.wsum
           flags := m.flags, heardAt := now, serial := m.serial }

/-- A demand report reaches the rack leader (LEVEL 0) or the masthead (LEVEL 1) (R337, R341). Members stand in order of
serial, racks of RACK_ID. -/
def State.takeReport (s : State) (m : BudgetReport) : State :=
  let put (same : BudgetMember → Bool) (key : BudgetMember → Nat) (l : List BudgetMember) : List BudgetMember :=
    let x := ((l.find? same).getD { serial := m.serial, last := m.grant }).report m s.now
    let rest := l.filter (fun y => !same y)
    rest.filter (fun y => decide (key y < key x)) ++ [x] ++ rest.filter (fun y => decide (key x < key y))
  if m.level = 0 then
    if s.isRackLeader ∧ (m.rackId : Int) = s.get .rackId then
      { s with rackMembers := put (fun y => decide (y.serial = m.serial)) (fun y => y.serial) s.rackMembers }
    else s
  else if s.isMasthead then { s with racks := put (fun y => decide (y.rackId = m.rackId)) (fun y => y.rackId) s.racks }
  else s

def execBudgetReport (t : Ns) (m : BudgetReport) (s : State) : Out := .next ((s.tick t).takeReport m)

/-- A grant's EPOCH, a number of 32 bits, is newer than that of the last one accepted (R337). -/
def State.newerEpoch (s : State) (level epoch : Nat) : Bool :=
  let d := (epoch - s.var .grantEpoch level) % 4294967296
  decide (s.var .grantEpoch level < 0) || decide (0 < d ∧ d < 2147483648)

/-- A grant from the rack leader, or for the rack from the masthead, newer than the last accepted (R337, R338, R341). One that
reaches a tray that has never been LOCKED is not accepted (R340). -/
def State.takeGrant (s : State) (m : BudgetGrant) : State :=
  if (m.serial : Int) ≠ s.var .serial ∨ !s.newerEpoch m.level m.epoch ∨ 1 < m.level ∨ s.timeState < 2 then s
  else if m.level = 0 then
    if (m.leader : Int) = s.get .rackLeader then
      (s.put .limit nodeRack m.parentLimit |>.put .rackOther nodeRack m.parentOther).acceptGrant 0 m.epoch m.grant m.effective
    else s
  else if s.isRackLeader ∧ (m.leader : Int) = s.var .rootSerial then
    (s.put .limit nodeInstall m.parentLimit).acceptGrant 1 m.epoch (m.grant * 1000) m.effective
  else s

def execBudgetGrant (t : Ns) (m : BudgetGrant) (s : State) : Out := .next ((s.tick t).takeGrant m)

/-- RACK_HOLD_EXPIRY (R340, R341): the tray (level 0), or its rack (level 1), is isolated. -/
def execRackHoldExpiry (t : Ns) (level : Fin 2) (s : State) : Out :=
  let s := s.tick t
  .next (if s.due .rackHold level.val ∧ (level.val = 0 ∨ s.isRackLeader) then s.isolate level.val else s)

/-- The reserve for a member without a report for this epoch (R339). -/
def reserveOf (now hold : Ns) (x : BudgetMember) : Int := if now < x.heardAt + hold then x.last else x.minGrant

/-- A member as a child of its split. -/
def BudgetMember.child (x : BudgetMember) (key : Nat) : Child :=
  { key, demand := x.demand, floor := min x.minGrant x.demand, w := x.wsum, deficit := x.deficit, age := x.age }

/-- This tray's own entry among the rack's members. -/
def State.ownMember (s : State) (epoch : Nat) : BudgetMember :=
  let old := s.rackMembers.find? (fun y => decide ((y.serial : Int) = s.var .serial))
  { (old.getD { serial := s.varN .serial }) with
    rackId := s.getN .rackId, taddr := s.getN .taddr, epoch, demand := s.get .demand nodeTray, minGrant := s.get .minGrant nodeTray
    wsum := s.getN .wsum nodeTray, heardAt := s.now, last := s.lastGrant nodeTray }

/-- The rack's demand as it reports it to the masthead, W: what its members ask for and RACK_OTHER, at most its LIMIT. -/
def State.rackDemand (s : State) : State :=
  let d := min (s.get .limit nodeRack) ((s.rackMembers.map (·.demand)).sum + s.get .rackOther nodeRack)
  s.put .demand nodeRack d |>.put .wsum nodeRack ((s.rackMembers.map (fun x => (x.wsum : Int))).sum)

/-- The rack's split (R337–R341): its power among the members that reported for this epoch, and at the end of an installation epoch the
rack's own report. -/
def State.splitRack (s : State) : State :=
  let e := epochNo (100 * us) s.now
  let own := s.ownMember e
  let others := s.rackMembers.filter (fun y => decide (y.serial ≠ own.serial))
  let all := others.filter (fun y => decide (y.serial < own.serial)) ++ [own] ++ others.filter (fun y => decide (own.serial < y.serial))
  let hold := (s.getN .rackHold + 120) * us
  let base := s.get .limit nodeRack - s.get .rackOther nodeRack
  let unheard : Rat := if s.hasRatline then
      (base : Rat) / s.get .rackMembers * ((s.getN .rackMembers - all.length : Nat) : Int) else 0
  let reserved : Int := ((all.filter (fun y => y.epoch ≠ e)).map (reserveOf s.now hold)).sum
  let x : Rat := (s.lowCap nodeRack s.now (120 * us) : Int) - s.get .rackOther nodeRack - reserved - unheard
  let l := split 1000 x ((all.filter (fun y => y.epoch = e)).map (fun y => y.child y.serial))
  let frozen := s.flag .rackNew
  let s := (s.noteRation nodeRack x l).when frozen (fun s => s.setV .rackNew 0 (s.var .rackNew - 1))
  let s : State := State.rackDemand { s with rackMembers := all }
  let s : State := s.each l (fun (s : State) (c : Child) =>
    match s.rackMembers.find? (fun y => decide (y.serial = c.key)) with
    | none => s
    | some y =>
      let g := if frozen then min c.grant y.last else c.grant
      let eff := leadOf s.now y.last g (25 * us) (120 * us)
      let s := { s with rackMembers := s.rackMembers.map (fun (z : BudgetMember) =>
        if z.serial = c.key then { z with last := g, deficit := c.deficit, age := c.age, rationed := c.rationed } else z) }
      if c.key = own.serial then s.acceptGrant 0 e g eff
      else s.ratRack 0x22 c.key [c.key, s.get .rackId, 0, e, eff, g, s.get .limit nodeRack, s.get .rackOther nodeRack, s.var .serial])
  if s.now % ms = 900 * us ∧ s.hasRatline ∧ !s.isMasthead then
    let (demand, s) := s.roundDiv (s.get .demand nodeRack) 1000
    let (least, s) := s.roundDiv (s.get .minGrant nodeRack) 1000
    let (grant, s) := s.roundDiv (s.get .grant nodeRack) 1000
    let flags : Nat := (if s.flag .isolated 1 then 1 else 0) + (if s.get .minGrant nodeRack < s.get .demand nodeRack then 2 else 0)
    s.ratTree 2 0x21 0x0FFFFFFF 0 [s.var .serial, s.get .rackId, 1, flags, epochNo ms (s.now + 100 * us), demand, least, grant,
      s.get .wsum nodeRack]
  else s

/-- RACK_EPOCH (R337–R341): the rack leader splits the rack's power among the members that reported for this epoch. -/
def execRackEpoch (t : Ns) (s : State) : Out :=
  let s := s.tick t
  .next (if !s.splitsRun ∨ !s.isRackLeader ∨ !s.epochDue 1 (100 * us) then s
    else (s.setV .epochAt 1 s.now).splitRack)

/-- The masthead's split (R341): the installation's LIMIT among the racks that reported for this epoch. -/
def State.splitInstall (s : State) : State :=
  let e := epochNo ms s.now
  let (demand, s) := s.roundDiv (s.get .demand nodeRack) 1000
  let (least, s) := s.roundDiv (s.get .minGrant nodeRack) 1000
  let (last, s) := s.roundDiv (s.lastGrant nodeRack) 1000
  let own : BudgetReport := { src := s.getN .taddr, serial := s.varN .serial, rackId := s.getN .rackId, level := 1, epoch := e
                              demand, minGrant := least, grant := last, wsum := s.getN .wsum nodeRack }
  let s : State := if s.isRackLeader then s.takeReport own else s
  let hold := s.getN .rackHold * us + 1200 * us
  let reserved : Int := ((s.racks.filter (fun y => y.epoch ≠ e)).map (reserveOf s.now hold)).sum
  let x : Rat := (s.lowCap nodeInstall s.now (1200 * us) - reserved : Int)
  let l := split 100 x ((s.racks.filter (fun y => y.epoch = e)).map (fun y => y.child y.rackId))
  let frozen := s.flag .installNew
  let s := (s.noteRation nodeInstall x l).when frozen (fun s => s.setV .installNew 0 (s.var .installNew - 1))
  let s := s.put .wsum nodeInstall ((s.racks.map (fun y => (y.wsum : Int))).sum)
  s.each l (fun (s : State) (c : Child) =>
    match s.racks.find? (fun y => decide (y.rackId = c.key)) with
    | none => s
    | some y =>
      let g := if frozen then min c.grant y.last else c.grant
      let eff := leadOf s.now y.last g (200 * us) (1200 * us)
      let s := { s with racks := s.racks.map (fun (z : BudgetMember) =>
        if z.rackId = c.key then { z with last := g, deficit := c.deficit, age := c.age, rationed := c.rationed } else z) }
      if (y.serial : Int) = s.var .serial then s.acceptGrant 1 e (g * 1000) eff
      else s.ratTree 2 0x22 y.taddr y.serial [y.serial, y.rackId, 1, e, eff, g, s.get .limit nodeInstall, 0, s.var .serial])

/-- INSTALLATION_EPOCH (R341): the masthead splits the installation's LIMIT among the racks, in 100 W. -/
def execInstallationEpoch (t : Ns) (s : State) : Out :=
  let s := s.tick t
  .next (if !s.splitsRun ∨ !s.hasRatline ∨ !s.isMasthead ∨ !s.epochDue 0 ms then s
    else (s.setV .epochAt 0 s.now).splitInstall)

/-- RACK_OTHER (R338): only at the rack leader. -/
def setRackOther (v : Int) (n : Nat) (s : State) : State × Res :=
  if n ≠ nodeRack then (s, .st .propUnknown)
  else if !s.isRackLeader then (s, .done .budgetNotLeader [u64 (s.get .rackLeader)])
  else if s.get .limit nodeRack < v then (s, .st .badParam)
  else (s.put .rackOther n v, .st .ok)

def execWriteRackOther (a : Arrival) (v : Int) (s : State) : Out := .next (s.write a .rackOther v (setRackOther v))

/-! ### Fast tray-cap protection (R346–R351) -/

/-- The larger of the two banks' values, of the banks that count. -/
def State.feedValue (s : State) (fore main : Nat) : Nat :=
  max (if s.islandGives 0 6 ∧ !s.bankOut 0 1 then fore else 0)
    (if s.islandGives 1 6 ∧ !s.bankOut 1 1 then main else 0)

/-- A feed's voltage, mV: what injection point 0x568 + f subtracts from it is in µV (Table 19.1). -/
def State.feedVolts (s : State) (f : FeedSample) : Rat :=
  max 0 ((s.feedValue f.foreMv f.mainMv : Rat) - (((s.injected (0x568 + f.feed.val)).getD 0 : Int) : Rat) / 1000)

/-- The trip threshold (R346), mW. -/
def State.fastThreshold (s : State) : Rat := ((s.capAt nodeTray s.now : Int) : Rat) * (1000 + s.get .fastMargin : Int) / 1000

/-- Fast protection runs: main power is on, and a tile with the fast-sense inputs is in service (R351). -/
def State.fastRuns (s : State) : Bool := s.flag .mainGood && decide (s.membership ≠ 0)

/-- EV_FAST_REEF (Table 8.13). -/
def State.fastEvent (s : State) (stage mask : Nat) : State :=
  let (p, s) := s.whole s.pIn
  let (thr, s) := s.whole s.fastThreshold
  (s.journalSafety oDevice stage).raiseSafety .fastReef oDevice [stage, mask, p, thr, s.fast.firstAbove]

/-- Every tile sets source 0 of each accelerator, never below its present level; answers those raised. -/
def State.raiseFast (s : State) (level : Nat → Int) : State × Nat :=
  let up := s.accels.filter (fun a => decide (s.var .reefSrc (8 * a) < level a))
  let s := s.stopTrials (up.map oAccel)
  let s := s.each s.accels (fun s a => s.setReef a 0 (max (level a) (s.var .reefSrc (8 * a))))
  (s, (up.map (fun a => 2 ^ a)).sum)

/-- Stage 1 (R347). -/
def State.fastConfirm (s : State) : State :=
  let s := { s with fast := { s.fast with fired := true, confirmedAt := s.now, firstAbove := s.fast.above.getD s.now, stepping := false, low := none } }
  let s := (s.disarm .fastRelease).disarm .fastStep
  let lv := fun a => s.get .emergencyLevel a
  let (s, mask) := s.raiseFast lv
  ((s.count .fastTrips 0).fastEvent 1 mask).arm .fastStage2 0 (s.getN .fastStage2 * us)

/-- P_in of one sample of the feeds (R326): each feed's voltage times its current, and the load beside the accelerators over
the last 1 ms. -/
def State.takeInput (s : State) (feeds : List FeedSample) : State :=
  let n := match s.td with | some td => td.feeds | none => 0
  let p : Rat := (((feeds.filter (fun f => decide (f.feed.val < n))).map (fun f =>
    s.feedVolts f * ((s.feedValue f.foreMa f.mainMa + ((s.injected (0x560 + f.feed.val)).getD 0).toNat : Nat) : Rat))).sum) / 1000
  let s := s.each (feeds.map (fun f => 0x560 + f.feed.val)) State.spend
  let s := { s with pIn := p }
  let (pi, s) := s.whole p
  let s := (s.when (s.onGrid (2 * us)) (fun s => s.note 0x09 oDevice [u32 (s.get .inputPower), u32 pi])).put .inputPower 0 pi
  let s := (s.gauge meterInput p).each s.accels (fun s a => s.gauge (meterPower a) (s.atInput (s.outputPower a 1)))
  let aux := p - (s.accels.map (fun a => s.atInput (s.outputPower a 1))).sum
  let s := { s with auxHistory := (s.now, aux) :: s.auxHistory.filter (fun x => decide (s.now < x.1 + ms)) }
  let (a, s) := s.whole s.pAux
  s.put .pAux 0 a

/-- A sample of P_in has been taken at or after an instant. -/
def State.inputSince (s : State) (d : Option Ns) : Bool :=
  match d, s.auxHistory with
  | some x, y :: _ => decide (x ≤ y.1)
  | _, _ => false

/-- Fast protection judges P_in (R346, R350): its confirmation above the threshold, and the run at or below the release
band. -/
def State.judgeFast (s : State) : State :=
  let p := s.pIn
  let high := decide (s.fastThreshold < p)
  let band : Rat := ((s.capAt nodeTray s.now : Int) : Rat) * s.oneMinusG
  let f := s.fast
  let above := metSince f.above high s.now
  let low := metSince f.low (decide (p ≤ band)) s.now
  let s := { s with fast := { f with above, low, fired := f.fired && high } }
  if !s.fast.fired ∧ confirmed above (s.getN .fastPersist * us) s.now then s.fastConfirm
  else
    let active := s.accels.any (fun a => (s.getN .reefSources a).testBit 0)
    if active ∧ !s.fast.stepping then
      match low with
      | some x => s.setT .fastRelease 0 (some (x + s.getN .fastRelease * us))
      | none => s.disarm .fastRelease
    else s

/-- FAST_SENSE_SAMPLE (R62, R346, R326, R350). -/
def execFastSenseSample (t : Ns) (feeds : List FeedSample) (s : State) : Out :=
  let s := s.tick t
  .next (if s.onGrid us then
      let s := s.takeInput feeds
      if s.fastRuns then s.judgeFast else s
    else s)

/-- FAST_STAGE2_CHECK (R348): at the first sample at least FAST_STAGE2 after stage 1. -/
def execFastStage2Check (t : Ns) (s : State) : Out :=
  let s := s.tick t
  .next (if s.due .fastStage2 ∧ s.inputSince (s.timer .fastStage2 0) then
      let s := s.disarm .fastStage2
      if s.fastThreshold < s.pIn then
        let (s, mask) := s.raiseFast (fun _ => 7)
        (s.fastEvent 2 mask).arm .fastFurl 0 (s.getN .fastFurlTime * us)
      else s
    else s)

/-- FAST_FURL_EXPIRY (R348): a tray furl of origin 5. -/
def execFastFurlExpiry (t : Ns) (s : State) : Out :=
  let s := s.tick t
  .next (if s.due .fastFurl ∧ s.inputSince (s.timer .fastFurl 0) then
      let s := s.disarm .fastFurl
      if s.fastThreshold < s.pIn then (s.fastEvent 3 0).furlPlain 8 5 else s
    else s)

/-- One step down of source 0 of every accelerator; with the last, EV_FAST_REEF_RELEASED (R350). -/
def State.fastStepDown (s : State) : State :=
  let s := s.each s.accels (fun s a => if (s.getN .reefSources a).testBit 0 then s.stepReef a 0 (s.var .reefSrc (8 * a) - 1) else s)
  if s.accels.any (fun a => (s.getN .reefSources a).testBit 0) then s.arm .fastStep 0 (s.getN .fastStep * us)
  else
    let s := { s with fast := { s.fast with stepping := false } }.disarm .fastStep
    let (p, s) := s.whole s.pIn
    s.raise .fastReefReleased oDevice [((s.now - s.fast.confirmedAt) / 1000 : Nat), p]

/-- FAST_RELEASE_EXPIRY (R350). -/
def execFastReleaseExpiry (t : Ns) (s : State) : Out :=
  let s := s.tick t
  .next (if s.due .fastRelease ∧ s.fast.low.isSome then
      ({ s with fast := { s.fast with stepping := true } }.disarm .fastRelease).fastStepDown
    else s)

/-- REEF_STEP_DOWN (R350, R345): source 0 of every accelerator, or source 1 of one. -/
def execReefStepDown (t : Ns) (source1 : Option (Fin 8)) (s : State) : Out :=
  let s := s.tick t
  .next (match source1 with
    | none => if s.due .fastStep ∧ s.fast.stepping then s.fastStepDown else s
    | some a =>
      let a := a.val
      if s.due .complyStep a ∧ 0 ≤ s.var .reefUnder a ∧ s.varN .reefUnder a + ms ≤ s.now then
        let s := s.stepReef a 1 (s.var .reefSrc (8 * a + 1) - 1)
        if (s.getN .reefSources a).testBit 1 then s.arm .complyStep a (s.getN .fastStep * us) else s.disarm .complyStep a
      else s)

/-! ### Compliance (R345) -/

/-- An accelerator has drawn more than its grant for COMPLY_TIME (R345): counted, reefed to the level its grant gives, and
reported. -/
def State.overGrant (s : State) (a : Nat) (p : Rat) (grant : Int) : State :=
  let level := s.levelFor a grant
  let (pi, s) := s.whole p
  let s := ((s.setV .reefOverDone a 1).count .accelOverruns a).disarm .complyStep a
  ((s.journalSafety (oAccel a) 1).setReef a 1 level).raiseSafety .budgetOverrun (oAccel a) [a, level, pi, grant]

/-- COMPLIANCE_CHECK (R345): measured output power against the grant in force. -/
def execComplianceCheck (t : Ns) (a : Fin 8) (s : State) : Out :=
  let s := s.tick t
  let a := a.val
  let grant := s.grantAt (nodeAccel a) s.now
  let p := s.outputPower a 4
  let above := decide (((grant * (1000 + s.get .complyMargin) : Int) : Rat) / 1000 < p)
  let s := s.setV .reefOver a (if above then (if s.var .reefOver a < 0 then s.now else s.var .reefOver a) else -1)
  let s := s.when (!above) (fun s => s.setV .reefOverDone a 0)
  let s := s.setV .reefUnder a (if p ≤ (grant : Rat) then (if s.var .reefUnder a < 0 then s.now else s.var .reefUnder a) else -1)
  .next (if (s.regTile a).isNone then s
    else if above ∧ !s.flag .reefOverDone a ∧ s.varN .reefOver a + s.getN .complyTime * us ≤ s.now then s.overGrant a p grant
    else if (s.getN .reefSources a).testBit 1 ∧ 0 ≤ s.var .reefUnder a then
      s.armOnce .complyStep a (s.varN .reefUnder a + ms - s.now)
    else s)

/-- REEF_DURATION_EXPIRY (Table 8.6). -/
def execReefDurationExpiry (t : Ns) (a : Fin 8) (s : State) : Out :=
  let s := s.tick t
  .next (if s.due .reefCmd a.val then (s.disarm .reefCmd a.val).clearReef a.val 2 else s)

/-- The accelerators a reef command names. -/
def State.reefTargets (s : State) (o : ObjId) : Option (List Nat) :=
  if o = oDevice then some s.accels else if objCls o = 2 then some [objIdx o] else none

/-- REEF (Table 8.9). -/
def doReef (a : Arrival) (level duration : Nat) (s : State) : State × Res :=
  match s.reefTargets a.hdr.object with
  | none => (s, .st .badParam)
  | some l =>
    if 7 < level ∨ (duration ≠ 0 ∧ (duration < 10 ∨ 60000000 < duration)) then (s, .st .badParam)
    else (s.each l (fun s x => (s.setT .reefCmd x (if duration = 0 then none else some (s.now + duration * us))).setReef x 2 level), .st .ok)

def execReef (a : Arrival) (level duration : Nat) (s : State) : Out := .next (s.request a (.reef level duration) (doReef a level duration))

/-- RELEASE_REEF: source 2 only. -/
def doReleaseReef (a : Arrival) (s : State) : State × Res :=
  match s.reefTargets a.hdr.object with
  | none => (s, .st .badParam)
  | some l => (s.each l (fun s x => (s.disarm .reefCmd x).clearReef x 2), .st .ok)

def execReleaseReef (a : Arrival) (s : State) : Out := .next (s.request a .releaseReef (doReleaseReef a))

/-- The decrease lead of the level above a node (R323). -/
def decLead (n : Nat) : Ns := if n ≤ 1 then 200 * us else if n = 2 then 25 * us else if n < 16 then 5 * us else 0

/-- The node's split runs on another tray (R338, R341): the serial of that tray. -/
def State.foreignNode (s : State) (n : Nat) : Option Nat :=
  if !s.hasRatline then none
  else if n = nodeRack ∧ !s.isRackLeader then some (s.getN .rackLeader)
  else if n = nodeInstall ∧ !s.isMasthead then some (s.varN .rootSerial)
  else none

/-- SET_BUDGET (R323, R334, R338). -/
def doSetBudget (a : Arrival) (v : Int) (s : State) : State × Res :=
  let n := objIdx a.hdr.object
  if objCls a.hdr.object ≠ 0x14 ∨ !okPower n v then (s, .st .badParam)
  else match s.foreignNode n with
    | some serial => (s, .done .budgetNotLeader [u64 serial])
    | none =>
      if v < s.get .minGrant n then (s, .st .budgetBelowMin)
      else
        let old := s.get .limit n
        let lowers := decide ((if s.isGranted n then min v (s.get .grant n) else v) < s.capAt n s.now)
        let s := s.put .limit n v
        let s := s.modNode n (fun x => if lowers then { x with lims := x.lims ++ [(s.now + decLead n, old)] } else { x with lims := [] })
        (s.settleNode n, .st .ok)

def execSetBudget (a : Arrival) (limit : Int) (s : State) : Out := .next (s.request a (.setBudget limit) (doSetBudget a limit))

/-- SET_WEIGHT (Table 8.9). -/
def doSetWeight (a : Arrival) (w : Nat) (s : State) : State × Res :=
  let n := objIdx a.hdr.object
  if objCls a.hdr.object ≠ 0x14 then (s, .st .badParam)
  else if n < 8 then (s, .st .budgetLevel)
  else if w = 0 ∨ 255 < w then (s, .st .badParam)
  else (s.put .weight n w, .st .ok)

def execSetWeight (a : Arrival) (weight : Nat) (s : State) : Out := .next (s.request a (.setWeight weight) (doSetWeight a weight))

/-- The bound of Table 8.4 on a node's new minimum; ΣA(MIN_GRANT) is taken with the new value in place. -/
def State.minBound (s : State) (n : Nat) (v : Int) : Bool :=
  let mins (f : Nat → Int) : Rat := (s.accels.map (fun a => s.atInput (f (nodeAccel a) : Rat))).sum + s.get .auxFloor
  if 256 ≤ n then
    let a := (n - 256) / 32
    decide (((s.domainsOfAccel a).map (fun d => if nodeDomain d = n then v else s.get .minGrant (nodeDomain d))).sum ≤ s.get .minGrant (nodeAccel a))
  else if 8 ≤ n then
    decide (mins (fun m => if m = n then v else s.get .minGrant m) ≤ ((s.get .minGrant nodeTray : Int) : Rat) * 92 / 100)
  else if n = nodeTray then
    decide ((v : Rat) * s.get .rackMembers ≤ (s.get .limit nodeRack - s.get .rackOther nodeRack : Int)) &&
    decide (mins (fun m => s.get .minGrant m) ≤ (v : Rat) * 92 / 100)
  else decide (v * max 1 s.racks.length ≤ s.get .limit nodeInstall * 1000)

/-- SET_MIN_GRANT (R334). -/
def doSetMinGrant (a : Arrival) (v : Int) (s : State) : State × Res :=
  let n := objIdx a.hdr.object
  if objCls a.hdr.object ≠ 0x14 then (s, .st .badParam)
  else if n = 0 then (s, .st .budgetLevel)
  else if !okPower n v then (s, .st .badParam)
  else match s.foreignNode n with
    | some serial => (s, .done .budgetNotLeader [u64 serial])
    | none =>
      if s.get .limit n < v then (s, .st .budgetBelowMin)
      else if !s.minBound n v then (s, .st .budgetMinExceeds)
      else (s.put .minGrant n v, .st .ok)

def execSetMinGrant (a : Arrival) (minGrant : Int) (s : State) : Out :=
  .next (s.request a (.setMinGrant minGrant) (doSetMinGrant a minGrant))

/-- A local node's record (Table 8.10). -/
def State.grantRecord (s : State) (n : Nat) : List Fld × State :=
  let x := s.node n
  let (d, s) := s.whole x.deficit
  let bit (b : Bool) (k : Nat) : Nat := if b then 2 ^ k else 0
  let flags := bit (decide (s.get .minGrant n < s.get .demand n)) 0 + bit x.clipped 1 + bit x.rationed 2
    + bit ((n = nodeTray && s.flag .isolated 0) || (n = nodeRack && s.flag .isolated 1)) 3
  ([u32 (oNode n), u32 (s.get .limit n), u32 (s.get .minGrant n), u32 (s.get .demand n), u32 (s.get .grant n), u32 d, u32 (s.get .wsum n),
    u8 (if n < 8 then 0 else s.get .weight n), u8 (s.get .age n), u8 flags, rsv 1], s)

/-- A remote member's record: a tray by its serial, a rack by its RACK_ID. Its LIMIT is never reported here, and is free. -/
def State.memberRecord (s : State) (rack : Bool) (epoch : Nat) (x : BudgetMember) : List Fld × State :=
  let (d, s) := s.whole x.deficit
  let (limit, s) := s.draw
  let bit (b : Bool) (k : Nat) : Nat := if b then 2 ^ k else 0
  let flags := bit (decide (x.minGrant < x.demand)) 0 + bit x.rationed 2 + bit (x.flags.testBit 0) 3 + bit (decide (x.epoch ≠ epoch)) 4
    + bit (decide ((x.serial : Int) ≠ s.var .serial)) 5
  ([u32 ((if rack then x.rackId else x.serial % 4294967296 : Nat)), u32 limit, u32 x.minGrant, u32 x.demand, u32 x.last, u32 d, u32 x.wsum,
    u8 0, u8 x.age, u8 flags, rsv 1], s)

/-- READ_GRANTS (Tables 8.9, 8.10); the first child index is a place in the list of children. -/
def doReadGrants (a : Arrival) (s : State) : State × Res :=
  let n := objIdx a.hdr.object
  if objCls a.hdr.object ≠ 0x14 then (s, .st .badParam)
  else
    let len : Ns := if n = 0 then ms else if n = 1 then 100 * us else if n = 2 then 10 * us else 2 * us
    let here := (s.foreignNode n).isNone
    let kids : List (Nat ⊕ BudgetMember) :=
      if !here then []
      else if n = 0 then s.racks.map Sum.inr
      else if n = 1 then s.rackMembers.map Sum.inr
      else if n = 2 then s.accels.map (fun x => Sum.inl (nodeAccel x))
      else if n < 16 then (s.domainsOfAccel (n - 8)).map (fun d => Sum.inl (nodeDomain d))
      else []
    let shown := (kids.drop a.hdr.property).take 125
    let (own, s) := s.grantRecord n
    let (recs, s) := shown.foldl (fun (acc : List Fld × State) k =>
      let (r, s) := match k with
        | .inl m => acc.2.grantRecord m
        | .inr x => acc.2.memberRecord (decide (n = 0)) (epochNo len acc.2.now) x
      (acc.1 ++ r, s)) ([], s)
    (s, .done .ok ([u64 (s.now / len * len : Nat), u32 (1 + shown.length), u32 kids.length] ++ own ++ recs))

def execReadGrants (a : Arrival) (s : State) : Out := .next (s.request a .readGrants (doReadGrants a))

end Sys2Proof.Machine
end

