-- ==== Sys2Proof/Machine/Lockstep.lean ====
section
/-! DEFINITION. Lockstep groups (R410–R427, R434). -/

namespace Sys2Proof.Machine

/-- The length of a round (R413). -/
def roundLen : Ns := 250 * us

/-- The groups with members here, in rising order. -/
def State.localGroups (s : State) : List Nat :=
  (s.lockedAccels.filterMap s.groupOf).foldl (fun l g =>
    if g ∈ l then l else l.filter (fun x => decide (x < g)) ++ [g] ++ l.filter (fun x => decide (g < x))) []

/-- A group's grid, as a member's tray knows it. -/
def State.gridOf (s : State) (g : Nat) : Nat := max 1 (s.lockGroups.get {} g).grid

/-- R_r of the round in progress. -/
def State.roundAt (s : State) : Ns := s.varN .lockRound * roundLen

/-- The tray takes part in rounds (R423). -/
def State.takesPart (s : State) : Bool :=
  s.locked || (decide (s.timeState = 3) && decide (s.timeError ≤ s.get .lockTimeLimit)) || (decide (s.timeState = 1) && s.isMasthead)

/-- A member is absent at the beginning of a round (R425). -/
def State.isAbsent (s : State) (a : Nat) : Bool :=
  decide (s.get .accelPresence a ≠ 2) || s.furled a || decide (s.var .telAt a < 0)
    || decide (s.var .telAt a < (s.now - roundLen : Nat))

/-- The proposal of a member (R414). -/
def State.propose (s : State) (a grid : Nat) : Nat :=
  let k := s.getN .reefLevel a
  let l := [(s.telemetry.get {} a).sustain, s.varN .fMax a] ++ (if s.flag .reefTable a then [s.varN .reefFreq (8 * a + k)] else [])
    ++ (if s.get .groupFmax a = 0 then [] else [s.getN .groupFmax a])
  let low := l.foldl min (s.varN .fMax a)
  max (low / grid * grid) ((s.varN .fMin a + grid - 1) / grid * grid)

/-! ### Lagging and suspension (R421, R422) -/

/-- A member is suspended; its count of rounds towards readmission starts again. -/
def State.suspend (s : State) (a : Nat) : State :=
  if s.get .lockState a = lsSuspended then s.modMember a (fun x => { x with okRun := 0 })
  else
    let s := (s.put .lockState a lsSuspended).modMember a (fun x => { x with okRun := 0, suspended := true })
    s.raise .lockSuspended (oAccel a) [s.get .lockGroup a, a, 0, s.roundNo]

/-- A member lags in this round (R421): once a round, by the cause that came first. -/
def State.noteLag (s : State) (a cause : Nat) : State :=
  let x := s.lockMember a
  if x.lagged then s
  else
    let s := (s.modMember a (fun x => { x with lagged := true, cause })).count .lagRounds a
    let s : State := if s.get .lockState a = lsInStep then
        (s.put .lockState a lsLagging).raise .lockLaggard (oAccel a)
          [s.get .lockGroup a, a, cause, x.committed, x.applied, x.lateness]
      else s
    if s.var .lagPolicyIn = 1 ∧ s.var .lagLimitIn ≤ s.get .lagRounds a ∧ s.get .lockState a = lsLagging then s.suspend a else s

/-- A round has ended: a member that did not lag in it is back in step. -/
def State.endLag (s : State) (a : Nat) : State :=
  let x := s.lockMember a
  let s : State := if x.lagged ∨ !x.sent then s
    else
      let s := s.put .lagRounds a 0
      if s.get .lockState a = lsLagging then s.put .lockState a lsInStep else s
  s.modMember a (fun x => { x with lagged := false, sent := false })

/-! ### Commits (R416, R417) -/

/-- FREQ_COMMIT to one member (Table 5.8). -/
def State.sendFreq (s : State) (a : Nat) (at_ : Ns) (freq group g : Nat) : State :=
  let s := s.modMember a (fun x => { x with
    round := s.roundNo, committed := freq, at_, g, sent := true, acked := false, low := 0 })
  s.sendAccel a 0x07 [at_, freq, group, s.roundNo]

/-- The suspended member's readmission: four rounds in a row with a proposal of at least g (R422). -/
def State.readmit (s : State) (a g : Nat) : State :=
  if s.get .lockState a ≠ lsSuspended then s
  else
    let run := if (g : Int) ≤ s.get .proposal a then (s.lockMember a).okRun + 1 else 0
    let s := s.modMember a (fun x => { x with okRun := run })
    if run < 4 then s
    else
      let s := ((s.put .lockState a lsInStep).put .lagRounds a 0).modMember a (fun x => { x with suspended := false })
      s.raise .lockSuspended (oAccel a) [s.get .lockGroup a, a, 1, s.roundNo]

/-- A member that has departed or is furled takes no part in the rest of a round (R425). -/
def State.outOfRound (s : State) (a : Nat) : Bool := decide (s.get .accelPresence a ≠ 2) || s.furled a

/-- The tray misses a round, cause 0 (R417): its members lag in it with cause 5. -/
def State.missRound (s : State) : State :=
  (s.each (s.lockedAccels.filter (fun a => decide (s.get .lockState a ≠ lsAbsent))) (fun s a => s.noteLag a 5)).raise
    .lockRoundMissed oDevice [0, s.roundNo]

/-- A commit arrives at this tray (R417): every group it names takes its g, and the members here are told in time, or the
round is missed. -/
def State.takeCommit (s : State) (m : LockCommit) : State :=
  if m.round ≠ s.roundNo ∨ !s.flag .lockTakes ∨ s.flag .lockTaken then s
  else
    let late := decide (m.at_ < s.now + 20 * us)
    let s := (s.setV .lockTaken 0 1).each m.entries (fun s e =>
        let x := s.lockGroups.get {} e.group
        let old := s.getN .groupFreq e.group
        let s := (s.put .groupFreq e.group e.freq).put .groupRound e.group m.round
        let s : State := { s with lockGroups := s.lockGroups.put {} e.group { x with
          grid := e.grid, at_ := m.at_, members := e.members, flags := e.flags } }
        let quiet (ev : Option Ns) (d : Ns) : Bool := ev.any (fun t => decide (s.now < t + d))
        let s : State := if old ≠ e.freq ∧ !quiet x.freqEv ms then
            let s : State := { s with lockGroups := s.lockGroups.put {} e.group { s.lockGroups.get ({} : LockGroup) e.group with freqEv := some s.now } }
            s.raise .lockFreq (oGroup e.group) [e.group, old, e.freq, e.flags, m.round, m.at_]
          else s
        let s : State := if e.flags % 2 = 1 ∧ !quiet x.partEv sec then
            let s : State := { s with lockGroups := s.lockGroups.put {} e.group { s.lockGroups.get ({} : LockGroup) e.group with partEv := some s.now } }
            s.raise .lockPartial (oGroup e.group) [e.group, m.round, e.members]
          else s
        s.each ((s.localOf e.group).filter (fun a => decide (s.get .lockState a ≠ lsAbsent))) (fun s a =>
          if late then s
          else if s.outOfRound a then s.put .lockState a lsAbsent
          else (s.sendFreq a m.at_ (min e.freq (s.getN .proposal a)) e.group e.freq).readmit a e.freq))
    if late then s.missRound else s

/-- A commit goes on to the children. -/
def State.relayCommit (s : State) (m : LockCommit) : State :=
  let body : List Int := [(m.masthead : Int), m.round, m.entries.length, m.at_]
    ++ m.entries.flatMap (fun e => [(e.group : Int), e.freq, e.grid, e.flags, e.members])
  s.each s.downPorts (fun s p => s.ratLink p 2 0x29 body)

/-- Two lists of entries merged group by group (R415): FREQ takes the minimum, MEMBERS the sum. -/
def mergeEntry (l : List LockEntry) (e : LockEntry) : List LockEntry :=
  match l.find? (fun x => x.group = e.group) with
  | some x =>
    let y := { x with freq := min x.freq e.freq, members := x.members + e.members, flags := x.flags ||| e.flags }
    l.map (fun z => if z.group = e.group then y else z)
  | none => l.filter (fun x => decide (x.group < e.group)) ++ [e] ++ l.filter (fun x => decide (e.group < x.group))

/-- Every child has reported (R590). -/
def State.lockWhole (s : State) : Bool := s.downPorts.all (fun p => p ∈ s.lockHeard)

/-- LOCK_UP towards the masthead (R415). -/
def State.sendLockUp (s : State) : State :=
  if s.flag .lockUpSent ∨ s.var .upPort < 0 then s
  else
    let body : List Int := [s.var .serial, s.roundNo, s.lockSum.length]
      ++ s.lockSum.flatMap (fun e => [(e.group : Int), e.freq, e.grid, e.flags, e.members])
    (s.setV .lockUpSent 0 1).ratLink (s.varN .upPort) 2 0x28 body

/-- The wait of the round's reduction is over (R591): R_r + 2 µs + 20 µs a level of height. -/
def State.lockWaited (s : State) : Bool := decide (s.roundAt + 2 * us + s.getN .height * (20 * us) ≤ s.now)

/-- The wait of a lockstep round closes (R591): R_r + 2 µs + 20 µs a level of height. A child that has not reported is
missing. -/
def State.lockClose (s : State) : State :=
  if s.flag .lockTakes ∧ !s.flag .lockUpSent ∧ 0 ≤ s.var .lockRound ∧ !s.isMasthead
      ∧ s.lockWaited then
    ((if s.lockWhole then s else s.setV .lockShort 0 1)).sendLockUp
  else s

/-- The masthead's entry for one group (R416): a marked round may lower g and never raise it. Bit 0 marks a partial round,
bit 1 one in which a raise is withheld, be it for a new masthead's first two rounds (the reading of GFLAGS is the model's,
log entry 275). -/
def TableGroup.commit (x : TableGroup) (e : LockEntry) (short first : Bool) : LockEntry :=
  let g := if (short || first) && decide (x.g ≠ 0) then min e.freq x.g else e.freq
  { e with freq := g, flags := (if short then 1 else 0) + (if first || decide (g < e.freq) then 2 else 0) }

/-- The masthead's commit of a round (R416), from the table's groups that the reduction holds; a group unseen for 16 rounds leaves the
table. -/
def State.sendCommit (s : State) (at_ : Ns) : State :=
  let short := s.flag .lockShort || !s.lockWhole
  let first := decide (s.var .lockMast ≤ 2)
  let known (g : Nat) : Option TableGroup := s.lockTable.find? (fun x => x.group = g)
  let out := s.lockSum.filterMap (fun e => (known e.group).map (fun x => x.commit e short first))
  let m : LockCommit := { masthead := s.varN .serial, round := s.roundNo, at_, entries := out }
  let s : State := { s with lockTable := (s.lockTable.map (fun x => match out.find? (fun e => e.group = x.group) with
    | some e => { x with g := e.freq, unseen := 0 }
    | none => { x with unseen := x.unseen + 1 })).filter (fun x => decide (x.unseen < 16)) }
  ((s.setV .lockUpSent 0 1).relayCommit m).takeCommit m

/-- LOCK_COMMIT_SEND (R416): on completion of the reduction, whole or partial, or at AT − 40 µs. -/
def execLockCommitSend (t : Ns) (s : State) : Out :=
  let s := s.tick t
  let at_ := s.roundAt + s.varN .lockLead * us
  .next (if !s.flag .lockTakes ∨ !s.isMasthead ∨ s.flag .lockUpSent ∨ s.var .lockRound < 0 then s
    else if !(s.lockWhole || s.lockWaited || decide (at_ ≤ s.now + 40 * us)) then s
    else s.sendCommit at_)

/-- LOCK_COMMIT (R417): from the parent; it goes on to the children and is acted on. -/
def execLockCommit (t : Ns) (p : Fin 10) (m : LockCommit) (s : State) : Out :=
  let s := s.tick t
  .next (if (p.val : Int) = s.var .upPort then (s.relayCommit m).takeCommit m else s)

/-- A group that an entry names is in the table (R420), with the g this tray saw committed last. -/
def State.heardGroup (s : State) (l : List TableGroup) (e : LockEntry) : List TableGroup :=
  if l.any (fun x => x.group = e.group) ∨ 256 ≤ l.length then l
  else l ++ [{ group := e.group, grid := e.grid, g := s.getN .groupFreq e.group }]

/-- LOCK_UP (R415, R420): a child's entries are merged; the masthead takes new groups into its table from them. -/
def execLockUp (t : Ns) (p : Fin 10) (m : LockUp) (s : State) : Out :=
  let s := s.tick t
  .next (if s.get .portRole p.val ≠ 3 ∨ m.round ≠ s.roundNo ∨ !s.flag .lockTakes ∨ s.flag .lockUpSent ∨ p.val ∈ s.lockHeard then s
    else
      let s := { s with lockSum := m.entries.foldl mergeEntry s.lockSum, lockHeard := s.lockHeard ++ [p.val] }
      let s : State := if m.short then s.setV .lockShort 0 1 else s
      if s.isMasthead then
        { s with lockTable := m.entries.foldl s.heardGroup s.lockTable }
      else if s.lockWhole then s.sendLockUp else s)

/-! ### Membership commands -/

/-- The members of a join enter their group as joining. -/
def State.lockEnter (s : State) (c : LockCmd) : State :=
  let s : State := { s with lockGroups := s.lockGroups.put {} c.group { s.lockGroups.get ({} : LockGroup) c.group with grid := c.grid } }
  let s := s.each ((List.range 8).filter (fun a => c.mask.testBit a)) (fun s a =>
    ((s.put .lockGroup a c.group).put .lockState a lsJoining).modMember a (fun _ => {}))
  s.syncGroup c.group

/-- What the masthead answers to a join: 0 accepted, 1 grid differs, 2 table full; nothing while its table is not
rebuilt (R420). -/
def State.joinTable (s : State) (group grid : Nat) : Option Nat :=
  match s.lockTable.find? (fun x => x.group = group) with
  | some x => some (if x.grid = grid then 0 else 1)
  | none => if s.var .lockMast ≤ 2 then none else if 256 ≤ s.lockTable.length then some 2 else some 0

/-- An accepted group is in the table. -/
def State.tableAdd (s : State) (group grid : Nat) : State :=
  if s.lockTable.any (fun x => x.group = group) then s
  else { s with lockTable := s.lockTable ++ [{ group, grid }] }

/-- LOCK_JOIN (R411, R420): the masthead answers, with LOCK_JOIN_ACK. -/
def execLockJoin (t : Ns) (serial group grid src : Nat) (s : State) : Out :=
  let s := s.tick t
  .next (if !s.isMasthead ∨ !s.featuresUp.testBit 7 then s
    else match s.joinTable group grid with
    | none => s
    | some st =>
      let s : State := if st = 0 then s.tableAdd group grid else s
      let own : Int := match s.lockTable.find? (fun x => x.group = group) with | some x => (x.grid : Int) | none => 0
      s.ratTree 2 0x2B src serial [(serial : Int), group, st, own])

/-- LOCK_JOIN_ACK (Table 10.3). -/
def execLockJoinAck (t : Ns) (group status _grid : Nat) (s : State) : Out :=
  let s := s.tick t
  .next (match s.lockCmds.find? (fun c => c.group = group ∧ c.ackDue.isSome ∧ !c.leave) with
    | none => s
    | some c =>
      match status with
      | 0 =>
        let c' : LockCmd := { c with ackDue := none }
        ({ s with lockCmds := s.lockCmds.map (fun x => if x = c then c' else x) }).lockEnter c'
      | 1 => s.lockDone c .lockGrid
      | _ => s.lockDone c .lockGroupsFull)

/-- LOCK_JOIN_TIMEOUT (Table 10.3). -/
def execLockJoinTimeout (t : Ns) (s : State) : Out :=
  let s := s.tick t
  let late := s.lockCmds.filter (fun c => c.ackDue.any (fun d => decide (d ≤ s.now)))
  .next (s.each late (fun s c => s.lockDone c .lockNotReached))

/-- JOIN_GROUP (R434, Table 10.4). -/
def doJoinGroup (a : Arrival) (mask grid : Nat) (s : State) : State × Res :=
  let o := s.originOf a .joinGroup
  let g := objIdx a.hdr.object
  let as_ := (List.range 8).filter (fun i => mask.testBit i)
  if objCls a.hdr.object ≠ 0x15 ∨ grid = 0 ∨ 1000 < grid ∨ 256 ≤ mask then (s, .st .badParam)
  else if g = 65535 ∨ as_.any (fun i => !s.hasAccel i) then (s, .st .badParam)
  else if as_.any (fun i => s.isHeld (oAccel i)) then (s, .st .busy)
  else if as_.any (fun i => decide (s.get .accelPresence i ≠ 2)) then (s, .st .partnerLost)
  else if as_.any (fun i => !(s.varN .caps i).testBit 1) then (s, .st .lockCaps)
  else if as_.any (fun i => (s.groupOf i).isSome) then (s, .st .lockInGroup)
  else if as_.any (fun i => s.varN .fStep i = 0 ∨ grid % s.varN .fStep i ≠ 0) then (s, .st .lockGrid)
  else if s.isMasthead ∧ s.joinTable g grid = some 1 then (s, .st .lockGrid)
  else if !s.takesPart then (s, .st .lockTime)
  else if s.isMasthead ∧ s.joinTable g grid = some 2 then (s, .st .lockGroupsFull)
  else
    let c : LockCmd := { origin := o, group := g, mask, grid }
    let s := s.hold o (as_.map oAccel)
    if s.isMasthead ∧ s.joinTable g grid = some 0 then
      (({ s with lockCmds := s.lockCmds ++ [c] }.tableAdd g grid).lockEnter c, .accepted [])
    else
      let s : State := { s with lockCmds := s.lockCmds ++ [{ c with ackDue := some (s.now + ms) }] }
      (s.ratTree 2 0x2A 0x0FFFFFFF 0 [s.var .serial, g, grid], .accepted [])

def execJoinGroup (a : Arrival) (mask grid : Nat) (s : State) : Out :=
  .next (s.request a (.joinGroup mask grid) (doJoinGroup a mask grid))

/-- LEAVE_GROUP (R434). -/
def doLeaveGroup (a : Arrival) (mask : Nat) (s : State) : State × Res :=
  let o := s.originOf a .leaveGroup
  let g := objIdx a.hdr.object
  let as_ := (List.range 8).filter (fun i => mask.testBit i)
  if objCls a.hdr.object ≠ 0x15 ∨ 256 ≤ mask then (s, .st .badParam)
  else if as_.any (fun i => s.isHeld (oAccel i)) then (s, .st .busy)
  else if as_.any (fun i => s.groupOf i ≠ some g) then (s, .st .lockNotMember)
  else
    let s := (s.hold o (as_.map oAccel)).each as_ (fun s i => s.modMember i (fun x => { x with leaving := true }))
    ({ s with lockCmds := s.lockCmds ++ [{ origin := o, group := g, mask, leave := true, waitFor := as_ }] }, .accepted [])

def execLeaveGroup (a : Arrival) (mask : Nat) (s : State) : Out := .next (s.request a (.leaveGroup mask) (doLeaveGroup a mask))

/-- READ_GROUP (Table 10.3). -/
def doReadGroup (a : Arrival) (s : State) : State × Res :=
  let g := objIdx a.hdr.object
  let x := s.lockGroups.get {} g
  if objCls a.hdr.object ≠ 0x15 then (s, .st .badParam)
  else if (s.localOf g).isEmpty ∧ s.get .groupRound g = 0 ∧ s.get .groupFreq g = 0 then (s, .st .notPresent)
  else
    let row (i : Nat) : List Fld :=
      if s.groupOf i = some g then
        let m := s.lockMember i
        [u8 (s.get .lockState i), u8 m.cause, u16 (s.get .proposal i), u16 m.applied, u16 (s.get .lagRounds i)]
      else [u8 0, u8 0, u16 0, u16 0, u16 0]
    (s, .done .ok ([u32 (s.get .groupRound g), u16 (s.get .groupFreq g), u16 x.grid, u64 x.at_, u32 x.members, u8 x.flags,
      u8 (s.get .localMembers g), rsv 2] ++ (List.range 8).flatMap row))

def execReadGroup (a : Arrival) (s : State) : Out := .next (s.request a .readGroup (doReadGroup a))

/-! ### Rounds (R413–R415, R423–R425) -/

/-- Members leave at this round (Table 10.3): each is released from AT on. The FREQ of a release means nothing and is a
free value. -/
def State.roundLeave (s : State) : State :=
  let at_ := s.now + s.varN .lockLead * us
  let go := s.lockedAccels.filter (fun a => (s.lockMember a).leaving)
  let s := s.each go (fun s a =>
    let (f, s) := s.draw
    (s.leaveGroup a).sendAccel a 0x07 [at_, f % 65536, 0xFFFF, s.roundNo])
  { s with lockCmds := s.lockCmds.map (fun c => if c.leave && c.done.isNone then { c with done := some (at_ + 20 * us), round := s.roundNo } else c) }

/-- Joins that have not come into step within 16 rounds are withdrawn. -/
def State.roundJoins (s : State) : State :=
  let s : State := { s with lockCmds := s.lockCmds.map (fun c => if c.leave || c.ackDue.isSome then c else { c with rounds := c.rounds + 1 }) }
  s.each (s.lockCmds.filter (fun c => decide (16 < c.rounds))) (fun s c => s.lockWithdraw c .lockNotReached)

/-- A member's state and proposal at R_r (R414, R425). -/
def State.roundMember (s : State) (a : Nat) : State :=
  match s.groupOf a with
  | none => s
  | some g =>
    if s.isAbsent a then s.put .lockState a lsAbsent
    else
      let s : State := if s.get .lockState a = lsAbsent then s.put .lockState a (if (s.lockMember a).suspended then lsSuspended
        else if (s.lockMember a).joined then lsInStep else lsJoining) else s
      s.put .proposal a (s.propose a (s.gridOf g))

/-- The tray's own entry for a group; none where all its members are absent or suspended (R415, R422). -/
def State.ownEntry (s : State) (g : Nat) : Option LockEntry :=
  let ms := (s.localOf g).filter (fun a => decide (s.get .lockState a ≠ lsAbsent) && decide (s.get .lockState a ≠ lsSuspended))
  match ms.map (fun a => s.getN .proposal a) with
  | [] => none
  | p :: ps => some { group := g, freq := ps.foldl min p, grid := s.gridOf g, members := ms.length
                      flags := if ms.any (fun a => decide (s.get .lockState a = lsLagging)) then 1 else 0 }

/-- A tray that takes no part (R423): its members follow its own counter and are suspended. -/
def State.roundAlone (s : State) : State :=
  let s := s.raise .lockRoundMissed oDevice [2, s.roundNo]
  let at_ := s.now + s.varN .lockLead * us
  s.each (s.lockedAccels.filter (fun a => decide (s.get .lockState a ≠ lsAbsent))) (fun s a =>
    let g := (s.groupOf a).getD 0
    let prev := s.getN .groupFreq g
    let p := s.getN .proposal a
    ((s.noteLag a 5).suspend a).sendFreq a at_ (if prev = 0 then p else min prev p) g prev)

/-- A round begins (R413): a round whose LOCK_COMMIT never came is missed, its predecessors' lag is judged, missed rounds are reported, members and groups are settled, and the tray's
own entries are formed. -/
def State.startRound (s : State) : State :=
  let s : State := if s.flag .lockTakes ∧ !s.flag .lockTaken ∧ !s.lockedAccels.isEmpty then s.missRound else s
  let s := s.each s.lockedAccels State.endLag
  let s := ((s.setV .lockTaken 0 0 |>.setV .lockLead 0 (s.get .lockCommitLead)).setV .lagPolicyIn 0 (s.get .lagPolicy)).setV .lagLimitIn 0 (s.get .lagLimit)
  let s := s.setV .lockRound 0 (s.now / roundLen : Nat) |>.setV .lockUpSent 0 0 |>.setV .lockShort 0 0 |>.setV .lockTakes 0 0
  let s : State := { s with lockSum := [], lockHeard := [] }
  if s.journal.stalled then s.setV .lockMissed 0 (s.var .lockMissed + 1)
  else
    let missed := s.varN .lockMissed
    let s := s.each (List.range missed) (fun s i =>
      s.raise .lockRoundMissed oDevice [1, ((s.varN .lockRound - missed + i) % 4294967296 : Nat)])
    let s := s.each (if missed = 0 then [] else s.lockedAccels) (fun s a => s.noteLag a 5)
    let s := (s.setV .lockMissed 0 0).setV .lockMast 0 (if s.isMasthead then s.var .lockMast + 1 else 0)
    let s : State := if s.var .lockMast = 1 ∨ !s.isMasthead then { s with lockTable := [] } else s
    let s := s.roundLeave.roundJoins
    let s := s.each s.lockedAccels State.roundMember
    if !s.takesPart then s.roundAlone
    else
      let s := s.setV .lockTakes 0 1
      let own := s.localGroups.filterMap s.ownEntry
      let s : State := { s with lockSum := own }
      let s : State := if s.isMasthead then { s with lockTable := own.foldl s.heardGroup s.lockTable }
        else s
      if s.downPorts.isEmpty ∧ !s.isMasthead then s.sendLockUp else s

/-- LOCK_ROUND (R413): at R_r. -/
def execLockRound (t : Ns) (s : State) : Out :=
  let s := s.tick t
  .next (if !s.featuresUp.testBit 7 ∨ s.now % roundLen ≠ 0 ∨ s.get .powerState ≠ psRunning then s
    else s.startRound)

/-! ### Acknowledgements (R418, R421) -/

/-- FREQ_ACK (R418, R421). -/
def State.takeFreqAck (s : State) (a round freq outcome : Nat) (lateness : Int) : State :=
  let s := s.each (s.lockCmds.filter (fun c => c.leave ∧ c.done.isSome ∧ a ∈ c.waitFor ∧ c.round = round)) (fun s c =>
    let c' : LockCmd := { c with waitFor := c.waitFor.erase a }
    let s : State := { s with lockCmds := s.lockCmds.map (fun x => if x = c then c' else x) }
    if c'.waitFor.isEmpty then s.lockDone c' .ok else s)
  let x := s.lockMember a
  if (s.groupOf a).isNone ∨ !x.sent ∨ x.acked ∨ x.round ≠ round then s
  else
    let s := s.modMember a (fun x => { x with acked := true, applied := freq, lateness })
    match outcome with
    | 0 =>
      let s := s.modMember a (fun x => { x with joined := true })
      let s : State := if s.get .lockState a = lsJoining then s.put .lockState a lsInStep else s
      let s : State := if x.committed < x.g then s.noteLag a 3 else s
      s.each (s.lockCmds.filter (fun c => !c.leave && c.ackDue.isNone && c.mask.testBit a
          && (List.range 8).all (fun i => !c.mask.testBit i || (s.lockMember i).joined))) (fun s c => s.lockDone c .ok)
    | 1 => s.noteLag a 0
    | _ => s.noteLag a 1

def execFreqAck (t : Ns) (a : Fin 8) (round freq outcome : Nat) (lateness : Int) (s : State) : Out :=
  .next ((s.tick t).takeFreqAck a.val round freq outcome lateness)

/-- FREQ_ACK_DEADLINE (R421): AT + 20 µs. -/
def execFreqAckDeadline (t : Ns) (s : State) : Out :=
  let s := s.tick t
  let s := s.each (s.lockedAccels.filter (fun a =>
    let x := s.lockMember a
    x.sent && !x.acked && decide (x.at_ + 20 * us ≤ s.now))) (fun s a => s.noteLag a 2)
  .next (s.each (s.lockCmds.filter (fun c => c.done.any (fun d => decide (d ≤ s.now)))) (fun s c => s.lockDone c .ok))

/-- TELEMETRY of a member after AT (R421): the second in a row below the committed frequency lags. -/
def State.lockTelemetry (s : State) (a freq : Nat) : State :=
  let s := s.setV .telAt a s.now
  let x := s.lockMember a
  if (s.groupOf a).isNone ∨ x.committed = 0 ∨ s.now < x.at_ then s
  else
    let low := if freq < x.committed then x.low + 1 else 0
    let s := s.modMember a (fun x => { x with low })
    if 2 ≤ low then s.noteLag a 4 else s

end Sys2Proof.Machine
end

