-- ==== Sys2Proof/Machine/Tiles.lean ====
section
/-! DEFINITION. Tiles that leave and join: fences, the election of a leader, handovers, rejoining, and the tiles that
regulate the accelerators (R148–R180). -/

namespace Sys2Proof.Machine

/-! ### Loop load (R175–R178) -/

/-- The primary tile of an accelerator (Table 4.10). -/
def primaryTile (a : Nat) : Nat := [0, 0, 1, 1, 1, 2, 2, 2].getD a 0

/-- The tile that regulates an accelerator with the tiles now in service (R175, R177, Tables 4.10 and 4.1). -/
def State.loopTarget (s : State) (a : Nat) : Option Nat :=
  match s.tilesIn with
  | [2] | [] => none
  | [t] => some t
  | [0, 1, 2] => some (primaryTile a)
  | l => if 2 ∈ l then some (lossTile (if 0 ∈ l then 1 else 0) a) else some (lossTile 2 a)

/-- COEFF_SET follows the regulating tiles (R279). -/
def State.syncCoeffs (s : State) : State :=
  s.each s.domainsDeclared (fun s d => match s.regDom d with
    | some t => s.put .coeffSet d (s.coeffSet t)
    | none => s)

/-- One tile regulates an accelerator from now on, with all its domains. -/
def State.moveLoop (s : State) (a : Nat) (dest : Option Nat) : State :=
  let bit := 2 ^ a
  let s := s.each (List.range 32) (fun s j => if (s.dom (32 * a + j)).mirrored then s.modDom (32 * a + j) (fun x => { x with mirrored := false }) else s)
  s.each [0, 1, 2] (fun s t =>
    let m := s.getN .loopAccels t
    let off := if m.testBit a then m - bit else m
    s.put .loopAccels t (if dest = some t then off + bit else off : Nat))

/-- Domains whose mirror tile left service are their accelerator's again (R176). -/
def State.unmirror (s : State) : State :=
  s.each s.domainsDeclared (fun s d =>
    if (s.dom d).mirrored && !(s.regDom d).any s.inService then s.modDom d (fun x => { x with mirrored := false }) else s)

/-- Every accelerator whose regulating tile is out of service is taken over (R176, Table 4.10); in SOLO all are. -/
def State.takeLoops (s : State) : State :=
  (s.each (List.range s.member.accels) (fun s a =>
    match s.regTile a with
    | some t => if s.inService t ∧ s.tilesIn ≠ [2] then s else s.moveLoop a (s.loopTarget a)
    | none => s.moveLoop a (s.loopTarget a))).unmirror.syncCoeffs

/-! ### Leadership (R151, R165–R170, R183) -/

/-- A request admitted again by a new leader (R167): where R102 still admits it, it waits as if it came now; else it is answered. -/
def State.takeAgain (s : State) (w : Waiting) : State :=
  match s.checks w.arr w.body true, w.body.op with
  | .ok, _ => { s with waiting := s.waiting ++ [{ w with since := s.now, cap := s.getN .ageCap, weights := s.getN .arbWeights }] }
  | st, some op => s.answer (s.originOf w.arr op) st [] s.journal.committed
  | _, none => s

/-- What waits for a request whose entry no survivor holds. -/
def Unapplied.wait (x : Unapplied) (now : Ns) : Waiting :=
  { arr := x.arr, body := x.body, since := now
    cls := (classOf x.arr.binding x.arr.queue x.arr.hdr.safety x.origin.op).getD .bulk }

/-- Entries of the old term that are written again in the new one, and the CSNs they had and have. -/
def State.rewrite (x : State × List (Nat × Nat)) (e : Entry) : State × List (Nat × Nat) :=
  let csn := x.1.journal.assigned + 1
  let e := match x.1.endings.find? (fun y => decide (e.kind = .final) && decide (y.csn = e.csn)) with
    | some y => { e with body := y.body csn }
    | none => e
  let s := x.1.journalWrite e
  (s, x.2 ++ [(e.csn, s.journal.assigned)])

/-- The CSN an entry has in the new term. -/
def newCsn (top : Nat) (m : List (Nat × Nat)) (c : Nat) : Nat :=
  if c ≤ top then c else ((m.find? (fun x => x.1 = c)).map (·.2)).getD top

/-- CSNs past `top` follow the entries that were written again; where the entry is gone, its CSN is too (R166). -/
def State.renumber (s : State) (top : Nat) (m : List (Nat × Nat)) : State :=
  let f := newCsn top m
  let reply (o : Outst) : Outst := { o with reply := o.reply.map (fun r => { r with commitCsn := f r.commitCsn }) }
  { s with
    lastCsn := s.lastCsn.entries.foldl (fun t x => t.put 0 x.1 (f x.2)) s.lastCsn
    cmdCsn := s.cmdCsn.entries.foldl (fun t x => t.put 0 x.1 (if x.2 ≤ top ∨ m.any (fun y => y.1 = x.2) then f x.2 else 0)) s.cmdCsn
    outst := s.outst.map reply
    orphans := s.orphans.map reply
    endings := s.endings.map (fun x => { x with csn := f x.csn }) }

/-- What APPLY_BEGIN marks and the new owner applies once more (Tables 4.8, 4.15): an effect that is a target state, and an IDEMPOTENT
ETCH that ran on the flash bus of the tile lost. What runs on a tile that stays goes on there, and other effects end with the hardware
they acted on (log entry 252). -/
def redone (lost : Nat) (o : Origin) : Bool :=
  decide (o.op = .enableRail) || (decide (o.op = .etch ∧ lost = 0) && o.idempotent)

/-- The winner of an election brings the other survivor up to date (R165), and entries that no survivor holds are discarded (R166). Of
those, SAFETY entries lead the new term with their own stamps, then the MEMBERSHIP entry (R170); what firmware, or an effect that has
happened, wrote is written again. Requests without a committed entry are admitted again in their order, except those of a lost tile's
bindings (R167). Commands between APPLY_BEGIN and APPLY_END that are target states are applied once more and counted (R168); those of
the lost tile's own hardware ended with it. -/
def State.electLeader (s : State) (winner lost : Nat) (cause : Int) : State :=
  let top := s.getN .ackCsn winner
  let old := s.leader
  let gone := s.journal.entries.filter (fun e => decide (top < e.csn))
  let kept := s.journal.entries.filter (fun e => decide (e.csn ≤ top))
  let back := (s.unapplied.filter (fun x => decide (top < x.csn) && !s.onTile lost x.arr.binding)).map (Unapplied.wait · s.now)
  let order (w : Waiting) : Nat := match w.body.op with | some op => (s.originOf w.arr op).id | none => 0
  let again := sortBy (fun x y => decide (order x ≤ order y)) (back ++ s.waiting)
  let s : State := { s with
    journal := { s.journal with assigned := top, nand := min s.journal.nand top, entries := kept
                                ring := match gone with | e :: _ => e.addr | [] => s.journal.ring }
    waiting := [], unapplied := s.unapplied.filter (fun x => decide (x.csn ≤ top)) }
  let s := s.each (s.tilesIn.filter (fun t => t ≠ winner)) (fun s t => s.catchUp winner t)
  let s := (s.lead winner).commitUp
  let x := (gone.filter (fun e => decide (e.kind = .safety))).foldl State.rewrite (s, [])
  let x := (x.1.journalMembers cause, x.2)
  let x := (gone.filter (fun e => decide (e.kind = .applyBegin ∨ e.kind = .applyEnd ∨ e.kind = .final)
    || (decide (e.kind = .command) && e.request.isNone && !s.onTile lost e.origin.binding))).foldl State.rewrite x
  let s := ((x.1.renumber top x.2).leadEnds lost cause).each again State.takeAgain
  let s : State := { s with orphans := s.orphans.filter (fun o => o.reply.isSome || decide (s.csnOf o.origin ≠ 0)) }
  let redo := s.applying.filter (fun x => redone lost x.origin)
  let first := match redo with | x :: rest => rest.foldl (fun m y => min m y.csn) x.csn | [] => 0
  (((s.failoverEvent lost cause old winner (s.varN .electAt) (redo.length, first) (s.varN .electCut)).setV .failoverAt 0 s.now).setV
    .electCut 0 0).recommit

/-- The survivor with the highest acknowledged CSN, the lower index on a tie (R165). -/
def State.winner (s : State) : Nat :=
  match s.tilesIn with
  | t :: rest => rest.foldl (fun b x => if s.getN .ackCsn b < s.getN .ackCsn x then x else b) t
  | [] => 0

/-- Running writes of LEADER whose tile has caught up are done; those whose tile left service fail (R151, Table 19.6). -/
def State.settleHandovers (s : State) : State :=
  let l := s.handovers
  s.each l (fun s h =>
    if !s.inService h.2 then
      ({ s with handovers := s.handovers.erase h }).complete h.1 .commandDone .internal [] (detailWord 1 h.2 (s.getN .fenceCause h.2))
    else if h.1 ∈ s.running ∧ s.journal.committed ≤ s.getN .ackCsn h.2 ∧ !s.flag .electing then
      let s : State := { s with handovers := s.handovers.erase h }
      (if s.leader = h.2 then s else s.handover h.2).complete h.1 .commandDone .ok []
    else s)

/-! ### Leaving service (R158, R171–R174) -/

/-- The ports of a tile go down with it. -/
def State.portsDown (s : State) (t : Nat) : State :=
  s.each ((List.range 58).filter (fun p => decide (portTile p = t))) (fun s p =>
    let s := s.modLink p (fun x => { x with fenced := true })
    if (s.link p).state = lkDown then s else s.moveLink p lkDown)

/-- What Mizzen serves alone (R171). -/
def servedAlone : Op → Bool
  | .getProp | .getSnapshot | .readEvents => true
  | _ => false

/-- Nothing commits any more (R171): entries not yet committed are gone, and requests other than the three reads are answered
ST_DENIED, with the last CSN committed. -/
def State.denyRest (s : State) : State :=
  let c := s.journal.committed
  let s : State := { s with
    journal := { s.journal with assigned := c, stalled := false, entries := s.journal.entries.filter (fun e => decide (e.csn ≤ c)) }
    unapplied := [], endings := []
    waiting := s.waiting.filter (fun w => match w.body.op with | some op => servedAlone op | none => false)
    outst := s.outst.map (fun (o : Outst) =>
      if servedAlone o.origin.op || o.reply.any (fun r => decide (r.commitCsn ≤ c)) then o
      else { o with reply := some { opcode := o.opcode, tag := o.origin.tag, queue := o.origin.queue, object := o.origin.object
                                    status := Status.denied.code, results := [], commitCsn := c, doneTime := s.now, final := true
                                    safety := false } }) }
  s.flush

/-- Mizzen is alone (R171): FURL_N of every accelerator, every scope that is not off in OFF_SEQ with cause 12, and the
cut instant, which a furl already running may bring forward. -/
def State.loneMizzen (s : State) (lost : Nat) (cause : Int) (old : Nat) : State :=
  let cuts := (List.range 9).filterMap (fun i => if s.furlStateOf i = 1 then some (s.furlOf i).cut else none)
  let cut := cuts.foldl min (s.now + s.getN .furlDeadline * ms)
  let s := ({ s with runs := [], offRuns := [] } : State).denyRest
  let s := s.each s.accels State.assertFurl
  let s := s.failoverEvent lost cause old 0xFF s.now (0, 0) 0
  let s := s.furlPlain 8 6
  let s := s.each (scopes.filter (fun i => decide (s.scope i ≠ 0))) (fun s i => s.setScope i 4 12 0xFFFF)
  (({ s with runs := [], offRuns := [] }.setT .loneCut 0 (some cut)).setV .loneFrom 0 cut).put .role 2 0

/-- A fenced tile starts to rejoin (R179): the survivors lift its reset, for Main and Mizzen after asserting its supply
enable; 2 s run from the lift. -/
def State.startRejoin (s : State) (t : Nat) : State :=
  let s := (s.put .role t 3).setV .rejoining t 1
  if t = 0 then ((s.setV .tilePhase t 2).setV .bootAt t s.now).arm .rejoin t (2 * sec)
  else ((s.setV .tilePhase t 1).drive (if t = 1 then outVddm else outVddz) 1).arm .supplyPg t (100 * ms)

/-- Fence causes after which a tile rejoins by itself (R179). -/
def autoCause (c : Nat) : Bool := decide (c ∈ [0, 2, 3, 5, 8])

/-- Automatic rejoin (R179): AUTO_REJOIN 1, one of its causes, at most three times in any hour. -/
def State.autoRejoin (s : State) (t cause : Nat) : State :=
  let third := s.var .autoRejoin (4 * t + 2)
  if s.get .autoRejoin = 1 ∧ autoCause cause ∧ (third < 0 ∨ third + 3600 * sec ≤ s.now) then
    let s := s.setV .autoRejoin (4 * t + 2) (s.var .autoRejoin (4 * t + 1)) |>.setV .autoRejoin (4 * t + 1) (s.var .autoRejoin (4 * t))
      |>.setV .autoRejoin (4 * t) s.now
    s.startRejoin t
  else s

/-- Fence requests and heartbeat timers of a tile end with its membership. -/
def State.dropFenceState (s : State) (t : Nat) : State :=
  s.each [0, 1, 2] (fun s x =>
    s.setV .fenceReq (3 * t + x) 0 |>.setV .fenceReq (3 * x + t) 0 |>.disarm .fenceReq (3 * t + x) |>.disarm .fenceReq (3 * x + t)
      |>.disarm .heartbeat (3 * t + x) |>.disarm .heartbeat (3 * x + t))

/-- A fenced tile is isolated (R158): its reset is held, and the survivors deassert its supply. -/
def State.isolateTile (s : State) (t : Nat) (cause : Int) : State :=
  let s := s.setV .tilePhase t 4 |>.put .role t 2 |>.put .fenceCause t cause |>.setV .rejoining t 0 |>.disarm .rejoin t |>.disarm .tileReady t
  let s : State := if t = 0 then s else s.disarm .supplyPg t
  let s := (((s.setV .paceRun (2 * t) 0).setV .paceRun (2 * t + 1) 0).settleLoops).revoteAll
  if t = 0 then s else s.drive (if t = 1 then outVddm else outVddz) 0

/-- ETCH runs on the flash bus of Fore (R25): with Fore lost it ends, unless its request is IDEMPOTENT, which Main applies once more
(Table 4.8). What EV_ETCH_DONE then gives of the image the manual does not say. -/
def State.etchLost (s : State) : State :=
  match s.etch with
  | some x =>
    if x.origin.idempotent then s
    else
      let (v, s) := s.draws_ 2
      ({ s with etch := none } : State).complete x.origin .etchDone .internal
        [((if x.copy then 0x10 + x.target else x.target : Nat) : Int), v.getD 0 0 % 65536, v.getD 1 0 % 4294967296]
        (detailWord 1 0 (s.getN .fenceCause 0))
  | none => s

/-- A tile's units leave service with it (Table 4.9). -/
def State.unitsLost (s : State) (t : Nat) : State :=
  let s := (((s.dropBindings t).portsDown t).busDown t).chansStop t
  let s := (s.stacksDown (s.stackMask t)).trainingLost
  let s := s.enginesLost t
  ((if t = 0 then (s.coolLost.putRefclk false).etchLost else s).dropFeatures.dropPoints).trialsLost t

/-- A tile is lost unplanned: ACTIVATE halts at the end of its step (R709). -/
def State.noteLoss (s : State) (cause : Nat) : State :=
  if cause = 6 ∨ cause = 0xFF then s
  else { s with activation := s.activation.map (fun (x : Activation) => ({ x with halted := true } : Activation)) }

/-- Each survivor sends a claim (R165): the next term, and its acknowledged CSN. -/
def State.sendClaims (s : State) : State :=
  s.each s.tilesIn (fun s x => s.each (s.tilesIn.filter (fun y => y ≠ x)) (fun s y =>
    s.stitchSend x y 3 4 [x, s.get .term + 1, s.get .ackCsn x]))

/-- A tile is fenced (R158, R183). A tile that was in service leaves it; the last tile in service is never fenced. -/
def State.fence (s : State) (t : Nat) (cause : Nat) : State :=
  if s.member.tiles ≤ t ∨ s.var .tilePhase t = 4 then s
  else if !s.inService t then s.isolateTile t cause
  else if s.tilesIn = [t] then s
  else
    let old := s.leader
    let before := s.running.length
    let onBus := s.busCommands t
    let s := ((s.dropFenceState t).isolateTile t cause).noteLoss cause
    let s := s.syncMembers
    let lone := decide (s.tilesIn = [2])
    let s : State := if old = t then { s with journal := { s.journal with stalled := true } }.setV .electing 0 (1 + t) |>.setV .electAt 0 s.now
        |>.setV .electCause 0 cause |>.setV .claims 0 0 else s
    let s := s.takeLoops.unitsLost t
    let s := s.setV .electCut 0 (before - s.running.length + onBus : Nat)
    let s := if s.varN .adminOut = t + 1 then s.setV .adminOut 0 0 else s
    let s : State := { s with moves := s.moves.filter (fun m => s.inService m.2) }
    let s := if old = t ∧ !lone then s.sendClaims else s
    if lone then (s.setV .electing 0 0).loneMizzen t cause old
    else
      let s : State := if t = 0 ∧ cause ≠ 0xFF then (s.raise .foreLossGrace (oTile 0) [0, s.get .foreLossGrace]).arm .foreGrace 0 (s.getN .foreLossGrace * sec) else s
      let s : State := if old ≠ t then (s.failoverEvent t cause old old s.now (0, 0) (s.varN .electCut)).setV .electCut 0 0
        else if s.tilesIn.length = 1 then s.electLeader s.winner t cause else s
      (s.settleHandovers.recommit).autoRejoin t cause

/-- A request for a fence (Table 4.5, R160): in TRIO both other tiles must ask, and of two tiles that suspect each other
the third has the follower fenced, or of two followers the higher; in DUO the first request is granted. A tile's request
against itself is granted at once (R740). A fence that two requests with different causes complete has the cause of the
request against the tile fenced, and of two such the later: the model's choice (log entry 77). -/
def State.requestFence (s : State) (r x cause : Nat) : State :=
  if !s.inService r ∨ !s.inService x then s
  else match s.tilesIn.length with
  | 3 =>
    if r = x then s.fence x cause
    else
      let third := 3 - r - x
      if s.flag .fenceReq (3 * third + x) then s.fence x cause
      else if s.flag .fenceReq (3 * x + r) then
        let victim := if s.leader = r then x else if s.leader = x then r else max r x
        s.fence victim (if victim = x then cause else s.varN .fenceReq (3 * x + r) - 1)
      else if s.flag .fenceReq (3 * r + x) then s
      else (s.setV .fenceReq (3 * r + x) (1 + cause)).arm .fenceReq (3 * r + x) (100 * us)
  | 2 => s.fence x cause
  | _ => s

/-- The core supply of a tile, or its isolation ring, fails (R158): fenced at once with cause 1. -/
def State.supplyLost (s : State) (t : Nat) : State := s.fence t 1

/-! ### Votes (R161–R163) -/

/-- One tile's input to a voter changes, and the pad takes the voted level. -/
def State.voterInput (s : State) (o t : Nat) (v : Int) : State :=
  let s := s.setVote o t v
  if isReefOut o then s.syncReef (o - 78) else s

/-! ### Joining (R149, R179) -/

/-- A rejoin fails (R179): the tile is fenced again. -/
def State.rejoinFails (s : State) (x cause : Nat) (step : Int) : State :=
  (s.isolateTile x cause).raise .rejoinFailed (oTile x) [x, step]


/-- A tile joins as a follower, by a MEMBERSHIP entry (R148, R149): it votes as the leader votes, it has the leader's checkpoint and the entries after
it, and its stacks serve again. -/
def State.joinTile (s : State) (t : Nat) : State :=
  let s := s.each votedOutputs (fun s o =>
    let v := s.ownVote o s.leader
    if isReefOut o then s.setV .reefVote (4 * (o - 78) + t) v else s.setV .vote (4 * o + t) v)
  let s := s.setV .tilePhase t 3 |>.put .role t 1 |>.setV .rejoining t 0 |>.disarm .rejoin t
  let s := ((s.catchUp s.leader t).loopBack t).settleLoops |>.setV .joinedAt t s.now
  let s := if t = 0 then s.putRefclk true else s
  let s := s.each ((List.range 58).filter (fun p => decide (portTile p = t))) (fun s p => s.modLink p (fun x => { x with fenced := false }))
  let s := s.each (s.tilesIn.filter (fun x => x ≠ t)) (fun s x =>
    (s.arm .heartbeat (3 * x + t) (s.getN .heartbeatTimeout * us)).arm .heartbeat (3 * t + x) (s.getN .heartbeatTimeout * us))
  let s := s.syncMembers.setV .stacksUp 0 (s.varN .stacksUp ||| (s.stackMask t &&& (15 ^^^ s.varN .stackFailed)) : Nat)
  ((s.journalMembers 0xFF).syncCoeffs).recommit.recorderOn.busUp t

end Sys2Proof.Machine
end

