-- ==== Sys2Proof/Machine/Boot.lean ====
section
/-! DEFINITION. From reset to mainline: the ROM's choice of a plate, the proof loader, the tray description in force, and
what a tile shows of its boot (R663–R678, R711, R773–R775). -/

namespace Sys2Proof

/-! ### Checks of a tray description (R33, R774) -/

/-- Every leg lies on its domain's relay, and belongs to one domain (R33). -/
def TrayDesc.legsRight (d : TrayDesc) : Bool :=
  d.legs.all (fun x => decide (x.1 < 1152) && decide (x.2 < 256) && decide (x.1 / 72 = x.2 / 16)) &&
    decide ((d.legs.map (·.1)).Nodup)

/-- What the description gives lies in range (R774): properties by their rows, the powers of budget nodes by R31 and Table 8.2, accelerators by Table 1.5, feeds, the
sequence tables' numbers, leak actions and coefficients by their owners' chapters. -/
def TrayDesc.inRange (d : TrayDesc) (m : Member) : Bool :=
  d.props.all (fun x => decide (x.1.desc.lo ≤ x.2.2) && decide (x.2.2 ≤ x.1.desc.hi)
    && ((decide (x.1 ≠ .limit) && decide (x.1 ≠ .minGrant)) || Machine.okPower x.2.1 x.2.2)) &&
  d.accels.all (fun x => decide (x.accel < m.accels) && decide (x.domains ≤ 32) && decide (x.sensors ≤ 96)) &&
  decide ((d.accels.map (·.accel)).Nodup) && decide (d.feeds ≤ 4) &&
  d.tables.all (fun x => decide (x.1 < 8) && decide (x.2.entries.length ≤ 320)) &&
  d.ceilings.all (fun x => decide (x.1 = 4 ∨ x.1 = 5)) &&
  d.zones.all (fun z => decide (z.zone < 8)) && d.drives.all (fun c => decide (c.chan < 20) && decide (0 < c.ppr))

end Sys2Proof

namespace Sys2Proof.Machine

/-! ### Metadata records (R669) -/

/-- The SEQUENCE of the newest record, those being written included. -/
def State.newestSeq (s : State) : Nat :=
  ((s.records ++ s.norWrites.filterMap (fun (w : NorWrite) => match w.what with | .record r => some r | _ => none)).map (·.seq)).foldl max 0

/-- A new record. -/
def State.newRecord (s : State) (kind plate arg digest : Nat) : MetaRec := { seq := s.newestSeq + 1, kind, plate, arg, digest }

/-- The records that `f` holds of, newer than a SEQUENCE. -/
def State.recordsAfter (s : State) (seq : Nat) (f : MetaRec → Bool) : List MetaRec :=
  s.records.filter (fun r => decide (seq < r.seq) && f r)

/-- The newest record that `f` holds of. -/
def State.newestRecord (s : State) (f : MetaRec → Bool) : Option MetaRec := (s.records.filter f).getLast?

/-! ### Choosing a plate (R668, R670) -/

/-- proof[p]. -/
def State.proofOf (s : State) (p : Nat) : Option MetaRec :=
  match s.newestRecord (fun r => decide (r.kind = 2) && decide (r.plate = p)) with
  | some r => if (s.recordsAfter r.seq (fun x => decide (x.kind = 7) && decide (x.plate = p))).isEmpty then some r else none
  | none => none

/-- A plate image's signature verifies: to the ROM and the proof loader a PENDING slot counts as LIVE (R667). -/
def State.plateVerifies (s : State) (x : Plate) (fuseOnly : Bool) : Bool :=
  x.signed && decide (x.slot < 4) && (decide (s.keyState x.slot = 1) || (fuseOnly && decide (s.keyState x.slot = 2)))

/-- Why a plate is not taken (Table 17.13): 0 it is. -/
def State.plateFault (s : State) (p : Nat) : Nat :=
  match s.proofOf p, s.plate p with
  | none, _ => 1
  | some _, none => 2
  | some r, some x =>
    if x.digest ≠ r.digest then 2
    else if !x.header ∨ x.svn = 0 ∨ 256 < x.svn ∨ x.svn < x.minSvn then 5
    else if !s.plateVerifies x true then 3
    else if (x.svn : Int) < s.get .svnFloor then 4
    else 0

/-- act: the newest ACTIVE that its plate's proof bears out. -/
def State.activeRecord (s : State) : Option MetaRec :=
  s.newestRecord (fun r => decide (r.kind = 1) && (match s.proofOf r.plate with | some p => decide (p.digest = r.digest) | none => false))

/-- CONFIRM records newer than the ACTIVE record, and TRIAL_BOOT records newer than the newest of them. -/
def State.confirms (s : State) (act : MetaRec) : List MetaRec := s.recordsAfter act.seq (fun r => decide (r.kind = 4))
def State.trials (s : State) (act : MetaRec) : List MetaRec :=
  s.recordsAfter (((s.confirms act).getLast?.getD act).seq) (fun r => decide (r.kind = 3))

/-- The plates in the order they are tried. -/
def State.plateOrder (s : State) : List Nat :=
  match s.activeRecord with
  | none =>
    match s.proofOf 0, s.proofOf 1 with
    | some a, some b => if a.seq < b.seq then [1, 0] else [0, 1]
    | some _, none => [0]
    | none, some _ => [1]
    | none, none => []
  | some act =>
    if (s.confirms act).length < 3 ∧ 2 ≤ (s.trials act).length then [1 - act.plate, act.plate] else [act.plate, 1 - act.plate]

/-- The ROM's choice (R670). -/
def State.selectPlate (s : State) : Option Nat := s.plateOrder.find? (fun p => decide (s.plateFault p = 0))

/-- RECOVERY_CAUSE: of the plate tried first. -/
def State.recoveryCause (s : State) : Nat :=
  if (s.varN .fieldDead).testBit 0 then 6
  else match s.plateOrder with
  | p :: _ => s.plateFault p
  | [] => 1

/-! ### The metadata ring (R669) -/

/-- A record is in force: the newest ACTIVE, the newest PROOF and ETCH_BEGIN of each plate, a CONFIRM or TRIAL_BOOT newer than the
newest ACTIVE, a REVOKE_PENDING without its REVOKE_DONE. -/
def State.inForce (s : State) (r : MetaRec) : Bool :=
  let newest (f : MetaRec → Bool) : Bool := s.newestRecord f = some r
  match r.kind with
  | 1 => newest (fun x => decide (x.kind = 1))
  | 2 | 7 => newest (fun x => decide (x.kind = r.kind) && decide (x.plate = r.plate))
  | 3 | 4 => (s.newestRecord (fun x => decide (x.kind = 1))).all (fun x => decide (x.seq < r.seq))
  | 5 => (s.recordsAfter r.seq (fun x => decide (x.kind = 6) && decide (x.arg = r.arg) && decide (x.digest = r.digest))).isEmpty
  | _ => false

/-- A record is in its slot. Where no fully erased sector would be left ahead, the records of the oldest sector that are in force are
copied forward with new SEQUENCEs, and it is erased. -/
def State.putRecord (s : State) (r : MetaRec) : State :=
  let add (s : State) (r : MetaRec) : State := s.norPut (fun d => { d with records := d.records ++ [⟨r, true⟩] })
  let s := add s r
  if ringRoom metaSlots < max (s.norDie 0).records.length (s.norDie 1).records.length then
    let old := (readRing ((s.norDie 0).records.take sectorRecords) ((s.norDie 1).records.take sectorRecords)).filter s.inForce
    let s := s.each old (fun s x => add s { x with seq := s.newestSeq + 1 })
    (s.norPut (fun d => { d with records := d.records.drop sectorRecords })).countV .metaErased 0
  else s

/-- A record that NOR holds before the next thing happens: the proof loader's. -/
def State.addRecord (s : State) (kind plate arg digest : Nat) : State := s.putRecord (s.newRecord kind plate arg digest)

/-! ### The proof loader (R672) -/

/-- Both proven plates survive the revocation of a slot (R679, R680). -/
def State.survives (s : State) (slot : Nat) (fuseOnly : Bool) : Bool :=
  [0, 1].all (fun p => match s.proofOf p, s.plate p with
    | some r, some x => decide (x.digest = r.digest) && decide (x.slot ≠ slot) && s.plateVerifies x fuseOnly
    | _, _ => false)

/-- The locks of a tile (R672): bit 0 DEBUG_LOCK, bit 1 FUSE_LOCK, bit 2 KEY_LOCK. -/
def State.lock (s : State) (t k : Nat) : State :=
  if (s.varN .locks t).testBit k then s else s.setV .locks t (s.varN .locks t + 2 ^ k : Nat)

/-- A tile's ROM runs: the locks of its last run ended with the reset (R671, R672). -/
def State.romRuns (s : State) (t : Nat) : State := s.setV .locks t 0

/-- A pending revocation is carried out: the fuse, which FUSE_LOCK would keep as it is, then REVOKE_DONE. -/
def State.finishRevoke (s : State) (slot : Nat) : State :=
  if !pendingIn slot s.records false ∨ (s.varN .locks 0).testBit 1 then s
  else if (s.varN .revoked).testBit slot then s.addRecord 6 0xFF slot (s.keyEc slot)
  else if s.survives slot true then (s.setV .revoked 0 (s.varN .revoked + 2 ^ slot : Nat)).addRecord 6 0xFF slot (s.keyEc slot)
  else s

/-- The SVN floor rises to MIN_SVN of the active plate with three CONFIRM records. -/
def State.raiseFloor (s : State) (p : Nat) (x : Plate) : State :=
  match s.activeRecord with
  | some act =>
    if act.plate = p ∧ 3 ≤ (s.confirms act).length ∧ s.get .svnFloor < x.minSvn ∧ !(s.varN .locks 0).testBit 1 then
      let old := s.get .svnFloor
      (s.put .svnFloor 0 x.minSvn).raise .svnFloor oDevice [old, x.minSvn]
    else s
  | none => s

/-- Fore's proof loader (R672), in its order: DEBUG_LOCK, the pending revocations and the SVN floor, FUSE_LOCK, KEY_LOCK, and
TRIAL_BOOT. -/
def State.proofLoader (s : State) (p : Nat) (trial : Bool) : State :=
  let s := s.lock 0 0
  match s.plate p with
  | some x =>
    let s := (((s.each (List.range 6) State.finishRevoke).raiseFloor p x).lock 0 1).lock 0 2
    if trial then s.addRecord 3 p 0 x.digest else s
  | none => (s.lock 0 1).lock 0 2

/-- The proof loader of Main or Mizzen, and the recovery service, which do without step 2 (R672, R676). -/
def State.lockAll (s : State) (t : Nat) : State := ((s.lock t 0).lock t 1).lock t 2

/-! ### Fore's boot (R670–R676) -/

/-- Fore's ROM runs the cold path: a plate, or the recovery service. -/
def State.romCold (s : State) : State :=
  let s := ((s.romRuns 0).setV .tilePhase 0 2).setV .bootAt 0 s.now |>.setV .confirmedBoot 0 0 |>.setV .bootReason 0 (-1)
  match (if (s.varN .fieldDead).testBit 0 then none else s.selectPlate) with
  | none => ((s.setV .bootRecovery 0 s.recoveryCause).setV .bootPlate 0 (-1)).setV .bootTrial 0 0 |>.setV .bootFlags 0 2 |>.lockAll 0
  | some p =>
    let act := s.activeRecord
    let trial := act.any (fun r => decide (r.plate = p) && decide ((s.confirms r).length < 3))
    let reason : Int := match act with
      | some r => if r.plate = p then -1 else if 2 ≤ (s.trials r).length ∧ (s.confirms r).length < 3 then 0 else 1
      | none => -1
    let s := (s.setV .bootRecovery 0 0).setV .bootPlate 0 p |>.setV .bootTrial 0 (if trial then 1 else 0) |>.setV .bootReason 0 reason
      |>.setV .bootFlags 0 0
    s.proofLoader p trial

/-- Fore's ROM runs the fast path of a wake (R675): D and SVN come from the record. -/
def State.romFast (s : State) (p : Nat) : State :=
  let s := ((s.romRuns 0).setV .tilePhase 0 2).setV .bootAt 0 s.now |>.setV .confirmedBoot 0 0 |>.setV .bootReason 0 (-1)
  ((s.setV .bootRecovery 0 0).setV .bootPlate 0 p |>.setV .bootTrial 0 0 |>.setV .bootFlags 0 0).proofLoader p false

/-- The wake record is borne out (R675): `intact` says that its MAC verifies. -/
def State.wakeHolds (s : State) (intact : Bool) : Option Nat :=
  match s.wakeRec with
  | some w =>
    if intact && decide (w.seq = s.newestSeq) && !(s.varN .revoked).testBit w.slot && (s.plate w.plate).any (fun x => decide (x.digest = w.digest))
    then some w.plate else none
  | none => none

/-! ### What a tile shows of its boot (Tables 17.12, 17.13) -/

/-- BOOT_PATH: 0 cold, 1 fast, 2 recovery. -/
def State.bootPath (s : State) (t : Nat) : Nat :=
  if t = 0 ∧ s.flag .bootRecovery then 2 else if t = 0 ∧ s.var .waking = 1 then 1 else 0

/-- A tile is ready: BOOT_INFO and its kin, EV_BOOT, and the tile-boot record of the log (R688, Table 19.7). -/
def State.tileBooted (s : State) (t : Nat) : State :=
  let s := s.when (decide (t ≠ 0)) (fun s => (s.romRuns t).lockAll t)
  let p := s.varN .bootPlate t
  let rec_ := decide (t = 0 ∧ s.flag .bootRecovery)
  let (d, s) : Int × State := if rec_ then s.draw else (0, s)
  let (v, s) : Int × State := if rec_ then s.draw else (0, s)
  let (e, s) : Int × State := if rec_ then s.draw else (0, s)
  let x := (s.plate p).getD { digest := 0 }
  let s := s.setV .bootVersion t (if rec_ then e % 2 ^ 32 else x.version)
  let digest : Int := if rec_ then d % 2 ^ 384 else x.digest
  let svn : Int := if rec_ then v % 65536 else x.svn
  let slot := if rec_ then 0 else x.slot
  let time := (s.now - s.varN .bootAt t) / ms
  let info : Nat := (if t = 0 then s.varN .bootRecovery else 0) * 2 ^ 20 + s.bootPath t * 2 ^ 16 + slot * 2 ^ 12
    + (if t = 0 ∧ s.flag .bootTrial then 2 ^ 11 else 0) + s.varN .debugSeen % 2 * 2 ^ 10 + (if s.varN .locks t = 7 then 2 ^ 9 else 0) + (if rec_ then 0 else p * 2 ^ 8)
  let s := ((s.put .bootInfo t info).put .bootSvn t svn |>.put .bootDigest t digest |>.put .bootTime t time)
  let s := s.raise .boot (oTile t) [t, s.bootPath t, if rec_ then 0 else p, slot, svn, time]
  s.logAdd { type := 0x1000, src := oTile t, stamp := s.now, csn := s.journal.committed, safety := false, tile := s.flashTile
             payload := [u32 info, u32 time] }

/-- Records of the log were lost: a log-gap record says how many (R736). -/
def State.logGap (s : State) : State :=
  if s.log.lost = 0 ∨ 4096 ≤ s.log.waiting.length then s
  else
    let last := s.log.first + s.log.held.length + s.log.waiting.length
    let s := s.logAdd { type := 0x1001, src := oDevice, stamp := s.now, csn := s.journal.committed, safety := false
                        tile := s.flashTile, payload := [u32 s.log.lost, u64 (last - 1)] }
    ({ s with log := { s.log with lost := 0 } } : State).count .logGaps 0

/-! ### The tray description in force (R712, R773, R774) -/

/-- A copy verifies against slots 0–5 (R773). -/
def State.copyVerifies (s : State) (c : TdCopy) : Bool := c.signed && decide (c.slot < 6) && decide (s.keyState c.slot = 1)

/-- A description's entries break R242. -/
def State.tablesRight (s : State) (d : TrayDesc) : Bool :=
  let z : State := { s with td := some d }
  d.tables.all (fun x => !x.2.entries.any (z.badEntry x.2.entries))

/-- A copy qualifies. -/
def State.copyQualifies (s : State) (c : TdCopy) : Bool :=
  s.copyVerifies c && c.desc.legsRight && c.desc.inRange s.member && s.tablesRight c.desc

/-- The copy that cold boot takes: of two that qualify the higher GENERATION. -/
def State.selectCopy (s : State) : Option (Nat × TdCopy) :=
  let ok := [0, 1].filterMap (fun k => (s.tdCopyAt k).bind (fun (c : TdCopy) => if s.copyQualifies c then some (k, c) else none))
  match ok with
  | [a, b] => some (if a.2.generation < b.2.generation then b else a)
  | a :: _ => some a
  | [] => none

/-- A description comes into force: the properties, registers and tables it gives. -/
def State.applyTd (s : State) (k : Nat) (c : TdCopy) : State :=
  let d := c.desc
  let s : State := { s with td := some d, tables := d.tables.foldl (fun t x => t.put {} x.1 x.2) {} }
  let s := d.props.foldl (fun (s : State) x => s.put x.1 x.2.1 x.2.2) s
  let s := d.vars.foldl (fun (s : State) x => s.setV x.1 x.2.1 x.2.2) s
  (s.put .tdGeneration 0 c.generation).setV .tdCopy 0 k

/-- TRAY_DESCRIPTION_SELECT (R773). -/
def State.chooseTd (s : State) : State :=
  match s.selectCopy with
  | some (k, c) =>
    let s := s.applyTd k c
    let s := if s.var .tdLast 0 ≠ k ∧ 0 ≤ s.var .tdLast 0 then s.raise .tdChanged oDevice [k, c.generation] else s
    s.setV .tdLast 0 k
  | none =>
    let n := ([0, 1].filter (fun k => (s.tdCopyAt k).any s.copyVerifies)).length
    s.raise .tdInvalid oDevice [n, if n = 0 then 0 else 1]

/-- FIRST_FAULT_SCAN (R267): the highest SEQUENCE and INCIDENT, and the latch. -/
def State.scanFaults (s : State) : State :=
  let s := s.put .incident 0 ((s.firstFaults.map (·.incident)).foldl max 0 : Nat)
  (s.setV .firstFaultSeq 0 (max (s.varN .firstFaultSeq) ((s.firstFaults.map (·.seq)).foldl max 0) : Nat)).refreshLatch

/-! ### Cold boot (R45, R73, R665, R760) -/

/-- The straps give the target ports' default addresses (R760). -/
def State.strapAddrs (s : State) : State :=
  let n := s.varN .smbAddr
  (s.put .busConfig 32 (0x20 + 4 * n + 256 * (0x21 + 4 * n) : Nat)).put .busConfig 33 (0x22 + 4 * n + 256 * (0x23 + 4 * n) : Nat)

/-- The device cold boots: common time is UNSET (Table 2.4), and a one-tile member trains on its tile (R2). In TEST_MODE the ROM boots no plate and serves the JTAG port alone. -/
def State.coldStart (s : State) : State :=
  let old := s.getN .timeStatus
  let s : State := { s.powerOff with now := 0 }
  let s := s.strapAddrs
  let s := s.raise .timeState oDevice [old, s.getN .timeStatus]
  let s := s.when (decide (s.member.tiles = 1)) (fun s => s.each (List.range 64) (fun s m => s.put .trainTile m 0))
  if s.flag .testMode then s.setV .tilePhase 0 1 else (s.romCold.scanFaults).chooseTd

/-- The image of a tile that joins (R674): Fore's, or NOR's where Fore is out of service; none where no plate verifies. -/
def State.imageFor (s : State) (t : Nat) : Option Nat :=
  if t ≠ 0 ∧ s.inService 0 then some (s.varN .bootPlate 0)
  else if t = 2 ∧ s.inService 1 then some (s.varN .bootPlate 1)
  else s.selectPlate

/-- The digest every tile in service runs (R674). -/
def State.runningDigest (s : State) : Int := s.get .bootDigest s.leader

end Sys2Proof.Machine
end

