-- ==== Sys2Proof/Machine/Codeword.lean ====
section
/-! DEFINITION. The code that protects every word of SRAM, DRAM and the journal (R637, R638). -/

namespace Sys2Proof.Machine

/-- Even parity of the low `n` bits of a word: true where their number is odd. -/
def parityBit (n v : Nat) : Bool := ((List.range n).filter v.testBit).length % 2 = 1

/-- One step of the division by the code's generator: the next data bit comes in (R637). -/
def bchStep (c : Nat) (b : Bool) : Nat := (2 * c % 2 ^ 14) ^^^ (if (c.testBit 13) != b then Config.bchGenerator % 2 ^ 14 else 0)

/-- The 14 check bits of 64 data bits: the remainder of the data, its highest bit first, by the generator. The manual does not
give the generator (log entry 267). -/
def bchCheck (data : Nat) : Nat := (List.range 64).foldl (fun c i => bchStep c (data.testBit (63 - i))) 0

/-- An 80-bit codeword (Table 16.1). -/
structure Codeword where
  data : Nat
  bch : Nat
  opar : Bool
  apar : Bool
deriving DecidableEq, Repr

/-- A codeword as a number, bit by bit as Table 16.1 has it. -/
def Codeword.bits (w : Codeword) : Nat :=
  w.data % 2 ^ 64 + w.bch % 2 ^ 14 * 2 ^ 64 + (if w.opar then 2 ^ 78 else 0) + (if w.apar then 2 ^ 79 else 0)

/-- The fields of 80 bits. -/
def Codeword.ofBits (v : Nat) : Codeword :=
  { data := v % 2 ^ 64, bch := v / 2 ^ 64 % 2 ^ 14, opar := decide (v / 2 ^ 78 % 2 = 1), apar := decide (v / 2 ^ 79 % 2 = 1) }

/-- The parity of the word address bits above bit 2 of a byte address. -/
def addrParity (addr : Nat) : Bool := parityBit 48 (addr / 8)

/-- The overall parity of a codeword's bits 77:0. -/
def Codeword.parity (w : Codeword) : Bool := parityBit 64 w.data != parityBit 14 w.bch

/-- The codeword of a word at an address (R637). -/
def encodeWord (addr data : Nat) : Codeword :=
  let w : Codeword := { data := data % 2 ^ 64, bch := bchCheck (data % 2 ^ 64), opar := false, apar := addrParity addr }
  { w with opar := w.parity }

/-- A stored word whose check bits and overall parity are right. -/
def Codeword.clean (w : Codeword) : Bool := decide (w.bch = bchCheck w.data) && decide (w.opar = w.parity)

/-- One bit of DATA, BCH or OPAR turned over. -/
def Codeword.flip (w : Codeword) (i : Nat) : Codeword :=
  if i < 64 then { w with data := w.data ^^^ 2 ^ i }
  else if i < 78 then { w with bch := w.bch ^^^ 2 ^ (i - 64) }
  else { w with opar := !w.opar }

/-- The errors of one or two bits in DATA, BCH and OPAR, the fewest first. -/
def errorBits : List (List Nat) :=
  (List.range 79).map (fun i => [i]) ++ (List.range 79).flatMap (fun i => (List.range i).map (fun j => [i, j]))

/-- What a read finds in a word (R638). -/
inductive WordRead where
  | clean (data : Nat)
  | corrected (w : Codeword)
  | uncorrectable
deriving DecidableEq, Repr

/-- A read of 80 bits at an address (R638): one or two errors in DATA, BCH or OPAR are corrected; any other error that shows, and
any APAR that does not match the address, is not. -/
def readWord (addr v : Nat) : WordRead :=
  let w := Codeword.ofBits v
  if w.apar ≠ addrParity addr then .uncorrectable
  else if w.clean then .clean w.data
  else match errorBits.find? (fun e => (e.foldl Codeword.flip w).clean) with
    | none => .uncorrectable
    | some e => .corrected (e.foldl Codeword.flip w)

/-- The words of a list that a read corrects, with their corrected codewords. -/
def correctedWords {α : Type} (addr bits : α → Nat) (l : List α) : List (α × Codeword) :=
  l.filterMap (fun a => match readWord (addr a) (bits a) with
    | .corrected w => some (a, w)
    | _ => none)

end Sys2Proof.Machine
end

