-- ==== Sys2Proof/Machine/Membership.lean ====
section
/-! DEFINITION. The commands of chapter 4: heartbeats and fences, the journal, the voters, takeover and planned moves,
leadership and rejoining. -/

namespace Sys2Proof.Machine

/-! ### Heartbeats and fences (R159, R160, R165, R171) -/

/-- The tiles whose heartbeats a tile receives (R159). -/
def State.hears (s : State) (r : Nat) : Nat :=
  ((s.tilesIn.filter (fun x => decide (x ≠ r) && (s.timer .heartbeat (3 * r + x)).any (fun d => decide (s.now < d)))).map (fun x => 2 ^ x)).sum

/-- HEARTBEAT_SEND (R159). -/
def execHeartbeatSend (t : Ns) (tile : Fin 3) (s : State) : Out :=
  let s := s.tick t
  let x := tile.val
  .next (if s.votes x ∧ !s.acts (0x080 + 16 * x) then
      s.each (s.tilesIn.filter (fun y => y ≠ x)) (fun s y =>
        s.stitchSend x y 1 2 [x, s.get .role x, s.get .term, s.get .ackCsn x, s.var .paceNow x, s.hears x])
    else s)

/-- A follower's acknowledged CSN is more than 1 ms behind the commit CSN (Table 4.6, cause 3). -/
def State.lags (s : State) (x : Nat) : Bool :=
  decide (s.getN .ackCsn x < s.journal.committed) &&
  s.journal.entries.any (fun e => decide (e.csn = s.getN .ackCsn x + 1) && decide (e.stamp + ms < s.now))

/-- HEARTBEAT_RECEIVE (R159): the timeout starts anew; a heartbeat that shows journal lag brings a request for the
sender's fence. -/
def execHeartbeatReceive (t : Ns) (r x : Fin 3) (s : State) : Out :=
  let s := s.tick t
  .next (if s.inService r.val ∧ s.inService x.val ∧ r ≠ x ∧ !s.acts (0x080 + 16 * x.val) then
      let s := s.arm .heartbeat (3 * r.val + x.val) (s.getN .heartbeatTimeout * us)
      if s.lags x.val then s.requestFence r.val x.val 3 else s
    else s)

/-- HEARTBEAT_TIMEOUT (R159). -/
def onHeartbeatTimeout (t : Ns) (r x : Fin 3) (s : State) : Out :=
  let s := s.tick t
  let i := 3 * r.val + x.val
  .next (if s.due .heartbeat i ∧ r ≠ x then (s.disarm .heartbeat i).requestFence r.val x.val 0 else s)

/-- FENCE_REQUEST_EXPIRY (R160). -/
def execFenceRequestExpiry (t : Ns) (r x : Fin 3) (s : State) : Out :=
  let s := s.tick t
  let i := 3 * r.val + x.val
  .next (if s.due .fenceReq i then
      ((s.disarm .fenceReq i).setV .fenceReq i 0).raise .stitchSuspect oDevice [r.val, x.val]
    else s)

/-- LONE_MIZZEN_CUT (R171): from the cut instant on, RAIL_EN goes low rail by rail as the active table's OFF_SLOTs have it, without
sensing, and after the last FEED_EN. Each step makes the instant of the next. -/
def execLoneMizzenCut (t : Ns) (s : State) : Out :=
  let s := s.tick t
  .next (if s.due .loneCut ∧ s.tilesIn = [2] then
      let l := s.activeTable.entries.filter (fun e => decide (e.rail < 64))
      let first := match l with | e :: rest => rest.foldl (fun m x => min m x.offSlot) e.offSlot | [] => 0
      let at_ (e : SeqEntry) : Nat := s.varN .loneFrom + (e.offSlot - first) * 10 * us
      let later := l.filter (fun e => decide (s.now < at_ e))
      let off (s : State) (k : Nat) : State := (s.drive (outRail k) 0).modRail k (fun x => { x with enabled := false, deadline := none })
      match later.map at_ with
      | x :: rest =>
        let s := s.each ((l.filter (fun e => decide (at_ e ≤ s.now))).map (·.rail)) off
        s.setT .loneCut 0 (some (rest.foldl min x))
      | [] =>
        let s := s.each (List.range 64) off
        let s := s.each (List.range 256) (fun s d => s.modRail (64 + d) (fun x => { x with enabled := false, deadline := none }))
        (s.each [0, 1, 2, 3] (fun s f => s.drive (outFeed f) 0)).disarm .loneCut
    else s)

/-! ### The journal (R153–R157) -/

/-- JOURNAL_ENTRY (R154): a follower writes the next entry and acknowledges its CSN. -/
def execJournalEntry (t : Ns) (tile : Fin 3) (csn : Nat) (s : State) : Out :=
  let s := s.tick t
  let f := tile.val
  .next (if s.votes f ∧ f ≠ s.leader ∧ csn = s.getN .ackCsn f + 1 ∧ csn ≤ s.journal.assigned ∧ !s.flag .electing then
      let s := s.put .ackCsn f csn
      if s.acts (0x082 + 16 * f) then s else s.stitchSend f s.leader 0 3 [csn]
    else s)

/-- The newest CSN a follower has confirmed to the leader. -/
def State.bestSeen (s : State) : Nat := ((s.tilesIn.filter (fun t => t ≠ s.leader)).map (fun t => s.varN .ackSeen t)).foldl max 0

/-- A tile asks another for an entry it cannot read (R157). -/
def State.refetch (s : State) (src dst csn : Nat) : State := s.stitchSend src dst 0 5 [csn]

/-- JOURNAL_UNCORRECTABLE (R157): a tile finds a word of an entry uncorrectable (R638). A follower withholds its acknowledgement and
fetches the entry from the leader, the leader from a follower that acknowledged it. Its `copy` says whether a good copy of the entry is
left; a committed entry without one is lost. -/
def execJournalUncorrectable (t : Ns) (csn : Nat) (e : BadEntry) (s : State) : Out :=
  let s := s.tick t
  let x := e.tile.val
  .next (if readWord e.addr e.bits ≠ .uncorrectable ∨ !s.inService x ∨ !s.journal.entries.any (fun e => decide (e.csn = csn)) ∨
      s.journal.lost then s
    else if !e.copy ∧ csn ≤ s.journal.committed then
      ({ s with journal := { s.journal with lost := true } } : State).raise .journalLost oDevice [csn]
    else if x = s.leader then
      match s.tilesIn.find? (fun y => decide (y ≠ x) && decide (csn ≤ s.getN .ackCsn y)) with
      | some y => s.refetch x y csn
      | none => s
    else
      let s := if s.varN .ackSeen x < csn ∧ csn ≤ s.getN .ackCsn x then s.put .ackCsn x (csn - 1 : Nat) else s
      s.refetch x s.leader csn)

/-- CHECKPOINT (R153): every 4,096 entries or 10 ms the leader takes one at the commit CSN, and the entries up to it
leave the ring for the archive. Each tile checks its replica; one of `bad` requests its own fence with cause 5 (R740);
the number of the check that failed is free. -/
def execCheckpoint (t : Ns) (bad : List (Fin 3)) (s : State) : Out :=
  let s := s.tick t
  .next (if s.membership ≠ 0 ∧ !s.flag .electing ∧ !s.tilesIn.isEmpty ∧
      (4096 ≤ s.journal.assigned - s.journal.checkpointCsn ∨ s.journal.checkpointAt + 10 * ms ≤ s.now) then
      let c := s.journal.committed
      let s := s.checkpoint.recommit
      let fails := bad.map (·.val) ++ (match s.injected 0x0E0 with | some v => if v.toNat ∈ bad.map (·.val) then [] else [v.toNat] | none => [])
      (s.spend 0x0E0).each fails (fun s x => if s.inService x then
          let (n, s) := s.draw
          (s.raise .firmwareFault (oTile x) [x, n % 65536, c]).requestFence x x 5
        else s)
    else s)

/-! ### Voters (R161–R163) -/

/-- VOTER_INPUT_CHANGE (R161, R162): one tile's input changes and is stable, and the pad takes the voted level. -/
def execVoterInputChange (t : Ns) (o : Fin 98) (tile : Fin 3) (level : Fin 8) (s : State) : Out :=
  let s := s.tick t
  let v : Int := if isReefOut o.val then level.val else (level.val % 2 : Nat)
  .next (s.voterInput o.val tile.val v)

/-- VOTE_DISAGREE (R163): a third disagreement within 1 s fences the tile in TRIO. -/
def execVoteDisagree (t : Ns) (o : Fin 98) (tile : Fin 3) (s : State) : Out :=
  let s := s.tick t
  let x := tile.val
  let i := 4 * o.val + x
  .next (if s.due .voteDisagree i ∧ s.votes x ∧ s.voteOf o.val x ≠ s.padOf o.val then
      let s := s.disarm .voteDisagree i
      let s : State := { s with disagreed := (x, s.now) :: s.disagreed.filter (fun y => decide (s.now < y.2 + sec)) }
      let n := (s.disagreed.filter (fun y => decide (y.1 = x))).length
      let s := s.raise .voteDisagree oDevice [o.val, x, (min n 255 : Nat)]
      if 3 ≤ n ∧ s.membership = 3 then s.fence x 4 else s
    else s)

/-! ### Takeover and planned moves (R176, R178) -/

/-- MIRROR_TAKEOVER (R176): four slots without a word from the primary. The mirror regulates the domain from then on; once it does so
for every declared domain of the accelerator, LOOP_ACCELS says so (log entry 67). -/
def execMirrorTakeover (t : Ns) (d : Fin 256) (s : State) : Out :=
  let s := s.tick t
  let a := d.val / 32
  .next (match s.regTile a with
    | some p =>
      let m := lossTile p a
      if 4 ≤ (s.dom d.val).misses ∧ 2 ≤ s.tilesIn.length ∧ p = primaryTile a ∧ s.inService m ∧ m ≠ p ∧ !(s.dom d.val).mirrored then
        let s := s.modDom d.val (fun x => { x with misses := 0, mirrored := true })
        let s := if (s.domainsDeclared.filter (fun k => decide (k / 32 = a))).all (fun k => (s.dom k).mirrored) then s.moveLoop a (some m) else s
        s.syncCoeffs
      else s
    | none => s)

/-- A tile that ADMIN_STATE takes out is fenced once it regulates nothing (R180). -/
def State.adminFence (s : State) : State :=
  let t := s.varN .adminOut - 1
  if s.flag .adminOut ∧ s.getN .loopAccels t = 0 ∧ 2 < s.tilesIn.length ∧ s.leader ≠ t then (s.setV .adminOut 0 0).fence t 6 else s

/-- PLANNED_MOVE (R178, R180): one accelerator changes its regulating tile at an update boundary, one per 1 ms. `back`
lists accelerators whose primary's words have reached the islands in every slot for 1 ms after a takeover. -/
def onPlannedMove (t : Ns) (back : List (Fin 8)) (s : State) : Out :=
  let s := s.tick t
  let home := (back.map (fun a => (a.val, primaryTile a.val))).filter (fun m =>
    s.loopTarget m.1 = some m.2 ∧ (s.regTile m.1 ≠ some m.2 ∨ (List.range 32).any (fun j => (s.dom (32 * m.1 + j)).mirrored)) ∧ s.varN .adminOut ≠ m.2 + 1 ∧ !s.flag .rolling)
  .next (if 0 ≤ s.var .moveAt ∧ s.now < s.varN .moveAt + ms then s
    else match s.moves ++ home with
    | m :: _ =>
      let s : State := { s with moves := s.moves.filter (fun x => x.1 ≠ m.1) }
      let s := if s.inService m.2 then ((s.moveLoop m.1 (some m.2)).syncCoeffs).setV .moveAt 0 s.now else s
      s.adminFence
    | [] => s.adminFence)

/-! ### LEADER and ADMIN_STATE (R151, R180) -/

/-- WRITE_LEADER (R151). Of the rule's two answers to a write that names the present leader in SOLO, SINGLE or LONE_MIZZEN
ST_OK is the model's choice (log entry 243). -/
def setLeader (o : Origin) (v : Int) (_ : Nat) (s : State) : State × Res :=
  if v = s.leader then (s, .st .ok)
  else if !s.inService v.toNat ∨ s.tilesIn.length < 2 then (s, .st .denied)
  else ({ s with handovers := s.handovers ++ [(o, v.toNat)] }, .accepted [])

def execWriteLeader (a : Arrival) (v : Int) (s : State) : Out :=
  .next (s.write a .leader v (setLeader (s.originOf a .setProp) v)).settleHandovers

/-- The accelerators a tile regulates move to other tiles, one by one. -/
def State.planOut (s : State) (t : Nat) : State :=
  let mine := (List.range 8).filter (fun a => s.regTile a = some t)
  { s with moves := s.moves.filter (fun (m : Nat × Nat) => decide (m.1 ∉ mine)) ++ mine.map (fun a => (a, lossTile t a)) }.setV .adminOut 0 (t + 1)

/-- WRITE_ADMIN_STATE (R180). -/
def setAdminState (v : Int) (t : Nat) (s : State) : State × Res :=
  let running := decide (s.get .powerState = psRunning)
  if v = 1 then
    if running then
      if [0, 1, 2].any (fun (x : Nat) => s.flag .rejoining x) || s.flag .rolling || s.flag .adminOut then (s, .st .denied)
      else if s.inService t then
        if s.tilesIn.length ≤ 2 then (s, .st .denied)
        else
          let s := s.put .adminState t 1
          let s := if s.leader = t then
              match (s.tilesIn.filter (fun x => decide (x ≠ t) && decide (s.journal.committed ≤ s.getN .ackCsn x))) with
              | x :: _ => s.handover x
              | [] => s
            else s
          (s.planOut t, .st .ok)
      else (s.put .adminState t 1, .st .ok)
    else if t = 0 ∨ s.get .adminState (3 - t) = 1 then (s, .st .denied)
    else (s.put .adminState t 1, .st .ok)
  else
    let s := s.put .adminState t 0
    let s : State := if s.varN .adminOut = t + 1 then
        { s with moves := s.moves.filter (fun m => primaryTile m.1 ≠ t) }.setV .adminOut 0 0 else s
    (if running ∧ s.var .tilePhase t = 4 ∧ s.membership ≠ 0 then s.startRejoin t else s, .st .ok)

def execWriteAdminState (a : Arrival) (v : Int) (s : State) : Out := .next (s.write a .adminState v (setAdminState v))

/-! ### Rejoining (R173, R178, R179) -/

/-- Accelerators whose regulating tile is not the one of Table 4.10 return by planned moves (R178). -/
def State.planHome (s : State) : State :=
  let l := (List.range s.member.accels).filterMap (fun a =>
    match s.loopTarget a with
    | some t => if s.regTile a = some t then none else some (a, t)
    | none => none)
  { s with moves := s.moves.filter (fun (m : Nat × Nat) => !l.any (fun x => decide (x.1 = m.1))) ++ l }.setV .moveAt 0 s.now

/-- REJOIN_TIMEOUT (R179): cause 9, and the step the tile had reached. A tile held in reset got to step 2 (R463); `step` says how far
another got: 0 booting, 1 loading the checkpoint and the journal, 2 acknowledging. -/
def onRejoinTimeout (t : Ns) (tile : Fin 3) (step : Fin 3) (s : State) : Out :=
  let s := s.tick t
  let x := tile.val
  .next (if s.due .rejoin x ∧ s.flag .rejoining x then s.rejoinFails x 9 (if s.flag .tileReset x then 2 else 2 + step.val : Nat) else s)

/-- FORE_LOSS_GRACE_EXPIRY (R173). -/
def execForeLossGraceExpiry (t : Ns) (s : State) : Out :=
  let s := s.tick t
  .next (if s.due .foreGrace ∧ !s.inService 0 then
      let s := (s.disarm .foreGrace).raise .foreLossGrace (oTile 0) [2, s.get .foreLossGrace]
      if s.get .foreLossAction = 1 then s.furlPlain 8 7 else s
    else s)

end Sys2Proof.Machine
end

