-- ==== Sys2Proof/Machine/Thermal.lean ====
section
/-! DEFINITION. The commands of chapter 11: samples, throttling, thermal reefs, and furls. -/

namespace Sys2Proof.Machine

/-! ### Samples (R439, R442, R443) -/

/-- CONTROLLER_SENSOR_SAMPLE (R62, R439): the readings in m°C of controller sensors, those of stopped tiles aside (R448). -/
def execControllerSensorSample (t : Ns) (readings : List (Fin 72 × Option Int)) (s : State) : Out :=
  let s := s.tick t
  .next (if s.onGrid (100 * us) then s.each readings (fun (s : State) (x : Fin 72 × Option Int) =>
    if s.chanRuns x.1.val then s.reading x.1.val x.2 0 s.now else s) else s)

/-- One converted channel: a code outside its table is invalid for reason 1, a missing code for reason 0. -/
def State.sampleCode (s : State) (c : Nat) (code : Option Nat) : State :=
  if s.chanRuns c && s.declared (oThermal c) then
    match code with
    | none => s.reading c none 0 s.now
    | some x => let (r, s) := s.convert c x; s.reading c r 1 s.now
  else s

/-- HOUSEKEEPING_SAMPLE (R443): board channel 72 + i. -/
def execHousekeepingSample (t : Ns) (i : Fin 128) (code : Option Nat) (s : State) : Out :=
  let s := s.tick t
  .next (if s.boardTurn (72 + i.val) then s.sampleCode (72 + i.val) code else s)

/-- COOLANT_TEMP_SAMPLE (R62, R439): coolant channels 200 + i, SUPPLY_TEMP and RETURN_TEMP (Table 12.13). -/
def execCoolantTempSample (t : Ns) (codes : List (Fin 16 × Option Nat)) (s : State) : Out :=
  let s := s.tick t
  let s := s.each (if s.onGrid ms then codes else []) (fun (s : State) (x : Fin 16 × Option Nat) => s.sampleCode (200 + x.1.val) x.2)
  .next (match s.td with
    | some d =>
      let s := match d.supplyChan with | some c => s.put .supplyTemp 0 (s.get .thermalTemperature c) | none => s
      (match d.returnChan with | some c => s.put .returnTemp 0 (s.get .thermalTemperature c) | none => s)
    | none => s)

/-- TELEMETRY (R214, R439): an arrived accelerator's sensors, frequency and state. -/
def State.takeTelemetry (s : State) (a : Nat) (m : Telemetry) : State :=
  if s.get .accelPresence a ≠ 2 then s
  else
    let s : State := { s with telemetry := s.telemetry.put {} a m }
    let s := (((s.setV .telState a m.state).setV .telemetrySeen a 1).arm .telemetry a ms).gauge (meterFreq a) m.freq
    let n := ((s.td.bind (fun d => (d.accels.find? (fun x => x.accel = a)).map (·.sensors))).getD 0)
    let temps := (m.temps.take n).zipIdx
    let s := s.each temps (fun (s : State) (x : Int × Nat) =>
      s.reading (216 + 96 * a + x.2) (if x.1 = noReading then none else some x.1) 0 m.stamp)
    let valid := (m.temps.take n).filter (fun (x : Int) => decide (x ≠ noReading))
    let s : State := match valid with
      | [] => s
      | r :: rest =>
        let b := s.branches.get {} a
        { s with branches := s.branches.put {} a { b with
            hots := (s.now, rest.foldl max r) :: b.hots.filter (fun (h : Ns × Int) => decide (s.now < h.1 + sec)) } }
    s.lockTelemetry a m.freq

def execTelemetry (t : Ns) (a : Fin 8) (m : Telemetry) (s : State) : Out := .next ((s.tick t).takeTelemetry a.val m)

/-! ### Throttling (R451–R453) -/

/-- The thermal ceiling of one accelerator moves for one millisecond. -/
def State.moveCeiling (s : State) (a : Nat) : State :=
  if !s.flag .throttle a then s
  else
    let (x, c) := s.excess a
    let lim := s.get .limit (nodeAccel a)
    let floor : Int := if s.flag .reefTable a then s.var .reefPower (8 * a + 7) else 0
    let q : Rat := max (floor : Rat) ((lim : Rat) * (1 - (s.get .throttleGain : Rat) * x / 10000000))
    let step : Rat := (lim : Rat) * s.get .throttleSlew / 10000
    let cur : Rat := (s.var .thermalCeil a : Rat)
    let next : Rat := if q < cur then max q (cur - step) else min q (cur + step)
    let (v, s) := s.whole next
    let s := (s.setV .thermalCeil a v).put .thermalCeiling a v
    if x = 0 ∧ lim ≤ v then
      ((s.setV .throttle a 0).setV .thermalCeil a 2147483647).raise .thermalThrottle (oAccel a) [a, 1, c, v, x]
    else s

/-- THERMAL_CEILING_UPDATE (R451): at every whole millisecond. -/
def execThermalCeilingUpdate (t : Ns) (s : State) : Out :=
  let s := s.tick t
  .next (if s.onGrid ms then s.each s.accels State.moveCeiling else s)

/-- L_a at a whole multiple of THERMAL_REEF_STEP (R453); HYST is that of the channel that gives x_a. -/
def State.reefStep (s : State) (a : Nat) : State :=
  let (x, c) := s.excess a
  let l := s.get .thermalReef a
  let hot := s.get .hotBand
  let hyst : Int := if c = 0xFFFF then 0 else s.get .hyst c
  let new := if hot ≤ x ∧ s.var .reefX a ≤ x then min 7 (l + 1) else if x < hot - hyst then max 0 (l - 1) else l
  let s := s.setV .reefX a x
  if new = l then s else (s.put .thermalReef a new).stepReef a 6 new

/-- THERMAL_REEF_STEP. -/
def execThermalReefStep (t : Ns) (s : State) : Out :=
  let s := s.tick t
  .next (if s.now % (s.getN .thermalReefStep * ms) = 0 then s.each s.accels State.reefStep else s)

/-! ### Furls (R456, R461) -/

/-- FURL_CUT_INSTANT (R456). -/
def execFurlCutInstant (t : Ns) (scope : Fin 9) (s : State) : Out :=
  let s := s.tick t
  let i := scope.val
  .next (if s.furlStateOf i = 1 ∧ (s.furlOf i).cut ≤ s.now then (if i < 8 then s.cutFurl i 1 else s.cutTray 1) else s)

/-- FURL (R461): one whose scopes have no off-sequence to wait for is done at once. -/
def doFurl (a : Arrival) (deadline : Nat) (s : State) : State × Res :=
  let o := s.originOf a .furl
  let obj := a.hdr.object
  if objCls obj ≠ 2 ∧ obj ≠ oDevice then (s, .st .badParam)
  else if deadline ≠ 0 ∧ (deadline < 100 ∨ 60000 < deadline ∨ deadline % 100 ≠ 0) then (s, .st .badParam)
  else
    let i := if objCls obj = 2 then objIdx obj else 8
    let d := if deadline = 0 then s.getN .furlDeadline else deadline
    let at_ := s.now + d * ms
    let s := s.startFurl i 2 0xFFFF noReading 0 d
    let cut := if s.furlStateOf i = 1 then (s.furlOf i).cut else at_
    let w := s.furlWaits i
    if w.isEmpty then (s, .done .ok [u64 cut])
    else (({ s with furlCmds := s.furlCmds ++ [({ origin := o, scopes := w } : FurlCmd)] }).hold o
      ((w.filter (· < 8)).map oAccel), .accepted [u64 cut])

def execFurl (a : Arrival) (deadline : Nat) (s : State) : Out := .next (s.request a (.furl deadline) (doFurl a deadline))

end Sys2Proof.Machine
end

