-- ==== Sys2Proof/Machine/Power.lean ====
section
/-! DEFINITION. Power states and bring-up (chapter 1), supplies and the resets of single tiles (R463, R749–R754). -/

namespace Sys2Proof.Machine

/-! ### Standby power (R38, R40, R269, R760) -/

/-- What each die holds is as it was programmed. -/
def State.loadNor (s : State) (n : Nor) : State := { s with nor := n }

/-- The package is the part these fuses make (Table 17.1). -/
def State.loadFuses (s : State) (f : Fuses) : State :=
  (({ s with member := f.member } : State).setV .serial 0 f.serial).setV .fieldDead 0 f.fieldDead.val |>.setV .dualSign 0
    (if f.dualSign then 1 else 0)

/-- PG_STBY_RISE (R38): the straps are latched and Fore cold boots. Common time starts at 0 (R73). `fuses`, if given, says which part
is on the board, and `nor` what its NOR dies were programmed with while the package had no power. -/
def execPgStbyRise (straps : Straps) (fuses : Option Fuses) (nor : Option Nor) (s : State) : Out :=
  .next (if s.get .powerState = psOff ∧ s.var .tilePhase 0 = 0 ∧ s.var .heldReset = 0 then
      let s : State := match fuses with | some f => s.loadFuses f | none => s
      let s : State := match nor with | some n => s.loadNor n | none => s
      (((s.setV .testMode 0 (if straps.testMode then 1 else 0)).setV .smbAddr 0 straps.smbAddr.val).coldStart).setV .debugSeen 0
        (if straps.debug then 1 else 0)
    else s)

/-- The first-fault record of a fall of PG_STBY in RUNNING (R269), whose CODE the manual does not give. -/
def State.standbyLost (s : State) : State :=
  if s.get .powerState = psRunning ∧ !s.flag .incidentOpen then
    let (x, s) := s.draw
    let s := s.count .incident 0
    s.writeFault (s.stampFault 3 { rail := 0xFFFF, cause := 7, failTime := s.now, confirmTime := s.now, scope := 0xFF, state := 0xFF
                                   code := (x % 65536).toNat, seqTime := 0xFFFFFFFF } 0) none
  else s

/-- The record of an incident whose 100 µs have not passed is formed. -/
def State.formNow (s : State) : State :=
  if (s.timer .firstFault).isSome then
    match firstFailing s.failures with
    | some f => ({ s with failures := [] } : State).writeFault
        (s.stampFault 1 f ((s.failures.map (fun (x : Failure) => x.rail)).eraseDups.length - 1)) none
    | none => s
  else s

/-- First-fault writes in progress reach both dies. -/
def State.finishFaults (s : State) : State :=
  s.each (s.norWrites.filterMap (fun (w : NorWrite) => match w.what with | .firstFault r => some r | _ => none)) State.addFault

/-- PG_STBY_FALL (R40, R269, R736): first-fault writes complete, `flushed` waiting log records reach the NAND, then every
tile is reset. -/
def execPgStbyFall (t : Ns) (flushed : Nat) (s : State) : Out :=
  let s := s.tick t
  .next (if s.get .powerState = psOff ∧ s.var .tilePhase 0 = 0 ∧ s.var .heldReset = 0 then s
    else
      let s := (s.formNow.standbyLost).finishFaults
      let s : State := { s with log := { s.log with waiting := s.log.waiting.drop flushed, held := s.log.held ++ s.log.waiting.take flushed } }
      s.powerOff.setV .heldReset 0 0)

/-! ### Fore ready (R45, R711, R775) -/

/-- A boot of another plate than the active one is reported, and the plate booted becomes the active one (R670, R711). -/
def State.revert (s : State) : State :=
  if s.var .bootReason < 0 then s
  else
    let p := s.varN .bootPlate 0
    let x := (s.plate p).getD { digest := 0 }
    let s := s.raise .fallbackBoot (oTile 0) [0, p, s.var .bootReason]
    let s := s.norWrite (.record (s.newRecord 1 p 0 x.digest)) none
    (s.setV .bootReason 0 (-1)).raise .updateReverted oDevice [p, 1 - p, x.version]

/-- The controller incarnation is drawn at a cold boot or wake: never 0, and not the one before (Table 5.8). -/
def State.newIncarnation (s : State) : State :=
  let (r, s) := s.drawRandom
  let old := s.varN .ctlIncarnation
  let n := 1 + r % 4294967295
  s.setV .ctlIncarnation 0 (if n = old then 1 + n % 4294967295 else n : Nat)

/-- A pending auto-start gives way to the first-fault latch (R267, R775). -/
def State.latchBars (s : State) : State :=
  if s.get .firstFaultLatched = 1 ∧ s.flag .autoStart then
    (s.setV .autoStart 0 0).raise .seqStartBlocked oDevice [0xFF, 0, s.get .incident]
  else s

/-- AUTO_START_PLACED (R775), at a cold boot alone. -/
def State.placeAutoStart (s : State) : State :=
  if s.var .waking = 0 ∧ s.var .bootRecovery = 0 ∧ s.td.any (·.autoStart) then (s.setV .autoStart 0 1).latchBars else s

/-- Fore leads alone (R29, R149). -/
def State.foreLeads (s : State) : State :=
  let s := (s.setV .tilePhase 0 3).setV .joinedAt 0 s.now |>.put .leader 0 0 |>.put .term 0 1
  let s := s.each ((List.range s.member.tiles).drop 1) (fun s t => s.put .role t 2)
  let s := (s.put .role 0 0).put .loopAccels 0 (2 ^ s.member.accels - 1 : Nat)
  ((s.syncMembers.syncCoeffs).setV .stacksUp 0 (s.stackMask 0 &&& (15 ^^^ s.varN .stackFailed) : Nat)).loopBack 0 |>.putRefclk true |>.busUp 0

/-- The stacks are trained at a cold boot (R640); a wake by the fast path reuses the parameters that the retained memory keeps, whose values
the manual does not give. -/
def State.trainStacks (s : State) : State :=
  if s.var .waking = 1 then s
  else (s.setV .stackFailed 0 0).each [0, 1, 2, 3] (fun s k => let (x, s) := s.draw; s.setV .stackTraining k x)

/-- A zone whose wet sample woke the device starts in SUSPECT with it, and LEAK_CONFIRM runs from that sample (R504, R505, R772). The
event of the zone carries the instant of detection in its first-wet field, and the record is stamped as it is raised: the manual does not
say which field is meant, and this is the model's choice (log entry 250). -/
def State.wokenZone (s : State) (z : Nat) (at_ : Ns) : State :=
  (((s.put .zoneState z zSuspect).modZone z (fun x => { x with firstWet := at_, wet := true })).setT .leakConfirm z
    (some (at_ + s.getN .leakConfirm * ms))).setV .wakeZone 0 (-1)

/-- Fore leads, and STANDBY or PROOF_RECOVERY is entered (R45). A wake that took the cold path, its retained record having failed, is
reported as a wake too, with old state DEEP_SLEEP and cause 5: the manual does not say whether it counts as a cold boot there, and this
is the model's choice (log entry 251). -/
def State.foreUp (s : State) : State :=
  let woke := decide (s.var .waking ≠ 0)
  let rec_ := s.flag .bootRecovery
  let at_ := s.varN .bootAt 0
  let s := s.trainStacks.foreLeads.newIncarnation.logGap.tileBooted 0
  let s := s.revert
  let s := (s.setV .serving 0 1).setV .keepAt 0 s.now |>.arm .hostSilence 0 (s.getN .hostSilence * sec)
    |>.arm .calPeriod 0 (s.getN .calPeriod * sec)
  let s := (s.powerReached (if rec_ then psRecovery else psStandby) (if woke then 5 else 7)).setV .bringUp 0 3
  let s := if rec_ then (s.put .autonomous 0 1).raise .autonomous oDevice [0, 0] else s.restorePrograms 0
  let s := s.coolStart.placeAutoStart
  let s := if 0 ≤ s.var .wakeZone then s.wokenZone (s.varN .wakeZone) at_ else s
  s.setV .waking 0 0

/-- FORE_READY (R45): STANDBY or PROOF_RECOVERY is entered, and Gantline is served. -/
def execForeReady (t : Ns) (s : State) : Out :=
  let s := s.tick t
  .next (if s.var .tilePhase 0 = 2 ∧ !s.flag .rejoining 0 ∧ (s.get .powerState = psOff ∨ s.get .powerState = psDeepSleep) then s.foreUp
    else s)

/-! ### POWER_STATE (R36–R43) -/

/-- A write starts a transition, or attaches to one: ST_ACCEPTED. -/
def State.takePower (s : State) (o : Origin) (v : Int) (goal : Int) : State × Res :=
  (({ s with powerWrites := s.powerWrites ++ [(o, v.toNat)] } : State).setV .goal 0 goal, .accepted [])

/-- A transition of STANDBY is cancelled. -/
def State.cancelPower (s : State) : State := (((s.disarm .runOn 0).setV .goal 0 (-1)).setV .restart43 0 0).powerSettle

/-- An entry to DEEP_SLEEP begins in STANDBY (R489). -/
def State.enterSleep (s : State) (o : Origin) : State × Res :=
  ((s.setV .goalCause 0 0).arm .runOn 0 (s.getN .runOn * sec)).takePower o 1 psDeepSleep

/-- A transition from RUNNING begins: the off-sequence of every scope (Table 1.8). -/
def State.leaveRunning (s : State) (o : Origin) (v : Int) : State × Res :=
  let x := (s.setV .goalCause 0 0).takePower o v v
  ((x.1.stopScopes s.scopesDeclared 0).checkStandby, x.2)

/-- What R37 gives a write of POWER_STATE that no check refuses, by the present state and the transitions in progress. -/
def State.powerWrite (s : State) (o : Origin) (v : Int) : State × Res :=
  let ps := s.get .powerState
  let goal := s.var .goal
  if v = ps ∧ goal < 0 then (s, .st .ok)
  else if ps = psRunning then
    if goal < 0 then s.leaveRunning o v
    else if v = psRunning then (s.setV .restart43 0 1).takePower o v psRunning
    else if goal = psDeepSleep ∧ v = psStandby then s.takePower o v psStandby
    else if v = goal then s.takePower o v goal
    else (s.setV .restart43 0 0).takePower o v v
  else if goal = psRunning then
    if v = psRunning then s.takePower o v goal
    else if v = psStandby then (s.cancelPower, .st .ok)
    else s.cancelPower.enterSleep o
  else if goal = psDeepSleep then
    if v = psStandby then (s.cancelPower, .st .ok)
    else if v = psRunning then
      let x := ((s.disarm .runOn 0).setV .goalCause 0 0).takePower o v psRunning
      x
    else s.takePower o v goal
  else if v = psRunning then (s.setV .goalCause 0 0).takePower o v psRunning
  else s.enterSleep o

/-- WRITE_POWER_STATE (R37, R39, R775). -/
def setPowerState (o : Origin) (v : Int) (_ : Nat) (s : State) : State × Res :=
  if s.get .powerState = psRecovery then (s, .st .denied)
  else if v = psRunning ∧ s.td.isNone then (s, .st .denied)
  else if v = psDeepSleep ∧ s.anyWet then (s, .st .denied)
  else if v = psDeepSleep ∧ !s.running.isEmpty then (s, .st .busy)
  else
    let s := if v = psRunning then s else (s.setV .autoStart 0 0).setV .restartWanted 0 0
    s.powerWrite o v

def execWritePowerState (a : Arrival) (v : Int) (s : State) : Out :=
  .next (s.write a .powerState v (setPowerState (s.originOf a .setProp) v))

/-! ### Bring-up (Table 1.9, R45–R48) -/

/-- The sequence table starts once Main and Mizzen are each ready or fenced (step 8). -/
def State.step8 (s : State) : State :=
  if s.get .powerState = psRunning ∧ s.var .bringUp = 5 ∧ s.flag .mainGood ∧ s.tilesSettled then
    let ids := s.scopesDeclared.filter (fun i => decide (s.scope i = 0))
    (s.beginWait ids true (decide (s.var .goalCause = 1 ∨ s.var .goalCause = 6))).setV .bringUp 0 8
  else s

/-- VDDM_EN and VDDZ_EN are asserted (step 6): a tile out of service by ADMIN_STATE stays fenced with cause 6 (R180). -/
def State.raiseSupplies (s : State) : State :=
  (s.each ((List.range s.member.tiles).drop 1) (fun s t =>
    if s.var .tilePhase t ≠ 0 then s
    else if s.get .adminState t = 1 then s.fence t 6
    else ((s.setV .tilePhase t 1).drive (if t = 1 then outVddm else outVddz) 1).arm .supplyPg t (100 * ms))).step8

/-- RUNNING is entered: FEED_EN[3:0] is asserted, and the supplies follow once main power is good. -/
def State.startRunning (s : State) : State :=
  let cause : Int := if s.flag .restart43 then 0 else if s.var .goal = psRunning then s.var .goalCause else 1
  let s := (s.setV .goalCause 0 cause).setV .restart43 0 0 |>.setV .autoStart 0 0 |>.setV .furlNoAuto 0 0 |>.setV .feedCut 0 0
    |>.setV .restartWanted 0 0
  let s := scopes.foldl (fun (s : State) i => s.setV .stoppedBy6 i 0) s
  let s := s.powerReached psRunning cause
  let s := (s.each [0, 1, 2, 3] (fun s f => s.drive (outFeed f) 1)).setV .bringUp 0 5
  let s := (s.startBudget.syncValves.retargetAll).recorderOn
  if s.flag .mainGood then s.raiseSupplies else s

/-- ENTER_RUNNING (R43, R45, R46, R512): flow is proven and a start is asked for; FEED_EN[3:0] is asserted. -/
def execEnterRunning (t : Ns) (s : State) : Out :=
  let s := s.tick t
  .next (if s.get .powerState = psStandby ∧ (s.var .goal = psRunning ∨ (s.var .goal < 0 ∧ s.flag .autoStart)) ∧ s.td.isSome
        ∧ s.get .flowProven = 1 ∧ (s.zonesHolding 2).isEmpty
        ∧ (!s.flag .restart43 || (s.flag .mainGood && scopes.all (fun i => decide (s.scope i = 0)))) then s.startRunning
    else s)

/-- MAIN_POWER_GOOD (R258): `feeds` feeds have been at or above MAIN_GOOD_V for 1 ms; `lowest` is the lowest feed voltage. -/
def execMainPowerGood (t : Ns) (feeds : Fin 5) (lowest : Int) (s : State) : Out :=
  let s := s.tick t
  .next (if !s.flag .mainGood ∧ s.td.isSome ∧ s.getN .feedsRequired ≤ feeds.val ∧ s.inService s.leader then
      let s := (s.setV .mainGood 0 1).raise .mainPower oDevice [1, feeds.val, lowest]
      if s.get .powerState = psRunning then s.raiseSupplies else s
    else s)

/-- The incident of a loss of main power (R259, R265, Table 6.7). -/
def State.mainFailure (s : State) (lowest : Int) : State :=
  s.noteFailure { rail := 0xFFFF, cause := 6, failTime := s.now, confirmTime := s.now, scope := 0xFF, state := 0xFF
                  code := (lowest / 100000).toNat % 65536, seqTime := 0xFFFFFFFF }

/-- Main power fails in RUNNING: scopes that are on enter OFF_SEQ with cause 6, waiting starts end, and the device goes to STANDBY. -/
def State.mainFails (s : State) (lowest : Int) : State :=
  let off := s.flag .feedCut
  let s := (s.mainFailure lowest).setV .restartWanted 0 (if off then 0 else 1)
  let s := s.each scopes State.cancelPending
  let s := (s.cancelWait scopes 6).beginOff (scopes.map (fun i => (i, 6, 0xFFFF)))
  s.fallToStandby (if off then 4 else 2)

/-- MAIN_POWER_LOST (R259). -/
def execMainPowerLost (t : Ns) (feeds : Fin 5) (lowest : Int) (s : State) : Out :=
  let s := s.tick t
  .next (if s.flag .mainGood ∧ feeds.val < s.getN .feedsRequired then
      let s := (s.setV .mainGood 0 0).raise .mainPower oDevice [0, feeds.val, lowest]
      if s.get .powerState = psRunning then s.mainFails lowest else s
    else s)

/-! ### Supplies of Main and Mizzen (R750), and their coming up (R48, R674) -/

/-- A tile that does not come up is fenced, and reported as lost (R48, R183). -/
def State.notReady (s : State) (t : Nat) (cause : Nat) : State :=
  let lead := s.leader
  ((s.fence t cause).failoverEvent t cause lead lead s.now (0, 0) 0).step8

/-- SUPPLY_POWER_GOOD (R750): the tile's reset is lifted; it has 1.5 s to become ready, or 2 s to rejoin. -/
def execSupplyPowerGood (t : Ns) (group : Fin 2) (s : State) : Out :=
  let s := s.tick t
  let x := 1 + group.val
  .next (if s.var .tilePhase x = 1 then
      let s := (s.disarm .supplyPg x).setV .tilePhase x 2 |>.setV .bootAt x s.now
      if s.flag .rejoining x then s.arm .rejoin x (2 * sec) else s.arm .tileReady x (1500 * ms)
    else s)

/-- SUPPLY_PG_TIMEOUT (R750). -/
def onSupplyPgTimeout (t : Ns) (group : Fin 2) (s : State) : Out :=
  let s := s.tick t
  let x := 1 + group.val
  .next (if s.due .supplyPg x ∧ s.var .tilePhase x = 1 then
      if s.flag .rejoining x then s.rejoinFails x 1 1 else s.notReady x 1
    else s)

/-- SUPPLY_PG_FALL (R158, R750): the loss of the tile's core supply. -/
def onSupplyPgFall (t : Ns) (group : Fin 2) (s : State) : Out :=
  let s := s.tick t
  let x := 1 + group.val
  .next (if s.padOf (if x = 1 then outVddm else outVddz) = 1 then
      match s.var .tilePhase x with
      | 3 => s.supplyLost x
      | 2 => if s.flag .rejoining x then s.rejoinFails x 1 2 else s.notReady x 1
      | _ => s
    else s)

/-- TILE_READY (R149, R674): the tile has verified the image streamed from Fore, and joins. -/
def execTileReady (t : Ns) (group : Fin 2) (s : State) : Out :=
  let s := s.tick t
  let x := 1 + group.val
  .next (if s.var .tilePhase x = 2 ∧ !s.flag .rejoining x ∧ !s.flag .tileReset x ∧ !s.flag .electing ∧ s.get .powerState = psRunning then
      match s.imageFor x with
      | some p =>
        let s := (s.disarm .tileReady x).setV .bootPlate x p
        (((s.joinTile x).tileBooted x).restorePrograms x).planHome.step8
      | none => s
    else s)

/-- TILE_READY_TIMEOUT (R48). -/
def execTileReadyTimeout (t : Ns) (group : Fin 2) (s : State) : Out :=
  let s := s.tick t
  let x := 1 + group.val
  .next (if s.due .tileReady x ∧ s.var .tilePhase x = 2 then s.notReady x 7 else s)

/-- CORE_UNDERVOLTAGE (R754, R158): the tile is fenced with cause 1; the only tile running resets the device. -/
def onCoreUndervoltage (t : Ns) (tile : Fin 3) (s : State) : Out :=
  let s := s.tick t
  let x := tile.val
  let runs (y : Nat) : Bool := decide (s.var .tilePhase y = 2 ∨ s.var .tilePhase y = 3)
  .next (if !runs x ∨ s.var .heldReset ≠ 0 then s
    else if ([0, 1, 2].filter runs) = [x] then s.holdReset 1
    else if s.var .tilePhase x = 3 then s.supplyLost x
    else if s.flag .rejoining x then s.rejoinFails x 1 2
    else s.notReady x 1)

/-- CORE_UNDERVOLTAGE_CLEAR (R754). -/
def execCoreUndervoltageClear (t : Ns) (s : State) : Out :=
  let s := s.tick t
  .next (if s.var .heldReset = 1 then (s.setV .heldReset 0 0).coldStart else s)

/-- TRIP_RESET_RELEASE (R463): every sensor of the tile has cooled to TRIP_T − HYST; its guard island lifts the reset, and
a device reset for a trip cold boots. -/
def execTripResetRelease (t : Ns) (tile : Fin 3) (s : State) : Out :=
  let s := s.tick t
  .next (if s.var .heldReset = 2 then (if tile = 0 ∨ s.member.tiles = 1 then (s.setV .heldReset 0 0).coldStart else s)
    else s.setV .tileReset tile.val 0)

/-! ### DEEP_SLEEP (R35, R41, R42, R489, R675, R772) -/

/-- What Fore's retained memory and wake block keep (R35, R772). -/
def keptAsleep : List V :=
  [.ctlIncarnation, .nextSession, .compOsc, .compRef, .holdErr, .holdAt, .holdPpm, .holdGood, .holdTemp, .oscMeasured, .oscOffset, .rateTrim, .slew, .slewAt,
   .bootPlate, .bootTrial, .bootFlags, .stackFailed, .stackTraining]

/-- The state lost with DEEP_SLEEP (R772): common time runs on, and what the retained memory keeps stays. -/
def State.sleepLoss (s : State) : State :=
  let z := s.powerOff
  let z : State := { z with log := s.log, wakeRec := s.wakeRec
                            norWrites := s.norWrites.filter (fun w => match w.what with | .firstFault _ => true | _ => false) }
  let z : State := keptAsleep.foldl (fun (z : State) v => { z with vars := z.vars.put {} v.ctorIdx (s.vars.get {} v.ctorIdx) }) z
  ((z.put .timeStatus 0 (s.get .timeStatus)).put .timeError 0 (s.get .timeError)).putRefclk false |>.put .powerState 0 psDeepSleep

/-- The wake record (R675). -/
def State.writeWake (s : State) : State :=
  let p := s.varN .bootPlate 0
  match s.plate p with
  | some x => { s with wakeRec := some { plate := p, digest := x.digest, svn := x.svn, slot := x.slot, len := x.len, seq := s.newestSeq } }
  | none => s

/-- The entry to DEEP_SLEEP ends: channels stop, valves are de-energised, sessions end, and what is not kept is lost (R489, R772). -/
def State.fallAsleep (s : State) : State :=
  let s := s.disarm .runOn 0
  let s := s.each (List.range 20) (fun s c => s.enterDrive c chOff 0)
  let s := s.each (List.range 4) (fun s v => s.drive (outIso v) 0)
  let s := s.each (List.range 8) (fun s v => s.drive (outValve v) 0)
  let s := s.endMaintenance 2
  let s := s.each (s.sessions.map (·.id)) (fun s id => s.endSession id 2)
  let s := s.stopEngines.timeLost.writeWake
  (s.powerReached psDeepSleep 0).sleepLoss

/-- RUN_ON_EXPIRY (R489). -/
def execRunOnExpiry (t : Ns) (s : State) : Out :=
  let s := s.tick t
  .next (if s.due .runOn ∧ s.get .powerState = psStandby ∧ s.var .goal = psDeepSleep then s.fallAsleep else s)

/-- Fore boots from DEEP_SLEEP, by the fast path where the wake record bears it out (R675). -/
def State.wake (s : State) (zone : Option (Fin 8)) (intact : Bool) : State :=
  let fast := s.wakeHolds intact
  let s : State := { s with wakeRec := none }
  let s := s.setV .wakeZone 0 (match zone with | some z => (z.val : Int) | none => -1)
  let s : State := match fast with
    | some p => (s.setV .waking 0 1).romFast p
    | none => (s.setV .waking 0 2).romCold
  s.strapAddrs.scanFaults.chooseTd

/-- WAKE_TRIGGER (R38, R41, R675): `zone` is the leak zone that is wet, if one is what wakes; `intact` says that the wake
record's MAC verifies. An entry still in progress is aborted instead. -/
def execWakeTrigger (t : Ns) (zone : Option (Fin 8)) (intact : Bool) (s : State) : Out :=
  let s := s.tick t
  .next (if s.get .powerState = psDeepSleep ∧ s.var .tilePhase 0 = 0 then s.wake zone intact
    else if s.get .powerState = psStandby then s.abortSleep
    else s)

end Sys2Proof.Machine
end

