-- ==== Sys2Proof/Machine/Update.lean ====
section
/-! DEFINITION. Bundles and the stage, etching, the order of an update, its steps, the rolling restart, and the plates' records
(chapter 18, R679, R680). -/

namespace Sys2Proof.Machine

/-! ### Bundles (R689–R691) -/

/-- A component entry (Table 18.2). -/
def bundleComp (b : List Nat) (i : Nat) : Comp :=
  let o := 0x40 + 96 * i
  { kind := leAt b o 1, vendor := leAt b (o + 2) 2, device := leAt b (o + 4) 2, targets := leAt b (o + 8) 4, version := leAt b (o + 0x0C) 4
    offset := leAt b (o + 0x10) 8, length := leAt b (o + 0x18) 8, compat := leAt b (o + 0x20) 16, digest := leAt b (o + 0x30) 48 }

/-- The component table. -/
def compsOf (b : List Nat) : List Comp := (List.range (leAt b 6 2)).map (bundleComp b)

/-- A requirement of a descriptor. -/
def reqAt (b : List Nat) (i : Nat) : CompatReq :=
  let o := 0x10 + 12 * i
  { kind := leAt b o 1, device := leAt b (o + 2) 2, min := leAt b (o + 4) 4, max := leAt b (o + 8) 4 }

/-- A compatibility descriptor (Table 18.3), with its COMPAT_ID; none where the layout is broken. -/
def descOf (b : List Nat) : Option CompatDesc :=
  let n := leAt b 7 1
  let reqs := (List.range n).map (reqAt b)
  if leAt b 0 4 = 0x44504D43 ∧ leAt b 4 2 = 1 ∧ leAt b 6 1 ≤ 2 ∧ n ≤ 32 ∧ b.length = 16 + 12 * n ∧ reqs.all (fun r => decide (r.kind ≤ 2))
      ∧ (List.range n).all (fun i => zeroAt b (0x11 + 12 * i) 1) ∧ (leAt b 6 1 = 0 → reqs.any (fun r => decide (r.kind = 0))) then
    some { id := Config.sha384 b % 2 ^ 128, kind := leAt b 6 1, vendor := leAt b 8 2, device := leAt b 0x0A 2, version := leAt b 0x0C 4, reqs }
  else none

/-- The bytes of a component. -/
def Comp.bytes (c : Comp) (b : List Nat) : List Nat := bytesAt b c.offset c.length

/-- The descriptors that the kind 4 entries of a bundle carry. -/
def bundleDescs (b : List Nat) : List CompatDesc := (compsOf b).filterMap (fun c => if c.kind = 4 then descOf (c.bytes b) else none)

/-- Two ranges share a byte. -/
def rangesMeet (o n p m : Nat) : Bool := decide (o < p + m) && decide (p < o + n)

/-- An entry's own fields, its place, and the descriptor it names. -/
def entryRight (b : List Nat) (cs : List Comp) (i : Nat) (c : Comp) : Bool :=
  let o := 0x40 + 96 * i
  let first := 0x40 + 96 * cs.length
  decide (c.kind ≤ 4) && zeroAt b (o + 1) 1 && zeroAt b (o + 6) 2
    && (decide (c.kind < 3) || (decide (c.vendor = 0) && decide (c.device = 0)))
    && (match c.kind with | 1 => decide (c.targets < 2 ^ 16) | 2 => decide (c.targets < 2 ^ 8) | _ => decide (c.targets = 0))
    && (decide (c.kind ≠ 3) || decide (c.compat = 0))
    && decide (first ≤ c.offset) && decide (c.offset + c.length ≤ leAt b 0x10 8)
    && (cs.take i).all (fun x => !rangesMeet x.offset x.length c.offset c.length)
    && (decide (c.kind = 4) || !(cs.take i).any (fun x => decide (x.kind = c.kind) && decide (c.kind = 0 ∨ c.kind = 3)))
    && (decide (2 < c.kind) || (bundleDescs b).any (fun d => decide (d.id = c.compat) && decide (d.kind = c.kind)))

/-- The byte offset at which a bundle breaks Tables 18.1–18.3 (R695): the header, an entry, or a descriptor. -/
def bundleFault (b : List Nat) : Option Nat :=
  let n := leAt b 6 2
  let sig := leAt b 0x10 8
  let cs := compsOf b
  if leAt b 0 4 ≠ 0x444E424B ∨ leAt b 4 2 ≠ 1 ∨ n = 0 ∨ 32 < n ∨ leAt b 8 8 ≠ b.length ∨ 6442450944 < b.length ∨ sig + sigLen ≠ b.length
      ∨ sig < 0x40 + 96 * n ∨ !zeroAt b 0x1C 36 then some 0
  else (List.range n).findSome? (fun i =>
    let c := bundleComp b i
    if !entryRight b cs i c then some (0x40 + 96 * i)
    else if c.kind = 4 ∧ !(descOf (c.bytes b)).any (fun d => d.id = c.compat) then some c.offset
    else none)

/-! ### Plate images and tray descriptions as bytes (R668, R712) -/

/-- The header's fields lie in range and its sections apart (Table 17.3). -/
def plateHeader (b : List Nat) : Bool :=
  let f (o : Nat) : Nat := leAt b o 4
  let sig := f 0x2C
  let secs := [(f 0x14, f 0x18), (f 0x1C, f 0x20), (f 0x24, f 0x28)]
  decide (f 0 = 0x54504B4E) && decide (leAt b 4 2 = 1) && zeroAt b 6 2 && decide (f 8 = b.length) && decide (b.length ≤ 50331648)
    && decide (f 0x18 ≤ 2097152) && zeroAt b 0x40 192 && decide (sig + sigLen = b.length)
    && secs.all (fun x => decide (256 ≤ x.1) && decide (x.1 + x.2 ≤ sig))
    && secs.Pairwise (fun x y => rangesMeet x.1 x.2 y.1 y.2 = false)

/-- A plate image as the ROM reads it. -/
def State.plateOf (s : State) (b : List Nat) : Plate :=
  let sig := leAt b 0x2C 4
  { digest := Config.sha384 (b.take sig), version := leAt b 0x0C 4, svn := leAt b 0x10 2, minSvn := leAt b 0x12 2, slot := leAt b (sig + 6) 1
    compat := leAt b 0x30 16, len := leAt b 8 4, desc := descOf (bytesAt b (leAt b 0x24 4) (leAt b 0x28 4))
    header := plateHeader b, signed := s.sigHolds b sig }

/-- The checks of R668 by mainline firmware but for the SVN floor. -/
def State.plateAdmits (s : State) (x : Plate) : Bool :=
  x.header && decide (1 ≤ x.svn) && decide (x.svn ≤ 256) && decide (x.minSvn ≤ x.svn) && s.plateVerifies x false

/-- A tray description as it lies in NOR. -/
def State.copyOf (s : State) (b : List Nat) : Option TdCopy :=
  let sig := b.length - sigLen
  (Config.trayDesc b).map (fun d =>
    ({ generation := leAt b 0 8, slot := leAt b (sig + 6) 1, signed := decide (sigLen ≤ b.length) && s.sigHolds b sig
       digest := Config.sha384 (b.take sig), desc := d } : TdCopy))

/-! ### The stage (R693–R695) -/

def sgEmpty : Int := 0
def sgOpen : Int := 1
def sgVerifying : Int := 2
def sgVerified : Int := 3

/-- The bytes staged. -/
def State.bundle (s : State) : List Nat := s.stage.parts.flatMap (·.2)

/-- Bytes written without a gap, from offset 0 (R694). -/
def prefixOf : List (Nat × List Nat) → Nat → Nat
  | [], p => p
  | x :: rest, p => if x.1 = p then prefixOf rest (p + x.2.length) else p

/-- The stage enters a state; BUNDLE_VERSION is that of a VERIFIED bundle. -/
def State.setStage (s : State) (st : Int) : State :=
  (s.put .stageState 0 st).put .bundleVersion 0 (if st = sgVerified then (leAt s.bundle 0x18 4 : Nat) else 0)

/-- The stage is erased. -/
def State.eraseStage (s : State) : State := ({ s with stage := { s.stage with parts := [] } } : State).put .stagePrefix 0 0

/-- Writes of the stage on their way to the NAND. -/
def State.stageWrites (s : State) : List (Nat × Nat) :=
  s.nandWrites.filterMap (fun w => match w with | .stage _ _ off b => some (off, b.length) | _ => none)

/-- OPEN_STAGE (R693, R694). -/
def doOpenStage (a : Arrival) (total resume : Nat) (s : State) : State × Res :=
  let id := (s.originOf a .openStage).session
  if objCls a.hdr.object ≠ 0x12 ∨ 1 < resume ∨ (total ≠ 0 ∧ total < 1024) then (s, .st .badParam)
  else if 6442450944 < total then (s, .st .updTooLarge)
  else if s.stage.holder.any (fun h => h ≠ id) ∨ s.isHeld oStage ∨ !s.stageWrites.isEmpty then (s, .st .busy)
  else if total = 0 then
    ((({ s with stage := { s.stage with holder := none } } : State).eraseStage.put .stageTotal 0 0).setStage sgEmpty, .st .ok)
  else
    let keep := decide (resume = 1 ∧ s.get .stageState = sgOpen ∧ s.get .stageTotal = (total : Int))
    let s := if keep then s else s.eraseStage
    ((({ s with stage := { s.stage with holder := some id } } : State).put .stageTotal 0 total).setStage sgOpen, .st .ok)

def execOpenStage (a : Arrival) (total resume : Nat) (s : State) : Out :=
  .next (s.request a (.openStage total resume) (doOpenStage a total resume))

/-- WRITE_STAGE (R693): it completes once the NAND holds the bytes. -/
def doWriteStage (a : Arrival) (offset : Nat) (bytes : List Nat) (s : State) : State × Res :=
  let o := s.originOf a .writeStage
  let n := bytes.length
  if objCls a.hdr.object ≠ 0x12 then (s, .st .badParam)
  else if s.get .stageState ≠ sgOpen ∨ s.stage.holder ≠ some o.session then (s, .st .updStageState)
  else if n = 0 ∨ 4016 < n ∨ s.getN .stageTotal < offset + n
      ∨ (s.stage.parts.map (fun p => (p.1, p.2.length)) ++ s.stageWrites).any (fun p => rangesMeet p.1 p.2 offset n) then (s, .st .badParam)
  else ({ s with nandWrites := s.nandWrites ++ [.stage o (s.replyCsn o) offset bytes] }, .later)

def execWriteStage (a : Arrival) (offset : Nat) (bytes : List Nat) (s : State) : Out :=
  .next (s.request a (.writeStage offset bytes) (doWriteStage a offset bytes))

/-- The NAND holds bytes of the stage. -/
def State.stageHolds (s : State) (o : Origin) (csn off : Nat) (b : List Nat) : State :=
  let l := s.stage.parts
  let l := l.filter (fun p => decide (p.1 < off)) ++ [(off, b)] ++ l.filter (fun p => decide (off < p.1))
  (({ s with stage := { s.stage with parts := l } } : State).put .stagePrefix 0 (prefixOf l 0 : Nat)).answer o .ok [] csn

/-- VERIFY_STAGE (R695). -/
def doVerifyStage (a : Arrival) (s : State) : State × Res :=
  let o := s.originOf a .verifyStage
  if objCls a.hdr.object ≠ 0x12 then (s, .st .badParam)
  else if s.stage.holder.any (fun h => h ≠ o.session) ∨ s.isHeld oStage then (s, .st .busy)
  else if s.get .stageState ≠ sgOpen then (s, .st .updStageState)
  else ((({ s with stage := { s.stage with verifying := some o } } : State).hold o [oStage]).setStage sgVerifying, .accepted [])

def execVerifyStage (a : Arrival) (s : State) : Out := .next (s.request a .verifyStage (doVerifyStage a))

/-- The check of R695 on a component by its kind. -/
def State.compCheck (s : State) (b : List Nat) (c : Comp) : Status :=
  match c.kind with
  | 0 =>
    let x := s.plateOf (c.bytes b)
    if x.header ∧ (x.svn : Int) < s.get .svnFloor then .updSvn
    else if s.plateAdmits x ∧ x.compat = c.compat then .ok else .updSignature
  | 3 =>
    match s.copyOf (c.bytes b) with
    | some t => if s.copyQualifies t then .ok else .updBundleInvalid
    | none => .updBundleInvalid
  | _ => .ok

/-- The first check of R695 that fails, with the offset it is reported at. -/
def State.bundleCheck (s : State) : Status × Nat :=
  let b := s.bundle
  let cs := compsOf b
  let slots := if cs.all (fun c => decide (c.kind = 3 ∨ c.kind = 4)) then List.range 6 else List.range 4
  if s.get .stagePrefix ≠ s.get .stageTotal then (.updIncomplete, 0)
  else match bundleFault b with
  | some o => (.updBundleInvalid, o)
  | none =>
    if !s.verifies b (leAt b 0x10 8) slots false then (.updSignature, 0)
    else match cs.find? (fun c => Config.sha384 (c.bytes b) ≠ c.digest) with
    | some c => (.updBundleInvalid, c.offset)
    | none =>
      match (cs.filter (fun c => decide (c.kind = 0)) ++ cs.filter (fun c => decide (c.kind = 3))).find? (fun c => s.compCheck b c ≠ .ok) with
      | some c => (s.compCheck b c, if c.kind = 3 then c.offset else 0)
      | none => (.ok, 0)

/-! ### The descriptor store (R692) -/

/-- The controller's plate: the one the leader's image came from. -/
def State.ownPlate (s : State) : Option Plate := s.plate (s.varN .bootPlate s.leader)

/-- The COMPAT_IDs that running components report. -/
def State.runningIds (s : State) : List Nat :=
  (s.ownPlate.map (·.compat)).toList ++ ((List.range 16).filter s.relayPresent).map (fun r => (s.relay r).compat)
    ++ ((List.range 8).filter (fun a => decide (s.get .accelPresence a = 2))).map (fun a => s.varN .compat a)

/-- A descriptor joins the store of 1,024; the oldest that nothing running reports makes room. -/
def State.storeDesc (s : State) (d : CompatDesc) : State :=
  if s.descStore.any (fun x => x.id = d.id) then s
  else if s.descStore.length < 1024 then { s with descStore := s.descStore ++ [d] }
  else match s.descStore.find? (fun x => decide (x.id ∉ s.runningIds)) with
    | some x => { s with descStore := s.descStore.erase x ++ [d] }
    | none => s

/-- The descriptor of a COMPAT_ID: in the store, in the stage, or in the header of a plate. -/
def State.descFor (s : State) (id : Nat) : Option CompatDesc :=
  (s.descStore ++ (if s.get .stageState = sgVerified then bundleDescs s.bundle else [])
    ++ [0, 1].filterMap (fun p => (s.plate p).bind (·.desc))).find? (fun d => d.id = id)

/-- STAGE_VERIFY_DONE (R695), before a request that waits for the stage. What the event's data say of a bundle that fails the manual does not give. -/
def onStageVerifyDone (t : Ns) (s : State) : Out :=
  let s := s.tick t
  .next (match s.stage.verifying with
    | some o =>
      let x := s.bundleCheck
      let s : State := { s with stage := { s.stage with verifying := none, holder := none } }
      if x.1 = .ok then
        let b := s.bundle
        let s := (s.setStage sgVerified).each (bundleDescs b) State.storeDesc
        s.complete o .stageVerified .ok [(leAt b 0x18 4 : Nat), (leAt b 6 2 : Nat)]
      else
        let (v, s) := s.draw
        let (n, s) := s.draw
        (s.setStage sgOpen).complete o .stageVerified x.1 [v % 4294967296, n % 4294967296] x.2
    | none => s)

/-! ### The order of an update (R700–R702) -/

/-- The staged component of an index, hashed again against its DIGEST (R695). -/
def State.staged (s : State) (i : Nat) : Option (List Nat) :=
  let b := s.bundle
  let c := bundleComp b i
  let x := c.bytes b
  if Config.sha384 x = c.digest then some x else none

/-- The entry of the staged plate image, or tray description. -/
def State.stagedKind (s : State) (k : Nat) : Option Nat :=
  if s.get .stageState = sgVerified then (compsOf s.bundle).findIdx? (fun c => c.kind = k) else none

/-- D of the staged plate image. -/
def State.stagedDigest (s : State) : Option Nat :=
  (s.stagedKind 0).map (fun i => let b := (bundleComp s.bundle i).bytes s.bundle; Config.sha384 (b.take (leAt b 0x2C 4)))

/-- The instances that the bundle names and that do not run their target. -/
def State.updInsts (s : State) : List UpdInst :=
  let cs := compsOf s.bundle
  let own := match s.stagedKind 0, s.stagedDigest with
    | some i, some d => if (d : Int) = s.runningDigest then []
        else [({ kind := 0, inst := 0, device := (cs[i]?.map (·.device)).getD 0, here := true
                 compat := (s.ownPlate.map (·.compat)).getD 0, target := (cs[i]?.map (·.compat)).getD 0, comp := i } : UpdInst)]
    | _, _ => []
  let parts (k n : Nat) (here : Nat → Bool) (id : Nat → Nat) : List UpdInst := (List.range n).filterMap (fun x =>
    (cs.findIdx? (fun c => decide (c.kind = k) && c.targets.testBit x)).map (fun i =>
      ({ kind := k, inst := x, device := (cs[i]?.map (·.device)).getD 0, here := here x, compat := if here x then id x else 0
         target := (cs[i]?.map (·.compat)).getD 0, comp := i } : UpdInst)))
  (own ++ parts 1 16 s.relayPresent (fun r => (s.relay r).compat)
    ++ parts 2 8 (fun a => decide (s.get .accelPresence a = 2)) (fun a => s.varN .compat a)).filter
    (fun u => decide (u.kind = 0) || !u.here || decide (u.compat ≠ u.target))

/-- Instances join the cohort of their kind, DEVICE_ID, present COMPAT_ID and target. -/
def joinCohort : List (List UpdInst) → UpdInst → List (List UpdInst)
  | [], u => [[u]]
  | c :: cs, u =>
    if c.any (fun x => decide (x.kind = u.kind) && decide (x.device = u.device) && decide (x.compat = u.compat) && decide (x.target = u.target)
        && decide (x.here = u.here)) then (c ++ [u]) :: cs
    else c :: joinCohort cs u

/-- The cohorts: controller, relays, accelerators, each by its lowest instance. -/
def State.cohorts (s : State) : List (List UpdInst) := s.updInsts.foldl joinCohort []

/-- The components that are present: kind, instance, COMPAT_ID. -/
def State.units (s : State) : List (Nat × Nat × Nat) :=
  [(0, 0, (s.ownPlate.map (·.compat)).getD 0)] ++ ((List.range 16).filter s.relayPresent).map (fun r => (1, r, (s.relay r).compat))
    ++ ((List.range 8).filter (fun a => decide (s.get .accelPresence a = 2))).map (fun a => (2, a, s.varN .compat a))

/-- The state in which the cohorts of a list run their targets (R701). -/
def State.presentWith (s : State) (done : List (List UpdInst)) : List CompatDesc :=
  s.units.filterMap (fun u =>
    match done.flatten.find? (fun x => x.kind = u.1 ∧ x.inst = u.2.1) with
    | some x => s.descFor x.target
    | none => s.descFor u.2.2)

/-- A state is safe (R700). -/
def safeState (l : List CompatDesc) : Bool :=
  l.all (fun d => d.reqs.all (fun r => l.all (fun e =>
    !(decide (e.kind = r.kind) && (decide (r.device = 0xFFFF) || decide (e.device = r.device))) ||
      (decide (r.min ≤ e.version) && decide (e.version ≤ r.max)))))

/-- The search of R701; the count bounds its depth. -/
def planSearch (ok : List (List UpdInst) → List UpdInst → Bool) (all : List (List UpdInst)) :
    Nat → List (List UpdInst) → Option (List (List UpdInst))
  | 0, done => if all.all (· ∈ done) then some done else none
  | n + 1, done =>
    if all.all (· ∈ done) then some done
    else all.findSome? (fun c => if c ∈ done then none else if ok done c then planSearch ok all n (done ++ [c]) else none)

/-- A part that an update step cannot reach: absent, without CAPS bit 3, or a relay without a management device. -/
def State.unreachable (s : State) (u : UpdInst) : Bool :=
  !u.here || (decide (u.kind = 2) && !(s.varN .caps u.inst).testBit 3)
    || (decide (u.kind = 1) && !s.td.any (fun d => d.managers.any (fun m => decide (m.1 = u.inst))))

/-- plan_update (R701): REASON, and the cohorts in order, or as they were formed. -/
def State.updatePlan (s : State) : Nat × List (List UpdInst) :=
  let cs := s.cohorts
  let known (id : Nat) : Bool := (s.descFor id).isSome
  if !(s.units.all (fun u => known u.2.2)) ∨ !(cs.flatten.all (fun u => known u.target)) then (1, cs)
  else if cs.flatten.any s.unreachable then (4, cs)
  else if 12 < cs.length then (3, cs)
  else if !safeState (s.presentWith []) then (2, cs)
  else
    let ok (done : List (List UpdInst)) (c : List UpdInst) : Bool :=
      safeState (s.presentWith done ++ c.filterMap (fun u => s.descFor u.target)) && safeState (s.presentWith (done ++ [c]))
    match planSearch ok cs cs.length [] with
    | some l => (0, l)
    | none => (5, cs)

/-- VERSION of a COMPAT_ID; 0 without a descriptor. -/
def State.compatVersion (s : State) (id : Nat) : Nat := ((s.descFor id).map (·.version)).getD 0

/-- The result block of PLAN_UPDATE (R702). A version without a descriptor is a free value. -/
def State.planResults (s : State) (x : Nat × List (List UpdInst)) : List Fld × State :=
  let v (s : State) (id : Nat) : Int × State := match s.descFor id with
    | some d => ((d.version : Int), s)
    | none => let (y, s) := s.draw; (y % 4294967296, s)
  let row (p : List Fld × State) (c : List UpdInst) : List Fld × State := match c with
    | [] => p
    | u :: _ =>
      let (src, s) := v p.2 u.compat
      let (dst, s) := v s u.target
      (p.1 ++ [u8 u.kind, rsv 1, u16 u.device, u32 ((c.map (fun y => 2 ^ y.inst)).sum : Nat), ⟨4, src⟩, ⟨4, dst⟩], s)
  x.2.foldl row ([u8 x.1, u8 x.2.flatten.length, rsv 2], s)

/-- PLAN_UPDATE (R701, R702). -/
def doPlanUpdate (a : Arrival) (s : State) : State × Res :=
  if objCls a.hdr.object ≠ 0x12 then (s, .st .badParam)
  else if s.get .stageState ≠ sgVerified then (s, .st .updStageState)
  else
    let x := s.updatePlan
    let (l, s) := s.planResults x
    (s, .done (if x.1 = 0 then .ok else .noSafeOrder) l)

def execPlanUpdate (a : Arrival) (s : State) : Out := .next (s.request a .planUpdate (doPlanUpdate a))

/-! ### Etching (R696–R698, R712) -/

/-- The plate that ETCH writes: not the active one, nor, without an ACTIVE record, the one that booted. -/
def State.etchTarget (s : State) : Option Nat :=
  match s.activeRecord with
  | some r => some (1 - r.plate)
  | none => if 0 ≤ s.var .bootPlate 0 then some (1 - s.varN .bootPlate 0) else none

/-- The other plate is the active one's fallback (R697). -/
def State.onTrial (s : State) : Bool := s.activeRecord.any (fun r => decide ((s.confirms r).length < 3))

/-- A staged component does not match its DIGEST any more: the stage returns to OPEN (R695). -/
def State.stageSpoilt (s : State) : State := s.setStage sgOpen

/-- ETCH finds a spoilt component: the stage's change commits with the request, whose reply says that it failed (the model's choice, log entry 284). -/
def State.etchSpoilt (s : State) (o : Origin) : State × Res := (s.stageSpoilt.answer o .updBundleInvalid [] (s.csnOf o), .later)

/-- ETCH once it has the stage; `property` is the request's, `disturb` that maintenance mode and FORCE are given. -/
def State.startEtch (s : State) (o : Origin) (property : Nat) (disturb : Bool) : State × Res :=
  let p := objIdx o.object
  if property = 0 ∧ objCls o.object = 0x11 then
    match s.stagedKind 0 with
    | none => (s, .st .updStageState)
    | some i =>
      if s.etchTarget.any (fun t => decide (t ≠ p)) then (s, .st .badParam)
      else if s.onTrial ∧ !disturb then (s, .st .updTrial)
      else match s.staged i with
        | none => s.etchSpoilt o
        | some b =>
          let s : State := { (s.hold o [oStage, oPlate p]).beginApply o with etch := some { origin := o, copy := false, target := p } }
          (s.norWrite (.record (s.newRecord 7 p 0 (s.plateOf b).digest)) none, .accepted [])
  else if property = 1 ∧ objCls o.object = 0x12 then
    match s.stagedKind 3 with
    | none => (s, .st .updStageState)
    | some i =>
      match s.staged i with
      | none => s.etchSpoilt o
      | some _ =>
        let k := if s.var .tdCopy = 0 then 1 else 0
        let s : State := { ((s.hold o [oStage]).beginApply o).putCopy k none with etch := some { origin := o, copy := true, target := k } }
        (s.norWrite (.tdCopy k) none, .accepted [])
  else (s, .st .badParam)

/-- ETCH (R696, R697). -/
def doEtch (a : Arrival) (s : State) : State × Res := s.startEtch (s.originOf a .etch) a.hdr.property (s.mayDisturb a)

def execEtch (a : Arrival) (s : State) : Out := .next (s.request a .etch (doEtch a))

/-- ETCH ends. A tray description has no SVN. -/
def State.endEtch (s : State) (x : Etch) (st : Status) (svn version : Int) : State :=
  ({ s with etch := none } : State).complete x.origin .etchDone st [((if x.copy then 0x10 + x.target else x.target : Nat) : Int), svn, version]

/-- The plate image is on both dies, and is read back (steps 4 and 5 of R696). -/
def State.plateWritten (s : State) (x : Etch) (good : Bool) : State :=
  let b := ((s.stagedKind 0).bind s.staged).getD []
  let y := s.plateOf b
  if good ∧ s.plateAdmits y ∧ s.get .svnFloor ≤ (y.svn : Int) then
    let s := s.putPlate x.target (some y)
    s.norWrite (.record (s.newRecord 2 x.target y.svn y.digest)) none
  else s.endEtch x .updSignature y.svn y.version

/-- PROOF is held (R692, R696, R698). -/
def State.proofHeld (s : State) (x : Etch) : State :=
  match s.plate x.target with
  | some y =>
    let s : State := match y.desc with | some d => s.storeDesc d | none => s
    let s := s.endEtch x .ok y.svn y.version
    if s.get .powerState = psRecovery then
      ({ s with etch := some { x with resets := true } } : State).norWrite (.record (s.newRecord 1 x.target 0 y.digest)) none
    else s
  | none => s

/-- The tray description's copy is on both dies, and is checked (R712). -/
def State.copyWritten (s : State) (x : Etch) (good : Bool) : State :=
  let (v, s) := s.draw
  let i := s.stagedKind 3
  let version : Int := ((i.map (fun i => (bundleComp s.bundle i).version)).getD 0 : Nat)
  match (i.bind s.staged).bind s.copyOf with
  | some c =>
    if good ∧ s.copyVerifies c then
      (s.putCopy x.target (some c)).endEtch x .ok (v % 65536) version
    else s.endEtch x .updSignature (v % 65536) version
  | none => s.endEtch x .updSignature (v % 65536) version

/-! ### Confirmation (R710) and the plate records (R713) -/

/-- CONFIRM may be written: this boot of Fore has written none, the count is below 3, and Fore runs the active plate. -/
def State.confirmable (s : State) : Option MetaRec :=
  match s.activeRecord with
  | some r => if s.varN .confirmedBoot 0 = 0 ∧ (s.confirms r).length < 3 ∧ s.var .bootPlate 0 = (r.plate : Int) then some r else none
  | none => none

/-- The CONFIRM records of the active plate. -/
def State.confirmCount (s : State) : Nat := (s.activeRecord.map (fun r => (s.confirms r).length)).getD 0

/-- A CONFIRM record is written. -/
def State.writeConfirm (s : State) (r : MetaRec) (o : Option Origin) : State :=
  (s.norWrite (.record (s.newRecord 4 r.plate (s.confirmCount + 1) r.digest)) o).setV .confirmedBoot 0 1

/-- CONFIRM (R710). -/
def doConfirm (a : Arrival) (s : State) : State × Res :=
  if objCls a.hdr.object ≠ 0xFF then (s, .st .badParam)
  else match s.confirmable with
    | some r => (s.writeConfirm r (some (s.originOf a .confirm)), .later)
    | none => (s, .done .ok [u8 s.confirmCount, rsv 3])

def execConfirm (a : Arrival) (s : State) : Out := .next (s.request a .confirm (doConfirm a))

/-- A CONFIRM record is held on both dies; the third raises EV_CONFIRMED. -/
def State.confirmHeld (s : State) (r : MetaRec) (o : Option Origin) : State :=
  let s : State := if r.arg = 3 then
      s.raise .confirmed (oPlate r.plate) [r.plate, 3, ((s.plate r.plate).map (fun x => (x.version : Int))).getD 0] else s
  match o with
  | some o => s.answer o .ok [u8 r.arg, rsv 3] (s.replyCsn o)
  | none => s

/-- AUTO_CONFIRM_EXPIRY (R710): every tile has stayed in service for AUTO_CONFIRM. -/
def execAutoConfirmExpiry (t : Ns) (s : State) : Out :=
  let s := s.tick t
  let n := s.getN .autoConfirm
  .next (if n ≠ 0 ∧ s.tilesIn.length = s.member.tiles ∧ s.tilesIn.all (fun x => decide (s.varN .joinedAt x + n * sec ≤ s.now)) then
      match s.confirmable with
      | some r => s.writeConfirm r none
      | none => s
    else s)

/-- READ_PLATES (Table 18.8). What a plate without an image shows beside its proof is a free value. -/
def doReadPlates (a : Arrival) (s : State) : State × Res :=
  if objCls a.hdr.object ≠ 0xFF then (s, .st .badParam)
  else
    let row (p : List Fld × State) (k : Nat) : List Fld × State :=
      let (v, s) := p.2.draws_ 4
      let d (i m : Nat) : Int := v.getD i 0 % (m : Int)
      let proof := u8 (if (s.proofOf k).isSome then 1 else 0)
      let l : List Fld := match s.plate k with
        | some x => [u8 x.slot, u16 x.svn, u32 x.version, ⟨48, x.digest⟩]
        | none => [⟨1, d 0 256⟩, ⟨2, d 1 65536⟩, ⟨4, d 2 (2 ^ 32)⟩, ⟨48, d 3 (2 ^ 384)⟩]
      (p.1 ++ [proof] ++ l, s)
    let act := s.activeRecord
    let head : List Fld := [u8 ((act.map (·.plate)).getD 0xFF), u8 (if s.var .bootPlate 0 < 0 then 0xFF else s.var .bootPlate 0),
      u8 s.confirmCount, u8 ((act.map (fun r => (s.trials r).length)).getD 0)]
    let x := [0, 1].foldl row (head, s)
    (x.2, .done .ok x.1)

def execReadPlates (a : Arrival) (s : State) : Out := .next (s.request a .readPlates (doReadPlates a))

/-! ### Tiles restarted one by one (R680, R707) -/

/-- A tile's loops move to their mirrors, one accelerator a millisecond. -/
def State.loopsOut (s : State) (t : Nat) : State :=
  let mine := (List.range 8).filter (fun a => decide (s.regTile a = some t) && !s.moves.any (fun (m : Nat × Nat) => decide (m.1 = a)))
  { s with moves := s.moves ++ mine.map (fun a => (a, lossTile t a)) }

/-- The restart ends. -/
def State.endRoll (s : State) (r : Roll) (x : Option Nat) : State :=
  ({ s with roll := some { r with result := some x } } : State).setV .rolling 0 0

/-- The rolling restart goes on as far as it can. -/
def State.rollStep (s : State) : State :=
  match s.roll with
  | none => s
  | some r =>
    if r.result.isSome then s
    else match r.left with
    | [] => if s.moves.isEmpty then s.endRoll r none else s
    | x :: rest =>
      if r.fenced then
        if s.inService x then
          let s : State := { s with roll := some { r with left := rest, fenced := false } }
          if rest.isEmpty then s.planHome else s
        else if s.flag .rejoining x then s
        else s.endRoll r (some x)
      else if s.var .tilePhase x = 4 ∧ !s.flag .rejoining x then
        ({ s with roll := some { r with fenced := true } } : State).startRejoin x
      else if s.membership ≠ 3 then
        if [0, 1, 2].any (fun t => s.flag .rejoining t) then s else s.endRoll r (some x)
      else if s.getN .loopAccels x ≠ 0 then s.loopsOut x
      else
        let s : State := if s.leader = x then s.checkpoint.handover (if x = 0 then 1 else 0) else s
        (({ s with roll := some { r with fenced := true } } : State).fence x 0xFF).startRejoin x

/-- A rolling restart begins. -/
def State.startRoll (s : State) (tiles : List Nat) (update : Bool) : State :=
  ({ s with roll := some { left := tiles, update } } : State).setV .rolling 0 1

/-! ### REVOKE_KEY (R679, R680) -/

/-- REVOKE_KEY. -/
def doRevokeKey (a : Arrival) (s : State) : State × Res :=
  let o := s.originOf a .revokeKey
  let i := objIdx a.hdr.object
  if objCls a.hdr.object ≠ 0x19 then (s, .st .badParam)
  else if s.keyState i = 0 then (s, .st .secSlotEmpty)
  else if s.keyState i ≠ 1 then (s, .st .secAlreadyRevoked)
  else if !s.survives i false then (s, .st .denied)
  else if s.isHeld (oPlate 0) ∨ s.isHeld (oPlate 1) then (s, .st .busy)
  else
    let r := s.newRecord 5 0xFF i (s.keyEc i)
    let trio := decide (s.membership = 3)
    let s := (s.norWrite (.record r) none).hold o [oPlate 0, oPlate 1]
    ({ s with revoking := some { origin := o, csn := s.replyCsn o, slot := i, record := r.seq, trio } },
      if trio then .accepted [] else .later)

def execRevokeKey (a : Arrival) (s : State) : Out := .next (s.request a .revokeKey (doRevokeKey a))

/-- A record is held on both dies. -/
def State.recordHeld (s : State) (seq : Nat) : Bool := s.records.any (fun r => r.seq = seq)

/-- A REVOKE_KEY goes on: once its record is held it ends, or in TRIO restarts Fore, and ends with that. -/
def State.revokeStep (s : State) : State :=
  match s.revoking with
  | none => s
  | some x =>
    if !s.recordHeld x.record then s
    else if !x.trio then (({ s with revoking := none } : State).unhold x.origin).answer x.origin .ok [u8 0, rsv 3] x.csn
    else if !x.rolls then
      if s.roll.isSome then s else ({ s with revoking := some { x with rolls := true } } : State).startRoll [0] false
    else match s.roll with
      | some r =>
        match r.result with
        | none => s
        | some l =>
          let s : State := { s with revoking := none, roll := none }
          if l.isSome then s.complete x.origin .keyRevoked .internal [x.slot] (detailWord 1 0 (s.getN .fenceCause 0))
          else if (s.varN .revoked).testBit x.slot then s.complete x.origin .keyRevoked .ok [x.slot] 1
          else s.complete x.origin .keyRevoked .denied [x.slot]
      | none => s

/-! ### ACTIVATE (R703–R709) -/

/-- A leak zone is not DRY, or a furl runs. -/
def State.unquiet (s : State) : Bool :=
  (List.range 8).any (fun z => s.declared (oLeakZone z) && decide (s.get .zoneState z ≠ 0)) || scopes.any (fun i => decide (s.furlStateOf i = 1))

/-- The steps of an order: each instance is one. -/
def State.stepsOf (s : State) (l : List (List UpdInst)) : List UpdStep :=
  l.flatten.map (fun u => { unit := u, src := s.compatVersion u.compat, dst := s.compatVersion u.target })

/-- The target plate holds a proof of the staged image. -/
def State.etched (s : State) : Bool :=
  match s.etchTarget, s.stagedDigest with
  | some p, some d => (s.proofOf p).any (fun r => decide (r.digest = d))
  | _, _ => false

/-- ACTIVATE once it has the stage. -/
def State.startActivate (s : State) (o : Origin) (stop : Bool) : State × Res :=
  if s.get .stageState ≠ sgVerified then (s, .done .updNotReady [u8 0])
  else
    let x := s.updatePlan
    let has (k : Nat) : Bool := x.2.flatten.any (fun u => decide (u.kind = k))
    let open_ := x.2.flatten.any (fun u => decide (u.kind = 1) && decide (s.scope (u.inst / 2) ≠ 0))
    if has 0 ∧ s.membership ≠ 3 then (s, .done .updNotReady [u8 1])
    else if s.unquiet then (s, .done .updNotReady [u8 2])
    else if open_ ∧ !stop then (s, .done .updNotReady [u8 3])
    else if has 0 ∧ !s.etched then (s, .st .updNotEtched)
    else if x.1 ≠ 0 then
      let (l, s) := s.planResults x
      (s, .done .noSafeOrder l)
    else
      let todo := s.stepsOf x.2
      let (r, s) := s.draw
      let s := s.hold o [oStage]
      ({ s with activation := some { origin := o, csn := s.csnOf o, stop, todo, all := todo.length, image := (r % 2 ^ 32).toNat }
                relayDone := [] }, .accepted [])

/-- A step's command to the management device of a relay (Table 18.6), as SMBus segments. -/
def managerTxn (addr cmd : Nat) (x : Activation) (b : List Nat) : List BusSeg :=
  let write (d : List Nat) : List BusSeg := [{ addr, len := d.length, data := d, pec := true }]
  match cmd with
  | 0 => write ([0xE0, 8] ++ leBytes 4 b.length ++ leBytes 4 x.image)
  | 1 =>
    let d := (b.drop x.offset).take 240
    write ([0xE1, 4 + d.length] ++ leBytes 4 x.offset ++ d)
  | 2 => write [0xE2, 1]
  | 3 => write [0xE2, 2]
  | 6 => write [0xE2, 0]
  | _ => [{ addr, len := 1, data := [0xE3], stop := false }, { addr, read := true, pec := true, block := true }]

/-- The command is queued as FIRMWARE owner (R614, R704). -/
def State.toManager (s : State) (r cmd : Nat) (x : Activation) (b : List Nat) : State :=
  match s.td.bind (fun d => d.managers.find? (fun m => m.1 = r)) with
  | some m =>
    let q : BusReq := { owner := 0, work := .relay r, txns := [managerTxn m.2.2 cmd x b], retries := s.busRetries m.2.1, since := s.now }
    (({ s with relayDone := s.relayDone.filter (fun d => d.relay ≠ r) } : State).modBus m.2.1 (fun p => { p with queue := p.queue ++ [q] })).countQueued m.2.1
  | none => s

/-- A step lets go of its relay. -/
def State.dropRelay (s : State) (x : Activation) (r : Nat) : State :=
  { s with holds := s.holds.filter (fun h => !(decide (h.1 = x.origin) && decide (h.2 = oRelay r))) }

/-- The state of ACTIVATE. -/
def State.setAct (s : State) (x : Activation) : State := { s with activation := some x }

/-- EV_UPDATE_STEP: 0 started, 1 done, 2 failed. -/
def State.stepEvent (s : State) (u : UpdStep) (what : Nat) : State :=
  s.raise .updateStep oStage [u.unit.kind, u.unit.inst, what, u.src, u.dst]

/-- The kept scopes that no step left needs OFF start again (R704). -/
def State.freeScopes (s : State) (x : Activation) : State × Activation :=
  let needed := (x.todo.filter (fun u => decide (u.unit.kind = 1))).map (fun u => u.unit.inst / 2)
  let go := x.kept.filter (fun a => decide (a ∉ needed))
  let s : State := { s with holds := s.holds.filter (fun h =>
    !(decide (h.1 = x.origin) && (List.range 8).any (fun a => decide (h.2 = oAccel a) && decide (a ∉ needed)))) }
  let s := s.each go (fun s a =>
    match s.scope a with
    | 0 => s.beginWait [a] false false
    | 4 | 5 => s.setV .pendingStart a 1
    | _ => s)
  (s, { x with kept := x.kept.filter (fun a => decide (a ∉ go)) })

/-- The bundle's tray description (R712): the NOR copy that is not in force and holds it comes into force if every scope is
OFF: 0 there is none, 1 applied, 2 pending. -/
def State.applyStagedTd (s : State) : State × Nat :=
  match ((s.stagedKind 3).bind s.staged).bind s.copyOf with
  | none => (s, 0)
  | some c =>
    let here := [0, 1].any (fun k => (s.tdCopyAt k).any (fun x => decide (x.digest = c.digest)))
    if !here then (s, 0)
    else if scopes.all (fun i => decide (s.scope i = 0)) then
      match s.selectCopy with
      | some (k, x) =>
        if x.digest ≠ c.digest then (s, 0)
        else if s.var .tdCopy = k ∧ s.td.isSome then (s, 1)
        else
          let bare := s.td.isNone
          let s := s.chooseTd.reopen (List.range 48) (fun x => decide (x.why = 2 ∨ x.why = 6))
          (if bare then s.coolStart else s, 1)
      | none => (s, 0)
    else (s, 2)

/-- ACTIVATE ends. -/
def State.endActivate (s : State) (x : Activation) (st : Status) (failed : Option UpdStep) : State :=
  let (s, x) := s.freeScopes { x with todo := [] }
  let (s, td) := if st = .ok then s.applyStagedTd else (s, 0)
  let (v, s) := s.draw
  let at_ : List Int := match failed with
    | some u => [u.unit.kind, u.unit.inst]
    | none => [0xFF, v % 256]
  ({ s with activation := none, relayDone := [] }.disarm .stepTimeout 0).complete x.origin .activateDone st ([(x.done : Int), (x.all : Int)] ++ at_ ++ [(td : Int)])

/-- The quiesce of an accelerator ends by RESUME (R218), and its budget node is free again. -/
def State.resumeAccel (s : State) (a : Nat) : State :=
  if s.varN .quiesceId a = 0 then s
  else (((s.sendAccel a 0x0A [s.var .quiesceId a]).setV .quiesceId a 0).disarm .quiesce a).setV .heldNode a (-1)

/-- The step in progress fails: ACTIVATE stops there (R706). -/
def State.failStep (s : State) (x : Activation) (u : UpdStep) (st : Status) : State :=
  let s := if u.unit.kind = 2 then s.resumeAccel u.unit.inst else if u.unit.kind = 1 then s.setV .unitRestart u.unit.inst 0 else s
  ((s.journalAdd .applyEnd x.origin x.csn [u16 st.code]).stepEvent u 2).endActivate x st (some u)

/-- A transfer that was cut short is aborted with IMAGE_CONTROL 0, and ACTIVATE halts (R709). -/
def State.haltStep (s : State) (x : Activation) (u : UpdStep) : State :=
  let s : State := match u.unit.kind with
    | 1 => s.toManager u.unit.inst 6 x []
    | 2 => s.sendAccel u.unit.inst 0x0D [x.image, 0]
    | _ => s
  s.failStep x u .updHalted

/-- The step in progress is done. -/
def State.stepDone (s : State) (x : Activation) (u : UpdStep) : State :=
  let s := ((s.journalAdd .applyEnd x.origin x.csn [u16 0]).stepEvent u 1).disarm .stepTimeout 0
  let s := if u.unit.kind = 1 then (s.setV .unitRestart u.unit.inst 0).dropRelay x u.unit.inst else s
  let (s, x) := s.freeScopes { x with todo := x.todo.tail, done := x.done + 1, phase := .next }
  s.setAct x

/-- A command of a relay's transfer goes out. -/
def State.sendCmd (s : State) (x : Activation) (u : UpdStep) (cmd : Nat) : State :=
  match s.staged u.unit.comp with
  | some b => (s.toManager u.unit.inst cmd x b).setAct { x with phase := .bus cmd, mark := (s.relay u.unit.inst).incarnation }
  | none => s.stageSpoilt.failStep x u .updBundleInvalid

/-- The outcome of a command to a management device (R704, R706). A command that failed is sent again; the tile of its port lost
halts ACTIVATE. -/
def State.busOutcome (s : State) (x : Activation) (u : UpdStep) (cmd : Nat) : State :=
  match s.relayDone.find? (fun d => d.relay = u.unit.inst) with
  | none => s
  | some d =>
    let b := d.reads.getLastD []
    let next := leAt b 0 4
    let status := leAt b 4 2
    if d.status = .internal then s.haltStep x u
    else if d.status ≠ .ok ∨ (4 ≤ cmd ∧ b.length ≠ 8) then s.sendCmd x u cmd
    else match cmd with
      | 0 | 1 => s.sendCmd x u 4
      | 2 => s.sendCmd x u 5
      | 3 => (s.setV .unitRestart u.unit.inst 1).setAct { x with phase := .restart }
      | _ =>
        if 2 ≤ status ∧ status ≤ 4 then s.failStep x u .updComponentFailed
        else if cmd = 5 then s.sendCmd x u (if status = 1 then 3 else 5)
        else s.sendCmd { x with offset := next } u (if (bundleComp s.bundle u.unit.comp).length ≤ next then 2 else 1)

/-- Chunks of 512 bytes go out while at most 16 beyond NEXT_OFFSET are outstanding (R219, R705). -/
def State.sendChunks (s : State) (a : Nat) (b : List Nat) : Nat → Activation → State × Activation
  | 0, x => (s, x)
  | n + 1, x =>
    if x.sent < b.length ∧ x.sent < x.offset + 16 * 512 then
      let d := (b.drop x.sent).take 512
      (s.sendAccel a 0x0C ([(x.image : Int), (x.sent : Int), (b.length : Int), (d.length : Int)] ++ d.map (fun (y : Nat) => (y : Int)))).sendChunks a b n
        { x with sent := x.sent + d.length }
    else (s, x)

/-- The chunks that may go out now do, while the accelerator holds QSTATE 2 (R219). -/
def State.stream (s : State) (x : Activation) (u : UpdStep) : State :=
  if s.var .qstate u.unit.inst ≠ 2 then s
  else match s.staged u.unit.comp with
  | some b =>
    let y := s.sendChunks u.unit.inst b 16 x
    y.1.setAct { y.2 with phase := .stream }
  | none => s.stageSpoilt.failStep x u .updBundleInvalid

/-- IMAGE_STATUS of an accelerator (R705, R706). -/
def State.takeImageStatus (s : State) (a image next status : Nat) : State :=
  match s.activation with
  | some x =>
    match x.todo with
    | u :: _ =>
      if u.unit.kind ≠ 2 ∨ u.unit.inst ≠ a ∨ x.image ≠ image ∨ (x.phase ≠ .stream ∧ x.phase ≠ .verify) then s
      else if 2 ≤ status ∧ status ≤ 4 then s.failStep x u .updComponentFailed
      else if x.phase = .verify then
        if status = 1 then (s.sendAccel a 0x0D [image, 2]).setAct { x with phase := .restart } else s
      else
        let x := { x with offset := max x.offset next }
        if (bundleComp s.bundle u.unit.comp).length ≤ next then (s.sendAccel a 0x0D [image, 1]).setAct { x with phase := .verify }
        else s.stream x u
    | [] => s
  | none => s

/-- An accelerator step begins with QUIESCE of KIND 1 (R705). -/
def State.quiesceAccel (s : State) (a : Nat) : State :=
  let q := s.var .quiesceNext
  let s := (s.setV .quiesceId a q).setV .quiesceNext 0 (q % 4294967295 + 1) |>.arm .quiesce a (10 * ms)
  let s := (s.setV .heldNode a (s.get .minGrant (nodeAccel a))).put .grant (nodeAccel a) (s.get .minGrant (nodeAccel a))
  (s.sendBudget a 0).sendAccel a 0x09 [q, 1, 10000]

/-- A relay that another command holds is waited for (R129). -/
def State.stepWaits (s : State) (x : Activation) (u : UpdStep) : Bool := decide (u.unit.kind = 1) && !s.freeFor x.origin (oRelay u.unit.inst)

/-- A step begins (R703–R707). -/
def State.beginStep (s : State) (x : Activation) (u : UpdStep) : State :=
  let s := (s.journalAdd .applyBegin x.origin x.csn).stepEvent u 0
  let x := { x with offset := 0, sent := 0 }
  match u.unit.kind with
  | 0 =>
    match s.etchTarget with
    | some p =>
      let r := s.newRecord 1 p 0 ((s.plate p).map (·.digest) |>.getD 0)
      let old := (s.activeRecord.map (·.plate)).getD (s.varN .bootPlate 0)
      ((s.norWrite (.record r) none).setV .rolling 0 1).setAct { x with phase := .record, record := r.seq, old }
    | none => s.failStep x u .updNotEtched
  | 1 =>
    let a := u.unit.inst / 2
    let s := s.arm .stepTimeout 0 (s.getN .stepTimeout * sec)
    let stops := decide (x.stop ∧ a ∉ x.kept ∧ s.scope a ≠ 0)
    let s : State := (if s.keptOff a then s else s.hold x.origin [oAccel a]).hold x.origin [oRelay u.unit.inst]
    let s : State := if stops then s.stopScopes [a] 0 else s
    s.setAct { x with phase := .scopeOff, kept := if stops then x.kept ++ [a] else x.kept }
  | _ => ((s.arm .stepTimeout 0 (s.getN .stepTimeout * sec)).quiesceAccel u.unit.inst).setAct { x with phase := .quiesce }

/-- The tiles that run the new image: the one that did not join, then Mizzen, Main and Fore (R708). -/
def State.rollBack (s : State) (x : Activation) : List Nat :=
  let out := [0, 1, 2].filter (fun t => decide (s.var .tilePhase t = 4) && decide (s.varN .bootPlate t ≠ x.old ∨ s.get .fenceCause t = 9))
  out ++ [2, 1, 0].filter (fun t => s.inService t && decide (s.varN .bootPlate t ≠ x.old))

/-- The part has arrived again (R704–R706). -/
def State.arrived (s : State) (x : Activation) (u : UpdStep) (compat : Nat) : State :=
  if compat = u.unit.target then s.stepDone x u else s.failStep x u .updComponentFailed

/-- ACTIVATE goes on as far as it can. -/
def State.updStep (s : State) : State :=
  match s.activation with
  | none => s
  | some x =>
    match x.todo with
    | [] => s.endActivate x (if x.halted then .updHalted else .ok) none
    | u :: _ =>
      let i := u.unit.inst
      let gone := decide (s.get .accelPresence i ≠ 2)
      let lost := if x.halted then s.haltStep x u else s.failStep x u .partnerLost
      match x.phase with
      | .next =>
        if x.halted then s.endActivate x .updHalted none
        else if s.stepWaits x u then s.setAct { x with waits := some (x.waits.getD s.now) }
        else s.beginStep { x with waits := none } u
      | .scopeOff => if s.scope (i / 2) = 0 then s.sendCmd x u 0 else s
      | .bus cmd => s.busOutcome x u cmd
      | .quiesce =>
        if gone ∨ s.varN .quiesceId i = 0 then lost
        else if (s.timer .quiesce i).isNone ∧ s.var .qstate i = 2 then s.stream x u
        else s
      | .stream => if gone ∨ s.varN .quiesceId i = 0 then lost else s.stream x u
      | .verify => if gone ∨ s.varN .quiesceId i = 0 then lost else s
      | .restart =>
        if u.unit.kind = 1 then
          if s.relayPresent i ∧ (s.relay i).incarnation ≠ x.mark then s.arrived x u (s.relay i).compat else s
        else if !gone ∧ s.varN .quiesceId i = 0 then s.arrived x u (s.varN .compat i) else s
      | .record =>
        if s.recordHeld x.record ∧ s.roll.isNone then
          let s := if s.leader = 0 ∨ !s.inService 0 then s else s.handover 0
          (s.startRoll [2, 1, 0] true).setAct { x with phase := .roll }
        else s
      | .roll =>
        match s.roll.bind (·.result) with
        | none => s
        | some none => ({ s with roll := none } : State).stepDone x u
        | some (some _) =>
          let r := s.newRecord 1 x.old 0 ((s.plate x.old).map (·.digest) |>.getD 0)
          ((({ s with roll := none } : State).norWrite (.record r) none).setV .rolling 0 1).setAct { x with phase := .undo, record := r.seq }
      | .undo =>
        if s.recordHeld x.record then (s.startRoll (s.rollBack x) true).setAct { x with phase := .unroll } else s
      | .unroll =>
        match s.roll.bind (·.result) with
        | none => s
        | some _ => ({ s with roll := none } : State).failStep x u (if x.halted then .updHalted else .updRolledBack)

/-- ACTIVATE (R703). -/
def doActivate (a : Arrival) (stop : Nat) (s : State) : State × Res :=
  if objCls a.hdr.object ≠ 0x12 ∨ 1 < stop then (s, .st .badParam)
  else s.startActivate (s.originOf a .activate) (decide (stop = 1))

/-- The oldest request that waits for resources takes those that are free, in their order, and runs once it has all (R129). -/
def State.resStep (s : State) : State :=
  match s.resWaits with
  | w :: rest =>
    let l := needs w.origin.op w.arr.hdr
    let got := l.takeWhile (s.freeFor w.origin)
    let s := s.unhold w.origin
    if got.length < l.length then s.hold w.origin got
    else
      let s : State := { s with resWaits := rest }
      match w.body with
      | .activate stop => s.run w.arr w.body w.origin (doActivate w.arr stop)
      | _ => s.run w.arr w.body w.origin (doEtch w.arr)
  | [] => s

/-- What runs of an update goes on, at most `n` transitions of each part. -/
def State.settleN (s : State) : Nat → State
  | 0 => s
  | n + 1 => State.settleN s.rollStep.revokeStep.updStep.resStep n

/-- What runs of an update goes on. -/
def State.settleUpdate (s : State) : State :=
  if s.activation.isNone ∧ s.revoking.isNone ∧ s.roll.isNone ∧ s.resWaits.isEmpty then s else s.settleN 12

def execActivate (a : Arrival) (stop : Nat) (s : State) : Out :=
  .next (s.request a (.activate stop) (doActivate a stop)).settleUpdate

/-- RESOURCE_WAIT_TIMEOUT (R129): a command that has waited 10 ms for a resource holds nothing any more and returns
ST_BUSY. `k` numbers the requests that wait; after them comes the step of ACTIVATE that waits for its relay. -/
def execResourceWaitTimeout (t : Ns) (k : Nat) (s : State) : Out :=
  let s := s.tick t
  .next (match s.resWaits[k]?, s.activation with
    | some w, _ =>
      if w.since + 10 * ms ≤ s.now then
        ((({ s with resWaits := s.resWaits.eraseIdx k } : State).unhold w.origin).answer w.origin .busy [] s.journal.committed).settleUpdate
      else s
    | none, some x =>
      if k = s.resWaits.length ∧ x.waits.any (fun w => decide (w + 10 * ms ≤ s.now)) then (s.endActivate x .busy x.todo.head?).settleUpdate
      else s
    | none, none => s)

/-- STEP_TIMEOUT_EXPIRY (R706). -/
def execStepTimeoutExpiry (t : Ns) (s : State) : Out :=
  let s := s.tick t
  .next (match s.activation with
    | some x =>
      match x.todo with
      | u :: _ => if s.due .stepTimeout 0 then (s.failStep x u .updComponentFailed).settleUpdate else s
      | [] => s
    | none => s)

end Sys2Proof.Machine
end

