-- ==== Sys2Proof/Machine/Driven.lean ====
section
/-! DEFINITION. What an update, a revocation or a rolling restart waits for: the flash dies' completions, a tile that rejoins, and
the commands that may let one go on. -/

namespace Sys2Proof.Machine

/-- What runs of an update goes on after a command. -/
def settled (o : Out) : Out :=
  match o with
  | .next s => .next s.settleUpdate
  | o => o

/-! ### NOR (R22, R24) -/

/-- A die fails: it is dropped, and reported once. -/
def State.norDieLost (s : State) (die cause addr : Nat) : State :=
  if (s.varN .norLost).testBit die then s
  else (s.setV .norLost 0 (s.varN .norLost + 2 ^ die : Nat)).raise .norDieLost oDevice [die, cause, addr]

/-- A first-fault record is held (R266–R268). -/
def State.faultHeld (s : State) (r : FirstFault) (o : Option Origin) : State :=
  let s := s.addFault r
  let s := (s.refreshLatch.raise .firstFault oDevice [r.incident, r.rail, r.cause, r.scope, r.seq]).latchBars
  match o with
  | some o => s.answer o .ok [u64 r.seq] (s.replyCsn o)
  | none => s

/-- A metadata record is held (R669): ETCH goes on, a CONFIRM counts, a device that recovered is reset. -/
def State.metaHeld (s : State) (r : MetaRec) (o : Option Origin) : State :=
  let s := s.putRecord r
  match r.kind, s.etch with
  | 7, some x => (s.putPlate x.target none).norWrite (.plate x.target) none
  | 2, some x => s.proofHeld x
  | 1, some x => if x.resets then s.coldStart else s
  | 4, _ => s.confirmHeld r o
  | _, _ => s

/-- A NOR write is done. `good`: what is read back after an etch is what was written. -/
def State.norDone (s : State) (w : NorWrite) (good : Bool) : State :=
  match w.what, s.etch with
  | .firstFault r, _ => s.faultHeld r w.origin
  | .record r, _ => s.metaHeld r w.origin
  | .plate _, some x => s.plateWritten x good
  | .tdCopy _, some x => s.copyWritten x good
  | _, none => s

/-- NOR_WRITE_COMPLETE (R22, R24): the oldest write is done once every die that is not lost holds it. `lost` is a die that fails,
with EV_NOR_DIE_LOST's cause and address. -/
def execNorWriteComplete (t : Ns) (lost : Option (Fin 2 × Fin 3 × Nat)) (good : Bool) (s : State) : Out :=
  let s := s.tick t
  let s : State := match lost with | some x => s.norDieLost x.1.val x.2.1.val x.2.2 | none => s
  let s := s.each (if s.norWrites.isEmpty then [] else [0, 1].filter (fun d => s.acts (0x0D0 + d))) (fun s d =>
    (s.spend (0x0D0 + d)).norDieLost d 0 ((s.norWrites.head?.map (fun w => s.norAddr w.what)).getD 0))
  .next (match s.norWrites with
    | w :: rest => if s.varN .norLost = 3 then s else (({ s with norWrites := rest } : State).norDone w good).settleUpdate
    | [] => s)

/-! ### NAND (R739) -/

/-- A NAND write is done. -/
def State.nandDone (s : State) : NandWhat → State
  | .model m => s.nandModel m
  | .program e => s.nandProgram e
  | .stage o csn off b => s.stageHolds o csn off b

/-- A NAND write can no longer be done. -/
def State.nandFails (s : State) : NandWhat → State
  | .model m =>
    match (s.model m).ending with
    | some o => (s.unload m).complete o .modelLoaded .notPresent [m, (s.model m).prior, s.get .modelVersion m]
    | none => s
  | .program e =>
    match (s.engine e).ending with
    | some o => (s.unloadEngine e).complete o .burinLoaded .notPresent [e, (s.engine e).prior, s.get .programId e]
    | none => s
  | .stage o csn _ _ => s.answer o .notPresent [] csn

/-- The NAND is lost: the stage, the shelves, the descriptor store and the log with it. -/
def State.loseNand (s : State) (usable : Nat) : State :=
  if s.nandLost then s
  else
    let l := s.nandWrites
    let v := s.stage.verifying
    let s := (s.setV .lossTile 0 (s.varN .lossTile ||| 4 : Nat)).raise .nandFault oDevice [1, usable]
    let s : State := { s with nandWrites := [], stage := {}, shelf := {}, progShelf := {}, descStore := []
                              log := { s.log with held := [], first := s.log.first + s.log.held.length } }
    let s := (((s.put .stageTotal 0 0).put .stagePrefix 0 0).setStage sgEmpty).each l State.nandFails
    match v with
    | some o =>
      let (x, s) := s.draw
      let (y, s) := s.draw
      s.complete o .stageVerified .notPresent [x % 4294967296, y % 4294967296]
    | none => s

/-- NAND_WRITE_COMPLETE (R739): the oldest write is done; or it failed, its block is retired and it is repeated, `retired` blocks
staying usable; or the NAND is lost. -/
def execNandWriteComplete (t : Ns) (retired : Option Nat) (lost : Bool) (usable : Nat) (s : State) : Out :=
  let s := s.tick t
  .next (if s.nandLost then s
    else
      let retired := if s.acts 0x0D2 ∧ retired.isNone then some usable else retired
      let s := s.spend 0x0D2
      let s : State := match retired with
        | some n => s.raise .nandFault oDevice [0, n]
        | none => s
      if lost then (s.loseNand usable).settleUpdate
      else if retired.isSome then s
      else match s.nandWrites with
        | w :: rest => (({ s with nandWrites := rest } : State).nandDone w).settleUpdate
        | [] => s)

/-! ### Tiles that rejoin (R173, R179, R674, R680) -/

/-- The image of a tile that rejoins: Fore runs its ROM and proof loader; during a rolling restart the others take that of the
newest ACTIVE record, and else what R674 gives. -/
def State.rejoinImage (s : State) (x : Nat) : State × Option Nat :=
  if x = 0 then
    let z := s.romCold.setV .bootAt 0 (s.var .bootAt 0)
    (z, if z.var .bootPlate 0 < 0 then none else some (z.varN .bootPlate 0))
  else if s.roll.any (·.update) then (s, s.activeRecord.map (·.plate))
  else (s, s.imageFor x)

/-- The digest a rejoining tile must run: that of the tiles in service, or during a rolling restart that of the ACTIVE record. -/
def State.digestWanted (s : State) : Int :=
  if s.roll.any (·.update) then ((s.activeRecord.map (fun r => (r.digest : Int))).getD 0) else s.runningDigest

/-- A tile rejoins with the image of a plate. -/
def State.rejoined (s : State) (x p : Nat) : State :=
  let s := ((s.setV .bootPlate x p).joinTile x).tileBooted x
  let s := s.raise .tileRejoined (oTile x) [x, s.get .term, s.journal.assigned]
  let s : State := if x = 0 ∧ (s.timer .foreGrace).isSome then
      (s.disarm .foreGrace).raise .foreLossGrace (oTile 0) [1, s.get .foreLossGrace] else s
  let s := if x = 0 then s.revert else s
  let s := s.enginesBack x
  (if s.flag .rolling then s else s.planHome).settleOps

/-- REJOIN_COMPLETE (R179, R674): a tile without an image, or with another than the rest run, fails at step 2. -/
def execRejoinComplete (t : Ns) (tile : Fin 3) (s : State) : Out :=
  let s := s.tick t
  let x := tile.val
  .next (if s.flag .rejoining x ∧ s.var .tilePhase x = 2 ∧ !s.flag .tileReset x ∧ !s.flag .electing ∧ s.membership ≠ 0 then
      let want := s.digestWanted
      let y := s.rejoinImage x
      match y.2 with
      | some p =>
        if (y.1.plate p).any (fun i => decide ((i.digest : Int) = want)) then (y.1.rejoined x p).settleUpdate
        else (y.1.rejoinFails x 9 2).settleUpdate
      | none => (y.1.rejoinFails x 9 2).settleUpdate
    else s)

/-! ### Image transfers (R219, R705) -/

/-- IMAGE_STATUS of an accelerator. -/
def execImageStatus (t : Ns) (a : Fin 8) (image next status : Nat) (s : State) : Out :=
  .next ((s.tick t).takeImageStatus a.val image next status).settleUpdate

/-- QUIESCE_TIMEOUT (R218): RESUME goes out, and the command that asked for the quiesce ends with ST_BUSY. -/
def execQuiesceTimeout (t : Ns) (a : Fin 8) (s : State) : Out :=
  let s := s.tick t
  .next (if !s.due .quiesce a.val then s
    else match s.activation with
      | some x =>
        match x.todo with
        | u :: _ => if u.unit.kind = 2 ∧ u.unit.inst = a.val then (s.failStep x u .busy).settleUpdate else s.resumeAccel a.val
        | [] => s.resumeAccel a.val
      | none => s.resumeAccel a.val)

/-! ### Commands that may let an update go on -/

/-- STAGE_VERIFY_DONE (R129, R695). -/
def execStageVerifyDone (t : Ns) (s : State) : Out := settled (onStageVerifyDone t s)

/-- REJOIN_TIMEOUT (R179, R708). -/
def execRejoinTimeout (t : Ns) (x : RejoinLapse) (s : State) : Out := settled (onRejoinTimeout t x.tile x.step s)

/-- PLANNED_MOVE (R178, R707). -/
def execPlannedMove (t : Ns) (back : List (Fin 8)) (s : State) : Out := settled (onPlannedMove t back s)

/-- HEARTBEAT_TIMEOUT (R159, R709). -/
def execHeartbeatTimeout (t : Ns) (r x : Fin 3) (s : State) : Out := settled (onHeartbeatTimeout t r x s)

/-- SCOPE_DISCHARGED (R261, R704). -/
def execScopeDischarged (t : Ns) (scope : Fin 9) (s : State) : Out := settled (onScopeDischarged t scope s)

/-- IDENTITY (R191, R705). -/
def execIdentity (t : Ns) (port : Fin 16) (m : Identity) (s : State) : Out := settled (onIdentity t port m s)

/-- QSTATE (R218, R705). -/
def execQstate (t : Ns) (a : Fin 8) (qid state : Nat) (s : State) : Out := settled (onQstate t a qid state s)

/-- ACCEL_LOSS_TIMEOUT (R188, R194). -/
def execAccelLossTimeout (t : Ns) (a : Fin 8) (s : State) : Out := settled (onAccelLossTimeout t a s)

/-- TELEMETRY_SILENCE (R188, R194). -/
def execTelemetrySilence (t : Ns) (a : Fin 8) (s : State) : Out := settled (onTelemetrySilence t a s)

/-- RELAY_IDENTITY (R311, R704). -/
def execRelayIdentity (t : Ns) (p : Fin 32) (m : RelayIdentity) (s : State) : Out := settled (onRelayIdentity t p m s)

/-- CONFIG_ACK (R312, R704). -/
def execConfigAck (t : Ns) (r : Fin 16) (kind status slot : Nat) (s : State) : Out := settled (onConfigAck t r kind status slot s)

/-- BUS_GRANT (R614, R704). -/
def execBusGrant (t : Ns) (port : Fin 32) (s : State) : Out := settled (onBusGrant t port s)

/-- QUEUE_WAIT_EXPIRY (R614, R704). -/
def execQueueWaitExpiry (t : Ns) (port : Fin 32) (s : State) : Out := settled (onQueueWaitExpiry t port s)

/-- TWO_WIRE_TRANSACTION_END (R618, R704). -/
def execTwoWireTransactionEnd (t : Ns) (port : Fin 32) (x : TxnEnd) (s : State) : Out := settled (onTwoWireTransactionEnd t port x s)

/-- TWO_WIRE_TIMEOUT (R613, R704). -/
def execTwoWireTimeout (t : Ns) (port : Fin 32) (kind : Fin 3) (seg : Nat) (s : State) : Out := settled (onTwoWireTimeout t port kind seg s)

/-- BUS_ILLEGAL_COND (R620, R704). -/
def execBusIllegalCond (t : Ns) (port : Fin 32) (kind : Fin 2) (bit : Fin 10) (seg : Nat) (s : State) : Out := settled (onBusIllegalCond t port kind bit seg s)

/-- BUS_RECOVERY (R622, R704). -/
def execBusRecovery (t : Ns) (port : Fin 32) (clocked pulsed near : Bool) (s : State) : Out := settled (onBusRecovery t port clocked pulsed near s)

/-- SCL_STUCK (R623, R704). -/
def execSclStuck (t : Ns) (port : Fin 32) (low : Nat) (pulsed near : Bool) (s : State) : Out := settled (onSclStuck t port low pulsed near s)

/-- FAILED_PORT_RETRY (R622, R704). -/
def execFailedPortRetry (t : Ns) (port : Fin 32) (clocked pulsed near : Bool) (s : State) : Out := settled (onFailedPortRetry t port clocked pulsed near s)

/-- FOREIGN_START_STOP (R620, R704). -/
def execForeignStartStop (t : Ns) (port : Fin 32) (start : Bool) (s : State) : Out := settled (onForeignStartStop t port start s)

/-- BUS_IDLE_TIME (R612, R704). -/
def execBusIdleTime (t : Ns) (port : Fin 32) (s : State) : Out := settled (onBusIdleTime t port s)

/-- SUPPLY_PG_TIMEOUT (R708, R750). -/
def execSupplyPgTimeout (t : Ns) (group : Fin 2) (s : State) : Out := settled (onSupplyPgTimeout t group s)

/-- SUPPLY_PG_FALL (R708, R750). -/
def execSupplyPgFall (t : Ns) (group : Fin 2) (s : State) : Out := settled (onSupplyPgFall t group s)

/-- CORE_UNDERVOLTAGE (R708, R754). -/
def execCoreUndervoltage (t : Ns) (tile : Fin 3) (s : State) : Out := settled (onCoreUndervoltage t tile s)

end Sys2Proof.Machine
end

