-- ==== Sys2Proof/Machine/Plans.lean ====
section
/-! DEFINITION. Phase plans (R428–R435): the table, learning, planned demand, and the tray epoch that uses it. -/

namespace Sys2Proof

def PlanEntry.loaded (e : PlanEntry) : Bool := e.flags.testBit 0
def PlanEntry.isFixed (e : PlanEntry) : Bool := e.flags.testBit 1

/-- α times a difference, rounded towards zero. -/
def alphaStep (alpha : Nat) (d : Int) : Int := (alpha * d).tdiv 256

/-- The procedure learn of R432. -/
def PlanEntry.learn (e : PlanEntry) (alpha : Nat) (mean peak : Int) (dur : Nat) (limited : Bool) : PlanEntry :=
  if e.isFixed then e
  else if e.samples = 0 then { e with mean, peak, duration := dur, samples := 1 }
  else if limited then { e with peak := max e.peak peak }
  else { e with
    mean := e.mean + alphaStep alpha (mean - e.mean)
    peak := if e.peak < peak then peak else e.peak + alphaStep alpha (peak - e.peak)
    duration := ((e.duration : Int) + alphaStep alpha ((dur : Int) - e.duration)).toNat
    samples := min (e.samples + 1) 4294967295 }

/-- An entry that LOAD_PHASE_PLAN refuses (R435). -/
def PlanEntry.invalid (e : PlanEntry) : Bool :=
  decide (1 < e.kind) || decide (e.kind = 1 ∧ e.key = 0) || decide (e.peak < e.mean) || decide (e.mean < 0)
    || decide (e.rsv ≠ 0) || decide (8 ≤ e.flags)

end Sys2Proof

namespace Sys2Proof.Machine

/-! ### The table (R428, R429, R433) -/

/-- An entry is valid once loaded, or once it has been observed often enough (R429). -/
def State.planValid (s : State) (e : PlanEntry) : Bool := e.loaded || decide (s.var .planMinIn ≤ (e.samples : Int))

/-- The entry of a key. -/
def State.plan (s : State) (kind key : Nat) : Option PlanEntry := s.plans.find? (fun e => e.kind = kind ∧ e.key = key)

/-- The valid entry of a key. -/
def State.planOk (s : State) (kind key : Nat) : Option PlanEntry := (s.plan kind key).filter s.planValid

/-- The table changes; PLAN_ENTRIES counts it. -/
def State.putPlans (s : State) (l : List PlanEntry) : State := ({ s with plans := l } : State).put .planEntries 0 l.length

/-- An entry is replaced by its key. -/
def State.putPlan (s : State) (e : PlanEntry) : State :=
  s.putPlans (s.plans.map (fun x => if x.kind = e.kind ∧ x.key = e.key then e else x))

/-- An entry has been used (LAST_SEEN). -/
def State.usePlan (s : State) (e : PlanEntry) : State := s.putPlan { e with lastSeen := s.now }

/-- The learned entry seen longest ago. -/
def oldestLearned (l : List PlanEntry) : Option PlanEntry :=
  (l.filter (fun e => !e.loaded)).foldl (fun b e => match b with
    | some x => if e.lastSeen < x.lastSeen then some e else b
    | none => some e) none

/-- Room for a new key: a free entry, or the place of the learned entry seen longest ago (R433). -/
def State.planRoom (s : State) : State × Bool :=
  if s.plans.length < 256 then (s, true)
  else match oldestLearned s.plans with
  | some x => ((s.putPlans (s.plans.erase x)).raise .planEvicted oDevice [x.kind, x.key, x.lastSeen], true)
  | none => (s, false)

/-- One observation updates the entry of its key, which takes room first where it is unseen (R432, R433). -/
def State.observe (s : State) (kind key : Nat) (mean peak : Int) (dur : Nat) (limited : Bool) : State :=
  let (s, ok) : State × Bool := if (s.plan kind key).isSome then (s, true)
    else match s.planRoom with
    | (s, true) => (s.putPlans (s.plans ++ [{ kind, key }]), true)
    | (s, false) => (s, false)
  match s.plan kind key with
  | some e =>
    if !ok then s
    else
      let was := s.planValid e
      let e' : PlanEntry := { e.learn (s.varN .planAlphaIn) mean peak dur limited with lastSeen := s.now }
      let s := s.putPlan e'
      if !was ∧ s.planValid e' then s.raise .planLearned oDevice [kind, key, e'.samples, e'.peak] else s
  | none => s

/-! ### Observation (R432) -/

/-- A phase ends and is learned from, where it lasted 10 µs to 10 s. -/
def State.endPhase (s : State) (a : Nat) : State :=
  let x := s.phases.get {} a
  let dur := s.now - x.start
  if !s.flag .phaseOpen a ∨ s.var .planLearnIn = 0 ∨ dur < 10 * us ∨ 10 * sec < dur ∨ x.n = 0 then s
  else
    let limited := decide (x.n < 10 * x.limited)
    let (mean, s) := s.whole (x.sum / ((x.n : Int) : Rat))
    let (peak, s) := s.whole x.peak
    let s := s.observe 0 x.tag mean peak (dur / us) limited
    if x.mapping = 0 ∨ x.means.isEmpty then s
    else
      let bm : Rat := x.means.sum / ((x.means.length : Int) : Rat)
      let phaseMean := x.sum / ((x.n : Int) : Rat)
      let above := ((List.range x.means.length).filter (fun i => decide (phaseMean * 11 / 10 < x.means.getD i 0))).map (· + 1)
      let (mean, s) := s.whole bm
      let (peak, s) := s.whole (x.means.foldl max 0)
      s.observe 1 x.mapping mean peak (10 * above.foldl max 0) limited

/-- A phase begins with the tag and mapping of a hint. -/
def State.startPhase (s : State) (a tag mapping : Nat) : State :=
  { s with phases := s.phases.put {} a { start := s.now, tag, mapping } }.setV .phaseOpen a 1

/-- One 10 µs mean of the phase in progress. -/
def State.samplePhase (s : State) (a : Nat) : State :=
  if !s.flag .phaseOpen a ∨ s.var .planLearnIn = 0 then s
  else
    let p := s.outputPower a 20
    let lim := (s.telemetry.get ({} : Telemetry) a).state.testBit 1 || decide (0 < s.get .reefLevel a)
    let x := s.phases.get {} a
    let x : PhaseObs := { x with
      means := if x.means.length < 200 then x.means ++ [p] else x.means
      sum := x.sum + p, n := x.n + 1, peak := if x.peak < p then p else x.peak
      limited := if lim then x.limited + 1 else x.limited }
    { s with phases := s.phases.put {} a x }

/-! ### Hints (R217) -/

/-- The latest hint is kept; a change of TAG_NOW ends a phase and begins one. The first hint is no change: the phase it finds
is not observed. -/
def State.takeHint (s : State) (a : Nat) (h : Hint) : State :=
  let old := s.hints.get {} a
  let first := !s.flag .hintSeen a
  let s : State := if first ∨ old.tagNow ≠ h.tagNow then
      let s := s.setV .tagAt a s.now
      if first then s.setV .phaseOpen a 0 else (s.endPhase a).startPhase a h.tagNow h.mapping
    else s
  ({ s with hints := s.hints.put {} a h } : State).setV .hintSeen a 1

/-- HINT (R217). -/
def execHint (t : Ns) (a : Fin 8) (h : Hint) (s : State) : Out := .next ((s.tick t).takeHint a.val h)

/-! ### Planned demand (R430) -/

/-- A value raised by PLAN_HEADROOM. -/
def State.withHeadroom (s : State) (p : Int) : Rat := (p : Rat) * (1000 + s.get .planHeadroom) / 1000

/-- The coming window of an accelerator, from its latest hint. -/
def State.planComing (s : State) (a : Nat) : Option PlanWin × State :=
  let h := s.hints.get {} a
  if !s.flag .hintSeen a ∨ (h.confidence : Int) < s.get .planMinConf ∨ h.nextIn = 0xFFFFFFFF then (none, s)
  else
    let x : Int := (h.stamp + h.nextIn : Nat)
    let lead : Int := s.get .planLead * us
    let base := s.planOk 0 h.tagNext
    let map := if h.mapping = 0 then none else s.planOk 1 h.mapping
    let spans : List (Int × Rat) :=
      (match base with
       | some e => [(x + min ((e.duration : Int) * us) (s.get .planHold * us), s.withHeadroom e.peak)]
       | none => []) ++
      (match map with
       | some e => [(x + (e.duration : Int) * us, s.withHeadroom e.peak)]
       | none => [])
    let s : State := match base with | some e => s.usePlan e | none => s
    let s : State := match map with | some e => s.usePlan e | none => s
    (if spans.isEmpty then none else some { x, start := x - lead, spans }, s)

/-- What a window asks for at an instant. -/
def PlanWin.value (w : PlanWin) (now : Ns) : Rat :=
  if (now : Int) < w.start then 0
  else ((w.spans.filter (fun x => decide ((now : Int) < x.1))).map (·.2)).foldl (fun b x => if b < x then x else b) 0

/-- D_plan of an accelerator at a tray epoch (R430). -/
def State.planAccel (s : State) (a : Nat) : State :=
  if !s.featuresUp.testBit 8 then s.setV .planDemand a 0
  else
    let s := s.samplePhase a
    let prev := s.coming.get {} a
    let s : State := if prev.spans.isEmpty ∨ (s.now : Int) < prev.x then s else { s with runningPlan := s.runningPlan.put {} a prev }
    let (win, s) := s.planComing a
    let c := win.getD {}
    let s : State := { s with coming := s.coming.put {} a c }
    let v := max (c.value s.now) ((s.runningPlan.get {} a).value s.now)
    let (d, s) := s.whole v
    s.setV .planDemand a d

/-- The plan properties in force from an epoch on (R436). -/
def State.planProps (s : State) : State :=
  ((s.setV .planLearnIn 0 (s.get .planLearn)).setV .planAlphaIn 0 (s.get .planAlpha)).setV .planMinIn 0 (s.get .planMinSamples)

/-- TRAY_EPOCH (R318, R430): the plans' demand, then the epoch of the budget. -/
def execTrayEpoch (t : Ns) (s : State) : Out :=
  let s := s.tick t
  .next (if s.epochDue 2 (10 * us) then ((s.setV .epochAt 2 s.now).planProps |>.each s.accels State.planAccel).trayEpoch else s)

/-! ### Opcodes (Table 10.3) -/

/-- A loaded entry enters the table (R435). -/
def State.loadPlan (s : State) (e : PlanEntry) : State :=
  let e : PlanEntry := { e with flags := e.flags % 4 ||| 1 }
  if (s.plan e.kind e.key).isSome then s.putPlan e
  else match s.planRoom with
    | (s, true) => s.putPlans (s.plans ++ [e])
    | (s, false) => s

/-- LOAD_PHASE_PLAN (R435). -/
def doLoadPhasePlan (a : Arrival) (entries : List PlanEntry) (s : State) : State × Res :=
  if a.hdr.object ≠ oDevice ∨ entries.isEmpty ∨ 125 < entries.length then (s, .st .badParam)
  else if entries.any PlanEntry.invalid then (s, .st .planInvalid)
  else
    let keys := (s.plans.filter (·.loaded)).map (fun e => (e.kind, e.key))
    let all := entries.foldl (fun l e => if (e.kind, e.key) ∈ l then l else l ++ [(e.kind, e.key)]) keys
    if 256 < all.length then (s, .st .planFull)
    else (s.each entries State.loadPlan, .st .ok)

def execLoadPhasePlan (a : Arrival) (entries : List PlanEntry) (s : State) : Out :=
  .next (s.request a (.loadPhasePlan entries) (doLoadPhasePlan a entries))

/-- CLEAR_PHASE_PLAN (Table 10.3). -/
def doClearPhasePlan (a : Arrival) (kind key : Nat) (s : State) : State × Res :=
  if a.hdr.object ≠ oDevice then (s, .st .badParam)
  else match a.hdr.property with
  | 0 =>
    match s.plan kind key with
    | some e => (s.putPlans (s.plans.erase e), .st .ok)
    | none => (s, .st .planNotFound)
  | 1 => (s.putPlans (s.plans.filter (·.loaded)), .st .ok)
  | 2 => (s.putPlans [], .st .ok)
  | _ => (s, .st .badParam)

def execClearPhasePlan (a : Arrival) (kind key : Nat) (s : State) : Out :=
  .next (s.request a (.clearPhasePlan kind key) (doClearPhasePlan a kind key))

/-- An entry as READ_PHASE_PLAN returns it (Table 10.2). -/
def State.planFields (s : State) (e : PlanEntry) : List Fld :=
  [u8 e.kind, u8 (e.flags % 4 + if s.planValid e then 4 else 0 : Nat), u16 e.key, u32 e.samples, u32 e.mean, u32 e.peak, u32 e.duration, rsv 4, u64 e.lastSeen]

/-- READ_PHASE_PLAN (Table 10.3). -/
def doReadPhasePlan (a : Arrival) (first count : Nat) (s : State) : State × Res :=
  if a.hdr.object ≠ oDevice ∨ count = 0 ∨ 125 < count then (s, .st .badParam)
  else
    let l := (s.plans.drop first).take count
    (s, .done .ok ([u32 l.length, rsv 4] ++ l.flatMap s.planFields))

def execReadPhasePlan (a : Arrival) (first count : Nat) (s : State) : Out :=
  .next (s.request a (.readPhasePlan first count) (doReadPhasePlan a first count))

end Sys2Proof.Machine
end

