-- ==== Sys2Proof/Machine/Deliver.lean ====
section
/-! DEFINITION. DATA flits, and the messages of accelerators in the order of their numbers (R202, R205, R209). -/

namespace Sys2Proof.Machine

/-- What a message of an accelerator does (Table 5.6); one of unknown type is discarded and counted (R213). -/
def State.takeShroud (s : State) (p num : Nat) : ShroudMsg → State
  | .identity m => s.takeIdentity p m
  | .reefTable generation latency levels => s.takeReefTable (p / 2) generation latency levels
  | .hint h => s.takeHint (p / 2) h
  | .telemetry m => s.takeTelemetry (p / 2) m
  | .freqAck round freq outcome lateness => s.takeFreqAck (p / 2) round freq outcome lateness
  | .qstate qid state => s.takeQstate (p / 2) qid state
  | .imageStatus image next status => s.takeImageStatus (p / 2) image next status
  | .alert code severity detail stamp => s.takeAlert (p / 2) num code severity detail stamp
  | .unknown => s.linkError p

/-- The messages held of a stream of an accelerator, in number order (R209). -/
def State.heldOf (s : State) (a stream : Nat) : List HeldMsg :=
  sortBy (fun x y => decide (x.num ≤ y.num)) (s.held.filter (fun h => decide (h.accel = a ∧ h.stream = stream)))

/-- Held messages whose turn has come are delivered, at most `n`. -/
def State.releaseHeld (s : State) (a stream : Nat) : Nat → State
  | 0 => s
  | n + 1 =>
    match s.held.find? (fun h => decide (h.accel = a ∧ h.stream = stream ∧ h.num = s.varN .accRx (2 * a + stream))) with
    | some h => ((({ s with held := s.held.erase h } : State).countV .accRx (2 * a + stream)).takeShroud h.port h.num h.msg).releaseHeld a stream n
    | none => s

/-- The gap timer of a stream runs until the oldest held message has waited 20 µs (R209). -/
def State.gapTimer (s : State) (a stream : Nat) : State :=
  match (s.heldOf a stream).map (·.since) with
  | [] => s.disarm .shroudGap (2 * a + stream)
  | t :: rest => s.setT .shroudGap (2 * a + stream) (some (rest.foldl min t + 20 * us))

/-- A numbered message of an accelerator (R209): delivered in turn, discarded as a duplicate, or held for the numbers before
it. -/
def State.arriveShroud (s : State) (p stream num : Nat) (m : ShroudMsg) : State :=
  let a := p / 2
  let i := 2 * a + stream
  let want := s.varN .accRx i
  if num < want then s
  else if num = want then
    (((s.countV .accRx i).takeShroud p num m).releaseHeld a stream s.held.length).gapTimer a stream
  else if (s.heldOf a stream).any (fun h => h.num = num) then s
  else ({ s with held := s.held ++ [({ accel := a, stream, num, port := p, since := s.now, msg := m } : HeldMsg)] } : State).gapTimer a stream

/-- A whole message that an accelerator's port has delivered (R209): IDENTITY is not numbered. -/
def State.takeMessage (s : State) (p stream : Nat) (b : List Nat) : State :=
  match shroudMessage b with
  | (_, .identity m) => s.takeIdentity p m
  | (num, m) => if s.linkUp p then s.arriveShroud p stream num m else s

/-- A DATA flit (R202, R205, R207): in order it is accepted and consumed, its credit returned, and the message it
completes delivered; what a Ratline message does comes as that message's own command (log entry 262). -/
def State.takeData (s : State) (p : Nat) (b : List Nat) : State :=
  let ch := flitChan (isShroud p) b
  match s.acceptFlit p (flitSeq b) with
  | (s, false) => s
  | (s, true) =>
    let s := if s.linkUp p then s.returnCredit p ch else s
    match s.joinFlit p ch (flitFirst b) (flitLast b) (flitPayload b) with
    | (s, some m) => if isShroud p then s.takeMessage p ch m else s
    | (s, none) => s

/-- A flit arrives on a port (R199, R202 to R205): one whose CRC fails breaks the training, or is discarded with a NAK; a
good one brings what its KIND says, and in IDENT and ACTIVE its ACK and credits. Injection holds a lane down, or makes the
next flit's CRC fail (Table 19.1). -/
def State.takeFlit (s : State) (p : Nat) (b : List Nat) : State :=
  if (s.timer .injHold (pLink p)).isSome then s
  else
    let good := flitGood b && !s.acts (pLink p)
    let s := s.spend (pLink p)
    let open_ := decide ((s.link p).state = lkIdent) || s.linkUp p
    if !good then
      if s.inTraining p then s.breakTrain p else if open_ then s.badFlit p true else s
    else
      let s := s.modLink p (fun x => { x with badRun := 0 })
      if flitKind b = 3 then s.takeTrain p (trainOf (flitPayload b))
      else if !open_ then s
      else
        let s := match flitAck b with | some a => s.takeAck p a | none => s
        let s := s.when (s.linkUp p) (fun s => s.each (flitCredits (isShroud p) b) (fun s c => s.addCredit p c.1 c.2))
        let s := if flitKind b = 1 then s.takeData p b else if flitKind b = 2 ∧ flitNak b then s.replay p else s
        s.pump p

/-- TRAIN_FLIT (R199–R201, R206): training advances. -/
def execTrainFlit (t : Ns) (port : FlitPort) (bytes : List Nat) (s : State) : Out :=
  .next ((s.tick t).takeFlit port.key bytes).settleUpdate

/-- DATA_FLIT (R202, R205). -/
def execDataFlit (t : Ns) (port : FlitPort) (flags seq ack : Nat) (body : List Nat) (crc : Nat) (s : State) : Out :=
  .next ((s.tick t).takeFlit port.key (wireFlit 1 flags (leBytes 2 seq ++ leBytes 2 ack ++ body) crc)).settleUpdate

/-- LINK_FLIT (R202–R205). -/
def execLinkFlit (t : Ns) (port : FlitPort) (flags : Nat) (body : List Nat) (crc : Nat) (s : State) : Out :=
  .next ((s.tick t).takeFlit port.key (wireFlit 2 flags body crc)).settleUpdate

/-- The held messages of a stream that have waited 20 µs for missing numbers are delivered with all those before them, in
number order; the timer runs on for a later one (R209). -/
def State.releaseLate (s : State) (a stream : Nat) : State :=
  let i := 2 * a + stream
  let l := s.heldOf a stream
  let want := s.varN .accRx i
  match (l.filter (fun h => decide (h.since + 20 * us ≤ s.now))).getLast? with
  | none => s
  | some z =>
    let due := l.filter (fun h => decide (h.num ≤ z.num))
    let skipped := z.num + 1 - want - due.length
    let s : State := { s with held := s.held.filter (fun h => !(decide (h.accel = a ∧ h.stream = stream) && decide (h.num ≤ z.num))) }
    let s := (s.setV .accRx i (z.num + 1)).each due (fun (s : State) (h : HeldMsg) => s.takeShroud h.port h.num h.msg)
    let s := s.raise .shroudGap (oAccel a) [a, stream, skipped, want]
    s.releaseHeld a stream s.held.length

/-- SHROUD_GAP_TIMEOUT (R209). -/
def execShroudGapTimeout (t : Ns) (a : Fin 8) (stream : Fin 2) (s : State) : Out :=
  let s := s.tick t
  .next (if s.due .shroudGap (2 * a.val + stream.val) then ((s.releaseLate a.val stream.val).gapTimer a.val stream.val).settleUpdate else s)

end Sys2Proof.Machine
end

