-- ==== Sys2Proof/Machine/Time.lean ====
section
/-! DEFINITION. Pace, common time and crossings (chapter 2). -/

namespace Sys2Proof

/-- A crossing's identity (Table 2.6). -/
def Crossing.id (c : Crossing) : Nat := c.tile.val * 2 ^ 14 + c.kind.val * 2 ^ 8 + c.inst.val

/-- The tile at the far end of a stitch crossing; the next tile of Mizzen is Fore (log entry 234). -/
def Crossing.far (c : Crossing) : Option Nat :=
  if c.kind = 2 then some ((c.tile.val + 1) % 3) else if c.kind = 3 then some ((c.tile.val + 2) % 3) else none

/-- The identity of a stitch crossing's other end: the same channel, seen from the far tile. -/
def Crossing.other (c : Crossing) : Option Nat := c.far.map (fun x => x * 2 ^ 14 + (5 - c.kind.val) * 2 ^ 8 + c.inst.val)

/-- The number of a privileged signal among those of its tile (R81): a furl from 0, an emergency reef from 8, the thermal furl 16, the tile
reset 17, an island reset from 18, a rail trip from 32, a feed trip from 96, a leg trip from 128. -/
def PrivSignal.code : PrivSignal → Nat
  | .furl a => a.val | .reef a => 8 + a.val | .thermalFurl => 16 | .tileReset => 17 | .islandReset i => 18 + i.val
  | .railTrip k => 32 + k.val | .feedTrip f => 96 + f.val | .legTrip l => 128 + l.val

end Sys2Proof

namespace Sys2Proof.Machine

/-! ### Pace (R55, R58, R59) -/

/-- One threshold's watch: its event after 16 windows below, and again only after 1 ms at least 10,000 kHz above it. -/
def State.judgePace (s : State) (t k : Nat) (limit : Int) (e : Ev) : State :=
  let i := 2 * t + k
  let p := s.var .paceNow t
  let s := s.setV .paceRun i (if p < limit then s.var .paceRun i + 1 else 0)
  let s := s.setV .paceHigh i (if limit + 10000 ≤ p then s.var .paceHigh i + 1 else 0)
  let s := if 1000 ≤ s.var .paceHigh i then s.setV .paceTold i 0 else s
  if 16 ≤ s.var .paceRun i ∧ !s.flag .paceTold i then (s.setV .paceTold i 1).raise e (oTile t) [t, p] else s

/-- The pace of a tile over one window: the present pace, the mean of the last 1,000 windows, and the lowest. -/
def State.keepPace (s : State) (x p : Nat) : State :=
  let l := (p :: s.paces.get [] x).take 1000
  let s : State := { s with paces := s.paces.put [] x l }
  let (mean, s) := s.roundDiv (l.sum : Nat) l.length
  let s := ((s.setV .paceNow x p).put .pace x mean).put .paceMin x (if s.flag .paceSeen x then min (s.get .paceMin x) p else p)
  s.setV .paceSeen x 1

/-- The alarm and the slow corner; a tile that has been below the corner for 1 ms is one the others ask to have fenced, at every further
window below it too (R59, R159). -/
def State.judgePaces (s : State) (x : Nat) : State :=
  let s := s.judgePace x 0 (s.get .paceAlarm x) .paceLow
  let s := s.judgePace x 1 650000 .paceBelowCorner
  if 1000 ≤ s.var .paceRun (2 * x + 1) then s.each (s.tilesIn.filter (· ≠ x)) (fun s y => s.requestFence y x 2) else s

/-- PACE_WINDOW (R55): the counts of the four reference pipelines over one window. -/
def execPaceWindow (t : Ns) (tile : Fin 3) (a b c d : Nat) (s : State) : Out :=
  let s := s.tick t
  let x := tile.val
  .next (if s.votes x then
      let real := min (min a b) (min c d) * 1000
      let p := match s.injected (0x044 + 16 * x) with | some v => min real v.toNat | none => real
      ((s.spend (0x044 + 16 * x)).keepPace x p).judgePaces x
    else s)

/-- WRITE_PACE_MIN (Table 2.1): the record restarts from the current window, whatever is written. -/
def setPaceMin (_ : Int) (t : Nat) (s : State) : State × Res := (s.put .paceMin t (s.var .paceNow t), .st .ok)

def execWritePaceMin (a : Arrival) (v : Int) (s : State) : Out := .next (s.write a .paceMin v (setPaceMin v))

/-! ### References and oscillators (R66–R70, R466–R468) -/

/-- REFCLK_LOST (R67): Fore's loop moves to its backup oscillator. -/
def execRefclkLost (t : Ns) (cause : Fin 2) (s : State) : Out :=
  let s := s.tick t
  .next (if s.inService 0 ∧ !s.flag .oscUse 0 then
      ((s.putRefclk false).loopMoves 0).raise .refclkLost (oTile 0) [cause.val]
    else s)

/-- REFCLK_RESTORED (R67); `offset` is the measured offset, ppb. -/
def execRefclkRestored (t : Ns) (offset : Int) (s : State) : Out :=
  let s := s.tick t
  .next (if s.inService 0 ∧ s.flag .oscUse 0 ∧ !s.acts 0x040 then
      (s.loopBack 0).putRefclk true |>.raise .refclkRestored (oTile 0) [offset]
    else s)

/-- FORWARDED_REF_LOST (R69): Main or Mizzen moves its loop to its own backup oscillator. -/
def execForwardedRefLost (t : Ns) (group : Fin 2) (s : State) : Out :=
  let s := s.tick t
  let x := 1 + group.val
  .next (if s.inService x ∧ !s.flag .oscUse x then s.loopMoves x else s)

/-- One point of a compensation table moves by 1/16 of a difference, by its share (R467). -/
def State.movePoint (s : State) (x : V) (i : Nat) (diff share : Rat) : State :=
  let (d, s) := s.whole (diff * share / 16)
  s.setV x i (s.var x i + d)

/-- A measurement moves the two points that bracket a temperature; beyond the table's ends, the end point alone (R467). -/
def State.refine (s : State) (x : V) (base : Nat) (temp : Int) (value : Rat) : State :=
  let diff := value - s.compAt x base temp
  let u : Rat := ((temp : Rat) + 5000) / 5000
  if u ≤ 0 then s.movePoint x base diff 1
  else if 31 ≤ u then s.movePoint x (base + 31) diff 1
  else
    let i := u.floor.toNat
    let w := u - i
    (s.movePoint x (base + i) diff (1 - w)).movePoint x (base + i + 1) diff w

/-- OSC_OFFSET_MEASURE (R66, R467): a locked tile measures its backup oscillator against its reference. A measurement on a tile that had
lost the forwarded reference says that it is locked to it again: the manual gives no other sign of that (log entry 249). -/
def execOscOffsetMeasure (t : Ns) (tile : Fin 3) (ppb : Int) (s : State) : Out :=
  let s := s.tick t
  let x := tile.val
  let s : State := if s.inService x ∧ s.flag .oscUse x ∧ x ≠ 0 ∧ x ≠ s.timeTile then s.loopBack x else s
  .next (if s.inService x ∧ !s.flag .oscUse x then
      let s := (s.setV .oscOffset x ppb).setV .oscMeasured x (if s.var .oscMeasured x < 0 then (s.now : Int) else s.var .oscMeasured x)
      match s.validTemp (24 * x) with
      | some temp => s.refine .compOsc (32 * x) temp ppb
      | none => s
    else s)

/-- In holdover the rate bound follows the time master's temperature (R70); the error so far is kept. -/
def State.holdRate (s : State) : State :=
  if s.timeState ≠ 3 then s
  else
    let x := s.timeTile
    let d := s.get .thermalTemperature (24 * x) - s.var .holdTemp x
    let ppm : Int := if s.flag .holdGood x ∧ -5000 ≤ d ∧ d ≤ 5000 then 2 else 25
    if ppm = s.var .holdPpm then s
    else (s.setV .holdErr 0 s.timeError).setV .holdAt 0 s.now |>.setV .holdPpm 0 ppm

/-- COMPENSATION_UPDATE (R466, R468): OSC_COMP takes the table's offset at the temperature of sensor 0. References are corrected
where they are used. -/
def execCompensationUpdate (t : Ns) (s : State) : Out :=
  let s := s.tick t
  .next ((s.each s.tilesIn (fun s x =>
    match s.validTemp (24 * x) with
    | some temp =>
      let (v, s) := s.whole (s.compAt .compOsc (32 * x) temp)
      s.put .oscComp x v
    | none => s)).holdRate)

/-! ### Common time (R71–R76) -/

/-- WRITE_COMMON_TIME (R72). -/
def setCommonTime (v : Int) (_ : Nat) (s : State) : State × Res :=
  if 2 ≤ s.timeSource then (s, .st .denied)
  else ((s.correct (v - s.now)).putTime 1 1 s.hopsFree 4294967295, .st .ok)

def execWriteCommonTime (a : Arrival) (v : Int) (s : State) : Out := .next (s.write a .commonTime v (setCommonTime v))



/-- A PPS edge is rejected or missing; the third in a row loses PPS_IN (R74). -/
def State.ppsFault (s : State) : State :=
  let s := s.countV .ppsMiss 0
  if 3 ≤ s.var .ppsMiss then (s.setV .ppsMiss 0 0).timeLost else s

/-- PPS_EDGE (R74): the edge, at this instant of common time, marks a whole second. Once locked, one that is more than 1 µs away
is rejected. -/
def execPpsEdge (t : Ns) (s : State) : Out :=
  let s := s.tick t
  let f := s.now % sec
  let off : Int := if f ≤ sec / 2 then f else (f : Int) - sec
  let locked := decide (s.timeState = 2 ∧ s.timeSource = 3)
  .next (if !s.isMasthead ∨ s.tilesIn.isEmpty ∨ (s.timeState = 2 ∧ s.timeSource ≠ 3) then s
    else if locked ∧ (off < -1000 ∨ 1000 < off) then s.ppsFault
    else
      let s := (s.setV .ppsMiss 0 0).correct (-off)
      if locked then s else s.timeLock 3 0)

/-- PPS_EDGE_MISSING (R74). -/
def execPpsEdgeMissing (t : Ns) (s : State) : Out :=
  let s := s.tick t
  .next (if s.timeState = 2 ∧ s.timeSource = 3 then s.ppsFault else s)

/-- HOLDOVER_LIMIT_REACHED (Table 2.4): the source is none from then on. -/
def execHoldoverLimitReached (t : Ns) (s : State) : Out :=
  let s := s.tick t
  .next (if s.timeState = 3 ∧ s.get .holdoverLimit < s.timeError then s.putTime 1 0 s.hopsFree 4294967295 else s)

/-! ### Island clocks (R84, R85) -/

/-- GUARD_CLOCK_FALLBACK (R84). -/
def execGuardClockFallback (t : Ns) (tile : Fin 3) (s : State) : Out :=
  let s := s.tick t
  .next (if s.inService tile.val ∧ !s.flag .guardFallback tile.val then
      (s.setV .guardFallback tile.val 1).raise .guardClockFallback (oTile tile.val) [tile.val, 1]
    else s)

/-- GUARD_CLOCK_RESTORED (R84). -/
def execGuardClockRestored (t : Ns) (tile : Fin 3) (s : State) : Out :=
  let s := s.tick t
  .next (if s.flag .guardFallback tile.val ∧ !s.acts (0x043 + 16 * tile.val) then (s.setV .guardFallback tile.val 0).raise .guardClockFallback (oTile tile.val) [tile.val, 0] else s)

/-- Crossing states of Table 2.7. -/
def crActive : Int := 0
def crDraining : Int := 1
def crFlushed : Int := 2
def crRearm : Int := 3

/-- A crossing leaves ACTIVE (R89): the count of the words it does not deliver starts. -/
def State.drainCrossing (s : State) (id : Nat) : State :=
  if s.var .crossing id = crActive then (s.setV .crossing id crDraining).setV .crossingLost id 0 else s

/-- The islands of the links whose clock stops: their ports go down, and train again once it runs (Table 19.9). -/
def State.islandPorts (s : State) (t i : Nat) : State :=
  let ps := (List.range 58).filter (fun p => decide (portTile p = t) && decide (i = if p < 48 then 2 else 3))
  s.each ps (fun s p => if (s.link p).state = lkDown ∨ (s.link p).state = lkDisabled then s else s.moveLink p lkDown)

/-- An island of this member (Table 2.2) is held in reset for a cause (1 its clock has stopped, 2 its privileged level), and its crossings
are flushed (R85, R89). -/
def State.islandReset (s : State) (t i cause : Nat) : State :=
  let s := s.setV .islandDown (16 * t + i) (s.varN .islandDown (16 * t + i) ||| cause : Nat)
  ((s.drainCrossing (t * 2 ^ 14 + i)).drainCrossing (t * 2 ^ 14 + 2 ^ 8 + i)).islandPorts t i

/-- A cause that held an island in reset ends. -/
def State.islandFree (s : State) (t i cause : Nat) : State :=
  (s.setV .islandDown (16 * t + i) (s.varN .islandDown (16 * t + i) &&& (3 - cause) : Nat)).when (decide (i = 9)) (fun s => s.startWaiting t)

/-- ISLAND_CLOCK_STOPPED (R85), of an island Table 2.2 gives the tile. -/
def execIslandClockStopped (t : Ns) (tile : Fin 3) (island : Fin 10) (s : State) : Out :=
  let s := s.tick t
  .next (if s.inService tile.val ∧ s.member.island tile.val island.val ∧
      !(s.varN .islandDown (16 * tile.val + island.val)).testBit 0 then
      (s.raise .islandClockStopped (oTile tile.val) [tile.val, island.val]).islandReset tile.val island.val 1
    else s)

/-- ISLAND_CLOCK_RESUMED (R85). -/
def execIslandClockResumed (t : Ns) (tile : Fin 3) (island : Fin 10) (s : State) : Out :=
  let s := s.tick t
  .next (if s.injected (0x041 + 16 * tile.val) = some (island.val : Int) then s
    else s.islandFree tile.val island.val 1)

/-! ### Crossings (R86–R93) -/

/-- The time limit of a request issued at an instant (R60). -/
def State.crossLimit (s : State) (c : Crossing) (since : Ns) : Int :=
  let p : P := if c.kind.val < 2 then .crossingTimeout else .stitchTimeout
  let k := 2 * c.tile.val + (if c.kind.val < 2 then 0 else 1)
  match (s.oldLimits.get [] k).find? (fun x => decide (since < x.1)) with
  | some x => x.2
  | none => s.get p c.tile.val

/-- A write of CROSSING_TIMEOUT or STITCH_TIMEOUT leaves requests already waiting under the value before it (R60). -/
def State.keepLimit (s : State) (k : Nat) (old : Int) : State :=
  { s with oldLimits := s.oldLimits.put [] k ((s.oldLimits.get [] k).filter (fun x => decide (s.now < x.1 + 20 * us)) ++ [(s.now, old)]) }

/-- CROSSING_TIMEOUT (R86, R87, R91): a request issued at `since` is not acknowledged. `reset`: the far side's reset level falls in
the same guard clock period, and only the flush will be reported. A stitch timeout is reported to the heartbeat logic, which asks
for a fence (R159). -/
def execCrossingTimeout (t : Ns) (c : Crossing) (since : Ns) (reset : Bool) (s : State) : Out :=
  let s := s.tick t
  .next (if s.inService c.tile.val ∧ s.var .crossing c.id = crActive ∧ s.crossLimit c since ≤ ((s.now - since : Nat) : Int) then
      let s := if reset then s else s.raise .crossingTimeout (oTile c.tile.val) [c.id, (s.now - since : Nat)]
      let s := s.drainCrossing c.id
      match c.far with
      | some x => if reset then s else s.requestFence c.tile.val x 8
      | none => s
    else s)

/-- CROSSING_FAR_RESET (R88, R89). -/
def execCrossingFarReset (t : Ns) (c : Crossing) (s : State) : Out :=
  let s := s.tick t
  .next (if s.inService c.tile.val then s.drainCrossing c.id else s)

/-- CROSSING_DRAINED (R90): `discarded` words in flight or queued were returned to their sources as failed. They count with those answered
failed while it drained; FLUSHED keeps the count. -/
def execCrossingDrained (t : Ns) (c : Crossing) (discarded : Nat) (s : State) : Out :=
  let s := s.tick t
  .next (if s.var .crossing c.id = crDraining then
      let n := s.varN .crossingLost c.id + discarded
      ((s.setV .crossing c.id crFlushed).setV .crossingLost c.id n).raise .crossingFlushed (oTile c.tile.val) [c.id, (min n 65535 : Nat)]
    else s)

/-- The far side of a crossing is out of reset, and its clock runs. -/
def State.farReady (s : State) (c : Crossing) : Bool :=
  match c.far with
  | some x => s.votes x
  | none => decide (c.kind.val < 2) && !s.flag .islandDown (16 * c.tile.val + c.inst.val)

/-- The token pair of a crossing in REARM is complete once the other end is in REARM or ACTIVE (Table 2.7); an island's crossing has its
other end in the island, which is idle out of reset. How the two ends come to ACTIVE together is a reading (log entry 253). -/
def State.tokens (s : State) (c : Crossing) : State :=
  match c.other with
  | none => s.setV .crossing c.id crActive
  | some o =>
    if s.var .crossing o = crRearm ∨ s.var .crossing o = crActive then (s.setV .crossing c.id crActive).setV .crossing o crActive
    else s

/-- CROSSING_REARM (R89): a flushed crossing whose far side is out of reset enters REARM, and ACTIVE when the tokens are exchanged. -/
def execCrossingRearm (t : Ns) (c : Crossing) (s : State) : Out :=
  let s := s.tick t
  .next (if s.var .crossing c.id = crFlushed ∧ s.farReady c then (s.setV .crossing c.id crRearm).tokens c else s)

/-! ### Privileged signals (R81, R82, R92) -/

/-- What the guard island of a tile does at a privileged level, beside counting it in the tile's votes while it is held (State.guardVote):
a trip switches off for good, a tile's votes leave, an island is held in reset. -/
def State.privileged (s : State) (t : Nat) (x : PrivSignal) (on : Bool) : State :=
  let s := s.setV .priv (2048 * t + x.code) (if on then 1 else 0)
  match x with
  | .furl a => s.revote (outFurl a.val)
  | .reef a => (s.revote (outReef a.val)).syncReef a.val
  | .thermalFurl => s.each (List.range 8) (fun s a => s.revote (outFurl a))
  | .railTrip k => if on then s.voterInput (outRail k.val) t 0 else s
  | .feedTrip f => if on then s.voterInput (outFeed f.val) t 0 else s
  | .legTrip l => if on then s.modLeg l.val LegSt.idle else s
  | .tileReset => ((s.setV .tileReset t (if on then 1 else 0)).when on (fun s => s.chansStop t)).revoteAll
  | .islandReset i => if s.member.island t i.val then (if on then s.islandReset t i.val 2 else s.islandFree t i.val 2) else s

/-- PRIVILEGED_SIGNAL (R82): a level passes the guard island's synchroniser and is acted on; no crossing's state holds it back. -/
def execPrivilegedSignal (t : Ns) (tile : Fin 3) (x : PrivSignal) (on : Bool) (s : State) : Out :=
  let s := s.tick t
  .next (if s.inService tile.val then s.privileged tile.val x on else s)

end Sys2Proof.Machine
end

