-- ==== Sys2Proof/Machine/Diag.lean ====
section
/-! DEFINITION. The commands of chapter 19: injection, maintenance mode, self-tests, calibrations, the long event log. -/

namespace Sys2Proof.Machine

/-- The state a meaning answers. -/
def State.after (s : State) (o : Out) : State :=
  match o with
  | .next s => s
  | _ => s

/-! ### Injection (R716–R722) -/

/-- ARM's parameters keep their ranges (Table 19.2, R721). -/
def armRight (m : Member) (k : Point) (x : ArmParams) : Bool :=
  !x.rsv && decide (x.trigger ≤ 2) && decide (1 ≤ x.count ∧ x.count ≤ 1000) && decide (x.spacing ≤ 60000000)
    && (decide (x.trigger = 1) || decide (x.at_ = 0)) && (if x.trigger = 2 then decide (x.skip ≤ 1000000) else decide (x.skip = 0))
    && decide (x.duration ≤ 10000000) && (k.holds || decide (x.duration = 0)) && k.takes m x.value

/-- The point is armed (R722): ARM_LIMIT runs, and the long log takes a record of it. -/
def State.armPoint (s : State) (p : Nat) (x : ArmParams) : State :=
  let s : State := { s with points := s.points.put {} p ({ trigger := x.trigger, left := x.count, spacing := x.spacing, at_ := x.at_
                                                           skip := x.skip, duration := x.duration, value := x.value } : Inj) }
  let s := (s.setPoint p ptArmed).arm .armLimit p (s.getN .armLimit * sec)
  let s := s.logAdd { type := 0x1002, src := oPoint p, stamp := s.now, csn := s.journal.committed, safety := false, tile := s.flashTile
                      payload := [u16 p, u8 x.trigger, rsv 1, u16 x.count, u32 x.spacing, u64 x.at_, u32 x.skip, u32 x.duration] }
  s.pointEvent p 0

/-- INJECT (R720, R721). -/
def doInject (a : Arrival) (x : Option ArmParams) (s : State) : State × Res :=
  let p := objIdx a.hdr.object
  match pointOf p, a.hdr.property, x with
  | some k, 0, some x =>
    if objCls a.hdr.object ≠ 0x1A then (s, .st .badParam)
    else if s.get .pointState p ≠ ptIdle then (s, .st .diagPointState)
    else
      let level := s.pointLevel k x.value x.duration
      if (level = 1 ∧ (s.timer .maintenance).isNone) ∨ (level = 2 ∧ !s.mayDisturb a) then (s, .st .wouldDisturb)
      else if 16 ≤ s.armedPoints.length then (s, .st .diagArmFull)
      else if !armRight s.member k x then (s, .st .badParam)
      else (s.armPoint p x, .st .ok)
  | some _, 1, none =>
    if objCls a.hdr.object ≠ 0x1A then (s, .st .badParam)
    else if s.get .pointState p = ptIdle then (s, .st .ok)
    else ((s.pointIdle p).pointEvent p 4, .st .ok)
  | _, _, _ => (s, .st .badParam)

def execInject (a : Arrival) (p : Option ArmParams) (s : State) : Out := .next (s.request a (.inject p) (doInject a p))

/-- What a fire does at once: a clock stops, a vote turns, a lane goes down, a fault is put on an input outside the block. -/
def State.fireEffect (s : State) (p : Nat) (k : Point) (x : Inj) : State :=
  let held := decide (x.duration ≠ 0)
  match k with
  | .refclk => if held then s.after (execRefclkLost s.now 0 s) else s
  | .island t => if held then s.after (execIslandClockStopped s.now (Fin.ofNat 3 t) (Fin.ofNat 10 x.value.toNat) s) else s
  | .guard t => if held then s.after (execGuardClockFallback s.now (Fin.ofNat 3 t) s) else s
  | .vote t => if held then s.voterInput x.value.toNat t (s.ownVote x.value.toNat t) else s
  | .shroud q => if held ∧ s.linkUp q then s.moveLink q lkRetrain else s
  | .ratline q => if held ∧ s.linkUp (48 + q) then s.moveLink (48 + q) lkRetrain else s
  | k => if k.outside then s.send (.fault p x.value x.duration) else s

/-- A point fires (R722). -/
def State.firePoint (s : State) (p : Nat) (k : Point) : State :=
  let x := s.points.get {} p
  let flit : Bool := match k with | .shroud _ | .sheet _ | .ratline _ => true | _ => false
  let y : Inj := { x with left := x.left - 1, last := some s.now, pend := k.once && (decide (x.duration = 0) || flit) }
  let s : State := { s with points := s.points.put {} p y }
  let s := (s.count .fires p).pointEvent p 1
  let s := if x.duration = 0 then s else (s.arm .injHold p (x.duration * us)).setPoint p ptFiring
  let s := s.fireEffect p k x
  if x.duration = 0 ∧ y.left = 0 ∧ s.get .pointState p ≠ ptIdle then s.pointIdle p else s

/-- The trigger of an armed point is met (R722, Table 19.2): `seen` opportunities have passed since it was armed. -/
def State.triggerMet (s : State) (p seen : Nat) : Bool :=
  let x := s.points.get {} p
  decide (s.get .pointState p = ptArmed) && decide (0 < x.left)
    && (match x.trigger with | 0 => true | 1 => decide (x.at_ ≤ s.now) | _ => decide (x.skip ≤ seen))
    && x.last.all (fun l => decide (l + x.spacing * us ≤ s.now))

/-- INJECTION_FIRE (R717, R722). -/
def execInjectionFire (t : Ns) (p : Fin 4096) (seen : Nat) (s : State) : Out :=
  let s := s.tick t
  .next (match pointOf p.val with
    | some k => if s.triggerMet p.val seen then (s.firePoint p.val k).settleUpdate else s
    | none => s)

/-- A turned vote is counted as it is again (R163, R722). -/
def State.voteBack (s : State) (p : Nat) (v : Int) : State :=
  match pointOf p with
  | some (.vote t) => s.voterInput v.toNat t (s.ownVote v.toNat t)
  | _ => s

/-- INJECTION_HOLD_END (R722). -/
def execInjectionHoldEnd (t : Ns) (p : Fin 4096) (s : State) : Out :=
  let s := s.tick t
  let p := p.val
  .next (if s.due .injHold p then
      let x := s.points.get {} p
      let s := (s.pointEvent p 2).disarm .injHold p
      let s := s.when ((pointOf p).any Point.outside) (fun s => s.send (.fault p x.value 0))
      let s := if x.left = 0 then s.pointIdle p else s.setPoint p ptArmed
      s.voteBack p x.value
    else s)

/-- ARM_LIMIT_EXPIRY (R722). -/
def execArmLimitExpiry (t : Ns) (p : Fin 4096) (s : State) : Out :=
  let s := s.tick t
  let p := p.val
  .next (if s.due .armLimit p then
      let v := (s.points.get {} p).value
      ((s.pointIdle p).pointEvent p 3).voteBack p v
    else s)

/-! ### Maintenance mode (R723, R724) -/

/-- SET_MAINTENANCE (R723): an ON that restarts the duration is no entry and raises nothing. -/
def doSetMaintenance (a : Arrival) (on duration : Nat) (s : State) : State × Res :=
  if a.hdr.object ≠ oDevice ∨ 1 < on ∨ (on = 1 ∧ (duration < 60 ∨ 86400 < duration ∨ duration % 60 ≠ 0)) then (s, .st .badParam)
  else if on = 1 then
    let entered := (s.timer .maintenance).isNone
    ((s.arm .maintenance 0 (duration * sec)).when entered (fun s => s.raise .maintenance oDevice [0, 0, duration]), .done .ok [u32 duration])
  else (s.endMaintenance 0, .done .ok [u32 0])

def execSetMaintenance (a : Arrival) (on duration : Nat) (s : State) : Out :=
  .next (s.request a (.setMaintenance on duration) (doSetMaintenance a on duration))

/-- MAINTENANCE_EXPIRY (R723, R724). -/
def execMaintenanceExpiry (t : Ns) (s : State) : Out :=
  let s := s.tick t
  .next (if s.due .maintenance then s.endMaintenance 1 else s)

/-! ### Self-tests (R725–R728) -/

/-- The object and ARG are ones Table 19.3 gives the test. -/
def testRight (test arg : Nat) (o : ObjId) : Bool :=
  let i := objIdx o
  match test with
  | 0 | 1 | 3 => decide (objCls o = 1)
  | 2 => decide (objCls o = 1) && decide (i ≤ 1)
  | 8 => decide (objCls o = 2) && (decide (arg = 0) || (decide (100 ≤ arg ∧ arg ≤ 60000) && decide (arg % 100 = 0)))
  | 9 => (decide (objCls o = 5) && decide (i < 64)) || decide (objCls o = 2) || decide (objCls o = 9)
  | 10 => decide (objCls o = 9)
  | 11 => decide (objCls o = 8) && decide (1000 ≤ arg ∧ arg ≤ 10000)
  | _ => false

/-- A precondition of a test does not hold. -/
def State.testBarred (s : State) (test : Nat) (o : ObjId) : Bool :=
  (decide (objCls o = 1) && !s.inService (objIdx o)) || (decide (test = 1) && !(s.member.features false).testBit 2)
    || (decide (test = 9) && decide (s.membership ≠ 3))

/-- What a test does to its object as it starts (Table 19.3). VOTER's pulses, and the concurrent tests, leave no state behind. -/
def State.beginTest (s : State) (test arg : Nat) (o : ObjId) : State :=
  let i := objIdx o
  match test with
  | 8 => s.startFurl i 2 0xFFFF noReading 0 (if arg = 0 then s.getN .furlDeadline else arg)
  | 10 => (s.setV .testValve i 1).syncValve i
  | 11 => if s.coolRuns then (s.setV .testDrive i 1).retarget (16 + i) else s
  | _ => s

/-- SELFTEST (R725, R726). -/
def doSelftest (a : Arrival) (test arg : Nat) (s : State) : State × Res :=
  let obj := a.hdr.object
  let o := s.originOf a .selftest
  let disturbs := decide (8 ≤ test)
  if !testRight test arg obj then (s, .st .badParam)
  else if disturbs ∧ a.binding.cls = .burin then (s, .st .denied)
  else if disturbs ∧ !s.mayDisturb a then (s, .st .wouldDisturb)
  else if disturbs ∧ s.tests.any (·.disturbs) then (s, .st .busy)
  else if s.testBarred test obj then (s, .st .diagState)
  else
    let prior := if test = 10 then s.get .command (objIdx obj) else 0
    let s := s.beginTest test arg obj
    let x : Trial := { origin := some o, cal := false, test, object := obj, arg, since := s.now, prior }
    ((({ s with tests := s.tests ++ [x] } : State).hold o [obj]).beginApply o, .accepted [])

def execSelftest (a : Arrival) (test arg : Nat) (s : State) : Out := .next (s.request a (.selftest test arg) (doSelftest a test arg))

/-- A component of a tile is marked failed, or restored (R728, R731): never the last bank of a set of inputs. -/
def State.markPart (s : State) (t c : Nat) (failed : Bool) (measured : Int) : State :=
  let m := s.varN .bankFailed t
  if m.testBit c = failed ∨ (failed ∧ c ≤ 1 ∧ (s.varN .bankFailed (1 - t)).testBit c) then s
  else (s.setV .bankFailed t (if failed then m + 2 ^ c else m - 2 ^ c : Nat)).raise .componentFailed (oTile t)
    [t, c, if failed then 0 else 1, measured % 4294967296]

/-- What SENSE_BANK says of a tile's banks: bit 0 of the failed step the comparator bank, bit 1 the fast-sense bank (R728). -/
def State.judgeBanks (s : State) (t step : Nat) (measured : Int) : State :=
  [0, 1].foldl (fun (s : State) c =>
    if step = 0 then s.markPart t c false measured else if step.testBit c then s.markPart t c true measured else s) s

/-- SELFTEST_COMPLETE (R725, R728): `step` is 0, or the step that failed. -/
def execSelftestComplete (t : Ns) (object : ObjId) (test step : Nat) (measured : Nat) (s : State) : Out :=
  let s := s.tick t
  .next (match s.tests.find? (fun x => !x.cal && decide (x.object = object ∧ x.test = test)) with
    | some x =>
      let s := if test = 2 then s.judgeBanks (objIdx object) step measured else s
      let s := if test = 10 ∨ test = 11 then s.restoreTrial x else s
      s.endTrial x (if step = 0 then .ok else .diagFailed) (if step = 0 then 0 else 1) (step % 256) (measured % 4294967296 : Nat)
    | none => s)

/-! ### Calibrations (R729–R731) -/

/-- The component a calibration of a tile judges (R731); none for a relay's legs. -/
def calPart (cal : Nat) : Option Nat :=
  match cal with | 1 => some 2 | 2 => some 0 | 3 => some 3 | 4 => some 1 | _ => none

/-- A calibration may run on its object (R730). -/
def State.calBarred (s : State) (cal : Nat) (o : ObjId) : Bool :=
  let t := objIdx o
  if cal = 0 then !s.relayPresent t
  else !s.inService t || (decide (cal = 3) && s.flag .oscUse t)
    || (decide (cal = 2 ∨ cal = 4) && (!s.inService (1 - t) || (s.varN .bankFailed (1 - t)).testBit (if cal = 2 then 0 else 1)))

/-- Calibrations 2 and 4 of the other tile's banks run (R730). -/
def State.calBlocked (s : State) (cal : Nat) (o : ObjId) : Bool :=
  decide (cal = 2 ∨ cal = 4) && s.tests.any (fun x => x.cal && decide (x.test = 2 ∨ x.test = 4) && decide (x.object ≠ o) && !x.waits)

/-- A calibration that runs by a command starts (R153). -/
def State.calBegins (s : State) (o : Option Origin) : State :=
  match o with
  | some o => s.beginApply o
  | none => s

/-- A calibration starts, or waits for the other tile's. -/
def State.addCal (s : State) (o : Option Origin) (cal : Nat) (object : ObjId) : State :=
  let waits := s.calBlocked cal object
  let s := if waits then s else s.calBegins o
  { s with tests := s.tests ++ [({ origin := o, cal := true, test := cal, object, since := s.now, waits } : Trial)] }

/-- CALIBRATE (R729, R730). -/
def doCalibrate (a : Arrival) (cal : Nat) (s : State) : State × Res :=
  let obj := a.hdr.object
  let o := s.originOf a .calibrate
  let right : Bool := match cal with
    | 0 => decide (objCls obj = 6)
    | 3 => decide (objCls obj = 1)
    | 1 | 2 | 4 => decide (objCls obj = 1) && decide (objIdx obj ≤ 1)
    | _ => false
  if !right then (s, .st .badParam)
  else if cal = 0 ∧ !s.relayPresent (objIdx obj) then (s, .st .partnerLost)
  else if s.calBarred cal obj then (s, .st .diagState)
  else ((s.addCal (some o) cal obj).hold o [obj], .accepted [])

def execCalibrate (a : Arrival) (cal : Nat) (s : State) : Out := .next (s.request a (.calibrate cal) (doCalibrate a cal))

/-- CALIBRATION_PERIOD (R729): 1, 2 and 4 on each eligible tile, without a command. -/
def execCalibrationPeriod (t : Ns) (s : State) : Out :=
  let s := s.tick t
  .next (if s.due .calPeriod then
      let s := s.arm .calPeriod 0 (s.getN .calPeriod * sec)
      s.each [(1, 0), (1, 1), (2, 0), (2, 1), (4, 0), (4, 1)] (fun (s : State) (x : Nat × Nat) =>
        let o := oTile x.2
        if s.calBarred x.1 o ∨ s.tests.any (fun y => y.cal && decide (y.test = x.1 ∧ y.object = o)) then s else s.addCal none x.1 o)
    else s)

/-- A result within tolerance is applied (R466, R467, R729): `errs` are the gain errors of the references measured, ppm. -/
def State.applyCal (s : State) (cal t : Nat) (measured : Int) (errs : List Int) : State :=
  match cal with
  | 1 => match s.validTemp (24 * t + 1) with
    | some temp => s.each (errs.take 4).zipIdx (fun (s : State) (e : Int × Nat) => s.refine .compRef (32 * (4 * t + e.2)) temp e.1)
    | none => s
  | 3 => match s.validTemp (24 * t) with
    | some temp => s.refine .compOsc (32 * t) temp measured
    | none => s
  | _ => s

/-- The first calibration that waits for no other tile's bank any more starts. -/
def State.nextCal (s : State) : State :=
  match s.tests.find? (fun x => x.waits && !s.calBlocked x.test x.object) with
  | some x => ({ s with tests := s.tests.map (fun y => if y = x then { x with waits := false, since := s.now } else y) } : State).calBegins x.origin
  | none => s

/-- CALIBRATE_COMPLETE (R129, R729–R731). -/
def execCalibrateComplete (t : Ns) (object : ObjId) (cal : Nat) (within : Bool) (measured : Int) (errs : List Int) (s : State) : Out :=
  let s := s.tick t
  settled (.next (match s.tests.find? (fun x => x.cal && decide (x.object = object ∧ x.test = cal) && !x.waits) with
    | some x =>
      let s := if within then s.applyCal cal (objIdx object) measured errs
        else match calPart cal with
          | some c => s.markPart (objIdx object) c true measured
          | none => s
      (s.endTrial x (if within then .ok else .diagFailed) (if within then 0 else 1) 0 (measured % 4294967296)).nextCal
    | none => s))

/-! ### The long event log (R733–R737) -/

/-- LOG_RECORD_WRITE (R733, R735): the oldest waiting record takes the next ordinal of the ring of 16,777,216, and a log-gap
record is due as soon as there is space for it (R736). -/
def execLogRecordWrite (t : Ns) (s : State) : Out :=
  let s := s.tick t
  .next (match s.log.waiting with
    | r :: rest =>
      if s.nandLost then s
      else
        let l := s.log.held ++ [r]
        let full := decide (16777216 < l.length)
        ({ s with log := { s.log with waiting := rest, held := if full then l.drop 1 else l
                                      first := if full then s.log.first + 1 else s.log.first } } : State).logGap
    | [] => s.logGap)

/-- WRITE_LOG_CURSOR (R737): the session's own cursor. -/
def setLogCursor (id : Nat) (v : Int) (_ : Nat) (s : State) : State × Res :=
  (s.modSession id (fun x => { x with cursor := v.toNat }), .st .ok)

def execWriteLogCursor (a : Arrival) (v : Int) (s : State) : Out :=
  .next (s.write a .logCursor v (setLogCursor (s.originOf a .setProp).session v))

end Sys2Proof.Machine
end

