-- ==== Sys2Proof/Machine/Ratline.lean ====
section
/-! DEFINITION. The Ratline fabric: identities, adverts, routing, time, global operations and remote Gantline
(chapter 14). -/

namespace Sys2Proof.Machine

/-! ### Neighbours and the tree (R570, R579–R585) -/

/-- A Ratline port is rejected (R570). -/
def State.ratReject (s : State) (p status : Nat) (serial : Nat) : State :=
  (s.rejectPort (48 + p) status serial).raise .partnerRejected (oRatPort p) [5, p, status, oRatPort p, serial]

/-- LINK_IDENTITY (R570): answered by its status; accepted, the port becomes ACTIVE. -/
def execLinkIdentity (t : Ns) (p : Fin 10) (m : LinkIdentity) (s : State) : Out :=
  let s := s.tick t
  let x := s.link (48 + p.val)
  .next (if x.state ≠ lkIdent ∧ x.state ≠ lkActive then s
    else
      let status : Nat := if m.major ≠ 1 then 1 else if (m.serial : Int) = s.var .serial then 2 else 0
      let ack : List Int := [1, 0, status, s.var .serial]
      let s := s.sendIdent (48 + p.val) 2 0x02 (.ratline p.val 0x02 ack) (ratHeader 0x02 0 12 0 (s.getN .taddr) 0 0 ++ ratBody 0x02 ack)
      if status ≠ 0 then s.ratReject p.val status m.serial
      else if x.state = lkActive then s
      else
        let s := (s.modRat p.val (fun x => { x with accepted := true, rackId := m.rackId, far := m.port, incarnation := m.incarnation })).put
          .neighbour p.val m.serial
        (s.moveLink (48 + p.val) lkActive).partnerArrived 5 p.val (oRatPort p.val) m.serial)

/-- LINK_IDENTITY_ACK (R570): a neighbour's rejection disables the port too. -/
def execLinkIdentityAck (t : Ns) (p : Fin 10) (_major _minor status serial : Nat) (s : State) : Out :=
  let s := s.tick t
  let x := s.link (48 + p.val)
  .next (if status ≠ 0 ∧ (x.state = lkIdent ∨ x.state = lkActive) then s.ratReject p.val status serial else s)

/-- TREE_ADVERT_SEND (R579, R580): every 100 µs; a masthead raises ROOT_SEQ. -/
def execTreeAdvertSend (t : Ns) (s : State) : Out :=
  let s := s.tick t
  .next (if s.var .advertAt < 0 ∨ s.var .advertAt + 100 * us ≤ s.now then
      let s := (s.setV .advertAt 0 s.now).elect
      (s.when s.isMasthead (fun s => s.countV .rootSeq 0)).advertise
    else s)

/-- A u32 count has advanced: it wraps (R580). -/
def seqAdvanced (old new : Nat) : Bool := let d := (new + 2 ^ 32 - old) % 2 ^ 32; decide (0 < d) && decide (d < 2 ^ 31)

/-- TREE_ADVERT (R580–R583): an advert counts as fresh from the instant its root or its ROOT_SEQ last changed. -/
def execTreeAdvert (t : Ns) (p : Fin 10) (m : Advert) (s : State) : Out :=
  let s := s.tick t
  .next (if !s.ratUp p.val then s
    else
      let old := (s.rat p.val).advert
      let fresh := match old with | some a => decide (a.root ≠ m.root) || seqAdvanced a.seq m.seq | none => true
      let s := s.modRat p.val (fun x => { x with advert := some m, freshAt := if fresh then s.now else x.freshAt })
      s.elect.settleOps)

/-- ADVERT_STALE (R581, R585): the up port's adverts are no longer fresh. -/
def execAdvertStale (t : Ns) (s : State) : Out :=
  let s := s.tick t
  .next (if 0 ≤ s.var .upPort ∧ (s.freshAdvert (s.varN .upPort)).isNone then s.elect.settleOps else s)

/-- The virtual channel of a message type (Table 14.3); none for a type the table lacks. -/
def ratChannel (kind : Nat) : Option Nat :=
  if kind ∈ [1, 2, 8] ∨ (0x20 ≤ kind ∧ kind ≤ 0x22) ∨ (0x28 ≤ kind ∧ kind ≤ 0x2B) then some 2
  else if kind = 0x40 then some 1
  else if kind = 0x41 ∨ kind = 0x42 then some 0
  else if kind = 0x50 ∨ kind = 0x51 then some 3
  else if kind = 0x60 ∨ (0x62 ≤ kind ∧ kind ≤ 0x6F) then some 4
  else none

/-- RATLINE_MESSAGE_ROUTE (R575–R577): a message for this tray is left to its own row; one to pass on goes out with one
more hop; one that cannot be delivered is dropped, and a REMOTE_REQUEST is answered. -/
def execRatlineMessageRoute (t : Ns) (p : Fin 10) (m : RatHeader) (s : State) : Out :=
  let s := s.tick t
  .next (match ratChannel m.kind with
    | none => s.count .ratlineLinkErrors p.val
    | some vc =>
      let pass (s : State) (q : Nat) : State :=
        s.ratPass q vc m.kind (if m.route = 1 then m.dst else m.serial % 4294967296)
          (.ratline q m.kind ([(m.route : Int), m.src, m.dst, m.serial, (m.hops + 1 : Nat)] ++ m.body.map (fun (b : Nat) => (b : Int))))
          (ratHeader m.kind m.route m.body.length (m.hops + 1) m.src m.dst m.serial ++ m.body)
      if 16 ≤ m.hops ∨ m.route = 0 then s
      else if m.route = 2 then
        if (m.serial : Int) = s.var .serial then s
        else match s.rackPort m.serial with | some q => pass s q | none => s
      else match s.treeRoute m.dst m.serial with
        | .here => s
        | .port q => pass s q
        | .wrongTray => if m.kind = 0x50 then s.sendRemoteReply m.src 0 Status.ratWrongTray.code [] else s
        | .unreachable => if m.kind = 0x50 then s.sendRemoteReply m.src 0 Status.ratUnreachable.code [] else s)

/-- VC1_CREDIT_TIMEOUT (R573): VC1 messages that have waited 20 µs are dropped, counted, and reported at most once a
second for a port. -/
def execVc1CreditTimeout (t : Ns) (p : Fin 10) (s : State) : Out :=
  let s := s.tick t
  let late := fun (f : TxFlit) => decide (f.ch = 2) && decide (f.since + 20 * us ≤ s.now)
  let n := ((s.link (48 + p.val)).queue.filter (fun f => late f && f.last)).length
  .next (if n = 0 then s
    else
      let s := s.modLink (48 + p.val) (fun x => { x with queue := x.queue.filter (fun f => !late f) })
      let s := s.each (List.range n) (fun s _ => s.count .vc1Drops p.val)
      let i := 0x2000 + p.val
      if s.var .eventAt i < 0 ∨ s.var .eventAt i + sec ≤ s.now then
        (s.setV .eventAt i s.now).raise .ratVc1Drop (oRatPort p.val) [p.val, s.get .vc1Drops p.val]
      else s)

/-- A write of MAST_PRIORITY: it decides in the election at once, and the adverts carry it (R579, R580). -/
def setMastPriority (v : Int) (i : Nat) (s : State) : State × Res :=
  let s := (s.put .mastPriority i v).elect
  (s.when s.isMasthead State.advertise, .st .ok)

/-- WRITE_PORT_ADMIN (Table 14.10): 1 holds the port in DOWN. -/
def setPortAdmin (v : Int) (i : Nat) (s : State) : State × Res :=
  let s := s.put .portAdmin i v
  (if v = 1 ∧ (s.link (48 + i)).state ≠ lkDown then s.moveLink (48 + i) lkDown else s, .st .ok)

def execWritePortAdmin (a : Arrival) (v : Int) (s : State) : Out := .next (s.write a .portAdmin v (setPortAdmin v))

/-! ### Common time over the tree (R587, R588) -/

/-- RATLINE_TIME_SEND (R587). -/
def execRatlineTimeSend (t : Ns) (s : State) : Out :=
  let s := s.tick t
  .next (s.each ((List.range 10).filter (fun p => s.ratUp p && (decide (s.get .portRole p = 1) || decide (s.get .portRole p = 3))))
    (fun s p => s.send (.flit (48 + p) (flitBytes 4 0 0 none 0 0 (s.training (48 + p))))))

/-- The values in rising order. -/
def insertSorted (v : Int) : List Int → List Int
  | [] => [v]
  | x :: rest => if v ≤ x then v :: x :: rest else x :: insertSorted v rest

/-- The median of the offsets of the last eight exchanges: the mean of the middle two. -/
def medianOf8 (l : List Int) : Int :=
  let l := (l.take 8).foldl (fun acc v => insertSorted v acc) []
  (l.getD 3 0 + l.getD 4 0) / 2

/-- RATLINE_TIME_FLIT (R587, R588): the parent's time gives the offset; the median of eight is corrected, the rate over
sixteen trimmed; sixteen exchanges within 20 ns of a LOCKED or timed parent lock the tray. -/
def execRatlineTimeFlit (t : Ns) (p : Fin 10) (tTx tEcho hold : Nat) (parentLocked : Bool) (s : State) : Out :=
  let s := s.tick t
  let s := s.when (s.ratUp p.val) (fun s => s.modLink (48 + p.val) (fun x => { x with rxTtx := tTx, rxAt := s.now }))
  .next (if s.var .upPort ≠ p.val ∨ !s.ratUp p.val then s
    else
      let offset : Int := tTx + ((s.now - tEcho - hold) / 2 : Nat) - s.now
      let x := s.rat p.val
      let ex := ((s.now, offset) :: x.exchanges).take 16
      let close := if offset.natAbs ≤ 20 then x.close + 1 else 0
      let s := s.modRat p.val (fun x => { x with exchanges := ex, close })
      let s : State := match ex.getLast? with
        | some (t0, o0) =>
          if ex.length = 16 ∧ t0 < s.now then
            s.setV .rateTrim 0 (max (-200000) (min 200000 ((offset - o0) * 1000000000 / ((s.now - t0 : Nat) : Int))))
          else s
        | none => s
      let m := medianOf8 (ex.map (·.2))
      let s : State := if 8 ≤ ex.length ∧ m ≠ 0 then
          (s.correct m).when (decide (10000 < m)) (fun s => s.modRat p.val (fun x => { x with exchanges := [], close := 0 }))
        else s
      let timed : Bool := match s.freshAdvert p.val with | some a => decide (a.depth = 0) && a.timed | none => false
      if 16 ≤ close ∧ (parentLocked ∨ timed) ∧ (s.timeState ≠ 2 ∨ s.getN .timeStatus / 65536 % 256 ≠ s.getN .depth) then
        s.timeLock 2 (s.getN .depth)
      else s)

/-! ### Acting on an operation (R597–R599) -/

/-- The counters CLEAR_COUNTERS clears (R599): those that saturate in chapters 5 and 14. -/
def State.clearCounters (s : State) : State :=
  let s := s.each (List.range 8) (fun s a => (s.put .accelLinkErrors a 0).put .accelReplays a 0)
  let s := s.each (List.range 10) (fun s p => (s.put .ratlineLinkErrors p 0).put .ratlineReplays p 0 |>.put .vc1Drops p 0)
  s.put .treeChanges 0 0

/-- CYCLE of one accelerator (R599): it stops, and starts once it has left DISCHARGING. -/
def State.cycleScope (s : State) (a : Nat) : State × Status :=
  if s.get .powerState ≠ psRunning then (s, .seqNotReady)
  else
    let s := s.stopScopes [a] 0
    match s.scope a with
    | 0 => (s.beginWait [a] false false, .accepted)
    | 4 | 5 => (s.placePending [a] false, .accepted)
    | 6 => (s, .seqNotDischarged)
    | _ => (s, .seqState)

/-- RESET_GLOBAL's action at a tray (R599), once its firmware command is committed. Answers its acceptance. -/
def State.resetAct (s : State) (kind mask deadline : Nat) : State × Status :=
  let as_ := s.accels.filter (fun a => mask.testBit a)
  match kind with
  | 0 =>
    as_.foldl (fun (x : State × Status) a =>
      let y := x.1.cycleScope a
      (y.1, if x.2 = .accepted then y.2 else x.2)) (s, .accepted)
  | 1 => (s.each as_ (fun s a => s.startFurl a 2 0xFFFF (-2147483648) 0 (if deadline = 0 then s.getN .furlDeadline else deadline)), .accepted)
  | _ => (s.clearCounters, .ok)

/-- The binding a broadcast's packet arrives on (R597, R601). -/
def State.castBinding (s : State) (opId : Nat) : Binding := .ratline (if s.inService 0 then 0 else 5) (2 ^ 64 + opId)

/-- A tray's own part of an initiated operation (R597–R599). The parameters of a broadcast's packet are checked when it is dispatched. -/
def State.opAct (s : State) (m : OpMsg) : State :=
  match m.payload with
  | .packet hdr body => s.arrive { t := s.now, binding := s.castBinding m.opId, queue := hdr.queue, hdr } body (fun s => (s, .later))
  | .reset kind mask deadline =>
    let s := s.commit { op := .resetGlobal, object := oDevice }
    let csn := s.journal.assigned
    let x := s.resetAct kind mask deadline
    (x.1.opReply m.opId x.2.code csn).recommit
  | _ => s

/-- A tray takes part in an initiated operation from its OP_DOWN on (R590, R591). -/
def State.opBegin (s : State) (x : GlobalOp) (m : OpMsg) (root : Bool) : State :=
  let items := match m.payload with | .items l => l | _ => []
  let y : GlobalOp := { x with
    opId := m.opId, kind := m.kind, scope := m.scope, issuer := m.issuer, root, begun := true
    parent := if root then -1 else s.var .upPort
    closeAt := (max m.at_ s.now) + s.getN .height * (20 * us)
    expected := s.downPorts, up := { members := 1 }, at_ := m.at_, items }
  let s := s.putOps (s.globalOps.erase x ++ [y])
  let s := { s with snapBufs := s.snapBufs.map (fun (b : SnapBuf) => if b.opId = 0 ∧ b.origin ∈ x.origins then { b with opId := m.opId } else b) }
  (s.opDown m).opAct m

/-- The root of its scope starts an initiated operation (R590, R594, R598). -/
def State.opRoot (s : State) (kind issuer : Nat) (payload : OpPayload) (origins : List Origin) : State :=
  let opId := 2 ^ 31 + s.varN .nextOp % 2 ^ 31
  let s := s.countV .nextOp 0
  let at_ := if kind = 3 then s.now + s.getN .height * us + 500 + 2 * us else 0
  s.opBegin { origins } { opId, kind, scope := s.getN .taddr, issuer, at_, payload } true

/-- The snapshot record a tray forms at T (Table 14.9, R598). -/
def State.snapRecord (s : State) (x : GlobalOp) : Status × List Fld :=
  let body := x.items.flatMap (fun m => itemFields (s.snapItem none m))
  if 4060 < 16 + recordLen body then (.snapshotTooLarge, [])
  else
    let res := [u64 x.at_, u32 x.items.length, rsv 4] ++ body
    (.ok, [u32 x.opId, u32 (s.getN .taddr), u64 (s.var .serial), u16 (s.get .rackId), u8 (if s.locked then 0 else 1), u8 s.timeState,
      u16 (recordLen res), rsv 2] ++ res)

/-- Snapshots whose capture instant has come are latched; the issuer keeps its own record (R598). -/
def State.latchSnaps (s : State) : State :=
  s.each (s.globalOps.filter (fun x => decide (x.kind = 3) && x.begun && x.own.isNone && decide (x.at_ ≤ s.now))) (fun s x =>
    let r := s.snapRecord x
    let s := s.setOp x { x with own := some r.1.code, record := r.2 }
    if x.origins.isEmpty ∨ r.2.isEmpty then s else s.snapStore x.opId (s.getN .taddr) r.2)

/-! ### Operation messages (R590–R596) -/

/-- What a START of an initiated operation asks for: its kind, scope and payload (Table 14.6). -/
def opOfBody : Body → Option (Nat × Nat × OpPayload)
  | .broadcast (.broadcast scope _ _) hdr inner => some (2, scope, .packet hdr inner)
  | .snapshotGlobal (.snapshot scope items) => some (3, scope, .items items)
  | .resetGlobal (.reset scope kind mask deadline) => some (4, scope, .reset kind mask deadline)
  | _ => none

/-- OP_START (R590, R594): at the scope root the operation begins; a 17th is dropped. -/
def execOpStart (t : Ns) (src _serial : Nat) (_hdr : Header) (body : Body) (s : State) : Out :=
  let s := s.tick t
  .next (match opOfBody body with
    | some (kind, scope, payload) =>
      if scope ≠ s.getN .taddr ∨ s.get .depth = 255 ∨ 16 ≤ s.globalOps.length then s
      else s.opRoot kind src payload []
    | none => s)

/-- OP_DOWN (R590, R596): of an operation not held, its down half; of one held, its release. -/
def State.takeOpDown (s : State) (p : Nat) (m : OpMsg) : State :=
  if s.var .upPort ≠ p ∨ s.get .depth = 255 then s
  else match s.globalOps.find? (fun x => decide (x.opId = m.opId)) with
    | some x =>
      let s := s.opDown m
      if !x.begun then { s.dropOp x with opsPassed := (m.opId :: s.opsPassed).take 16 }
      else if !x.closed then (s.dropOp x).opComplete x .ratPartial (s.upHalf x)
      else s.opFinish x m.verdict m
    | none =>
      if m.kind ≤ 1 then { s.opDown m with opsPassed := (m.opId :: s.opsPassed).take 16 }
      else match s.globalOps.find? (fun x => decide (x.opId = 0) && decide (x.kind = m.kind) && decide (x.scope = m.scope)
          && decide (m.issuer = s.getN .taddr)) with
        | some x => s.opBegin x m false
        | none => if 16 ≤ s.globalOps.length then s else s.opBegin {} m false

def execOpDown (t : Ns) (p : Fin 10) (m : OpMsg) (s : State) : Out := .next ((s.tick t).takeOpDown p.val m).settleOps

/-- OP_UP (R590, R595): a child's report is merged once; one that differs from the operation, that comes late, or that
would open a 17th operation is discarded. -/
def State.takeOpUp (s : State) (p : Nat) (m : OpMsg) : State :=
  if s.get .portRole p ≠ 3 then s
  else match s.globalOps.find? (fun x => decide (x.opId = m.opId)) with
    | some x =>
      if x.closed ∨ p ∈ x.heard ∨ x.kind ≠ m.kind ∨ x.scope ≠ m.scope ∨ x.reduceOp ≠ m.reduceOp then s
      else s.setOp x { x with heard := x.heard ++ [p], up := x.up.merge m }
    | none =>
      if 1 < m.kind ∨ 16 ≤ s.globalOps.length ∨ !inScope m.scope (s.getN .taddr) then s
      else s.putOps (s.globalOps ++ [({ opId := m.opId, kind := m.kind, reduceOp := m.reduceOp, scope := m.scope, heard := [p]
                                        up := OpMsg.merge { reduceOp := m.reduceOp } m } : GlobalOp)])

def execOpUp (t : Ns) (p : Fin 10) (m : OpMsg) (s : State) : Out := .next ((s.tick t).takeOpUp p.val m).settleOps

/-- OP_WAIT_CLOSE (R591, R598): snapshots due are latched, and waits that are over close, the lockstep round's too. -/
def execOpWaitClose (t : Ns) (s : State) : Out := .next (((s.tick t).latchSnaps).settleOps).lockClose

/-- SNAP_DATA (R598): a record for an operation this tray issued. -/
def execSnapData (t : Ns) (m : SnapData) (s : State) : Out :=
  let s := s.tick t
  let r : List Fld := [u32 m.opId, u32 m.taddr, u64 m.serial, u16 m.rackId, u8 (if m.unlocked then 1 else 0), u8 m.timeState,
    u16 m.result.length, rsv 2] ++ m.result.map (fun (b : Nat) => u8 b)
  let s := s.snapStore m.opId m.taddr r
  .next (match s.globalOps.find? (fun x => decide (x.opId = m.opId) && x.dataDue.isSome) with
    | some x => if x.up.members ≤ s.snapHeard x.opId then s.snapComplete x else s
    | none => s)

/-- SNAPSHOT_COLLECT_TIMEOUT (R598). -/
def execSnapshotCollectTimeout (t : Ns) (s : State) : Out :=
  let s := s.tick t
  .next (s.each (s.globalOps.filter (fun x => x.dataDue.any (fun d => decide (d ≤ s.now)))) State.snapComplete)

/-! ### Remote Gantline (R601, R602) -/

/-- A remote request ends at its origin, with what its result holds (Table 14.8, R597). -/
def State.remoteEnd (s : State) (r : RemoteOut) (st : Status) (packet : List Nat) : State :=
  let code := leValue ((packet.drop 6).take 2)
  let m : OpMsg := { opId := r.opId, scope := r.addr, members := if st = .ok then 1 else 0 }
  let m := if st = .ok && failedStatus code && !packet.isEmpty then m.fail r.addr code 1 else m
  let s := { s with remoteOuts := s.remoteOuts.erase r }
  let s := s.holdResult { session := r.origin.session, at_ := s.now, status := st.code, truncated := decide (4020 < packet.length)
                          msg := m, reply := packet.take 4020 }
  s.finish r.origin .globalOpDone st [m.members, m.firstMissing] []

/-- REMOTE_REPLY (R602): the oldest request it answers completes; one that was not delivered does so with the reply's
STATUS. -/
def execRemoteReply (t : Ns) (serial status : Nat) (packet : List Nat) (s : State) : Out :=
  let s := s.tick t
  let tag := leValue ((packet.drop 4).take 2)
  let queue := leValue ((packet.drop 8).take 2)
  .next (match s.remoteOuts.find? (fun r => (decide (r.serial = 0) || decide (serial = 0) || decide (r.serial = serial)) &&
      (packet.isEmpty || (decide (r.hdr.tag = tag) && decide (r.hdr.queue = queue)))) with
    | some r =>
      if status = Status.ratWrongTray.code then s.remoteEnd r .ratWrongTray []
      else if status = Status.ratUnreachable.code then s.remoteEnd r .ratUnreachable []
      else s.remoteEnd r .ok packet
    | none => s)

/-- A message that carries a Gantline packet: header, what stands before the packet, and the packet (Table 14.3). -/
def State.ratPacket (s : State) (p vc kind dst serial : Nat) (before : List Fld) (values : List Int) (h : Header) (body : Body) : State :=
  let b := recordBytes before ++ packetBytes h body.opcode
  s.ratOut p vc kind dst (.ratRequest p kind dst values h body) (ratHeader kind 1 b.length 0 (s.getN .taddr) dst serial ++ b)

/-- A REMOTE_REQUEST goes out (Table 14.3); without a route it is answered at once (R576). -/
def State.remoteSend (s : State) (r : RemoteOut) : State :=
  match s.treePort r.addr r.serial with
  | some p => s.ratPacket p 3 0x50 r.addr r.serial [u64 (s.var .serial), u32 (s.get .taddr), u32 r.attempt]
      [s.var .serial, s.get .taddr, r.attempt] r.hdr r.body
  | none =>
    let st := if s.treeRoute r.addr r.serial = .wrongTray then Status.ratWrongTray else .ratUnreachable
    { s with remoteOuts := s.remoteOuts.map (fun x => if x = r then { x with fail := some st, due := s.now } else x) }

/-- REMOTE_TIMEOUT_EXPIRY (R602). -/
def execRemoteTimeoutExpiry (t : Ns) (s : State) : Out :=
  let s := s.tick t
  .next (s.each (s.remoteOuts.filter (fun r => decide (r.due ≤ s.now))) (fun s r =>
    match r.fail with
    | some st => s.remoteEnd r st []
    | none =>
      if r.attempt = 1 then
        let r' : RemoteOut := { r with attempt := 2, due := s.now + s.getN .remoteTimeout * us }
        ({ s with remoteOuts := s.remoteOuts.map (fun x => if x = r then r' else x) }).remoteSend r'
      else (s.raise .ratRemoteLost oDevice [r.hdr.queue, r.hdr.tag, r.addr, r.serial]).remoteEnd r .ratOutcomeUnknown []))

/-! ### The opcodes of class 0x09 (R594–R599) -/

/-- RESULT (Table 14.8). -/
def State.opResult (s : State) (session id : Nat) : Res :=
  match s.opResults.find? (fun r => decide (r.session = session) && decide (r.msg.opId = id) && decide (s.now < r.at_ + 60 * sec)) with
  | some r =>
    let m := r.msg
    .done .ok ([u32 id, u16 r.status, u16 (if r.truncated then 1 else 0), u32 m.members, u32 m.missing, u32 m.firstMissing, u32 m.failed,
      u32 m.firstFailed, u16 m.firstStatus, u16 r.reply.length, u64 (if m.kind = 3 then (m.at_ : Int) else m.value)] ++ r.reply.map (fun (b : Nat) => u8 b))
  | none => .st .badParam

/-- The session results of a request are held under. -/
def State.sessionId (s : State) (a : Arrival) : Nat := match s.sessionAt a.binding with | some x => x.id | none => 0

/-- A START is refused outside the tree (R584) and outside its scope (R595). -/
def State.opBar (s : State) (scope : Nat) : Option Status :=
  if s.get .depth = 255 then some .ratNoTree else if !inScope scope (s.getN .taddr) then some .badParam else none

/-- START of a collective (R590, R591, R595, R596). -/
def State.collective (s : State) (o : Origin) (kind opId scope timeout rop : Nat) (value : Int) : State × Res :=
  if 2 ^ 31 ≤ opId ∨ timeout < 100 ∨ 60000000 < timeout ∨ timeout % 100 ≠ 0 ∨ 4 < rop then (s, .st .badParam)
  else match s.opBar scope with
    | some st => (s, .st st)
    | none =>
      if opId ∈ s.opsPassed then
        if 16 ≤ s.globalOps.length then (s, .st .ratOpsFull)
        else
          let x : GlobalOp := { opId, kind, reduceOp := rop, scope, timeout, origins := [o], begun := true, parent := 15, own := some 0
                                up := { members := 1, reduceOp := rop, value } }
          (State.putOps { s with opsPassed := s.opsPassed.erase opId } (s.globalOps ++ [x]), .accepted [])
      else
        let start (s : State) (x : GlobalOp) : State :=
          let root := decide (s.getN .taddr = scope)
          s.putOps (s.globalOps.erase x ++ [({ x with
            opId, kind, reduceOp := rop, scope, timeout, origins := x.origins ++ [o], root, begun := true
            parent := if root then -1 else s.var .upPort
            closeAt := s.now + timeout * us + s.getN .height * (20 * us)
            expected := s.downPorts, own := some 0
            up := OpMsg.merge { x.up with reduceOp := rop } { members := 1, value } } : GlobalOp)])
        match s.globalOps.find? (fun x => decide (x.opId = opId)) with
        | some x =>
          if x.kind ≠ kind ∨ x.scope ≠ scope ∨ x.reduceOp ≠ rop ∨ (x.begun ∧ x.timeout ≠ timeout) then (s, .st .ratOpMismatch)
          else if x.begun then (s.setOp x { x with origins := x.origins ++ [o] }, .accepted [])
          else (start s x, .accepted [])
        | none => if 16 ≤ s.globalOps.length then (s, .st .ratOpsFull) else (start s {}, .accepted [])

/-- START of an initiated operation (R590, R594): the scope root begins it, another issuer sends OP_START. -/
def State.initiated (s : State) (o : Origin) (a : Arrival) (kind scope : Nat) (payload : OpPayload) (body : Body) : State × Res :=
  match s.opBar scope with
  | some st => (s, .st st)
  | none =>
    if 16 ≤ s.globalOps.length then (s, .st .ratOpsFull)
    else if s.getN .taddr = scope then (s.opRoot kind scope payload [o], .accepted [])
    else
      let x : GlobalOp := { kind, scope, origins := [o], issuer := s.getN .taddr, parent := s.var .upPort }
      let s := s.putOps (s.globalOps ++ [x])
      match s.treePort scope 0 with
      | some p => (s.ratPacket p 0 0x42 scope 0 [u64 (s.var .serial)] [s.var .serial] a.hdr body, .accepted [])
      | none => (s, .accepted [])

/-- BARRIER (R594, R596). -/
def doBarrier (a : Arrival) (x : OpParams) (s : State) : State × Res :=
  match a.hdr.property, x with
  | 0, .barrier opId scope timeout => s.collective (s.originOf a .barrier) 0 opId scope timeout 0 0
  | 1, .opId id => (s, s.opResult (s.sessionId a) id)
  | _, _ => (s, .st .badParam)

def execBarrier (a : Arrival) (x : OpParams) (s : State) : Out := .next (s.request a (.barrier x) (doBarrier a x))

/-- REDUCE (R594, R596). -/
def doReduce (a : Arrival) (x : OpParams) (s : State) : State × Res :=
  match a.hdr.property, x with
  | 0, .reduce opId scope timeout op value => s.collective (s.originOf a .reduce) 1 opId scope timeout op value
  | 1, .opId id => (s, s.opResult (s.sessionId a) id)
  | _, _ => (s, .st .badParam)

def execReduce (a : Arrival) (x : OpParams) (s : State) : Out := .next (s.request a (.reduce x) (doReduce a x))

/-- BROADCAST (R597, R602): TARGET 0 is a remote request to SCOPE, TARGET 1 an operation over it. -/
def doBroadcast (a : Arrival) (x : OpParams) (hdr : Header) (inner : Body) (s : State) : State × Res :=
  let o := s.originOf a .broadcast
  match a.hdr.property, x with
  | 0, .broadcast scope target serial =>
    if 1 < target ∨ hdr.packetLen < 36 ∨ 4000 < hdr.packetLen then (s, .st .badParam)
    else if target = 1 then s.initiated o a 2 scope (.packet hdr inner) (.broadcast x hdr inner)
    else if s.get .depth = 255 then (s, .st .ratNoTree)
    else if 64 ≤ s.remoteOuts.length then (s, .st .busy)
    else
      let r : RemoteOut := { origin := o, opId := 2 ^ 31 + s.varN .nextOp % 2 ^ 31, addr := scope, serial
                             due := s.now + s.getN .remoteTimeout * us, hdr, body := inner }
      ((State.countV { s with remoteOuts := s.remoteOuts ++ [r] } .nextOp 0).remoteSend r, .accepted [])
  | 1, .opId id => (s, s.opResult (s.sessionId a) id)
  | _, _ => (s, .st .badParam)

def execBroadcast (a : Arrival) (x : OpParams) (hdr : Header) (inner : Body) (s : State) : Out :=
  .next (s.request a (.broadcast x hdr inner) (doBroadcast a x hdr inner))

/-- READ of SNAPSHOT_GLOBAL (R598): whole records from the first named, as many as fit. -/
def snapRead (b : SnapBuf) (first : Nat) : List Fld :=
  let l := (b.records.drop first).foldl (fun (acc : List (List Fld) × Nat × Bool) r =>
    let n := recordLen r
    if acc.2.2 && decide (acc.2.1 + n ≤ 4060) then (acc.1 ++ [r], acc.2.1 + n, true) else (acc.1, acc.2.1, false)) ([], 8, true)
  [u32 l.1.length, u32 b.records.length] ++ l.1.flatten

/-- SNAPSHOT_GLOBAL (R594, R598). -/
def doSnapshotGlobal (a : Arrival) (x : OpParams) (s : State) : State × Res :=
  let o := s.originOf a .snapshotGlobal
  let id := s.sessionId a
  let buf (n : Nat) : Option SnapBuf := s.snapBufs.find? (fun b => decide (b.session = id) && decide (b.opId = n) && decide (n ≠ 0))
  match a.hdr.property, x with
  | 0, .snapshot scope items =>
    if items.isEmpty ∨ 32 < items.length then (s, .st .badParam)
    else if 4 ≤ (s.snapBufs.filter (fun b => decide (b.session = id))).length then (s, .st .ratOpsFull)
    else
      let r := State.initiated { s with snapBufs := s.snapBufs ++ [({ session := id, origin := o } : SnapBuf)] } o a 3 scope (.items items)
        (.snapshotGlobal x)
      match r.2 with
      | .accepted _ => r
      | _ => (s, r.2)
  | 1, .opId n => (s, s.opResult id n)
  | 2, .read n first => match buf n with | some b => (s, .done .ok (snapRead b first)) | none => (s, .st .badParam)
  | 3, .opId n => match buf n with
    | some b => ({ s with snapBufs := s.snapBufs.erase b }, .st .ok)
    | none => (s, .st .badParam)
  | _, _ => (s, .st .badParam)

def execSnapshotGlobal (a : Arrival) (x : OpParams) (s : State) : Out := .next (s.request a (.snapshotGlobal x) (doSnapshotGlobal a x))

/-- RESET_GLOBAL (R594, R599). -/
def doResetGlobal (a : Arrival) (x : OpParams) (s : State) : State × Res :=
  match a.hdr.property, x with
  | 0, .reset scope kind mask deadline =>
    if 2 < kind ∨ 256 ≤ mask ∨ (deadline ≠ 0 ∧ (deadline < 100 ∨ 60000 < deadline ∨ deadline % 100 ≠ 0)) then (s, .st .badParam)
    else s.initiated (s.originOf a .resetGlobal) a 4 scope (.reset kind mask deadline) (.resetGlobal x)
  | 1, .opId id => (s, s.opResult (s.sessionId a) id)
  | _, _ => (s, .st .badParam)

def execResetGlobal (a : Arrival) (x : OpParams) (s : State) : Out := .next (s.request a (.resetGlobal x) (doResetGlobal a x))

/-- PORT_STATE_TIMEOUT (R200, Table 5.4): a port misses a bound, or has no signal, and goes to DOWN. -/
def execPortStateTimeout (t : Ns) (port : FlitPort) (noSignal : Bool) (s : State) : Out :=
  let s := s.tick t
  let p := port.key
  let st := (s.link p).state
  .next (if s.linkLate p ∨ (noSignal ∧ st ≠ lkDown) then s.moveLink p lkDown else s)

end Sys2Proof.Machine
end

