-- ==== Sys2Proof/Machine/Props.lean ====
section
/-! DEFINITION. SET_PROP (R137): every writable property, those with a row of their own among them, and what the ranges that
follow other registers are (R771). -/

namespace Sys2Proof.Machine

/-- A value the range of a write depends on another register for keeps to it (Tables 3.22, 6.11, 8.12, 12.13, 13.15, R449). Where
the range of one property of a pair names the other, a write of either keeps the relation. -/
def State.rangeStatus (s : State) (p : P) (i : Nat) (v : Int) : Status :=
  let bad (b : Bool) : Status := if b then .ok else .badParam
  let thermal (reef furl trip hyst : Int) : Status := bad
    (decide (reef + hyst ≤ furl) && decide (furl + hyst ≤ trip) &&
      (decide (72 ≤ i) || (decide (60000 ≤ reef ∧ reef ≤ 100000) && decide (80000 ≤ furl ∧ furl ≤ 108000) && decide (100000 ≤ trip ∧ trip ≤ 118000))))
  match p with
  | .arbWeights => bad ([0, 8, 16].all (fun k => let w := v.toNat / 2 ^ k % 256; decide (1 ≤ w ∧ w ≤ 64)) && decide (v < 2 ^ 24))
  | .mainGoodV => bad (decide (s.get .mainLostV < v))
  | .mainLostV => bad (decide (v < s.get .mainGoodV))
  | .pMin => bad (decide (v < s.get .pMax i))
  | .pMax => bad (decide (s.get .pMin i < v))
  | .flowFloor => bad (decide (v ≤ s.get .branchMax i))
  | .installFallback => if i ≠ nodeRack then .propUnknown else bad (decide (v ≤ s.get .limit nodeRack))
  | .reefT => thermal v (s.get .furlT i) (s.get .tripT i) (s.get .hyst i)
  | .furlT => thermal (s.get .reefT i) v (s.get .tripT i) (s.get .hyst i)
  | .tripT => thermal (s.get .reefT i) (s.get .furlT i) v (s.get .hyst i)
  | .hyst => thermal (s.get .reefT i) (s.get .furlT i) (s.get .tripT i) v
  | .burinSvnFloor => bad (decide (s.get .burinSvnFloor i ≤ v))
  | .activeTable => if scopes.all (fun x => decide (s.scope x = 0)) then .ok else .busy
  | _ => .ok

/-- A running span ends as much earlier or later as its property's new value says. -/
def State.retime (s : State) (x : T) (i : Nat) (by_ : Int) : State :=
  match s.timer x i with
  | some d => s.setT x i (some ((d : Int) + by_).toNat)
  | none => s

/-- The timers that measure a property's span: timer, indices and unit. -/
def State.spansOf (s : State) : P → List (T × List Nat × Ns)
  | .startWait => [(.startWait, scopes, sec)]
  | .dischargeTimeout => [(.discharge, scopes, ms)]
  | .foreLossGrace => [(.foreGrace, [0], sec)]
  | .heartbeatTimeout => [(.heartbeat, List.range 9, us)]
  | .accelLossTime => [(.accelLoss, List.range 8, us)]
  | .silentFurlDelay => [(.silentFurl, List.range 8, ms)]
  | .alertNolinkDelay => [(.alertFurl, List.range 8, us)]
  | .relayLossTime => [(.relayLoss, List.range 16, us)]
  | .fastStage2 => [(.fastStage2, [0], us)]
  | .fastFurlTime => [(.fastFurl, [0], us)]
  | .rackHold => [(.rackHold, [0, 1], us)]
  | .leakConfirm => [(.leakConfirm, List.range 8, ms)]
  | .leakEscalate => [(.leakEscalate, List.range 8, sec)]
  | .leakDryTime => [(.leakDry, List.range 8, sec)]
  | .leakCutTime => [(.leakCut, [0], ms)]
  | .hostSilence => [(.hostSilence, [0], sec)]
  | .runOn => [(.runOn, [0], sec)]
  | .stepTimeout => [(.stepTimeout, [0], sec)]
  | .armLimit => [(.armLimit, s.armedPoints, sec)]
  | .calPeriod => [(.calPeriod, [0], sec)]
  | .ecHoldLimit => [(.ecHold, [0, 1, 2], ms)]
  | .voteWindow => [(.voteDisagree, (s.timers.get {} T.voteDisagree.ctorIdx).entries.map (·.1), us)]
  | _ => []

/-- A property with no effect of its own takes its value; spans that run are measured against the new value from the commit on,
but for the acknowledge timeouts, whose waiting requests keep the old one (R60), and SESSION_TIMEOUT (R138). An escalation that is
set to never does not run on. -/
def setPlain (p : P) (v : Int) (i : Nat) (s : State) : State × Res :=
  match s.rangeStatus p i v with
  | .ok =>
    let old := s.get p i
    let s := match p with
      | .crossingTimeout => s.keepLimit (2 * i) old
      | .stitchTimeout => s.keepLimit (2 * i + 1) old
      | _ => s
    let s := s.each (s.spansOf p) (fun (s : State) (x : T × List Nat × Ns) =>
      s.each x.2.1 (fun s k =>
        if p = .leakEscalate ∧ v = 0 then s.disarm x.1 k else s.retime x.1 k ((v - old) * x.2.2)))
    (s.put p i v, .st .ok)
  | st => (s, .st st)

/-- What a write of a property does once R137 accepts the value: its own row's effect where it has one. -/
def setEffect (a : Arrival) (o : Origin) (p : P) (v : Int) : Nat → State → State × Res :=
  match p with
  | .powerState => setPowerState o v
  | .paceMin => setPaceMin v
  | .commonTime => setCommonTime v
  | .adminState => setAdminState v
  | .leader => setLeader o v
  | .thresholds => setThresholds v
  | .admin => setLegAdmin a.hdr.force v
  | .setpoint => setSetpoint v
  | .rackOther => setRackOther v
  | .trainTile => setTrainTile v
  | .fcSvnFloor => setFcSvnFloor v
  | .autostart => setAutostart v
  | .srcConfig => setSrcConfig v
  | .srcStatus => setSrcStatus v
  | .softPend => setSoftPend a.hdr.force v
  | .ecHold => setEcHold v
  | .portAdmin => setPortAdmin v
  | .mastPriority => setMastPriority v
  | .stippleInterval => setStippleInterval v
  | .logCursor => setLogCursor o.session v
  | p => setPlain p v

/-- SET_PROP (R137). -/
def doSetProp (a : Arrival) (len : Nat) (v : Int) (s : State) : State × Res :=
  match findProp a.hdr.object a.hdr.property with
  | none => (s, .st .propUnknown)
  | some p =>
    match writeStatus a p len v with
    | .ok => setEffect a (s.originOf a .setProp) p v (propIndex a.hdr.object p a.hdr.property) s
    | st => (s, .st st)

/-- SET_PROP (R137); a planned handover or an update that the write lets go on does. -/
def execSetProp (a : Arrival) (len : Nat) (value : Int) (s : State) : Out :=
  settled (.next (s.request a (.setProp len value) (doSetProp a len value)).settleHandovers)

end Sys2Proof.Machine
end

