-- ==== Sys2Proof/Machine/Secure.lean ====
section
/-! DEFINITION. Key slots, attestation, and authenticated Ethernet sessions (R665, R681–R687). REVOKE_KEY stands with the
rolling restart it drives. -/

namespace Sys2Proof.Machine

/-! ### Key slots (R664, R665, R686) -/

/-- KEY_SLOT_PROGRAM (R665): in TEST_MODE, where the ROM serves JTAG alone, slots 4 and 5 can be written once each; with
DUAL_SIGN blown KEY_ML is written with KEY_EC. -/
def execKeySlotProgram (t : Ns) (slot : Fin 6) (ec ml : Nat) (s : State) : Out :=
  let s := s.tick t
  let i := slot.val
  .next (if s.flag .testMode ∧ s.var .tilePhase 0 = 1 ∧ 4 ≤ i ∧ s.keyEc i = 0 ∧ ec % 2 ^ 384 ≠ 0 ∧ (!s.flag .dualSign ∨ ml % 2 ^ 384 ≠ 0)
    then (s.setV .keyEcFuse i (ec % 2 ^ 384 : Nat)).setV .keyMlFuse i (ml % 2 ^ 384 : Nat)
    else s)

/-- READ_KEYS (Table 17.11). -/
def doReadKeys (a : Arrival) (s : State) : State × Res :=
  if objCls a.hdr.object ≠ 0xFF then (s, .st .badParam)
  else
    let slot (i : Nat) : List Fld := [u8 (s.keyState i), rsv 3, ⟨48, s.keyEc i⟩]
    (s, .done .ok ((List.range 6).flatMap slot ++ [u16 (s.get .svnFloor), u8 (if s.flag .dualSign then 1 else 0), rsv 1]))

def execReadKeys (a : Arrival) (s : State) : Out := .next (s.request a .readKeys (doReadKeys a))

/-! ### Attestation (R681) -/

/-- FLAGS of a tile (R671, Table 17.8): DEBUG_SEEN, RECOVERY, trial boot. -/
def bootFlagsOf (info : Nat) : Nat := info / 2 ^ 10 % 2 + (if info / 2 ^ 16 % 4 = 2 then 2 else 0) + info / 2 ^ 11 % 2 * 4

/-- Evidence (Table 17.8). -/
def State.evidence (s : State) (t nonce : Nat) : List Fld × State :=
  let info := s.getN .bootInfo t
  let (sig, s) := s.draw
  let (none_, s) : Int × State := if s.td.isSome then (0, s) else s.draw
  let td : Int := match s.td, s.tdCopyAt (s.varN .tdCopy) with
    | some _, some c => c.digest
    | _, _ => none_ % 2 ^ 384
  ([u8 t, u8 (info / 2 ^ 16 % 4 : Nat), u8 (info / 2 ^ 12 % 16 : Nat), u8 (bootFlagsOf info), u16 (s.get .bootSvn t), u16 (s.get .svnFloor),
    ⟨48, s.get .bootDigest t⟩, ⟨48, td⟩, ⟨48, nonce⟩, u64 s.journal.committed, u64 s.now, u32 (s.var .bootVersion t), rsv 4, ⟨96, sig % 2 ^ 768⟩], s)

/-- A tile's certificate (R669, R673). -/
def State.certificate (s : State) (t index : Nat) : List Nat :=
  Config.certificate t index (s.getN .bootSvn t) (s.getN .bootDigest t) (bootFlagsOf (s.getN .bootInfo t))

/-- ATTEST (R681). -/
def doAttest (a : Arrival) (tile index offset : Nat) (nonce : List Nat) (s : State) : State × Res :=
  if objCls a.hdr.object ≠ 0xFF ∨ 2 < tile then (s, .st .badParam)
  else if !s.inService tile then (s, .st .notPresent)
  else match a.hdr.property with
  | 0 =>
    if nonce.length ≠ 48 then (s, .st .badParam)
    else
      let x := s.evidence tile (leValue nonce)
      (x.2, .done .ok x.1)
  | 1 =>
    let c := s.certificate tile index
    if 1 < index then (s, .st .badParam)
    else if c.length < offset then (s, .st .secCertRange)
    else
      let l := (c.drop offset).take 4052
      (s, .done .ok ([u32 c.length, u32 l.length] ++ l.map (fun (b : Nat) => u8 b)))
  | _ => (s, .st .badParam)

def execAttest (a : Arrival) (tile index offset : Nat) (nonce : List Nat) (s : State) : Out :=
  .next (s.request a (.attest tile index offset nonce) (doAttest a tile index offset nonce))

/-! ### Ethernet sessions (R682–R685) -/

/-- Gantline is served on an Ethernet port: its tile is in service, and a tray description gives operator keys (R677, R773). -/
def State.ethServed (s : State) (p : Nat) : Bool :=
  s.flag .serving && s.inService p && s.td.isSome && s.featuresUp.testBit (featureBit .ethernet)

/-- A signature or tag fails: EV_ETH_AUTH_FAIL at most once a second for a port. -/
def State.authFail (s : State) (p stage : Nat) : State :=
  let i := 0x3000 + p
  if s.var .eventAt i < 0 ∨ s.var .eventAt i + sec ≤ s.now then
    (s.setV .eventAt i s.now).raise .ethAuthFail (oHostPort (4 + p)) [p, stage, s.get .authFailures (4 + p)]
  else s

/-- Sessions open on a port. -/
def State.ethCount (s : State) (p : Nat) : Nat := (s.ethSessions.filter (fun x => x.port = p)).length

/-- ETH_INIT (R683, R685): a handshake opens, and RESPONSE goes out (Tables 17.9, 17.10); its key, its nonce and its signature are random
or signed, and free. A malformed record
(`good`), one for another UDP port, a ninth handshake and a seventeenth session are discarded. -/
def execEthInit (t : Ns) (port : Fin 2) (udp : Nat) (good : Bool) (operator : Nat) (s : State) : Out :=
  let s := s.tick t
  let p := port.val
  .next (if !s.ethServed p ∨ !good ∨ udp ≠ s.getN .udpPort ∨ 7 < operator ∨ 8 ≤ s.ethShakes.length ∨ 16 ≤ s.ethCount p then s
    else
      let s := s.countV .ethNext 0
      let n := s.varN .ethNext
      let s : State := { s with ethShakes := s.ethShakes ++ [{ port := p, session := n, operator, due := s.now + sec }] }
      let (q, s) := s.drawRandom
      let (r, s) := s.drawRandom
      let (sig, s) := s.draw
      let chain := s.certificate p 1 ++ s.certificate p 0
      let body := recordBytes [u8 4, ⟨96, q % 2 ^ 768⟩, rsv 3, ⟨32, r % 2 ^ 256⟩, u16 chain.length, rsv 2] ++ chain ++ recordBytes [⟨96, sig % 2 ^ 768⟩]
      s.send (.eth p 2 ((ethHeader 2 body.length n 0 ++ body).map (fun (b : Nat) => (b : Int)))))

/-- ETH_FINISH (R684): `valid` says that the operator key verifies the signature. -/
def execEthFinish (t : Ns) (port : Fin 2) (session : Nat) (good valid : Bool) (s : State) : Out :=
  let s := s.tick t
  let p := port.val
  .next (match s.ethShakes.find? (fun x => x.port = p ∧ x.session = session ∧ s.now < x.due) with
    | some x =>
      if !good ∨ !s.ethServed p then s
      else
        let s : State := { s with ethShakes := s.ethShakes.erase x }
        if valid && s.td.any (fun (d : TrayDesc) => decide (x.operator ∈ d.operators)) then
          if 16 ≤ s.ethCount p then s
          else ({ s with ethSessions := s.ethSessions ++ [{ port := p, session, opened := s.now }] } : State).countEth
        else s.authFail p 0
    | none => s)

/-- A SEQ is new (R685): above the highest accepted, or one of the 128 below it that has not been accepted. -/
def EthSess.fresh (x : EthSess) (seq : Nat) : Bool :=
  let d : Int := x.high - seq
  if d < 0 then true else decide (1 ≤ d) && decide (d ≤ 128) && !x.seen.testBit (d.toNat - 1)

/-- A SEQ is accepted. -/
def EthSess.accept (x : EthSess) (seq : Nat) : EthSess :=
  let d : Int := x.high - seq
  let x := { x with got := x.got + 1 }
  if d < 0 then
    let k := (-d).toNat
    let old := if 128 < k then 0 else x.seen <<< k % 2 ^ 128
    { x with high := seq, seen := if 0 ≤ x.high ∧ k ≤ 128 then old ||| 2 ^ (k - 1) else old }
  else { x with seen := x.seen ||| 2 ^ (d.toNat - 1) }

/-- ETH_HANDSHAKE_EXPIRY (R685). -/
def execEthHandshakeExpiry (t : Ns) (port : Fin 2) (session : Nat) (s : State) : Out :=
  let s := s.tick t
  .next { s with ethShakes := s.ethShakes.filter (fun x => !(x.port = port.val && x.session = session && decide (x.due ≤ s.now))) }

/-- ETH_SESSION_EXPIRY (R685): 24 h, or 2^32 records in either direction. -/
def execEthSessionExpiry (t : Ns) (port : Fin 2) (session : Nat) (s : State) : Out :=
  let s := s.tick t
  .next (match s.ethAt port.val session with
    | some e => if e.opened + 86400 * sec ≤ s.now ∨ 2 ^ 32 ≤ e.got ∨ 2 ^ 32 ≤ e.sent then s.closeEth port session else s
    | none => s)

end Sys2Proof.Machine
end

