-- ==== Sys2Proof/Machine/Arbiter.lean ====
section
/-! DEFINITION. The arbiter (R125–R128): which waiting request is dispatched next, and what each request does; NEGOTIATE
(R223–R225). -/

namespace Sys2Proof.Machine

/-! ### NEGOTIATE -/

/-- NEGOTIATE (R119, R223–R225): a session, bound to the binding the request arrived on. -/
def doNegotiate (a : Arrival) (major _minor offer : Nat) (s : State) : State × Res :=
  if major ≠ 2 then (s, .st .incompatible)
  else if 32 ≤ s.sessions.length then (s, .st .sessionLimit)
  else
    let (r, s) := s.drawRandom
    let id := s.varN .nextSession
    let token := r % 2 ^ 64
    let word := offer &&& s.featuresUp
    let s : State := { s.setV .nextSession 0 (id + 1) with sessions := s.sessions ++ [({ id, token, features := word } : Session)] }
    let s := ((s.bind a.binding id).arm .sessionIdle id (s.getN .sessionTimeout * sec)).raise .sessionOpened oDevice
      [id, a.binding.cls.code, a.binding.port]
    (s, .done .ok ([u8 2, u8 0, rsv 2, u32 id, u64 token, u64 word, rsv 8] ++ s.capFields))

def execNegotiate (a : Arrival) (major minor offer : Nat) (s : State) : Out :=
  .next (s.request a (.negotiate major minor offer) (doNegotiate a major minor offer))

/-! ### Dispatch -/

/-- What an admitted request does when it is dispatched (R130). -/
def effectOf (a : Arrival) (b : Body) : State → State × Res :=
  match b with
  | .unknown _ | .malformed _ => fun s => (s, .st .badParam)
  | .getProp => doGetProp a
  | .setProp len value => doSetProp a len value
  | .getSnapshot items => doGetSnapshot a items
  | .watch id minUs delta maxUs => doWatch a id minUs delta maxUs
  | .negotiate major minor offer => doNegotiate a major minor offer
  | .hello id token => doHello a id token
  | .keepalive => doKeepalive a
  | .recall port queue tag => doRecall a port queue tag
  | .close => doClose a
  | .subscribe mask => doSubscribe a mask
  | .readEvents ack count => doReadEvents a ack count
  | .startSequence => doStartSequence a
  | .stopSequence => doStopSequence a
  | .enableRail => doEnableRail a
  | .disableRail => doDisableRail a
  | .furl deadline => doFurl a deadline
  | .loadSequence table generation entries => doLoadSequence a table generation entries
  | .readFirstFault start count => doReadFirstFault start count
  | .clearFirstFault => doClearFirstFault a
  | .setBudget limit => doSetBudget a limit
  | .setWeight weight => doSetWeight a weight
  | .setMinGrant minGrant => doSetMinGrant a minGrant
  | .readGrants => doReadGrants a
  | .reef level duration => doReef a level duration
  | .releaseReef => doReleaseReef a
  | .loadModel x => doLoadModel a x
  | .activateModel mask => doActivateModel a mask
  | .retireModel => doRetireModel a
  | .queryForecast => doQueryForecast a
  | .setTraining mode persist lr drift under margin interval sample => doSetTraining a mode persist lr drift under margin interval sample
  | .readModelStats => doReadModelStats a
  | .joinGroup mask grid => doJoinGroup a mask grid
  | .leaveGroup mask => doLeaveGroup a mask
  | .readGroup => doReadGroup a
  | .loadPhasePlan entries => doLoadPhasePlan a entries
  | .clearPhasePlan kind key => doClearPhasePlan a kind key
  | .readPhasePlan first count => doReadPhasePlan a first count
  | .barrier x => doBarrier a x
  | .broadcast x hdr inner => doBroadcast a x hdr inner
  | .reduce x => doReduce a x
  | .snapshotGlobal x => doSnapshotGlobal a x
  | .resetGlobal x => doResetGlobal a x
  | .loadProgram x => doLoadProgram a x
  | .startProgram => doStartProgram a
  | .stopProgram => doStopProgram a
  | .readEngine => doReadEngine a
  | .raiseEvent len payload => doRaiseEvent a len payload
  | .setFan mode value => doSetDrive a 7 mode value
  | .setPump mode value => doSetDrive a 8 mode value
  | .setValve mode value => doSetValve a mode value
  | .isolateLeak action => doIsolateLeak a action
  | .resetLeakZone => doResetLeakZone a
  | .loadFanTable inputs points thermals curve => doLoadFanTable a inputs points thermals curve
  | .setWaterMode mode target weight => doSetWaterMode a mode target weight
  | .attest tile index offset nonce => doAttest a tile index offset nonce
  | .revokeKey => doRevokeKey a
  | .readKeys => doReadKeys a
  | .openStage total resume => doOpenStage a total resume
  | .writeStage offset bytes => doWriteStage a offset bytes
  | .verifyStage => doVerifyStage a
  | .planUpdate => doPlanUpdate a
  | .etch => doEtch a
  | .activate stop => doActivate a stop
  | .confirm => doConfirm a
  | .readPlates => doReadPlates a
  | .busTransfer retries segs => doBusTransfer a retries segs
  | .busRecover => doBusRecover a
  | .configureBus block => doConfigureBus a block
  | .pmbusRead addr page code => doPmbusRead a addr page code
  | .pmbusWrite addr page code value => doPmbusWrite a addr page code value
  | .triggerRecorder post => doTriggerRecorder a post
  | .freezeRecorder => doFreezeRecorder a
  | .releaseRecorder => doReleaseRecorder a
  | .exportRecorder path content id first last taddr serial bufs => doExportRecorder a path content id first last taddr serial bufs
  | .readStipple start section_ count => doReadStipple a start section_ count
  | .inject p => doInject a p
  | .selftest test arg => doSelftest a test arg
  | .calibrate cal => doCalibrate a cal
  | .setMaintenance on duration => doSetMaintenance a on duration

/-- The cost of a request in units (R127). -/
def Waiting.cost (w : Waiting) : Nat := (w.arr.hdr.packetLen + 255) / 256

/-- The queue a request waits in. -/
def Waiting.queue (w : Waiting) : Binding × Nat := (w.arr.binding, w.arr.queue)

/-- The heads of a class's queues, oldest first. A queue whose head waits for a commit has none (log entry 237). -/
def State.headsOf (s : State) (c : CmdClass) : List Waiting :=
  let l := s.waiting.filter (fun w => w.cls = c)
  (l.filter (fun w => decide (l.find? (fun x => x.queue = w.queue) = some w))).filter (fun w =>
    !(w.body.op.any (fun op => s.mustWait op w.arr.hdr.safety)))

/-- The request at the head of a class's next queue: round robin among the queues, one request a visit (R125, R127). A queue that
has not been visited comes before one that has; of those visited, the one whose visit is oldest. -/
def State.nextOf (s : State) (c : CmdClass) : Option Waiting :=
  let l := s.headsOf c
  let visited (q : Binding × Nat) : Bool := s.served.any (fun x => x.1 = c && x.2 = q)
  match l.find? (fun w => !visited w.queue) with
  | some w => some w
  | none => (s.served.filter (fun x => x.1 = c)).findSome? (fun x => l.find? (fun w => w.queue = x.2))

/-- A waiting request is dispatched. -/
def State.dispatch (s : State) (w : Waiting) : State :=
  let k := (w.cls, w.queue)
  let s : State := { s with waiting := s.waiting.erase w, served := s.served.filter (fun x => x ≠ k) ++ [k] }
  match w.body.op with
  | some op => s.run w.arr w.body (s.originOf w.arr op) (effectOf w.arr w.body)
  | none => s

/-- Dispatch SAFETY requests while there are any. -/
def State.dispatchSafety (s : State) : Nat → State
  | 0 => s
  | n + 1 =>
    if s.dispatchHeld then s
    else match s.nextOf .safety with
      | some w => (s.dispatch w).dispatchSafety n
      | none => s

/-- The oldest request that has waited for the AGE_CAP of its admission (R127, R138). -/
def State.agedHead (s : State) : Option Waiting :=
  s.waiting.find? (fun w => decide (w.cls ≠ .safety) && decide (w.since + w.cap * us ≤ s.now)
    && !(w.body.op.any (fun op => s.mustWait op w.arr.hdr.safety)))

/-- Dispatch aged requests, SAFETY ones before each. -/
def State.dispatchAged (s : State) : Nat → State
  | 0 => s
  | n + 1 =>
    if s.dispatchHeld then s
    else match s.agedHead with
      | some w => ((s.dispatch w).dispatchSafety s.waiting.length).dispatchAged n
      | none => s

/-- A class's weight (Table 3.22), as it was at the admission of the request at the head of its next queue (R138). -/
def State.weightOf (s : State) (k : Nat) (c : CmdClass) : Nat :=
  (match s.nextOf c with | some w => w.weights | none => s.getN .arbWeights) / 2 ^ (24 - 8 * k) % 256

/-- Dispatch from one class while its deficit lasts. -/
def State.dispatchClass (s : State) (k : Nat) (c : CmdClass) : Nat → State
  | 0 => s
  | n + 1 =>
    if s.dispatchHeld then s
    else match s.nextOf c with
      | some w =>
        if w.cost ≤ s.varN .deficit k then
          (((s.setV .deficit k (s.varN .deficit k - w.cost : Nat)).dispatch w).dispatchSafety s.waiting.length).dispatchClass k c n
        else s
      | none => s

/-- One class's turn in the round. -/
def State.classTurn (s : State) (k : Nat) (c : CmdClass) : State :=
  if s.waiting.any (fun w => w.cls = c) then
    (s.setV .deficit k (s.varN .deficit k + 4 * s.weightOf k c : Nat)).dispatchClass k c s.waiting.length
  else s.setV .deficit k 0

end Sys2Proof.Machine
end

