-- ==== Sys2Proof/Machine/Target.lean ====
section
/-! DEFINITION. The target ports: MCTP and the byte window (R116, R621, R624–R628). -/

namespace Sys2Proof.Machine

def State.win (s : State) (k : Nat) : WinSt := s.windows.get {} k
def State.modWin (s : State) (k : Nat) (f : WinSt → WinSt) : State := { s with windows := s.windows.put {} k (f (s.win k)) }

/-- A target port answers its addresses: its tile is in service (R628). In DEEP_SLEEP an address match is the wake trigger
(R42), which WAKE_TRIGGER carries out. -/
def State.answers (s : State) (k : Nat) : Bool := s.inService k && s.flag .serving

/-! ### MCTP (R116, R624) -/

/-- MCTP_SEND_RETRY (R624): a packet whose address was NACKed is sent again 1 ms later, up to three times; then the rest of
the message is discarded. -/
def execMctpSendRetry (t : Ns) (k : Fin 2) (acked : Bool) (s : State) : Out :=
  let s := s.tick t
  let i := k.val
  let n := (s.win i).retries
  .next (if !s.answers i ∨ (n ≠ 0 ∧ !s.due .mctpRetry i) then s
    else
      let s := s.send (.bus (32 + i) 2 [(s.win i).peer, (n + 1 : Nat)])
      if acked ∨ n = 2 then (s.modWin i (fun w => { w with retries := 0 })).disarm .mctpRetry i
      else (s.modWin i (fun w => { w with retries := n + 1 })).arm .mctpRetry i ms)

/-- The MCTP bindings: target ports 0–1, VDM endpoints 2–3. -/
def mctpBinding (m : Fin 4) : Binding :=
  if m.val = 0 then .smbus 0 else if m.val = 1 then .smbus 1 else if m.val = 2 then .vdm 0 else .vdm 1

/-- A control command is answered. The numbers are those of the MCTP base specification. -/
def State.mctpAnswer (s : State) (m : Fin 4) (code : Nat) (fields : List Int) : State :=
  if s.inService (mctpBinding m).tile ∧ s.flag .serving then s.send (.mctp (mctpBinding m) code fields) else s

/-- MCTP_SET_ENDPOINT_ID: operations 0 (set) and 1 (force) take an ID of 8 to 254. -/
def execMctpSetEndpointId (t : Ns) (m : Fin 4) (op : Fin 4) (eid : Nat) (s : State) : Out :=
  let s := s.tick t
  .next (if s.inService (mctpBinding m).tile ∧ s.flag .serving ∧ op.val < 2 ∧ 8 ≤ eid ∧ eid < 255 then
      (s.setV .mctpEid m.val eid).mctpAnswer m 1 [0, 0, eid, 0]
    else s.mctpAnswer m 1 [2])

def execMctpGetEndpointId (t : Ns) (m : Fin 4) (s : State) : Out :=
  let s := s.tick t
  .next (s.mctpAnswer m 2 [0, s.var .mctpEid m.val, 0, 0])

/-- MCTP_GET_VERSION_SUPPORT: the versions are not the manual's. -/
def execMctpGetVersionSupport (t : Ns) (m : Fin 4) (type : Nat) (s : State) : Out :=
  let s := s.tick t
  .next (if type = 0 ∨ type = 0x7E ∨ type = 0xFF then
      let (v, s) := s.draw
      s.mctpAnswer m 4 [0, 1, v % 2 ^ 32]
    else s.mctpAnswer m 4 [0x80])

def execMctpGetMessageTypeSupport (t : Ns) (m : Fin 4) (s : State) : Out :=
  let s := s.tick t
  .next (s.mctpAnswer m 5 [0, 1, 0x7E])

/-- MCTP_GET_VENDOR_MESSAGE_SUPPORT: one vendor, by its PCI ID. -/
def execMctpGetVendorMessageSupport (t : Ns) (m : Fin 4) (selector : Nat) (s : State) : Out :=
  let s := s.tick t
  .next (if selector = 0 then
      let (v, s) := s.draw
      s.mctpAnswer m 6 [0, 0xFF, 0, Config.pciVendor % 65536, v % 65536]
    else s.mctpAnswer m 6 [2])

/-! ### The byte window (R625–R627) -/

/-- The window takes bytes at MBX_CONTROL and in REQUEST alone (Table 15.6). -/
def winWritable (a : Nat) : Bool := (decide (0x40 ≤ a) && decide (a ≤ 0x43)) || (decide (0x1000 ≤ a) && decide (a ≤ 0x1FFF))

/-- How many bytes of a write are acknowledged, from an address on and within its page. -/
def winAcked (page a : Nat) : List Nat → Nat
  | [] => 0
  | _ :: rest => if a / 64 = page ∧ winWritable a then 1 + winAcked page (a + 1) rest else 0

/-- Acknowledged bytes are committed; MBX_CONTROL holds nothing, its writes are MBX_SUBMIT and MBX_FREE. -/
def storeWin (tab : Tab Nat) (a : Nat) : List Nat → Tab Nat
  | [] => tab
  | b :: rest => storeWin (if 0x1000 ≤ a ∧ a ≤ 0x1FFF then tab.put 0 (a - 0x1000) (b % 256) else tab) (a + 1) rest

/-- The pointer is set, and TIME latched. -/
def State.setPtr (s : State) (k a : Nat) : State := s.modWin k (fun w => { w with ptr := a % 65536, time := s.now })

/-- WINDOW_PEC. -/
def State.windowPec (s : State) (k : Nat) : Bool := decide (s.busField (32 + k) 2 1 = 1)

/-- WINDOW_WRITE (R625, R626): `ptr` is set where both its bytes were acknowledged; `pec` says that the PEC is right, where
WINDOW_PEC asks for one. -/
def execWindowWrite (t : Ns) (k : Fin 2) (ptr : Option (Fin 65536)) (data : List Nat) (pec : Bool) (s : State) : Out :=
  let s := s.tick t
  let i := k.val
  .next (match s.answers i, ptr with
    | true, some a =>
      let a := a.val
      let n := winAcked (a / 64) a data
      let s := (s.setPtr i a).modWin i (fun w => { w with ptr := (a + n) % 65536 })
      let s := if n < data.length ∧ (a + n) / 64 ≠ a / 64 then
          s.busEvent 2 (32 + i) .busWindow [32 + i, 1, ((a + n) % 65536 : Nat), (data.length - n : Nat)] else s
      if s.windowPec i ∧ !pec then
        (s.count .pecErrors (32 + i)).busEvent 2 (32 + i) .busWindow [32 + i, 0, a, n]
      else s.modWin i (fun w => { w with request := storeWin w.request a (data.take n) })
    | _, _ => s)

/-- STATUS (Table 15.6). -/
def State.winStatus (s : State) : Nat :=
  (if s.inService 0 then 1 else 0) + (if s.get .powerState = 3 then 2 else 0) + (if s.get .powerState = 4 then 4 else 0)
    + (if s.get .firstFaultLatched = 1 then 8 else 0) + (if s.anyWet then 16 else 0)

/-- The byte of the window at an address (Table 15.6). -/
def State.winByte (s : State) (k a : Nat) : Nat :=
  let w := s.win k
  let le (v off : Nat) : Nat := v / 256 ^ off % 256
  if a ≤ 0x0F then le (0x4E57544B + 2 ^ 32 + k * 2 ^ 48 + s.getN .powerState % 256 * 2 ^ 56 + s.varN .serial * 2 ^ 64) a
  else if 0x10 ≤ a ∧ a ≤ 0x13 then le s.winStatus (a - 0x10)
  else if 0x18 ≤ a ∧ a ≤ 0x1F then le w.time (a - 0x18)
  else if 0x44 ≤ a ∧ a ≤ 0x47 then le (w.status + w.reply.length % 65536 * 65536) (a - 0x44)
  else if 0x1000 ≤ a ∧ a ≤ 0x1FFF then w.request.get 0 (a - 0x1000)
  else if 0x2000 ≤ a ∧ a ≤ 0x2FFF then w.reply.getD (a - 0x2000) 0
  else 0xFF

/-- WINDOW_READ (R625): `n` bytes from the pointer, which is set first where `ptr` gives it. -/
def execWindowRead (t : Ns) (k : Fin 2) (ptr : Option (Fin 65536)) (n : Nat) (s : State) : Out :=
  let s := s.tick t
  let i := k.val
  .next (if !s.answers i then s
    else
      let s := match ptr with | some a => s.setPtr i a.val | none => s
      let a := (s.win i).ptr
      let bytes := (List.range n).map (fun j => ((s.winByte i ((a + j) % 65536) : Nat) : Int))
      (s.modWin i (fun w => { w with ptr := (a + n) % 65536 })).send (.bus (32 + i) 3 bytes))

/-- TARGET_ILLEGAL_COND (R621): without PEC what was acknowledged is committed, with it nothing is. -/
def execTargetIllegalCond (t : Ns) (k : Fin 2) (kind : Fin 2) (bit : Fin 10) (x : CutTxn) (s : State) : Out :=
  let s := s.tick t
  let i := k.val
  .next (if !s.answers i then s
    else
      let s := s.count .illegalConds (32 + i)
      let s := s.busEvent 0 (32 + i) .busIllegalCond [32 + i, kind.val, 1, bit.val, s.get .illegalConds (32 + i)]
      match x with
      | .write (some a) data =>
        let n := winAcked (a.val / 64) a.val data
        let s := (s.setPtr i a.val).modWin i (fun w => { w with ptr := (a.val + n) % 65536 })
        if s.windowPec i then s else s.modWin i (fun w => { w with request := storeWin w.request a.val (data.take n) })
      | .read ptr n =>
        let s := match ptr with | some a => s.setPtr i a.val | none => s
        s.modWin i (fun w => { w with ptr := (w.ptr + n) % 65536 })
      | _ => s)

/-- MBX_FREE (R627). -/
def execMbxFree (t : Ns) (k : Fin 2) (s : State) : Out :=
  let s := s.tick t
  .next (if s.answers k.val ∧ (s.win k.val).status = 2 then s.modWin k.val (fun w => { w with status := 0, reply := [] }) else s)

end Sys2Proof.Machine
end

