-- ==== Sys2Proof/Machine/Arrivals.lean ====
section
/-! DEFINITION. Requests arrive (R102, R113, R116, R544, R601, R627, R684): each transport's packet is admitted, its parameters checked
as its opcode's chapter refuses them. -/

namespace Sys2Proof

/-- The fields of a submission entry (Table 3.19). -/
def SqEntry.reqAddr (e : SqEntry) : Nat := Machine.leAt e.raw 0 8
def SqEntry.reqLen (e : SqEntry) : Nat := Machine.leAt e.raw 8 2
def SqEntry.replyAddr (e : SqEntry) : Nat := Machine.leAt e.raw 0x10 8
def SqEntry.replySize (e : SqEntry) : Nat := Machine.leAt e.raw 0x18 2
def SqEntry.rsv (e : SqEntry) : Bool :=
  decide (Machine.leAt e.raw 0x0A 2 ≠ 0) || decide (Machine.leAt e.raw 0x0C 4 ≠ 0) || decide (Machine.leAt e.raw 0x1A 2 ≠ 0)
    || decide (Machine.leAt e.raw 0x1C 4 ≠ 0)

end Sys2Proof

namespace Sys2Proof.Machine

/-- A request arrives at the leader and waits there (R102, R125). -/
def State.arriveAt (s : State) (a : Arrival) (b : Body) : State := s.arrive a b (effectOf a b)

/-! ### PCIe rings (R113, R115) -/

/-- A malformed submission entry (R113). -/
def malformedEntry (e : SqEntry) : Bool :=
  decide (e.reqAddr % 4 ≠ 0) || decide (e.replyAddr % 4 ≠ 0) || decide (e.reqLen < 36) || decide (4068 < e.reqLen)
    || decide (e.reqLen % 4 ≠ 0) || decide (e.replySize < 36) || decide (4096 < e.replySize)
    || decide (e.replySize % 4 ≠ 0) || e.rsv

/-- The turn of a queue pair goes on, or begins (R113). -/
def State.takeTurn (s : State) (ep : Fin 2) (q : Nat) : State :=
  if s.var .sqTurnQ ep.val = q ∧ s.varN .sqTurnN ep.val < 8 then s.countV .sqTurnN ep.val
  else (s.setV .sqTurnQ ep.val q).setV .sqTurnN ep.val 1

/-- SQ_FETCH (R113, R115): one submission entry is fetched; `e` is what host memory holds there. -/
def execSqFetch (t : Ns) (ep : Fin 2) (q : Fin 64) (e : SqEntry) (s : State) : Out :=
  let s := s.tick t
  .next (if !s.mayFetch ep q.val then s
    else
      let slot := ((s.endpoint ep.val).qp q.val).fetch
      let s := (s.modQp ep.val q.val (fun x => { x with fetch := if x.fetch = x.sizeM1 then 0 else x.fetch + 1 })).takeTurn ep q.val
      if malformedEntry e then s.muteCompletion ep q.val slot
      else match e.packet with
        | .hostError => s.queueError ep.val q.val 2
        | .crcError => (s.crcError ep.val).muteCompletion ep q.val slot
        | .packet hdr body => s.arriveAt { t, binding := .ring ep, queue := q.val, slot, replySize := e.replySize, noWrite := e.noWrite
                                           hdr := { hdr with packetLen := e.reqLen } } body)

/-! ### MCTP (R116, R624, R627) -/

/-- What a message at an MCTP binding brings: a request arrives on its one queue; a packet whose CRC fails is discarded
(Table 3.5). -/
def State.takePacket (s : State) (b : Binding) (slot : Nat) : Fetched → State
  | .packet h body => s.arriveAt { t := s.now, binding := b, queue := (match b with | .vdm _ => 64 | _ => 0), slot, hdr := h } body
  | .crcError => match hostPort b with | some h => s.crcError h | none => s
  | .hostError => s

/-- A message of `len` bytes is assembled: one of TYPE 0x7E, this endpoint's vendor and KIND 1 holds a Gantline request (Table 3.21);
any other is discarded. -/
def State.takeMctp (s : State) (b : Binding) (len : Nat) (x : MctpBody) : State :=
  match x with
  | .request type vendor kind p =>
    if type = 0x7E ∧ vendor = Config.pciVendor % 65536 ∧ kind = 1 then
      s.takePacket b 0 (match p with | .packet h body => .packet { h with packetLen := len - 4 } body | p => p)
    else s
  | .other => s

/-- An MCTP binding receives: a target port that answers (R624), or an endpoint's VDM path (R116). -/
def State.hearsMctp (s : State) (m : Fin 4) : Bool :=
  if m.val < 2 then s.answers m.val else s.servedOn (mctpBinding m)

/-- MCTP_PACKET (R116, R624): `good` says that PEC and byte count are right, `len` is the packet's part of the message, and `x` what
the message assembled by its last packet holds. A packet out of sequence, or of another size than 64 bytes before the last, drops its
message, as does one past 4,100 bytes. -/
def execMctpPacket (t : Ns) (m : Fin 4) (good som eom : Bool) (seq : Fin 4) (tag src len : Nat) (x : MctpBody) (s : State) : Out :=
  let s := s.tick t
  let i := m.val
  .next (if !s.hearsMctp m then s
    else if !good then s.when (decide (i < 2)) (fun s => s.count .pecErrors (32 + i))
    else
      let have_ : Option Nat := if som then some 0 else match (s.win i).mctp with
        | some (n, g, l) => if n = seq.val ∧ g = tag then some l else none
        | none => none
      match have_ with
      | none => s.modWin i (fun w => { w with mctp := none })
      | some l =>
        let total := l + len
        if 4100 < total ∨ 64 < len ∨ (len ≠ 64 ∧ !eom) then s.modWin i (fun w => { w with mctp := none })
        else if eom then (s.modWin i (fun w => { w with mctp := none, peer := src })).takeMctp (mctpBinding m) total x
        else s.modWin i (fun w => { w with mctp := some ((seq.val + 1) % 4, tag, total) }))

/-- MBX_SUBMIT (R627): the packet in REQUEST is submitted on the port's binding; while a request is outstanding on it, REPLY
takes ST_BUSY. -/
def execMbxSubmit (t : Ns) (k : Fin 2) (x : Fetched) (s : State) : Out :=
  let s := s.tick t
  let i := k.val
  .next (if !s.answers i then s
    else match x with
    | .packet h b =>
      if s.outst.any (fun (o : Outst) => o.admitted && decide (o.dest = .smbus k)) then
        let r : Reply := { opcode := b.opcode, tag := h.tag, queue := 0, object := h.object, status := Status.busy.code, results := []
                           commitCsn := s.journal.committed, doneTime := s.now, final := true, safety := false }
        (s.count .busyReplies (2 + i)).windowReply i r.packet
      else (s.modWin i (fun w => { w with status := 1 })).takePacket (.smbus k) 1 x
    | _ => s.takePacket (.smbus k) 1 x)

/-! ### Ethernet (R684, R685) -/

/-- ETH_DATA (R684, R685): `valid` says that the tag verifies. A packet then arrives as a request (R102), one whose CRC fails
is discarded (R101), and an empty plaintext closes the session. -/
def execEthData (t : Ns) (port : Fin 2) (session seq : Nat) (good valid : Bool) (x : EthPlain) (s : State) : Out :=
  let s := s.tick t
  let p := port.val
  .next (match s.ethAt p session with
    | some e =>
      if !good ∨ !s.ethServed p ∨ !e.fresh seq ∨ 2 ^ 32 ≤ e.got then s
      else if !valid ∨ s.acts (0x254 + p) then ((s.spend (0x254 + p)).count .authFailures (4 + p)).authFail p 1
      else
        let s : State := { s with ethSessions := s.ethSessions.map (fun y => if y = e then e.accept seq else y) }
        match x with
        | .empty => s.closeEth port session
        | .crcError => s.crcError (4 + p)
        | .packet h b => s.arriveAt { t, binding := .eth port session, queue := h.queue, hdr := h } b
    | none => s)

/-! ### Remote Gantline (R601, R602) -/

/-- REMOTE_REQUEST (R601, R602): it runs as a request of source class RATLINE; a second attempt of a request held is
attached to it. -/
def execRemoteRequest (t : Ns) (p : Fin 10) (serial addr attempt : Nat) (hdr : Header) (body : Body) (s : State) : Out :=
  let s := s.tick t
  let hit := fun (r : RemoteIn) => decide (r.serial = serial) && decide (r.queue = hdr.queue) && decide (r.tag = hdr.tag)
  .next (match s.remoteIns.find? hit with
    | some r =>
      if attempt = 2 then
        match r.reply with
        | some packet => s.sendRemoteReply addr serial 0 packet
        | none => s
      else (State.arriveAt { s with remoteIns := { serial, addr, queue := hdr.queue, tag := hdr.tag } :: s.remoteIns.erase r }
        { t, binding := .ratline p serial, queue := hdr.queue, hdr } body)
    | none =>
      let own := (({ serial, addr, queue := hdr.queue, tag := hdr.tag } : RemoteIn) :: s.remoteIns.filter (fun r => r.serial = serial)).take 1024
      State.arriveAt { s with remoteIns := own ++ s.remoteIns.filter (fun r => r.serial ≠ serial) }
        { t, binding := .ratline p serial, queue := hdr.queue, hdr } body)

/-! ### Burin (R544) -/

/-- GCMD (R544): `body` is the packet's parameter block as its opcode reads it. -/
def execGcmd (t : Ns) (e : Fin 48) (rd rs : Fin 16) (body : Body) (s : State) : Out :=
  let s₀ := s.tick t
  .next (s₀.instr e (fun w => decide (wOp w = 0x32) && decide (wRd w = rd.val) && decide (wRs w = rs.val)) (fun _ => 32) (fun s l =>
    let x := s.engine e.val
    let a := (l.reg rs).toNat
    let n := 36 + up4 (x.readData (a + 14) 2)
    let opcode := x.readData (a + 2) 2
    let refuse (st : Status) : State := s.setTop e.val { l.setReg rd (BitVec.ofNat 32 st.code) with c := true }
    if a % 4 ≠ 0 ∨ 512 < n then refuse .badParam
    else if 0x2000 < a + n then s.instrFault e.val 2 l
    else match (List.range 4).find? (fun k => decide (x.slotState k = 0)) with
      | none => refuse .busy
      | some k =>
        let h := x.packetAt a k
        if !x.permits a opcode h.object h.property h.paramLen h.safety then refuse .denied
        else if body.opcode ≠ opcode then s₀
        else
          let x := (x.writeData (a + 1) 1 (x.readData (a + 1) 1 ||| 1)).writeData (a + 4) 2 k |>.writeData (a + 6) 2 0
          let x := x.writeData (a + n - 4) 4 (crc32c ((List.range (n - 4)).map (fun i => x.data.get 0 (a + i))))
          let x := x.writeData (mailAddr k) 4 1
          let s := (s.modEngine e.val (fun _ => x)).setTop e.val { l.setReg rd (BitVec.ofNat 32 k) with c := false }
          s.arriveAt { t := s.now, binding := .burin e, queue := 0, hdr := h } body))

end Sys2Proof.Machine
end

