-- ==== Sys2Proof/Machine/Commits.lean ====
section
/-! DEFINITION. Commits (R154–R156, R165, R168): the effects that follow them, acknowledgements, the solo journal, elections, and rounds of dispatch. -/

namespace Sys2Proof.Machine

/-- The oldest request whose entry is committed has its effect (R154), on the state its entry left. -/
def State.applyFirst (s : State) : State :=
  match s.unapplied with
  | x :: rest =>
    if x.csn ≤ s.journal.committed then
      let u : State := { s with unapplied := rest }
      let y := effectOf x.arr x.body u
      let s := y.1.touched u x.origin x.csn
      if y.2.commits then s.outcome x.origin y.2 x.csn else u.outcome x.origin y.2 x.csn
    else s
  | [] => s

/-- Requests whose entries are committed have their effects in CSN order, at most `n` (R154). -/
def State.applyReady (s : State) : Nat → State
  | 0 => s
  | n + 1 => (s.applyFirst).applyReady n

/-- What a commit brings: the effects that waited for it, running handovers, and global operations. -/
def State.committedNow (s : State) : State :=
  let s := s.recommit
  ((s.applyReady s.unapplied.length).settleHandovers).settleOps

/-- JOURNAL_ACK (R154): the leader commits what the acknowledgement of CSN k confirms. -/
def execJournalAck (t : Ns) (tile : Fin 3) (csn : Nat) (s : State) : Out :=
  let s := s.tick t
  let f := tile.val
  settled (.next (if s.inService f ∧ f ≠ s.leader ∧ !s.flag .electing ∧ s.membership ≠ 0 ∧ !s.acts (0x082 + 16 * f) then
      let s := s.setV .ackSeen f (max (s.varN .ackSeen f) (min csn (s.getN .ackCsn f)) : Nat)
      ({ s with journal := { s.journal with stalled := false } } : State).committedNow
    else s))

/-- SOLO_JOURNAL_WRITE (R156): the NAND holds every entry written so far. -/
def execSoloJournalWrite (t : Ns) (s : State) : Out :=
  let s := s.tick t
  settled (.next (if (s.membership = 1 ∨ s.membership = 4) ∧ !s.nandLost then
      ({ s with journal := { s.journal with nand := s.journal.assigned } } : State).committedNow
    else s))

/-- JOURNAL_STALL (R155): no follower has acknowledged for 1 ms. Leadership passes to the follower with the highest
acknowledged CSN if it holds every committed entry; else that is tried again after 1 ms more. -/
def execJournalStall (t : Ns) (s : State) : Out :=
  let s := s.tick t
  let next := s.bestSeen + 1
  let late := s.journal.entries.any (fun e => decide (e.csn = next) && decide (e.stamp + ms ≤ s.now))
  let again := decide (s.var .stallAt < 0) || decide (s.varN .stallAt + ms ≤ s.now)
  .next (if 2 ≤ s.tilesIn.length ∧ late ∧ again ∧ !s.flag .electing then
      let s : State := if s.journal.stalled then s else s.raise .journalStall oDevice [s.leader, next]
      let s : State := { s with journal := { s.journal with stalled := true } }.setV .stallAt 0 s.now
      match s.tilesIn.filter (fun t => t ≠ s.leader) with
      | f :: rest =>
        let best := rest.foldl (fun b x => if s.getN .ackCsn b < s.getN .ackCsn x then x else b) f
        if s.journal.committed ≤ s.getN .ackCsn best then
          ((s.setV .electAt 0 s.now).electLeader best 0xFF 0xFF).committedNow
        else s
      | [] => s
    else s)

/-- LEADER_CLAIM (R165): a survivor's claim with the next term is received. Once the claims of all survivors have come, the one with the
highest acknowledged CSN leads. -/
def execLeaderClaim (t : Ns) (tile : Fin 3) (term : Nat) (s : State) : Out :=
  let s := s.tick t
  settled (.next (if s.flag .electing ∧ s.inService tile.val ∧ term = s.getN .term + 1 then
      let s := s.setV .claims 0 (s.varN .claims ||| 2 ^ tile.val : Nat)
      if s.tilesIn.all (fun x => (s.varN .claims).testBit x) then
        (s.electLeader s.winner (s.varN .electing - 1) (s.var .electCause)).committedNow
      else s
    else s))

/-- DISPATCH_ROUND (R125–R127): SAFETY requests, then aged ones, then one round over CONTROL, MANAGE and BULK. Nothing is dispatched
while dispatch is held (R155, R170, Table 4.4). -/
def execDispatchRound (t : Ns) (s : State) : Out :=
  let s := (s.tick t).committedNow
  if s.dispatchHeld then .next s
  else
    let n := s.waiting.length
    let s := (s.dispatchSafety n).dispatchAged n
    let s := ((s.classTurn 1 .control).classTurn 2 .manage).classTurn 3 .bulk
    settled (.next s.settleHandovers)

end Sys2Proof.Machine
end

