-- ==== Sys2Proof/Machine/Memory.lean ====
section
/-! DEFINITION. SRAM and DRAM (R637–R646). -/

namespace Sys2Proof.Machine

/-- The tile whose stacks a stack is one of. -/
def State.stackTile (s : State) (k : Nat) : Nat := ([0, 1, 2].find? (fun t => (s.stackMask t).testBit k)).getD 1

/-- Corrected words are counted; EV_MEM_CORRECTED comes at most once per 10 s and tile. -/
def State.corrected (s : State) (t stack n : Nat) : State :=
  if n = 0 then s
  else
    let s := s.put .ceCount t (min (s.get .ceCount t + n) 4294967295)
    if s.var .correctedAt t < 0 ∨ s.var .correctedAt t + 10 * sec ≤ s.now then
      (s.setV .correctedAt t s.now).raise .memCorrected (oTile t) [t, stack, s.get .ceCount t]
    else s

/-- A row moves to a spare one (R641); with none free it stays. -/
def State.spareRow (s : State) (k die row cause : Nat) : State :=
  let t := s.stackTile k
  let i := 16 * k + die
  if s.spareFree k die = 0 then s
  else
    let s := s.countV .sparesUsed i
    let s : State := { s with rowHits := s.rowHits.filter (fun h => !(h.stack = k && h.die = die && h.row = row)) }
    let s := s.raise .rowSpared (oTile t) [t, k, die, cause, (s.spareFree k die : Nat)]
    if s.spareFree k die < 64 ∧ !s.flag .sparesTold i then
      (s.setV .sparesTold i 1).raise .stackSparesLow (oTile t) [t, k, die, (s.spareFree k die : Nat)]
    else s

/-- A corrected word goes back to its place, a tile's SRAM (0 to 2) or a stack (8 and up) (R638). -/
def State.writeBack (s : State) (place addr : Nat) (w : Codeword) : State :=
  { s with codewords := s.codewords.put 0 (place * 2 ^ 48 + addr / 8) w.bits }

/-- SRAM_SCRUB (R638, R639): the words of a tile's SRAM, by address, that the scrub does not find as they were written. -/
def execSramScrub (t : Ns) (tile : Fin 3) (words : List (Nat × Nat)) (s : State) : Out :=
  let s := s.tick t
  .next (if s.inService tile.val then
      let good := correctedWords (·.1) (·.2) words
      (s.corrected tile.val 0xFF good.length).each good (fun s g => s.writeBack tile.val g.1.1 g.2)
    else s)

/-- A word of a stack, as a patrol scrub corrects it, is written back and counts for its row, which moves at CE_ROW_LIMIT within 24 h
(R641, R642). -/
def State.rowCorrected (s : State) (k : Nat) (g : DramWord × Codeword) : State :=
  let w := g.1
  let s := s.writeBack (8 + k) w.addr g.2
  let live := s.rowHits.filter (fun h => decide (s.now < h.at_ + 86400 * sec))
  let s : State := { s with rowHits := live ++ [{ stack := k, die := w.die.val, row := w.row, at_ := s.now }] }
  let n := (s.rowHits.filter (fun h => h.stack = k && h.die = w.die.val && h.row = w.row)).length
  if s.getN .ceRowLimit ≤ n then s.spareRow k w.die.val w.row 0 else s

/-- PATROL_SCRUB (R638, R641, R642): the words of a stack that the scrub does not find as they were written. Those it corrects
count for their row, which moves at CE_ROW_LIMIT within 24 h. -/
def execPatrolScrub (t : Ns) (stack : Fin 4) (words : List DramWord) (s : State) : Out :=
  let s := s.tick t
  let k := stack.val
  .next (if (s.varN .stacksUp).testBit k ∧ s.islandGives (s.stackTile k) 5 then
      let good := correctedWords (·.addr) (·.bits) words
      (s.corrected (s.stackTile k) k good.length).each good (fun s g => s.rowCorrected k g)
    else s)

/-- What an uncorrectable word of SRAM does (Table 16.2). The journal's is R157's. -/
def State.badSram (s : State) (t region slot engine : Nat) : State :=
  let other := (s.tilesIn.filter (· ≠ t))
  match region with
  | 1 | 5 => s.requestFence t t 5
  | 2 =>
    if other.any (fun x => s.get .arrayState x = 0) ∨ (s.varN .fcBad t).testBit slot then s
    else s.setV .fcBad t (s.varN .fcBad t + 2 ^ slot : Nat)
  | 3 =>
    if !other.isEmpty ∨ engine / 16 ≠ t then s
    else s.engineFault engine 1 0 0 0
  | 4 => { s with recorder := { s.recorder with poison := true, poisoned := (s.recorder.poisoned ++ [(s.now / 500, s.now / 500)]).take 108 } }
  | _ => s

/-- One entry of a list is lost; which one is a free value. -/
def State.loseOne {α : Type} (s : State) (l : List α) : List α × State := let (k, s) := s.draw; (l.eraseIdx (k.toNat % l.length), s)

/-- What one of DRAM stack `k` does (Table 16.4): in the recorder its block is poisoned; in the store a sample is discarded, or optimiser
state starts afresh; a stipple frame is lost where no other tile has a copy; a snapshot record fails. The manual does not say where in a
stack a region begins, so which slots, sample or frame it is is a free value (log entry 191). -/
def State.badDram (s : State) (k region : Nat) (optimiser : Bool) (snap : Option (Nat × Nat)) : State :=
  let here := slots.filter (fun m => decide (1 ≤ (s.model m).training.mode) && decide (s.getN .trainTile m = s.stackTile k))
  match region, snap with
  | 0, _ =>
    if s.get .recState = 0 then s
    else
      let (a, s) := s.draw
      let (b, s) := s.draw
      { s with recorder := { s.recorder with poisoned := (s.recorder.poisoned ++ [(a.toNat, b.toNat)]).take 108 } }
  | 1, _ =>
    if optimiser then
      s.each here (fun s m =>
        let mode := (s.model m).training.mode
        s.trainingEvent m mode mode 2)
    else match here.filter (fun m => !(s.model m).store.isEmpty) with
      | [] => s
      | l =>
        let (x, s) := s.draw
        let m := l.getD (x.toNat % l.length) 0
        let (store, s) := s.loseOne (s.model m).store
        s.modModel m (fun x => { x with store, ring := x.ring - 1 })
  | 2, _ =>
    if [0, 1, 2].any (fun t => decide (t ≠ s.stackTile k) && decide (s.stackMask t &&& s.varN .stacksUp ≠ 0)) ∨ s.stipple.isEmpty then s
    else let (stipple, s) := s.loseOne s.stipple; { s with stipple }
  | 4, some (op, k) =>
    { s with snapBufs := s.snapBufs.map (fun (b : SnapBuf) =>
        if b.opId = op then
          match b.records[k]? with
          | some r => { b with records := b.records.eraseIdx k, spill := b.spill ++ [((r.getD 1 ⟨4, 0⟩).val).toNat] }
          | none => b
        else b) }
  | _, _ => s

/-- MEMORY_UNCORRECTABLE (R638, R639, R643): a read of a word that the code does not correct. -/
def execMemoryUncorrectable (t : Ns) (w : BadWord) (s : State) : Out :=
  let s := s.tick t
  .next (match w with
    | .sram tile region addr bits slot engine =>
      let x := tile.val
      if s.inService x ∧ readWord addr bits = .uncorrectable then
        ((s.count .ueCount x).raise .memUncorrectable (oTile x) [x, 0xFF, region.val, addr]).badSram x region.val slot.val engine.val
      else s
    | .dram stack w region optimiser snap =>
      let k := stack.val
      let x := s.stackTile k
      if (s.varN .stacksUp).testBit k ∧ readWord w.addr w.bits = .uncorrectable then
        let s := (s.count .ueCount x).raise .memUncorrectable (oTile x) [x, k, region.val, w.addr]
        let s : State := { s with poison := if (k, w.addr / 4096) ∈ s.poison then s.poison else s.poison ++ [(k, w.addr / 4096)]
                                  ueHits := s.ueHits.filter (fun h => decide (s.now < h.2 + 3600 * sec)) ++ [(k, s.now)] }
        (s.badDram k region.val optimiser snap).spareRow k w.die.val w.row 1
      else s)

/-- STACK_LOST (R645): a stack fails training or retraining, or has given more than UE_STACK_LIMIT uncorrectable words in 1 h
(`words`). It does not return. -/
def execStackLost (t : Ns) (stack : Fin 4) (words : Bool) (s : State) : Out :=
  let s := s.tick t
  let k := stack.val
  let n := (s.ueHits.filter (fun h => h.1 = k && decide (s.now < h.2 + 3600 * sec))).length
  .next (if (s.varN .stackFailed).testBit k ∨ s.get .powerState = 0 ∨ (words ∧ n ≤ s.getN .ueStackLimit) then s
    else
      let s := s.setV .stackFailed 0 (s.varN .stackFailed + 2 ^ k : Nat)
      let up := (s.varN .stacksUp).testBit k
      let s := (s.stacksDown (2 ^ k) (if words then 1 else 0)).trainingLost
      (if up then s else s.raise .stackLost oRecorder [k, if words then 1 else 0]).dropFeatures)

end Sys2Proof.Machine
end

