-- ==== Sys2Proof/Machine/Dispatch.lean ====
section
/-! DEFINITION. Every command goes to its meaning, one arm for each. -/

namespace Sys2Proof.Machine

def exec (i : Instr) (s : State) : Host.Outcome State Fault Refusal :=
  match i with
  | .pgStbyRise straps fuses nor => Sys2Proof.Machine.execPgStbyRise straps fuses nor s
  | .pgStbyFall t flushed => Sys2Proof.Machine.execPgStbyFall t flushed s
  | .foreReady t => Sys2Proof.Machine.execForeReady t s
  | .writePowerState a v => Sys2Proof.Machine.execWritePowerState a v s
  | .enterRunning t => Sys2Proof.Machine.execEnterRunning t s
  | .mainPowerGood t feeds lowest => Sys2Proof.Machine.execMainPowerGood t feeds lowest s
  | .mainPowerLost t feeds lowest => Sys2Proof.Machine.execMainPowerLost t feeds lowest s
  | .supplyPowerGood t group => Sys2Proof.Machine.execSupplyPowerGood t group s
  | .supplyPgTimeout t group => Sys2Proof.Machine.execSupplyPgTimeout t group s
  | .supplyPgFall t group => Sys2Proof.Machine.execSupplyPgFall t group s
  | .tileReady t group => Sys2Proof.Machine.execTileReady t group s
  | .tileReadyTimeout t group => Sys2Proof.Machine.execTileReadyTimeout t group s
  | .coreUndervoltage t tile => Sys2Proof.Machine.execCoreUndervoltage t tile s
  | .coreUndervoltageClear t => Sys2Proof.Machine.execCoreUndervoltageClear t s
  | .runOnExpiry t => Sys2Proof.Machine.execRunOnExpiry t s
  | .wakeTrigger t zone intact => Sys2Proof.Machine.execWakeTrigger t zone intact s
  | .norWriteComplete t lost good => Sys2Proof.Machine.execNorWriteComplete t lost good s
  | .nandWriteComplete t retired lost usable => Sys2Proof.Machine.execNandWriteComplete t retired lost usable s
  | .paceWindow t tile a b c d => Sys2Proof.Machine.execPaceWindow t tile a b c d s
  | .writePaceMin a v => Sys2Proof.Machine.execWritePaceMin a v s
  | .refclkLost t cause => Sys2Proof.Machine.execRefclkLost t cause s
  | .refclkRestored t offset => Sys2Proof.Machine.execRefclkRestored t offset s
  | .forwardedRefLost t group => Sys2Proof.Machine.execForwardedRefLost t group s
  | .oscOffsetMeasure t tile ppb => Sys2Proof.Machine.execOscOffsetMeasure t tile ppb s
  | .compensationUpdate t => Sys2Proof.Machine.execCompensationUpdate t s
  | .writeCommonTime a v => Sys2Proof.Machine.execWriteCommonTime a v s
  | .ppsEdge t => Sys2Proof.Machine.execPpsEdge t s
  | .holdoverLimitReached t => Sys2Proof.Machine.execHoldoverLimitReached t s
  | .guardClockFallback t tile => Sys2Proof.Machine.execGuardClockFallback t tile s
  | .guardClockRestored t tile => Sys2Proof.Machine.execGuardClockRestored t tile s
  | .islandClockStopped t tile island => Sys2Proof.Machine.execIslandClockStopped t tile island s
  | .islandClockResumed t tile island => Sys2Proof.Machine.execIslandClockResumed t tile island s
  | .crossingTimeout t c since reset => Sys2Proof.Machine.execCrossingTimeout t c since reset s
  | .crossingFarReset t c => Sys2Proof.Machine.execCrossingFarReset t c s
  | .crossingDrained t c discarded => Sys2Proof.Machine.execCrossingDrained t c discarded s
  | .crossingRearm t c => Sys2Proof.Machine.execCrossingRearm t c s
  | .privilegedSignal t tile x on => Sys2Proof.Machine.execPrivilegedSignal t tile x on s
  | .gantlineCrcError t b tag => Sys2Proof.Machine.execGantlineCrcError t b tag s
  | .dispatchRound t => Sys2Proof.Machine.execDispatchRound t s
  | .resourceWaitTimeout t k => Sys2Proof.Machine.execResourceWaitTimeout t k s
  | .mctpInterimTimeout t b tag => Sys2Proof.Machine.execMctpInterimTimeout t b tag s
  | .sessionTimeout t id => Sys2Proof.Machine.execSessionTimeout t id s
  | .watchReport t session id => Sys2Proof.Machine.execWatchReport t session id s
  | .eventNotice t session => Sys2Proof.Machine.execEventNotice t session s
  | .sqDoorbell t ep q tail => Sys2Proof.Machine.execSqDoorbell t ep q tail s
  | .sqFetch t ep q e => Sys2Proof.Machine.execSqFetch t ep q e s
  | .cqDoorbell t ep q head => Sys2Proof.Machine.execCqDoorbell t ep q head s
  | .evqDoorbell t ep head => Sys2Proof.Machine.execEvqDoorbell t ep head s
  | .qpEnable t ep q vector sizeM1 => Sys2Proof.Machine.execQpEnable t ep q vector sizeM1 s
  | .qpDisable t ep q => Sys2Proof.Machine.execQpDisable t ep q s
  | .resetQueues t ep => Sys2Proof.Machine.execResetQueues t ep s
  | .evqEnable t ep on => Sys2Proof.Machine.execEvqEnable t ep on s
  | .registerWrite t ep r v => Sys2Proof.Machine.execRegisterWrite t ep r v s
  | .getProp a => Sys2Proof.Machine.execGetProp a s
  | .setProp a len value => Sys2Proof.Machine.execSetProp a len value s
  | .getSnapshot a items => Sys2Proof.Machine.execGetSnapshot a items s
  | .watch a id minUs delta maxUs => Sys2Proof.Machine.execWatch a id minUs delta maxUs s
  | .negotiate a major minor offer => Sys2Proof.Machine.execNegotiate a major minor offer s
  | .hello a id token => Sys2Proof.Machine.execHello a id token s
  | .keepalive a => Sys2Proof.Machine.execKeepalive a s
  | .recall a port queue tag => Sys2Proof.Machine.execRecall a port queue tag s
  | .close a => Sys2Proof.Machine.execClose a s
  | .subscribe a mask => Sys2Proof.Machine.execSubscribe a mask s
  | .readEvents a ack count => Sys2Proof.Machine.execReadEvents a ack count s
  | .mctpPacket t k good som eom seq tag src len x => Sys2Proof.Machine.execMctpPacket t k good som eom seq tag src len x s
  | .mctpSetEndpointId t m op eid => Sys2Proof.Machine.execMctpSetEndpointId t m op eid s
  | .mctpGetEndpointId t m => Sys2Proof.Machine.execMctpGetEndpointId t m s
  | .mctpGetVersionSupport t m type => Sys2Proof.Machine.execMctpGetVersionSupport t m type s
  | .mctpGetMessageTypeSupport t m => Sys2Proof.Machine.execMctpGetMessageTypeSupport t m s
  | .mctpGetVendorMessageSupport t m selector => Sys2Proof.Machine.execMctpGetVendorMessageSupport t m selector s
  | .mctpSendRetry t k acked => Sys2Proof.Machine.execMctpSendRetry t k acked s
  | .ethInit t port udp good operator => Sys2Proof.Machine.execEthInit t port udp good operator s
  | .ethFinish t port session good valid => Sys2Proof.Machine.execEthFinish t port session good valid s
  | .ethData t port session seq good valid x => Sys2Proof.Machine.execEthData t port session seq good valid x s
  | .ethHandshakeExpiry t port session => Sys2Proof.Machine.execEthHandshakeExpiry t port session s
  | .ethSessionExpiry t port session => Sys2Proof.Machine.execEthSessionExpiry t port session s
  | .heartbeatSend t tile => Sys2Proof.Machine.execHeartbeatSend t tile s
  | .heartbeatReceive t r x => Sys2Proof.Machine.execHeartbeatReceive t r x s
  | .heartbeatTimeout t r x => Sys2Proof.Machine.execHeartbeatTimeout t r x s
  | .fenceRequestExpiry t r x => Sys2Proof.Machine.execFenceRequestExpiry t r x s
  | .loneMizzenCut t => Sys2Proof.Machine.execLoneMizzenCut t s
  | .leaderClaim t tile term => Sys2Proof.Machine.execLeaderClaim t tile term s
  | .journalEntry t tile csn => Sys2Proof.Machine.execJournalEntry t tile csn s
  | .journalAck t tile csn => Sys2Proof.Machine.execJournalAck t tile csn s
  | .journalStall t => Sys2Proof.Machine.execJournalStall t s
  | .soloJournalWrite t => Sys2Proof.Machine.execSoloJournalWrite t s
  | .journalUncorrectable t csn x => Sys2Proof.Machine.execJournalUncorrectable t csn x s
  | .checkpoint t bad => Sys2Proof.Machine.execCheckpoint t bad s
  | .voterInputChange t o tile level => Sys2Proof.Machine.execVoterInputChange t o tile level s
  | .voteDisagree t o tile => Sys2Proof.Machine.execVoteDisagree t o tile s
  | .mirrorTakeover t d => Sys2Proof.Machine.execMirrorTakeover t d s
  | .plannedMove t back => Sys2Proof.Machine.execPlannedMove t back s
  | .writeLeader a v => Sys2Proof.Machine.execWriteLeader a v s
  | .writeAdminState a v => Sys2Proof.Machine.execWriteAdminState a v s
  | .rejoinComplete t tile => Sys2Proof.Machine.execRejoinComplete t tile s
  | .rejoinTimeout t x => Sys2Proof.Machine.execRejoinTimeout t x s
  | .foreLossGraceExpiry t => Sys2Proof.Machine.execForeLossGraceExpiry t s
  | .identity t port m => Sys2Proof.Machine.execIdentity t port m s
  | .reefTable t a generation latency levels => Sys2Proof.Machine.execReefTable t a generation latency levels s
  | .hint t a h => Sys2Proof.Machine.execHint t a h s
  | .telemetry t a m => Sys2Proof.Machine.execTelemetry t a m s
  | .qstate t a qid state => Sys2Proof.Machine.execQstate t a qid state s
  | .imageStatus t a image next status => Sys2Proof.Machine.execImageStatus t a image next status s
  | .alert t a num code severity detail stamp => Sys2Proof.Machine.execAlert t a num code severity detail stamp s
  | .freqAck t a round freq outcome lateness => Sys2Proof.Machine.execFreqAck t a round freq outcome lateness s
  | .alertPinAssert t a => Sys2Proof.Machine.execAlertPinAssert t a s
  | .alertNolinkReef t a => Sys2Proof.Machine.execAlertNolinkReef t a s
  | .alertNolinkFurl t a => Sys2Proof.Machine.execAlertNolinkFurl t a s
  | .alertLinkHandover t a => Sys2Proof.Machine.execAlertLinkHandover t a s
  | .accelLossTimeout t a => Sys2Proof.Machine.execAccelLossTimeout t a s
  | .telemetrySilence t a => Sys2Proof.Machine.execTelemetrySilence t a s
  | .silentFurlDelayExpiry t a => Sys2Proof.Machine.execSilentFurlDelayExpiry t a s
  | .quiesceTimeout t a => Sys2Proof.Machine.execQuiesceTimeout t a s
  | .signalDetect t port => Sys2Proof.Machine.execSignalDetect t port s
  | .trainFlit t port bytes => Sys2Proof.Machine.execTrainFlit t port bytes s
  | .dataFlit t port flags seq ack body crc => Sys2Proof.Machine.execDataFlit t port flags seq ack body crc s
  | .linkFlit t port flags body crc => Sys2Proof.Machine.execLinkFlit t port flags body crc s
  | .replayTimeout t port => Sys2Proof.Machine.execReplayTimeout t port s
  | .portStateTimeout t port noSignal => Sys2Proof.Machine.execPortStateTimeout t port noSignal s
  | .shroudGapTimeout t a stream => Sys2Proof.Machine.execShroudGapTimeout t a stream s
  | .timeFlitSend t => Sys2Proof.Machine.execTimeFlitSend t s
  | .budgetResend t => Sys2Proof.Machine.execBudgetResend t s
  | .trayRailSample t samples => Sys2Proof.Machine.execTrayRailSample t samples s
  | .seqRunStart t scope => Sys2Proof.Machine.execSeqRunStart t scope s
  | .railEnableSlot t rail => Sys2Proof.Machine.execRailEnableSlot t rail s
  | .goodDeadlineExpiry t rail => Sys2Proof.Machine.execGoodDeadlineExpiry t rail s
  | .railDisableSlot t rail => Sys2Proof.Machine.execRailDisableSlot t rail s
  | .offDeadlineExpiry t rail => Sys2Proof.Machine.execOffDeadlineExpiry t rail s
  | .startWaitExpiry t scope => Sys2Proof.Machine.execStartWaitExpiry t scope s
  | .scopeDischarged t scope => Sys2Proof.Machine.execScopeDischarged t scope s
  | .dischargeTimeout t scope => Sys2Proof.Machine.execDischargeTimeout t scope s
  | .firstFaultForm t => Sys2Proof.Machine.execFirstFaultForm t s
  | .autoRestart t => Sys2Proof.Machine.execAutoRestart t s
  | .startSequence a => Sys2Proof.Machine.execStartSequence a s
  | .stopSequence a => Sys2Proof.Machine.execStopSequence a s
  | .enableRail a => Sys2Proof.Machine.execEnableRail a s
  | .disableRail a => Sys2Proof.Machine.execDisableRail a s
  | .loadSequence a table generation entries => Sys2Proof.Machine.execLoadSequence a table generation entries s
  | .readFirstFault a start count => Sys2Proof.Machine.execReadFirstFault a start count s
  | .clearFirstFault a => Sys2Proof.Machine.execClearFirstFault a s
  | .writeThresholds a v => Sys2Proof.Machine.execWriteThresholds a v s
  | .slotInstant t slot missing => Sys2Proof.Machine.execSlotInstant t slot missing s
  | .sheetUpstreamFrame t r data0 crc0 data1 crc1 => Sys2Proof.Machine.execSheetUpstreamFrame t r data0 crc0 data1 crc1 s
  | .domainOcTripCheck t d => Sys2Proof.Machine.execDomainOcTripCheck t d s
  | .legReplan t => Sys2Proof.Machine.execLegReplan t s
  | .legWakeDone t l => Sys2Proof.Machine.execLegWakeDone t l s
  | .legDrainDone t l => Sys2Proof.Machine.execLegDrainDone t l s
  | .writeLegAdmin a v => Sys2Proof.Machine.execWriteLegAdmin a v s
  | .writeSetpoint a v => Sys2Proof.Machine.execWriteSetpoint a v s
  | .calRotation t => Sys2Proof.Machine.execCalRotation t s
  | .calCompareDone t r => Sys2Proof.Machine.execCalCompareDone t r s
  | .calResult t r leg channel status offset gain => Sys2Proof.Machine.execCalResult t r leg channel status offset gain s
  | .sheetTrainFrame t p bytes => Sys2Proof.Machine.execSheetTrainFrame t p bytes s
  | .sideSlice t p bytes => Sys2Proof.Machine.execSideSlice t p bytes s
  | .sliceReplayTimeout t r => Sys2Proof.Machine.execSliceReplayTimeout t r s
  | .relayIdentity t p m => Sys2Proof.Machine.execRelayIdentity t p m s
  | .configAck t r kind status slot => Sys2Proof.Machine.execConfigAck t r kind status slot s
  | .relayAlert t r code severity detail => Sys2Proof.Machine.execRelayAlert t r code severity detail s
  | .sheetPortTimeout t x => Sys2Proof.Machine.execSheetPortTimeout t x s
  | .relayLossTimeout t r => Sys2Proof.Machine.execRelayLossTimeout t r s
  | .accelEpoch t a => Sys2Proof.Machine.execAccelEpoch t a s
  | .trayEpoch t => Sys2Proof.Machine.execTrayEpoch t s
  | .rackEpoch t => Sys2Proof.Machine.execRackEpoch t s
  | .installationEpoch t => Sys2Proof.Machine.execInstallationEpoch t s
  | .grantEffective t n => Sys2Proof.Machine.execGrantEffective t n s
  | .limitEffective t n => Sys2Proof.Machine.execLimitEffective t n s
  | .rackHelloSend t => Sys2Proof.Machine.execRackHelloSend t s
  | .rackHello t p m => Sys2Proof.Machine.execRackHello t p m s
  | .budgetReport t m => Sys2Proof.Machine.execBudgetReport t m s
  | .budgetGrant t m => Sys2Proof.Machine.execBudgetGrant t m s
  | .rackHoldExpiry t level => Sys2Proof.Machine.execRackHoldExpiry t level s
  | .writeRackOther a v => Sys2Proof.Machine.execWriteRackOther a v s
  | .fastSenseSample t feeds => Sys2Proof.Machine.execFastSenseSample t feeds s
  | .fastStage2Check t => Sys2Proof.Machine.execFastStage2Check t s
  | .fastFurlExpiry t => Sys2Proof.Machine.execFastFurlExpiry t s
  | .fastReleaseExpiry t => Sys2Proof.Machine.execFastReleaseExpiry t s
  | .reefStepDown t source1 => Sys2Proof.Machine.execReefStepDown t source1 s
  | .complianceCheck t a => Sys2Proof.Machine.execComplianceCheck t a s
  | .reefDurationExpiry t a => Sys2Proof.Machine.execReefDurationExpiry t a s
  | .setBudget a limit => Sys2Proof.Machine.execSetBudget a limit s
  | .setWeight a weight => Sys2Proof.Machine.execSetWeight a weight s
  | .setMinGrant a minGrant => Sys2Proof.Machine.execSetMinGrant a minGrant s
  | .readGrants a => Sys2Proof.Machine.execReadGrants a s
  | .reef a level duration => Sys2Proof.Machine.execReef a level duration s
  | .releaseReef a => Sys2Proof.Machine.execReleaseReef a s
  | .forecastStep t => Sys2Proof.Machine.execForecastStep t s
  | .forecastPublish t late => Sys2Proof.Machine.execForecastPublish t late s
  | .knownAnswerTest t tile pass test => Sys2Proof.Machine.execKnownAnswerTest t tile pass test s
  | .trainingSampleComplete t d carried => Sys2Proof.Machine.execTrainingSampleComplete t d carried s
  | .minibatchDone t m numeric => Sys2Proof.Machine.execMinibatchDone t m numeric s
  | .candidateEvaluate t m => Sys2Proof.Machine.execCandidateEvaluate t m s
  | .modelSwitchInstant t => Sys2Proof.Machine.execModelSwitchInstant t s
  | .errorWindow t => Sys2Proof.Machine.execErrorWindow t s
  | .shelfWeightWrite t m => Sys2Proof.Machine.execShelfWeightWrite t m s
  | .shelfRestore t => Sys2Proof.Machine.execShelfRestore t s
  | .loadModel a x => Sys2Proof.Machine.execLoadModel a x s
  | .activateModel a mask => Sys2Proof.Machine.execActivateModel a mask s
  | .retireModel a => Sys2Proof.Machine.execRetireModel a s
  | .queryForecast a => Sys2Proof.Machine.execQueryForecast a s
  | .setTraining a mode persist lr drift under margin interval sample => Sys2Proof.Machine.execSetTraining a mode persist lr drift under margin interval sample s
  | .readModelStats a => Sys2Proof.Machine.execReadModelStats a s
  | .writeTrainTile a v => Sys2Proof.Machine.execWriteTrainTile a v s
  | .writeFcSvnFloor a v => Sys2Proof.Machine.execWriteFcSvnFloor a v s
  | .lockRound t => Sys2Proof.Machine.execLockRound t s
  | .lockUp t p m => Sys2Proof.Machine.execLockUp t p m s
  | .lockCommitSend t => Sys2Proof.Machine.execLockCommitSend t s
  | .lockCommit t p m => Sys2Proof.Machine.execLockCommit t p m s
  | .freqAckDeadline t => Sys2Proof.Machine.execFreqAckDeadline t s
  | .lockJoin t serial group grid src => Sys2Proof.Machine.execLockJoin t serial group grid src s
  | .lockJoinAck t group status grid => Sys2Proof.Machine.execLockJoinAck t group status grid s
  | .lockJoinTimeout t => Sys2Proof.Machine.execLockJoinTimeout t s
  | .joinGroup a mask grid => Sys2Proof.Machine.execJoinGroup a mask grid s
  | .leaveGroup a mask => Sys2Proof.Machine.execLeaveGroup a mask s
  | .readGroup a => Sys2Proof.Machine.execReadGroup a s
  | .loadPhasePlan a entries => Sys2Proof.Machine.execLoadPhasePlan a entries s
  | .clearPhasePlan a kind key => Sys2Proof.Machine.execClearPhasePlan a kind key s
  | .readPhasePlan a first count => Sys2Proof.Machine.execReadPhasePlan a first count s
  | .controllerSensorSample t readings => Sys2Proof.Machine.execControllerSensorSample t readings s
  | .housekeepingSample t i0 code => Sys2Proof.Machine.execHousekeepingSample t i0 code s
  | .coolantTempSample t codes => Sys2Proof.Machine.execCoolantTempSample t codes s
  | .thermalCeilingUpdate t => Sys2Proof.Machine.execThermalCeilingUpdate t s
  | .thermalReefStep t => Sys2Proof.Machine.execThermalReefStep t s
  | .furlCutInstant t scope => Sys2Proof.Machine.execFurlCutInstant t scope s
  | .furl a deadline => Sys2Proof.Machine.execFurl a deadline s
  | .driveCurrentSample t samples => Sys2Proof.Machine.execDriveCurrentSample t samples s
  | .tachEdge t c => Sys2Proof.Machine.execTachEdge t c s
  | .kickTimeExpiry t c => Sys2Proof.Machine.execKickTimeExpiry t c s
  | .restTimeExpiry t c => Sys2Proof.Machine.execRestTimeExpiry t c s
  | .tachLossExpiry t c => Sys2Proof.Machine.execTachLossExpiry t c s
  | .stallRetryExpiry t c => Sys2Proof.Machine.execStallRetryExpiry t c s
  | .speedLoopUpdate t => Sys2Proof.Machine.execSpeedLoopUpdate t s
  | .fanTableHandover t => Sys2Proof.Machine.execFanTableHandover t s
  | .hostSilenceExpiry t => Sys2Proof.Machine.execHostSilenceExpiry t s
  | .flowUpdate t pulses => Sys2Proof.Machine.execFlowUpdate t pulses s
  | .pressureSample t mv => Sys2Proof.Machine.execPressureSample t mv s
  | .coolantUpdate t positions => Sys2Proof.Machine.execCoolantUpdate t positions s
  | .leakSample t samples => Sys2Proof.Machine.execLeakSample t samples s
  | .leakConfirmExpiry t z => Sys2Proof.Machine.execLeakConfirmExpiry t z s
  | .leakEscalateExpiry t z => Sys2Proof.Machine.execLeakEscalateExpiry t z s
  | .leakDryExpiry t z => Sys2Proof.Machine.execLeakDryExpiry t z s
  | .leakCutExpiry t => Sys2Proof.Machine.execLeakCutExpiry t s
  | .setFan a mode value => Sys2Proof.Machine.execSetFan a mode value s
  | .setPump a mode value => Sys2Proof.Machine.execSetPump a mode value s
  | .setValve a mode value => Sys2Proof.Machine.execSetValve a mode value s
  | .isolateLeak a action => Sys2Proof.Machine.execIsolateLeak a action s
  | .resetLeakZone a => Sys2Proof.Machine.execResetLeakZone a s
  | .loadFanTable a inputs points thermals curve => Sys2Proof.Machine.execLoadFanTable a inputs points thermals curve s
  | .setWaterMode a mode target weight => Sys2Proof.Machine.execSetWaterMode a mode target weight s
  | .add t e rd rs rt => Sys2Proof.Machine.execAdd t e rd rs rt s
  | .sub t e rd rs rt => Sys2Proof.Machine.execSub t e rd rs rt s
  | .and t e rd rs rt => Sys2Proof.Machine.execAnd t e rd rs rt s
  | .or t e rd rs rt => Sys2Proof.Machine.execOr t e rd rs rt s
  | .xor t e rd rs rt => Sys2Proof.Machine.execXor t e rd rs rt s
  | .shl t e rd rs rt => Sys2Proof.Machine.execShl t e rd rs rt s
  | .shr t e rd rs rt => Sys2Proof.Machine.execShr t e rd rs rt s
  | .sar t e rd rs rt => Sys2Proof.Machine.execSar t e rd rs rt s
  | .mul t e rd rs rt => Sys2Proof.Machine.execMul t e rd rs rt s
  | .mulh t e rd rs rt => Sys2Proof.Machine.execMulh t e rd rs rt s
  | .div t e rd rs rt => Sys2Proof.Machine.execDiv t e rd rs rt s
  | .divu t e rd rs rt => Sys2Proof.Machine.execDivu t e rd rs rt s
  | .min t e rd rs rt => Sys2Proof.Machine.execMin t e rd rs rt s
  | .max t e rd rs rt => Sys2Proof.Machine.execMax t e rd rs rt s
  | .cmp t e rs rt => Sys2Proof.Machine.execCmp t e rs rt s
  | .sadd t e rd rs rt => Sys2Proof.Machine.execSadd t e rd rs rt s
  | .ssub t e rd rs rt => Sys2Proof.Machine.execSsub t e rd rs rt s
  | .addi t e rd rs imm => Sys2Proof.Machine.execAddi t e rd rs imm s
  | .andi t e rd rs imm => Sys2Proof.Machine.execAndi t e rd rs imm s
  | .ori t e rd rs imm => Sys2Proof.Machine.execOri t e rd rs imm s
  | .xori t e rd rs imm => Sys2Proof.Machine.execXori t e rd rs imm s
  | .shifti t e rd rs imm => Sys2Proof.Machine.execShifti t e rd rs imm s
  | .cmpi t e rs imm => Sys2Proof.Machine.execCmpi t e rs imm s
  | .lui t e rd imm => Sys2Proof.Machine.execLui t e rd imm s
  | .movi t e rd imm => Sys2Proof.Machine.execMovi t e rd imm s
  | .ldw t e rd rs imm => Sys2Proof.Machine.execLdw t e rd rs imm s
  | .ldh t e rd rs imm => Sys2Proof.Machine.execLdh t e rd rs imm s
  | .ldb t e rd rs imm => Sys2Proof.Machine.execLdb t e rd rs imm s
  | .stw t e rd rs imm => Sys2Proof.Machine.execStw t e rd rs imm s
  | .sth t e rd rs imm => Sys2Proof.Machine.execSth t e rd rs imm s
  | .stb t e rd rs imm => Sys2Proof.Machine.execStb t e rd rs imm s
  | .br t e cond off => Sys2Proof.Machine.execBr t e cond off s
  | .call t e off => Sys2Proof.Machine.execCall t e off s
  | .jr t e rs => Sys2Proof.Machine.execJr t e rs s
  | .rdp t e rd rs imm => Sys2Proof.Machine.execRdp t e rd rs imm s
  | .fcq t e rd rs imm => Sys2Proof.Machine.execFcq t e rd rs imm s
  | .gcmd t e rd rs body => Sys2Proof.Machine.execGcmd t e rd rs body s
  | .gpoll t e rd imm => Sys2Proof.Machine.execGpoll t e rd imm s
  | .eoi t e => Sys2Proof.Machine.execEoi t e s
  | .time t e rd imm => Sys2Proof.Machine.execTime t e rd imm s
  | .tset t e rs => Sys2Proof.Machine.execTset t e rs s
  | .halt t e => Sys2Proof.Machine.execHalt t e s
  | .occurrencePost t => Sys2Proof.Machine.execOccurrencePost t s
  | .engineDispatch t e => Sys2Proof.Machine.execEngineDispatch t e s
  | .moderationExpiry t tile n => Sys2Proof.Machine.execModerationExpiry t tile n s
  | .timerTick t e => Sys2Proof.Machine.execTimerTick t e s
  | .mailboxReply t e => Sys2Proof.Machine.execMailboxReply t e s
  | .ecHoldLimitExpiry t tile => Sys2Proof.Machine.execEcHoldLimitExpiry t tile s
  | .writeSrcConfig a tile v => Sys2Proof.Machine.execWriteSrcConfig a tile v s
  | .writeSrcStatus a tile v => Sys2Proof.Machine.execWriteSrcStatus a tile v s
  | .softPend a v => Sys2Proof.Machine.execSoftPend a v s
  | .writeEcHold a v => Sys2Proof.Machine.execWriteEcHold a v s
  | .writeAutostart a v => Sys2Proof.Machine.execWriteAutostart a v s
  | .loadProgram a x => Sys2Proof.Machine.execLoadProgram a x s
  | .startProgram a => Sys2Proof.Machine.execStartProgram a s
  | .stopProgram a => Sys2Proof.Machine.execStopProgram a s
  | .readEngine a => Sys2Proof.Machine.execReadEngine a s
  | .raiseEvent a len payload => Sys2Proof.Machine.execRaiseEvent a len payload s
  | .linkIdentity t p m => Sys2Proof.Machine.execLinkIdentity t p m s
  | .linkIdentityAck t p major minor status serial => Sys2Proof.Machine.execLinkIdentityAck t p major minor status serial s
  | .treeAdvertSend t => Sys2Proof.Machine.execTreeAdvertSend t s
  | .treeAdvert t p m => Sys2Proof.Machine.execTreeAdvert t p m s
  | .advertStale t => Sys2Proof.Machine.execAdvertStale t s
  | .ratlineMessageRoute t p m => Sys2Proof.Machine.execRatlineMessageRoute t p m s
  | .vc1CreditTimeout t p => Sys2Proof.Machine.execVc1CreditTimeout t p s
  | .ratlineTimeSend t => Sys2Proof.Machine.execRatlineTimeSend t s
  | .ratlineTimeFlit t p tTx tEcho hold parentLocked => Sys2Proof.Machine.execRatlineTimeFlit t p tTx tEcho hold parentLocked s
  | .opStart t src serial hdr body => Sys2Proof.Machine.execOpStart t src serial hdr body s
  | .opDown t p m => Sys2Proof.Machine.execOpDown t p m s
  | .opUp t p m => Sys2Proof.Machine.execOpUp t p m s
  | .opWaitClose t => Sys2Proof.Machine.execOpWaitClose t s
  | .remoteRequest t p serial addr attempt hdr body => Sys2Proof.Machine.execRemoteRequest t p serial addr attempt hdr body s
  | .remoteReply t serial status packet => Sys2Proof.Machine.execRemoteReply t serial status packet s
  | .remoteTimeoutExpiry t => Sys2Proof.Machine.execRemoteTimeoutExpiry t s
  | .snapData t m => Sys2Proof.Machine.execSnapData t m s
  | .snapshotCollectTimeout t => Sys2Proof.Machine.execSnapshotCollectTimeout t s
  | .exportData t src serial id seq offset len => Sys2Proof.Machine.execExportData t src serial id seq offset len s
  | .exportAck t id seq status => Sys2Proof.Machine.execExportAck t id seq status s
  | .exportEnd t id bytes status => Sys2Proof.Machine.execExportEnd t id bytes status s
  | .barrier a x => Sys2Proof.Machine.execBarrier a x s
  | .reduce a x => Sys2Proof.Machine.execReduce a x s
  | .broadcast a x hdr inner => Sys2Proof.Machine.execBroadcast a x hdr inner s
  | .snapshotGlobal a x => Sys2Proof.Machine.execSnapshotGlobal a x s
  | .resetGlobal a x => Sys2Proof.Machine.execResetGlobal a x s
  | .writePortAdmin a v => Sys2Proof.Machine.execWritePortAdmin a v s
  | .busGrant t port => Sys2Proof.Machine.execBusGrant t port s
  | .queueWaitExpiry t port => Sys2Proof.Machine.execQueueWaitExpiry t port s
  | .twoWireTransactionEnd t port x => Sys2Proof.Machine.execTwoWireTransactionEnd t port x s
  | .twoWireTimeout t port kind seg => Sys2Proof.Machine.execTwoWireTimeout t port kind seg s
  | .busIllegalCond t port kind bit seg => Sys2Proof.Machine.execBusIllegalCond t port kind bit seg s
  | .targetIllegalCond t k kind bit x => Sys2Proof.Machine.execTargetIllegalCond t k kind bit x s
  | .busRecovery t port clocked pulsed near => Sys2Proof.Machine.execBusRecovery t port clocked pulsed near s
  | .sclStuck t port low pulsed near => Sys2Proof.Machine.execSclStuck t port low pulsed near s
  | .failedPortRetry t port clocked pulsed near => Sys2Proof.Machine.execFailedPortRetry t port clocked pulsed near s
  | .windowWrite t k ptr data pec => Sys2Proof.Machine.execWindowWrite t k ptr data pec s
  | .windowRead t k ptr n => Sys2Proof.Machine.execWindowRead t k ptr n s
  | .mbxSubmit t k x => Sys2Proof.Machine.execMbxSubmit t k x s
  | .mbxFree t k => Sys2Proof.Machine.execMbxFree t k s
  | .busTransfer a retries segs => Sys2Proof.Machine.execBusTransfer a retries segs s
  | .busRecover a => Sys2Proof.Machine.execBusRecover a s
  | .configureBus a block => Sys2Proof.Machine.execConfigureBus a block s
  | .pmbusRead a addr page code => Sys2Proof.Machine.execPmbusRead a addr page code s
  | .pmbusWrite a addr page code value => Sys2Proof.Machine.execPmbusWrite a addr page code value s
  | .sramScrub t tile words => Sys2Proof.Machine.execSramScrub t tile words s
  | .patrolScrub t stack words => Sys2Proof.Machine.execPatrolScrub t stack words s
  | .memoryUncorrectable t w => Sys2Proof.Machine.execMemoryUncorrectable t w s
  | .stackLost t stack words => Sys2Proof.Machine.execStackLost t stack words s
  | .recorderFreezeInstant t => Sys2Proof.Machine.execRecorderFreezeInstant t s
  | .autoReleaseExpiry t => Sys2Proof.Machine.execAutoReleaseExpiry t s
  | .stippleFrame t => Sys2Proof.Machine.execStippleFrame t s
  | .writeStippleInterval a v => Sys2Proof.Machine.execWriteStippleInterval a v s
  | .exportComplete t k => Sys2Proof.Machine.execExportComplete t k s
  | .triggerRecorder a post => Sys2Proof.Machine.execTriggerRecorder a post s
  | .freezeRecorder a => Sys2Proof.Machine.execFreezeRecorder a s
  | .releaseRecorder a => Sys2Proof.Machine.execReleaseRecorder a s
  | .exportRecorder a path content id first last taddr serial bufs => Sys2Proof.Machine.execExportRecorder a path content id first last taddr serial bufs s
  | .readStipple a start section_ count => Sys2Proof.Machine.execReadStipple a start section_ count s
  | .keySlotProgram t slot ec ml => Sys2Proof.Machine.execKeySlotProgram t slot ec ml s
  | .attest a tile index offset nonce => Sys2Proof.Machine.execAttest a tile index offset nonce s
  | .revokeKey a => Sys2Proof.Machine.execRevokeKey a s
  | .readKeys a => Sys2Proof.Machine.execReadKeys a s
  | .openStage a total resume => Sys2Proof.Machine.execOpenStage a total resume s
  | .writeStage a offset bytes => Sys2Proof.Machine.execWriteStage a offset bytes s
  | .verifyStage a => Sys2Proof.Machine.execVerifyStage a s
  | .planUpdate a => Sys2Proof.Machine.execPlanUpdate a s
  | .etch a => Sys2Proof.Machine.execEtch a s
  | .activate a stop => Sys2Proof.Machine.execActivate a stop s
  | .stepTimeoutExpiry t => Sys2Proof.Machine.execStepTimeoutExpiry t s
  | .confirm a => Sys2Proof.Machine.execConfirm a s
  | .autoConfirmExpiry t => Sys2Proof.Machine.execAutoConfirmExpiry t s
  | .readPlates a => Sys2Proof.Machine.execReadPlates a s
  | .inject a p => Sys2Proof.Machine.execInject a p s
  | .injectionFire t p seen => Sys2Proof.Machine.execInjectionFire t p seen s
  | .injectionHoldEnd t p => Sys2Proof.Machine.execInjectionHoldEnd t p s
  | .armLimitExpiry t p => Sys2Proof.Machine.execArmLimitExpiry t p s
  | .setMaintenance a on duration => Sys2Proof.Machine.execSetMaintenance a on duration s
  | .maintenanceExpiry t => Sys2Proof.Machine.execMaintenanceExpiry t s
  | .selftest a test arg => Sys2Proof.Machine.execSelftest a test arg s
  | .selftestComplete t object test step measured => Sys2Proof.Machine.execSelftestComplete t object test step measured s
  | .calibrate a cal => Sys2Proof.Machine.execCalibrate a cal s
  | .calibrationPeriod t => Sys2Proof.Machine.execCalibrationPeriod t s
  | .calibrateComplete t object cal within measured errs => Sys2Proof.Machine.execCalibrateComplete t object cal within measured errs s
  | .logRecordWrite t => Sys2Proof.Machine.execLogRecordWrite t s
  | .writeLogCursor a v => Sys2Proof.Machine.execWriteLogCursor a v s
  | .ppsEdgeMissing t => Sys2Proof.Machine.execPpsEdgeMissing t s
  | .alertPinRelease t a => Sys2Proof.Machine.execAlertPinRelease t a s
  | .tripResetRelease t tile => Sys2Proof.Machine.execTripResetRelease t tile s
  | .invalidSyncHeaders t port => Sys2Proof.Machine.execInvalidSyncHeaders t port s
  | .stageVerifyDone t => Sys2Proof.Machine.execStageVerifyDone t s
  | .modelVerifyDone t m => Sys2Proof.Machine.execModelVerifyDone t m s
  | .programVerifyDone t e => Sys2Proof.Machine.execProgramVerifyDone t e s
  | .foreignStartStop t port start => Sys2Proof.Machine.execForeignStartStop t port start s
  | .busIdleTime t port => Sys2Proof.Machine.execBusIdleTime t port s

end Sys2Proof.Machine
end

