-- ==== Sys2Proof/Safety.lean ====
section
/-! DEFINITION. What a safe run is: no command stops the block, and what its tables hold stays in canonical form. -/

namespace Sys2Proof.Machine

/-- A state from which the next step goes on. -/
def State.goesOn (s : State) : Prop := ∃ t, step s = .next t

/-- `t` is reached from `s` by steps that each go on. -/
inductive Reaches : State → State → Prop
  | here (s : State) : Reaches s s
  | later {s t u : State} : Reaches s t → step t = .next u → Reaches s u

/-- A run that never stops: every state it reaches goes on. -/
def State.safe (s : State) : Prop := ∀ t, Reaches s t → t.goesOn

/-! ### Requests that run at once -/

/-- A request that a served port receives whole and that passes every check of R102 but the last, its opcode's own of its parameters:
the state those are checked in. -/
def State.arrives (s : State) (a : Arrival) (body : Body) : Option State :=
  let s := s.tick a.t
  if !s.servedOn a.binding ∨ (s.packetCut a.binding).isSome = true then none
  else
    let s := s.feedSession a.binding
    if s.journal.lost = true ∨ s.checks a body false ≠ .ok then none else some s

/-- A request that is admitted, its opcode refusing none of its parameters (`eff` is its effect), waits for nothing, and is turned away
by no check at its dispatch (R102, R125, R129–R134): the state it is dispatched in, and its origin. -/
def State.reaches (s : State) (a : Arrival) (body : Body) (eff : State → State × Res) : Option (State × Origin) :=
  match s.arrives a body, body.op with
  | some v, some op =>
    let o := v.newOrigin a op
    let h := a.hdr
    if (eff v).2.fault.isSome = true ∨ (v.attach a o).isSome = true then none
    else
      let u := (v.enrol a o body.opcode none).when h.safety (fun s => s.noteSafety a.binding)
      if u.queues o ((classOf a.binding a.queue h.safety op).getD .bulk) = true then none
      else if u.journal.lost = true ∨ (u.nandLost = true ∧ o.op.info.changes = true ∧ (u.membership = 1 ∨ u.membership = 4))
        ∨ (h.deadline ≠ 0 ∧ h.deadline ≤ u.now) ∨ (h.condCsn ≠ 0 ∧ h.condCsn < u.lastCsnOf h.object)
        ∨ (o.op.info.changes && !meetsHold o.op && u.isHeld h.object) = true ∨ (needs o.op h).all (u.freeFor o) = false then none
      else some (u.noteDispatch o, o)
  | _, _ => none

/-- A request that is dispatched at once, and, where it changes anything, whose entry is committed at once (R130, R154): the state its
effect acts on, which holds that entry, and its origin. -/
def State.opens (s : State) (a : Arrival) (body : Body) (eff : State → State × Res) : Option (State × Origin) :=
  match s.reaches a body eff with
  | some (v, o) =>
    let u := v.entered o body
    if o.op.info.changes = true ∧ o.safety = false ∧ u.allCommitted = false then none else some (u, o)
  | none => none

/-- The index of the register a write of `p` under its own code names. -/
def writeIndex (a : Arrival) (p : P) : Nat := propIndex a.hdr.object p p.desc.code

/-- A write of property `p` under its own code that opens, with a value R137 accepts; `eff` is its effect. -/
def State.opensWrite (s : State) (a : Arrival) (p : P) (v : Int) (eff : Nat → State → State × Res) : Option (State × Origin) :=
  if writeStatus (named a p.desc.code) p p.desc.bytes v = .ok then
    s.opens (named a p.desc.code) (.setProp p.desc.bytes v) (eff (writeIndex a p))
  else none

/-- A write of property `p` under its own code that is dispatched at once, with a value R137 accepts; `eff` is its effect. -/
def State.reachesWrite (s : State) (a : Arrival) (p : P) (v : Int) (eff : Nat → State → State × Res) : Option (State × Origin) :=
  if writeStatus (named a p.desc.code) p p.desc.bytes v = .ok then
    s.reaches (named a p.desc.code) (.setProp p.desc.bytes v) (eff (writeIndex a p))
  else none

/-! ### Engine instructions -/

/-- Engine `e` is RUNNING, the legal word `w` stands at its top level's program counter, and the level's budget covers `cost` (R527,
R529, R530): the state and the level with the cost deducted and the program counter advanced. -/
def State.retires (s : State) (e : Fin 48) (w cost : Nat) : Option (State × Level) :=
  match (s.engine e.val).stack with
  | [] => none
  | l :: _ =>
    if s.get .engineState e.val = enRunning ∧ l.pc < 4096 ∧ (s.engine e.val).codeAt l.pc = w ∧ wLegal w = true ∧ cost ≤ l.budget then
      let l : Level := { l with budget := l.budget - cost, pc := l.pc + 1 }
      some (s.setTop e.val l, l)
    else none

/-! ### Frames -/

/-- The plant and what is stored are as they were: rails, domains, legs and relays, tables and runs, furls, drives and zones, the
budget's nodes, models, engines and buses, tests and points, the NOR dies, the stage and what runs of an update, and the
objects that running commands hold. -/
def State.samePlant (s t : State) : Prop :=
  t.member = s.member ∧ t.td = s.td ∧ t.tables = s.tables ∧ t.rails = s.rails ∧ t.domains = s.domains ∧ t.legs = s.legs ∧
  t.relays = s.relays ∧ t.hearings = s.hearings ∧ t.nodes = s.nodes ∧ t.rackMembers = s.rackMembers ∧ t.racks = s.racks ∧
  t.pIn = s.pIn ∧ t.telemetry = s.telemetry ∧ t.models = s.models ∧ t.fcDoms = s.fcDoms ∧ t.switches = s.switches ∧
  t.shelf = s.shelf ∧ t.nandWrites = s.nandWrites ∧ t.norWrites = s.norWrites ∧ t.nor = s.nor ∧ t.stage = s.stage ∧ t.descStore = s.descStore ∧ t.etch = s.etch ∧ t.activation = s.activation ∧
  t.roll = s.roll ∧ t.revoking = s.revoking ∧ t.wakeRec = s.wakeRec ∧ t.points = s.points ∧ t.tests = s.tests ∧
  t.recorder = s.recorder ∧ t.stipple = s.stipple ∧ t.exports = s.exports ∧ t.poison = s.poison ∧ t.buses = s.buses ∧
  t.moves = s.moves ∧ t.lockMembers = s.lockMembers ∧ t.lockGroups = s.lockGroups ∧ t.lockTable = s.lockTable ∧
  t.lockCmds = s.lockCmds ∧ t.plans = s.plans ∧ t.engines = s.engines ∧ t.progShelf = s.progShelf ∧ t.therms = s.therms ∧
  t.drives = s.drives ∧ t.zones = s.zones ∧ t.branches = s.branches ∧ t.runs = s.runs ∧ t.offRuns = s.offRuns ∧
  t.starts = s.starts ∧ t.stops = s.stops ∧ t.furls = s.furls ∧ t.furlCmds = s.furlCmds ∧ t.failures = s.failures ∧
  t.restarts = s.restarts ∧ t.holds = s.holds ∧ t.running = s.running

/-! ### Canonical tables -/

/-- A table is in its one form: keys rising, and no entry equal to what an unlisted key reads as. -/
def rowWf {α : Type} (d : Nat → α) (x : Tab α) : Prop :=
  (x.entries.map (·.1)).Pairwise (· < ·) ∧ ∀ e ∈ x.entries, e.2 ≠ d e.1

/-- The registers, the hidden registers, the timers and the memory's codewords are in their one form, so that equal registers are equal data. -/
def State.canonical (s : State) : Prop :=
  (rowWf (fun _ => {}) s.regs ∧ ∀ p : P, rowWf p.dfltAt (s.regs.get {} p.ctorIdx)) ∧
  (rowWf (fun _ => {}) s.vars ∧ ∀ x : V, rowWf (fun _ => x.dflt) (s.vars.get {} x.ctorIdx)) ∧
  (rowWf (fun _ => {}) s.timers ∧ ∀ x : T, rowWf (fun _ => none) (s.timers.get {} x.ctorIdx)) ∧ rowWf (fun _ => 0) s.codewords

end Sys2Proof.Machine
end

