-- ==== Sys2Proof/Certificates/Slice0/Obligations.lean ====
section
/-! DEFINITION. The statements about the block: its queue, its commands one by one, what they leave alone, and what every step
keeps. A request's statement is about the form that opens (`State.opens`): admitted, waiting for nothing, and turned away by no check
before its opcode's own; a command's, about the form whose conditions hold. -/

open Sys2Proof Sys2Proof.Machine

/-- A step takes the command at the front of the queue and runs it on the state whose queue is the rest. -/
def Obligations.StepRunsFrontCommand : Prop :=
  ∀ (s : State) (c : Instr) (rest : List Instr), step { s with pending := c :: rest } = exec c { s with pending := rest }

/-- With nothing waiting the block idles; that everything that happens at an instant is a command is the model's choice (log entry 1). -/
def Obligations.EmptyQueueIdles : Prop := ∀ s : State, s.pending = [] → step s = .next s

/-- No command's effect touches the queue: after any step the queue is what followed its front. -/
def Obligations.QueueIsFifo : Prop := ∀ s t : State, step s = .next t → t.pending = s.pending.tail

/-- Nothing stops the block, whatever waits in its queue: every run goes on. -/
def Obligations.NoCommandStops : Prop := ∀ s : State, s.safe

/-- After reset every register is at its default, no timer runs, and nothing is stored or waiting. Where the manual gives no reset value
the default is the model's choice (log entry 3). -/
def Obligations.ResetIsEmpty : Prop :=
  (∀ (p : P) (i : Nat), State.reset.get p i = p.dfltAt i) ∧
  (∀ (x : V) (i : Nat), State.reset.var x i = x.dflt) ∧
  (∀ (x : T) (i : Nat), State.reset.timer x i = none) ∧
  State.reset.pending = [] ∧ State.reset.waiting = [] ∧ State.reset.sessions = [] ∧ State.reset.td = none ∧
  State.reset.log.held = [] ∧ State.reset.records = [] ∧ State.reset.get .powerState 0 = psOff

/-- Reset meets the invariant every step keeps. -/
def Obligations.ResetIsCanonical : Prop := State.reset.canonical

/-- Whatever a step does, registers, hidden registers, timers and the memory's codewords stay in their one form. -/
def Obligations.CanonicalKept : Prop := ∀ s t : State, s.canonical → step s = .next t → t.canonical

/-- Standby power rises and falls, and Fore comes ready (after R38, R40 and R45). -/
def Obligations.StandbyPowerRowsComplete : Prop :=
  (∀ (s : State) (x : Straps) (f : Fuses) (n : Nor), s.get .powerState = psOff → s.var .tilePhase 0 = 0 → s.var .heldReset = 0 →
    exec (.pgStbyRise x (some f) (some n)) s = .next ((((((s.loadFuses f).loadNor n).setV .testMode 0 (if x.testMode then 1 else 0)).setV
      .smbAddr 0 x.smbAddr.val).coldStart).setV .debugSeen 0 (if x.debug then 1 else 0))) ∧
  (∀ (s : State) (x : Straps), s.get .powerState = psOff → s.var .tilePhase 0 = 0 → s.var .heldReset = 0 →
    exec (.pgStbyRise x none none) s = .next ((((s.setV .testMode 0 (if x.testMode then 1 else 0)).setV
      .smbAddr 0 x.smbAddr.val).coldStart).setV .debugSeen 0 (if x.debug then 1 else 0))) ∧
  (∀ (s : State) (t : Ns) (flushed : Nat), (s.tick t).var .tilePhase 0 ≠ 0 →
    ∃ v w : State, v = ((s.tick t).formNow.standbyLost).finishFaults ∧ exec (.pgStbyFall t flushed) s = .next w ∧
      w.get .powerState = psOff ∧ w.td = none ∧ w.sessions = [] ∧ w.running = [] ∧ w.holds = [] ∧ w.outst = [] ∧ w.waiting = [] ∧
      w.log.held = v.log.held ++ v.log.waiting.take flushed ∧ w.nor = v.nor ∧ w.var .heldReset = 0) ∧
  (∀ (s u : State) (t : Ns), u = s.tick t → u.var .tilePhase 0 = 2 → u.flag .rejoining 0 = false →
    (u.get .powerState = psOff ∨ u.get .powerState = psDeepSleep) → exec (.foreReady t) s = .next u.foreUp)

/-- The power states: writes of POWER_STATE and what moves the device between STANDBY, RUNNING and DEEP_SLEEP (after R37, R41, R43,
R46, R258, R259, R489). -/
def Obligations.PowerStateRowsComplete : Prop :=
  (∀ (s u : State) (a : Arrival) (o : Origin), s.opensWrite a .powerState psRunning (setPowerState (s.originOf a .setProp) psRunning) = some (u, o) →
    u.get .powerState = psRunning → u.var .goal < 0 → u.td.isSome →
    exec (.writePowerState a psRunning) s = .next (u.conclude u o (.st .ok))) ∧
  (∀ (s u : State) (a : Arrival) (o : Origin), s.opensWrite a .powerState psRunning (setPowerState (s.originOf a .setProp) psRunning) = some (u, o) →
    u.get .powerState = psStandby → u.td.isSome → u.var .goal < 0 →
    exec (.writePowerState a psRunning) s = .next ((({ (u.setV .goalCause 0 0) with
      powerWrites := u.powerWrites ++ [(s.originOf a .setProp, 3)] } : State).setV .goal 0 psRunning).conclude u o (.accepted []))) ∧
  (∀ (s v : State) (a : Arrival) (o : Origin), s.reachesWrite a .powerState psRunning (setPowerState (s.originOf a .setProp) psRunning) = some (v, o) →
    let w := v.entered o (.setProp P.powerState.desc.bytes psRunning)
    o.safety = false → w.allCommitted = false → w.get .powerState = psStandby → w.td.isSome → w.var .goal < 0 →
    exec (.writePowerState a psRunning) s = .next { w with unapplied := w.unapplied ++
      [⟨w.journal.assigned, named a P.powerState.desc.code, .setProp P.powerState.desc.bytes psRunning, o⟩] }) ∧
  (∀ (s u : State) (a : Arrival) (o : Origin), s.opensWrite a .powerState psStandby (setPowerState (s.originOf a .setProp) psStandby) = some (u, o) →
    u.get .powerState = psRunning → u.var .goal < 0 →
    exec (.writePowerState a psStandby) s =
      .next ((((u.setV .autoStart 0 0).setV .restartWanted 0 0).leaveRunning (s.originOf a .setProp) psStandby).1.conclude u o (.accepted []))) ∧
  (∀ (s v : State) (a : Arrival) (x : Int) (o : Origin), s.reachesWrite a .powerState x (setPowerState (s.originOf a .setProp) x) = some (v, o) →
    (v.entered o (.setProp P.powerState.desc.bytes x)).get .powerState = psRecovery →
    exec (.writePowerState a x) s = .next (v.outcome o (.st .denied) v.journal.committed)) ∧
  (∀ (s u : State) (t : Ns), u = s.tick t → u.get .powerState = psStandby → u.var .goal = psRunning → u.td.isSome →
    u.get .flowProven = 1 → (u.zonesHolding 2).isEmpty → u.flag .restart43 = false →
    exec (.enterRunning t) s = .next u.startRunning) ∧
  (∀ (s u : State) (t : Ns) (feeds : Fin 5) (lowest : Int), u = s.tick t → u.flag .mainGood = false → u.td.isSome →
    u.getN .feedsRequired ≤ feeds.val → u.inService u.leader → u.get .powerState = psStandby →
    exec (.mainPowerGood t feeds lowest) s = .next ((u.setV .mainGood 0 1).raise .mainPower oDevice [1, feeds.val, lowest])) ∧
  (∀ (s u : State) (t : Ns) (feeds : Fin 5) (lowest : Int), u = s.tick t → u.flag .mainGood = true →
    feeds.val < u.getN .feedsRequired → u.get .powerState = psStandby →
    exec (.mainPowerLost t feeds lowest) s = .next ((u.setV .mainGood 0 0).raise .mainPower oDevice [0, feeds.val, lowest])) ∧
  (∀ (s u : State) (t : Ns) (feeds : Fin 5) (lowest : Int), u = s.tick t → u.flag .mainGood = true →
    feeds.val < u.getN .feedsRequired → u.get .powerState = psRunning → exec (.mainPowerLost t feeds lowest) s =
      .next (((u.setV .mainGood 0 0).raise .mainPower oDevice [0, feeds.val, lowest]).mainFails lowest)) ∧
  (∀ (s u : State) (t : Ns), u = s.tick t → u.due .runOn → u.get .powerState = psStandby → u.var .goal = psDeepSleep →
    ∃ w : State, exec (.runOnExpiry t) s = .next w ∧ w.get .powerState = psDeepSleep ∧ w.td = none ∧ w.sessions = [] ∧
      w.waiting = [] ∧ w.running = [] ∧ w.journal = {}) ∧
  (∀ (s u : State) (t : Ns) (zone : Option (Fin 8)) (intact : Bool), u = s.tick t → u.get .powerState = psDeepSleep →
    u.var .tilePhase 0 = 0 → exec (.wakeTrigger t zone intact) s = .next (u.wake zone intact)) ∧
  (∀ (s u : State) (t : Ns) (zone : Option (Fin 8)) (intact : Bool), u = s.tick t → u.get .powerState = psStandby →
    u.var .goal = psDeepSleep →
    exec (.wakeTrigger t zone intact) s = .next (((u.disarm .runOn 0).setV .goal 0 (-1)).setV .goalCause 0 5).powerSettle)

/-- Supplies, tiles coming ready, and single-tile resets (after R48, R158, R463, R674, R750 and R754). -/
def Obligations.SupplyRowsComplete : Prop :=
  (∀ (s u : State) (t : Ns) (g : Fin 2), u = s.tick t → u.var .tilePhase (1 + g.val) = 1 → u.flag .rejoining (1 + g.val) = false →
    ∃ w : State, exec (.supplyPowerGood t g) s = .next w ∧ w.var .tilePhase (1 + g.val) = 2 ∧ w.var .bootAt (1 + g.val) = u.now ∧
      w.timer .supplyPg (1 + g.val) = none ∧ w.timer .tileReady (1 + g.val) = some (u.now + 1500 * ms)) ∧
  (∀ (s u : State) (t : Ns) (g : Fin 2), u = s.tick t → u.var .tilePhase (1 + g.val) = 1 → u.flag .rejoining (1 + g.val) →
    ∃ w : State, exec (.supplyPowerGood t g) s = .next w ∧ w.var .tilePhase (1 + g.val) = 2 ∧ w.var .bootAt (1 + g.val) = u.now ∧
      w.timer .supplyPg (1 + g.val) = none ∧ w.timer .rejoin (1 + g.val) = some (u.now + 2 * sec)) ∧
  (∀ (s u : State) (t : Ns) (g : Fin 2), u = s.tick t → u.due .supplyPg (1 + g.val) → u.var .tilePhase (1 + g.val) = 1 →
    exec (.supplyPgTimeout t g) s = settled (.next (if u.flag .rejoining (1 + g.val) then u.rejoinFails (1 + g.val) 1 1
      else u.notReady (1 + g.val) 1))) ∧
  (∀ (s u : State) (t : Ns) (g : Fin 2), u = s.tick t → u.padOf (if 1 + g.val = 1 then outVddm else outVddz) = 1 →
    u.var .tilePhase (1 + g.val) = 3 → exec (.supplyPgFall t g) s = settled (.next (u.supplyLost (1 + g.val)))) ∧
  (∀ (s u : State) (t : Ns) (g : Fin 2) (p : Nat), u = s.tick t → u.var .tilePhase (1 + g.val) = 2 →
    u.flag .rejoining (1 + g.val) = false → u.flag .tileReset (1 + g.val) = false → u.flag .electing = false →
    u.get .powerState = psRunning → u.imageFor (1 + g.val) = some p →
    exec (.tileReady t g) s = .next (((((u.disarm .tileReady (1 + g.val)).setV .bootPlate (1 + g.val) p).joinTile
      (1 + g.val)).tileBooted (1 + g.val)).restorePrograms (1 + g.val)).planHome.step8) ∧
  (∀ (s u : State) (t : Ns) (g : Fin 2), u = s.tick t → u.due .tileReady (1 + g.val) → u.var .tilePhase (1 + g.val) = 2 →
    exec (.tileReadyTimeout t g) s = .next (u.notReady (1 + g.val) 7)) ∧
  (∀ (s u : State) (t : Ns), u = s.tick t → u.var .tilePhase 0 = 3 → u.var .tilePhase 1 = 3 → u.var .heldReset = 0 →
    exec (.coreUndervoltage t 1) s = settled (.next (u.supplyLost 1))) ∧
  (∀ (s u : State) (t : Ns), u = s.tick t → u.var .tilePhase 0 = 3 → u.var .tilePhase 1 = 0 → u.var .tilePhase 2 = 0 →
    u.var .heldReset = 0 → exec (.coreUndervoltage t 0) s = settled (.next (u.holdReset 1))) ∧
  (∀ (s u : State) (t : Ns), u = s.tick t → u.var .heldReset = 1 →
    exec (.coreUndervoltageClear t) s = .next (u.setV .heldReset 0 0).coldStart) ∧
  (∀ (s u : State) (t : Ns), u = s.tick t → u.var .heldReset = 2 →
    exec (.tripResetRelease t 0) s = .next (u.setV .heldReset 0 0).coldStart) ∧
  (∀ (s u : State) (t : Ns) (x : Fin 3), u = s.tick t → u.var .heldReset = 0 →
    ∃ w : State, exec (.tripResetRelease t x) s = .next w ∧ w.var .tileReset x.val = 0)

/-- Paces and clocks (after R55, R66–R70, R84, R85, R466). -/
def Obligations.ReferenceClockRowsComplete : Prop :=
  (∀ (s u : State) (t : Ns) (x : Fin 3) (a b c d : Nat), u = s.tick t → u.votes x.val → u.injected (0x044 + 16 * x.val) = none →
    ∃ v : State, v = (u.spend (0x044 + 16 * x.val)).keepPace x.val (min (min a b) (min c d) * 1000) ∧
      v.var .paceNow x.val = (min (min a b) (min c d) * 1000 : Nat) ∧ v.var .paceSeen x.val = 1 ∧
      exec (.paceWindow t x a b c d) s = .next (v.judgePaces x.val)) ∧
  (∀ (s u : State) (a : Arrival) (v : Int) (o : Origin), s.opensWrite a .paceMin v (setPaceMin v) = some (u, o) →
    exec (.writePaceMin a v) s = .next ((u.put .paceMin (writeIndex a .paceMin) (u.var .paceNow (writeIndex a .paceMin))).conclude u o
      (.st .ok))) ∧
  (∀ (s u : State) (t : Ns) (cause : Fin 2), u = s.tick t → u.inService 0 → u.flag .oscUse 0 = false →
    ∃ w : State, exec (.refclkLost t cause) s = .next w ∧ w.var .oscUse 0 = 1 ∧
      w = ((u.putRefclk false).loopMoves 0).raise .refclkLost (oTile 0) [cause.val]) ∧
  (∀ (s u : State) (t : Ns) (offset : Int), u = s.tick t → u.inService 0 → u.flag .oscUse 0 → u.acts 0x040 = false →
    exec (.refclkRestored t offset) s =
      .next (((u.loopBack 0).putRefclk true).raise .refclkRestored (oTile 0) [offset])) ∧
  (∀ (s u : State) (t : Ns) (g : Fin 2), u = s.tick t → u.inService (1 + g.val) → u.flag .oscUse (1 + g.val) = false →
    exec (.forwardedRefLost t g) s = .next (u.loopMoves (1 + g.val))) ∧
  (∀ (s u : State) (t : Ns) (x : Fin 3) (ppb : Int), u = s.tick t → u.inService x.val → u.flag .oscUse x.val = false →
    u.validTemp (24 * x.val) = none →
    ∃ w : State, exec (.oscOffsetMeasure t x ppb) s = .next w ∧ w.var .oscOffset x.val = ppb ∧ 0 ≤ w.var .oscMeasured x.val) ∧
  (∀ (s u : State) (t : Ns), u = s.tick t → exec (.compensationUpdate t) s = .next ((u.each u.tilesIn (fun s x =>
    match s.validTemp (24 * x) with
    | some temp => (s.whole (s.compAt .compOsc (32 * x) temp)).2.put .oscComp x (s.whole (s.compAt .compOsc (32 * x) temp)).1
    | none => s)).holdRate)) ∧
  (∀ (s u : State) (t : Ns) (x : Fin 3), u = s.tick t → u.inService x.val → u.flag .guardFallback x.val = false →
    ∃ w : State, exec (.guardClockFallback t x) s = .next w ∧ w.var .guardFallback x.val = 1) ∧
  (∀ (s u : State) (t : Ns) (x : Fin 3), u = s.tick t → u.flag .guardFallback x.val → u.acts (0x043 + 16 * x.val) = false →
    ∃ w : State, exec (.guardClockRestored t x) s = .next w ∧ w.var .guardFallback x.val = 0) ∧
  (∀ (s u : State) (t : Ns) (x : Fin 3) (k : Fin 10), u = s.tick t → u.inService x.val → u.member.island x.val k.val →
    (u.varN .islandDown (16 * x.val + k.val)).testBit 0 = false → exec (.islandClockStopped t x k) s =
      .next ((u.raise .islandClockStopped (oTile x.val) [x.val, k.val]).islandReset x.val k.val 1)) ∧
  (∀ (s u : State) (t : Ns) (x : Fin 3) (k : Fin 10), u = s.tick t → u.injected (0x041 + 16 * x.val) = none →
    exec (.islandClockResumed t x k) s = .next (u.islandFree x.val k.val 1))

/-- Common time, crossings and privileged signals (after R72, R74, R82, R86–R90). -/
def Obligations.CommonTimeRowsComplete : Prop :=
  (∀ (s u : State) (a : Arrival) (v : Int) (o : Origin), s.opensWrite a .commonTime v (setCommonTime v) = some (u, o) → u.timeSource < 2 →
    exec (.writeCommonTime a v) s = .next (((u.correct (v - u.now)).putTime 1 1 u.hopsFree 4294967295).conclude u o (.st .ok))) ∧
  (∀ (s v : State) (a : Arrival) (x : Int) (o : Origin), s.reachesWrite a .commonTime x (setCommonTime x) = some (v, o) →
    2 ≤ (v.entered o (.setProp P.commonTime.desc.bytes x)).timeSource →
    exec (.writeCommonTime a x) s = .next (v.outcome o (.st .denied) v.journal.committed)) ∧
  (∀ (s u : State) (t : Ns), u = s.tick t → u.isMasthead → u.tilesIn ≠ [] → u.timeState = 2 → u.timeSource = 3 →
    u.now % sec ≤ 1000 → exec (.ppsEdge t) s = .next ((u.setV .ppsMiss 0 0).correct (-((u.now % sec : Nat) : Int)))) ∧
  (∀ (s u : State) (t : Ns), u = s.tick t → u.isMasthead → u.tilesIn ≠ [] → u.timeState = 2 → u.timeSource = 3 →
    1000 < u.now % sec → u.now % sec ≤ sec / 2 → exec (.ppsEdge t) s = .next u.ppsFault) ∧
  (∀ (s u : State) (t : Ns), u = s.tick t → u.timeState = 2 → u.timeSource = 3 → exec (.ppsEdgeMissing t) s = .next u.ppsFault) ∧
  (∀ (s u : State) (t : Ns), u = s.tick t → u.timeState = 3 → u.get .holdoverLimit < u.timeError →
    exec (.holdoverLimitReached t) s = .next (u.putTime 1 0 u.hopsFree 4294967295)) ∧
  (∀ (s u : State) (t : Ns) (c : Crossing) (since : Ns), u = s.tick t → u.inService c.tile.val → u.var .crossing c.id = crActive →
    u.crossLimit c since ≤ ((u.now - since : Nat) : Int) →
    exec (.crossingTimeout t c since false) s =
      .next (match c.far with
        | some x => ((u.raise .crossingTimeout (oTile c.tile.val) [c.id, (u.now - since : Nat)]).drainCrossing c.id).requestFence
            c.tile.val x 8
        | none => (u.raise .crossingTimeout (oTile c.tile.val) [c.id, (u.now - since : Nat)]).drainCrossing c.id)) ∧
  (∀ (s u : State) (t : Ns) (c : Crossing), u = s.tick t → u.inService c.tile.val →
    exec (.crossingFarReset t c) s = .next (u.drainCrossing c.id)) ∧
  (∀ (s u : State) (t : Ns) (c : Crossing) (n : Nat), u = s.tick t → u.var .crossing c.id = crDraining →
    ∃ w : State, exec (.crossingDrained t c n) s = .next w ∧ w.var .crossing c.id = crFlushed ∧
      w.var .crossingLost c.id = (u.varN .crossingLost c.id + n : Nat)) ∧
  (∀ (s u : State) (t : Ns) (c : Crossing), u = s.tick t → u.var .crossing c.id = crFlushed → u.farReady c →
    exec (.crossingRearm t c) s = .next ((u.setV .crossing c.id crRearm).tokens c)) ∧
  (∀ (s u : State) (t : Ns) (x : Fin 3) (g : PrivSignal) (on : Bool), u = s.tick t → u.inService x.val →
    exec (.privilegedSignal t x g on) s = .next (u.privileged x.val g on))

/-- Reading, writing, snapshots and watches (after R137–R140). That a new watch's last value is that of its creation is the model's
choice (log entry 242). -/
def Obligations.PropertyRequestsComplete : Prop :=
  (∀ (s u : State) (a : Arrival) (o : Origin) (p : P), s.opens a .getProp (doGetProp a) = some (u, o) →
    findProp a.hdr.object a.hdr.property = some p →
    exec (.getProp a) s = .next (u.conclude u o (.done .ok (u.propFields a.hdr.object p (propIndex a.hdr.object p a.hdr.property)
      (match u.sessionAt a.binding with | some x => x.id | none => 0))))) ∧
  (∀ (s v : State) (a : Arrival), s.arrives a .getProp = some v → findProp a.hdr.object a.hdr.property = none →
    exec (.getProp a) s = .next (v.refuse a .getProp .propUnknown)) ∧
  (∀ (s u : State) (a : Arrival) (o : Origin) (len : Nat) (v : Int) (p : P), s.opens a (.setProp len v) (doSetProp a len v) = some (u, o) →
    findProp a.hdr.object a.hdr.property = some p → writeStatus a p len v = .ok →
    let x := setEffect a (u.originOf a .setProp) p v (propIndex a.hdr.object p a.hdr.property) u
    x.2.commits = true → exec (.setProp a len v) s = settled (.next (x.1.conclude u o x.2).settleHandovers)) ∧
  (∀ (s w : State) (a : Arrival) (len : Nat) (v : Int) (p : P), s.arrives a (.setProp len v) = some w →
    findProp a.hdr.object a.hdr.property = some p → writeStatus a p len v ≠ .ok →
    exec (.setProp a len v) s = settled (.next (w.refuse a (.setProp len v) (writeStatus a p len v)).settleHandovers)) ∧
  (∀ (s u : State) (a : Arrival) (o : Origin) (items : List SnapItem), s.opens a (.getSnapshot items) (doGetSnapshot a items) = some (u, o) →
    items ≠ [] → items.length ≤ 256 →
    let w := u.tick (latchAfter u.now)
    let body := items.flatMap (fun m => itemFields (w.snapItem (w.sessionAt a.binding) m))
    16 + recordLen body ≤ 4060 →
    exec (.getSnapshot a items) s = .next (w.conclude u o (.done .ok ([u64 w.now, u32 items.length, rsv 4] ++ body)))) ∧
  (∀ (s u : State) (a : Arrival) (o : Origin) (minUs maxUs : Nat) (delta : Int) (x : Session) (p : P),
    s.opens a (.watch 0 minUs delta maxUs) (doWatch a 0 minUs delta maxUs) = some (u, o) → u.sessionAt a.binding = some x →
    findProp a.hdr.object a.hdr.property = some p → 100 ≤ minUs → minUs ≤ 60000000 → p.desc.bytes ≤ 8 →
    x.watches.length < 256 → (u.sessions.map (·.watches.length)).sum < 4096 →
    let i := propIndex a.hdr.object p a.hdr.property
    exec (.watch a 0 minUs delta maxUs) s = .next (((u.countV .nextWatch 0).modSession x.id (fun y => { y with
      watches := y.watches ++ [{ id := u.varN .nextWatch, object := a.hdr.object, prop := p, index := i, minUs, delta, maxUs,
                                 last := u.readNum a.hdr.object p i x.id, lastAt := u.now }] })).conclude u o
      (.done .ok [u32 (u.varN .nextWatch)]))) ∧
  (∀ (s u : State) (a : Arrival) (o : Origin) (id maxUs : Nat) (delta : Int) (x : Session) (p : P),
    s.opens a (.watch id 0 delta maxUs) (doWatch a id 0 delta maxUs) = some (u, o) → u.sessionAt a.binding = some x →
    findProp a.hdr.object a.hdr.property = some p → p.desc.bytes ≤ 8 → id ≠ 0 → x.watches.any (fun w => w.id = id) = true →
    exec (.watch a id 0 delta maxUs) s = .next ((u.modSession x.id (fun y => { y with
      watches := y.watches.filter (fun w => w.id ≠ id) })).conclude u o (.done .ok [u32 id]))) ∧
  (∀ (s u : State) (t : Ns) (session id : Nat) (x : Session) (w : Watch), u = s.tick t → u.session session = some x →
    x.watches.find? (fun y => y.id = id) = some w → u.watchHolds session w →
    let v := u.readNum w.object w.prop w.index session
    exec (.watchReport t session id) s = .next ((u.modSession session (fun x => { x with watches := x.watches.map (fun y =>
      if y.id = id then { y with last := v, lastAt := u.now } else y) })).raise .propertyChanged w.object
      [id, w.object, w.prop.desc.code, v]))

/-- Sessions and events (after R119–R122, R141–R145, R223–R228). -/
def Obligations.SessionRequestsComplete : Prop :=
  (∀ (s u : State) (a : Arrival) (o : Origin) (minor offer : Nat), s.opens a (.negotiate 2 minor offer) (doNegotiate a 2 minor offer) = some (u, o) →
    u.sessions.length < 32 →
    let id := u.varN .nextSession
    let token := u.drawRandom.1 % 2 ^ 64
    let word := offer &&& u.drawRandom.2.featuresUp
    let v : State := { u.drawRandom.2.setV .nextSession 0 (id + 1) with
      sessions := u.drawRandom.2.sessions ++ [({ id, token, features := word } : Session)] }
    let v : State := ((v.bind a.binding id).arm .sessionIdle id (v.getN .sessionTimeout * sec)).raise .sessionOpened oDevice
      [id, a.binding.cls.code, a.binding.port]
    exec (.negotiate a 2 minor offer) s = .next (v.conclude u o (.done .ok ([u8 2, u8 0, rsv 2, u32 id, u64 token, u64 word, rsv 8]
      ++ v.capFields)))) ∧
  (∀ (s u : State) (a : Arrival) (o : Origin) (id token : Nat) (x : Session), s.opens a (.hello id token) (doHello a id token) = some (u, o) →
    u.session id = some x → x.token = token →
    let v : State := (u.bind a.binding id).arm .sessionIdle id (u.getN .sessionTimeout * sec)
    exec (.hello a id token) s = .next (v.conclude u o (.st .ok))) ∧
  (∀ (s v : State) (a : Arrival) (o : Origin) (id token : Nat) (x : Session), s.reaches a (.hello id token) (doHello a id token) = some (v, o) →
    (v.entered o (.hello id token)).session id = some x → x.token ≠ token →
    exec (.hello a id token) s = .next (v.outcome o (.st .unknownSession) v.journal.committed)) ∧
  (∀ (s u : State) (a : Arrival) (o : Origin), s.opens a .keepalive (doKeepalive a) = some (u, o) → a.binding.cls.isHost →
    exec (.keepalive a) s = .next (u.hostAlive.conclude u o (.st .ok))) ∧
  (∀ (s u : State) (a : Arrival) (o : Origin) (x : Session), s.opens a .close (doClose a) = some (u, o) → u.sessionAt a.binding = some x →
    exec (.close a) s = .next ((u.endSession x.id 0).conclude u o (.st .ok))) ∧
  (∀ (s u : State) (t : Ns) (id : Nat), u = s.tick t → u.due .sessionIdle id → (u.session id).isSome →
    exec (.sessionTimeout t id) s = .next (u.endSession id 1)) ∧
  (∀ (s u : State) (a : Arrival) (o : Origin) (port queue tag : Nat) (x : Session) (r : Recent),
    s.opens a (.recall port queue tag) (doRecall a port queue tag) = some (u, o) → u.sessionAt a.binding = some x →
    x.recent.find? (fun r => r.port = port && r.queue = queue && r.tag = tag) = some r →
    exec (.recall a port queue tag) s = .next (u.conclude u o (.done .ok [u16 r.phase,
      u16 (if r.phase = 3 then r.status else 0xFFFF), rsv 4, u64 r.csn]))) ∧
  (∀ (s u : State) (a : Arrival) (o : Origin) (mask : Nat) (x : Session), s.opens a (.subscribe mask) (doSubscribe a mask) = some (u, o) →
    u.sessionAt a.binding = some x → a.hdr.property = 0 →
    exec (.subscribe a mask) s = .next ((u.modSession x.id (fun y => { y with mask := gateMask y.features (mask % 2 ^ 1024) })).conclude u o
      (.st .ok))) ∧
  (∀ (s u : State) (a : Arrival) (o : Origin) (ack count : Nat) (x : Session), s.opens a (.readEvents ack count) (doReadEvents a ack count) = some (u, o) →
    u.sessionAt a.binding = some x → 1 ≤ count → count ≤ 63 →
    let v : State := (u.modSession x.id (fun y => { y with buffer := y.buffer.filter (fun r => decide (ack ≤ r.seq)) })).drainBacklog x.id
    let l := ((v.session x.id).map (·.buffer)).getD [] |>.take count
    exec (.readEvents a ack count) s = .next ((v.modSession x.id (fun y => { y with readTo := max y.readTo (match l.getLast? with
      | some r => r.seq + 1
      | none => x.readTo) })).conclude u o (.done .ok (eventArray l)))) ∧
  (∀ (s u : State) (t : Ns) (id : Nat) (x : Session), u = s.tick t → u.session id = some x → (u.timer .eventNotice id).isSome →
    let l := x.buffer.filter (fun r => decide (x.noticed ≤ r.seq))
    l.length ≤ 63 →
    let v : State := u.each (x.bindings.filter (fun b => b.cls = .ethernet)) (fun s b =>
      match b with | .eth p n => (s.ethSent p.val n (s.noticePacket l).packet.length).send (.reply b (s.noticePacket l)) | _ => s)
    exec (.eventNotice t id) s = .next ((v.modSession id (fun y => { y with noticed := match l.getLast? with
      | some r => r.seq + 1
      | none => x.noticed })).disarm .eventNotice id))

/-- The PCIe rings (after R17, R111–R115, R143, R144). -/
def Obligations.RingRowsComplete : Prop :=
  (∀ (s u : State) (t : Ns) (ep : Fin 2) (q : Fin 64) (tail : Nat), u = s.tick t → u.epUp ep.val →
    tail % 256 ≤ ((u.endpoint ep.val).qp q.val).sizeM1 →
    exec (.sqDoorbell t ep q tail) s = .next (u.modQp ep.val q.val (fun x => { x with sqTail := tail % 256 }))) ∧
  (∀ (s u : State) (t : Ns) (ep : Fin 2) (q : Fin 64) (tail : Nat), u = s.tick t → u.epUp ep.val →
    ((u.endpoint ep.val).qp q.val).sizeM1 < tail % 256 → exec (.sqDoorbell t ep q tail) s = .next (u.queueError ep.val q.val 4)) ∧
  (∀ (s u : State) (t : Ns) (ep : Fin 2) (q : Fin 64) (e : SqEntry) (hdr : Header) (body : Body), u = s.tick t →
    u.mayFetch ep q.val → malformedEntry e = false → e.packet = .packet hdr body →
    let x := (u.endpoint ep.val).qp q.val
    let v : State := u.modQp ep.val q.val (fun x => { x with fetch := if x.fetch = x.sizeM1 then 0 else x.fetch + 1 })
    let hdr : Header := { hdr with packetLen := e.reqLen }
    let a : Arrival := { t, binding := .ring ep, queue := q.val, slot := x.fetch, replySize := e.replySize, noWrite := e.noWrite, hdr }
    exec (.sqFetch t ep q e) s = .next ((v.takeTurn ep q.val).arriveAt a body)) ∧
  (∀ (s u : State) (t : Ns) (ep : Fin 2) (q : Fin 64) (head : Nat), u = s.tick t → u.epUp ep.val →
    head % 256 ≤ ((u.endpoint ep.val).qp q.val).sizeM1 →
    let x := (u.endpoint ep.val).qp q.val
    let freed := (head % 256 + (x.sizeM1 + 1) - x.cqHead) % (x.sizeM1 + 1)
    exec (.cqDoorbell t ep q head) s =
      .next ((u.modQp ep.val q.val (fun y => { y with cqHead := head % 256, unread := y.unread - freed })).flush)) ∧
  (∀ (s u : State) (t : Ns) (ep : Fin 2) (head : Nat), u = s.tick t → u.epUp ep.val →
    let size := (u.endpoint ep.val).evqSize
    let freed := (head % size + size - (u.endpoint ep.val).evqHead % size) % size
    exec (.evqDoorbell t ep head) s =
      .next (u.modEndpoint ep.val (fun e => { e with evqHead := head % size, evqUnread := e.evqUnread - freed })).drainAll) ∧
  (∀ (s u : State) (t : Ns) (ep : Fin 2) (q : Fin 64) (vector sizeM1 : Nat), u = s.tick t → u.epUp ep.val → u.epReady ep.val →
    ((u.endpoint ep.val).qp q.val).enable = false → 1 ≤ sizeM1 → sizeM1 ≤ 255 → vector ≤ 63 →
    ((u.endpoint ep.val).qp q.val).sqBase % 64 = 0 → ((u.endpoint ep.val).qp q.val).cqBase % 64 = 0 →
    exec (.qpEnable t ep q vector sizeM1) s = .next ((u.modQp ep.val q.val (fun x => { x with
      vector := vector % 256, sizeM1 := sizeM1 % 256, enable := true })).modQp ep.val q.val (fun x => { x with
      error := 0, sqTail := 0, fetch := 0, cqTail := 0, cqHead := 0, unread := 0, phase := true }))) ∧
  (∀ (s u : State) (t : Ns) (ep : Fin 2) (q : Fin 64), u = s.tick t → ((u.endpoint ep.val).qp q.val).enable →
    exec (.qpDisable t ep q) s = .next (u.disableQp ep q.val)) ∧
  (∀ (s u : State) (t : Ns) (ep : Fin 2), u = s.tick t → u.epUp ep.val →
    let v : State := u.modEndpoint ep.val (fun e => { e with evqEnable := false, resetBusy := true })
    exec (.resetQueues t ep) s = .next (((v.each (List.range 64) (fun s q =>
      if ((s.endpoint ep.val).qp q).enable then s.disableQp ep q else s)).resetDone ep.val).drainAll)) ∧
  (∀ (s u : State) (t : Ns) (ep : Fin 2), u = s.tick t → u.epUp ep.val → (u.endpoint ep.val).evqEnable = false →
    exec (.evqEnable t ep true) s = .next (u.modEndpoint ep.val (fun e => if true && !e.evqEnable then
      { e with evqEnable := true, evqTail := 0, evqHead := 0, evqUnread := 0, evqPhase := true } else { e with evqEnable := true })).drainAll) ∧
  (∀ (s u : State) (t : Ns) (ep : Fin 2), u = s.tick t → u.epUp ep.val →
    exec (.evqEnable t ep false) s = .next (u.modEndpoint ep.val (fun e => { e with evqEnable := false })).drainAll) ∧
  (∀ (s u : State) (t : Ns) (ep : Fin 2) (v : Nat), u = s.tick t → u.epUp ep.val →
    exec (.registerWrite t ep .evqBase v) s = .next (u.modEndpoint ep.val (fun e => { e with evqBase := v / 64 * 64 % 2 ^ 64 })))

/-- Dispatch and waiting (after R101, R117, R125–R129). -/
def Obligations.WaitingRowsComplete : Prop :=
  (∀ (s u : State) (t : Ns), u = (s.tick t).committedNow → u.dispatchHeld = false →
    let n := u.waiting.length
    let v : State := (u.dispatchSafety n).dispatchAged n
    exec (.dispatchRound t) s =
      settled (.next (((v.classTurn 1 .control).classTurn 2 .manage).classTurn 3 .bulk).settleHandovers)) ∧
  (∀ (s u : State) (t : Ns), u = (s.tick t).committedNow → u.dispatchHeld → exec (.dispatchRound t) s = .next u) ∧
  (∀ (s u : State) (t : Ns) (b : Binding) (tag p : Nat), u = s.tick t → hostPort b = some p → u.get .crcErrors p < 4294967295 →
    ∃ w : State, exec (.gantlineCrcError t b tag) s = .next w ∧ w.get .crcErrors p = u.get .crcErrors p + 1) ∧
  (∀ (s u : State) (t : Ns) (k : Nat) (x : ResWait), u = s.tick t → u.resWaits[k]? = some x → x.since + 10 * ms ≤ u.now →
    exec (.resourceWaitTimeout t k) s =
      .next (((({ u with resWaits := u.resWaits.eraseIdx k } : State).unhold x.origin).answer x.origin .busy [] u.journal.committed).settleUpdate)) ∧
  (∀ (s u : State) (t : Ns) (b : Binding) (tag : Nat) (x : Outst) (d : Ns), u = s.tick t →
    u.outst.find? (fun o => o.origin.binding = b && o.origin.tag = tag && o.reply.isNone) = some x → x.dueMctp = some d → d ≤ u.now →
    let v : State := ({ u with running := u.running ++ [x.origin] } : State).modSession x.origin.session (fun y => { y with running := y.running + 1 })
    exec (.mctpInterimTimeout t b tag) s = .next (v.answer x.origin .accepted [] (v.replyCsn x.origin) false))

/-- The target ports (after R116, R621, R624–R628). The numbers of the MCTP control commands are those of log entry 35. -/
def Obligations.TargetPortRowsComplete : Prop :=
  (∀ (s u : State) (t : Ns) (m : Fin 4) (seq : Fin 4) (tag src len : Nat) (x : MctpBody), u = s.tick t → u.hearsMctp m → len ≤ 64 →
    exec (.mctpPacket t m true true true seq tag src len x) s =
      .next ((u.modWin m.val (fun w => { w with mctp := none, peer := src })).takeMctp (mctpBinding m) len x)) ∧
  (∀ (s u : State) (t : Ns) (m : Fin 4) (seq : Fin 4) (tag src : Nat) (x : MctpBody), u = s.tick t → u.hearsMctp m →
    exec (.mctpPacket t m true true false seq tag src 64 x) s =
      .next (u.modWin m.val (fun w => { w with mctp := some ((seq.val + 1) % 4, tag, 64) }))) ∧
  (∀ (s u : State) (t : Ns) (m : Fin 4) (som eom : Bool) (seq : Fin 4) (tag src len : Nat) (x : MctpBody), u = s.tick t →
    u.hearsMctp m → m.val < 2 → exec (.mctpPacket t m false som eom seq tag src len x) s = .next (u.count .pecErrors (32 + m.val))) ∧
  (∀ (s u : State) (t : Ns) (k : Fin 2), u = s.tick t → u.answers k.val → (u.win k.val).retries = 0 →
    ∃ w : State, exec (.mctpSendRetry t k false) s = .next w ∧ (w.win k.val).retries = 1 ∧
      w.timer .mctpRetry k.val = some (u.now + ms) ∧ w.outbox = u.outbox ++ [.bus (32 + k.val) 2 [(u.win k.val).peer, 1]]) ∧
  (∀ (s u : State) (t : Ns) (m : Fin 4) (eid : Nat), u = s.tick t → u.inService (mctpBinding m).tile → u.flag .serving → 8 ≤ eid →
    eid < 255 → ∃ w : State, exec (.mctpSetEndpointId t m 0 eid) s = .next w ∧ w.var .mctpEid m.val = eid ∧
      w.outbox = u.outbox ++ [.mctp (mctpBinding m) 1 [0, 0, eid, 0]]) ∧
  (∀ (s u : State) (t : Ns) (m : Fin 4), u = s.tick t → u.inService (mctpBinding m).tile → u.flag .serving →
    exec (.mctpGetEndpointId t m) s = .next (u.send (.mctp (mctpBinding m) 2 [0, u.var .mctpEid m.val, 0, 0])) ∧
    exec (.mctpGetMessageTypeSupport t m) s = .next (u.send (.mctp (mctpBinding m) 5 [0, 1, 0x7E])) ∧
    (∃ v : Int, exec (.mctpGetVersionSupport t m 0x7E) s = .next (u.draw.2.send (.mctp (mctpBinding m) 4 [0, 1, v]))) ∧
    (∃ v : Int, exec (.mctpGetVendorMessageSupport t m 0) s =
      .next (u.draw.2.send (.mctp (mctpBinding m) 6 [0, 0xFF, 0, Config.pciVendor % 65536, v])))) ∧
  (∀ (s u : State) (t : Ns) (k : Fin 2) (p : Fin 65536) (data : List Nat), u = s.tick t → u.answers k.val → u.windowPec k.val = false →
    winAcked (p.val / 64) p.val data = data.length →
    exec (.windowWrite t k (some p) data true) s =
      .next (((u.setPtr k.val p.val).modWin k.val (fun w => { w with ptr := (p.val + data.length) % 65536 })).modWin k.val (fun w =>
        { w with request := storeWin w.request p.val data }))) ∧
  (∀ (s u : State) (t : Ns) (k : Fin 2) (p : Fin 65536) (n : Nat), u = s.tick t → u.answers k.val →
    ∃ w : State, exec (.windowRead t k (some p) n) s = .next w ∧ (w.win k.val).ptr = (p.val + n) % 65536) ∧
  (∀ (s u : State) (t : Ns) (k : Fin 2) (kind : Fin 2) (bit : Fin 10) (p : Option (Fin 65536)) (n : Nat), u = s.tick t →
    u.answers k.val → u.get .illegalConds (32 + k.val) < 4294967295 →
    ∃ w : State, exec (.targetIllegalCond t k kind bit (.read p n)) s = .next w ∧
      w.get .illegalConds (32 + k.val) = u.get .illegalConds (32 + k.val) + 1) ∧
  (∀ (s u : State) (t : Ns) (k : Fin 2) (h : Header) (b : Body), u = s.tick t → u.answers k.val →
    u.outst.any (fun (o : Outst) => o.admitted && decide (o.dest = .smbus k)) = false → exec (.mbxSubmit t k (.packet h b)) s =
      .next ((u.modWin k.val (fun w => { w with status := 1 })).takePacket (.smbus k) 1 (.packet h b))) ∧
  (∀ (s u : State) (t : Ns) (k : Fin 2), u = s.tick t → u.answers k.val → (u.win k.val).status = 2 →
    exec (.mbxFree t k) s = .next (u.modWin k.val (fun w => { w with status := 0, reply := [] })))

/-- Keys, evidence and Ethernet sessions (after R665, R681–R685). -/
def Obligations.SecureRowsComplete : Prop :=
  (∀ (s u : State) (t : Ns) (i : Fin 6) (ec ml : Nat), u = s.tick t → u.flag .testMode → u.var .tilePhase 0 = 1 → 4 ≤ i.val →
    u.keyEc i.val = 0 → ec % 2 ^ 384 ≠ 0 → u.flag .dualSign = false →
    ∃ w : State, exec (.keySlotProgram t i ec ml) s = .next w ∧ w.var .keyEcFuse i.val = (ec % 2 ^ 384 : Nat) ∧
      w.var .keyMlFuse i.val = (ml % 2 ^ 384 : Nat)) ∧
  (∀ (s u : State) (a : Arrival) (o : Origin), s.opens a .readKeys (doReadKeys a) = some (u, o) → objCls a.hdr.object = 0xFF →
    exec (.readKeys a) s = .next (u.conclude u o (.done .ok ((List.range 6).flatMap (fun i => [u8 (u.keyState i), rsv 3, ⟨48, u.keyEc i⟩])
      ++ [u16 (u.get .svnFloor), u8 (if u.flag .dualSign then 1 else 0), rsv 1])))) ∧
  (∀ (s u : State) (a : Arrival) (o : Origin) (tile index offset : Nat) (nonce : List Nat),
    s.opens a (.attest tile index offset nonce) (doAttest a tile index offset nonce) = some (u, o) → objCls a.hdr.object = 0xFF → tile ≤ 2 → u.inService tile →
    a.hdr.property = 0 → nonce.length = 48 →
    exec (.attest a tile index offset nonce) s =
      .next ((u.evidence tile (leValue nonce)).2.conclude u o (.done .ok (u.evidence tile (leValue nonce)).1))) ∧
  (∀ (s v : State) (a : Arrival) (o : Origin) (tile index offset : Nat) (nonce : List Nat),
    s.reaches a (.attest tile index offset nonce) (doAttest a tile index offset nonce) = some (v, o) → objCls a.hdr.object = 0xFF → tile ≤ 2 →
    (v.entered o (.attest tile index offset nonce)).inService tile = false →
    exec (.attest a tile index offset nonce) s = .next (v.outcome o (.st .notPresent) v.journal.committed)) ∧
  (∀ (s u : State) (t : Ns) (p : Fin 2) (op : Nat), u = s.tick t → u.ethServed p.val → op ≤ 7 → u.ethShakes.length < 8 →
    u.ethCount p.val < 16 →
    ∃ w : State, exec (.ethInit t p (u.getN .udpPort) true op) s = .next w ∧
      w.ethShakes = u.ethShakes ++ [{ port := p.val, session := (u.countV .ethNext 0).varN .ethNext, operator := op, due := u.now + sec }]) ∧
  (∀ (s u : State) (t : Ns) (p : Fin 2) (n : Nat) (x : EthShake) (d : TrayDesc), u = s.tick t →
    u.ethShakes.find? (fun y => y.port = p.val ∧ y.session = n ∧ u.now < y.due) = some x → u.ethServed p.val → u.td = some d →
    x.operator ∈ d.operators → u.ethCount p.val < 16 →
    exec (.ethFinish t p n true true) s =
      .next (({ u with ethShakes := u.ethShakes.erase x,
                       ethSessions := u.ethSessions ++ [{ port := p.val, session := n, opened := u.now }] } : State).countEth)) ∧
  (∀ (s u : State) (t : Ns) (p : Fin 2) (n seq : Nat) (e : EthSess) (h : Header) (b : Body), u = s.tick t → u.ethAt p.val n = some e →
    u.ethServed p.val → e.fresh seq → e.got < 2 ^ 32 → u.acts (0x254 + p.val) = false →
    let v : State := { u with ethSessions := u.ethSessions.map (fun y => if y = e then e.accept seq else y) }
    exec (.ethData t p n seq true true (.packet h b)) s = .next (v.arriveAt { t, binding := .eth p n, queue := h.queue, hdr := h } b)) ∧
  (∀ (s u : State) (t : Ns) (p : Fin 2) (n : Nat), u = s.tick t →
    ∃ w : State, exec (.ethHandshakeExpiry t p n) s = .next w ∧
      ∀ x ∈ w.ethShakes, x ∈ u.ethShakes ∧ ¬ (x.port = p.val ∧ x.session = n ∧ x.due ≤ u.now)) ∧
  (∀ (s u : State) (t : Ns) (p : Fin 2) (n : Nat) (e : EthSess), u = s.tick t → u.ethAt p.val n = some e →
    e.opened + 86400 * sec ≤ u.now → exec (.ethSessionExpiry t p n) s = .next (u.closeEth p n))

/-- Heartbeats, fences, elections and rejoins (after R159, R160, R165, R171, R173, R179). -/
def Obligations.HeartbeatRowsComplete : Prop :=
  (∀ (s u : State) (t : Ns) (x : Fin 3), u = s.tick t → u.votes x.val → u.acts (0x080 + 16 * x.val) = false →
    exec (.heartbeatSend t x) s = .next (u.each (u.tilesIn.filter (fun y => y ≠ x.val)) (fun s y =>
      s.stitchSend x.val y 1 2 [x.val, s.get .role x.val, s.get .term, s.get .ackCsn x.val, s.var .paceNow x.val, s.hears x.val]))) ∧
  (∀ (s u : State) (t : Ns) (r x : Fin 3), u = s.tick t → u.inService r.val → u.inService x.val → r ≠ x →
    u.acts (0x080 + 16 * x.val) = false →
    let v : State := u.arm .heartbeat (3 * r.val + x.val) (u.getN .heartbeatTimeout * us)
    exec (.heartbeatReceive t r x) s = .next (if v.lags x.val then v.requestFence r.val x.val 3 else v)) ∧
  (∀ (s u : State) (t : Ns) (r x : Fin 3), u = s.tick t → u.due .heartbeat (3 * r.val + x.val) → r ≠ x →
    exec (.heartbeatTimeout t r x) s = settled (.next ((u.disarm .heartbeat (3 * r.val + x.val)).requestFence r.val x.val 0))) ∧
  (∀ (s u : State) (t : Ns) (r x : Fin 3), u = s.tick t → u.due .fenceReq (3 * r.val + x.val) →
    ∃ w : State, exec (.fenceRequestExpiry t r x) s = .next w ∧ w.var .fenceReq (3 * r.val + x.val) = 0 ∧
      w.timer .fenceReq (3 * r.val + x.val) = none) ∧
  (∀ (s u : State) (t : Ns), u = s.tick t → u.due .loneCut → u.tilesIn = [2] →
    let l := u.activeTable.entries.filter (fun e => decide (e.rail < 64))
    let first := match l with | e :: rest => rest.foldl (fun m x => min m x.offSlot) e.offSlot | [] => 0
    let at_ (e : SeqEntry) : Nat := u.varN .loneFrom + (e.offSlot - first) * 10 * us
    let off (s : State) (k : Nat) : State := (s.drive (outRail k) 0).modRail k (fun x => { x with enabled := false, deadline := none })
    (∀ (x : Nat) (rest : List Nat), (l.filter (fun e => decide (u.now < at_ e))).map at_ = x :: rest → exec (.loneMizzenCut t) s =
      .next ((u.each ((l.filter (fun e => decide (at_ e ≤ u.now))).map (·.rail)) off).setT .loneCut 0 (some (rest.foldl min x)))) ∧
    ((l.filter (fun e => decide (u.now < at_ e))).map at_ = [] → exec (.loneMizzenCut t) s =
      .next ((((u.each (List.range 64) off).each (List.range 256) (fun s d => s.modRail (64 + d) (fun x =>
        { x with enabled := false, deadline := none }))).each [0, 1, 2, 3] (fun s f => s.drive (outFeed f) 0)).disarm .loneCut))) ∧
  (∀ (s u : State) (t : Ns) (x : Fin 3), u = s.tick t → u.flag .electing → u.inService x.val →
    let v : State := u.setV .claims 0 (u.varN .claims ||| 2 ^ x.val : Nat)
    (v.tilesIn.all (fun y => (v.varN .claims).testBit y) = true → exec (.leaderClaim t x (u.getN .term + 1)) s =
      settled (.next (v.electLeader v.winner (v.varN .electing - 1) (v.var .electCause)).committedNow)) ∧
    (v.tilesIn.all (fun y => (v.varN .claims).testBit y) = false → exec (.leaderClaim t x (u.getN .term + 1)) s = settled (.next v))) ∧
  (∀ (s u : State) (t : Ns), u = s.tick t → u.due .foreGrace → u.inService 0 = false →
    let v : State := (u.disarm .foreGrace).raise .foreLossGrace (oTile 0) [2, u.get .foreLossGrace]
    exec (.foreLossGraceExpiry t) s = .next (if v.get .foreLossAction = 1 then v.furlPlain 8 7 else v)) ∧
  (∀ (s u : State) (t : Ns) (x : Fin 3) (p : Nat), u = s.tick t → u.flag .rejoining x.val → u.var .tilePhase x.val = 2 →
    u.flag .tileReset x.val = false → u.flag .electing = false → u.membership ≠ 0 → (u.rejoinImage x.val).2 = some p →
    ((u.rejoinImage x.val).1.plate p).any (fun i => decide ((i.digest : Int) = u.digestWanted)) = true →
    exec (.rejoinComplete t x) s = .next ((u.rejoinImage x.val).1.rejoined x.val p).settleUpdate) ∧
  (∀ (s u : State) (t : Ns) (x : RejoinLapse), u = s.tick t → u.due .rejoin x.tile.val → u.flag .rejoining x.tile.val →
    exec (.rejoinTimeout t x) s = settled (.next (u.rejoinFails x.tile.val 9 (if u.flag .tileReset x.tile.val then 2 else 2 + x.step.val : Nat))))

/-- The journal (after R153–R157). -/
def Obligations.JournalRowsComplete : Prop :=
  (∀ (s u : State) (t : Ns) (x : Fin 3), u = s.tick t → u.votes x.val → x.val ≠ u.leader → u.getN .ackCsn x.val + 1 ≤ u.journal.assigned →
    u.flag .electing = false →
    let v : State := u.put .ackCsn x.val (u.getN .ackCsn x.val + 1 : Nat)
    v.acts (0x082 + 16 * x.val) = false →
    exec (.journalEntry t x (u.getN .ackCsn x.val + 1)) s = .next (v.stitchSend x.val v.leader 0 3 [(u.getN .ackCsn x.val + 1 : Nat)])) ∧
  (∀ (s u : State) (t : Ns) (x : Fin 3) (csn : Nat), u = s.tick t → u.inService x.val → x.val ≠ u.leader → u.flag .electing = false →
    u.membership ≠ 0 → u.acts (0x082 + 16 * x.val) = false →
    let v : State := u.setV .ackSeen x.val (max (u.varN .ackSeen x.val) (min csn (u.getN .ackCsn x.val)) : Nat)
    exec (.journalAck t x csn) s = settled (.next ({ v with journal := { v.journal with stalled := false } } : State).committedNow)) ∧
  (∀ (s u : State) (t : Ns), u = s.tick t → u.tilesIn = [0, 1] → u.flag .electing = false → u.var .stallAt < 0 →
    u.journal.stalled = false → u.journal.entries.any (fun e => decide (e.csn = u.bestSeen + 1) && decide (e.stamp + ms ≤ u.now)) = true →
    let v : State := u.raise .journalStall oDevice [u.leader, (u.bestSeen + 1 : Nat)]
    let w : State := ({ v with journal := { v.journal with stalled := true } } : State).setV .stallAt 0 v.now
    w.tilesIn = [0, 1] → w.leader = 0 →
    (w.getN .ackCsn 1 < w.journal.committed → exec (.journalStall t) s = .next w) ∧
    (w.journal.committed ≤ w.getN .ackCsn 1 →
      exec (.journalStall t) s = .next ((w.setV .electAt 0 w.now).electLeader 1 0xFF 0xFF).committedNow)) ∧
  (∀ (s u : State) (t : Ns), u = s.tick t → u.membership = 1 ∨ u.membership = 4 → u.nandLost = false →
    exec (.soloJournalWrite t) s =
      settled (.next ({ u with journal := { u.journal with nand := u.journal.assigned } } : State).committedNow)) ∧
  (∀ (s u : State) (t : Ns) (csn : Nat) (x : BadEntry), u = s.tick t → readWord x.addr x.bits = .uncorrectable → u.inService x.tile.val →
    x.copy = false → csn ≤ u.journal.committed → u.journal.entries.any (fun e => decide (e.csn = csn)) = true → u.journal.lost = false →
    exec (.journalUncorrectable t csn x) s =
      .next (({ u with journal := { u.journal with lost := true } } : State).raise .journalLost oDevice [csn])) ∧
  (∀ (s u : State) (t : Ns), u = s.tick t → u.membership ≠ 0 → u.flag .electing = false → u.tilesIn ≠ [] →
    u.journal.checkpointAt + 10 * ms ≤ u.now → u.checkpoint.recommit.injected 0x0E0 = none →
    exec (.checkpoint t []) s = .next (u.checkpoint.recommit.spend 0x0E0))

/-- Votes and moves (after R151, R161–R163, R176–R180). -/
def Obligations.VotingRowsComplete : Prop :=
  (∀ (s u : State) (t : Ns) (o : Fin 98) (x : Fin 3) (level : Fin 8), u = s.tick t →
    exec (.voterInputChange t o x level) s =
      .next (u.voterInput o.val x.val (if isReefOut o.val then level.val else (level.val % 2 : Nat)))) ∧
  (∀ (s u : State) (t : Ns) (o : Fin 98) (x : Fin 3), u = s.tick t → u.due .voteDisagree (4 * o.val + x.val) → u.votes x.val →
    u.voteOf o.val x.val ≠ u.padOf o.val →
    let v : State := u.disarm .voteDisagree (4 * o.val + x.val)
    let l := (x.val, v.now) :: v.disagreed.filter (fun y => decide (v.now < y.2 + sec))
    let n := (l.filter (fun y => decide (y.1 = x.val))).length
    n < 3 → exec (.voteDisagree t o x) s =
      .next (({ v with disagreed := l } : State).raise .voteDisagree oDevice [o.val, x.val, (min n 255 : Nat)])) ∧
  (∀ (s u : State) (t : Ns) (d : Fin 256), u = s.tick t → u.regTile (d.val / 32) = some (primaryTile (d.val / 32)) →
    4 ≤ (u.dom d.val).misses → (u.dom d.val).mirrored = false → 2 ≤ u.tilesIn.length →
    let m := lossTile (primaryTile (d.val / 32)) (d.val / 32)
    u.inService m → m ≠ primaryTile (d.val / 32) →
    let v : State := u.modDom d.val (fun x => { x with misses := 0, mirrored := true })
    exec (.mirrorTakeover t d) s =
      .next (if (v.domainsDeclared.filter (fun k => decide (k / 32 = d.val / 32))).all (fun k => (v.dom k).mirrored)
        then v.moveLoop (d.val / 32) (some m) else v).syncCoeffs) ∧
  (∀ (s u : State) (t : Ns) (m : Nat × Nat) (rest : List (Nat × Nat)), u = s.tick t → u.moves = m :: rest → u.var .moveAt < 0 →
    u.inService m.2 →
    exec (.plannedMove t []) s = settled (.next (((({ u with moves := u.moves.filter (fun x => x.1 ≠ m.1) } : State).moveLoop m.1
      (some m.2)).syncCoeffs.setV .moveAt 0 u.now).adminFence))) ∧
  (∀ (s u : State) (a : Arrival) (o : Origin), s.opensWrite a .leader (u.leader : Int) (setLeader (s.originOf a .setProp) (u.leader : Int)) = some (u, o) →
    exec (.writeLeader a u.leader) s = .next (u.conclude u o (.st .ok)).settleHandovers) ∧
  (∀ (s u : State) (a : Arrival) (o : Origin) (v : Nat), s.opensWrite a .leader (v : Int) (setLeader (s.originOf a .setProp) (v : Int)) = some (u, o) → v ≠ u.leader →
    u.inService v → 2 ≤ u.tilesIn.length →
    exec (.writeLeader a v) s = .next (({ u with handovers := u.handovers ++ [(s.originOf a .setProp, v)] } : State).conclude u o
      (.accepted [])).settleHandovers) ∧
  (∀ (s u : State) (a : Arrival) (o : Origin), s.opensWrite a .adminState 1 (setAdminState 1) = some (u, o) → u.get .powerState = psRunning →
    [0, 1, 2].any (fun (x : Nat) => u.flag .rejoining x) = false → u.flag .rolling = false → u.flag .adminOut = false →
    u.inService (writeIndex a .adminState) → 2 < u.tilesIn.length → u.leader ≠ writeIndex a .adminState →
    exec (.writeAdminState a 1) s =
      .next (((u.put .adminState (writeIndex a .adminState) 1).planOut (writeIndex a .adminState)).conclude u o (.st .ok)))

/-- NOR, NAND, SRAM and DRAM (after R22, R24, R638–R645, R739). -/
def Obligations.StoreRowsComplete : Prop :=
  (∀ (s u : State) (t : Ns) (w : NorWrite) (rest : List NorWrite) (good : Bool), u = s.tick t → u.norWrites = w :: rest →
    u.acts 0x0D0 = false → u.acts 0x0D1 = false → u.varN .norLost ≠ 3 →
    exec (.norWriteComplete t none good) s = .next (({ u with norWrites := rest } : State).norDone w good).settleUpdate) ∧
  (∀ (s u : State) (t : Ns) (w : NandWhat) (rest : List NandWhat) (usable : Nat), u = s.tick t → u.nandWrites = w :: rest →
    u.nandLost = false → u.acts 0x0D2 = false →
    exec (.nandWriteComplete t none false usable) s =
      .next (({ u.spend 0x0D2 with nandWrites := rest } : State).nandDone w).settleUpdate) ∧
  (∀ (s u : State) (t : Ns) (x : Fin 3) (words : List (Nat × Nat)), u = s.tick t → u.inService x.val →
    let good := correctedWords (·.1) (·.2) words
    exec (.sramScrub t x words) s =
      .next ((u.corrected x.val 0xFF good.length).each good (fun s g => s.writeBack x.val g.1.1 g.2))) ∧
  (∀ (s u : State) (t : Ns) (k : Fin 4) (words : List DramWord), u = s.tick t → (u.varN .stacksUp).testBit k.val →
    u.islandGives (u.stackTile k.val) 5 →
    let good := correctedWords (fun (w : DramWord) => w.addr) (fun w => w.bits) words
    exec (.patrolScrub t k words) s =
      .next ((u.corrected (u.stackTile k.val) k.val good.length).each good (fun s g => s.rowCorrected k.val g))) ∧
  (∀ (s u : State) (t : Ns) (x : Fin 3) (region : Fin 6) (addr bits : Nat) (slot : Fin 64) (engine : Fin 48), u = s.tick t →
    u.inService x.val → readWord addr bits = .uncorrectable →
    exec (.memoryUncorrectable t (.sram x region addr bits slot engine)) s =
      .next (((u.count .ueCount x.val).raise .memUncorrectable (oTile x.val) [x.val, 0xFF, region.val, addr]).badSram x.val region.val
        slot.val engine.val)) ∧
  (∀ (s u : State) (t : Ns) (k : Fin 4) (w : DramWord) (region : Fin 5) (opt : Bool) (snap : Option (Nat × Nat)), u = s.tick t →
    (u.varN .stacksUp).testBit k.val → readWord w.addr w.bits = .uncorrectable →
    let v : State := (u.count .ueCount (u.stackTile k.val)).raise .memUncorrectable (oTile (u.stackTile k.val))
      [u.stackTile k.val, k.val, region.val, w.addr]
    (k.val, w.addr / 4096) ∉ v.poison →
    let v : State := { v with poison := v.poison ++ [(k.val, w.addr / 4096)],
                              ueHits := v.ueHits.filter (fun h => decide (v.now < h.2 + 3600 * sec)) ++ [(k.val, v.now)] }
    exec (.memoryUncorrectable t (.dram k w region opt snap)) s =
      .next ((v.badDram k.val region.val opt snap).spareRow k.val w.die.val w.row 1)) ∧
  (∀ (s u : State) (t : Ns) (k : Fin 4), u = s.tick t → (u.varN .stackFailed).testBit k.val = false → u.get .powerState ≠ 0 →
    (u.varN .stacksUp).testBit k.val = true →
    exec (.stackLost t k false) s =
      .next ((((u.setV .stackFailed 0 (u.varN .stackFailed + 2 ^ k.val : Nat)).stacksDown (2 ^ k.val) 0).trainingLost).dropFeatures))

/-- What accelerators say (after R191, R215–R219, R222, R410, R411). -/
def Obligations.PartnerMessagesComplete : Prop :=
  (∀ (s u : State) (t : Ns) (p : Fin 16) (m : Identity), u = s.tick t → (u.link p.val).state = lkIdent →
    let v : State := (u.setV .reportedSerial (p.val / 2) m.serial).each (List.range 16) (fun s q =>
      s.reopen [q] (fun x => decide (x.why = 3) && !s.reportedElsewhere (q / 2) x.whySerial))
    v.identityStatus (p.val / 2) m = 0 → v.get .accelPresence (p.val / 2) ≠ 2 →
    exec (.identity t p m) s = settled (.next ((v.accelArrive p.val m).identityAccept p.val))) ∧
  (∀ (s u : State) (t : Ns) (a : Fin 8) (generation latency : Nat) (levels : List (Nat × Int)), u = s.tick t → levels.length = 8 →
    notRising (levels.map (fun l => (l.1 : Int))) = true → notRising (levels.map (·.2)) = true → latency ≤ 1000 →
    let v : State := ((u.setV .reefStatus a.val 0).setV .reefTable a.val 1).put .reefGen a.val generation
    let v : State := v.each (List.range 8) (fun s k =>
      (s.setV .reefPower (8 * a.val + k) ((levels.getD k (0, 0)).2)).setV .reefFreq (8 * a.val + k) ((levels.getD k (0, 0)).1))
    exec (.reefTable t a generation latency levels) s =
      .next ((v.raise .reefTable (oAccel a.val) [a.val, 0, generation]).sendBudget a.val 0)) ∧
  (∀ (s u : State) (t : Ns) (a : Fin 8) (h : Hint), u = s.tick t → exec (.hint t a h) s = .next (u.takeHint a.val h)) ∧
  (∀ (s u : State) (t : Ns) (a : Fin 8) (m : Telemetry), u = s.tick t → exec (.telemetry t a m) s = .next (u.takeTelemetry a.val m)) ∧
  (∀ (s u : State) (t : Ns) (a : Fin 8) (round freq outcome : Nat) (late : Int), u = s.tick t →
    exec (.freqAck t a round freq outcome late) s = .next (u.takeFreqAck a.val round freq outcome late)) ∧
  (∀ (s u : State) (t : Ns) (a : Fin 8) (qid state : Nat), u = s.tick t → state ≠ 2 → state ≠ 4 →
    exec (.qstate t a qid state) s = settled (.next (u.setV .qstate a.val state))) ∧
  (∀ (s u : State) (t : Ns) (a : Fin 8) (qid : Nat), u = s.tick t →
    exec (.qstate t a qid 4) s = settled (.next ((u.setV .qstate a.val 4).cutFurl a.val 0))) ∧
  (∀ (s u : State) (t : Ns) (a : Fin 8) (num code detail stamp : Nat), u = s.tick t →
    let v : State := (u.sendAccel a.val 0x10 [num]).raise .accAlert (oAccel a.val) [a.val, 3, code, detail, stamp]
    exec (.alert t a num code 3 detail stamp) s = .next (v.furlPlain a.val 4)) ∧
  (∀ (s u : State) (t : Ns) (a : Fin 8) (num code detail stamp : Nat), u = s.tick t →
    let v : State := (u.sendAccel a.val 0x10 [num]).raise .accAlert (oAccel a.val) [a.val, 2, code, detail, stamp]
    let before := ((v.alertHolds.filter (fun h => decide (h.accel = a.val) && decide (h.code = code))).map (·.level)).foldl max 0
    exec (.alert t a num code 2 detail stamp) s = .next (State.refreshAlert { v with
      alertHolds := v.alertHolds.filter (fun h => !(decide (h.accel = a.val) && decide (h.code = code))) ++
        [({ accel := a.val, code, level := max before (detail % 8) } : AlertHold)] } a.val)) ∧
  (∀ (s u : State) (t : Ns) (a : Fin 8) (image next status : Nat), u = s.tick t →
    exec (.imageStatus t a image next status) s = .next (u.takeImageStatus a.val image next status).settleUpdate)

/-- What silence and the ALERT pin bring (after R188, R194, R195, R218, R222). -/
def Obligations.PartnerTimersComplete : Prop :=
  (∀ (s u : State) (t : Ns) (a : Fin 8), u = s.tick t → u.due .accelLoss a.val → u.get .accelPresence a.val = 2 → u.accelUp a.val = false →
    exec (.accelLossTimeout t a) s = settled (.next (u.accelDepart a.val
      (if u.flag .lastFenced a.val then 4 else 0)))) ∧
  (∀ (s u : State) (t : Ns) (a : Fin 8), u = s.tick t → u.due .telemetry a.val → u.get .accelPresence a.val = 2 → u.accelUp a.val →
    exec (.telemetrySilence t a) s = settled (.next (u.accelDepart a.val 1))) ∧
  (∀ (s u : State) (t : Ns) (a : Fin 8), u = s.tick t → u.due .silentFurl a.val →
    exec (.silentFurlDelayExpiry t a) s = .next ((u.disarm .silentFurl a.val).furlPlain a.val 3)) ∧
  (∀ (s u : State) (t : Ns) (a : Fin 8), u = s.tick t → (u.setV .alertPin a.val 1).accelUp a.val = false →
    let v : State := u.setV .alertPin a.val 1
    exec (.alertPinAssert t a) s =
      .next ((v.armOnce .alertReef a.val (10 * us)).armOnce .alertFurl a.val (v.getN .alertNolinkDelay * us))) ∧
  (∀ (s u : State) (t : Ns) (a : Fin 8), u = s.tick t →
    exec (.alertPinRelease t a) s = .next ((((((u.setV .alertPin a.val 0).disarm .alertReef a.val).disarm .alertFurl a.val).disarm
      .alertHandover a.val).setV .alertNoLink a.val 0).refreshAlert a.val)) ∧
  (∀ (s u : State) (t : Ns) (a : Fin 8), u = s.tick t → u.due .alertReef a.val → u.flag .alertPin a.val → u.accelUp a.val = false →
    exec (.alertNolinkReef t a) s = .next (((u.disarm .alertReef a.val).setV .alertNoLink a.val 1).refreshAlert a.val)) ∧
  (∀ (s u : State) (t : Ns) (a : Fin 8), u = s.tick t → u.due .alertFurl a.val → u.flag .alertPin a.val → u.accelUp a.val = false →
    exec (.alertNolinkFurl t a) s = .next ((u.disarm .alertFurl a.val).furlPlain a.val 4)) ∧
  (∀ (s u : State) (t : Ns) (a : Fin 8), u = s.tick t → u.due .alertHandover a.val →
    exec (.alertLinkHandover t a) s = .next (((u.disarm .alertHandover a.val).setV .alertNoLink a.val 0).refreshAlert a.val)) ∧
  (∀ (s u : State) (t : Ns) (a : Fin 8), u = s.tick t → u.due .quiesce a.val → u.activation = none →
    exec (.quiesceTimeout t a) s = .next (u.resumeAccel a.val))

/-- The links' own rows (after R199–R213, R569). -/
def Obligations.LinkRowsComplete : Prop :=
  (∀ (s u : State) (t : Ns) (port : FlitPort), u = s.tick t → (u.link port.key).state = lkDown → u.inService (portTile port.key) →
    u.timer .injHold (pLink port.key) = none → u.flag .islandDown (16 * portTile port.key + (if port.key < 48 then 2 else 3)) = false →
    (48 ≤ port.key → u.get .portAdmin (port.key - 48) = 0) →
    exec (.signalDetect t port) s = .next (u.moveLink port.key lkLock)) ∧
  (∀ (s u : State) (t : Ns) (port : FlitPort) (b : List Nat), u = s.tick t → u.timer .injHold (pLink port.key) = none → flitGood b = false →
    (u.spend (pLink port.key)).inTraining port.key →
    exec (.trainFlit t port b) s = .next ((u.spend (pLink port.key)).breakTrain port.key).settleUpdate) ∧
  (∀ (s u v : State) (t : Ns) (port : FlitPort) (b : List Nat), u = s.tick t → u.timer .injHold (pLink port.key) = none → flitGood b = true →
    u.acts (pLink port.key) = false → flitKind b = 3 → v = (u.spend (pLink port.key)).modLink port.key (fun x => { x with badRun := 0 }) →
    exec (.trainFlit t port b) s = .next (v.takeTrain port.key (trainOf (flitPayload b))).settleUpdate) ∧
  (∀ (s v : State) (p : Nat) (f : TrainFlit), f.role = farRole p → s.inTraining p →
    v = (s.modLink p (fun x => { x with rxTtx := f.tTx, rxAt := s.now })).modLink p (fun x => { x with
      rxGood := x.rxGood + 1, aligned := x.aligned || decide (lockFlits p ≤ x.rxGood + 1)
      rxOk := if x.aligned && f.rxOk then x.rxOk + 1 else 0
      best := if x.aligned then some (match x.best with
        | some b => min b (s.now - f.tEcho - f.hold)
        | none => s.now - f.tEcho - f.hold) else x.best }) →
    8 ≤ (v.link p).rxOk →
    let w : State := v.modLink p (fun x => { x with oneWay := (x.best.getD 0) / 2 })
    let w : State := w.when (48 ≤ p) (fun s => s.put .oneWay (p - 48) (s.link p).oneWay)
    s.takeTrain p f = if (w.link p).state = lkRetrain then (w.moveLink p lkActive).pump p else w.enterIdent p) ∧
  (∀ (s u : State) (t : Ns) (port : FlitPort) (flags seq ack crc : Nat) (body : List Nat), u = s.tick t → u.timer .injHold (pLink port.key) = none →
    flitGood (wireFlit 1 flags (leBytes 2 seq ++ leBytes 2 ack ++ body) crc) = false → (u.spend (pLink port.key)).linkUp port.key →
    exec (.dataFlit t port flags seq ack body crc) s = .next ((u.spend (pLink port.key)).badFlit port.key true).settleUpdate) ∧
  (∀ (s u : State) (t : Ns) (port : FlitPort) (flags seq ack crc : Nat) (body : List Nat),
    let b := wireFlit 1 flags (leBytes 2 seq ++ leBytes 2 ack ++ body) crc
    u = s.tick t → u.timer .injHold (pLink port.key) = none → flitGood b = true → u.acts (pLink port.key) = false →
    (u.spend (pLink port.key)).linkUp port.key →
    let v : State := (u.spend (pLink port.key)).modLink port.key (fun x => { x with badRun := 0 })
    let v : State := match flitAck b with | some a => v.takeAck port.key a | none => v
    let v : State := v.when (v.linkUp port.key) (fun s => s.each (flitCredits (isShroud port.key) b) (fun s c => s.addCredit port.key c.1 c.2))
    exec (.dataFlit t port flags seq ack body crc) s = .next ((v.takeData port.key b).pump port.key).settleUpdate ∧
    ((v.acceptFlit port.key (flitSeq b)).2 = false → v.takeData port.key b = v.badFlit port.key false)) ∧
  (∀ (s u : State) (t : Ns) (port : FlitPort) (flags crc : Nat) (body : List Nat), let b := wireFlit 2 flags body crc
    u = s.tick t → u.timer .injHold (pLink port.key) = none → flitGood b = true → u.acts (pLink port.key) = false →
    (u.spend (pLink port.key)).linkUp port.key →
    let v : State := (u.spend (pLink port.key)).modLink port.key (fun x => { x with badRun := 0 })
    let v : State := match flitAck b with | some a => v.takeAck port.key a | none => v
    let v : State := v.when (v.linkUp port.key) (fun s => s.each (flitCredits (isShroud port.key) b) (fun s c => s.addCredit port.key c.1 c.2))
    (flitNak b = false → exec (.linkFlit t port flags body crc) s = .next (v.pump port.key).settleUpdate) ∧
    (flitNak b = true → exec (.linkFlit t port flags body crc) s = .next ((v.replay port.key).pump port.key).settleUpdate)) ∧
  (∀ (s u : State) (t : Ns) (port : FlitPort), u = s.tick t → u.linkUp port.key → (u.link port.key).unacked ≠ [] →
    (u.link port.key).ackAt + 10 * us ≤ u.now → exec (.replayTimeout t port) s = .next (u.replay port.key)) ∧
  (∀ (s u : State) (t : Ns) (port : FlitPort) (noSignal : Bool), u = s.tick t → u.linkLate port.key →
    exec (.portStateTimeout t port noSignal) s = .next (u.moveLink port.key lkDown)) ∧
  (∀ (s u : State) (t : Ns) (port : LinkPort), u = s.tick t → u.linkUp port.key →
    exec (.invalidSyncHeaders t port) s = .next (u.moveLink port.key lkRetrain)) ∧
  (∀ (s u : State) (t : Ns), u = s.tick t →
    exec (.timeFlitSend t) s = .next (u.each ((List.range 16).filter u.linkUp) (fun s p =>
      s.send (.flit p (flitBytes 4 0 0 none 0 0 (recordBytes [u64 s.now, u32 (s.link p).oneWay, rsv 4])))))) ∧
  (∀ (s u : State) (t : Ns), u = s.tick t →
    exec (.budgetResend t) s = .next (u.each (u.accels.filter u.accelUp) (fun s a => s.sendBudget a 0 true))) ∧
  (∀ (s u : State) (t : Ns) (a : Fin 8) (stream : Fin 2) (z : HeldMsg), u = s.tick t → u.due .shroudGap (2 * a.val + stream.val) →
    ((u.heldOf a.val stream.val).filter (fun h => decide (h.since + 20 * us ≤ u.now))).getLast? = some z →
    let due := (u.heldOf a.val stream.val).filter (fun h => decide (h.num ≤ z.num))
    let want := u.varN .accRx (2 * a.val + stream.val)
    let v : State := { u with held := u.held.filter (fun h => !(decide (h.accel = a.val ∧ h.stream = stream.val) && decide (h.num ≤ z.num))) }
    let v : State := (v.setV .accRx (2 * a.val + stream.val) (z.num + 1)).each due (fun (s : State) (h : HeldMsg) => s.takeShroud h.port h.num h.msg)
    let v : State := v.raise .shroudGap (oAccel a.val) [a.val, stream.val, (z.num + 1 - want - due.length : Nat), want]
    exec (.shroudGapTimeout t a stream) s =
      .next ((v.releaseHeld a.val stream.val v.held.length).gapTimer a.val stream.val).settleUpdate)

/-- The legs' rows (after R235, R281–R302). -/
def Obligations.LegRowsComplete : Prop :=
  (∀ (s u : State) (t : Ns) (slot : Nat) (missing : List (Fin 256)), u = s.tick t → u.now = 500 * slot → let late := missing.map (·.val)
    let v : State := u.each (late.filter (fun d => (u.dom d).run)) State.missWord
    let w : State := v.each (((List.range 16).flatMap v.domainsOf).filter (fun d => d ∉ late)) (fun s d => s.sendWords (v.now / 500) d)
    exec (.slotInstant t slot missing) s = .next (w.each ((List.range 16).filter w.hasRelay) (fun s r => s.launchRelay (w.now / 500) r))) ∧
  (∀ (s u : State) (t : Ns) (d : Fin 256), u = s.tick t → u.due .ocTrip d.val → (u.disarm .ocTrip d.val).get .domainOc d.val <
    (u.disarm .ocTrip d.val).get .domainCurrent d.val →
    exec (.domainOcTripCheck t d) s = .next (((u.disarm .ocTrip d.val).domainTrip d.val 2).refreshOc (d.val / 32))) ∧
  (∀ (s u : State) (t : Ns), u = s.tick t → u.onGrid (2 * us) → exec (.legReplan t) s = .next (u.each ((List.range 256).filter (fun d => (u.dom d).run)) State.replan)) ∧
  (∀ (s u : State) (t : Ns) (l : Fin 1152) (w d : Nat), u = s.tick t → (u.leg l.val).wakeAt = some w → u.legDomain l.val = some d →
    u.get .legState l.val = legWaking → ceilTo (500 * max 1 (u.varN .switchSlots d)) w ≤ u.now →
    exec (.legWakeDone t l) s = .next ((u.modLeg l.val (fun y => { y with wakeAt := none })).setLeg l.val legActive)) ∧
  (∀ (s u : State) (t : Ns) (l : Fin 1152) (w : Nat), u = s.tick t → (u.leg l.val).drainAt = some w → u.get .legState l.val = legDraining →
    u.get .current l.val < 1000 ∨ w + 4 * us ≤ u.now → exec (.legDrainDone t l) s = .next (u.drained l.val)) ∧
  (∀ (s u : State) (t : Ns), u = s.tick t → u.var .calRotated < 0 ∨ u.varN .calRotated + u.getN .calInterval * ms ≤ u.now →
    exec (.calRotation t) s = .next ((u.setV .calRotated 0 u.now).each ((List.range 16).filter u.relayPresent) State.startCal)) ∧
  (∀ (s u : State) (t : Ns) (r : Fin 16) (c : CalRun), u = s.tick t → (u.relay r.val).cal = some c → u.injected (0x620 + r.val) = none →
    64 ≤ c.slots → c.first = none → (c.sum.natAbs : Int) ≤ 64 * u.get .calMismatch →
    exec (.calCompareDone t r) s = .next ((u.calMove r.val c.leg c.spare false).calDone r.val)) ∧
  (∀ (s u : State) (t : Ns) (r : Fin 16) (leg channel status : Nat) (offset gain : Int), u = s.tick t →
    exec (.calResult t r leg channel status offset gain) s = .next (u.takeCalResult r.val channel status)) ∧
  (∀ (s u : State) (a : Arrival) (o : Origin) (v : Int), s.opensWrite a .admin v (setLegAdmin a.hdr.force v) = some (u, o) →
    (setLegAdmin a.hdr.force v (writeIndex a .admin) u).2.commits = true → exec (.writeLegAdmin a v) s = .next ((setLegAdmin a.hdr.force v (writeIndex a .admin) u).1.conclude u o (setLegAdmin a.hdr.force v (writeIndex a .admin) u).2)) ∧
  (∀ (s u : State) (a : Arrival) (o : Origin) (d : Nat), let l := writeIndex a .admin
    s.opensWrite a .admin 1 (setLegAdmin a.hdr.force 1) = some (u, o) → u.legDomain l = some d → u.get .minHealthy d ≤ (u.nHealthy d : Int) - 1 → u.get .legState l = legSleep →
    exec (.writeLegAdmin a 1) s = .next (((((u.put .admin l 1).modLeg l LegSt.idle).setLeg l legDisabled).checkHealthy l).conclude u o (.st .ok))) ∧
  (∀ (s u : State) (a : Arrival) (o : Origin) (v : Int), let d := writeIndex a .setpoint
    s.opensWrite a .setpoint v (setSetpoint v) = some (u, o) → u.var .setMin d ≤ v → v ≤ u.var .setMax d →
    let w : State := if (u.dom d).mode = .on then
        (u.refAt d u.now).2.modDom d (fun x => { x with ref := (u.refAt d u.now).1, refAt := (u.refAt d u.now).2.now }) else u
    exec (.writeSetpoint a v) s = .next ((w.put .setpoint d v).conclude u o (.st .ok))) ∧
  (∀ (s u : State) (a : Arrival) (o : Origin) (v : Int), let k := writeIndex a .thresholds
    s.opensWrite a .thresholds v (setThresholds v) = some (u, o) → v.toNat &&& 0xF000F000F000F000 = 0 → thrDisch v.toNat < thrLo v.toNat →
    thrLo v.toNat ≤ thrHi v.toNat → thrHi v.toNat < thrOv v.toNat →
    (k < 64 → exec (.writeThresholds a v) s = .next ((u.put .thresholds k v).conclude u o (.st .ok))) ∧
    (64 ≤ k → u.relayPresent (relayOfDomain (k - 64)) → exec (.writeThresholds a v) s =
      .next (((u.setV .thrPend k v).configThresholds (relayOfDomain (k - 64)) (localDomain (k - 64)) 1).conclude u o (.st .ok)))) ∧
  (∀ (s w : State) (a : Arrival) (o : Origin) (v : Int), let k := writeIndex a .thresholds
    s.reachesWrite a .thresholds v (setThresholds v) = some (w, o) → v.toNat &&& 0xF000F000F000F000 = 0 → thrDisch v.toNat < thrLo v.toNat →
    thrLo v.toNat ≤ thrHi v.toNat → thrHi v.toNat < thrOv v.toNat → 64 ≤ k →
    (w.entered o (.setProp P.thresholds.desc.bytes v)).relayPresent (relayOfDomain (k - 64)) = false →
    exec (.writeThresholds a v) s = .next (w.outcome o (.st .partnerLost) w.journal.committed))

/-- The sheets' rows (after R280, R304–R317). -/
def Obligations.SheetRowsComplete : Prop :=
  (∀ (s u w v : State) (t : Ns) (r : Fin 16) (data0 data1 : List Nat) (crc0 crc1 : Nat), u = s.tick t →
    let ok0 := u.frameGood (16 + 2 * r.val) (data0 ++ leBytes 4 crc0)
    let ok1 := u.frameGood (17 + 2 * r.val) (data1 ++ leBytes 4 crc1)
    w = (u.spend (0x220 + 2 * r.val)).spend (0x221 + 2 * r.val) →
    v = (w.noteFrame (16 + 2 * r.val) ok0).noteFrame (17 + 2 * r.val) ok1 → v.relayPresent r.val →
    let use1 := ok1 && (decide (v.regTile (r.val / 2) = some 1) || !ok0)
    let f := v.frameFaults r.val (upFrameOf (if use1 then data1 ++ leBytes 4 crc1 else data0 ++ leBytes 4 crc0))
    let slot := if ok0 || ok1 then v.arrivalSlot (if use1 then 17 + 2 * r.val else 16 + 2 * r.val) else v.now / 500
    v.var .frameSlot r.val ≠ slot →
    let z : State := if ok0 || ok1 then v.takeFrame r.val slot f else v.staleSlot r.val
    let z : State := (z.recordSlot r.val slot (if ok0 || ok1 then some (upBlock f) else none)).setV .frameSlot r.val slot
    exec (.sheetUpstreamFrame t r data0 crc0 data1 crc1) s =
      .next (z.each ((z.domainsOf r.val).filter (fun d => z.updatedIn d slot)) (fun s d => s.updateDomain d slot)).offNext) ∧
  (∀ (s u v : State) (t : Ns) (p : Fin 32) (b : List Nat), u = s.tick t → u.timer .injHold (pLink (16 + p.val)) = none →
    u.islandGives (portTile (16 + p.val)) 2 →
    v = (if (u.link (16 + p.val)).state = lkDown then u.moveLink (16 + p.val) lkLock else u) →
    (sealGood 320 b = true → leAt b 0 1 = 2 → v.acts (0x220 + p.val) = false →
      exec (.sheetTrainFrame t p b) s = .next ((v.spend (0x220 + p.val)).takeTrain (16 + p.val) (trainOf (b.drop 8)))) ∧
    (sealGood 320 b = false → ((v.spend (0x220 + p.val)).linkError (16 + p.val)).inTraining (16 + p.val) →
      exec (.sheetTrainFrame t p b) s = .next (((v.spend (0x220 + p.val)).linkError (16 + p.val)).breakTrain (16 + p.val)))) ∧
  (∀ (s u v w : State) (t : Ns) (p : Fin 32) (b : List Nat), let k := sideKey (p.val / 2); let x := sliceOf b
    u = s.tick t → x.sack = none → x.nak = false → x.data → (x.seq + 4096 - (u.link k).rxSeq) % 4096 = 1 →
    v = u.modLink k (fun y => { y with rxSeq := x.seq, rxSeen := true, nak := false, nakDue := false }) →
    (∀ m : List Nat, v.joinFlit k 0 x.first x.last x.bytes = (w, some m) →
      exec (.sideSlice t p b) s = .next (w.takeRelayMsg (16 + p.val) (relayMsgOf m))) ∧
    (v.joinFlit k 0 x.first x.last x.bytes = (w, none) → exec (.sideSlice t p b) s = .next w)) ∧
  (∀ (s u : State) (t : Ns) (p : Fin 32) (b : List Nat), let x := sliceOf b; let ahead := (x.seq + 4096 - (u.link (sideKey (p.val / 2))).rxSeq) % 4096
    u = s.tick t → x.sack = none → x.nak = false → (u.link (16 + p.val)).state ≠ lkIdent → (ahead = 0 ∨ 2048 ≤ ahead) →
    exec (.sideSlice t p b) s = .next u) ∧
  (∀ (s u : State) (t : Ns) (r : Fin 16), u = s.tick t → (u.link (sideKey r.val)).unacked ≠ [] →
    (u.link (sideKey r.val)).ackAt + 20 * us ≤ u.now → exec (.sliceReplayTimeout t r) s = .next (u.replaySlices r.val)) ∧
  (∀ (s u v : State) (t : Ns) (p : Fin 32) (m : RelayIdentity), let r := (16 + p.val - 16) / 2
    u = s.tick t → v = u.setV .reportedSerial (16 + r) m.serial → (u.relay r).rejected = false → (v.link (16 + p.val)).state = lkIdent →
    v.relayStatus (16 + p.val) m = 0 → (u.relay r).identified = false → v.relayPresent r = false →
    let w : State := v.relayArrive r m
    exec (.relayIdentity t p m) s = settled (.next (if (w.link (16 + p.val)).state = lkActive then w else w.moveLink (16 + p.val) lkActive))) ∧
  (∀ (s u : State) (t : Ns) (r : Fin 16) (kind slot : Nat), u = s.tick t → (u.relay r.val).identified → kind ≠ 0 → u.relayPresent r.val →
    exec (.configAck t r kind 0 slot) s =
      settled (.next (u.modRelay r.val (fun x => { x with acks := if kind ∈ x.acks then x.acks else x.acks ++ [kind] })))) ∧
  (∀ (s u : State) (t : Ns) (r : Fin 16) (code severity detail : Nat), u = s.tick t →
    exec (.relayAlert t r code severity detail) s =
      .next ((u.sendRelay r.val 0x08 [code]).raise .relayAlert (oRelay r.val) [r.val, severity, code, detail])) ∧
  (∀ (s u : State) (t : Ns) (x : SheetLapse), u = s.tick t →
    (u.sheetLate (16 + x.port.val) = true ∨ (x.noSignal = true ∧ (u.link (16 + x.port.val)).state ≠ lkDown)) →
    exec (.sheetPortTimeout t x) s = .next (u.moveLink (16 + x.port.val) lkDown)) ∧
  (∀ (s u : State) (t : Ns) (r : Fin 16), u = s.tick t → u.due .relayLoss r.val → u.relayPresent r.val → u.relayUp r.val = false →
    exec (.relayLossTimeout t r) s = .next (u.relayDepart r.val (if u.flag .unitRestart r.val then 7
      else if (u.link (16 + 2 * r.val)).fenced || (u.link (17 + 2 * r.val)).fenced then 4 else 0)))

/-- The sequencer's own rows (after R231–R268). -/
def Obligations.SequencerRowsComplete : Prop :=
  (∀ (s u : State) (t : Ns) (samples : List RailSample), u = s.tick t →
    let xs := if u.onGrid us then samples.filter (fun x => u.declared (oRail x.rail.val)) else []
    exec (.trayRailSample t samples) s = .next (u.sampleRails u.now (xs.filterMap u.readTrayRail))) ∧
  (∀ (s u : State) (t : Ns) (scope : Fin 9) (r : Run), u = s.tick t →
    u.runs.find? (fun r => decide (scope.val ∈ r.scopes) && r.start.isNone) = some r → u.runReady r →
    r.joint ∨ (∀ i ∈ r.scopes, i < 8 → u.relaysMissing i = false) →
    exec (.seqRunStart t scope) s = .next (u.commitRun scope.val r)) ∧
  (∀ (s u : State) (t : Ns) (rail : Fin 320) (r : Run) (e : SeqEntry) (tau : Nat), u = s.tick t → u.runOf (scopeOf rail.val) = some r →
    u.entryOf rail.val = some e → r.tauAt u.now = some tau → u.scope (scopeOf rail.val) = 2 → (u.rail rail.val).enabled = false →
    (u.rail rail.val).heldOff = false → (e.onSlot - u.slot0 r) * 10 * us ≤ tau →
    exec (.railEnableSlot t rail) s = .next (u.reckon (u.now - (tau - (e.onSlot - u.slot0 r) * 10 * us)) (fun s => s.enableRail rail.val e))) ∧
  (∀ (s u : State) (t : Ns) (rail : Fin 320) (d : Nat), u = s.tick t → (u.rail rail.val).deadline = some d → d ≤ u.now →
    (u.rail rail.val).enabled → (u.rail rail.val).goodOnce = false →
    exec (.goodDeadlineExpiry t rail) s = .next (u.reckon d (fun s => if (s.liveState (scopeOf rail.val)).isSome
      then (s.modRail rail.val (fun x => { x with deadline := none })).railFault rail.val 1 d else s))) ∧
  (∀ (s u : State) (t : Ns) (rail : Fin 320) (r : OffRun) (e : SeqEntry) (sigma : Nat), u = s.tick t →
    u.offRuns.find? (fun r => rail.val ∈ r.rails) = some r → r.sigmaAt u.now = some sigma → (u.entryOf rail.val).getD { rail := rail.val } = e →
    (e.offSlot - u.offSlot0 r) * 10 * us ≤ sigma →
    exec (.railDisableSlot t rail) s = .next (u.reckon (u.now - (sigma - (e.offSlot - u.offSlot0 r) * 10 * us)) (fun s =>
      let v : State := (s.disableRail rail.val).dropOffRail rail.val
      (v.modRail rail.val (fun (x : RailSt) => { x with offHold := e.holdOff && v.sensed rail.val && !v.discharged rail.val })).rehold.offNext))) ∧
  (∀ (s u : State) (t : Ns) (rail : Fin 320) (e : SeqEntry) (d : Nat), u = s.tick t → (u.entryOf rail.val).getD { rail := rail.val } = e →
    (u.rail rail.val).disabledAt = some d → (u.rail rail.val).offHold → d + e.offDeadline * 10 * us ≤ u.now →
    exec (.offDeadlineExpiry t rail) s = .next (((u.modRail rail.val (fun x => { x with offHold := false })).raise .railOffSlow
      (oRail rail.val) [rail.val, (u.rail rail.val).code, ((u.now - d) / 1000 : Nat)]).rehold.offNext)) ∧
  (∀ (s u : State) (t : Ns) (scope : Fin 9), u = s.tick t → u.scope scope.val = 1 → u.due .startWait scope.val →
    exec (.startWaitExpiry t scope) s = .next (((u.leaveRun scope.val).setScope scope.val 0 0 0xFFFF).resolveStart scope.val .seqNotReady 0xFFFF)) ∧
  (∀ (s u : State) (t : Ns) (scope : Fin 9), u = s.tick t → u.scope scope.val = 5 → (u.railsOf scope.val).all u.discharged →
    u.varN .dischargingAt scope.val + u.getN .minOffTime * ms ≤ u.now →
    exec (.scopeDischarged t scope) s = settled (.next (if u.var .pendingStart scope.val ≠ 0
      then (u.setV .pendingStart scope.val 0).beginWait [scope.val] (decide (u.var .pendingStart scope.val = 2)) false
      else u.setScope scope.val 0 0 0xFFFF))) ∧
  (∀ (s u : State) (t : Ns) (scope : Fin 9) (k : Nat), u = s.tick t → u.scope scope.val = 5 → u.due .discharge scope.val →
    (u.railsOf scope.val).find? (fun k => u.sensed k && !u.discharged k) = some k →
    exec (.dischargeTimeout t scope) s = .next ((((u.setScope scope.val 6 11 k).setV .pendingStart scope.val 0).resolveStart scope.val
      .seqNotDischarged k).raise .railNotDischarged (oRail k) [k, scope.val,
        ((((u.setScope scope.val 6 11 k).setV .pendingStart scope.val 0).rail k).code)])) ∧
  (∀ (s u : State) (t : Ns) (f : Failure), u = s.tick t → u.due .firstFault → firstFailing u.failures = some f →
    exec (.firstFaultForm t) s = .next (({ ((u.disarm .firstFault).writeFault ((u.disarm .firstFault).stampFault 1 f
      ((u.failures.map (fun (x : Failure) => x.rail)).eraseDups.length - 1)) none) with failures := [] } : State).closeIncident)) ∧
  (∀ (s u : State) (t : Ns), u = s.tick t → u.flag .restartWanted → u.get .autoRestart = 1 → (∀ i ∈ scopes, u.var .stoppedBy6 i ≠ 1) →
    u.flag .mainGood → u.get .powerState = psStandby → u.var .goal < 0 →
    let v : State := u.setV .restartWanted 0 0
    (v.get .firstFaultLatched = 1 → exec (.autoRestart t) s = .next (v.raise .seqStartBlocked oDevice [0xFF, 0, v.get .incident])) ∧
    (v.get .firstFaultLatched ≠ 1 → v.getN .restartLimit ≤ v.recentRestarts.length →
      exec (.autoRestart t) s = .next (v.raise .seqStartBlocked oDevice [0xFF, 1, v.get .incident])) ∧
    (v.get .firstFaultLatched ≠ 1 → v.recentRestarts.length < v.getN .restartLimit → exec (.autoRestart t) s =
      .next ((({ v with restarts := v.recentRestarts ++ [v.now] } : State).setV .goal 0 psRunning).setV .goalCause 0 6)))

/-- The sequencer's requests (after R241–R271; the two free values are the model's, R241 and R268 name none). -/
def Obligations.SequenceRequestsComplete : Prop :=
  (∀ (s u : State) (a : Arrival) (o : Origin), s.opens a .startSequence (doStartSequence a) = some (u, o) → objCls a.hdr.object = 2 →
    u.get .powerState = psRunning → u.keptOff (objIdx a.hdr.object) = false → u.scope (objIdx a.hdr.object) = 0 →
    exec (.startSequence a) s = .next (((u.beginWait [objIdx a.hdr.object] false false).awaitStart (u.originOf a .startSequence)
      [objIdx a.hdr.object]).conclude u o (.accepted []))) ∧
  (∀ (s u : State) (a : Arrival) (o : Origin), s.opens a .stopSequence (doStopSequence a) = some (u, o) → objCls a.hdr.object = 2 → a.hdr.object ≠ oDevice →
    let v : State := u.stopScopes [objIdx a.hdr.object] 0
    (v.scope (objIdx a.hdr.object) ≠ 4 → exec (.stopSequence a) s = .next (v.conclude u o (.st .ok))) ∧
    (v.scope (objIdx a.hdr.object) = 4 → exec (.stopSequence a) s = .next (({ v with stops := v.stops ++
      [({ origin := u.originOf a .stopSequence, scopes := [objIdx a.hdr.object] } : StopCmd)] } : State).conclude u o (.accepted [])))) ∧
  (∀ (s u : State) (a : Arrival) (o : Origin) (e : SeqEntry), let k := objIdx a.hdr.object
    s.opens a .enableRail (doEnableRail a) = some (u, o) → objCls a.hdr.object = 5 → u.entryOf k = some e → (u.rail k).heldOff →
    (u.scope (scopeOf k) = 3 → exec (.enableRail a) s = .next (((((u.beginApply (u.originOf a .enableRail)).modRail k (fun x => { x with heldOff := false })).enableRail k e).modRail k
      (fun x => { x with enableCmd := some (u.originOf a .enableRail) })).conclude u o (.accepted []))) ∧
    (u.scope (scopeOf k) = 0 → exec (.enableRail a) s = .next ((u.modRail k (fun x => { x with heldOff := false })).conclude u o (.st .ok)))) ∧
  (∀ (s u : State) (a : Arrival) (o : Origin), let k := objIdx a.hdr.object
    s.opens a .disableRail (doDisableRail a) = some (u, o) → objCls a.hdr.object = 5 → (u.rail k).enableCmd = none → (u.rail k).enabled →
    exec (.disableRail a) s = .next (((((u.modRail k (fun x => { x with heldOff := true, enableCmd := none, offHold := false })).disableRail k).dropOffRail
      k).rehold.offNext.checkUp (scopeOf k)).conclude u o (.st .ok))) ∧
  (∀ (s u : State) (a : Arrival) (o : Origin) (table generation : Nat) (entries : List SeqEntry),
    s.opens a (.loadSequence table generation entries) (doLoadSequence a table generation entries) = some (u, o) → a.hdr.object = oDevice → table = a.hdr.property → table ≤ 7 →
    entries ≠ [] → entries.length ≤ 320 → entries.findIdx? (u.badEntry entries) = none →
    entries.any (fun e => decide (e.goodDeadline = 0 ∨ 65535 < e.goodDeadline)) = false → table ≠ u.getN .activeTable →
    ∃ (x : Int) (v : State), u.draw = (x, v) ∧ exec (.loadSequence a table generation entries) s =
      .next (({ v with tables := v.tables.put {} table { generation, entries } } : State).conclude u o (.done .ok [u32 x]))) ∧
  (∀ (s u : State) (a : Arrival) (o : Origin) (start count : Nat), s.opens a (.readFirstFault start count) (doReadFirstFault start count) = some (u, o) → 1 ≤ count → count ≤ 62 →
    let rs := (u.firstFaults.drop start).take count
    exec (.readFirstFault a start count) s = .next (u.conclude u o (.done .ok ([u32 rs.length, rsv 4] ++ rs.flatMap (fun r => withCrc (faultLayout r)))))) ∧
  (∀ (s u : State) (a : Arrival) (o : Origin), s.opens a .clearFirstFault (doClearFirstFault a) = some (u, o) →
    ∃ (v : State) (f : Failure), f.rail = 0xFFFF ∧ f.scope = 0xFF ∧ v.regs = u.regs ∧
      exec (.clearFirstFault a) s = .next ((v.writeFault (v.stampFault 2 f 0) (some (u.originOf a .clearFirstFault))).conclude u o .later))

/-- The budget's rows (after R318–R341, R430). -/
def Obligations.BudgetRowsComplete : Prop :=
  (∀ (s u : State) (t : Ns) (a : Fin 8), u = s.tick t → u.splitsRun → (u.regTile a.val).isSome → u.epochDue (8 + a.val) (2 * us) →
    let v : State := (u.setV .epochAt (8 + a.val) u.now).putDomainDemands a.val
    let x : Rat := v.get .grant (nodeAccel a.val)
    let l := split 10 x ((v.domainsOfAccel a.val).map (fun d => v.childOf (nodeDomain d)))
    exec (.accelEpoch t a) s = .next ((v.noteRation (nodeAccel a.val) x l).each l (fun s c => s.putChild c c.grant 0 0))) ∧
  (∀ (s u : State) (t : Ns), u = s.tick t → u.epochDue 2 (10 * us) →
    exec (.trayEpoch t) s = .next ((((u.setV .epochAt 2 u.now).planProps).each u.accels State.planAccel).trayEpoch)) ∧
  (∀ (s u : State) (t : Ns), u = s.tick t → u.splitsRun → u.isRackLeader → u.epochDue 1 (100 * us) →
    exec (.rackEpoch t) s = .next (u.setV .epochAt 1 u.now).splitRack) ∧
  (∀ (s u : State) (t : Ns), u = s.tick t → u.splitsRun → u.hasRatline → u.isMasthead → u.epochDue 0 ms →
    exec (.installationEpoch t) s = .next (u.setV .epochAt 0 u.now).splitInstall) ∧
  (∀ (s u : State) (t : Ns) (n : Fin 512), u = s.tick t → exec (.grantEffective t n) s = .next (u.settleNode n.val) ∧
    exec (.limitEffective t n) s = .next (u.settleNode n.val) ∧ (u.settleNode n.val).get .grant n.val = u.grantAt n.val u.now) ∧
  (∀ (s u : State) (t : Ns), u = s.tick t → u.hasRatline →
    let body : List Int := [u.var .serial, u.get .rackId, u.get .rackPriority, 0, u.get .rackMembers, if u.locked then 1 else 0, u.now]
    let ports := u.ratPortsUp.filter (fun p => ((u.rat p).rackId : Int) = u.get .rackId)
    exec (.rackHelloSend t) s = .next (u.each ports (fun s p => s.ratLink p 2 0x20 body)).rackElect) ∧
  (∀ (s u : State) (t : Ns) (p : Fin 10) (m : RackHello), u = s.tick t → (m.rackId : Int) = u.get .rackId → (m.serial : Int) ≠ u.var .serial →
    8 ≤ m.hops →
    let h : Hearing := { serial := m.serial, port := p.val, hops := m.hops, at_ := u.now, stamp := m.stamp, prio := m.prio, locked := m.locked }
    let v : State := { u with hearings := h :: u.hearings.filter (fun x => !(decide (x.serial = m.serial) && decide (x.port = p.val))) }
    exec (.rackHello t p m) s = .next v.rackElect) ∧
  (∀ (s u : State) (t : Ns) (m : BudgetReport), u = s.tick t → m.level = 0 → u.isRackLeader → (m.rackId : Int) = u.get .rackId →
    u.rackMembers = [] → exec (.budgetReport t m) s =
      .next { u with rackMembers := [({ serial := m.serial, last := m.grant } : BudgetMember).report m u.now] }) ∧
  (∀ (s u : State) (t : Ns) (m : BudgetGrant), u = s.tick t → (m.serial : Int) = u.var .serial → u.newerEpoch 0 m.epoch → 2 ≤ u.timeState →
    m.level = 0 → (m.leader : Int) = u.get .rackLeader →
    exec (.budgetGrant t m) s = .next (((u.put .limit nodeRack m.parentLimit).put .rackOther nodeRack m.parentOther).acceptGrant 0 m.epoch
      m.grant m.effective)) ∧
  (∀ (s u : State) (t : Ns) (level : Fin 2), u = s.tick t → u.due .rackHold level.val → level.val = 0 ∨ u.isRackLeader →
    exec (.rackHoldExpiry t level) s = .next (u.isolate level.val)) ∧
  (∀ (s u : State) (a : Arrival) (o : Origin) (v : Int), s.opensWrite a .rackOther v (setRackOther v) = some (u, o) → writeIndex a .rackOther = nodeRack →
    u.isRackLeader → v ≤ u.get .limit nodeRack →
    exec (.writeRackOther a v) s = .next ((u.put .rackOther nodeRack v).conclude u o (.st .ok)))

/-- Fast protection and compliance (after R62, R326, R345–R350). -/
def Obligations.FastRowsComplete : Prop :=
  (∀ (s u : State) (t : Ns) (feeds : List FeedSample), (s.tick t).onGrid us → u = (s.tick t).takeInput feeds → u.fastRuns →
    exec (.fastSenseSample t feeds) s = .next u.judgeFast) ∧
  (∀ (s u v w : State) (t : Ns) (mask : Nat), u = s.tick t → u.due .fastStage2 → u.inputSince (u.timer .fastStage2 0) → v = u.disarm .fastStage2 → v.fastThreshold < v.pIn →
    v.raiseFast (fun _ => 7) = (w, mask) →
    exec (.fastStage2Check t) s = .next ((w.fastEvent 2 mask).arm .fastFurl 0 ((w.fastEvent 2 mask).getN .fastFurlTime * us))) ∧
  (∀ (s u v : State) (t : Ns), u = s.tick t → u.due .fastFurl → u.inputSince (u.timer .fastFurl 0) → v = u.disarm .fastFurl → v.fastThreshold < v.pIn →
    exec (.fastFurlExpiry t) s = .next ((v.fastEvent 3 0).furlPlain 8 5)) ∧
  (∀ (s u : State) (t : Ns), u = s.tick t → u.due .fastRelease → u.fast.low.isSome →
    exec (.fastReleaseExpiry t) s = .next ((State.disarm { u with fast := { u.fast with stepping := true } } .fastRelease).fastStepDown)) ∧
  (∀ (s u : State) (t : Ns), u = s.tick t → u.due .fastStep → u.fast.stepping → exec (.reefStepDown t none) s = .next u.fastStepDown) ∧
  (∀ (s u : State) (t : Ns) (a : Fin 8), u = s.tick t → u.due .complyStep a.val → 0 ≤ u.var .reefUnder a.val →
    u.varN .reefUnder a.val + ms ≤ u.now →
    let v : State := u.stepReef a.val 1 (u.var .reefSrc (8 * a.val + 1) - 1)
    exec (.reefStepDown t (some a)) s = .next (if (v.getN .reefSources a.val).testBit 1
      then v.arm .complyStep a.val (v.getN .fastStep * us) else v.disarm .complyStep a.val)) ∧
  (∀ (s u v : State) (t : Ns) (a : Fin 8) (g : Int), u = s.tick t → g = u.grantAt (nodeAccel a.val) u.now →
    ((g * (1000 + u.get .complyMargin) : Int) : Rat) / 1000 < u.outputPower a.val 4 → (g : Rat) < u.outputPower a.val 4 →
    0 ≤ u.var .reefOver a.val → u.flag .reefOverDone a.val = false → u.varN .reefOver a.val + u.getN .complyTime * us ≤ u.now →
    (u.regTile a.val).isSome → v = (u.setV .reefOver a.val (u.var .reefOver a.val)).setV .reefUnder a.val (-1) →
    exec (.complianceCheck t a) s = .next (v.overGrant a.val (u.outputPower a.val 4) g)) ∧
  (∀ (s u : State) (t : Ns) (a : Fin 8), u = s.tick t → u.due .reefCmd a.val →
    exec (.reefDurationExpiry t a) s = .next ((u.disarm .reefCmd a.val).clearReef a.val 2))

/-- The budget's requests (after R323, R334, R338). -/
def Obligations.BudgetRequestsComplete : Prop :=
  (∀ (s u : State) (a : Arrival) (o : Origin) (v : Int), let n := objIdx a.hdr.object
    s.opens a (.setBudget v) (doSetBudget a v) = some (u, o) → objCls a.hdr.object = 0x14 → okPower n v → u.foreignNode n = none → u.get .minGrant n ≤ v →
    (u.capAt n u.now ≤ (if u.isGranted n then min v (u.get .grant n) else v) → exec (.setBudget a v) s = .next ((((u.put .limit n v).modNode n
      (fun x => { x with lims := [] })).settleNode n).conclude u o (.st .ok))) ∧
    ((if u.isGranted n then min v (u.get .grant n) else v) < u.capAt n u.now → exec (.setBudget a v) s = .next ((((u.put .limit n v).modNode n
      (fun x => { x with lims := x.lims ++ [(u.now + decLead n, u.get .limit n)] })).settleNode n).conclude u o (.st .ok)))) ∧
  (∀ (s u : State) (a : Arrival) (o : Origin) (v : Int), let n := objIdx a.hdr.object
    s.reaches a (.setBudget v) (doSetBudget a v) = some (u, o) → objCls a.hdr.object = 0x14 → okPower n v →
    (u.entered o (.setBudget v)).foreignNode n = none → v < (u.entered o (.setBudget v)).get .minGrant n →
    exec (.setBudget a v) s = .next (u.outcome o (.st .budgetBelowMin) u.journal.committed)) ∧
  (∀ (s u : State) (a : Arrival) (o : Origin) (w : Nat), let n := objIdx a.hdr.object
    s.opens a (.setWeight w) (doSetWeight a w) = some (u, o) → objCls a.hdr.object = 0x14 → 8 ≤ n → 1 ≤ w → w ≤ 255 →
    exec (.setWeight a w) s = .next ((u.put .weight n w).conclude u o (.st .ok))) ∧
  (∀ (s u : State) (a : Arrival) (o : Origin) (v : Int), let n := objIdx a.hdr.object
    s.opens a (.setMinGrant v) (doSetMinGrant a v) = some (u, o) → objCls a.hdr.object = 0x14 → n ≠ 0 → okPower n v → u.foreignNode n = none →
    v ≤ u.get .limit n → u.minBound n v → exec (.setMinGrant a v) s = .next ((u.put .minGrant n v).conclude u o (.st .ok))) ∧
  (∀ (s u v : State) (a : Arrival) (o : Origin) (own : List Fld), let n := objIdx a.hdr.object
    s.opens a .readGrants (doReadGrants a) = some (u, o) → objCls a.hdr.object = 0x14 → 256 ≤ n → u.foreignNode n = none → u.grantRecord n = (own, v) →
    exec (.readGrants a) s = .next (v.conclude u o (.done .ok ([u64 (u.now / (2 * us) * (2 * us) : Nat), u32 1, u32 0] ++ own)))) ∧
  (∀ (s u : State) (a : Arrival) (o : Origin) (level duration : Nat) (l : List Nat), s.opens a (.reef level duration) (doReef a level duration) = some (u, o) →
    u.reefTargets a.hdr.object = some l → level ≤ 7 → duration = 0 ∨ (10 ≤ duration ∧ duration ≤ 60000000) →
    exec (.reef a level duration) s = .next ((u.each l (fun s x => (s.setT .reefCmd x (if duration = 0 then none else
      some (s.now + duration * us))).setReef x 2 level)).conclude u o (.st .ok))) ∧
  (∀ (s u : State) (a : Arrival) (o : Origin) (l : List Nat), s.opens a .releaseReef (doReleaseReef a) = some (u, o) → u.reefTargets a.hdr.object = some l →
    exec (.releaseReef a) s = .next ((u.each l (fun s x => (s.disarm .reefCmd x).clearReef x 2)).conclude u o (.st .ok)))

/-- The forecast's rows (after R368–R400). -/
def Obligations.ForecastRowsComplete : Prop :=
  (∀ (s u : State) (t : Ns), u = s.tick t → u.fcStep ≠ 0 → u.now % max 1 u.fcStep = 0 →
    exec (.forecastStep t) s = .next ((u.each u.tilesIn (fun s x => s.inferTile s.now x)).setV .fcStart 0 u.now)) ∧
  (∀ (s u : State) (t : Ns), u = s.tick t → 0 ≤ u.var .fcStart →
    exec (.forecastPublish t []) s = .next (((u.each u.tilesIn (fun s x => s.publishTile (u.varN .fcStart) x false)).setV .fcStart 0
      (-1)).setV .fcTj 0 (u.varN .fcStart : Nat))) ∧
  (∀ (s u v : State) (t : Ns) (tile : Fin 3) (test : Nat), u = s.tick t → v = u.spend (0x0C0 + tile.val) → v.inService tile.val →
    v.get .arrayState tile.val = 0 → (v.member.features false).testBit 2 →
    exec (.knownAnswerTest t tile false test) s = .next (v.arrayFails tile.val test)) ∧
  (∀ (s u : State) (t : Ns) (d : Fin 256) (x : TrainSample) (m : Nat) (rest : List TrainSample), u = s.tick t →
    (u.fcDom d.val).samples = x :: rest →
    u.slotOf d.val = some m → x.at_ + 256 * us ≤ u.now →
    exec (.trainingSampleComplete t d false) s = .next ((u.modFc d.val (fun x => { x with samples := rest })).modModel m
      (fun x => { x with dropped := x.dropped + 1 }))) ∧
  (∀ (s u v : State) (t : Ns) (d : Fin 256) (x : TrainSample) (m : Nat) (rest : List TrainSample), u = s.tick t →
    (u.fcDom d.val).samples = x :: rest →
    u.slotOf d.val = some m → x.at_ + 256 * us ≤ u.now → v = u.modFc d.val (fun x => { x with samples := rest }) → v.trains m →
    v.hintUsed (d.val / 32) = false →
    exec (.trainingSampleComplete t d true) s = .next (v.modModel m (fun y => { y with
      samples := y.samples + 1, ring := min (y.ring + 1) ringSamples
      store := ({ x with realised := v.realisedAt d.val x.at_, num := y.samples + 1 } :: y.store).take ringSamples }))) ∧
  (∀ (s u : State) (t : Ns) (m : Fin 64), u = s.tick t → u.trains m.val → 2 ≤ (u.model m.val).training.mode →
    0 < (u.model m.val).ring - (u.model m.val).ring / 8 →
    exec (.minibatchDone t m false) s = .next (u.modModel m.val (fun x => { x with minibatches := x.minibatches + 1 }))) ∧
  (∀ (s u : State) (t : Ns) (m : Fin 64), u = s.tick t → u.due .candidate m.val → u.trains m.val → 2 ≤ (u.model m.val).training.mode →
    4096 ≤ (((u.disarm .candidate m.val).armCandidate m.val).model m.val).ring / 8 →
    exec (.candidateEvaluate t m) s = .next (((u.disarm .candidate m.val).armCandidate m.val).scoreCandidate m.val)) ∧
  (∀ (s u : State) (t : Ns) (x : Switch) (mask : Nat), u = s.tick t → u.switches = [x] → x.at_ ≤ u.now → x.mask = some mask →
    exec (.modelSwitchInstant t) s = .next (State.applyBinding { u with switches := [] } x.slot mask x.at_)) ∧
  (∀ (s u : State) (t : Ns) (x : Switch) (g : Nat), u = s.tick t → u.switches = [x] → x.at_ ≤ u.now → x.mask = none → x.gen = some g →
    exec (.modelSwitchInstant t) s = .next (State.applyGen { u with switches := [] } x.slot g)) ∧
  (∀ (s u : State) (t : Ns), u = s.tick t → u.now % (10 * ms) = 0 →
    exec (.errorWindow t) s = .next (u.each (slots.filter u.isActive) (fun s m => s.each s.tilesIn (fun s x => s.endWindow m x)))) ∧
  (∀ (s u v : State) (t : Ns) (m : Fin 64), u = s.tick t → (u.model m.val).shelfDue → (u.model m.val).training.persist = 1 →
    (u.model m.val).shelfAt = none → (u.shelf.get {} m.val).bytes ≠ [] →
    v = u.modModel m.val (fun x => { x with shelfDue := false, shelfAt := some u.now }) →
    exec (.shelfWeightWrite t m) s = .next { v with shelf := v.shelf.put {} m.val { v.shelf.get {} m.val with
      gen := (u.model m.val).gen, training := (u.model m.val).training } }) ∧
  (∀ (s u v : State) (t : Ns), u = s.tick t → u.flag .shelfDone = false → u.get .powerState = psRunning → u.inService 1 → u.inService 2 →
    (u.member.features false).testBit 2 → v = u.setV .shelfDone 0 1 →
    exec (.shelfRestore t) s = .next (v.each (slots.filter (fun m => !(v.shelf.get {} m).bytes.isEmpty && decide (v.get .modelState m = slEmpty)))
      (fun s m => s.restoreShelf ((v.now + max 2000 v.fcStep - 1) / max 2000 v.fcStep * max 2000 v.fcStep) m))) ∧
  (∀ (s u : State) (t : Ns) (m : Fin 64) (o : Origin), let x := (s.tick t).model m.val
    let r := (s.tick t).checkModel m.val (x.parts.flatMap (·.2)) x.total
    u = s.tick t → x.ending = some o → u.get .modelState m.val = slVerifying → NandWhat.model m.val ∉ u.nandWrites → x.keep = false ∨ u.nandLost = false →
    exec (.modelVerifyDone t m) s = .next (if r.1 ≠ .ok then (u.unload m.val).complete o .modelLoaded r.1 [m.val, x.prior, u.get .modelVersion m.val] r.2
      else if x.keep then { u with nandWrites := u.nandWrites ++ [.model m.val] } else u.modelLoaded m.val o))

/-- The forecast's requests and writes (after R378–R403). -/
def Obligations.ForecastRequestsComplete : Prop :=
  (∀ (s u : State) (a : Arrival) (o : Origin) (total : Nat), let m := objIdx a.hdr.object
    s.opens a (.loadModel (.start total 0 0)) (doLoadModel a (.start total 0 0)) = some (u, o) → objCls a.hdr.object = 0x13 → a.hdr.property = 0 → (u.model m).holder = none →
    1 ≤ total → total ≤ 4194304 → u.get .modelState m = slEmpty →
    let v : State := (u.dropPromotion m).modModel m (fun y => { y with
      holder := some (u.originOf a .loadModel), prior := (u.get .modelState m).toNat, total, keep := false, parts := [] })
    exec (.loadModel a (.start total 0 0)) s = .next (((v.hold (u.originOf a .loadModel) [oModel m]).setSlot m slLoading).conclude u o (.st .ok))) ∧
  (∀ (s u : State) (a : Arrival) (o : Origin), let m := objIdx a.hdr.object
    s.opens a (.loadModel .none) (doLoadModel a .none) = some (u, o) → objCls a.hdr.object = 0x13 → a.hdr.property = 2 → (u.model m).holder = none →
    u.get .modelState m = slLoading → exec (.loadModel a .none) s =
      .next (((u.modModel m (fun y => { y with ending := some (u.originOf a .loadModel) })).setSlot m slVerifying).conclude u o (.accepted []))) ∧
  (∀ (s u : State) (a : Arrival) (o : Origin) (mask : Nat), let m := objIdx a.hdr.object
    s.opens a (.activateModel mask) (doActivateModel a mask) = some (u, o) → objCls a.hdr.object = 0x13 → u.get .modelState m = slLoaded →
    (∀ d < 256, mask.testBit d → u.hasDomain d) → u.noCapacity m mask = none →
    exec (.activateModel a mask) s = .next (({ u with switches := u.switches ++
      [({ at_ := u.switchInstant, csn := u.replyCsn (u.originOf a .activateModel), slot := m, mask := some mask } : Switch)] } : State).conclude u o (.done .ok [u64 u.switchInstant]))) ∧
  (∀ (s u : State) (a : Arrival) (o : Origin), let m := objIdx a.hdr.object
    s.opens a .retireModel (doRetireModel a) = some (u, o) → objCls a.hdr.object = 0x13 → u.get .modelState m = slLoaded → u.boundTo m = [] →
    exec (.retireModel a) s = .next (({ (u.dropPromotion m).emptySlot m with shelf := u.shelf.put {} m {} } : State).conclude u o (.st .ok))) ∧
  (∀ (s u : State) (a : Arrival) (o : Origin), s.opens a .queryForecast (doQueryForecast a) = some (u, o) →
    (objCls a.hdr.object = 0x03 → exec (.queryForecast a) s = .next ((u.domainForecast (objIdx a.hdr.object)).2.conclude u o
      (.done .ok (u.domainForecast (objIdx a.hdr.object)).1))) ∧
    (objCls a.hdr.object = 0x02 → exec (.queryForecast a) s = .next ((u.accelForecast (objIdx a.hdr.object)).2.conclude u o
      (.done .ok (u.accelForecast (objIdx a.hdr.object)).1)))) ∧
  (∀ (s u v : State) (a : Arrival) (o : Origin) (mode persist lr drift under margin interval sample lr' drift' under' margin' interval' sample' : Nat),
    let m := objIdx a.hdr.object
    let b := (u.model m).bytes
    s.opens a (.setTraining mode persist lr drift under margin interval sample) (doSetTraining a mode persist lr drift under margin interval sample) = some (u, o) → objCls a.hdr.object = 0x13 → mode ≤ 3 →
    persist ≤ 1 → b ≠ [] → cTrainable b → [0, 1, 2].any u.tileStacks → trainField lr (lrDefault b) 1 (lrMax b) 1 = some lr' →
    trainField drift (driftLimit b) 1 (driftLimit b) 1 = some drift' → trainField under 20 10 (underMax b) 1 = some under' →
    trainField margin 20 1 500 1 = some margin' → trainField interval 10000 1000 3600000 1000 = some interval' →
    trainField sample 256 16 65536 16 = some sample' → (u.shelf.get {} m).bytes = [] → (u.model m).training.mode = mode →
    v = u.modModel m (fun x => { x with training := ⟨mode, persist, lr', drift', under', margin', interval', sample'⟩ }) →
    exec (.setTraining a mode persist lr drift under margin interval sample) s =
      .next (((v.disarm .candidate m).armCandidate m).conclude u o (.st .ok))) ∧
  (∀ (s u : State) (a : Arrival) (o : Origin), let m := objIdx a.hdr.object
    s.opens a .readModelStats (doReadModelStats a) = some (u, o) → objCls a.hdr.object = 0x13 → u.get .modelState m ≠ slEmpty →
    ∃ body : List Fld, exec (.readModelStats a) s = .next (u.conclude u o (.done .ok ([u8 (u.get .modelState m), u8 (u.model m).training.mode] ++ body)))) ∧
  (∀ (s u : State) (a : Arrival) (o : Origin) (v : Int), let m := writeIndex a .trainTile
    s.opensWrite a .trainTile v (setTrainTile v) = some (u, o) → u.tileStacks v.toNat → ((u.windowed (fun s => s.put .trainTile m v)).model m).training.mode = 0 →
    exec (.writeTrainTile a v) s = .next ((u.windowed (fun s => s.put .trainTile m v)).conclude u o (.st .ok))) ∧
  (∀ (s u : State) (a : Arrival) (o : Origin) (v : Int), s.opensWrite a .fcSvnFloor v (setFcSvnFloor v) = some (u, o) →
    u.get .fcSvnFloor (writeIndex a .fcSvnFloor) ≤ v →
    exec (.writeFcSvnFloor a v) s = .next ((u.put .fcSvnFloor (writeIndex a .fcSvnFloor) v).conclude u o (.st .ok))) ∧
  (∀ (s u : State) (a : Arrival) (v : Int), let b := named a P.fcSvnFloor.desc.code
    writeStatus b .fcSvnFloor P.fcSvnFloor.desc.bytes v = .ok → s.arrives b (.setProp P.fcSvnFloor.desc.bytes v) = some u →
    v < u.get .fcSvnFloor (writeIndex a .fcSvnFloor) →
    exec (.writeFcSvnFloor a v) s = .next (u.refuse b (.setProp P.fcSvnFloor.desc.bytes v) .badParam))

/-- Lockstep's rows (after R411–R421). -/
def Obligations.LockstepRowsComplete : Prop :=
  (∀ (s u : State) (t : Ns), u = s.tick t → u.featuresUp.testBit 7 → u.now % roundLen = 0 → u.get .powerState = psRunning →
    exec (.lockRound t) s = .next u.startRound) ∧
  (∀ (s u : State) (t : Ns) (p : Fin 10) (m : LockUp), u = s.tick t → u.get .portRole p.val = 3 → m.round = u.roundNo → u.flag .lockTakes →
    u.flag .lockUpSent = false → p.val ∉ u.lockHeard → u.isMasthead → m.short = false → ∃ v : State,
    v = { u with lockSum := m.entries.foldl mergeEntry u.lockSum, lockHeard := u.lockHeard ++ [p.val] } ∧
    exec (.lockUp t p m) s = .next { v with lockTable := m.entries.foldl v.heardGroup v.lockTable }) ∧
  (∀ (s u : State) (t : Ns), u = s.tick t → u.flag .lockTakes → u.isMasthead → u.flag .lockUpSent = false → 0 ≤ u.var .lockRound →
    u.lockWhole ∨ u.lockWaited ∨ u.roundAt + u.varN .lockLead * us ≤ u.now + 40 * us →
    exec (.lockCommitSend t) s = .next (u.sendCommit (u.roundAt + u.varN .lockLead * us))) ∧
  (∀ (s u : State) (t : Ns) (p : Fin 10) (m : LockCommit), u = s.tick t → (p.val : Int) = u.var .upPort →
    exec (.lockCommit t p m) s = .next ((u.relayCommit m).takeCommit m)) ∧
  (∀ (s u : State) (t : Ns), u = s.tick t → let v : State := u.each (u.lockedAccels.filter (fun a => (u.lockMember a).sent &&
      !(u.lockMember a).acked && decide ((u.lockMember a).at_ + 20 * us ≤ u.now))) (fun s a => s.noteLag a 2)
    exec (.freqAckDeadline t) s = .next (v.each (v.lockCmds.filter (fun c => c.done.any (fun d => decide (d ≤ v.now))))
      (fun s c => s.lockDone c .ok))) ∧
  (∀ (s u : State) (t : Ns) (serial group grid src st : Nat), u = s.tick t → u.isMasthead → u.featuresUp.testBit 7 →
    u.joinTable group grid = some st →
    ∃ (v : State) (own : Int), exec (.lockJoin t serial group grid src) s = .next (v.ratTree 2 0x2B src serial [(serial : Int), group, st, own]) ∧
      v = if st = 0 then u.tableAdd group grid else u) ∧
  (∀ (s u : State) (t : Ns) (group status grid : Nat) (c : LockCmd), u = s.tick t →
    u.lockCmds.find? (fun c => c.group = group ∧ c.ackDue.isSome ∧ !c.leave) = some c →
    (status = 0 → exec (.lockJoinAck t group status grid) s = .next (State.lockEnter { u with lockCmds := u.lockCmds.map (fun x =>
      if x = c then { c with ackDue := none } else x) } { c with ackDue := none })) ∧
    (status = 1 → exec (.lockJoinAck t group status grid) s = .next (u.lockDone c .lockGrid)) ∧
    (2 ≤ status → exec (.lockJoinAck t group status grid) s = .next (u.lockDone c .lockGroupsFull))) ∧
  (∀ (s u : State) (t : Ns), u = s.tick t →
    exec (.lockJoinTimeout t) s = .next (u.each (u.lockCmds.filter (fun c => c.ackDue.any (fun d => decide (d ≤ u.now))))
      (fun s c => s.lockDone c .lockNotReached)))

/-- Lockstep's and the phase plan's requests (after R434, R435). -/
def Obligations.GroupRequestsComplete : Prop :=
  (∀ (s u : State) (a : Arrival) (o : Origin) (mask grid : Nat) (as_ : List Nat), let g := objIdx a.hdr.object
    s.opens a (.joinGroup mask grid) (doJoinGroup a mask grid) = some (u, o) → objCls a.hdr.object = 0x15 → 1 ≤ grid → grid ≤ 1000 → mask < 256 → g ≠ 65535 →
    as_ = (List.range 8).filter (fun i => mask.testBit i) →
    (∀ i ∈ as_, u.hasAccel i ∧ u.isHeld (oAccel i) = false ∧ u.get .accelPresence i = 2 ∧ (u.varN .caps i).testBit 1 ∧ u.groupOf i = none ∧
      u.varN .fStep i ≠ 0 ∧ grid % u.varN .fStep i = 0) → u.takesPart →
    let c : LockCmd := { origin := u.originOf a .joinGroup, group := g, mask, grid }
    let v : State := u.hold (u.originOf a .joinGroup) (as_.map oAccel)
    (u.isMasthead = false → exec (.joinGroup a mask grid) s =
      .next ((State.ratTree { v with lockCmds := v.lockCmds ++ [{ c with ackDue := some (v.now + ms) }] } 2 0x2A 0x0FFFFFFF 0
        [v.var .serial, g, grid]).conclude u o (.accepted []))) ∧
    (u.isMasthead → u.joinTable g grid = some 0 → exec (.joinGroup a mask grid) s =
      .next (((State.tableAdd { v with lockCmds := v.lockCmds ++ [c] } g grid).lockEnter c).conclude u o (.accepted [])))) ∧
  (∀ (s u v : State) (a : Arrival) (o : Origin) (mask : Nat) (as_ : List Nat), let g := objIdx a.hdr.object
    s.opens a (.leaveGroup mask) (doLeaveGroup a mask) = some (u, o) → objCls a.hdr.object = 0x15 → mask < 256 → as_ = (List.range 8).filter (fun i => mask.testBit i) →
    (∀ i ∈ as_, u.isHeld (oAccel i) = false ∧ u.groupOf i = some g) →
    v = (u.hold (u.originOf a .leaveGroup) (as_.map oAccel)).each as_ (fun s i => s.modMember i (fun x => { x with leaving := true })) →
    exec (.leaveGroup a mask) s = .next (({ v with lockCmds := v.lockCmds ++ [({ origin := u.originOf a .leaveGroup, group := g, mask, leave := true,
                                                                                  waitFor := as_ } : LockCmd)] } : State).conclude u o (.accepted []))) ∧
  (∀ (s u : State) (a : Arrival) (o : Origin), let g := objIdx a.hdr.object
    s.opens a .readGroup (doReadGroup a) = some (u, o) → objCls a.hdr.object = 0x15 → u.get .groupRound g ≠ 0 →
    ∃ body : List Fld, exec (.readGroup a) s = .next (u.conclude u o (.done .ok ([u32 (u.get .groupRound g), u16 (u.get .groupFreq g),
      u16 (u.lockGroups.get {} g).grid] ++ body)))) ∧
  (∀ (s u : State) (a : Arrival) (o : Origin) (entries : List PlanEntry), s.opens a (.loadPhasePlan entries) (doLoadPhasePlan a entries) = some (u, o) →
    a.hdr.object = oDevice → entries ≠ [] → entries.length ≤ 125 → entries.any PlanEntry.invalid = false →
    (entries.foldl (fun l e => if (e.kind, e.key) ∈ l then l else l ++ [(e.kind, e.key)])
      ((u.plans.filter (·.loaded)).map (fun e => (e.kind, e.key)))).length ≤ 256 →
    exec (.loadPhasePlan a entries) s = .next ((u.each entries State.loadPlan).conclude u o (.st .ok))) ∧
  (∀ (s u : State) (a : Arrival) (o : Origin) (kind key : Nat), s.opens a (.clearPhasePlan kind key) (doClearPhasePlan a kind key) = some (u, o) → a.hdr.object = oDevice →
    (∀ e, a.hdr.property = 0 → u.plan kind key = some e →
      exec (.clearPhasePlan a kind key) s = .next ((u.putPlans (u.plans.erase e)).conclude u o (.st .ok))) ∧
    (a.hdr.property = 2 → exec (.clearPhasePlan a kind key) s = .next ((u.putPlans []).conclude u o (.st .ok)))) ∧
  (∀ (s v : State) (a : Arrival) (o : Origin) (kind key : Nat), s.reaches a (.clearPhasePlan kind key) (doClearPhasePlan a kind key) = some (v, o) →
    a.hdr.object = oDevice → a.hdr.property = 0 → (v.entered o (.clearPhasePlan kind key)).plan kind key = none →
    exec (.clearPhasePlan a kind key) s = .next (v.outcome o (.st .planNotFound) v.journal.committed)) ∧
  (∀ (s u : State) (a : Arrival) (o : Origin) (first count : Nat), s.opens a (.readPhasePlan first count) (doReadPhasePlan a first count) = some (u, o) → a.hdr.object = oDevice →
    1 ≤ count → count ≤ 125 → let l := (u.plans.drop first).take count
    exec (.readPhasePlan a first count) s = .next (u.conclude u o (.done .ok ([u32 l.length, rsv 4] ++ l.flatMap u.planFields))))

/-- Temperatures, ceilings and furls (after R62, R439, R443, R448–R461). -/
def Obligations.ThermalRowsComplete : Prop :=
  (∀ (s u : State) (t : Ns) (readings : List (Fin 72 × Option Int)), u = s.tick t → u.onGrid (100 * us) →
    exec (.controllerSensorSample t readings) s = .next (u.each readings (fun (s : State) (x : Fin 72 × Option Int) =>
      if s.chanRuns x.1.val then s.reading x.1.val x.2 0 s.now else s))) ∧
  (∀ (s u : State) (t : Ns) (i : Fin 128) (code : Option Nat), u = s.tick t → u.boardTurn (72 + i.val) →
    exec (.housekeepingSample t i code) s = .next (u.sampleCode (72 + i.val) code)) ∧
  (∀ (s u v : State) (t : Ns) (codes : List (Fin 16 × Option Nat)) (d : TrayDesc) (c1 c2 : Nat), u = s.tick t → u.onGrid ms →
    v = u.each codes (fun (s : State) (x : Fin 16 × Option Nat) => s.sampleCode (200 + x.1.val) x.2) → v.td = some d →
    d.supplyChan = some c1 → d.returnChan = some c2 → let w : State := v.put .supplyTemp 0 (v.get .thermalTemperature c1)
    exec (.coolantTempSample t codes) s = .next (w.put .returnTemp 0 (w.get .thermalTemperature c2))) ∧
  (∀ (s u : State) (t : Ns), u = s.tick t → u.onGrid ms → exec (.thermalCeilingUpdate t) s = .next (u.each u.accels State.moveCeiling)) ∧
  (∀ (s u : State) (t : Ns), u = s.tick t → u.now % (u.getN .thermalReefStep * ms) = 0 →
    exec (.thermalReefStep t) s = .next (u.each u.accels State.reefStep)) ∧
  (∀ (s u : State) (t : Ns) (scope : Fin 9), u = s.tick t → u.furlStateOf scope.val = 1 → (u.furlOf scope.val).cut ≤ u.now →
    exec (.furlCutInstant t scope) s = .next (if scope.val < 8 then u.cutFurl scope.val 1 else u.cutTray 1)) ∧
  (∀ (s u : State) (a : Arrival) (o : Origin) (deadline : Nat), s.opens a (.furl deadline) (doFurl a deadline) = some (u, o) → objCls a.hdr.object = 2 →
    100 ≤ deadline → deadline ≤ 60000 → deadline % 100 = 0 →
    let i := objIdx a.hdr.object
    let v : State := u.startFurl i 2 0xFFFF noReading 0 deadline
    let cut := if v.furlStateOf i = 1 then (v.furlOf i).cut else u.now + deadline * ms
    (v.furlWaits i = [] → exec (.furl a deadline) s = .next (v.conclude u o (.done .ok [u64 cut]))) ∧
    (v.furlWaits i ≠ [] → exec (.furl a deadline) s = .next ((State.hold { v with furlCmds := v.furlCmds ++
      [({ origin := u.originOf a .furl, scopes := v.furlWaits i } : FurlCmd)] } (u.originOf a .furl) (((v.furlWaits i).filter (· < 8)).map
        oAccel)).conclude u o (.accepted [u64 cut]))))

/-- The drives' rows (after R62, R85, R474–R486). -/
def Obligations.DriveRowsComplete : Prop :=
  (∀ (s u : State) (t : Ns) (samples : List (Fin 20 × Int)), u = s.tick t → u.coolRuns → u.td.isSome → u.onGrid ms → u.islandGives 0 8 →
    exec (.driveCurrentSample t samples) s = .next (u.each (samples.filter (fun x => u.declared (oDrive x.1.val)))
      (fun (s : State) (x : Fin 20 × Int) => s.sampleDrive x.1.val x.2)).judgeFlow) ∧
  (∀ (s u : State) (t : Ns) (c : Fin 20), u = s.tick t → u.coolRuns → u.islandGives 0 8 → u.declared (oDrive c.val) → u.acts (pTach c.val) = false →
    exec (.tachEdge t c) s = .next (u.takeEdge c.val)) ∧
  (∀ (s u : State) (t : Ns) (c : Fin 20), u = s.tick t → u.coolRuns → u.get .channelState c.val = chKick →
    (u.drv c.val).since + u.getN .kickTime c.val * ms ≤ u.now → (u.driveDesc c.val).ppr ≤ (u.drv c.val).edgeCount →
    exec (.kickTimeExpiry t c) s = .next (u.enterDrive c.val chRun (u.drv c.val).attempt).judgeFlow) ∧
  (∀ (s u : State) (t : Ns) (c : Fin 20), u = s.tick t → u.coolRuns → u.get .channelState c.val = chRest →
    (u.drv c.val).since + u.getN .restTime c.val * ms ≤ u.now →
    exec (.restTimeExpiry t c) s = .next (u.enterDrive c.val chKick ((u.drv c.val).attempt + 1))) ∧
  (∀ (s u : State) (t : Ns) (c : Fin 20), u = s.tick t → u.coolRuns → u.get .channelState c.val = chRun →
    max (u.drv c.val).since ((u.drv c.val).edges.headD 0) + u.tachLimit c.val ≤ u.now → u.bandIs c.val 3 →
    exec (.tachLossExpiry t c) s = .next (u.tachLost c.val).judgeFlow) ∧
  (∀ (s u : State) (t : Ns) (c : Fin 20), u = s.tick t → u.coolRuns → u.get .channelState c.val = chStalled ∨ u.get .channelState c.val = chOpen →
    u.getN .stallRetry c.val ≠ 0 → (u.drv c.val).since + u.getN .stallRetry c.val * sec ≤ u.now →
    exec (.stallRetryExpiry t c) s = .next (u.enterDrive c.val chKick 1)) ∧
  (∀ (s u : State) (t : Ns), u = s.tick t → u.coolRuns → u.td.isSome → u.islandTakes 0 8 →
    exec (.speedLoopUpdate t) s = .next ((u.restartPumps.each u.drivesUsed State.loopDrive).judgeFlow)) ∧
  (∀ (s u : State) (t : Ns), u = s.tick t → u.due .fanHandover →
    exec (.fanTableHandover t) s = .next ((u.disarm .fanHandover).setV .coolStart 0 0).retargetAll) ∧
  (∀ (s u v : State) (t : Ns), u = s.tick t → u.due .hostSilence → v = u.disarm .hostSilence → v.get .autonomous ≠ 1 →
    exec (.hostSilenceExpiry t) s = .next ((v.put .autonomous 0 1).hostSettersOff.raise .autonomous oDevice
      [0, (v.put .autonomous 0 1).hostSettersOff.silence]))

/-- The coolant's and the leak zones' rows (after R62, R490–R506). -/
def Obligations.CoolantRowsComplete : Prop :=
  (∀ (s u : State) (t : Ns) (d : TrayDesc) (pulses : List (Fin 8 × Nat)), u = s.tick t → u.td = some d → u.coolRuns →
    exec (.flowUpdate t pulses) s = .next (u.updateFlow d pulses)) ∧
  (∀ (s u : State) (t : Ns) (d : TrayDesc) (mv : List (Fin 8 × Nat)), u = s.tick t → u.td = some d → u.coolRuns → u.onGrid ms →
    exec (.pressureSample t mv) s = .next (u.updatePressure d mv)) ∧
  (∀ (s u v : State) (t : Ns) (d : TrayDesc) (positions : List (Fin 8 × Int)), u = s.tick t → u.td = some d → u.coolRuns →
    v = u.each positions (fun (s : State) (x : Fin 8 × Int) => s.readValve x.1.val x.2) →
    v.get .powerState = psRunning → exec (.coolantUpdate t positions) s = .next (v.coolStep d)) ∧
  (∀ (s u : State) (t : Ns) (samples : List (Fin 8 × Nat × Bool)), u = s.tick t → u.coolRuns → u.onGrid (10 * ms) →
    exec (.leakSample t samples) s = .next (u.each (samples.filter (fun x => u.declared (oLeakZone x.1.val)))
      (fun (s : State) (x : Fin 8 × Nat × Bool) => s.sampleZone x.1.val x.2.1 x.2.2))) ∧
  (∀ (s u v : State) (t : Ns) (z : Fin 8), u = s.tick t → u.due .leakConfirm z.val → v = u.disarm .leakConfirm z.val →
    (v.get .zoneState z.val = zSuspect → exec (.leakConfirmExpiry t z) s = .next (v.zoneIsWet z.val zWet (v.get .firstAction z.val))) ∧
    (v.get .zoneState z.val = zDrying → exec (.leakConfirmExpiry t z) s = .next (v.zoneIsWet z.val (v.zone z.val).came 0))) ∧
  (∀ (s u : State) (t : Ns) (z : Fin 8), u = s.tick t → u.due .leakEscalate z.val →
    exec (.leakEscalateExpiry t z) s = .next ((u.disarm .leakEscalate z.val).escalate z.val)) ∧
  (∀ (s u v : State) (t : Ns) (z : Fin 8), u = s.tick t → u.due .leakDry z.val → v = u.disarm .leakDry z.val → v.zoneWet z.val →
    exec (.leakDryExpiry t z) s =
      .next (((v.modZone z.val (fun x => { x with came := v.getN .zoneState z.val })).disarm .leakEscalate z.val).zoneTo z.val zDrying 0)) ∧
  (∀ (s u : State) (t : Ns), u = s.tick t → u.due .leakCut → exec (.leakCutExpiry t) s = .next u.cutFeeds)

/-- The coolant's requests (after R484–R510). -/
def Obligations.CoolantRequestsComplete : Prop :=
  (∀ (s u v : State) (a : Arrival) (o : Origin), let c := objIdx a.hdr.object
    s.opens a (.setFan 0 0) (doSetDrive a 7 0 0) = some (u, o) → objCls a.hdr.object = 7 → u.get .autonomous ≠ 1 →
    v = (u.put .control c (setterCode a.binding 0)).modDrv c (fun x => { x with value := 0 }) → v.get .channelState c = chRun → v.coolRuns →
    exec (.setFan a 0 0) s = .next ((v.retarget c).conclude u o (.st .ok))) ∧
  (∀ (s u v : State) (a : Arrival) (o : Origin) (value : Int), let c := objIdx a.hdr.object
    s.opens a (.setFan 2 value) (doSetDrive a 7 2 value) = some (u, o) → objCls a.hdr.object = 7 → 0 ≤ value → value ≤ driveFull c → value % (driveStep c : Int) = 0 →
    u.get .autonomous ≠ 1 → v = (u.put .control c (setterCode a.binding 2)).modDrv c (fun x => { x with value }) → v.get .channelState c = chRun →
    v.coolRuns → exec (.setFan a 2 value) s = .next ((v.retarget c).conclude u o (.st .ok))) ∧
  (∀ (s u v : State) (a : Arrival) (o : Origin) (value : Int), let c := 16 + objIdx a.hdr.object
    s.opens a (.setPump 2 value) (doSetDrive a 8 2 value) = some (u, o) → objCls a.hdr.object = 8 → 0 ≤ value → value ≤ driveFull c → value % (driveStep c : Int) = 0 →
    u.get .autonomous ≠ 1 → u.pumpHeld (objIdx a.hdr.object) = false →
    v = (u.put .control c (setterCode a.binding 2)).modDrv c (fun x => { x with value }) → v.get .channelState c = chRun →
    v.coolRuns → exec (.setPump a 2 value) s = .next ((v.retarget c).conclude u o (.st .ok))) ∧
  (∀ (s u : State) (a : Arrival) (o : Origin) (value : Int), let v := objIdx a.hdr.object
    s.opens a (.setValve 1 value) (doSetValve a 1 value) = some (u, o) → objCls a.hdr.object = 9 → 4 ≤ v → 0 ≤ value → value ≤ 1000 → u.get .autonomous ≠ 1 →
    u.flag .leakShut (v - 4) = false →
    exec (.setValve a 1 value) s = .next ((((u.setV .valveSetter v (if a.binding.cls = .burin then 2 else 1)).setV .valveSet v value).syncValve
      v).conclude u o (.st .ok))) ∧
  (∀ (s u : State) (a : Arrival) (o : Origin) (action : Nat), let z := objIdx a.hdr.object
    s.opens a (.isolateLeak action) (doIsolateLeak a action) = some (u, o) → objCls a.hdr.object = 12 → a.hdr.object ≠ oDevice → 1 ≤ action → action ≤ 3 → (u.zone z).wet →
    exec (.isolateLeak a action) s = .next ((u.zoneIsWet z zWet (max (u.get .firstAction z) action)).conclude u o (.st .ok))) ∧
  (∀ (s u : State) (a : Arrival) (o : Origin), let z := objIdx a.hdr.object
    s.opens a .resetLeakZone (doResetLeakZone a) = some (u, o) → objCls a.hdr.object = 12 →
    u.get .zoneState z = zDrying →
    exec (.resetLeakZone a) s = .next ((((u.put .zoneState z zDry).releaseZone z).disarm .leakConfirm z).conclude u o (.st .ok))) ∧
  (∀ (s v : State) (a : Arrival) (o : Origin), s.reaches a .resetLeakZone (doResetLeakZone a) = some (v, o) → objCls a.hdr.object = 12 →
    (v.entered o .resetLeakZone).get .zoneState (objIdx a.hdr.object) = zWet →
    exec (.resetLeakZone a) s = .next (v.outcome o (.st .leakStillWet) v.journal.committed)) ∧
  (∀ (s u v : State) (a : Arrival) (o : Origin) (inputs points : Nat) (thermals : List Nat) (curve : List (Int × Nat)),
    let c := objIdx a.hdr.object
    s.opens a (.loadFanTable inputs points thermals curve) (doLoadFanTable a inputs points thermals curve) = some (u, o) → objCls a.hdr.object = 7 → 1 ≤ inputs → inputs ≤ 4 → 2 ≤ points →
    points ≤ 8 → (thermals.take inputs).length = inputs → curve.length = points →
    (∀ i ∈ thermals.take inputs, i ≤ 983 ∧ u.objPresent (oThermal i)) → pointsRise curve →
    v = u.modDrv c (fun x => { x with table := some { inputs := thermals.take inputs, points := curve } }) → v.coolRuns →
    exec (.loadFanTable a inputs points thermals curve) s = .next ((v.retarget c).conclude u o (.st .ok))) ∧
  (∀ (s u : State) (a : Arrival) (o : Origin) (mode : Nat) (target weight : Int), s.opens a (.setWaterMode mode target weight) (doSetWaterMode a mode target weight) = some (u, o) →
    a.hdr.object = oDevice → mode ≤ 2 → 20000 ≤ target → target ≤ 70000 → target % 500 = 0 → 0 ≤ weight → weight ≤ 100000 → weight % 100 = 0 →
    exec (.setWaterMode a mode target weight) s =
      .next ((((u.put .waterMode 0 mode).put .returnTarget 0 target).put .waterWeight 0 weight).conclude u o (.st .ok)))

/-- The register instructions (after R527–R530, Table 13.5). -/
def Obligations.EngineRegisterRows : Prop :=
  (∀ (s u : State) (t : Ns) (e : Fin 48) (rd rs rt : Fin 16) (l : Level), (s.tick t).retires e (wordR 0 rd rs rt) 1 = some (u, l) →
    exec (.add t e rd rs rt) s = .next (u.setTop e.val ((l.setReg rd (l.reg rs + l.reg rt)).addFlags (l.reg rs) (l.reg rt)))) ∧
  (∀ (s u : State) (t : Ns) (e : Fin 48) (rd rs rt : Fin 16) (l : Level), (s.tick t).retires e (wordR 1 rd rs rt) 1 = some (u, l) →
    exec (.sub t e rd rs rt) s = .next (u.setTop e.val ((l.setReg rd (l.reg rs - l.reg rt)).subFlags (l.reg rs) (l.reg rt)))) ∧
  (∀ (s u : State) (t : Ns) (e : Fin 48) (rd rs rt : Fin 16) (l : Level), (s.tick t).retires e (wordR 2 rd rs rt) 1 = some (u, l) →
    exec (.and t e rd rs rt) s = .next (u.setTop e.val (l.logic rd (l.reg rs &&& l.reg rt)))) ∧
  (∀ (s u : State) (t : Ns) (e : Fin 48) (rd rs rt : Fin 16) (l : Level), (s.tick t).retires e (wordR 3 rd rs rt) 1 = some (u, l) →
    exec (.or t e rd rs rt) s = .next (u.setTop e.val (l.logic rd (l.reg rs ||| l.reg rt)))) ∧
  (∀ (s u : State) (t : Ns) (e : Fin 48) (rd rs rt : Fin 16) (l : Level), (s.tick t).retires e (wordR 4 rd rs rt) 1 = some (u, l) →
    exec (.xor t e rd rs rt) s = .next (u.setTop e.val (l.logic rd (l.reg rs ^^^ l.reg rt)))) ∧
  (∀ (s u : State) (t : Ns) (e : Fin 48) (rd rs rt : Fin 16) (l : Level), (s.tick t).retires e (wordR 5 rd rs rt) 1 = some (u, l) →
    exec (.shl t e rd rs rt) s = .next (u.setTop e.val (l.logic rd (l.reg rs <<< ((l.reg rt).toNat % 32))))) ∧
  (∀ (s u : State) (t : Ns) (e : Fin 48) (rd rs rt : Fin 16) (l : Level), (s.tick t).retires e (wordR 6 rd rs rt) 1 = some (u, l) →
    exec (.shr t e rd rs rt) s = .next (u.setTop e.val (l.logic rd (l.reg rs >>> ((l.reg rt).toNat % 32))))) ∧
  (∀ (s u : State) (t : Ns) (e : Fin 48) (rd rs rt : Fin 16) (l : Level), (s.tick t).retires e (wordR 7 rd rs rt) 1 = some (u, l) →
    exec (.sar t e rd rs rt) s = .next (u.setTop e.val (l.logic rd ((l.reg rs).sshiftRight ((l.reg rt).toNat % 32))))) ∧
  (∀ (s u : State) (t : Ns) (e : Fin 48) (rd rs rt : Fin 16) (l : Level), (s.tick t).retires e (wordR 8 rd rs rt) 2 = some (u, l) →
    exec (.mul t e rd rs rt) s = .next (u.setTop e.val (l.logic rd (l.reg rs * l.reg rt)))) ∧
  (∀ (s u : State) (t : Ns) (e : Fin 48) (rd rs rt : Fin 16) (l : Level), (s.tick t).retires e (wordR 9 rd rs rt) 2 = some (u, l) →
    exec (.mulh t e rd rs rt) s = .next (u.setTop e.val (l.logic rd (BitVec.ofInt 32 ((l.reg rs).toInt * (l.reg rt).toInt / 2 ^ 32))))) ∧
  (∀ (s u : State) (t : Ns) (e : Fin 48) (rd rs rt : Fin 16) (l : Level), (s.tick t).retires e (wordR 0xA rd rs rt) 8 = some (u, l) →
    (l.reg rt ≠ 0 → exec (.div t e rd rs rt) s = .next (u.setTop e.val { (l.setReg rd (BitVec.ofInt 32 ((l.reg rs).toInt.tdiv (l.reg rt).toInt))).zn
      (BitVec.ofInt 32 ((l.reg rs).toInt.tdiv (l.reg rt).toInt)) with v := decide ((l.reg rs).toInt = -(2 ^ 31) ∧ (l.reg rt).toInt = -1) })) ∧
    (l.reg rt = 0 → exec (.div t e rd rs rt) s = .next (u.setTop e.val { (l.setReg rd 0).zn 0 with v := true }))) ∧
  (∀ (s u : State) (t : Ns) (e : Fin 48) (rd rs rt : Fin 16) (l : Level), (s.tick t).retires e (wordR 0xB rd rs rt) 8 = some (u, l) →
    (l.reg rt ≠ 0 → exec (.divu t e rd rs rt) s = .next (u.setTop e.val { (l.setReg rd (l.reg rs / l.reg rt)).zn (l.reg rs / l.reg rt) with v := false })) ∧
    (l.reg rt = 0 → exec (.divu t e rd rs rt) s = .next (u.setTop e.val { (l.setReg rd 0).zn 0 with v := true }))) ∧
  (∀ (s u : State) (t : Ns) (e : Fin 48) (rd rs rt : Fin 16) (l : Level), (s.tick t).retires e (wordR 0xC rd rs rt) 1 = some (u, l) →
    exec (.min t e rd rs rt) s = .next (u.setTop e.val (l.logic rd (if (l.reg rs).toInt ≤ (l.reg rt).toInt then l.reg rs else l.reg rt)))) ∧
  (∀ (s u : State) (t : Ns) (e : Fin 48) (rd rs rt : Fin 16) (l : Level), (s.tick t).retires e (wordR 0xD rd rs rt) 1 = some (u, l) →
    exec (.max t e rd rs rt) s = .next (u.setTop e.val (l.logic rd (if (l.reg rs).toInt ≤ (l.reg rt).toInt then l.reg rt else l.reg rs)))) ∧
  (∀ (s u : State) (t : Ns) (e : Fin 48) (rd rs rt : Fin 16) (l : Level), (s.tick t).retires e (wordR 0xE rd rs rt) 1 = some (u, l) →
    exec (.cmp t e rs rt) s = .next (u.setTop e.val (l.subFlags (l.reg rs) (l.reg rt)))) ∧
  (∀ (s u : State) (t : Ns) (e : Fin 48) (rd rs rt : Fin 16) (l : Level), (s.tick t).retires e (wordR 0xF rd rs rt) 1 = some (u, l) →
    let q := saturate ((l.reg rs).toInt + (l.reg rt).toInt)
    exec (.sadd t e rd rs rt) s = .next (u.setTop e.val { (l.setReg rd q).zn q with
      c := decide (2 ^ 32 ≤ (l.reg rs).toNat + (l.reg rt).toNat), v := decide (q.toInt ≠ (l.reg rs).toInt + (l.reg rt).toInt) })) ∧
  (∀ (s u : State) (t : Ns) (e : Fin 48) (rd rs rt : Fin 16) (l : Level), (s.tick t).retires e (wordR 0x10 rd rs rt) 1 = some (u, l) →
    let q := saturate ((l.reg rs).toInt - (l.reg rt).toInt)
    exec (.ssub t e rd rs rt) s = .next (u.setTop e.val { (l.setReg rd q).zn q with
      c := decide ((l.reg rs).toNat < (l.reg rt).toNat), v := decide (q.toInt ≠ (l.reg rs).toInt - (l.reg rt).toInt) }))

/-- The immediate instructions (after R527–R530, Table 13.5). -/
def Obligations.EngineImmediateRows : Prop :=
  (∀ (s u : State) (t : Ns) (e : Fin 48) (rd rs : Fin 16) (imm : Fin 262144) (l : Level), (s.tick t).retires e (wordI 1 rd rs imm.val) 1 = some (u, l) →
    exec (.addi t e rd rs imm) s = .next (u.setTop e.val ((l.setReg rd (l.reg rs + sext imm.val 18)).addFlags (l.reg rs) (sext imm.val 18)))) ∧
  (∀ (s u : State) (t : Ns) (e : Fin 48) (rd rs : Fin 16) (imm : Fin 262144) (l : Level), (s.tick t).retires e (wordI 2 rd rs imm.val) 1 = some (u, l) →
    exec (.andi t e rd rs imm) s = .next (u.setTop e.val (l.logic rd (l.reg rs &&& BitVec.ofNat 32 imm.val)))) ∧
  (∀ (s u : State) (t : Ns) (e : Fin 48) (rd rs : Fin 16) (imm : Fin 262144) (l : Level), (s.tick t).retires e (wordI 3 rd rs imm.val) 1 = some (u, l) →
    exec (.ori t e rd rs imm) s = .next (u.setTop e.val (l.logic rd (l.reg rs ||| BitVec.ofNat 32 imm.val)))) ∧
  (∀ (s u : State) (t : Ns) (e : Fin 48) (rd rs : Fin 16) (imm : Fin 262144) (l : Level), (s.tick t).retires e (wordI 4 rd rs imm.val) 1 = some (u, l) →
    exec (.xori t e rd rs imm) s = .next (u.setTop e.val (l.logic rd (l.reg rs ^^^ BitVec.ofNat 32 imm.val)))) ∧
  (∀ (s u : State) (t : Ns) (e : Fin 48) (rd rs : Fin 16) (imm : Fin 262144) (l : Level), (s.tick t).retires e (wordI 5 rd rs imm.val) 1 = some (u, l) →
    (imm.val / 32 % 4 = 0 → exec (.shifti t e rd rs imm) s = .next (u.setTop e.val (l.logic rd (l.reg rs <<< (imm.val % 32))))) ∧
    (imm.val / 32 % 4 = 1 → exec (.shifti t e rd rs imm) s = .next (u.setTop e.val (l.logic rd (l.reg rs >>> (imm.val % 32))))) ∧
    (imm.val / 32 % 4 = 2 → exec (.shifti t e rd rs imm) s = .next (u.setTop e.val (l.logic rd ((l.reg rs).sshiftRight (imm.val % 32)))))) ∧
  (∀ (s u : State) (t : Ns) (e : Fin 48) (rd rs : Fin 16) (imm : Fin 262144) (l : Level), (s.tick t).retires e (wordI 6 rd rs imm.val) 1 = some (u, l) →
    exec (.cmpi t e rs imm) s = .next (u.setTop e.val (l.subFlags (l.reg rs) (sext imm.val 18)))) ∧
  (∀ (s u : State) (t : Ns) (e : Fin 48) (rd : Fin 16) (imm : Fin 4194304) (l : Level), (s.tick t).retires e (wordL 7 rd imm.val) 1 = some (u, l) →
    exec (.lui t e rd imm) s = .next (u.setTop e.val ((l.setReg rd (BitVec.ofNat 32 (imm.val * 1024))).zn (BitVec.ofNat 32 (imm.val * 1024))))) ∧
  (∀ (s u : State) (t : Ns) (e : Fin 48) (rd : Fin 16) (imm : Fin 4194304) (l : Level), (s.tick t).retires e (wordL 8 rd imm.val) 1 = some (u, l) →
    exec (.movi t e rd imm) s = .next (u.setTop e.val ((l.setReg rd (sext imm.val 22)).zn (sext imm.val 22))))

/-- Loads, stores and jumps (after R524, R526, R528). -/
def Obligations.EngineMemoryRows : Prop :=
  (∀ (s u : State) (t : Ns) (e : Fin 48) (rd rs : Fin 16) (imm : Fin 262144) (l : Level), (s.tick t).retires e (wordI 0x10 rd rs imm.val) 2 = some (u, l) →
    (accessOk (l.addr rs imm) 4 → exec (.ldw t e rd rs imm) s = .next (u.setTop e.val (l.setReg rd (BitVec.ofNat 32 ((u.engine e.val).readData (l.addr rs imm) 4))))) ∧
    (accessOk (l.addr rs imm) 4 = false → exec (.ldw t e rd rs imm) s = .next (u.instrFault e.val 2 l))) ∧
  (∀ (s u : State) (t : Ns) (e : Fin 48) (rd rs : Fin 16) (imm : Fin 262144) (l : Level), (s.tick t).retires e (wordI 0x11 rd rs imm.val) 2 = some (u, l) →
    (accessOk (l.addr rs imm) 2 → exec (.ldh t e rd rs imm) s = .next (u.setTop e.val (l.setReg rd ((fun v => sext v 16) ((u.engine e.val).readData (l.addr rs imm) 2))))) ∧
    (accessOk (l.addr rs imm) 2 = false → exec (.ldh t e rd rs imm) s = .next (u.instrFault e.val 2 l))) ∧
  (∀ (s u : State) (t : Ns) (e : Fin 48) (rd rs : Fin 16) (imm : Fin 262144) (l : Level), (s.tick t).retires e (wordI 0x12 rd rs imm.val) 2 = some (u, l) →
    (accessOk (l.addr rs imm) 1 → exec (.ldb t e rd rs imm) s = .next (u.setTop e.val (l.setReg rd (BitVec.ofNat 32 ((u.engine e.val).readData (l.addr rs imm) 1))))) ∧
    (accessOk (l.addr rs imm) 1 = false → exec (.ldb t e rd rs imm) s = .next (u.instrFault e.val 2 l))) ∧
  (∀ (s u : State) (t : Ns) (e : Fin 48) (rd rs : Fin 16) (imm : Fin 262144) (l : Level), (s.tick t).retires e (wordI 0x13 rd rs imm.val) 2 = some (u, l) →
    accessOk (l.addr rs imm) 4 →
    (l.addr rs imm < 0x1800 → exec (.stw t e rd rs imm) s = .next (u.modEngine e.val (fun x => x.writeData (l.addr rs imm) 4 (l.reg rd).toNat))) ∧
    (0x1800 ≤ l.addr rs imm → exec (.stw t e rd rs imm) s = .next (u.instrFault e.val 3 l))) ∧
  (∀ (s u : State) (t : Ns) (e : Fin 48) (rd rs : Fin 16) (imm : Fin 262144) (l : Level), (s.tick t).retires e (wordI 0x14 rd rs imm.val) 2 = some (u, l) →
    accessOk (l.addr rs imm) 2 →
    (l.addr rs imm < 0x1800 → exec (.sth t e rd rs imm) s = .next (u.modEngine e.val (fun x => x.writeData (l.addr rs imm) 2 (l.reg rd).toNat))) ∧
    (0x1800 ≤ l.addr rs imm → exec (.sth t e rd rs imm) s = .next (u.instrFault e.val 3 l))) ∧
  (∀ (s u : State) (t : Ns) (e : Fin 48) (rd rs : Fin 16) (imm : Fin 262144) (l : Level), (s.tick t).retires e (wordI 0x15 rd rs imm.val) 2 = some (u, l) →
    accessOk (l.addr rs imm) 1 →
    (l.addr rs imm < 0x1800 → exec (.stb t e rd rs imm) s = .next (u.modEngine e.val (fun x => x.writeData (l.addr rs imm) 1 (l.reg rd).toNat))) ∧
    (0x1800 ≤ l.addr rs imm → exec (.stb t e rd rs imm) s = .next (u.instrFault e.val 3 l))) ∧
  (∀ (s u : State) (t : Ns) (e : Fin 48) (cond : Fin 16) (off : Fin 4194304) (l : Level),
    ((s.tick t).retires e (wordL 0x20 cond off.val) 2 = some (u, l) → l.holds cond.val → 0 ≤ l.target off → l.target off < 4096 →
      exec (.br t e cond off) s = .next (u.setTop e.val { l with pc := (l.target off).toNat })) ∧
    ((s.tick t).retires e (wordL 0x20 cond off.val) 1 = some (u, l) → l.holds cond.val = false → exec (.br t e cond off) s = .next u)) ∧
  (∀ (s u : State) (t : Ns) (e : Fin 48) (w : Nat) (off : Fin 4194304) (l : Level), wOp w = 0x21 → wImm22 w = off.val →
    (s.tick t).retires e w 2 = some (u, l) → 0 ≤ l.target off → l.target off < 4096 →
    exec (.call t e off) s = .next (u.setTop e.val { l.setReg 15 (BitVec.ofNat 32 l.pc) with pc := (l.target off).toNat })) ∧
  (∀ (s u : State) (t : Ns) (e : Fin 48) (w : Nat) (rs : Fin 16) (l : Level), wOp w = 0x22 → wRs w = rs.val →
    (s.tick t).retires e w 2 = some (u, l) → (l.reg rs).toNat < 4096 →
    exec (.jr t e rs) s = .next (u.setTop e.val { l with pc := (l.reg rs).toNat }))

/-- The system instructions (after R540–R544, R556). -/
def Obligations.EngineSystemRows : Prop :=
  (∀ (s u : State) (t : Ns) (e : Fin 48) (rd rs : Fin 16) (imm : Fin 262144) (l : Level) (p : P), let o := (l.reg rs).toNat
    let code := imm.val % 65536
    (s.tick t).retires e (wordI 0x30 rd rs imm.val) 16 = some (u, l) →
    (iManifest (u.engine e.val).image).any (fun r => decide (r.kind = 2) && decide (r.first ≤ o ∧ o ≤ r.last) && decide (r.prop = 0xFFFF ∨ r.prop = code)) →
    u.checkPresence none o [] = .ok → findProp o code = some p → p.desc.bytes ≤ 4 →
    exec (.rdp t e rd rs imm) s = .next (u.setTop e.val { l.setReg rd (BitVec.ofNat 32
      (u.readNum o p (propIndex o p code) % 2 ^ 64).toNat) with c := false, v := false })) ∧
  (∀ (s u : State) (t : Ns) (e : Fin 48) (rd rs : Fin 16) (imm : Fin 262144) (l : Level), let o := (l.reg rs).toNat
    let code := imm.val % 65536
    (s.tick t).retires e (wordI 0x30 rd rs imm.val) 16 = some (u, l) →
    (iManifest (u.engine e.val).image).any (fun r => decide (r.kind = 2) && decide (r.first ≤ o ∧ o ≤ r.last) && decide (r.prop = 0xFFFF ∨ r.prop = code)) = false →
    exec (.rdp t e rd rs imm) s = .next (u.setTop e.val { l.setReg rd 0 with c := true, v := true })) ∧
  (∀ (s u w : State) (t : Ns) (e : Fin 48) (rd rs : Fin 16) (imm : Fin 262144) (l : Level) (v : Int), let o := (l.reg rs).toNat
    let i := objIdx o
    (s.tick t).retires e (wordI 0x31 rd rs imm.val) 24 = some (u, l) → imm.val / 8 % 2 = 0 →
    (iManifest (u.engine e.val).image).any (fun r => decide (r.kind = 4) && decide (r.first ≤ o ∧ o ≤ r.last)) → objCls o = 3 →
    u.regTile (i / 32) = some (e.val / 16) → u.fcStep ≠ 0 → u.hasDomain i → (u.fcDom i).valid → u.flag .forecastOk i →
    u.whole (u.var .forecast (8 * i + imm.val % 8) : Rat) = (v, w) →
    exec (.fcq t e rd rs imm) s = .next (w.setTop e.val { l.setReg rd (BitVec.ofInt 32 v) with
      c := false, n := decide (0 < (u.fcDom i).missRun), v := false })) ∧
  (∀ (s u : State) (t : Ns) (e : Fin 48) (rd rs : Fin 16) (body : Body) (w k : Nat) (l : Level) (x y : Engine), let a := (l.reg rs).toNat
    let n := 36 + up4 (x.readData (a + 14) 2)
    let h := x.packetAt a k
    wOp w = 0x32 → wRd w = rd.val → wRs w = rs.val → (s.tick t).retires e w 32 = some (u, l) → x = u.engine e.val → a % 4 = 0 → n ≤ 512 →
    a + n ≤ 0x2000 → (List.range 4).find? (fun k => decide (x.slotState k = 0)) = some k →
    x.permits a (x.readData (a + 2) 2) h.object h.property h.paramLen h.safety → body.opcode = x.readData (a + 2) 2 →
    y = ((x.writeData (a + 1) 1 (x.readData (a + 1) 1 ||| 1)).writeData (a + 4) 2 k).writeData (a + 6) 2 0 →
    let z := (y.writeData (a + n - 4) 4 (crc32c ((List.range (n - 4)).map (fun i => y.data.get 0 (a + i))))).writeData (mailAddr k) 4 1
    let v : State := (u.modEngine e.val (fun _ => z)).setTop e.val { l.setReg rd (BitVec.ofNat 32 k) with c := false }
    exec (.gcmd t e rd rs body) s = .next (v.arriveAt { t := v.now, binding := .burin e, queue := 0, hdr := h } body)) ∧
  (∀ (s u : State) (t : Ns) (e : Fin 48) (rd : Fin 16) (imm : Fin 262144) (w : Nat) (l : Level), wOp w = 0x33 → wRd w = rd.val →
    wImm18 w = imm.val → (s.tick t).retires e w 2 = some (u, l) → let k := imm.val % 4
    let st := (u.engine e.val).slotState k
    (st = 2 ∨ st = 3 → imm.val / 4 % 2 = 1 → exec (.gpoll t e rd imm) s = .next ((u.setTop e.val { l.setReg rd (BitVec.ofNat 32 st) with
      z := true }).modEngine e.val (fun x => x.writeData (mailAddr k) 4 0))) ∧
    (st ≠ 2 → st ≠ 3 → exec (.gpoll t e rd imm) s = .next (u.setTop e.val { l.setReg rd (BitVec.ofNat 32 st) with z := false }))) ∧
  (∀ (s u : State) (t : Ns) (e : Fin 48) (w : Nat) (l : Level), wOp w = 0x35 → (s.tick t).retires e w 8 = some (u, l) →
    exec (.eoi t e) s = .next (u.eoi e.val)) ∧
  (∀ (s u : State) (t : Ns) (e : Fin 48) (rd : Fin 16) (w : Nat) (l : Level), wOp w = 0x36 → wRd w = rd.val → (s.tick t).retires e w 2 = some (u, l) →
    (wImm18 w = 0 → rd.val ≠ 15 → exec (.time t e rd 0) s = .next (u.setTop e.val ((l.setReg rd (BitVec.ofNat 32 u.now)).setReg (rd + 1)
      (BitVec.ofNat 32 (u.now / 2 ^ 32))))) ∧
    (wImm18 w = 2 → exec (.time t e rd 2) s = .next (u.setTop e.val (l.setReg rd (BitVec.ofNat 32 l.budget)))) ∧
    (wImm18 w = 3 → exec (.time t e rd 3) s = .next (u.setTop e.val (l.setReg rd (BitVec.ofNat 32 (u.varN .paceNow (e.val / 16))))))) ∧
  (∀ (s u : State) (t : Ns) (e : Fin 48) (rs : Fin 16) (w : Nat) (l : Level) (r : ManRec), wOp w = 0x37 → wRs w = rs.val →
    (s.tick t).retires e w 2 = some (u, l) →
    ((l.reg rs).toNat = 0 → exec (.tset t e rs) s = .next (((u.setTop e.val { l with v := false }).modEngine e.val
      (fun x => { x with period := 0 })).disarm .engineTimer e.val)) ∧
    (handlerOf (u.engine e.val).image vTimer = some r → (l.reg rs).toNat ≠ 0 → r.lo ≤ (l.reg rs).toNat → (l.reg rs).toNat ≤ 10000000 →
      ∃ v : State, v = (u.setTop e.val { l with v := false }).modEngine e.val (fun x => { x with period := (l.reg rs).toNat }) ∧
        exec (.tset t e rs) s = .next (v.setT .engineTimer e.val (some ((v.now / ((l.reg rs).toNat * us) + 1) * ((l.reg rs).toNat * us)))))) ∧
  (∀ (s u : State) (t : Ns) (e : Fin 48) (w : Nat) (l : Level), wOp w = 0x3F → (s.tick t).retires e w 1 = some (u, l) →
    exec (.halt t e) s = .next (u.stopEngine e.val enStopped 1))

/-- The event controller's rows and writes (after R18, R540–R561; that SOFT_PEND's SOURCE is free is the model's, the manual names none). -/
def Obligations.EventControllerRowsComplete : Prop :=
  (∀ (s u v : State) (t : Ns) (r : EventRec) (rest : List EventRec), u = s.tick t → u.raised = r :: rest → v = { u with raised := rest } →
    exec (.occurrencePost t) s = .next (v.each v.tilesIn (fun s t => s.post r.num t { record := r }))) ∧
  (∀ (s u : State) (t : Ns) (e : Fin 48) (c : Nat × Nat × Nat), u = s.tick t → u.candidatesOf e.val = [c] → u.get .engineState e.val = enRunning →
    c.1 < (u.engine e.val).runPrio → (u.engine e.val).stack.length < 8 →
    (c.2.2 ≤ 1022 → exec (.engineDispatch t e) s = .next (u.dispatchFault e.val (u.claim e.val c.2.2))) ∧
    (1022 < c.2.2 → exec (.engineDispatch t e) s = .next (u.dispatchFault e.val (u.claimLocal e.val c.2.2 c.1)))) ∧
  (∀ (s u : State) (t : Ns) (tile : Fin 3) (n : Fin 1024), u = s.tick t →
    exec (.moderationExpiry t tile n) s = .next (u.assign n.val tile.val)) ∧
  (∀ (s u v : State) (t : Ns) (e : Fin 48) (at_ : Ns), u = s.tick t → u.timer .engineTimer e.val = some at_ → at_ ≤ u.now →
    (u.engine e.val).period ≠ 0 → v = u.setT .engineTimer e.val (some (at_ + (u.engine e.val).period * us)) →
    (∀ st k, (u.engine e.val).timer = some (st, k) →
      exec (.timerTick t e) s = .next (v.modEngine e.val (fun x => { x with timer := some (st, k + 1) }))) ∧
    (∀ k, (u.engine e.val).timer = none → (u.engine e.val).stack.reverse.findIdx? (fun l => decide (l.source = vTimer)) = some k →
      exec (.timerTick t e) s = .next (v.modEngine e.val (fun x => x.writeData (0x1800 + 64 * k + 0x20) 4 (x.readData (0x1800 + 64 * k + 0x20) 4 + 1)))) ∧
    ((u.engine e.val).timer = none → (u.engine e.val).stack.reverse.findIdx? (fun l => decide (l.source = vTimer)) = none →
      exec (.timerTick t e) s = .next (v.modEngine e.val (fun x => { x with timer := some (at_, 0) })))) ∧
  (∀ (s u v : State) (t : Ns) (e : Fin 48) (r : Reply) (x : Engine), u = s.tick t → u.mail.find? (fun m => m.1 = e.val) = some (e.val, r) →
    v = { u with mail := u.mail.erase (e.val, r) } → x = v.engine e.val → v.get .engineState e.val = enRunning → r.tag < 4 →
    x.slotState r.tag = 1 ∨ x.slotState r.tag = 4 →
    let st := if !r.final then 4 else if 216 < (recordBytes r.results).length then 3 else 2
    let y := ((x.writeData (mailAddr r.tag) 4 st).writeBytes (mailAddr r.tag + 8) (r.packet.take 32)).writeBytes (mailAddr r.tag + 0x28)
      ((recordBytes r.results).take 216)
    exec (.mailboxReply t e) s = .next (v.modEngine e.val (fun _ =>
      if r.final && (handlerOf y.image vReply).isSome then { y with replies := y.replies ++ [(r.tag, v.now)] } else y))) ∧
  (∀ (s u : State) (t : Ns) (tile : Fin 3), u = s.tick t → u.due .ecHold tile.val →
    exec (.ecHoldLimitExpiry t tile) s = .next (u.setEcHold tile.val false 2)) ∧
  (∀ (s u : State) (a : Arrival) (o : Origin) (tile : Fin 3) (v : Int), let i := propIndex a.hdr.object .srcConfig (0x130 + tile.val)
    writeStatus (named a (0x130 + tile.val)) .srcConfig P.srcConfig.desc.bytes v = .ok →
    s.opens (named a (0x130 + tile.val)) (.setProp P.srcConfig.desc.bytes v) (setSrcConfig v i) = some (u, o) → v.toNat.testBit 28 = false →
    cfgMask (u.cfg (i / 3) (i % 3)) = 0 →
    exec (.writeSrcConfig a tile v) s = .next (((u.put .srcConfig i (cfgWord (if cfgEnable v.toNat then 1 else 0) (cfgMode (u.cfg (i / 3) (i % 3)))
      (if cfgBypass v.toNat then 1 else 0) (cfgPrio (u.cfg (i / 3) (i % 3))) (cfgMod v.toNat) 0)).assign (i / 3) (i % 3)).conclude u o (.st .ok))) ∧
  (∀ (s u : State) (a : Arrival) (o : Origin) (tile : Fin 3) (v : Int), let i := propIndex a.hdr.object .srcStatus (0x134 + tile.val)
    writeStatus (named a (0x134 + tile.val)) .srcStatus P.srcStatus.desc.bytes v = .ok →
    s.opens (named a (0x134 + tile.val)) (.setProp P.srcStatus.desc.bytes v) (setSrcStatus v i) = some (u, o) →
    exec (.writeSrcStatus a tile v) s = .next ((if v.toNat.testBit 23 ∧ u.var .srcOvAt i ≠ u.now then u.modSrc (i / 3) (i % 3)
      (fun x => { x with overflow := false, lost := 0 }) else u).conclude u o (.st .ok))) ∧
  (∀ (s u w : State) (a : Arrival) (o : Origin) (v src : Int), let n := writeIndex a .softPend
    s.opensWrite a .softPend v (setSoftPend a.hdr.force v) = some (u, o) → 0x320 ≤ n → n ≤ 0x33F → u.draw = (src, w) →
    let rec0 : State → EventRec := fun s =>
      { num := n, src := src.toNat, stamp := s.now, csn := s.journal.committed, safety := false, payload := [] }
    let x : State := w.each ([0, 1, 2].filter (fun t => v.toNat.testBit t && w.inService t)) (fun s t => s.post n t { record := rec0 s, software := true })
    exec (.softPend a v) s = .next (x.conclude u o (.st .ok))) ∧
  (∀ (s u : State) (a : Arrival) (o : Origin) (v : Int), s.opensWrite a .ecHold v (setEcHold v) = some (u, o) →
    exec (.writeEcHold a v) s = .next ((u.each [0, 1, 2] (fun s t => s.setEcHold t (v.toNat.testBit t)
      (if v.toNat.testBit t then 0 else 1))).conclude u o (.st .ok))) ∧
  (∀ (s u : State) (a : Arrival) (o : Origin) (v : Int), let e := writeIndex a .autostart
    s.opensWrite a .autostart v (setAutostart v) = some (u, o) → (u.engine e).shelved →
    let q : ShelfProg := { u.progShelf.get {} e with auto := v.toNat }
    exec (.writeAutostart a v) s = .next (({ u.put .autostart e v with progShelf := u.progShelf.put {} e q } : State).conclude u o (.st .ok)))

/-- Programs and their events (after R521–R562). -/
def Obligations.ProgramRowsComplete : Prop :=
  (∀ (s u v : State) (a : Arrival) (o : Origin) (total auto : Nat), let e := objIdx a.hdr.object
    s.opens a (.loadProgram (.start total 0 auto)) (doLoadProgram a (.start total 0 auto)) = some (u, o) → objCls a.hdr.object = 0x0F → a.hdr.property = 0 → (u.engine e).holder = none →
    auto ≤ 1 → 1 ≤ total → total ≤ 65536 → u.get .engineState e = enEmpty →
    v = u.modEngine e (fun y => { y with holder := some (u.originOf a .loadProgram), prior := (u.get .engineState e).toNat, total, keep := false,
                                         auto, parts := [] }) →
    exec (.loadProgram a (.start total 0 auto)) s = .next (((v.hold (u.originOf a .loadProgram) [oBurin e]).setEngine e enLoading 0).conclude u o (.st .ok))) ∧
  (∀ (s u : State) (a : Arrival) (o : Origin), let e := objIdx a.hdr.object
    s.opens a (.loadProgram .none) (doLoadProgram a .none) = some (u, o) → objCls a.hdr.object = 0x0F → (u.engine e).holder = none → u.get .engineState e = enLoading →
    (u.engine e).ending = none →
    (a.hdr.property = 2 → exec (.loadProgram a .none) s = .next ((u.modEngine e (fun y => { y with ending := some (u.originOf a .loadProgram) })).conclude u o
      (.accepted []))) ∧
    (a.hdr.property = 3 → exec (.loadProgram a .none) s = .next ((u.unloadEngine e).conclude u o (.st .ok)))) ∧
  (∀ (s u : State) (t : Ns) (e : Fin 48) (o : Origin), let x := (s.tick t).engine e.val
    let r := (s.tick t).checkProgram (x.parts.flatMap (·.2)) x.total
    u = s.tick t → x.ending = some o → u.get .engineState e.val = enLoading → NandWhat.program e.val ∉ u.nandWrites → x.keep = false ∨ u.nandLost = false →
    exec (.programVerifyDone t e) s = .next (if r.1 ≠ .ok then (u.unloadEngine e.val).complete o .burinLoaded r.1 [e.val, x.prior, u.get .programId e.val] r.2
      else if x.keep then { u with nandWrites := u.nandWrites ++ [.program e.val] } else u.programLoaded e.val o)) ∧
  (∀ (s u : State) (a : Arrival) (o : Origin), let e := objIdx a.hdr.object
    s.opens a .startProgram (doStartProgram a) = some (u, o) → objCls a.hdr.object = 0x0F → u.get .engineState e = enLoaded →
    u.routeConflict (e / 16) (u.engine e).image = false →
    (((u.startEngine e 0).engine e).init ≠ 1 → exec (.startProgram a) s = .next ((u.startEngine e 0).conclude u o (.st .ok))) ∧
    (((u.startEngine e 0).engine e).init = 1 → exec (.startProgram a) s = .next (((u.startEngine e 0).modEngine e
      (fun x => { x with startBy := some ((u.startEngine e 0).originOf a .startProgram) })).conclude u o .later))) ∧
  (∀ (s u : State) (a : Arrival) (o : Origin), let e := objIdx a.hdr.object
    s.opens a .stopProgram (doStopProgram a) = some (u, o) → objCls a.hdr.object = 0x0F →
    (a.hdr.property = 0 → u.get .engineState e = enRunning → exec (.stopProgram a) s = .next ((u.stopEngine e enStopped 0).conclude u o (.st .ok))) ∧
    (a.hdr.property = 1 → u.get .engineState e = enLoaded → let v : State := ((u.dropProgram e).setEngine e enEmpty 0).put .autostart e 0
      exec (.stopProgram a) s = .next (({ v with progShelf := ((u.dropProgram e).setEngine e enEmpty 0).progShelf.put {} e {} } : State).conclude u o (.st .ok)))) ∧
  (∀ (s u : State) (a : Arrival) (o : Origin), let e := objIdx a.hdr.object
    s.opens a .readEngine (doReadEngine a) = some (u, o) → objCls a.hdr.object = 0x0F → u.get .engineState e ≠ enEmpty →
    ∃ body : List Fld, exec (.readEngine a) s = .next (u.conclude u o (.done .ok ([u8 (u.get .engineState e), u8 (u.engine e).stack.length,
      u16 ((u.engine e).stack.headD {}).pc, u32 (u.get .programId e), u16 (iVersion (u.engine e).image), u8 (u.engine e).slot, rsv 1,
      u32 (u.get .dispatches e), u32 (u.get .budgetFaults e)] ++ body)))) ∧
  (∀ (s u : State) (a : Arrival) (o : Origin) (len : Nat) (payload : List Nat), let n := objIdx a.hdr.object
    s.opens a (.raiseEvent len payload) (doRaiseEvent a len payload) = some (u, o) → objCls a.hdr.object = 0x10 → 0x320 ≤ n → n ≤ 0x33F → len ≤ 32 → payload.length = 32 →
    a.binding = .firmware →
    let r : EventRec :=
      { num := n, src := oDevice, stamp := u.now, csn := u.journal.committed, safety := false, payload := (payload.take len).map (fun (b : Nat) => u8 b) }
    exec (.raiseEvent a len payload) s = .next (((u.raiseRec r [] false false).trigger n false
      u.now).conclude u o (.st .ok)))

/-- The rows of the Ratline ports and of the tree (after R570–R588). -/
def Obligations.RatlineRowsComplete : Prop :=
  (∀ (s u : State) (t : Ns) (p : Fin 10) (m : LinkIdentity), u = s.tick t → (u.link (48 + p.val)).state = lkIdent →
    let answered : Nat → State := fun st => u.sendIdent (48 + p.val) 2 0x02 (.ratline p.val 0x02 [1, 0, st, u.var .serial])
      (ratHeader 0x02 0 12 0 (u.getN .taddr) 0 0 ++ ratBody 0x02 [1, 0, st, u.var .serial])
    (m.major = 1 → (m.serial : Int) ≠ u.var .serial → ∃ v : State, v = (answered 0).modRat p.val
        (fun x => { x with accepted := true, rackId := m.rackId, far := m.port, incarnation := m.incarnation }) ∧
      exec (.linkIdentity t p m) s = .next (((v.put .neighbour p.val m.serial).moveLink (48 + p.val) lkActive).partnerArrived 5 p.val
        (oRatPort p.val) m.serial)) ∧
    (m.major ≠ 1 → exec (.linkIdentity t p m) s = .next ((answered 1).ratReject p.val 1 m.serial)) ∧
    (m.major = 1 → (m.serial : Int) = u.var .serial → exec (.linkIdentity t p m) s = .next ((answered 2).ratReject p.val 2 m.serial))) ∧
  (∀ (s u : State) (t : Ns) (p : Fin 10) (major minor status serial : Nat), u = s.tick t →
    (u.link (48 + p.val)).state = lkIdent ∨ (u.link (48 + p.val)).state = lkActive →
    (status ≠ 0 → exec (.linkIdentityAck t p major minor status serial) s = .next (u.ratReject p.val status serial)) ∧
    (status = 0 → exec (.linkIdentityAck t p major minor status serial) s = .next u)) ∧
  (∀ (s u v : State) (t : Ns), u = s.tick t → u.var .advertAt < 0 ∨ u.var .advertAt + 100 * us ≤ u.now → v = (u.setV .advertAt 0 u.now).elect →
    exec (.treeAdvertSend t) s = .next (if v.isMasthead then (v.countV .rootSeq 0).advertise else v.advertise)) ∧
  (∀ (s u : State) (t : Ns) (p : Fin 10) (m : Advert), u = s.tick t → u.ratUp p.val →
    let f : Ns := match (u.rat p.val).advert with
      | some a => if a.root = m.root ∧ seqAdvanced a.seq m.seq = false then (u.rat p.val).freshAt else u.now
      | none => u.now
    exec (.treeAdvert t p m) s = .next ((u.modRat p.val (fun x => { x with advert := some m, freshAt := f })).elect.settleOps)) ∧
  (∀ (s u : State) (t : Ns), u = s.tick t → 0 ≤ u.var .upPort → u.freshAdvert (u.varN .upPort) = none →
    exec (.advertStale t) s = .next u.elect.settleOps) ∧
  (∀ (s u : State) (t : Ns) (p : Fin 10) (m : RatHeader) (vc : Nat), u = s.tick t → ratChannel m.kind = some vc →
    let pass : Nat → State := fun q => u.ratPass q vc m.kind (if m.route = 1 then m.dst else m.serial % 4294967296)
      (.ratline q m.kind ([(m.route : Int), m.src, m.dst, m.serial, (m.hops + 1 : Nat)] ++ m.body.map (fun (b : Nat) => (b : Int))))
      (ratHeader m.kind m.route m.body.length (m.hops + 1) m.src m.dst m.serial ++ m.body)
    (16 ≤ m.hops ∨ m.route = 0 → exec (.ratlineMessageRoute t p m) s = .next u) ∧
    (m.hops < 16 → m.route = 2 → (m.serial : Int) ≠ u.var .serial → ∀ q : Nat, u.rackPort m.serial = some q →
      exec (.ratlineMessageRoute t p m) s = .next (pass q)) ∧
    (m.hops < 16 → m.route = 1 → ∀ q : Nat, u.treeRoute m.dst m.serial = .port q →
      exec (.ratlineMessageRoute t p m) s = .next (pass q)) ∧
    (m.hops < 16 → m.route = 1 → u.treeRoute m.dst m.serial = .unreachable → m.kind = 0x50 →
      exec (.ratlineMessageRoute t p m) s = .next (u.sendRemoteReply m.src 0 Status.ratUnreachable.code [])) ∧
    (m.hops < 16 → m.route = 1 → u.treeRoute m.dst m.serial = .wrongTray → m.kind = 0x50 →
      exec (.ratlineMessageRoute t p m) s = .next (u.sendRemoteReply m.src 0 Status.ratWrongTray.code []))) ∧
  (∀ (s u v : State) (t : Ns) (p : Fin 10) (f : TxFlit), u = s.tick t → f ∈ (u.link (48 + p.val)).queue → f.ch = 2 → f.last →
    f.since + 20 * us ≤ u.now →
    let late := fun (f : TxFlit) => decide (f.ch = 2) && decide (f.since + 20 * us ≤ u.now)
    v = (u.modLink (48 + p.val) (fun x => { x with queue := x.queue.filter (fun f => !late f) })).each
      (List.range ((u.link (48 + p.val)).queue.filter (fun f => late f && f.last)).length) (fun s _ => s.count .vc1Drops p.val) →
    exec (.vc1CreditTimeout t p) s = .next (if v.var .eventAt (0x2000 + p.val) < 0 ∨ v.var .eventAt (0x2000 + p.val) + sec ≤ v.now
      then (v.setV .eventAt (0x2000 + p.val) v.now).raise .ratVc1Drop (oRatPort p.val) [p.val, v.get .vc1Drops p.val] else v)) ∧
  (∀ (s u : State) (a : Arrival) (o : Origin) (v : Int), let i := writeIndex a .portAdmin
    s.opensWrite a .portAdmin v (setPortAdmin v) = some (u, o) →
    exec (.writePortAdmin a v) s = .next ((if v = 1 ∧ ((u.put .portAdmin i v).link (48 + i)).state ≠ lkDown
      then (u.put .portAdmin i v).moveLink (48 + i) lkDown else u.put .portAdmin i v).conclude u o (.st .ok))) ∧
  (∀ (s u : State) (t : Ns), u = s.tick t → exec (.ratlineTimeSend t) s =
    .next (u.each ((List.range 10).filter (fun p => u.ratUp p && (decide (u.get .portRole p = 1) || decide (u.get .portRole p = 3))))
      (fun s p => s.send (.flit (48 + p) (flitBytes 4 0 0 none 0 0 (s.training (48 + p))))))) ∧
  (∀ (s u : State) (t : Ns) (p : Fin 10) (tTx tEcho hold : Nat) (parentLocked : Bool), (s.tick t).ratUp p.val → u = (s.tick t).modLink (48 + p.val) (fun x => { x with rxTtx := tTx, rxAt := (s.tick t).now }) →
    u.var .upPort = p.val → u.ratUp p.val → (u.rat p.val).exchanges = [] → let offset : Int := tTx + ((u.now - tEcho - hold) / 2 : Nat) - u.now
    20 < offset.natAbs → exec (.ratlineTimeFlit t p tTx tEcho hold parentLocked) s =
      .next (u.modRat p.val (fun x => { x with exchanges := [(u.now, offset)], close := 0 })))

/-- The rows of global operations, of remote Gantline and of exports (after R590–R602, R657). -/
def Obligations.GlobalOpRowsComplete : Prop :=
  (∀ (s u : State) (t : Ns) (src serial : Nat) (hdr : Header) (body : Body) (kind scope : Nat) (payload : OpPayload), u = s.tick t →
    opOfBody body = some (kind, scope, payload) → scope = u.getN .taddr → u.get .depth ≠ 255 → u.globalOps.length < 16 →
    exec (.opStart t src serial hdr body) s = .next (u.opRoot kind src payload [])) ∧
  (∀ (s u : State) (t : Ns) (p : Fin 10) (m : OpMsg), u = s.tick t → u.var .upPort = p.val → u.get .depth ≠ 255 →
    (∀ x ∈ u.globalOps, x.opId ≠ m.opId) →
    (m.kind ≤ 1 → exec (.opDown t p m) s =
      .next (State.settleOps { u.opDown m with opsPassed := (m.opId :: u.opsPassed).take 16 })) ∧
    (1 < m.kind → u.globalOps = [] → exec (.opDown t p m) s = .next (u.opBegin {} m false).settleOps)) ∧
  (∀ (s u : State) (t : Ns) (p : Fin 10) (m : OpMsg) (x : GlobalOp), u = s.tick t → u.get .portRole p.val = 3 →
    u.globalOps.find? (fun x => decide (x.opId = m.opId)) = some x → x.closed = false → p.val ∉ x.heard → x.kind = m.kind →
    x.scope = m.scope → x.reduceOp = m.reduceOp →
    exec (.opUp t p m) s = .next (u.setOp x { x with heard := x.heard ++ [p.val], up := x.up.merge m }).settleOps) ∧
  (∀ (s u : State) (t : Ns) (x : GlobalOp), u = s.tick t → u.globalOps = [x] → x.kind ≠ 3 → u.opOrphan x = false → u.opReady x →
    exec (.opWaitClose t) s = .next (u.opClose x).lockClose) ∧
  (∀ (s u : State) (t : Ns) (m : SnapData), u = s.tick t →
    u.globalOps.find? (fun x => decide (x.opId = m.opId) && x.dataDue.isSome) = none →
    let r : List Fld := [u32 m.opId, u32 m.taddr, u64 m.serial, u16 m.rackId, u8 (if m.unlocked then 1 else 0), u8 m.timeState,
      u16 m.result.length, rsv 2] ++ m.result.map (fun (b : Nat) => u8 b)
    exec (.snapData t m) s = .next (u.snapStore m.opId m.taddr r)) ∧
  (∀ (s u : State) (t : Ns) (x : GlobalOp) (d : Ns), u = s.tick t → u.globalOps = [x] → x.dataDue = some d → d ≤ u.now →
    exec (.snapshotCollectTimeout t) s = .next (u.snapComplete x)) ∧
  (∀ (s u : State) (t : Ns) (p : Fin 10) (serial addr attempt : Nat) (hdr : Header) (body : Body), u = s.tick t → u.remoteIns = [] →
    exec (.remoteRequest t p serial addr attempt hdr body) s = .next (State.arriveAt { u with remoteIns := [{ serial, addr, queue := hdr.queue, tag := hdr.tag }] } { t, binding := .ratline p serial, queue := hdr.queue, hdr } body)) ∧
  (∀ (s u : State) (t : Ns) (p : Fin 10) (serial addr : Nat) (hdr : Header) (body : Body) (r : RemoteIn) (packet : List Nat), u = s.tick t →
    u.remoteIns.find? (fun r => decide (r.serial = serial) && decide (r.queue = hdr.queue) && decide (r.tag = hdr.tag)) = some r →
    r.reply = some packet → exec (.remoteRequest t p serial addr 2 hdr body) s = .next (u.sendRemoteReply addr serial 0 packet)) ∧
  (∀ (s u : State) (t : Ns) (serial status : Nat) (packet : List Nat) (r : RemoteOut), u = s.tick t → u.remoteOuts = [r] → r.serial = serial →
    (packet = [] ∨ (r.hdr.tag = leValue ((packet.drop 4).take 2) ∧ r.hdr.queue = leValue ((packet.drop 8).take 2))) →
    (status = 0 → exec (.remoteReply t serial status packet) s = .next (u.remoteEnd r .ok packet)) ∧
    (status = Status.ratUnreachable.code → exec (.remoteReply t serial status packet) s = .next (u.remoteEnd r .ratUnreachable []))) ∧
  (∀ (s u : State) (t : Ns) (r r' : RemoteOut), u = s.tick t → u.remoteOuts = [r] → r.due ≤ u.now → r.fail = none →
    r' = { r with attempt := 2, due := u.now + u.getN .remoteTimeout * us } →
    (r.attempt = 1 → exec (.remoteTimeoutExpiry t) s = .next (({ u with remoteOuts := [r'] } : State).remoteSend r')) ∧
    (r.attempt = 2 → exec (.remoteTimeoutExpiry t) s =
      .next ((u.raise .ratRemoteLost oDevice [r.hdr.queue, r.hdr.tag, r.addr, r.serial]).remoteEnd r .ratOutcomeUnknown []))) ∧
  (∀ (s u : State) (t : Ns) (src serial id seq offset len : Nat) (x : Export), u = s.tick t →
    u.exports.find? (fun x => x.path = 2 ∧ x.id = id) = some x →
    (offset + len ≤ x.room → ∃ v : State, v = u.ratTree 3 0x63 src serial [id, seq, 0] ∧
      exec (.exportData t src serial id seq offset len) s =
        .next { v with exports := v.exports.map (fun y => if y = x then { x with got := x.got + len, heard := v.now } else y) }) ∧
    (x.room < offset + len → exec (.exportData t src serial id seq offset len) s = .next
      ((u.ratTree 3 0x63 src serial [id, seq, Status.recBufferFull.code]).exportDone x .recBufferFull (min x.room (max x.got offset))))) ∧
  (∀ (s u : State) (t : Ns) (id seq status : Nat) (x : Export), u = s.tick t →
    u.exports.find? (fun x => x.path = 1 ∧ x.id = id ∧ seq ∈ x.open_) = some x →
    (status ≠ 0 → exec (.exportAck t id seq status) s = .next (u.exportDone x .recBufferFull x.got)) ∧
    (status = 0 → x.open_ = [seq] → exportCount x ≤ x.next → let y : Export := { x with open_ := [], heard := u.now, got := x.got + min 4096 (exportTotal x - 4096 * seq) }
      exec (.exportAck t id seq status) s = .next ((({ u with exports := u.exports.map (fun z => if z = x then y else z) } : State).ratTree 3 0x64 y.addr
        y.serial [y.id, (exportTotal y : Nat), 0]).exportDone y .ok (exportTotal y)))) ∧
  (∀ (s u : State) (t : Ns) (id bytes status : Nat) (x : Export), u = s.tick t → u.exports.find? (fun x => x.path = 2 ∧ x.id = id) = some x →
    (status = 0 → exec (.exportEnd t id bytes status) s = .next (u.exportDone x .ok bytes)) ∧
    (status ≠ 0 → exec (.exportEnd t id bytes status) s = .next (u.exportDone x .ratOutcomeUnknown x.got)))

/-- The requests of class 0x09 (after R584–R599). -/
def Obligations.GlobalRequestsComplete : Prop :=
  (∀ (s u : State) (a : Arrival) (o : Origin) (opId scope timeout : Nat), s.opens a (.barrier (.barrier opId scope timeout)) (doBarrier a (.barrier opId scope timeout)) = some (u, o) →
    a.hdr.property = 0 → opId < 2 ^ 31 → 100 ≤ timeout → timeout ≤ 60000000 → timeout % 100 = 0 →
    u.get .depth ≠ 255 → inScope scope (u.getN .taddr) → opId ∉ u.opsPassed → u.globalOps = [] →
      let x : GlobalOp := { opId, kind := 0, reduceOp := 0, scope, timeout, origins := [u.originOf a .barrier], root := decide (u.getN .taddr = scope), begun := true, parent := if u.getN .taddr = scope then -1 else u.var .upPort, closeAt := u.now + timeout * us + u.getN .height * (20 * us), expected := u.downPorts, own := some 0, up := OpMsg.merge { reduceOp := 0 } { members := 1, value := 0 } }
      exec (.barrier a (.barrier opId scope timeout)) s = .next ((u.putOps [x]).conclude u o (.accepted []))) ∧
  (∀ (s v : State) (a : Arrival) (o : Origin) (opId scope timeout : Nat), s.reaches a (.barrier (.barrier opId scope timeout)) (doBarrier a (.barrier opId scope timeout)) = some (v, o) →
    a.hdr.property = 0 → opId < 2 ^ 31 → 100 ≤ timeout → timeout ≤ 60000000 → timeout % 100 = 0 →
    (v.entered o (.barrier (.barrier opId scope timeout))).get .depth = 255 →
    exec (.barrier a (.barrier opId scope timeout)) s = .next (v.outcome o (.st .ratNoTree) v.journal.committed)) ∧
  (∀ (s v : State) (a : Arrival) (opId scope timeout : Nat), s.arrives a (.barrier (.barrier opId scope timeout)) = some v → a.hdr.property = 0 → opId < 2 ^ 31 →
    100 ≤ timeout → timeout ≤ 60000000 → timeout % 100 = 0 → v.get .depth ≠ 255 → inScope scope (v.getN .taddr) = false →
    exec (.barrier a (.barrier opId scope timeout)) s = .next (v.refuse a (.barrier (.barrier opId scope timeout)) .badParam)) ∧
  (∀ (s u : State) (a : Arrival) (o : Origin) (opId scope timeout rop : Nat) (value : Int),
    s.opens a (.reduce (.reduce opId scope timeout rop value)) (doReduce a (.reduce opId scope timeout rop value)) = some (u, o) → a.hdr.property = 0 → opId < 2 ^ 31 → 100 ≤ timeout →
    timeout ≤ 60000000 → timeout % 100 = 0 → rop ≤ 4 → u.get .depth ≠ 255 → inScope scope (u.getN .taddr) → opId ∉ u.opsPassed → u.globalOps = [] →
    ∃ x : GlobalOp, exec (.reduce a (.reduce opId scope timeout rop value)) s = .next ((u.putOps [x]).conclude u o (.accepted [])) ∧
      x.opId = opId ∧ x.kind = 1 ∧ x.reduceOp = rop ∧ x.scope = scope ∧ x.origins = [u.originOf a .reduce] ∧ x.up.members = 1 ∧ x.up.value = value) ∧
  (∀ (s u : State) (a : Arrival) (o : Origin) (id : Nat), s.opens a (.reduce (.opId id)) (doReduce a (.opId id)) = some (u, o) → a.hdr.property = 1 →
    exec (.reduce a (.opId id)) s = .next (u.conclude u o (u.opResult (u.sessionId a) id))) ∧
  (∀ (s u : State) (a : Arrival) (o : Origin) (scope serial : Nat) (hdr : Header) (inner : Body),
    s.opens a (.broadcast (.broadcast scope 1 serial) hdr inner) (doBroadcast a (.broadcast scope 1 serial) hdr inner) = some (u, o) → a.hdr.property = 0 → 36 ≤ hdr.packetLen → hdr.packetLen ≤ 4000 →
    u.get .depth ≠ 255 → scope = u.getN .taddr → inScope scope scope → u.globalOps.length < 16 →
    exec (.broadcast a (.broadcast scope 1 serial) hdr inner) s =
      .next ((u.opRoot 2 scope (.packet hdr inner) [u.originOf a .broadcast]).conclude u o (.accepted []))) ∧
  (∀ (s u : State) (a : Arrival) (o : Origin) (scope : Nat) (items : List SnapItem),
    s.opens a (.snapshotGlobal (.snapshot scope items)) (doSnapshotGlobal a (.snapshot scope items)) = some (u, o) → a.hdr.property = 0 → items ≠ [] → items.length ≤ 32 → u.snapBufs = [] →
    u.get .depth ≠ 255 → scope = u.getN .taddr → inScope scope scope → u.globalOps.length < 16 →
    exec (.snapshotGlobal a (.snapshot scope items)) s = .next ((State.opRoot { u with snapBufs := [({ session := u.sessionId a, origin := u.originOf a .snapshotGlobal } : SnapBuf)] } 3 scope (.items items) [u.originOf a .snapshotGlobal]).conclude u o (.accepted []))) ∧
  (∀ (s u : State) (a : Arrival) (o : Origin) (scope kind mask deadline : Nat), s.opens a (.resetGlobal (.reset scope kind mask deadline)) (doResetGlobal a (.reset scope kind mask deadline)) = some (u, o) →
    a.hdr.property = 0 → kind ≤ 2 → mask < 256 → deadline = 0 ∨ (100 ≤ deadline ∧ deadline ≤ 60000 ∧ deadline % 100 = 0) →
    u.get .depth ≠ 255 → scope = u.getN .taddr → inScope scope scope → u.globalOps.length < 16 →
    exec (.resetGlobal a (.reset scope kind mask deadline)) s =
      .next ((u.opRoot 4 scope (.reset kind mask deadline) [u.originOf a .resetGlobal]).conclude u o (.accepted [])))

/-- The rows of the controller ports (after R612–R623, R704). -/
def Obligations.BusRowsComplete : Prop :=
  (∀ (s u v : State) (t : Ns) (port : Fin 32) (r : BusReq) (turn : Nat), let p := port.val
    u = s.tick t → u.portState p = busIdle → (u.bus p).look = false → (u.bus p).hold = none → u.inService (busTile p) →
    u.nextGrant p = some (r, turn) → v = (u.modBus p (fun b => { b with queue := b.queue.erase r, turn })).countQueued p →
    v.farBlocked p r.txns = false → r.work ≠ .transfer → r.work ≠ .pmWrite →
    exec (.busGrant t port) s = settled (.next ((v.modBus p (fun b => { b with hold := some r, index := 0, tries := 0, holdSince := v.now, reads := [],
                                                                                paused := false })).startTxn p))) ∧
  (∀ (s u v : State) (t : Ns) (port : Fin 32) (r : BusReq) (o : Origin) (turn : Nat), let p := port.val
    u = s.tick t → u.portState p = busIdle → (u.bus p).look = false → (u.bus p).hold = none → u.inService (busTile p) →
    u.nextGrant p = some (r, turn) → r.origin = some o → r.work = .transfer ∨ r.work = .pmWrite →
    v = (u.modBus p (fun b => { b with queue := b.queue.erase r, turn })).countQueued p → v.farBlocked p r.txns = false →
    ∃ w : State, w = v.beginApply o ∧
      exec (.busGrant t port) s = settled (.next ((w.modBus p (fun b => { b with hold := some r, index := 0, tries := 0, holdSince := w.now,
                                                                                 reads := [], paused := false })).startTxn p))) ∧
  (∀ (s u v : State) (t : Ns) (port : Fin 32) (l : List BusReq), u = s.tick t →
    l = (u.bus port.val).queue.filter (fun r => decide (r.since + u.queueWait port.val ≤ u.now)) →
    v = (u.modBus port.val (fun b => { b with queue := b.queue.filter (fun r => decide (r ∉ l)) })).countQueued port.val →
    exec (.queueWaitExpiry t port) s = settled (.next (v.each l (fun s r => s.busDone port.val r .busy 0 0xFF [])))) ∧
  (∀ (s u : State) (t : Ns) (port : Fin 32), let p := port.val
    u = s.tick t → u.txnRuns p →
    let own := (u.bus p).hold.any (fun r => r.owner = 0)
    (∀ reads : List (List Nat), exec (.twoWireTransactionEnd t port (.done reads)) s = settled (.next (u.txnOk p reads))) ∧
    (∀ k : Nat, let v : State := (u.count .naks p).txnBefore p (u.bus p).txn k
      let w : State := if own then v.deviceTried p ((((u.bus p).txn[k]?).map (fun (x : BusSeg) => x.addr)).getD 0) true else v
      exec (.twoWireTransactionEnd t port (.addrNak k)) s = settled (.next (w.txnFails p .busAddrNak k false busIdle))) ∧
    (∀ k : Nat, exec (.twoWireTransactionEnd t port (.dataNak k)) s =
      settled (.next (((u.count .naks p).txnAcked p ((u.bus p).txn.take (k + 1))).txnFails p .busDataNak k false busIdle))) ∧
    (∀ k : Nat, exec (.twoWireTransactionEnd t port (.pec k)) s =
      settled (.next (((u.count .pecErrors p).txnAcked p ((u.bus p).txn.take (k + 1))).txnFails p .busPec k false busIdle))) ∧
    (∀ k : Nat, exec (.twoWireTransactionEnd t port (.arbLost k)) s = settled (.next (((u.count .arbLosses p).txnBefore p (u.bus p).txn k).txnFails p .busArbLost k true busForeign)))) ∧
  (∀ (s u v : State) (t : Ns) (port : Fin 32) (kind : Fin 3) (seg : Nat), let p := port.val
    let addr := (((u.bus p).txn[seg]?).map (fun (x : BusSeg) => x.addr)).getD 0
    u = s.tick t → u.txnRuns p → (kind.val = 2 ↔ u.busMode p = 0) →
    v = ((((u.count .timeouts p).modBus p (fun b => { b with look := true })).arm .sclStuck p (10 * ms)).busEvent 1 p .busTimeout
      [p, kind.val, addr, (((u.count .timeouts p).modBus p (fun b => { b with look := true })).arm .sclStuck p (10 * ms)).get .timeouts p]).txnBefore p (u.bus p).txn seg →
    exec (.twoWireTimeout t port kind seg) s = settled (.next ((if (u.bus p).hold.any (fun r => r.owner = 0) then v.deviceTried p addr true else v).txnFails
      p .busTimeout seg true busBusy))) ∧
  (∀ (s u v : State) (t : Ns) (port : Fin 32) (kind : Fin 2) (bit : Fin 10) (seg : Nat), let p := port.val
    u = s.tick t → u.txnRuns p → v = (u.count .illegalConds p).modBus p (fun b => { b with look := true }) →
    exec (.busIllegalCond t port kind bit seg) s = settled (.next (((v.busEvent 0 p .busIllegalCond [p, kind.val, 0, bit.val, v.get .illegalConds p]).txnBefore p (u.bus p).txn seg).txnFails
      p .busInterrupted seg true busForeign))) ∧
  (∀ (s u : State) (t : Ns) (port : Fin 32) (clocked pulsed near : Bool), u = s.tick t → u.portRests port.val → (u.bus port.val).look →
    exec (.busRecovery t port clocked pulsed near) s = settled (.next (u.recoverSda port.val clocked pulsed near))) ∧
  (∀ (s u : State) (t : Ns) (port : Fin 32) (low : Nat) (pulsed near : Bool), u = s.tick t → u.portRests port.val → u.due .sclStuck port.val →
    exec (.sclStuck t port low pulsed near) s = settled (.next (u.recoverScl port.val low pulsed near))) ∧
  (∀ (s u : State) (t : Ns) (port : Fin 32) (clocked pulsed near : Bool), u = s.tick t → u.inService (busTile port.val) →
    u.portState port.val = busFailed → u.due .busRetry port.val →
    exec (.failedPortRetry t port clocked pulsed near) s = settled (.next (u.recoverSda port.val clocked pulsed near))) ∧
  (∀ (s u : State) (t : Ns) (port : Fin 32), u = s.tick t → u.portRests port.val →
    (u.portState port.val = busIdle → exec (.foreignStartStop t port true) s = settled (.next (u.setPort port.val busForeign))) ∧
    (u.portState port.val = busForeign → exec (.foreignStartStop t port false) s = settled (.next (u.busFree port.val)))) ∧
  (∀ (s u : State) (t : Ns) (port : Fin 32), u = s.tick t → u.portRests port.val → u.portState port.val ≠ busFailed →
    u.portState port.val ≠ busIdle ∨ (u.bus port.val).look → exec (.busIdleTime t port) s = settled (.next (u.busFree port.val)))

/-- The buses' requests (after R614–R634). -/
def Obligations.BusRequestsComplete : Prop :=
  (∀ (s u : State) (a : Arrival) (o : Origin) (retries : Nat) (segs : List BusSeg), let p := objIdx a.hdr.object
    s.opens a (.busTransfer retries segs) (doBusTransfer a retries segs) = some (u, o) → objCls a.hdr.object = 0x0E →
    p < 32 → segs ≠ [] → segs.length ≤ 16 → retries ≤ 7 ∨ retries = 0xFF → segs.all BusSeg.right → segs.getLast?.any (·.stop) →
    segs.any (fun x => !x.read && u.guards a p x.addr) = false →
    u.farBlocked p (splitTxns segs []) = false → u.portState p ≠ busFailed → let n := if retries = 0xFF then u.busRetries p else retries
    exec (.busTransfer a retries segs) s = .next ((u.queueBus a .busTransfer p .transfer (splitTxns segs []) n).1.conclude u o
      (u.queueBus a .busTransfer p .transfer (splitTxns segs []) n).2)) ∧
  (∀ (s v : State) (a : Arrival) (o : Origin) (retries : Nat) (segs : List BusSeg), let p := objIdx a.hdr.object
    s.reaches a (.busTransfer retries segs) (doBusTransfer a retries segs) = some (v, o) → objCls a.hdr.object = 0x0E →
    (32 ≤ p → exec (.busTransfer a retries segs) s = .next (v.outcome o (.st .busNotController) v.journal.committed)) ∧
    (p < 32 → segs ≠ [] → segs.length ≤ 16 → retries ≤ 7 ∨ retries = 0xFF → segs.all BusSeg.right → segs.getLast?.any (·.stop) →
      segs.any (fun x => !x.read && (v.entered o (.busTransfer retries segs)).guards a p x.addr) →
      exec (.busTransfer a retries segs) s = .next (v.outcome o (.st .wouldDisturb) v.journal.committed))) ∧
  (∀ (s : State) (a : Arrival) (op : Op) (p : Nat) (work : BusWork) (txns : List (List BusSeg)) (retries : Nat),
    s.farBlocked p txns = false → s.portState p ≠ busFailed →
    let r : BusReq := { owner := busOwner a.binding, origin := some (s.originOf a op), csn := s.replyCsn (s.originOf a op), work, txns, retries, since := s.now }
    s.queueBus a op p work txns retries = ((s.modBus p (fun b => { b with queue := b.queue ++ [r] })).countQueued p, .later)) ∧
  (∀ (s u : State) (a : Arrival) (o : Origin) (addr page code cmd len : Nat), let p := objIdx a.hdr.object
    s.opens a (.pmbusRead addr page code) (doPmbusRead a addr page code) = some (u, o) → objCls a.hdr.object = 0x0E → p < 32 → pmCommand code = some (cmd, len) → addr ≤ 127 →
    let pec := (u.device p addr).any (·.pec)
    let txns := pageTxns addr page pec ++ (if code = 0 then [readTxn addr 0x20 1 pec] else []) ++ [readTxn addr cmd len pec]
    u.farBlocked p txns = false → u.portState p ≠ busFailed →
    exec (.pmbusRead a addr page code) s = .next ((u.queueBus a .pmbusRead p (.pmRead addr code (decide (code = 0))) txns (u.busRetries p)).1.conclude u o
      (u.queueBus a .pmbusRead p (.pmRead addr code (decide (code = 0))) txns (u.busRetries p)).2)) ∧
  (∀ (s u : State) (a : Arrival) (o : Origin) (addr page code value : Nat), let p := objIdx a.hdr.object
    s.opens a (.pmbusWrite addr page code value) (doPmbusWrite a addr page code value) = some (u, o) → objCls a.hdr.object = 0x0E → p < 32 → code = 0x80 ∨ code = 0x81 → addr ≤ 127 →
    u.guards a p addr = false → let pec := (u.device p addr).any (·.pec)
      let txns := pageTxns addr page pec ++ [[{ addr, len := 2, data := [code - 0x7F, value % 256], pec }]]
      u.farBlocked p txns = false → u.portState p ≠ busFailed →
      exec (.pmbusWrite a addr page code value) s = .next ((u.queueBus a .pmbusWrite p .pmWrite txns (u.busRetries p)).1.conclude u o
        (u.queueBus a .pmbusWrite p .pmWrite txns (u.busRetries p)).2)) ∧
  (∀ (s v : State) (a : Arrival) (o : Origin) (addr page code value : Nat), let p := objIdx a.hdr.object
    s.reaches a (.pmbusWrite addr page code value) (doPmbusWrite a addr page code value) = some (v, o) → objCls a.hdr.object = 0x0E → p < 32 → code = 0x80 ∨ code = 0x81 → addr ≤ 127 →
    (v.entered o (.pmbusWrite addr page code value)).guards a p addr →
    exec (.pmbusWrite a addr page code value) s = .next (v.outcome o (.st .wouldDisturb) v.journal.committed)) ∧
  (∀ (s u : State) (a : Arrival) (o : Origin) (block : List Nat), let p := objIdx a.hdr.object
    s.opens a (.configureBus block) (doConfigureBus a block) = some (u, o) → objCls a.hdr.object = 0x0E → configRight p block →
    (32 ≤ p → exec (.configureBus a block) s = .next ((u.put .busConfig p (leValue block)).conclude u o (.st .ok))) ∧
    (p < 32 → let v : State := u.modBus p (fun b => { b with config := some (leValue block) })
      exec (.configureBus a block) s = .next ((if v.portState p = busIdle then v.applyConfig p else v).conclude u o (.st .ok)))) ∧
  (∀ (s u : State) (a : Arrival) (o : Origin), let p := objIdx a.hdr.object
    s.opens a .busRecover (doBusRecover a) = some (u, o) → objCls a.hdr.object = 0x0E → p < 32 → (u.bus p).hold = none →
    (a.hdr.property = 1 → u.portState p = busIdle → exec (.busRecover a) s = .next ((u.setSwitch p true 1).conclude u o (.st .ok))) ∧
    (a.hdr.property = 0 ∨ a.hdr.property = 2 → exec (.busRecover a) s = .next (((u.modBus p (fun b => { b with recCmds := b.recCmds ++
      [{ origin := u.originOf a .busRecover, kind := a.hdr.property, csn := u.csnOf (u.originOf a .busRecover), acted := false }] })).actRec p).conclude u o .later)))

/-- The recorder's rows and requests (after R651–R660). -/
def Obligations.RecorderRowsComplete : Prop :=
  (∀ (s u : State) (t z : Ns), u = s.tick t → u.timer .recFreeze = some z → z ≤ u.now → u.get .recState = 2 →
    exec (.recorderFreezeInstant t) s = .next (u.freeze z)) ∧
  (∀ (s u : State) (t : Ns), u = s.tick t → u.get .recState = 3 → u.get .autoRelease ≠ 0 →
    u.recorder.frozenAt + u.getN .autoRelease * sec ≤ u.now → u.exports = [] → exec (.autoReleaseExpiry t) s = .next u.resume) ∧
  (∀ (s u v : State) (t : Ns) (f : StippleFrame), u = s.tick t → u.due .stipple → u.get .recState ≠ 0 → u.stippleNow = (f, v) →
    exec (.stippleFrame t) s = .next (({ v with stipple := (f :: v.stipple).take 3145728 } : State).newInterval.arm .stipple 0 (v.getN .stippleInterval * ms))) ∧
  (∀ (s u w : State) (a : Arrival) (o : Origin) (v : Int), s.opensWrite a .stippleInterval v (setStippleInterval v) = some (u, o) →
    w = State.newInterval { u.put .stippleInterval 0 v with stipple := [] } →
    exec (.writeStippleInterval a v) s = .next ((if w.get .recState = 0 then w else w.arm .stipple 0 (v.toNat * ms)).conclude u o (.st .ok))) ∧
  (∀ (s u : State) (a : Arrival) (o : Origin) (post : Nat), s.opens a (.triggerRecorder post) (doTriggerRecorder a post) = some (u, o) → objCls a.hdr.object = 0x17 →
    post ≤ 16000 → post % 100 = 0 →
    (u.get .recState = 1 → exec (.triggerRecorder a post) s =
      .next ((u.recTrigger 0x3FF u.now (post * ms)).conclude u o (.done .ok [u64 (u.now + post * ms : Nat)]))) ∧
    (2 ≤ u.get .recState → exec (.triggerRecorder a post) s = .next ((u.recTrigger 0x3FF u.now (post * ms)).conclude u o (.done .ok [u64 0])))) ∧
  (∀ (s v : State) (a : Arrival) (o : Origin) (post : Nat), s.reaches a (.triggerRecorder post) (doTriggerRecorder a post) = some (v, o) → objCls a.hdr.object = 0x17 →
    post ≤ 16000 → post % 100 = 0 → (v.entered o (.triggerRecorder post)).get .recState = 0 →
    exec (.triggerRecorder a post) s = .next (v.outcome o (.st .recState) v.journal.committed)) ∧
  (∀ (s v : State) (a : Arrival) (o : Origin), s.reaches a .freezeRecorder (doFreezeRecorder a) = some (v, o) → objCls a.hdr.object = 0x17 →
    (v.entered o .freezeRecorder).get .recState = 0 → exec (.freezeRecorder a) s = .next (v.outcome o (.st .recState) v.journal.committed)) ∧
  (∀ (s u : State) (a : Arrival) (o : Origin), s.opens a .freezeRecorder (doFreezeRecorder a) = some (u, o) → objCls a.hdr.object = 0x17 →
    (u.get .recState = 3 → exec (.freezeRecorder a) s = .next (u.conclude u o (.done .ok [u64 u.recorder.z]))) ∧
    (u.get .recState = 1 ∨ u.get .recState = 2 → exec (.freezeRecorder a) s = .next ((u.freeze u.now).conclude u o (.done .ok [u64 u.now])))) ∧
  (∀ (s u : State) (a : Arrival) (o : Origin), s.opens a .releaseRecorder (doReleaseRecorder a) = some (u, o) → objCls a.hdr.object = 0x17 →
    exec (.releaseRecorder a) s = .next ((if 2 ≤ u.get .recState then u.resume else u).conclude u o (.st .ok))) ∧
  (∀ (s u : State) (a : Arrival) (o : Origin) (start sect count : Nat), s.opens a (.readStipple start sect count) (doReadStipple a start sect count) = some (u, o) →
    objCls a.hdr.object = 0x17 → sect ≤ 2 → 1 ≤ count → count ≤ 2 →
    let l := (u.stipple.reverse.filter (fun f => decide (start ≤ f.at_))).take count
    (l = [] → exec (.readStipple a start sect count) s = .next (u.conclude u o (.st .recRange))) ∧
    (∀ f rest, l = f :: rest → exec (.readStipple a start sect count) s = .next (u.conclude u o (.done .ok ([u64 f.at_, u16 l.length, rsv 2, rsv 4] ++
      l.flatMap (fun f => f.sections.getD sect [])))))) ∧
  (∀ (s u : State) (a : Arrival) (o : Origin) (content id first last taddr serial : Nat) (bufs : List (Nat × Nat)),
    s.opens a (.exportRecorder 2 content id first last taddr serial bufs) (doExportRecorder a 2 content id first last taddr serial bufs) = some (u, o) → objCls a.hdr.object = 0x17 → 1 ≤ content → content ≤ 7 →
    bufs ≠ [] → bufs.length ≤ 64 → (dmaPort a.binding).isSome → (∀ b ∈ bufs, b.1 % 4096 = 0 ∧ b.2 % 4096 = 0 ∧ b.2 ≠ 0) →
    let v : State := u.hold (u.originOf a .exportRecorder) [oRecorder]
    let x : Export := { origin := u.originOf a .exportRecorder, path := 2, content, id, room := (bufs.map (fun (b : Nat × Nat) => b.2)).sum, heard := v.now }
    exec (.exportRecorder a 2 content id first last taddr serial bufs) s = .next (({ v with exports := v.exports ++ [x] } : State).conclude u o (.accepted []))) ∧
  (∀ (s v : State) (a : Arrival) (o : Origin) (content id first last taddr serial : Nat) (bufs : List (Nat × Nat)), let b : Body := .exportRecorder 1 content id first last taddr serial bufs
    s.reaches a b (doExportRecorder a 1 content id first last taddr serial bufs) = some (v, o) → objCls a.hdr.object = 0x17 → 1 ≤ content → content ≤ 7 →
    content % 4 ≠ 0 → (v.entered o b).get .recState ≠ 3 →
    exec (.exportRecorder a 1 content id first last taddr serial bufs) s = .next (v.outcome o (.st .recState) v.journal.committed)) ∧
  (∀ (s u : State) (t : Ns) (k : Nat) (x : Export), u = s.tick t → u.exports[k]? = some x →
    (x.path = 0 → exportTotal x = 0 → exec (.exportComplete t k) s = .next (u.exportDone x .recRange 0)) ∧
    (x.path = 0 → exportTotal x ≠ 0 → min (exportTotal x) x.room ≤ u.exported x → exportTotal x ≤ x.room →
      exec (.exportComplete t k) s = .next ((u.dma x).exportDone x .ok (exportTotal x))) ∧
    (x.path = 0 → exportTotal x ≠ 0 → min (exportTotal x) x.room ≤ u.exported x → x.room < exportTotal x →
      exec (.exportComplete t k) s = .next ((u.dma x).exportDone x .recBufferFull x.room)) ∧
    (x.path = 2 → x.heard + u.getN .remoteTimeout * us ≤ u.now →
      exec (.exportComplete t k) s = .next (u.exportDone x .ratOutcomeUnknown x.got)))

/-- R679–R713: the update's opcodes and their ends. -/
def Obligations.StageRequestsComplete : Prop :=
  (∀ (s u v : State) (a : Arrival) (o : Origin) (total resume : Nat), s.opens a (.openStage total resume) (doOpenStage a total resume) = some (u, o) →
    objCls a.hdr.object = 0x12 → resume ≤ 1 → 1024 ≤ total → total ≤ 6442450944 → u.stage.holder = none → u.isHeld oStage = false → u.stageWrites = [] →
    v = (if resume = 1 ∧ u.get .stageState = sgOpen ∧ u.get .stageTotal = (total : Int) then u else u.eraseStage) →
    exec (.openStage a total resume) s = .next (((({ v with stage := { v.stage with holder := some (u.originOf a .openStage).session } } : State).put
      .stageTotal 0 total).setStage sgOpen).conclude u o (.st .ok))) ∧
  (∀ (s u : State) (a : Arrival) (o : Origin) (resume : Nat), s.opens a (.openStage 0 resume) (doOpenStage a 0 resume) = some (u, o) → objCls a.hdr.object = 0x12 → resume ≤ 1 →
    u.stage.holder = none → u.isHeld oStage = false → u.stageWrites = [] →
    exec (.openStage a 0 resume) s = .next (((({ u with stage := { u.stage with holder := none } } : State).eraseStage.put .stageTotal 0 0).setStage
      sgEmpty).conclude u o (.st .ok))) ∧
  (∀ (s u : State) (a : Arrival) (o : Origin) (offset : Nat) (bytes : List Nat), s.opens a (.writeStage offset bytes) (doWriteStage a offset bytes) = some (u, o) →
    objCls a.hdr.object = 0x12 → u.get .stageState = sgOpen → u.stage.holder = some (u.originOf a .writeStage).session → bytes ≠ [] →
    bytes.length ≤ 4016 → offset + bytes.length ≤ u.getN .stageTotal → u.stage.parts = [] → u.stageWrites = [] →
    exec (.writeStage a offset bytes) s = .next (({ u with nandWrites := u.nandWrites ++
      [.stage (u.originOf a .writeStage) (u.replyCsn (u.originOf a .writeStage)) offset bytes] } : State).conclude u o .later)) ∧
  (∀ (s u : State) (a : Arrival) (o : Origin), s.opens a .verifyStage (doVerifyStage a) = some (u, o) → objCls a.hdr.object = 0x12 → u.stage.holder = none →
    u.isHeld oStage = false → u.get .stageState = sgOpen →
    exec (.verifyStage a) s = .next (((({ u with stage := { u.stage with verifying := some (u.originOf a .verifyStage) } } : State).hold
      (u.originOf a .verifyStage) [oStage]).setStage sgVerifying).conclude u o (.accepted []))) ∧
  (∀ (s u v : State) (t : Ns) (o : Origin), u = s.tick t → u.stage.verifying = some o →
    v = { u with stage := { u.stage with verifying := none, holder := none } } →
    ∃ (w : State) (x y : Int), exec (.stageVerifyDone t) s = settled (.next (if u.bundleCheck.1 = .ok
      then ((v.setStage sgVerified).each (bundleDescs u.bundle) State.storeDesc).complete o .stageVerified .ok
        [(leAt u.bundle 0x18 4 : Nat), (leAt u.bundle 6 2 : Nat)]
      else (w.setStage sgOpen).complete o .stageVerified u.bundleCheck.1 [x, y] u.bundleCheck.2)) ∧ w = { v with draws := u.draws + 2 }) ∧
  (∀ (s u v : State) (a : Arrival) (o : Origin) (l : List Fld), s.opens a .planUpdate (doPlanUpdate a) = some (u, o) → objCls a.hdr.object = 0x12 →
    u.get .stageState = sgVerified → u.planResults u.updatePlan = (l, v) →
    exec (.planUpdate a) s = .next (v.conclude u o (.done (if u.updatePlan.1 = 0 then .ok else .noSafeOrder) l))) ∧
  (∀ (s u : State) (a : Arrival) (o : Origin) (i : Nat), let p := objIdx a.hdr.object
    s.opens a .etch (doEtch a) = some (u, o) → a.hdr.property = 0 → objCls a.hdr.object = 0x11 → u.isHeld oStage = false → u.stagedKind 0 = some i →
    (∀ t, u.etchTarget = some t → t = p) → u.onTrial = false → u.staged i = none →
    exec (.etch a) s = .next ((u.stageSpoilt.answer (u.originOf a .etch) .updBundleInvalid [] (u.csnOf (u.originOf a .etch))).conclude u o .later)) ∧
  (∀ (s u v : State) (a : Arrival) (o : Origin) (i : Nat) (b : List Nat), let p := objIdx a.hdr.object
    let x := u.originOf a .etch
    s.opens a .etch (doEtch a) = some (u, o) → a.hdr.property = 0 → objCls a.hdr.object = 0x11 → u.isHeld oStage = false → u.stagedKind 0 = some i →
    (∀ t, u.etchTarget = some t → t = p) → u.onTrial = false → u.staged i = some b →
    v = { (u.hold x [oStage, oPlate p]).beginApply x with etch := some { origin := x, copy := false, target := p } } →
    exec (.etch a) s = .next ((v.norWrite (.record (v.newRecord 7 p 0 (v.plateOf b).digest)) none).conclude u o (.accepted []))) ∧
  (∀ (s u : State) (a : Arrival) (o : Origin), s.opens a .confirm (doConfirm a) = some (u, o) → objCls a.hdr.object = 0xFF →
    exec (.confirm a) s = .next (match u.confirmable with
      | some r => (u.writeConfirm r (some (u.originOf a .confirm))).conclude u o .later
      | none => u.conclude u o (.done .ok [u8 u.confirmCount, rsv 3]))) ∧
  (∀ (s u : State) (t : Ns), u = s.tick t → u.getN .autoConfirm ≠ 0 → u.tilesIn.length = u.member.tiles →
    (∀ x ∈ u.tilesIn, u.varN .joinedAt x + u.getN .autoConfirm * sec ≤ u.now) →
    exec (.autoConfirmExpiry t) s = .next (match u.confirmable with | some r => u.writeConfirm r none | none => u)) ∧
  (∀ (s u v : State) (a : Arrival) (o : Origin) (x : Revoke), let i := objIdx a.hdr.object
    let k := u.originOf a .revokeKey
    s.opens a .revokeKey (doRevokeKey a) = some (u, o) → objCls a.hdr.object = 0x19 → u.keyState i = 1 → u.survives i false = true →
    u.isHeld (oPlate 0) = false → u.isHeld (oPlate 1) = false → v = (u.norWrite (.record (u.newRecord 5 0xFF i (u.keyEc i))) none).hold k [oPlate 0, oPlate 1] →
    x = { origin := k, csn := v.replyCsn k, slot := i, record := (u.newRecord 5 0xFF i (u.keyEc i)).seq, trio := decide (u.membership = 3) } →
    exec (.revokeKey a) s = .next (({ v with revoking := some x } : State).conclude u o (if u.membership = 3 then .accepted [] else .later))) ∧
  (∀ (s v : State) (a : Arrival) (o : Origin), s.reaches a .revokeKey (doRevokeKey a) = some (v, o) → objCls a.hdr.object = 0x19 →
    let w := v.entered o .revokeKey
    w.keyState (objIdx a.hdr.object) = 1 → w.survives (objIdx a.hdr.object) false = false →
    exec (.revokeKey a) s = .next (v.outcome o (.st .denied) v.journal.committed)) ∧
  (∀ (s u : State) (a : Arrival) (o : Origin), s.opens a .readPlates (doReadPlates a) = some (u, o) → objCls a.hdr.object = 0xFF → u.plate 0 = none → u.plate 1 = none →
    ∃ l : List Fld, exec (.readPlates a) s = .next (({ u with draws := u.draws + 8 } : State).conclude u o (.done .ok
      ([u8 ((u.activeRecord.map (fun (r : MetaRec) => r.plate)).getD 0xFF), u8 (if u.var .bootPlate 0 < 0 then 0xFF else u.var .bootPlate 0),
        u8 u.confirmCount, u8 ((u.activeRecord.map (fun (r : MetaRec) => (u.trials r).length)).getD 0)] ++ l))))

/-- R700, R703, R706: ACTIVATE. -/
def Obligations.ActivateComplete : Prop :=
  (∀ (s u v w : State) (a : Arrival) (o : Origin) (stop : Nat) (l : List (List UpdInst)) (r : Int), s.opens a (.activate stop) (doActivate a stop) = some (u, o) →
    objCls a.hdr.object = 0x12 → stop ≤ 1 → u.isHeld oStage = false → u.get .stageState = sgVerified → u.unquiet = false → u.updatePlan = (0, l) →
    ((∃ x ∈ l.flatten, x.kind = 0) → u.membership = 3 ∧ u.etched) →
    (∀ x ∈ l.flatten, x.kind = 1 → u.scope (x.inst / 2) = 0 ∨ stop = 1) → u.draw = (r, v) → w = v.hold (u.originOf a .activate) [oStage] →
    let x : Activation := { origin := u.originOf a .activate, csn := w.csnOf (u.originOf a .activate), stop := decide (stop = 1), todo := u.stepsOf l
                            all := (u.stepsOf l).length, image := (r % 2 ^ 32).toNat }
    exec (.activate a stop) s = .next (({ w with activation := some x, relayDone := [] } : State).conclude u o (.accepted [])).settleUpdate) ∧
  (∀ (s v : State) (a : Arrival) (o : Origin) (stop reason : Nat) (l : List (List UpdInst)), s.reaches a (.activate stop) (doActivate a stop) = some (v, o) →
    let u := v.entered o (.activate stop)
    objCls a.hdr.object = 0x12 → stop ≤ 1 → u.isHeld oStage = false → u.get .stageState = sgVerified → u.unquiet = false → u.updatePlan = (reason, l) →
    reason ≠ 0 → ((∃ x ∈ l.flatten, x.kind = 0) → u.membership = 3 ∧ u.etched) →
    (∀ x ∈ l.flatten, x.kind = 1 → u.scope (x.inst / 2) = 0 ∨ stop = 1) →
    exec (.activate a stop) s = .next (v.outcome o (.done .noSafeOrder (u.planResults (reason, l)).1) v.journal.committed).settleUpdate) ∧
  (∀ (s u : State) (t : Ns) (x : Activation) (k : UpdStep) (rest : List UpdStep), u = s.tick t → u.activation = some x → x.todo = k :: rest →
    u.due .stepTimeout 0 → exec (.stepTimeoutExpiry t) s = .next (u.failStep x k .updComponentFailed).settleUpdate)

/-- R716–R737: the rows of diagnostics. -/
def Obligations.DiagnosticsComplete : Prop :=
  (∀ (s u : State) (a : Arrival) (o : Origin) (x : ArmParams) (k : Point), let p := objIdx a.hdr.object
    s.opens a (.inject (some x)) (doInject a (some x)) = some (u, o) → objCls a.hdr.object = 0x1A → pointOf p = some k → a.hdr.property = 0 → u.get .pointState p = ptIdle →
    u.armedPoints.length < 16 → armRight u.member k x →
    (u.pointLevel k x.value x.duration = 1 → (u.timer .maintenance).isSome) → (u.pointLevel k x.value x.duration = 2 → u.mayDisturb a) →
    exec (.inject a (some x)) s = .next ((u.armPoint p x).conclude u o (.st .ok))) ∧
  (∀ (s v : State) (a : Arrival) (o : Origin) (x : ArmParams) (k : Point), let p := objIdx a.hdr.object
    s.reaches a (.inject (some x)) (doInject a (some x)) = some (v, o) → objCls a.hdr.object = 0x1A → pointOf p = some k → a.hdr.property = 0 →
    let w := v.entered o (.inject (some x))
    w.get .pointState p = ptIdle → (w.pointLevel k x.value x.duration = 1 ∧ w.timer .maintenance = none) ∨ (w.pointLevel k x.value x.duration = 2 ∧ w.mayDisturb a = false) →
    exec (.inject a (some x)) s = .next (v.outcome o (.st .wouldDisturb) v.journal.committed)) ∧
  (∀ (s u : State) (a : Arrival) (o : Origin) (k : Point), let p := objIdx a.hdr.object
    s.opens a (.inject none) (doInject a none) = some (u, o) → objCls a.hdr.object = 0x1A → pointOf p = some k → a.hdr.property = 1 →
    exec (.inject a none) s = .next ((if u.get .pointState p = ptIdle then u else (u.pointIdle p).pointEvent p 4).conclude u o (.st .ok))) ∧
  (∀ (s u : State) (t : Ns) (p : Fin 4096) (seen : Nat) (k : Point), u = s.tick t → pointOf p.val = some k →
    exec (.injectionFire t p seen) s = .next (if u.triggerMet p.val seen then (u.firePoint p.val k).settleUpdate else u)) ∧
  (∀ (s u v : State) (t : Ns) (p : Fin 4096), u = s.tick t → u.due .injHold p.val → v = (u.pointEvent p.val 2).disarm .injHold p.val →
    (pointOf p.val).any Point.outside = false →
    exec (.injectionHoldEnd t p) s = .next ((if (u.points.get {} p.val).left = 0 then v.pointIdle p.val else v.setPoint p.val ptArmed).voteBack p.val
      (u.points.get {} p.val).value)) ∧
  (∀ (s u : State) (t : Ns) (p : Fin 4096), u = s.tick t → u.due .armLimit p.val →
    exec (.armLimitExpiry t p) s = .next (((u.pointIdle p.val).pointEvent p.val 3).voteBack p.val (u.points.get {} p.val).value)) ∧
  (∀ (s u : State) (a : Arrival) (o : Origin) (on duration : Nat), s.opens a (.setMaintenance on duration) (doSetMaintenance a on duration) = some (u, o) → a.hdr.object = oDevice →
    (on = 1 → 60 ≤ duration → duration ≤ 86400 → duration % 60 = 0 → u.timer .maintenance = none → exec (.setMaintenance a on duration) s =
      .next (((u.arm .maintenance 0 (duration * sec)).raise .maintenance oDevice [0, 0, duration]).conclude u o (.done .ok [u32 duration]))) ∧
    (on = 1 → 60 ≤ duration → duration ≤ 86400 → duration % 60 = 0 → (u.timer .maintenance).isSome → exec (.setMaintenance a on duration) s =
      .next ((u.arm .maintenance 0 (duration * sec)).conclude u o (.done .ok [u32 duration]))) ∧
    (on = 0 → exec (.setMaintenance a on duration) s = .next ((u.endMaintenance 0).conclude u o (.done .ok [u32 0])))) ∧
  (∀ (s u : State) (t : Ns), u = s.tick t → u.due .maintenance → exec (.maintenanceExpiry t) s = .next (u.endMaintenance 1)) ∧
  (∀ (s u v : State) (a : Arrival) (o : Origin) (test arg : Nat), let obj := a.hdr.object
    s.opens a (.selftest test arg) (doSelftest a test arg) = some (u, o) → testRight test arg obj → u.testBarred test obj = false →
    test < 8 ∨ (a.binding.cls ≠ .burin ∧ u.mayDisturb a ∧ u.tests.any (fun x => x.disturbs) = false) → v = u.beginTest test arg obj →
    let x : Trial := { origin := some (u.originOf a .selftest), cal := false, test, object := obj, arg, since := v.now, prior := if test = 10 then u.get .command (objIdx obj) else 0 }
    exec (.selftest a test arg) s = .next (((({ v with tests := v.tests ++ [x] } : State).hold (u.originOf a .selftest) [obj]).beginApply (u.originOf a .selftest)).conclude u o (.accepted []))) ∧
  (∀ (s u : State) (t : Ns) (object : ObjId) (test step measured : Nat) (x : Trial), u = s.tick t →
    u.tests.find? (fun x => !x.cal && decide (x.object = object ∧ x.test = test)) = some x → test ≠ 2 → test ≠ 10 → test ≠ 11 →
    exec (.selftestComplete t object test step measured) s = .next (u.endTrial x (if step = 0 then .ok else .diagFailed) (if step = 0 then 0 else 1)
      (step % 256) (measured % 4294967296 : Nat))) ∧
  (∀ (s u : State) (a : Arrival) (o : Origin) (cal : Nat), let obj := a.hdr.object
    s.opens a (.calibrate cal) (doCalibrate a cal) = some (u, o) → u.calBarred cal obj = false →
    (cal = 0 ∧ objCls obj = 6) ∨ (cal = 3 ∧ objCls obj = 1) ∨ ((cal = 1 ∨ cal = 2 ∨ cal = 4) ∧ objCls obj = 1 ∧ objIdx obj ≤ 1) →
    exec (.calibrate a cal) s = .next (((u.addCal (some (u.originOf a .calibrate)) cal obj).hold (u.originOf a .calibrate) [obj]).conclude u o
      (.accepted []))) ∧
  (∀ (s u : State) (t : Ns), u = s.tick t → u.due .calPeriod → exec (.calibrationPeriod t) s =
    .next ((u.arm .calPeriod 0 (u.getN .calPeriod * sec)).each [(1, 0), (1, 1), (2, 0), (2, 1), (4, 0), (4, 1)] (fun (s : State) (x : Nat × Nat) =>
      if s.calBarred x.1 (oTile x.2) ∨ s.tests.any (fun y => y.cal && decide (y.test = x.1 ∧ y.object = oTile x.2)) then s
      else s.addCal none x.1 (oTile x.2)))) ∧
  (∀ (s u v : State) (t : Ns) (object : ObjId) (cal : Nat) (within : Bool) (measured : Int) (errs : List Int) (x : Trial), u = s.tick t →
    u.tests.find? (fun x => x.cal && decide (x.object = object ∧ x.test = cal) && !x.waits) = some x →
    v = (if within then u.applyCal cal (objIdx object) measured errs else match calPart cal with
      | some c => u.markPart (objIdx object) c true measured | none => u) →
    exec (.calibrateComplete t object cal within measured errs) s = settled (.next (v.endTrial x (if within then .ok else .diagFailed) (if within then 0 else 1) 0
      (measured % 4294967296)).nextCal)) ∧
  (∀ (s u : State) (t : Ns) (r : LogRec) (rest : List LogRec), u = s.tick t → u.nandLost = false → u.log.waiting = r :: rest →
    u.log.held.length < 16777216 →
    exec (.logRecordWrite t) s = .next (State.logGap { u with log := { u.log with waiting := rest, held := u.log.held ++ [r] } })) ∧
  (∀ (s u : State) (a : Arrival) (o : Origin) (v : Int), s.opensWrite a .logCursor v (setLogCursor (s.originOf a .setProp).session v) = some (u, o) →
    exec (.writeLogCursor a v) s = .next ((u.modSession (s.originOf a .setProp).session (fun x => { x with cursor := v.toNat })).conclude u o (.st .ok)))

/-- R528, Table 13.9: the faults of instructions. -/
def Obligations.EngineFaults : Prop :=
  (∀ (s : State) (e : Nat) (cause : Nat) (l : Level), s.instrFault e cause l =
    ((s.put .lastFault e (cause * 2 ^ 24 + (l.pc - 1) % 4096 : Nat)).raise .burinFault (oBurin e)
      [e, cause, (l.pc - 1 : Nat), (s.engine e).codeAt (l.pc - 1), l.source]).stopEngine e enFaulted 2) ∧
  (∀ (s u : State) (t : Ns) (e : Fin 48) (w : Nat) (imm : Fin 262144) (l : Level), wOp w = 0x36 → wRd w = 15 → wImm18 w = imm.val → imm.val ≤ 1 →
    (s.tick t).retires e w 2 = some (u, l) → exec (.time t e 15 imm) s = .next (u.instrFault e.val 1 l)) ∧
  (∀ (s u : State) (t : Ns) (e : Fin 48) (rs : Fin 16) (imm : Fin 262144) (l : Level) (p : P), let o := (l.reg rs).toNat
    let code := imm.val % 65536
    (s.tick t).retires e (wordI 0x30 15 rs imm.val) 16 = some (u, l) →
    (iManifest (u.engine e.val).image).any (fun r => decide (r.kind = 2) && decide (r.first ≤ o ∧ o ≤ r.last) && decide (r.prop = 0xFFFF ∨ r.prop = code)) →
    u.checkPresence none o [] = .ok → findProp o code = some p → p.desc.bytes = 8 →
    exec (.rdp t e 15 rs imm) s = .next (u.instrFault e.val 1 l)) ∧
  (∀ (s u : State) (t : Ns) (e : Fin 48) (rd rs : Fin 16) (imm : Fin 262144) (l : Level),
    ((s.tick t).retires e (wordI 0x10 rd rs imm.val) 2 = some (u, l) → accessOk (l.addr rs imm) 4 = false →
      exec (.ldw t e rd rs imm) s = .next (u.instrFault e.val 2 l)) ∧
    ((s.tick t).retires e (wordI 0x11 rd rs imm.val) 2 = some (u, l) → accessOk (l.addr rs imm) 2 = false →
      exec (.ldh t e rd rs imm) s = .next (u.instrFault e.val 2 l)) ∧
    ((s.tick t).retires e (wordI 0x12 rd rs imm.val) 2 = some (u, l) → accessOk (l.addr rs imm) 1 = false →
      exec (.ldb t e rd rs imm) s = .next (u.instrFault e.val 2 l)) ∧
    ((s.tick t).retires e (wordI 0x13 rd rs imm.val) 2 = some (u, l) →
      (accessOk (l.addr rs imm) 4 = false → exec (.stw t e rd rs imm) s = .next (u.instrFault e.val 2 l)) ∧
      (accessOk (l.addr rs imm) 4 → 0x1800 ≤ l.addr rs imm → exec (.stw t e rd rs imm) s = .next (u.instrFault e.val 3 l))) ∧
    ((s.tick t).retires e (wordI 0x14 rd rs imm.val) 2 = some (u, l) →
      (accessOk (l.addr rs imm) 2 = false → exec (.sth t e rd rs imm) s = .next (u.instrFault e.val 2 l)) ∧
      (accessOk (l.addr rs imm) 2 → 0x1800 ≤ l.addr rs imm → exec (.sth t e rd rs imm) s = .next (u.instrFault e.val 3 l))) ∧
    ((s.tick t).retires e (wordI 0x15 rd rs imm.val) 2 = some (u, l) →
      (accessOk (l.addr rs imm) 1 = false → exec (.stb t e rd rs imm) s = .next (u.instrFault e.val 2 l)) ∧
      (accessOk (l.addr rs imm) 1 → 0x1800 ≤ l.addr rs imm → exec (.stb t e rd rs imm) s = .next (u.instrFault e.val 3 l)))) ∧
  (∀ (s u : State) (t : Ns) (e : Fin 48) (w : Nat) (rd rs : Fin 16) (body : Body) (l : Level), let a := (l.reg rs).toNat
    let n := 36 + up4 ((u.engine e.val).readData (a + 14) 2)
    wOp w = 0x32 → wRd w = rd.val → wRs w = rs.val → (s.tick t).retires e w 32 = some (u, l) → a % 4 = 0 → n ≤ 512 → 0x2000 < a + n →
    exec (.gcmd t e rd rs body) s = .next (u.instrFault e.val 2 l)) ∧
  (∀ (s u : State) (t : Ns) (e : Fin 48) (cond rs : Fin 16) (w : Nat) (off : Fin 4194304) (l : Level),
    ((s.tick t).retires e (wordL 0x20 cond off.val) 2 = some (u, l) → l.holds cond.val → l.target off < 0 ∨ 4096 ≤ l.target off →
      exec (.br t e cond off) s = .next (u.instrFault e.val 4 l)) ∧
    (wOp w = 0x21 → wImm22 w = off.val → (s.tick t).retires e w 2 = some (u, l) → l.target off < 0 ∨ 4096 ≤ l.target off →
      exec (.call t e off) s = .next (u.instrFault e.val 4 l)) ∧
    (wOp w = 0x22 → wRs w = rs.val → (s.tick t).retires e w 2 = some (u, l) → 4096 ≤ (l.reg rs).toNat →
      exec (.jr t e rs) s = .next (u.instrFault e.val 4 l)))

/-- R142, Table 3.23: event records and completion blocks as bytes. -/
def Obligations.EventRecordLayout : Prop :=
  (∀ (e : Ev) (vs : List Int), recordLen (layFields e.layout vs) ≤ 32) ∧
  (∀ r : EventRec, recordLen r.payload ≤ 32 → let b := recordBytes r.fields
    b.length = 64 ∧ leAt b 0 2 = r.num % 65536 ∧ leAt b 2 1 = (if r.lostBefore then 2 else 0) + (if r.safety then 4 else 0) ∧
    leAt b 3 1 = recordLen r.payload ∧ leAt b 4 4 = r.src % 2 ^ 32 ∧ leAt b 8 8 = r.stamp % 2 ^ 64 ∧ leAt b 0x10 8 = r.csn % 2 ^ 64 ∧
    leAt b 0x18 4 = r.seq % 2 ^ 32 ∧ leAt b 0x1C 4 = 0 ∧ (b.drop 0x20).take (recordLen r.payload) = recordBytes r.payload ∧
    ∀ k, 0x20 + recordLen r.payload ≤ k → b.getD k 0 = 0) ∧
  (∀ (e : Ev) (o : Origin) (st : Status) (detail : Int) (csn : Nat) (data : List Int), [1, 1, 2, 2, 2, 2, -2, 4, 8] <+: e.layout →
    let p := recordBytes (layFields e.layout (o.block st detail csn ++ data))
    leAt p 0 1 = o.binding.cls.code % 256 ∧ leAt p 1 1 = o.binding.port % 256 ∧ leAt p 2 2 = o.queue % 65536 ∧ leAt p 4 2 = o.tag % 65536 ∧
    leAt p 6 2 = o.op.info.code % 65536 ∧ leAt p 8 2 = st.code % 65536 ∧ leAt p 0x0A 2 = 0 ∧ leAt p 0x0C 4 = (detail % 2 ^ 32).toNat ∧
    leAt p 0x10 8 = csn % 2 ^ 64)

/-- R523, R526, R527: what engine instructions leave alone. -/
def Obligations.EngineFrame : Prop :=
  (∀ (s u v x : State) (t : Ns) (e : Fin 48) (w : Nat) (l : Level) (rd rs rt cond : Fin 16) (imm : Fin 262144) (big off : Fin 4194304) (c : Instr),
    u = s.tick t → u.retires e w 24 = some (v, l) →
    accessOk (l.addr rs imm) 4 → 0 ≤ l.target off → l.target off < 4096 → (l.reg rs).toNat < 4096 →
    c ∈ [.add t e rd rs rt, .sub t e rd rs rt, .and t e rd rs rt, .or t e rd rs rt, .xor t e rd rs rt, .shl t e rd rs rt, .shr t e rd rs rt,
      .sar t e rd rs rt, .mul t e rd rs rt, .mulh t e rd rs rt, .div t e rd rs rt, .divu t e rd rs rt, .min t e rd rs rt, .max t e rd rs rt,
      .cmp t e rs rt, .sadd t e rd rs rt, .ssub t e rd rs rt, .addi t e rd rs imm, .andi t e rd rs imm, .ori t e rd rs imm, .xori t e rd rs imm,
      .shifti t e rd rs imm, .cmpi t e rs imm, .lui t e rd big, .movi t e rd big, .ldw t e rd rs imm, .ldh t e rd rs imm, .ldb t e rd rs imm,
      .br t e cond off, .call t e off, .jr t e rs] →
    exec c s = .next x →
    { x with engines := {} } = { u with engines := {} } ∧ (∀ k, k ≠ e.val → x.engine k = u.engine k) ∧
    (x.engine e.val).image = (u.engine e.val).image ∧ (x.engine e.val).stack.tail = (u.engine e.val).stack.tail ∧
    ∀ a, (x.engine e.val).readData a 1 = (u.engine e.val).readData a 1) ∧
  (∀ (s u v x : State) (t : Ns) (e : Fin 48) (w : Nat) (l : Level) (rd rs : Fin 16) (imm : Fin 262144) (c : Instr) (n : Nat),
    u = s.tick t → u.retires e w 24 = some (v, l) → accessOk (l.addr rs imm) n → l.addr rs imm < 0x1800 →
    (c, n) ∈ [(.stw t e rd rs imm, 4), (.sth t e rd rs imm, 2), (.stb t e rd rs imm, 1)] → exec c s = .next x →
    { x with engines := {} } = { u with engines := {} } ∧ (∀ k, k ≠ e.val → x.engine k = u.engine k) ∧
    (x.engine e.val).image = (u.engine e.val).image ∧ (x.engine e.val).stack.tail = (u.engine e.val).stack.tail ∧
    ∀ a, a < l.addr rs imm ∨ l.addr rs imm + n ≤ a → (x.engine e.val).readData a 1 = (u.engine e.val).readData a 1)

/-- Table 3.11: the requests that change nothing change nothing. -/
def Obligations.ReadsChangeNothing : Prop :=
  ∀ (s u x : State) (a : Arrival) (o : Origin) (b : Body) (c : Instr) (items : List SnapItem) (k m n : Nat) (nonce : List Nat),
    s.opens a b (effectOf a b) = some (u, o) → s.endings = [] → a.binding.cls ≠ .ratline → a.noWrite = false →
    (∀ y ∈ s.outst, y.dest.cls ≠ .ratline ∧ y.noWrite = false) →
    (c, b) ∈ [(.getProp a, .getProp), (.getSnapshot a items, .getSnapshot items), (.recall a k m n, .recall k m n),
      (.readFirstFault a m n, .readFirstFault m n), (.readGrants a, .readGrants), (.queryForecast a, .queryForecast),
      (.readModelStats a, .readModelStats), (.readGroup a, .readGroup), (.readPhasePlan a m n, .readPhasePlan m n), (.readEngine a, .readEngine),
      (.readStipple a k m n, .readStipple k m n), (.attest a k m n nonce, .attest k m n nonce), (.readKeys a, .readKeys),
      (.planUpdate a, .planUpdate), (.readPlates a, .readPlates)] →
    exec c s = .next x →
    s.samePlant x ∧ ∀ (p : P) (i : Nat), p ≠ .busyReplies → p ≠ .ackCsn → x.get p i = s.get p i

/-- Rows that act when a timer ends do nothing before. -/
def Obligations.UndueTimersPassTime : Prop :=
  ∀ (s u : State) (t : Ns), u = s.tick t →
    (∀ (c : Instr) (k : T) (i : Nat), (c, k, i) ∈ [(.runOnExpiry t, .runOn, 0), (.loneMizzenCut t, .loneCut, 0), (.foreLossGraceExpiry t, .foreGrace, 0),
      (.firstFaultForm t, .firstFault, 0), (.fastStage2Check t, .fastStage2, 0), (.fastFurlExpiry t, .fastFurl, 0), (.fastReleaseExpiry t, .fastRelease, 0),
      (.fanTableHandover t, .fanHandover, 0), (.hostSilenceExpiry t, .hostSilence, 0), (.leakCutExpiry t, .leakCut, 0), (.stippleFrame t, .stipple, 0),
      (.maintenanceExpiry t, .maintenance, 0), (.calibrationPeriod t, .calPeriod, 0)] → u.due k i = false → exec c s = .next u) ∧
    (∀ (a : Fin 8) (c : Instr) (k : T), (c, k) ∈ [(.alertNolinkReef t a, .alertReef), (.alertNolinkFurl t a, .alertFurl), (.alertLinkHandover t a, .alertHandover),
      (.silentFurlDelayExpiry t a, .silentFurl), (.reefDurationExpiry t a, .reefCmd), (.leakConfirmExpiry t a, .leakConfirm),
      (.leakEscalateExpiry t a, .leakEscalate), (.leakDryExpiry t a, .leakDry)] → u.due k a.val = false → exec c s = .next u) ∧
    (∀ x : Fin 3, u.due .ecHold x.val = false → exec (.ecHoldLimitExpiry t x) s = .next u) ∧
    (∀ r x : Fin 3, u.due .fenceReq (3 * r.val + x.val) = false → exec (.fenceRequestExpiry t r x) s = .next u) ∧
    (∀ (o : Fin 98) (x : Fin 3), u.due .voteDisagree (4 * o.val + x.val) = false → exec (.voteDisagree t o x) s = .next u) ∧
    (∀ g : Fin 2, u.due .tileReady (1 + g.val) = false → exec (.tileReadyTimeout t g) s = .next u) ∧
    (∀ id : Nat, u.due .sessionIdle id = false → exec (.sessionTimeout t id) s = .next u) ∧
    (∀ (a : Fin 8) (k : Fin 2), u.due .shroudGap (2 * a.val + k.val) = false → exec (.shroudGapTimeout t a k) s = .next u) ∧
    (∀ d : Fin 256, u.due .ocTrip d.val = false → exec (.domainOcTripCheck t d) s = .next u) ∧
    (∀ r : Fin 16, u.due .relayLoss r.val = false → exec (.relayLossTimeout t r) s = .next u) ∧
    (∀ k : Fin 2, u.due .rackHold k.val = false → exec (.rackHoldExpiry t k) s = .next u) ∧
    (∀ p : Fin 4096, u.due .injHold p.val = false → exec (.injectionHoldEnd t p) s = .next u) ∧
    (∀ p : Fin 4096, u.due .armLimit p.val = false → exec (.armLimitExpiry t p) s = .next u)
end

