-- ==== Sys2Proof/Laws/Bytes.lean ====
section
/-! SUPPORT. What bytes hold: a field's bytes read as its value, and what is sealed passes the check of its CRC. -/

namespace Sys2Proof.Machine

/-- The bytes of a value that fits them read as that value. -/
theorem leBytes_value : ∀ (n v : Nat), v < 256 ^ n → leValue (leBytes n v) = v ∧ (leBytes n v).length = n := by
  intro n
  induction n with
  | zero => intro v h; simp at h; subst h; exact ⟨rfl, rfl⟩
  | succ n ih =>
    intro v h
    have h1 : v / 256 < 256 ^ n := by rw [Nat.div_lt_iff_lt_mul (by decide)]; rwa [pow_succ] at h
    obtain ⟨h2, h3⟩ := ih _ h1
    constructor
    · simp only [leBytes, leValue, h2] at *
      omega
    · simp [leBytes, h3]

theorem crcBits_lt : ∀ (n c : Nat), c < 2 ^ 32 → crcBits n c < 2 ^ 32 := by
  intro n
  induction n with
  | zero => intro c h; exact h
  | succ n ih =>
    intro c h
    unfold crcBits
    apply ih
    unfold crcBit
    split
    · exact Nat.xor_lt_two_pow (by omega) (by decide)
    · omega

/-- A CRC-32C has 32 bits. -/
theorem crc32c_lt (b : List Nat) (h : ∀ x ∈ b, x < 2 ^ 32) : crc32c b < 2 ^ 32 := by
  unfold crc32c
  apply Nat.xor_lt_two_pow _ (by decide)
  have : ∀ (b : List Nat) (c : Nat), (∀ x ∈ b, x < 2 ^ 32) → c < 2 ^ 32 → b.foldl (fun c b => crcBits 8 (c ^^^ b)) c < 2 ^ 32 := by
    intro b
    induction b with
    | nil => intro c _ h; exact h
    | cons x b ih =>
      intro c hb hc
      exact ih _ (fun y hy => hb y (by simp [hy])) (crcBits_lt _ _ (Nat.xor_lt_two_pow hc (hb x (by simp))))
  exact this b _ h (by decide)

/-- What is sealed passes the check of its CRC. -/
theorem sealGood_sealed (b : List Nat) (h : ∀ x ∈ b, x < 256) : sealGood (b.length + 4) (sealed b) = true := by
  have h1 := crc32c_lt b (fun x hx => (h x hx).trans (by decide))
  have h2 : leValue (leBytes 4 (crc32c b)) = crc32c b ∧ (leBytes 4 (crc32c b)).length = 4 := by
    exact leBytes_value 4 _ (by simpa using h1)
  have h3 : leAt (sealed b) b.length 4 = crc32c b := by
    show leValue (List.take 4 (List.drop b.length (b ++ _))) = _
    rw [List.drop_left, List.take_of_length_le (by omega)]
    exact h2.1
  have h4 : (sealed b).take b.length = b := List.take_left
  simp only [sealGood, Nat.add_sub_cancel, h3, h4, Bool.and_eq_true, decide_eq_true_eq, and_true]
  simp [sealed, h2.2]

end Sys2Proof.Machine
end

