-- ==== Sys2Proof/Laws/Engine.lean ====
section
/-! SUPPORT. What an engine instruction that retires does: it acts on the state and the level with its cost deducted and its
program counter advanced. -/

namespace Sys2Proof.Machine

/-- Levels with the same flags. -/
def Level.sameFlags (l m : Level) : Prop := l.z = m.z ∧ l.n = m.n ∧ l.c = m.c ∧ l.v = m.v

theorem Level.holds_of_sameFlags {l m : Level} (h : l.sameFlags m) (cond : Nat) : l.holds cond = m.holds cond := by
  obtain ⟨h1, h2, h3, h4⟩ := h
  unfold Level.holds
  rw [h1, h2, h3, h4]

theorem State.instr_of_retires {s u : State} {e : Fin 48} {w k : Nat} {l : Level} {fits : Nat → Bool} {cost : Level → Nat}
    (eff : State → Level → State) (h : s.retires e w k = some (u, l)) (hf : fits w = true)
    (hc : ∀ m : Level, m.sameFlags l → cost m = k) : s.instr e fits cost eff = eff u l := by
  unfold State.retires at h
  unfold State.instr
  dsimp only
  cases hs : (s.engine e.val).stack with
  | nil => rw [hs] at h; simp at h
  | cons m rest =>
    rw [hs] at h
    dsimp only at h ⊢
    split at h
    · rename_i hg
      obtain ⟨h1, h2, h3, h4, h5⟩ := hg
      injection h with h
      injection h with hu hl
      have hk : cost m = k := hc m (by rw [← hl]; exact ⟨rfl, rfl, rfl, rfl⟩)
      rw [if_neg (by simpa using h1), if_neg (by omega), h3, h4, hf, hk, if_neg (by simp), if_neg (by simp), if_neg (by omega), hu, hl]
    · exact absurd h (by simp)

theorem State.pure1_of_retires {s u : State} {e : Fin 48} {w k : Nat} {l : Level} {fits : Nat → Bool} (f : Level → Level)
    (h : s.retires e w k = some (u, l)) (hf : fits w = true) : s.pure1 e fits k f = u.setTop e.val (f l) :=
  State.instr_of_retires _ h hf (fun _ _ => rfl)

end Sys2Proof.Machine
end

