-- ==== Sys2Proof/Laws/Table.lean ====
section
/-! SUPPORT. Sparse tables: reading after a write, and that writes keep the canonical form. -/

namespace Sys2Proof

theorem entryGet_erase_self {α : Type} (d : α) (l : List (Nat × α)) (i : Nat) : entryGet d (entryErase l i) i = d := by
  induction l with
  | nil => rfl
  | cons e l ih =>
    obtain ⟨k, v⟩ := e
    by_cases h : k = i <;> simp [entryErase, entryGet, h, ih]

theorem entryGet_erase_ne {α : Type} (d : α) (l : List (Nat × α)) {i j : Nat} (h : i ≠ j) :
    entryGet d (entryErase l i) j = entryGet d l j := by
  induction l with
  | nil => rfl
  | cons e l ih =>
    obtain ⟨k, v⟩ := e
    by_cases hk : k = i
    · subst hk; simp [entryErase, entryGet, h, ih]
    · by_cases hj : k = j
      · subst hj; simp [entryErase, entryGet, hk]
      · simp [entryErase, entryGet, hk, hj, ih]

theorem entryGet_insert_self {α : Type} (d : α) (l : List (Nat × α)) (i : Nat) (v : α) (h : ∀ e ∈ l, e.1 ≠ i) :
    entryGet d (entryInsert l i v) i = v := by
  induction l with
  | nil => simp [entryInsert, entryGet]
  | cons e l ih =>
    obtain ⟨k, x⟩ := e
    have hk : k ≠ i := h (k, x) (by simp)
    have hl : ∀ e ∈ l, e.1 ≠ i := fun e he => h e (by simp [he])
    by_cases hlt : i < k <;> simp [entryInsert, entryGet, hlt, hk, ih hl]

theorem entryGet_insert_ne {α : Type} (d : α) (l : List (Nat × α)) {i j : Nat} (v : α) (h : i ≠ j) :
    entryGet d (entryInsert l i v) j = entryGet d l j := by
  induction l with
  | nil => simp [entryInsert, entryGet, h]
  | cons e l ih =>
    obtain ⟨k, x⟩ := e
    by_cases hk : k = j
    · subst hk; by_cases hlt : i < k <;> simp [entryInsert, entryGet, hlt, h]
    · by_cases hlt : i < k <;> simp [entryInsert, entryGet, hlt, hk, h, ih]

theorem entryErase_ne {α : Type} (l : List (Nat × α)) (i : Nat) : ∀ e ∈ entryErase l i, e.1 ≠ i := by
  induction l with
  | nil => simp [entryErase]
  | cons e l ih =>
    obtain ⟨k, v⟩ := e
    by_cases h : k = i
    · simpa [entryErase, h] using ih
    · simp only [entryErase, h, if_false, List.mem_cons]
      rintro e (rfl | he)
      · exact h
      · exact ih e he

/-- A key reads as what was written to it last. -/
@[simp] theorem Tab.get_put_self {α : Type} [DecidableEq α] (d : α) (x : Tab α) (i : Nat) (v : α) : (x.put d i v).get d i = v := by
  unfold Tab.get Tab.put
  split
  · rename_i h; rw [h]; exact entryGet_erase_self d x.entries i
  · exact entryGet_insert_self d _ i v (entryErase_ne x.entries i)

/-- A write leaves every other key alone. -/
@[simp] theorem Tab.get_put_ne {α : Type} [DecidableEq α] (d d' : α) (x : Tab α) {i j : Nat} (v : α) (h : i ≠ j) :
    (x.put d i v).get d' j = x.get d' j := by
  unfold Tab.get Tab.put
  split
  · exact entryGet_erase_ne d' x.entries h
  · rw [entryGet_insert_ne d' _ v h, entryGet_erase_ne d' x.entries h]

theorem entryErase_sublist {α : Type} (l : List (Nat × α)) (i : Nat) : (entryErase l i).Sublist l := by
  induction l with
  | nil => exact List.Sublist.refl _
  | cons e l ih =>
    obtain ⟨k, v⟩ := e
    by_cases h : k = i
    · simp only [entryErase, h, if_true]; exact ih.cons _
    · simp only [entryErase, h, if_false]; exact ih.cons_cons _

theorem entryInsert_mem {α : Type} (l : List (Nat × α)) (i : Nat) (v : α) (e : Nat × α) :
    e ∈ entryInsert l i v → e = (i, v) ∨ e ∈ l := by
  induction l with
  | nil => simp [entryInsert]
  | cons x l ih =>
    obtain ⟨k, y⟩ := x
    by_cases h : i < k
    · simp only [entryInsert, h, if_true, List.mem_cons]; tauto
    · simp only [entryInsert, h, if_false, List.mem_cons]
      rintro (h1 | h1)
      · exact .inr (.inl h1)
      · rcases ih h1 with h2 | h2 <;> tauto

theorem entryInsert_sorted {α : Type} (l : List (Nat × α)) (i : Nat) (v : α) (hl : (l.map (·.1)).Pairwise (· < ·))
    (hn : ∀ e ∈ l, e.1 ≠ i) : ((entryInsert l i v).map (·.1)).Pairwise (· < ·) := by
  induction l with
  | nil => simp [entryInsert]
  | cons x l ih =>
    obtain ⟨k, y⟩ := x
    simp only [List.map_cons, List.pairwise_cons] at hl
    have hk : k ≠ i := hn (k, y) (by simp)
    by_cases h : i < k
    · simp only [entryInsert, h, if_true, List.map_cons, List.pairwise_cons]
      refine ⟨?_, hl⟩
      intro a ha
      rcases List.mem_cons.1 ha with rfl | ha
      · exact h
      · exact lt_trans h (hl.1 a ha)
    · simp only [entryInsert, h, if_false, List.map_cons, List.pairwise_cons]
      refine ⟨?_, ih hl.2 (fun e he => hn e (by simp [he]))⟩
      intro a ha
      obtain ⟨e, he, rfl⟩ := List.mem_map.1 ha
      rcases entryInsert_mem l i v e he with rfl | he
      · exact lt_of_le_of_ne (not_lt.1 h) hk
      · exact hl.1 _ (List.mem_map_of_mem he)

end Sys2Proof
end

