-- ==== Sys2Proof/Laws/State.lean ====
section
/-! SUPPORT. What the primitive updates leave of each field of the state, and reading a register after a write. -/

namespace Sys2Proof.Machine

/-! ### tick -/

@[simp] theorem State.tick_pending (s : State) (t : Ns) : (s.tick t).pending = s.pending := rfl
@[simp] theorem State.tick_member (s : State) (t : Ns) : (s.tick t).member = s.member := rfl
@[simp] theorem State.tick_draws (s : State) (t : Ns) : (s.tick t).draws = s.draws := rfl
@[simp] theorem State.tick_regs (s : State) (t : Ns) : (s.tick t).regs = s.regs := rfl
@[simp] theorem State.tick_vars (s : State) (t : Ns) : (s.tick t).vars = s.vars := rfl
@[simp] theorem State.tick_timers (s : State) (t : Ns) : (s.tick t).timers = s.timers := rfl
@[simp] theorem State.tick_lastCsn (s : State) (t : Ns) : (s.tick t).lastCsn = s.lastCsn := rfl
@[simp] theorem State.tick_outbox (s : State) (t : Ns) : (s.tick t).outbox = s.outbox := rfl
@[simp] theorem State.tick_raised (s : State) (t : Ns) : (s.tick t).raised = s.raised := rfl
@[simp] theorem State.tick_sessions (s : State) (t : Ns) : (s.tick t).sessions = s.sessions := rfl
@[simp] theorem State.tick_endpoints (s : State) (t : Ns) : (s.tick t).endpoints = s.endpoints := rfl
@[simp] theorem State.tick_waiting (s : State) (t : Ns) : (s.tick t).waiting = s.waiting := rfl
@[simp] theorem State.tick_served (s : State) (t : Ns) : (s.tick t).served = s.served := rfl
@[simp] theorem State.tick_outst (s : State) (t : Ns) : (s.tick t).outst = s.outst := rfl
@[simp] theorem State.tick_orphans (s : State) (t : Ns) : (s.tick t).orphans = s.orphans := rfl
@[simp] theorem State.tick_handovers (s : State) (t : Ns) : (s.tick t).handovers = s.handovers := rfl
@[simp] theorem State.tick_running (s : State) (t : Ns) : (s.tick t).running = s.running := rfl
@[simp] theorem State.tick_safetyAdmits (s : State) (t : Ns) : (s.tick t).safetyAdmits = s.safetyAdmits := rfl
@[simp] theorem State.tick_safetyLimited (s : State) (t : Ns) : (s.tick t).safetyLimited = s.safetyLimited := rfl
@[simp] theorem State.tick_unapplied (s : State) (t : Ns) : (s.tick t).unapplied = s.unapplied := rfl
@[simp] theorem State.tick_endings (s : State) (t : Ns) : (s.tick t).endings = s.endings := rfl
@[simp] theorem State.tick_cmdCsn (s : State) (t : Ns) : (s.tick t).cmdCsn = s.cmdCsn := rfl
@[simp] theorem State.tick_applying (s : State) (t : Ns) : (s.tick t).applying = s.applying := rfl
@[simp] theorem State.tick_disagreed (s : State) (t : Ns) : (s.tick t).disagreed = s.disagreed := rfl
@[simp] theorem State.tick_resWaits (s : State) (t : Ns) : (s.tick t).resWaits = s.resWaits := rfl
@[simp] theorem State.tick_holds (s : State) (t : Ns) : (s.tick t).holds = s.holds := rfl
@[simp] theorem State.tick_journal (s : State) (t : Ns) : (s.tick t).journal = s.journal := rfl
@[simp] theorem State.tick_log (s : State) (t : Ns) : (s.tick t).log = s.log := rfl
@[simp] theorem State.tick_td (s : State) (t : Ns) : (s.tick t).td = s.td := rfl
@[simp] theorem State.tick_powerWrites (s : State) (t : Ns) : (s.tick t).powerWrites = s.powerWrites := rfl
@[simp] theorem State.tick_norWrites (s : State) (t : Ns) : (s.tick t).norWrites = s.norWrites := rfl
@[simp] theorem State.tick_tables (s : State) (t : Ns) : (s.tick t).tables = s.tables := rfl
@[simp] theorem State.tick_rails (s : State) (t : Ns) : (s.tick t).rails = s.rails := rfl
@[simp] theorem State.tick_domains (s : State) (t : Ns) : (s.tick t).domains = s.domains := rfl
@[simp] theorem State.tick_legs (s : State) (t : Ns) : (s.tick t).legs = s.legs := rfl
@[simp] theorem State.tick_relays (s : State) (t : Ns) : (s.tick t).relays = s.relays := rfl
@[simp] theorem State.tick_links (s : State) (t : Ns) : (s.tick t).links = s.links := rfl
@[simp] theorem State.tick_held (s : State) (t : Ns) : (s.tick t).held = s.held := rfl
@[simp] theorem State.tick_alertHolds (s : State) (t : Ns) : (s.tick t).alertHolds = s.alertHolds := rfl
@[simp] theorem State.tick_hints (s : State) (t : Ns) : (s.tick t).hints = s.hints := rfl
@[simp] theorem State.tick_ratPorts (s : State) (t : Ns) : (s.tick t).ratPorts = s.ratPorts := rfl
@[simp] theorem State.tick_hearings (s : State) (t : Ns) : (s.tick t).hearings = s.hearings := rfl
@[simp] theorem State.tick_nodes (s : State) (t : Ns) : (s.tick t).nodes = s.nodes := rfl
@[simp] theorem State.tick_rackMembers (s : State) (t : Ns) : (s.tick t).rackMembers = s.rackMembers := rfl
@[simp] theorem State.tick_racks (s : State) (t : Ns) : (s.tick t).racks = s.racks := rfl
@[simp] theorem State.tick_pIn (s : State) (t : Ns) : (s.tick t).pIn = s.pIn := rfl
@[simp] theorem State.tick_auxHistory (s : State) (t : Ns) : (s.tick t).auxHistory = s.auxHistory := rfl
@[simp] theorem State.tick_trayDemands (s : State) (t : Ns) : (s.tick t).trayDemands = s.trayDemands := rfl
@[simp] theorem State.tick_fast (s : State) (t : Ns) : (s.tick t).fast = s.fast := rfl
@[simp] theorem State.tick_telemetry (s : State) (t : Ns) : (s.tick t).telemetry = s.telemetry := rfl
@[simp] theorem State.tick_models (s : State) (t : Ns) : (s.tick t).models = s.models := rfl
@[simp] theorem State.tick_fcDoms (s : State) (t : Ns) : (s.tick t).fcDoms = s.fcDoms := rfl
@[simp] theorem State.tick_switches (s : State) (t : Ns) : (s.tick t).switches = s.switches := rfl
@[simp] theorem State.tick_shelf (s : State) (t : Ns) : (s.tick t).shelf = s.shelf := rfl
@[simp] theorem State.tick_nandWrites (s : State) (t : Ns) : (s.tick t).nandWrites = s.nandWrites := rfl
@[simp] theorem State.tick_nor (s : State) (t : Ns) : (s.tick t).nor = s.nor := rfl
@[simp] theorem State.tick_stage (s : State) (t : Ns) : (s.tick t).stage = s.stage := rfl
@[simp] theorem State.tick_descStore (s : State) (t : Ns) : (s.tick t).descStore = s.descStore := rfl
@[simp] theorem State.tick_etch (s : State) (t : Ns) : (s.tick t).etch = s.etch := rfl
@[simp] theorem State.tick_activation (s : State) (t : Ns) : (s.tick t).activation = s.activation := rfl
@[simp] theorem State.tick_roll (s : State) (t : Ns) : (s.tick t).roll = s.roll := rfl
@[simp] theorem State.tick_revoking (s : State) (t : Ns) : (s.tick t).revoking = s.revoking := rfl
@[simp] theorem State.tick_wakeRec (s : State) (t : Ns) : (s.tick t).wakeRec = s.wakeRec := rfl
@[simp] theorem State.tick_points (s : State) (t : Ns) : (s.tick t).points = s.points := rfl
@[simp] theorem State.tick_tests (s : State) (t : Ns) : (s.tick t).tests = s.tests := rfl
@[simp] theorem State.tick_recorder (s : State) (t : Ns) : (s.tick t).recorder = s.recorder := rfl
@[simp] theorem State.tick_stipple (s : State) (t : Ns) : (s.tick t).stipple = s.stipple := rfl
@[simp] theorem State.tick_exports (s : State) (t : Ns) : (s.tick t).exports = s.exports := rfl
@[simp] theorem State.tick_rowHits (s : State) (t : Ns) : (s.tick t).rowHits = s.rowHits := rfl
@[simp] theorem State.tick_ueHits (s : State) (t : Ns) : (s.tick t).ueHits = s.ueHits := rfl
@[simp] theorem State.tick_codewords (s : State) (t : Ns) : (s.tick t).codewords = s.codewords := rfl
@[simp] theorem State.tick_poison (s : State) (t : Ns) : (s.tick t).poison = s.poison := rfl
@[simp] theorem State.tick_buses (s : State) (t : Ns) : (s.tick t).buses = s.buses := rfl
@[simp] theorem State.tick_windows (s : State) (t : Ns) : (s.tick t).windows = s.windows := rfl
@[simp] theorem State.tick_relayDone (s : State) (t : Ns) : (s.tick t).relayDone = s.relayDone := rfl
@[simp] theorem State.tick_ethShakes (s : State) (t : Ns) : (s.tick t).ethShakes = s.ethShakes := rfl
@[simp] theorem State.tick_ethSessions (s : State) (t : Ns) : (s.tick t).ethSessions = s.ethSessions := rfl
@[simp] theorem State.tick_moves (s : State) (t : Ns) : (s.tick t).moves = s.moves := rfl
@[simp] theorem State.tick_lockMembers (s : State) (t : Ns) : (s.tick t).lockMembers = s.lockMembers := rfl
@[simp] theorem State.tick_lockGroups (s : State) (t : Ns) : (s.tick t).lockGroups = s.lockGroups := rfl
@[simp] theorem State.tick_lockTable (s : State) (t : Ns) : (s.tick t).lockTable = s.lockTable := rfl
@[simp] theorem State.tick_lockCmds (s : State) (t : Ns) : (s.tick t).lockCmds = s.lockCmds := rfl
@[simp] theorem State.tick_lockSum (s : State) (t : Ns) : (s.tick t).lockSum = s.lockSum := rfl
@[simp] theorem State.tick_lockHeard (s : State) (t : Ns) : (s.tick t).lockHeard = s.lockHeard := rfl
@[simp] theorem State.tick_plans (s : State) (t : Ns) : (s.tick t).plans = s.plans := rfl
@[simp] theorem State.tick_coming (s : State) (t : Ns) : (s.tick t).coming = s.coming := rfl
@[simp] theorem State.tick_runningPlan (s : State) (t : Ns) : (s.tick t).runningPlan = s.runningPlan := rfl
@[simp] theorem State.tick_phases (s : State) (t : Ns) : (s.tick t).phases = s.phases := rfl
@[simp] theorem State.tick_engines (s : State) (t : Ns) : (s.tick t).engines = s.engines := rfl
@[simp] theorem State.tick_srcs (s : State) (t : Ns) : (s.tick t).srcs = s.srcs := rfl
@[simp] theorem State.tick_mail (s : State) (t : Ns) : (s.tick t).mail = s.mail := rfl
@[simp] theorem State.tick_progShelf (s : State) (t : Ns) : (s.tick t).progShelf = s.progShelf := rfl
@[simp] theorem State.tick_globalOps (s : State) (t : Ns) : (s.tick t).globalOps = s.globalOps := rfl
@[simp] theorem State.tick_opResults (s : State) (t : Ns) : (s.tick t).opResults = s.opResults := rfl
@[simp] theorem State.tick_snapBufs (s : State) (t : Ns) : (s.tick t).snapBufs = s.snapBufs := rfl
@[simp] theorem State.tick_remoteOuts (s : State) (t : Ns) : (s.tick t).remoteOuts = s.remoteOuts := rfl
@[simp] theorem State.tick_remoteIns (s : State) (t : Ns) : (s.tick t).remoteIns = s.remoteIns := rfl
@[simp] theorem State.tick_opsPassed (s : State) (t : Ns) : (s.tick t).opsPassed = s.opsPassed := rfl
@[simp] theorem State.tick_paces (s : State) (t : Ns) : (s.tick t).paces = s.paces := rfl
@[simp] theorem State.tick_oldLimits (s : State) (t : Ns) : (s.tick t).oldLimits = s.oldLimits := rfl
@[simp] theorem State.tick_therms (s : State) (t : Ns) : (s.tick t).therms = s.therms := rfl
@[simp] theorem State.tick_drives (s : State) (t : Ns) : (s.tick t).drives = s.drives := rfl
@[simp] theorem State.tick_zones (s : State) (t : Ns) : (s.tick t).zones = s.zones := rfl
@[simp] theorem State.tick_branches (s : State) (t : Ns) : (s.tick t).branches = s.branches := rfl
@[simp] theorem State.tick_runs (s : State) (t : Ns) : (s.tick t).runs = s.runs := rfl
@[simp] theorem State.tick_offRuns (s : State) (t : Ns) : (s.tick t).offRuns = s.offRuns := rfl
@[simp] theorem State.tick_starts (s : State) (t : Ns) : (s.tick t).starts = s.starts := rfl
@[simp] theorem State.tick_stops (s : State) (t : Ns) : (s.tick t).stops = s.stops := rfl
@[simp] theorem State.tick_furls (s : State) (t : Ns) : (s.tick t).furls = s.furls := rfl
@[simp] theorem State.tick_furlCmds (s : State) (t : Ns) : (s.tick t).furlCmds = s.furlCmds := rfl
@[simp] theorem State.tick_failures (s : State) (t : Ns) : (s.tick t).failures = s.failures := rfl
@[simp] theorem State.tick_restarts (s : State) (t : Ns) : (s.tick t).restarts = s.restarts := rfl

/-! ### put -/

@[simp] theorem State.put_now (s : State) (p : P) (i : Nat) (v : Int) : (s.put p i v).now = s.now := rfl
@[simp] theorem State.put_pending (s : State) (p : P) (i : Nat) (v : Int) : (s.put p i v).pending = s.pending := rfl
@[simp] theorem State.put_member (s : State) (p : P) (i : Nat) (v : Int) : (s.put p i v).member = s.member := rfl
@[simp] theorem State.put_draws (s : State) (p : P) (i : Nat) (v : Int) : (s.put p i v).draws = s.draws := rfl
@[simp] theorem State.put_vars (s : State) (p : P) (i : Nat) (v : Int) : (s.put p i v).vars = s.vars := rfl
@[simp] theorem State.put_timers (s : State) (p : P) (i : Nat) (v : Int) : (s.put p i v).timers = s.timers := rfl
@[simp] theorem State.put_lastCsn (s : State) (p : P) (i : Nat) (v : Int) : (s.put p i v).lastCsn = s.lastCsn := rfl
@[simp] theorem State.put_outbox (s : State) (p : P) (i : Nat) (v : Int) : (s.put p i v).outbox = s.outbox := rfl
@[simp] theorem State.put_raised (s : State) (p : P) (i : Nat) (v : Int) : (s.put p i v).raised = s.raised := rfl
@[simp] theorem State.put_sessions (s : State) (p : P) (i : Nat) (v : Int) : (s.put p i v).sessions = s.sessions := rfl
@[simp] theorem State.put_endpoints (s : State) (p : P) (i : Nat) (v : Int) : (s.put p i v).endpoints = s.endpoints := rfl
@[simp] theorem State.put_waiting (s : State) (p : P) (i : Nat) (v : Int) : (s.put p i v).waiting = s.waiting := rfl
@[simp] theorem State.put_served (s : State) (p : P) (i : Nat) (v : Int) : (s.put p i v).served = s.served := rfl
@[simp] theorem State.put_outst (s : State) (p : P) (i : Nat) (v : Int) : (s.put p i v).outst = s.outst := rfl
@[simp] theorem State.put_orphans (s : State) (p : P) (i : Nat) (v : Int) : (s.put p i v).orphans = s.orphans := rfl
@[simp] theorem State.put_handovers (s : State) (p : P) (i : Nat) (v : Int) : (s.put p i v).handovers = s.handovers := rfl
@[simp] theorem State.put_running (s : State) (p : P) (i : Nat) (v : Int) : (s.put p i v).running = s.running := rfl
@[simp] theorem State.put_safetyAdmits (s : State) (p : P) (i : Nat) (v : Int) : (s.put p i v).safetyAdmits = s.safetyAdmits := rfl
@[simp] theorem State.put_safetyLimited (s : State) (p : P) (i : Nat) (v : Int) : (s.put p i v).safetyLimited = s.safetyLimited := rfl
@[simp] theorem State.put_unapplied (s : State) (p : P) (i : Nat) (v : Int) : (s.put p i v).unapplied = s.unapplied := rfl
@[simp] theorem State.put_endings (s : State) (p : P) (i : Nat) (v : Int) : (s.put p i v).endings = s.endings := rfl
@[simp] theorem State.put_cmdCsn (s : State) (p : P) (i : Nat) (v : Int) : (s.put p i v).cmdCsn = s.cmdCsn := rfl
@[simp] theorem State.put_applying (s : State) (p : P) (i : Nat) (v : Int) : (s.put p i v).applying = s.applying := rfl
@[simp] theorem State.put_disagreed (s : State) (p : P) (i : Nat) (v : Int) : (s.put p i v).disagreed = s.disagreed := rfl
@[simp] theorem State.put_resWaits (s : State) (p : P) (i : Nat) (v : Int) : (s.put p i v).resWaits = s.resWaits := rfl
@[simp] theorem State.put_holds (s : State) (p : P) (i : Nat) (v : Int) : (s.put p i v).holds = s.holds := rfl
@[simp] theorem State.put_journal (s : State) (p : P) (i : Nat) (v : Int) : (s.put p i v).journal = s.journal := rfl
@[simp] theorem State.put_log (s : State) (p : P) (i : Nat) (v : Int) : (s.put p i v).log = s.log := rfl
@[simp] theorem State.put_td (s : State) (p : P) (i : Nat) (v : Int) : (s.put p i v).td = s.td := rfl
@[simp] theorem State.put_powerWrites (s : State) (p : P) (i : Nat) (v : Int) : (s.put p i v).powerWrites = s.powerWrites := rfl
@[simp] theorem State.put_norWrites (s : State) (p : P) (i : Nat) (v : Int) : (s.put p i v).norWrites = s.norWrites := rfl
@[simp] theorem State.put_tables (s : State) (p : P) (i : Nat) (v : Int) : (s.put p i v).tables = s.tables := rfl
@[simp] theorem State.put_rails (s : State) (p : P) (i : Nat) (v : Int) : (s.put p i v).rails = s.rails := rfl
@[simp] theorem State.put_domains (s : State) (p : P) (i : Nat) (v : Int) : (s.put p i v).domains = s.domains := rfl
@[simp] theorem State.put_legs (s : State) (p : P) (i : Nat) (v : Int) : (s.put p i v).legs = s.legs := rfl
@[simp] theorem State.put_relays (s : State) (p : P) (i : Nat) (v : Int) : (s.put p i v).relays = s.relays := rfl
@[simp] theorem State.put_links (s : State) (p : P) (i : Nat) (v : Int) : (s.put p i v).links = s.links := rfl
@[simp] theorem State.put_held (s : State) (p : P) (i : Nat) (v : Int) : (s.put p i v).held = s.held := rfl
@[simp] theorem State.put_alertHolds (s : State) (p : P) (i : Nat) (v : Int) : (s.put p i v).alertHolds = s.alertHolds := rfl
@[simp] theorem State.put_hints (s : State) (p : P) (i : Nat) (v : Int) : (s.put p i v).hints = s.hints := rfl
@[simp] theorem State.put_ratPorts (s : State) (p : P) (i : Nat) (v : Int) : (s.put p i v).ratPorts = s.ratPorts := rfl
@[simp] theorem State.put_hearings (s : State) (p : P) (i : Nat) (v : Int) : (s.put p i v).hearings = s.hearings := rfl
@[simp] theorem State.put_nodes (s : State) (p : P) (i : Nat) (v : Int) : (s.put p i v).nodes = s.nodes := rfl
@[simp] theorem State.put_rackMembers (s : State) (p : P) (i : Nat) (v : Int) : (s.put p i v).rackMembers = s.rackMembers := rfl
@[simp] theorem State.put_racks (s : State) (p : P) (i : Nat) (v : Int) : (s.put p i v).racks = s.racks := rfl
@[simp] theorem State.put_pIn (s : State) (p : P) (i : Nat) (v : Int) : (s.put p i v).pIn = s.pIn := rfl
@[simp] theorem State.put_auxHistory (s : State) (p : P) (i : Nat) (v : Int) : (s.put p i v).auxHistory = s.auxHistory := rfl
@[simp] theorem State.put_trayDemands (s : State) (p : P) (i : Nat) (v : Int) : (s.put p i v).trayDemands = s.trayDemands := rfl
@[simp] theorem State.put_fast (s : State) (p : P) (i : Nat) (v : Int) : (s.put p i v).fast = s.fast := rfl
@[simp] theorem State.put_telemetry (s : State) (p : P) (i : Nat) (v : Int) : (s.put p i v).telemetry = s.telemetry := rfl
@[simp] theorem State.put_models (s : State) (p : P) (i : Nat) (v : Int) : (s.put p i v).models = s.models := rfl
@[simp] theorem State.put_fcDoms (s : State) (p : P) (i : Nat) (v : Int) : (s.put p i v).fcDoms = s.fcDoms := rfl
@[simp] theorem State.put_switches (s : State) (p : P) (i : Nat) (v : Int) : (s.put p i v).switches = s.switches := rfl
@[simp] theorem State.put_shelf (s : State) (p : P) (i : Nat) (v : Int) : (s.put p i v).shelf = s.shelf := rfl
@[simp] theorem State.put_nandWrites (s : State) (p : P) (i : Nat) (v : Int) : (s.put p i v).nandWrites = s.nandWrites := rfl
@[simp] theorem State.put_nor (s : State) (p : P) (i : Nat) (v : Int) : (s.put p i v).nor = s.nor := rfl
@[simp] theorem State.put_stage (s : State) (p : P) (i : Nat) (v : Int) : (s.put p i v).stage = s.stage := rfl
@[simp] theorem State.put_descStore (s : State) (p : P) (i : Nat) (v : Int) : (s.put p i v).descStore = s.descStore := rfl
@[simp] theorem State.put_etch (s : State) (p : P) (i : Nat) (v : Int) : (s.put p i v).etch = s.etch := rfl
@[simp] theorem State.put_activation (s : State) (p : P) (i : Nat) (v : Int) : (s.put p i v).activation = s.activation := rfl
@[simp] theorem State.put_roll (s : State) (p : P) (i : Nat) (v : Int) : (s.put p i v).roll = s.roll := rfl
@[simp] theorem State.put_revoking (s : State) (p : P) (i : Nat) (v : Int) : (s.put p i v).revoking = s.revoking := rfl
@[simp] theorem State.put_wakeRec (s : State) (p : P) (i : Nat) (v : Int) : (s.put p i v).wakeRec = s.wakeRec := rfl
@[simp] theorem State.put_points (s : State) (p : P) (i : Nat) (v : Int) : (s.put p i v).points = s.points := rfl
@[simp] theorem State.put_tests (s : State) (p : P) (i : Nat) (v : Int) : (s.put p i v).tests = s.tests := rfl
@[simp] theorem State.put_recorder (s : State) (p : P) (i : Nat) (v : Int) : (s.put p i v).recorder = s.recorder := rfl
@[simp] theorem State.put_stipple (s : State) (p : P) (i : Nat) (v : Int) : (s.put p i v).stipple = s.stipple := rfl
@[simp] theorem State.put_exports (s : State) (p : P) (i : Nat) (v : Int) : (s.put p i v).exports = s.exports := rfl
@[simp] theorem State.put_rowHits (s : State) (p : P) (i : Nat) (v : Int) : (s.put p i v).rowHits = s.rowHits := rfl
@[simp] theorem State.put_ueHits (s : State) (p : P) (i : Nat) (v : Int) : (s.put p i v).ueHits = s.ueHits := rfl
@[simp] theorem State.put_codewords (s : State) (p : P) (i : Nat) (v : Int) : (s.put p i v).codewords = s.codewords := rfl
@[simp] theorem State.put_poison (s : State) (p : P) (i : Nat) (v : Int) : (s.put p i v).poison = s.poison := rfl
@[simp] theorem State.put_buses (s : State) (p : P) (i : Nat) (v : Int) : (s.put p i v).buses = s.buses := rfl
@[simp] theorem State.put_windows (s : State) (p : P) (i : Nat) (v : Int) : (s.put p i v).windows = s.windows := rfl
@[simp] theorem State.put_relayDone (s : State) (p : P) (i : Nat) (v : Int) : (s.put p i v).relayDone = s.relayDone := rfl
@[simp] theorem State.put_ethShakes (s : State) (p : P) (i : Nat) (v : Int) : (s.put p i v).ethShakes = s.ethShakes := rfl
@[simp] theorem State.put_ethSessions (s : State) (p : P) (i : Nat) (v : Int) : (s.put p i v).ethSessions = s.ethSessions := rfl
@[simp] theorem State.put_moves (s : State) (p : P) (i : Nat) (v : Int) : (s.put p i v).moves = s.moves := rfl
@[simp] theorem State.put_lockMembers (s : State) (p : P) (i : Nat) (v : Int) : (s.put p i v).lockMembers = s.lockMembers := rfl
@[simp] theorem State.put_lockGroups (s : State) (p : P) (i : Nat) (v : Int) : (s.put p i v).lockGroups = s.lockGroups := rfl
@[simp] theorem State.put_lockTable (s : State) (p : P) (i : Nat) (v : Int) : (s.put p i v).lockTable = s.lockTable := rfl
@[simp] theorem State.put_lockCmds (s : State) (p : P) (i : Nat) (v : Int) : (s.put p i v).lockCmds = s.lockCmds := rfl
@[simp] theorem State.put_lockSum (s : State) (p : P) (i : Nat) (v : Int) : (s.put p i v).lockSum = s.lockSum := rfl
@[simp] theorem State.put_lockHeard (s : State) (p : P) (i : Nat) (v : Int) : (s.put p i v).lockHeard = s.lockHeard := rfl
@[simp] theorem State.put_plans (s : State) (p : P) (i : Nat) (v : Int) : (s.put p i v).plans = s.plans := rfl
@[simp] theorem State.put_coming (s : State) (p : P) (i : Nat) (v : Int) : (s.put p i v).coming = s.coming := rfl
@[simp] theorem State.put_runningPlan (s : State) (p : P) (i : Nat) (v : Int) : (s.put p i v).runningPlan = s.runningPlan := rfl
@[simp] theorem State.put_phases (s : State) (p : P) (i : Nat) (v : Int) : (s.put p i v).phases = s.phases := rfl
@[simp] theorem State.put_engines (s : State) (p : P) (i : Nat) (v : Int) : (s.put p i v).engines = s.engines := rfl
@[simp] theorem State.put_srcs (s : State) (p : P) (i : Nat) (v : Int) : (s.put p i v).srcs = s.srcs := rfl
@[simp] theorem State.put_mail (s : State) (p : P) (i : Nat) (v : Int) : (s.put p i v).mail = s.mail := rfl
@[simp] theorem State.put_progShelf (s : State) (p : P) (i : Nat) (v : Int) : (s.put p i v).progShelf = s.progShelf := rfl
@[simp] theorem State.put_globalOps (s : State) (p : P) (i : Nat) (v : Int) : (s.put p i v).globalOps = s.globalOps := rfl
@[simp] theorem State.put_opResults (s : State) (p : P) (i : Nat) (v : Int) : (s.put p i v).opResults = s.opResults := rfl
@[simp] theorem State.put_snapBufs (s : State) (p : P) (i : Nat) (v : Int) : (s.put p i v).snapBufs = s.snapBufs := rfl
@[simp] theorem State.put_remoteOuts (s : State) (p : P) (i : Nat) (v : Int) : (s.put p i v).remoteOuts = s.remoteOuts := rfl
@[simp] theorem State.put_remoteIns (s : State) (p : P) (i : Nat) (v : Int) : (s.put p i v).remoteIns = s.remoteIns := rfl
@[simp] theorem State.put_opsPassed (s : State) (p : P) (i : Nat) (v : Int) : (s.put p i v).opsPassed = s.opsPassed := rfl
@[simp] theorem State.put_paces (s : State) (p : P) (i : Nat) (v : Int) : (s.put p i v).paces = s.paces := rfl
@[simp] theorem State.put_oldLimits (s : State) (p : P) (i : Nat) (v : Int) : (s.put p i v).oldLimits = s.oldLimits := rfl
@[simp] theorem State.put_therms (s : State) (p : P) (i : Nat) (v : Int) : (s.put p i v).therms = s.therms := rfl
@[simp] theorem State.put_drives (s : State) (p : P) (i : Nat) (v : Int) : (s.put p i v).drives = s.drives := rfl
@[simp] theorem State.put_zones (s : State) (p : P) (i : Nat) (v : Int) : (s.put p i v).zones = s.zones := rfl
@[simp] theorem State.put_branches (s : State) (p : P) (i : Nat) (v : Int) : (s.put p i v).branches = s.branches := rfl
@[simp] theorem State.put_runs (s : State) (p : P) (i : Nat) (v : Int) : (s.put p i v).runs = s.runs := rfl
@[simp] theorem State.put_offRuns (s : State) (p : P) (i : Nat) (v : Int) : (s.put p i v).offRuns = s.offRuns := rfl
@[simp] theorem State.put_starts (s : State) (p : P) (i : Nat) (v : Int) : (s.put p i v).starts = s.starts := rfl
@[simp] theorem State.put_stops (s : State) (p : P) (i : Nat) (v : Int) : (s.put p i v).stops = s.stops := rfl
@[simp] theorem State.put_furls (s : State) (p : P) (i : Nat) (v : Int) : (s.put p i v).furls = s.furls := rfl
@[simp] theorem State.put_furlCmds (s : State) (p : P) (i : Nat) (v : Int) : (s.put p i v).furlCmds = s.furlCmds := rfl
@[simp] theorem State.put_failures (s : State) (p : P) (i : Nat) (v : Int) : (s.put p i v).failures = s.failures := rfl
@[simp] theorem State.put_restarts (s : State) (p : P) (i : Nat) (v : Int) : (s.put p i v).restarts = s.restarts := rfl

/-! ### setV -/

@[simp] theorem State.setV_now (s : State) (x : V) (i : Nat) (v : Int) : (s.setV x i v).now = s.now := rfl
@[simp] theorem State.setV_pending (s : State) (x : V) (i : Nat) (v : Int) : (s.setV x i v).pending = s.pending := rfl
@[simp] theorem State.setV_member (s : State) (x : V) (i : Nat) (v : Int) : (s.setV x i v).member = s.member := rfl
@[simp] theorem State.setV_draws (s : State) (x : V) (i : Nat) (v : Int) : (s.setV x i v).draws = s.draws := rfl
@[simp] theorem State.setV_regs (s : State) (x : V) (i : Nat) (v : Int) : (s.setV x i v).regs = s.regs := rfl
@[simp] theorem State.setV_timers (s : State) (x : V) (i : Nat) (v : Int) : (s.setV x i v).timers = s.timers := rfl
@[simp] theorem State.setV_lastCsn (s : State) (x : V) (i : Nat) (v : Int) : (s.setV x i v).lastCsn = s.lastCsn := rfl
@[simp] theorem State.setV_outbox (s : State) (x : V) (i : Nat) (v : Int) : (s.setV x i v).outbox = s.outbox := rfl
@[simp] theorem State.setV_raised (s : State) (x : V) (i : Nat) (v : Int) : (s.setV x i v).raised = s.raised := rfl
@[simp] theorem State.setV_sessions (s : State) (x : V) (i : Nat) (v : Int) : (s.setV x i v).sessions = s.sessions := rfl
@[simp] theorem State.setV_endpoints (s : State) (x : V) (i : Nat) (v : Int) : (s.setV x i v).endpoints = s.endpoints := rfl
@[simp] theorem State.setV_waiting (s : State) (x : V) (i : Nat) (v : Int) : (s.setV x i v).waiting = s.waiting := rfl
@[simp] theorem State.setV_served (s : State) (x : V) (i : Nat) (v : Int) : (s.setV x i v).served = s.served := rfl
@[simp] theorem State.setV_outst (s : State) (x : V) (i : Nat) (v : Int) : (s.setV x i v).outst = s.outst := rfl
@[simp] theorem State.setV_orphans (s : State) (x : V) (i : Nat) (v : Int) : (s.setV x i v).orphans = s.orphans := rfl
@[simp] theorem State.setV_handovers (s : State) (x : V) (i : Nat) (v : Int) : (s.setV x i v).handovers = s.handovers := rfl
@[simp] theorem State.setV_running (s : State) (x : V) (i : Nat) (v : Int) : (s.setV x i v).running = s.running := rfl
@[simp] theorem State.setV_safetyAdmits (s : State) (x : V) (i : Nat) (v : Int) : (s.setV x i v).safetyAdmits = s.safetyAdmits := rfl
@[simp] theorem State.setV_safetyLimited (s : State) (x : V) (i : Nat) (v : Int) : (s.setV x i v).safetyLimited = s.safetyLimited := rfl
@[simp] theorem State.setV_unapplied (s : State) (x : V) (i : Nat) (v : Int) : (s.setV x i v).unapplied = s.unapplied := rfl
@[simp] theorem State.setV_endings (s : State) (x : V) (i : Nat) (v : Int) : (s.setV x i v).endings = s.endings := rfl
@[simp] theorem State.setV_cmdCsn (s : State) (x : V) (i : Nat) (v : Int) : (s.setV x i v).cmdCsn = s.cmdCsn := rfl
@[simp] theorem State.setV_applying (s : State) (x : V) (i : Nat) (v : Int) : (s.setV x i v).applying = s.applying := rfl
@[simp] theorem State.setV_disagreed (s : State) (x : V) (i : Nat) (v : Int) : (s.setV x i v).disagreed = s.disagreed := rfl
@[simp] theorem State.setV_resWaits (s : State) (x : V) (i : Nat) (v : Int) : (s.setV x i v).resWaits = s.resWaits := rfl
@[simp] theorem State.setV_holds (s : State) (x : V) (i : Nat) (v : Int) : (s.setV x i v).holds = s.holds := rfl
@[simp] theorem State.setV_journal (s : State) (x : V) (i : Nat) (v : Int) : (s.setV x i v).journal = s.journal := rfl
@[simp] theorem State.setV_log (s : State) (x : V) (i : Nat) (v : Int) : (s.setV x i v).log = s.log := rfl
@[simp] theorem State.setV_td (s : State) (x : V) (i : Nat) (v : Int) : (s.setV x i v).td = s.td := rfl
@[simp] theorem State.setV_powerWrites (s : State) (x : V) (i : Nat) (v : Int) : (s.setV x i v).powerWrites = s.powerWrites := rfl
@[simp] theorem State.setV_norWrites (s : State) (x : V) (i : Nat) (v : Int) : (s.setV x i v).norWrites = s.norWrites := rfl
@[simp] theorem State.setV_tables (s : State) (x : V) (i : Nat) (v : Int) : (s.setV x i v).tables = s.tables := rfl
@[simp] theorem State.setV_rails (s : State) (x : V) (i : Nat) (v : Int) : (s.setV x i v).rails = s.rails := rfl
@[simp] theorem State.setV_domains (s : State) (x : V) (i : Nat) (v : Int) : (s.setV x i v).domains = s.domains := rfl
@[simp] theorem State.setV_legs (s : State) (x : V) (i : Nat) (v : Int) : (s.setV x i v).legs = s.legs := rfl
@[simp] theorem State.setV_relays (s : State) (x : V) (i : Nat) (v : Int) : (s.setV x i v).relays = s.relays := rfl
@[simp] theorem State.setV_links (s : State) (x : V) (i : Nat) (v : Int) : (s.setV x i v).links = s.links := rfl
@[simp] theorem State.setV_held (s : State) (x : V) (i : Nat) (v : Int) : (s.setV x i v).held = s.held := rfl
@[simp] theorem State.setV_alertHolds (s : State) (x : V) (i : Nat) (v : Int) : (s.setV x i v).alertHolds = s.alertHolds := rfl
@[simp] theorem State.setV_hints (s : State) (x : V) (i : Nat) (v : Int) : (s.setV x i v).hints = s.hints := rfl
@[simp] theorem State.setV_ratPorts (s : State) (x : V) (i : Nat) (v : Int) : (s.setV x i v).ratPorts = s.ratPorts := rfl
@[simp] theorem State.setV_hearings (s : State) (x : V) (i : Nat) (v : Int) : (s.setV x i v).hearings = s.hearings := rfl
@[simp] theorem State.setV_nodes (s : State) (x : V) (i : Nat) (v : Int) : (s.setV x i v).nodes = s.nodes := rfl
@[simp] theorem State.setV_rackMembers (s : State) (x : V) (i : Nat) (v : Int) : (s.setV x i v).rackMembers = s.rackMembers := rfl
@[simp] theorem State.setV_racks (s : State) (x : V) (i : Nat) (v : Int) : (s.setV x i v).racks = s.racks := rfl
@[simp] theorem State.setV_pIn (s : State) (x : V) (i : Nat) (v : Int) : (s.setV x i v).pIn = s.pIn := rfl
@[simp] theorem State.setV_auxHistory (s : State) (x : V) (i : Nat) (v : Int) : (s.setV x i v).auxHistory = s.auxHistory := rfl
@[simp] theorem State.setV_trayDemands (s : State) (x : V) (i : Nat) (v : Int) : (s.setV x i v).trayDemands = s.trayDemands := rfl
@[simp] theorem State.setV_fast (s : State) (x : V) (i : Nat) (v : Int) : (s.setV x i v).fast = s.fast := rfl
@[simp] theorem State.setV_telemetry (s : State) (x : V) (i : Nat) (v : Int) : (s.setV x i v).telemetry = s.telemetry := rfl
@[simp] theorem State.setV_models (s : State) (x : V) (i : Nat) (v : Int) : (s.setV x i v).models = s.models := rfl
@[simp] theorem State.setV_fcDoms (s : State) (x : V) (i : Nat) (v : Int) : (s.setV x i v).fcDoms = s.fcDoms := rfl
@[simp] theorem State.setV_switches (s : State) (x : V) (i : Nat) (v : Int) : (s.setV x i v).switches = s.switches := rfl
@[simp] theorem State.setV_shelf (s : State) (x : V) (i : Nat) (v : Int) : (s.setV x i v).shelf = s.shelf := rfl
@[simp] theorem State.setV_nandWrites (s : State) (x : V) (i : Nat) (v : Int) : (s.setV x i v).nandWrites = s.nandWrites := rfl
@[simp] theorem State.setV_nor (s : State) (x : V) (i : Nat) (v : Int) : (s.setV x i v).nor = s.nor := rfl
@[simp] theorem State.setV_stage (s : State) (x : V) (i : Nat) (v : Int) : (s.setV x i v).stage = s.stage := rfl
@[simp] theorem State.setV_descStore (s : State) (x : V) (i : Nat) (v : Int) : (s.setV x i v).descStore = s.descStore := rfl
@[simp] theorem State.setV_etch (s : State) (x : V) (i : Nat) (v : Int) : (s.setV x i v).etch = s.etch := rfl
@[simp] theorem State.setV_activation (s : State) (x : V) (i : Nat) (v : Int) : (s.setV x i v).activation = s.activation := rfl
@[simp] theorem State.setV_roll (s : State) (x : V) (i : Nat) (v : Int) : (s.setV x i v).roll = s.roll := rfl
@[simp] theorem State.setV_revoking (s : State) (x : V) (i : Nat) (v : Int) : (s.setV x i v).revoking = s.revoking := rfl
@[simp] theorem State.setV_wakeRec (s : State) (x : V) (i : Nat) (v : Int) : (s.setV x i v).wakeRec = s.wakeRec := rfl
@[simp] theorem State.setV_points (s : State) (x : V) (i : Nat) (v : Int) : (s.setV x i v).points = s.points := rfl
@[simp] theorem State.setV_tests (s : State) (x : V) (i : Nat) (v : Int) : (s.setV x i v).tests = s.tests := rfl
@[simp] theorem State.setV_recorder (s : State) (x : V) (i : Nat) (v : Int) : (s.setV x i v).recorder = s.recorder := rfl
@[simp] theorem State.setV_stipple (s : State) (x : V) (i : Nat) (v : Int) : (s.setV x i v).stipple = s.stipple := rfl
@[simp] theorem State.setV_exports (s : State) (x : V) (i : Nat) (v : Int) : (s.setV x i v).exports = s.exports := rfl
@[simp] theorem State.setV_rowHits (s : State) (x : V) (i : Nat) (v : Int) : (s.setV x i v).rowHits = s.rowHits := rfl
@[simp] theorem State.setV_ueHits (s : State) (x : V) (i : Nat) (v : Int) : (s.setV x i v).ueHits = s.ueHits := rfl
@[simp] theorem State.setV_codewords (s : State) (x : V) (i : Nat) (v : Int) : (s.setV x i v).codewords = s.codewords := rfl
@[simp] theorem State.setV_poison (s : State) (x : V) (i : Nat) (v : Int) : (s.setV x i v).poison = s.poison := rfl
@[simp] theorem State.setV_buses (s : State) (x : V) (i : Nat) (v : Int) : (s.setV x i v).buses = s.buses := rfl
@[simp] theorem State.setV_windows (s : State) (x : V) (i : Nat) (v : Int) : (s.setV x i v).windows = s.windows := rfl
@[simp] theorem State.setV_relayDone (s : State) (x : V) (i : Nat) (v : Int) : (s.setV x i v).relayDone = s.relayDone := rfl
@[simp] theorem State.setV_ethShakes (s : State) (x : V) (i : Nat) (v : Int) : (s.setV x i v).ethShakes = s.ethShakes := rfl
@[simp] theorem State.setV_ethSessions (s : State) (x : V) (i : Nat) (v : Int) : (s.setV x i v).ethSessions = s.ethSessions := rfl
@[simp] theorem State.setV_moves (s : State) (x : V) (i : Nat) (v : Int) : (s.setV x i v).moves = s.moves := rfl
@[simp] theorem State.setV_lockMembers (s : State) (x : V) (i : Nat) (v : Int) : (s.setV x i v).lockMembers = s.lockMembers := rfl
@[simp] theorem State.setV_lockGroups (s : State) (x : V) (i : Nat) (v : Int) : (s.setV x i v).lockGroups = s.lockGroups := rfl
@[simp] theorem State.setV_lockTable (s : State) (x : V) (i : Nat) (v : Int) : (s.setV x i v).lockTable = s.lockTable := rfl
@[simp] theorem State.setV_lockCmds (s : State) (x : V) (i : Nat) (v : Int) : (s.setV x i v).lockCmds = s.lockCmds := rfl
@[simp] theorem State.setV_lockSum (s : State) (x : V) (i : Nat) (v : Int) : (s.setV x i v).lockSum = s.lockSum := rfl
@[simp] theorem State.setV_lockHeard (s : State) (x : V) (i : Nat) (v : Int) : (s.setV x i v).lockHeard = s.lockHeard := rfl
@[simp] theorem State.setV_plans (s : State) (x : V) (i : Nat) (v : Int) : (s.setV x i v).plans = s.plans := rfl
@[simp] theorem State.setV_coming (s : State) (x : V) (i : Nat) (v : Int) : (s.setV x i v).coming = s.coming := rfl
@[simp] theorem State.setV_runningPlan (s : State) (x : V) (i : Nat) (v : Int) : (s.setV x i v).runningPlan = s.runningPlan := rfl
@[simp] theorem State.setV_phases (s : State) (x : V) (i : Nat) (v : Int) : (s.setV x i v).phases = s.phases := rfl
@[simp] theorem State.setV_engines (s : State) (x : V) (i : Nat) (v : Int) : (s.setV x i v).engines = s.engines := rfl
@[simp] theorem State.setV_srcs (s : State) (x : V) (i : Nat) (v : Int) : (s.setV x i v).srcs = s.srcs := rfl
@[simp] theorem State.setV_mail (s : State) (x : V) (i : Nat) (v : Int) : (s.setV x i v).mail = s.mail := rfl
@[simp] theorem State.setV_progShelf (s : State) (x : V) (i : Nat) (v : Int) : (s.setV x i v).progShelf = s.progShelf := rfl
@[simp] theorem State.setV_globalOps (s : State) (x : V) (i : Nat) (v : Int) : (s.setV x i v).globalOps = s.globalOps := rfl
@[simp] theorem State.setV_opResults (s : State) (x : V) (i : Nat) (v : Int) : (s.setV x i v).opResults = s.opResults := rfl
@[simp] theorem State.setV_snapBufs (s : State) (x : V) (i : Nat) (v : Int) : (s.setV x i v).snapBufs = s.snapBufs := rfl
@[simp] theorem State.setV_remoteOuts (s : State) (x : V) (i : Nat) (v : Int) : (s.setV x i v).remoteOuts = s.remoteOuts := rfl
@[simp] theorem State.setV_remoteIns (s : State) (x : V) (i : Nat) (v : Int) : (s.setV x i v).remoteIns = s.remoteIns := rfl
@[simp] theorem State.setV_opsPassed (s : State) (x : V) (i : Nat) (v : Int) : (s.setV x i v).opsPassed = s.opsPassed := rfl
@[simp] theorem State.setV_paces (s : State) (x : V) (i : Nat) (v : Int) : (s.setV x i v).paces = s.paces := rfl
@[simp] theorem State.setV_oldLimits (s : State) (x : V) (i : Nat) (v : Int) : (s.setV x i v).oldLimits = s.oldLimits := rfl
@[simp] theorem State.setV_therms (s : State) (x : V) (i : Nat) (v : Int) : (s.setV x i v).therms = s.therms := rfl
@[simp] theorem State.setV_drives (s : State) (x : V) (i : Nat) (v : Int) : (s.setV x i v).drives = s.drives := rfl
@[simp] theorem State.setV_zones (s : State) (x : V) (i : Nat) (v : Int) : (s.setV x i v).zones = s.zones := rfl
@[simp] theorem State.setV_branches (s : State) (x : V) (i : Nat) (v : Int) : (s.setV x i v).branches = s.branches := rfl
@[simp] theorem State.setV_runs (s : State) (x : V) (i : Nat) (v : Int) : (s.setV x i v).runs = s.runs := rfl
@[simp] theorem State.setV_offRuns (s : State) (x : V) (i : Nat) (v : Int) : (s.setV x i v).offRuns = s.offRuns := rfl
@[simp] theorem State.setV_starts (s : State) (x : V) (i : Nat) (v : Int) : (s.setV x i v).starts = s.starts := rfl
@[simp] theorem State.setV_stops (s : State) (x : V) (i : Nat) (v : Int) : (s.setV x i v).stops = s.stops := rfl
@[simp] theorem State.setV_furls (s : State) (x : V) (i : Nat) (v : Int) : (s.setV x i v).furls = s.furls := rfl
@[simp] theorem State.setV_furlCmds (s : State) (x : V) (i : Nat) (v : Int) : (s.setV x i v).furlCmds = s.furlCmds := rfl
@[simp] theorem State.setV_failures (s : State) (x : V) (i : Nat) (v : Int) : (s.setV x i v).failures = s.failures := rfl
@[simp] theorem State.setV_restarts (s : State) (x : V) (i : Nat) (v : Int) : (s.setV x i v).restarts = s.restarts := rfl

/-! ### setT -/

@[simp] theorem State.setT_now (s : State) (x : T) (i : Nat) (v : Option Ns) : (s.setT x i v).now = s.now := rfl
@[simp] theorem State.setT_pending (s : State) (x : T) (i : Nat) (v : Option Ns) : (s.setT x i v).pending = s.pending := rfl
@[simp] theorem State.setT_member (s : State) (x : T) (i : Nat) (v : Option Ns) : (s.setT x i v).member = s.member := rfl
@[simp] theorem State.setT_draws (s : State) (x : T) (i : Nat) (v : Option Ns) : (s.setT x i v).draws = s.draws := rfl
@[simp] theorem State.setT_regs (s : State) (x : T) (i : Nat) (v : Option Ns) : (s.setT x i v).regs = s.regs := rfl
@[simp] theorem State.setT_vars (s : State) (x : T) (i : Nat) (v : Option Ns) : (s.setT x i v).vars = s.vars := rfl
@[simp] theorem State.setT_lastCsn (s : State) (x : T) (i : Nat) (v : Option Ns) : (s.setT x i v).lastCsn = s.lastCsn := rfl
@[simp] theorem State.setT_outbox (s : State) (x : T) (i : Nat) (v : Option Ns) : (s.setT x i v).outbox = s.outbox := rfl
@[simp] theorem State.setT_raised (s : State) (x : T) (i : Nat) (v : Option Ns) : (s.setT x i v).raised = s.raised := rfl
@[simp] theorem State.setT_sessions (s : State) (x : T) (i : Nat) (v : Option Ns) : (s.setT x i v).sessions = s.sessions := rfl
@[simp] theorem State.setT_endpoints (s : State) (x : T) (i : Nat) (v : Option Ns) : (s.setT x i v).endpoints = s.endpoints := rfl
@[simp] theorem State.setT_waiting (s : State) (x : T) (i : Nat) (v : Option Ns) : (s.setT x i v).waiting = s.waiting := rfl
@[simp] theorem State.setT_served (s : State) (x : T) (i : Nat) (v : Option Ns) : (s.setT x i v).served = s.served := rfl
@[simp] theorem State.setT_outst (s : State) (x : T) (i : Nat) (v : Option Ns) : (s.setT x i v).outst = s.outst := rfl
@[simp] theorem State.setT_orphans (s : State) (x : T) (i : Nat) (v : Option Ns) : (s.setT x i v).orphans = s.orphans := rfl
@[simp] theorem State.setT_handovers (s : State) (x : T) (i : Nat) (v : Option Ns) : (s.setT x i v).handovers = s.handovers := rfl
@[simp] theorem State.setT_running (s : State) (x : T) (i : Nat) (v : Option Ns) : (s.setT x i v).running = s.running := rfl
@[simp] theorem State.setT_safetyAdmits (s : State) (x : T) (i : Nat) (v : Option Ns) : (s.setT x i v).safetyAdmits = s.safetyAdmits := rfl
@[simp] theorem State.setT_safetyLimited (s : State) (x : T) (i : Nat) (v : Option Ns) : (s.setT x i v).safetyLimited = s.safetyLimited := rfl
@[simp] theorem State.setT_unapplied (s : State) (x : T) (i : Nat) (v : Option Ns) : (s.setT x i v).unapplied = s.unapplied := rfl
@[simp] theorem State.setT_endings (s : State) (x : T) (i : Nat) (v : Option Ns) : (s.setT x i v).endings = s.endings := rfl
@[simp] theorem State.setT_cmdCsn (s : State) (x : T) (i : Nat) (v : Option Ns) : (s.setT x i v).cmdCsn = s.cmdCsn := rfl
@[simp] theorem State.setT_applying (s : State) (x : T) (i : Nat) (v : Option Ns) : (s.setT x i v).applying = s.applying := rfl
@[simp] theorem State.setT_disagreed (s : State) (x : T) (i : Nat) (v : Option Ns) : (s.setT x i v).disagreed = s.disagreed := rfl
@[simp] theorem State.setT_resWaits (s : State) (x : T) (i : Nat) (v : Option Ns) : (s.setT x i v).resWaits = s.resWaits := rfl
@[simp] theorem State.setT_holds (s : State) (x : T) (i : Nat) (v : Option Ns) : (s.setT x i v).holds = s.holds := rfl
@[simp] theorem State.setT_journal (s : State) (x : T) (i : Nat) (v : Option Ns) : (s.setT x i v).journal = s.journal := rfl
@[simp] theorem State.setT_log (s : State) (x : T) (i : Nat) (v : Option Ns) : (s.setT x i v).log = s.log := rfl
@[simp] theorem State.setT_td (s : State) (x : T) (i : Nat) (v : Option Ns) : (s.setT x i v).td = s.td := rfl
@[simp] theorem State.setT_powerWrites (s : State) (x : T) (i : Nat) (v : Option Ns) : (s.setT x i v).powerWrites = s.powerWrites := rfl
@[simp] theorem State.setT_norWrites (s : State) (x : T) (i : Nat) (v : Option Ns) : (s.setT x i v).norWrites = s.norWrites := rfl
@[simp] theorem State.setT_tables (s : State) (x : T) (i : Nat) (v : Option Ns) : (s.setT x i v).tables = s.tables := rfl
@[simp] theorem State.setT_rails (s : State) (x : T) (i : Nat) (v : Option Ns) : (s.setT x i v).rails = s.rails := rfl
@[simp] theorem State.setT_domains (s : State) (x : T) (i : Nat) (v : Option Ns) : (s.setT x i v).domains = s.domains := rfl
@[simp] theorem State.setT_legs (s : State) (x : T) (i : Nat) (v : Option Ns) : (s.setT x i v).legs = s.legs := rfl
@[simp] theorem State.setT_relays (s : State) (x : T) (i : Nat) (v : Option Ns) : (s.setT x i v).relays = s.relays := rfl
@[simp] theorem State.setT_links (s : State) (x : T) (i : Nat) (v : Option Ns) : (s.setT x i v).links = s.links := rfl
@[simp] theorem State.setT_held (s : State) (x : T) (i : Nat) (v : Option Ns) : (s.setT x i v).held = s.held := rfl
@[simp] theorem State.setT_alertHolds (s : State) (x : T) (i : Nat) (v : Option Ns) : (s.setT x i v).alertHolds = s.alertHolds := rfl
@[simp] theorem State.setT_hints (s : State) (x : T) (i : Nat) (v : Option Ns) : (s.setT x i v).hints = s.hints := rfl
@[simp] theorem State.setT_ratPorts (s : State) (x : T) (i : Nat) (v : Option Ns) : (s.setT x i v).ratPorts = s.ratPorts := rfl
@[simp] theorem State.setT_hearings (s : State) (x : T) (i : Nat) (v : Option Ns) : (s.setT x i v).hearings = s.hearings := rfl
@[simp] theorem State.setT_nodes (s : State) (x : T) (i : Nat) (v : Option Ns) : (s.setT x i v).nodes = s.nodes := rfl
@[simp] theorem State.setT_rackMembers (s : State) (x : T) (i : Nat) (v : Option Ns) : (s.setT x i v).rackMembers = s.rackMembers := rfl
@[simp] theorem State.setT_racks (s : State) (x : T) (i : Nat) (v : Option Ns) : (s.setT x i v).racks = s.racks := rfl
@[simp] theorem State.setT_pIn (s : State) (x : T) (i : Nat) (v : Option Ns) : (s.setT x i v).pIn = s.pIn := rfl
@[simp] theorem State.setT_auxHistory (s : State) (x : T) (i : Nat) (v : Option Ns) : (s.setT x i v).auxHistory = s.auxHistory := rfl
@[simp] theorem State.setT_trayDemands (s : State) (x : T) (i : Nat) (v : Option Ns) : (s.setT x i v).trayDemands = s.trayDemands := rfl
@[simp] theorem State.setT_fast (s : State) (x : T) (i : Nat) (v : Option Ns) : (s.setT x i v).fast = s.fast := rfl
@[simp] theorem State.setT_telemetry (s : State) (x : T) (i : Nat) (v : Option Ns) : (s.setT x i v).telemetry = s.telemetry := rfl
@[simp] theorem State.setT_models (s : State) (x : T) (i : Nat) (v : Option Ns) : (s.setT x i v).models = s.models := rfl
@[simp] theorem State.setT_fcDoms (s : State) (x : T) (i : Nat) (v : Option Ns) : (s.setT x i v).fcDoms = s.fcDoms := rfl
@[simp] theorem State.setT_switches (s : State) (x : T) (i : Nat) (v : Option Ns) : (s.setT x i v).switches = s.switches := rfl
@[simp] theorem State.setT_shelf (s : State) (x : T) (i : Nat) (v : Option Ns) : (s.setT x i v).shelf = s.shelf := rfl
@[simp] theorem State.setT_nandWrites (s : State) (x : T) (i : Nat) (v : Option Ns) : (s.setT x i v).nandWrites = s.nandWrites := rfl
@[simp] theorem State.setT_nor (s : State) (x : T) (i : Nat) (v : Option Ns) : (s.setT x i v).nor = s.nor := rfl
@[simp] theorem State.setT_stage (s : State) (x : T) (i : Nat) (v : Option Ns) : (s.setT x i v).stage = s.stage := rfl
@[simp] theorem State.setT_descStore (s : State) (x : T) (i : Nat) (v : Option Ns) : (s.setT x i v).descStore = s.descStore := rfl
@[simp] theorem State.setT_etch (s : State) (x : T) (i : Nat) (v : Option Ns) : (s.setT x i v).etch = s.etch := rfl
@[simp] theorem State.setT_activation (s : State) (x : T) (i : Nat) (v : Option Ns) : (s.setT x i v).activation = s.activation := rfl
@[simp] theorem State.setT_roll (s : State) (x : T) (i : Nat) (v : Option Ns) : (s.setT x i v).roll = s.roll := rfl
@[simp] theorem State.setT_revoking (s : State) (x : T) (i : Nat) (v : Option Ns) : (s.setT x i v).revoking = s.revoking := rfl
@[simp] theorem State.setT_wakeRec (s : State) (x : T) (i : Nat) (v : Option Ns) : (s.setT x i v).wakeRec = s.wakeRec := rfl
@[simp] theorem State.setT_points (s : State) (x : T) (i : Nat) (v : Option Ns) : (s.setT x i v).points = s.points := rfl
@[simp] theorem State.setT_tests (s : State) (x : T) (i : Nat) (v : Option Ns) : (s.setT x i v).tests = s.tests := rfl
@[simp] theorem State.setT_recorder (s : State) (x : T) (i : Nat) (v : Option Ns) : (s.setT x i v).recorder = s.recorder := rfl
@[simp] theorem State.setT_stipple (s : State) (x : T) (i : Nat) (v : Option Ns) : (s.setT x i v).stipple = s.stipple := rfl
@[simp] theorem State.setT_exports (s : State) (x : T) (i : Nat) (v : Option Ns) : (s.setT x i v).exports = s.exports := rfl
@[simp] theorem State.setT_rowHits (s : State) (x : T) (i : Nat) (v : Option Ns) : (s.setT x i v).rowHits = s.rowHits := rfl
@[simp] theorem State.setT_ueHits (s : State) (x : T) (i : Nat) (v : Option Ns) : (s.setT x i v).ueHits = s.ueHits := rfl
@[simp] theorem State.setT_codewords (s : State) (x : T) (i : Nat) (v : Option Ns) : (s.setT x i v).codewords = s.codewords := rfl
@[simp] theorem State.setT_poison (s : State) (x : T) (i : Nat) (v : Option Ns) : (s.setT x i v).poison = s.poison := rfl
@[simp] theorem State.setT_buses (s : State) (x : T) (i : Nat) (v : Option Ns) : (s.setT x i v).buses = s.buses := rfl
@[simp] theorem State.setT_windows (s : State) (x : T) (i : Nat) (v : Option Ns) : (s.setT x i v).windows = s.windows := rfl
@[simp] theorem State.setT_relayDone (s : State) (x : T) (i : Nat) (v : Option Ns) : (s.setT x i v).relayDone = s.relayDone := rfl
@[simp] theorem State.setT_ethShakes (s : State) (x : T) (i : Nat) (v : Option Ns) : (s.setT x i v).ethShakes = s.ethShakes := rfl
@[simp] theorem State.setT_ethSessions (s : State) (x : T) (i : Nat) (v : Option Ns) : (s.setT x i v).ethSessions = s.ethSessions := rfl
@[simp] theorem State.setT_moves (s : State) (x : T) (i : Nat) (v : Option Ns) : (s.setT x i v).moves = s.moves := rfl
@[simp] theorem State.setT_lockMembers (s : State) (x : T) (i : Nat) (v : Option Ns) : (s.setT x i v).lockMembers = s.lockMembers := rfl
@[simp] theorem State.setT_lockGroups (s : State) (x : T) (i : Nat) (v : Option Ns) : (s.setT x i v).lockGroups = s.lockGroups := rfl
@[simp] theorem State.setT_lockTable (s : State) (x : T) (i : Nat) (v : Option Ns) : (s.setT x i v).lockTable = s.lockTable := rfl
@[simp] theorem State.setT_lockCmds (s : State) (x : T) (i : Nat) (v : Option Ns) : (s.setT x i v).lockCmds = s.lockCmds := rfl
@[simp] theorem State.setT_lockSum (s : State) (x : T) (i : Nat) (v : Option Ns) : (s.setT x i v).lockSum = s.lockSum := rfl
@[simp] theorem State.setT_lockHeard (s : State) (x : T) (i : Nat) (v : Option Ns) : (s.setT x i v).lockHeard = s.lockHeard := rfl
@[simp] theorem State.setT_plans (s : State) (x : T) (i : Nat) (v : Option Ns) : (s.setT x i v).plans = s.plans := rfl
@[simp] theorem State.setT_coming (s : State) (x : T) (i : Nat) (v : Option Ns) : (s.setT x i v).coming = s.coming := rfl
@[simp] theorem State.setT_runningPlan (s : State) (x : T) (i : Nat) (v : Option Ns) : (s.setT x i v).runningPlan = s.runningPlan := rfl
@[simp] theorem State.setT_phases (s : State) (x : T) (i : Nat) (v : Option Ns) : (s.setT x i v).phases = s.phases := rfl
@[simp] theorem State.setT_engines (s : State) (x : T) (i : Nat) (v : Option Ns) : (s.setT x i v).engines = s.engines := rfl
@[simp] theorem State.setT_srcs (s : State) (x : T) (i : Nat) (v : Option Ns) : (s.setT x i v).srcs = s.srcs := rfl
@[simp] theorem State.setT_mail (s : State) (x : T) (i : Nat) (v : Option Ns) : (s.setT x i v).mail = s.mail := rfl
@[simp] theorem State.setT_progShelf (s : State) (x : T) (i : Nat) (v : Option Ns) : (s.setT x i v).progShelf = s.progShelf := rfl
@[simp] theorem State.setT_globalOps (s : State) (x : T) (i : Nat) (v : Option Ns) : (s.setT x i v).globalOps = s.globalOps := rfl
@[simp] theorem State.setT_opResults (s : State) (x : T) (i : Nat) (v : Option Ns) : (s.setT x i v).opResults = s.opResults := rfl
@[simp] theorem State.setT_snapBufs (s : State) (x : T) (i : Nat) (v : Option Ns) : (s.setT x i v).snapBufs = s.snapBufs := rfl
@[simp] theorem State.setT_remoteOuts (s : State) (x : T) (i : Nat) (v : Option Ns) : (s.setT x i v).remoteOuts = s.remoteOuts := rfl
@[simp] theorem State.setT_remoteIns (s : State) (x : T) (i : Nat) (v : Option Ns) : (s.setT x i v).remoteIns = s.remoteIns := rfl
@[simp] theorem State.setT_opsPassed (s : State) (x : T) (i : Nat) (v : Option Ns) : (s.setT x i v).opsPassed = s.opsPassed := rfl
@[simp] theorem State.setT_paces (s : State) (x : T) (i : Nat) (v : Option Ns) : (s.setT x i v).paces = s.paces := rfl
@[simp] theorem State.setT_oldLimits (s : State) (x : T) (i : Nat) (v : Option Ns) : (s.setT x i v).oldLimits = s.oldLimits := rfl
@[simp] theorem State.setT_therms (s : State) (x : T) (i : Nat) (v : Option Ns) : (s.setT x i v).therms = s.therms := rfl
@[simp] theorem State.setT_drives (s : State) (x : T) (i : Nat) (v : Option Ns) : (s.setT x i v).drives = s.drives := rfl
@[simp] theorem State.setT_zones (s : State) (x : T) (i : Nat) (v : Option Ns) : (s.setT x i v).zones = s.zones := rfl
@[simp] theorem State.setT_branches (s : State) (x : T) (i : Nat) (v : Option Ns) : (s.setT x i v).branches = s.branches := rfl
@[simp] theorem State.setT_runs (s : State) (x : T) (i : Nat) (v : Option Ns) : (s.setT x i v).runs = s.runs := rfl
@[simp] theorem State.setT_offRuns (s : State) (x : T) (i : Nat) (v : Option Ns) : (s.setT x i v).offRuns = s.offRuns := rfl
@[simp] theorem State.setT_starts (s : State) (x : T) (i : Nat) (v : Option Ns) : (s.setT x i v).starts = s.starts := rfl
@[simp] theorem State.setT_stops (s : State) (x : T) (i : Nat) (v : Option Ns) : (s.setT x i v).stops = s.stops := rfl
@[simp] theorem State.setT_furls (s : State) (x : T) (i : Nat) (v : Option Ns) : (s.setT x i v).furls = s.furls := rfl
@[simp] theorem State.setT_furlCmds (s : State) (x : T) (i : Nat) (v : Option Ns) : (s.setT x i v).furlCmds = s.furlCmds := rfl
@[simp] theorem State.setT_failures (s : State) (x : T) (i : Nat) (v : Option Ns) : (s.setT x i v).failures = s.failures := rfl
@[simp] theorem State.setT_restarts (s : State) (x : T) (i : Nat) (v : Option Ns) : (s.setT x i v).restarts = s.restarts := rfl

/-! ### send -/

@[simp] theorem State.send_now (s : State) (m : Msg) : (s.send m).now = s.now := rfl
@[simp] theorem State.send_pending (s : State) (m : Msg) : (s.send m).pending = s.pending := rfl
@[simp] theorem State.send_member (s : State) (m : Msg) : (s.send m).member = s.member := rfl
@[simp] theorem State.send_draws (s : State) (m : Msg) : (s.send m).draws = s.draws := rfl
@[simp] theorem State.send_regs (s : State) (m : Msg) : (s.send m).regs = s.regs := rfl
@[simp] theorem State.send_vars (s : State) (m : Msg) : (s.send m).vars = s.vars := rfl
@[simp] theorem State.send_timers (s : State) (m : Msg) : (s.send m).timers = s.timers := rfl
@[simp] theorem State.send_lastCsn (s : State) (m : Msg) : (s.send m).lastCsn = s.lastCsn := rfl
@[simp] theorem State.send_raised (s : State) (m : Msg) : (s.send m).raised = s.raised := rfl
@[simp] theorem State.send_sessions (s : State) (m : Msg) : (s.send m).sessions = s.sessions := rfl
@[simp] theorem State.send_endpoints (s : State) (m : Msg) : (s.send m).endpoints = s.endpoints := rfl
@[simp] theorem State.send_waiting (s : State) (m : Msg) : (s.send m).waiting = s.waiting := rfl
@[simp] theorem State.send_served (s : State) (m : Msg) : (s.send m).served = s.served := rfl
@[simp] theorem State.send_outst (s : State) (m : Msg) : (s.send m).outst = s.outst := rfl
@[simp] theorem State.send_orphans (s : State) (m : Msg) : (s.send m).orphans = s.orphans := rfl
@[simp] theorem State.send_handovers (s : State) (m : Msg) : (s.send m).handovers = s.handovers := rfl
@[simp] theorem State.send_running (s : State) (m : Msg) : (s.send m).running = s.running := rfl
@[simp] theorem State.send_safetyAdmits (s : State) (m : Msg) : (s.send m).safetyAdmits = s.safetyAdmits := rfl
@[simp] theorem State.send_safetyLimited (s : State) (m : Msg) : (s.send m).safetyLimited = s.safetyLimited := rfl
@[simp] theorem State.send_unapplied (s : State) (m : Msg) : (s.send m).unapplied = s.unapplied := rfl
@[simp] theorem State.send_endings (s : State) (m : Msg) : (s.send m).endings = s.endings := rfl
@[simp] theorem State.send_cmdCsn (s : State) (m : Msg) : (s.send m).cmdCsn = s.cmdCsn := rfl
@[simp] theorem State.send_applying (s : State) (m : Msg) : (s.send m).applying = s.applying := rfl
@[simp] theorem State.send_disagreed (s : State) (m : Msg) : (s.send m).disagreed = s.disagreed := rfl
@[simp] theorem State.send_resWaits (s : State) (m : Msg) : (s.send m).resWaits = s.resWaits := rfl
@[simp] theorem State.send_holds (s : State) (m : Msg) : (s.send m).holds = s.holds := rfl
@[simp] theorem State.send_journal (s : State) (m : Msg) : (s.send m).journal = s.journal := rfl
@[simp] theorem State.send_log (s : State) (m : Msg) : (s.send m).log = s.log := rfl
@[simp] theorem State.send_td (s : State) (m : Msg) : (s.send m).td = s.td := rfl
@[simp] theorem State.send_powerWrites (s : State) (m : Msg) : (s.send m).powerWrites = s.powerWrites := rfl
@[simp] theorem State.send_norWrites (s : State) (m : Msg) : (s.send m).norWrites = s.norWrites := rfl
@[simp] theorem State.send_tables (s : State) (m : Msg) : (s.send m).tables = s.tables := rfl
@[simp] theorem State.send_rails (s : State) (m : Msg) : (s.send m).rails = s.rails := rfl
@[simp] theorem State.send_domains (s : State) (m : Msg) : (s.send m).domains = s.domains := rfl
@[simp] theorem State.send_legs (s : State) (m : Msg) : (s.send m).legs = s.legs := rfl
@[simp] theorem State.send_relays (s : State) (m : Msg) : (s.send m).relays = s.relays := rfl
@[simp] theorem State.send_links (s : State) (m : Msg) : (s.send m).links = s.links := rfl
@[simp] theorem State.send_held (s : State) (m : Msg) : (s.send m).held = s.held := rfl
@[simp] theorem State.send_alertHolds (s : State) (m : Msg) : (s.send m).alertHolds = s.alertHolds := rfl
@[simp] theorem State.send_hints (s : State) (m : Msg) : (s.send m).hints = s.hints := rfl
@[simp] theorem State.send_ratPorts (s : State) (m : Msg) : (s.send m).ratPorts = s.ratPorts := rfl
@[simp] theorem State.send_hearings (s : State) (m : Msg) : (s.send m).hearings = s.hearings := rfl
@[simp] theorem State.send_nodes (s : State) (m : Msg) : (s.send m).nodes = s.nodes := rfl
@[simp] theorem State.send_rackMembers (s : State) (m : Msg) : (s.send m).rackMembers = s.rackMembers := rfl
@[simp] theorem State.send_racks (s : State) (m : Msg) : (s.send m).racks = s.racks := rfl
@[simp] theorem State.send_pIn (s : State) (m : Msg) : (s.send m).pIn = s.pIn := rfl
@[simp] theorem State.send_auxHistory (s : State) (m : Msg) : (s.send m).auxHistory = s.auxHistory := rfl
@[simp] theorem State.send_trayDemands (s : State) (m : Msg) : (s.send m).trayDemands = s.trayDemands := rfl
@[simp] theorem State.send_fast (s : State) (m : Msg) : (s.send m).fast = s.fast := rfl
@[simp] theorem State.send_telemetry (s : State) (m : Msg) : (s.send m).telemetry = s.telemetry := rfl
@[simp] theorem State.send_models (s : State) (m : Msg) : (s.send m).models = s.models := rfl
@[simp] theorem State.send_fcDoms (s : State) (m : Msg) : (s.send m).fcDoms = s.fcDoms := rfl
@[simp] theorem State.send_switches (s : State) (m : Msg) : (s.send m).switches = s.switches := rfl
@[simp] theorem State.send_shelf (s : State) (m : Msg) : (s.send m).shelf = s.shelf := rfl
@[simp] theorem State.send_nandWrites (s : State) (m : Msg) : (s.send m).nandWrites = s.nandWrites := rfl
@[simp] theorem State.send_nor (s : State) (m : Msg) : (s.send m).nor = s.nor := rfl
@[simp] theorem State.send_stage (s : State) (m : Msg) : (s.send m).stage = s.stage := rfl
@[simp] theorem State.send_descStore (s : State) (m : Msg) : (s.send m).descStore = s.descStore := rfl
@[simp] theorem State.send_etch (s : State) (m : Msg) : (s.send m).etch = s.etch := rfl
@[simp] theorem State.send_activation (s : State) (m : Msg) : (s.send m).activation = s.activation := rfl
@[simp] theorem State.send_roll (s : State) (m : Msg) : (s.send m).roll = s.roll := rfl
@[simp] theorem State.send_revoking (s : State) (m : Msg) : (s.send m).revoking = s.revoking := rfl
@[simp] theorem State.send_wakeRec (s : State) (m : Msg) : (s.send m).wakeRec = s.wakeRec := rfl
@[simp] theorem State.send_points (s : State) (m : Msg) : (s.send m).points = s.points := rfl
@[simp] theorem State.send_tests (s : State) (m : Msg) : (s.send m).tests = s.tests := rfl
@[simp] theorem State.send_recorder (s : State) (m : Msg) : (s.send m).recorder = s.recorder := rfl
@[simp] theorem State.send_stipple (s : State) (m : Msg) : (s.send m).stipple = s.stipple := rfl
@[simp] theorem State.send_exports (s : State) (m : Msg) : (s.send m).exports = s.exports := rfl
@[simp] theorem State.send_rowHits (s : State) (m : Msg) : (s.send m).rowHits = s.rowHits := rfl
@[simp] theorem State.send_ueHits (s : State) (m : Msg) : (s.send m).ueHits = s.ueHits := rfl
@[simp] theorem State.send_codewords (s : State) (m : Msg) : (s.send m).codewords = s.codewords := rfl
@[simp] theorem State.send_poison (s : State) (m : Msg) : (s.send m).poison = s.poison := rfl
@[simp] theorem State.send_buses (s : State) (m : Msg) : (s.send m).buses = s.buses := rfl
@[simp] theorem State.send_windows (s : State) (m : Msg) : (s.send m).windows = s.windows := rfl
@[simp] theorem State.send_relayDone (s : State) (m : Msg) : (s.send m).relayDone = s.relayDone := rfl
@[simp] theorem State.send_ethShakes (s : State) (m : Msg) : (s.send m).ethShakes = s.ethShakes := rfl
@[simp] theorem State.send_ethSessions (s : State) (m : Msg) : (s.send m).ethSessions = s.ethSessions := rfl
@[simp] theorem State.send_moves (s : State) (m : Msg) : (s.send m).moves = s.moves := rfl
@[simp] theorem State.send_lockMembers (s : State) (m : Msg) : (s.send m).lockMembers = s.lockMembers := rfl
@[simp] theorem State.send_lockGroups (s : State) (m : Msg) : (s.send m).lockGroups = s.lockGroups := rfl
@[simp] theorem State.send_lockTable (s : State) (m : Msg) : (s.send m).lockTable = s.lockTable := rfl
@[simp] theorem State.send_lockCmds (s : State) (m : Msg) : (s.send m).lockCmds = s.lockCmds := rfl
@[simp] theorem State.send_lockSum (s : State) (m : Msg) : (s.send m).lockSum = s.lockSum := rfl
@[simp] theorem State.send_lockHeard (s : State) (m : Msg) : (s.send m).lockHeard = s.lockHeard := rfl
@[simp] theorem State.send_plans (s : State) (m : Msg) : (s.send m).plans = s.plans := rfl
@[simp] theorem State.send_coming (s : State) (m : Msg) : (s.send m).coming = s.coming := rfl
@[simp] theorem State.send_runningPlan (s : State) (m : Msg) : (s.send m).runningPlan = s.runningPlan := rfl
@[simp] theorem State.send_phases (s : State) (m : Msg) : (s.send m).phases = s.phases := rfl
@[simp] theorem State.send_engines (s : State) (m : Msg) : (s.send m).engines = s.engines := rfl
@[simp] theorem State.send_srcs (s : State) (m : Msg) : (s.send m).srcs = s.srcs := rfl
@[simp] theorem State.send_mail (s : State) (m : Msg) : (s.send m).mail = s.mail := rfl
@[simp] theorem State.send_progShelf (s : State) (m : Msg) : (s.send m).progShelf = s.progShelf := rfl
@[simp] theorem State.send_globalOps (s : State) (m : Msg) : (s.send m).globalOps = s.globalOps := rfl
@[simp] theorem State.send_opResults (s : State) (m : Msg) : (s.send m).opResults = s.opResults := rfl
@[simp] theorem State.send_snapBufs (s : State) (m : Msg) : (s.send m).snapBufs = s.snapBufs := rfl
@[simp] theorem State.send_remoteOuts (s : State) (m : Msg) : (s.send m).remoteOuts = s.remoteOuts := rfl
@[simp] theorem State.send_remoteIns (s : State) (m : Msg) : (s.send m).remoteIns = s.remoteIns := rfl
@[simp] theorem State.send_opsPassed (s : State) (m : Msg) : (s.send m).opsPassed = s.opsPassed := rfl
@[simp] theorem State.send_paces (s : State) (m : Msg) : (s.send m).paces = s.paces := rfl
@[simp] theorem State.send_oldLimits (s : State) (m : Msg) : (s.send m).oldLimits = s.oldLimits := rfl
@[simp] theorem State.send_therms (s : State) (m : Msg) : (s.send m).therms = s.therms := rfl
@[simp] theorem State.send_drives (s : State) (m : Msg) : (s.send m).drives = s.drives := rfl
@[simp] theorem State.send_zones (s : State) (m : Msg) : (s.send m).zones = s.zones := rfl
@[simp] theorem State.send_branches (s : State) (m : Msg) : (s.send m).branches = s.branches := rfl
@[simp] theorem State.send_runs (s : State) (m : Msg) : (s.send m).runs = s.runs := rfl
@[simp] theorem State.send_offRuns (s : State) (m : Msg) : (s.send m).offRuns = s.offRuns := rfl
@[simp] theorem State.send_starts (s : State) (m : Msg) : (s.send m).starts = s.starts := rfl
@[simp] theorem State.send_stops (s : State) (m : Msg) : (s.send m).stops = s.stops := rfl
@[simp] theorem State.send_furls (s : State) (m : Msg) : (s.send m).furls = s.furls := rfl
@[simp] theorem State.send_furlCmds (s : State) (m : Msg) : (s.send m).furlCmds = s.furlCmds := rfl
@[simp] theorem State.send_failures (s : State) (m : Msg) : (s.send m).failures = s.failures := rfl
@[simp] theorem State.send_restarts (s : State) (m : Msg) : (s.send m).restarts = s.restarts := rfl

/-! ### arm -/

@[simp] theorem State.arm_now (s : State) (x : T) (i : Nat) (d : Ns) : (s.arm x i d).now = s.now := rfl
@[simp] theorem State.arm_pending (s : State) (x : T) (i : Nat) (d : Ns) : (s.arm x i d).pending = s.pending := rfl
@[simp] theorem State.arm_member (s : State) (x : T) (i : Nat) (d : Ns) : (s.arm x i d).member = s.member := rfl
@[simp] theorem State.arm_draws (s : State) (x : T) (i : Nat) (d : Ns) : (s.arm x i d).draws = s.draws := rfl
@[simp] theorem State.arm_regs (s : State) (x : T) (i : Nat) (d : Ns) : (s.arm x i d).regs = s.regs := rfl
@[simp] theorem State.arm_vars (s : State) (x : T) (i : Nat) (d : Ns) : (s.arm x i d).vars = s.vars := rfl
@[simp] theorem State.arm_lastCsn (s : State) (x : T) (i : Nat) (d : Ns) : (s.arm x i d).lastCsn = s.lastCsn := rfl
@[simp] theorem State.arm_outbox (s : State) (x : T) (i : Nat) (d : Ns) : (s.arm x i d).outbox = s.outbox := rfl
@[simp] theorem State.arm_raised (s : State) (x : T) (i : Nat) (d : Ns) : (s.arm x i d).raised = s.raised := rfl
@[simp] theorem State.arm_sessions (s : State) (x : T) (i : Nat) (d : Ns) : (s.arm x i d).sessions = s.sessions := rfl
@[simp] theorem State.arm_endpoints (s : State) (x : T) (i : Nat) (d : Ns) : (s.arm x i d).endpoints = s.endpoints := rfl
@[simp] theorem State.arm_waiting (s : State) (x : T) (i : Nat) (d : Ns) : (s.arm x i d).waiting = s.waiting := rfl
@[simp] theorem State.arm_served (s : State) (x : T) (i : Nat) (d : Ns) : (s.arm x i d).served = s.served := rfl
@[simp] theorem State.arm_outst (s : State) (x : T) (i : Nat) (d : Ns) : (s.arm x i d).outst = s.outst := rfl
@[simp] theorem State.arm_orphans (s : State) (x : T) (i : Nat) (d : Ns) : (s.arm x i d).orphans = s.orphans := rfl
@[simp] theorem State.arm_handovers (s : State) (x : T) (i : Nat) (d : Ns) : (s.arm x i d).handovers = s.handovers := rfl
@[simp] theorem State.arm_running (s : State) (x : T) (i : Nat) (d : Ns) : (s.arm x i d).running = s.running := rfl
@[simp] theorem State.arm_safetyAdmits (s : State) (x : T) (i : Nat) (d : Ns) : (s.arm x i d).safetyAdmits = s.safetyAdmits := rfl
@[simp] theorem State.arm_safetyLimited (s : State) (x : T) (i : Nat) (d : Ns) : (s.arm x i d).safetyLimited = s.safetyLimited := rfl
@[simp] theorem State.arm_unapplied (s : State) (x : T) (i : Nat) (d : Ns) : (s.arm x i d).unapplied = s.unapplied := rfl
@[simp] theorem State.arm_endings (s : State) (x : T) (i : Nat) (d : Ns) : (s.arm x i d).endings = s.endings := rfl
@[simp] theorem State.arm_cmdCsn (s : State) (x : T) (i : Nat) (d : Ns) : (s.arm x i d).cmdCsn = s.cmdCsn := rfl
@[simp] theorem State.arm_applying (s : State) (x : T) (i : Nat) (d : Ns) : (s.arm x i d).applying = s.applying := rfl
@[simp] theorem State.arm_disagreed (s : State) (x : T) (i : Nat) (d : Ns) : (s.arm x i d).disagreed = s.disagreed := rfl
@[simp] theorem State.arm_resWaits (s : State) (x : T) (i : Nat) (d : Ns) : (s.arm x i d).resWaits = s.resWaits := rfl
@[simp] theorem State.arm_holds (s : State) (x : T) (i : Nat) (d : Ns) : (s.arm x i d).holds = s.holds := rfl
@[simp] theorem State.arm_journal (s : State) (x : T) (i : Nat) (d : Ns) : (s.arm x i d).journal = s.journal := rfl
@[simp] theorem State.arm_log (s : State) (x : T) (i : Nat) (d : Ns) : (s.arm x i d).log = s.log := rfl
@[simp] theorem State.arm_td (s : State) (x : T) (i : Nat) (d : Ns) : (s.arm x i d).td = s.td := rfl
@[simp] theorem State.arm_powerWrites (s : State) (x : T) (i : Nat) (d : Ns) : (s.arm x i d).powerWrites = s.powerWrites := rfl
@[simp] theorem State.arm_norWrites (s : State) (x : T) (i : Nat) (d : Ns) : (s.arm x i d).norWrites = s.norWrites := rfl
@[simp] theorem State.arm_tables (s : State) (x : T) (i : Nat) (d : Ns) : (s.arm x i d).tables = s.tables := rfl
@[simp] theorem State.arm_rails (s : State) (x : T) (i : Nat) (d : Ns) : (s.arm x i d).rails = s.rails := rfl
@[simp] theorem State.arm_domains (s : State) (x : T) (i : Nat) (d : Ns) : (s.arm x i d).domains = s.domains := rfl
@[simp] theorem State.arm_legs (s : State) (x : T) (i : Nat) (d : Ns) : (s.arm x i d).legs = s.legs := rfl
@[simp] theorem State.arm_relays (s : State) (x : T) (i : Nat) (d : Ns) : (s.arm x i d).relays = s.relays := rfl
@[simp] theorem State.arm_links (s : State) (x : T) (i : Nat) (d : Ns) : (s.arm x i d).links = s.links := rfl
@[simp] theorem State.arm_held (s : State) (x : T) (i : Nat) (d : Ns) : (s.arm x i d).held = s.held := rfl
@[simp] theorem State.arm_alertHolds (s : State) (x : T) (i : Nat) (d : Ns) : (s.arm x i d).alertHolds = s.alertHolds := rfl
@[simp] theorem State.arm_hints (s : State) (x : T) (i : Nat) (d : Ns) : (s.arm x i d).hints = s.hints := rfl
@[simp] theorem State.arm_ratPorts (s : State) (x : T) (i : Nat) (d : Ns) : (s.arm x i d).ratPorts = s.ratPorts := rfl
@[simp] theorem State.arm_hearings (s : State) (x : T) (i : Nat) (d : Ns) : (s.arm x i d).hearings = s.hearings := rfl
@[simp] theorem State.arm_nodes (s : State) (x : T) (i : Nat) (d : Ns) : (s.arm x i d).nodes = s.nodes := rfl
@[simp] theorem State.arm_rackMembers (s : State) (x : T) (i : Nat) (d : Ns) : (s.arm x i d).rackMembers = s.rackMembers := rfl
@[simp] theorem State.arm_racks (s : State) (x : T) (i : Nat) (d : Ns) : (s.arm x i d).racks = s.racks := rfl
@[simp] theorem State.arm_pIn (s : State) (x : T) (i : Nat) (d : Ns) : (s.arm x i d).pIn = s.pIn := rfl
@[simp] theorem State.arm_auxHistory (s : State) (x : T) (i : Nat) (d : Ns) : (s.arm x i d).auxHistory = s.auxHistory := rfl
@[simp] theorem State.arm_trayDemands (s : State) (x : T) (i : Nat) (d : Ns) : (s.arm x i d).trayDemands = s.trayDemands := rfl
@[simp] theorem State.arm_fast (s : State) (x : T) (i : Nat) (d : Ns) : (s.arm x i d).fast = s.fast := rfl
@[simp] theorem State.arm_telemetry (s : State) (x : T) (i : Nat) (d : Ns) : (s.arm x i d).telemetry = s.telemetry := rfl
@[simp] theorem State.arm_models (s : State) (x : T) (i : Nat) (d : Ns) : (s.arm x i d).models = s.models := rfl
@[simp] theorem State.arm_fcDoms (s : State) (x : T) (i : Nat) (d : Ns) : (s.arm x i d).fcDoms = s.fcDoms := rfl
@[simp] theorem State.arm_switches (s : State) (x : T) (i : Nat) (d : Ns) : (s.arm x i d).switches = s.switches := rfl
@[simp] theorem State.arm_shelf (s : State) (x : T) (i : Nat) (d : Ns) : (s.arm x i d).shelf = s.shelf := rfl
@[simp] theorem State.arm_nandWrites (s : State) (x : T) (i : Nat) (d : Ns) : (s.arm x i d).nandWrites = s.nandWrites := rfl
@[simp] theorem State.arm_nor (s : State) (x : T) (i : Nat) (d : Ns) : (s.arm x i d).nor = s.nor := rfl
@[simp] theorem State.arm_stage (s : State) (x : T) (i : Nat) (d : Ns) : (s.arm x i d).stage = s.stage := rfl
@[simp] theorem State.arm_descStore (s : State) (x : T) (i : Nat) (d : Ns) : (s.arm x i d).descStore = s.descStore := rfl
@[simp] theorem State.arm_etch (s : State) (x : T) (i : Nat) (d : Ns) : (s.arm x i d).etch = s.etch := rfl
@[simp] theorem State.arm_activation (s : State) (x : T) (i : Nat) (d : Ns) : (s.arm x i d).activation = s.activation := rfl
@[simp] theorem State.arm_roll (s : State) (x : T) (i : Nat) (d : Ns) : (s.arm x i d).roll = s.roll := rfl
@[simp] theorem State.arm_revoking (s : State) (x : T) (i : Nat) (d : Ns) : (s.arm x i d).revoking = s.revoking := rfl
@[simp] theorem State.arm_wakeRec (s : State) (x : T) (i : Nat) (d : Ns) : (s.arm x i d).wakeRec = s.wakeRec := rfl
@[simp] theorem State.arm_points (s : State) (x : T) (i : Nat) (d : Ns) : (s.arm x i d).points = s.points := rfl
@[simp] theorem State.arm_tests (s : State) (x : T) (i : Nat) (d : Ns) : (s.arm x i d).tests = s.tests := rfl
@[simp] theorem State.arm_recorder (s : State) (x : T) (i : Nat) (d : Ns) : (s.arm x i d).recorder = s.recorder := rfl
@[simp] theorem State.arm_stipple (s : State) (x : T) (i : Nat) (d : Ns) : (s.arm x i d).stipple = s.stipple := rfl
@[simp] theorem State.arm_exports (s : State) (x : T) (i : Nat) (d : Ns) : (s.arm x i d).exports = s.exports := rfl
@[simp] theorem State.arm_rowHits (s : State) (x : T) (i : Nat) (d : Ns) : (s.arm x i d).rowHits = s.rowHits := rfl
@[simp] theorem State.arm_ueHits (s : State) (x : T) (i : Nat) (d : Ns) : (s.arm x i d).ueHits = s.ueHits := rfl
@[simp] theorem State.arm_codewords (s : State) (x : T) (i : Nat) (d : Ns) : (s.arm x i d).codewords = s.codewords := rfl
@[simp] theorem State.arm_poison (s : State) (x : T) (i : Nat) (d : Ns) : (s.arm x i d).poison = s.poison := rfl
@[simp] theorem State.arm_buses (s : State) (x : T) (i : Nat) (d : Ns) : (s.arm x i d).buses = s.buses := rfl
@[simp] theorem State.arm_windows (s : State) (x : T) (i : Nat) (d : Ns) : (s.arm x i d).windows = s.windows := rfl
@[simp] theorem State.arm_relayDone (s : State) (x : T) (i : Nat) (d : Ns) : (s.arm x i d).relayDone = s.relayDone := rfl
@[simp] theorem State.arm_ethShakes (s : State) (x : T) (i : Nat) (d : Ns) : (s.arm x i d).ethShakes = s.ethShakes := rfl
@[simp] theorem State.arm_ethSessions (s : State) (x : T) (i : Nat) (d : Ns) : (s.arm x i d).ethSessions = s.ethSessions := rfl
@[simp] theorem State.arm_moves (s : State) (x : T) (i : Nat) (d : Ns) : (s.arm x i d).moves = s.moves := rfl
@[simp] theorem State.arm_lockMembers (s : State) (x : T) (i : Nat) (d : Ns) : (s.arm x i d).lockMembers = s.lockMembers := rfl
@[simp] theorem State.arm_lockGroups (s : State) (x : T) (i : Nat) (d : Ns) : (s.arm x i d).lockGroups = s.lockGroups := rfl
@[simp] theorem State.arm_lockTable (s : State) (x : T) (i : Nat) (d : Ns) : (s.arm x i d).lockTable = s.lockTable := rfl
@[simp] theorem State.arm_lockCmds (s : State) (x : T) (i : Nat) (d : Ns) : (s.arm x i d).lockCmds = s.lockCmds := rfl
@[simp] theorem State.arm_lockSum (s : State) (x : T) (i : Nat) (d : Ns) : (s.arm x i d).lockSum = s.lockSum := rfl
@[simp] theorem State.arm_lockHeard (s : State) (x : T) (i : Nat) (d : Ns) : (s.arm x i d).lockHeard = s.lockHeard := rfl
@[simp] theorem State.arm_plans (s : State) (x : T) (i : Nat) (d : Ns) : (s.arm x i d).plans = s.plans := rfl
@[simp] theorem State.arm_coming (s : State) (x : T) (i : Nat) (d : Ns) : (s.arm x i d).coming = s.coming := rfl
@[simp] theorem State.arm_runningPlan (s : State) (x : T) (i : Nat) (d : Ns) : (s.arm x i d).runningPlan = s.runningPlan := rfl
@[simp] theorem State.arm_phases (s : State) (x : T) (i : Nat) (d : Ns) : (s.arm x i d).phases = s.phases := rfl
@[simp] theorem State.arm_engines (s : State) (x : T) (i : Nat) (d : Ns) : (s.arm x i d).engines = s.engines := rfl
@[simp] theorem State.arm_srcs (s : State) (x : T) (i : Nat) (d : Ns) : (s.arm x i d).srcs = s.srcs := rfl
@[simp] theorem State.arm_mail (s : State) (x : T) (i : Nat) (d : Ns) : (s.arm x i d).mail = s.mail := rfl
@[simp] theorem State.arm_progShelf (s : State) (x : T) (i : Nat) (d : Ns) : (s.arm x i d).progShelf = s.progShelf := rfl
@[simp] theorem State.arm_globalOps (s : State) (x : T) (i : Nat) (d : Ns) : (s.arm x i d).globalOps = s.globalOps := rfl
@[simp] theorem State.arm_opResults (s : State) (x : T) (i : Nat) (d : Ns) : (s.arm x i d).opResults = s.opResults := rfl
@[simp] theorem State.arm_snapBufs (s : State) (x : T) (i : Nat) (d : Ns) : (s.arm x i d).snapBufs = s.snapBufs := rfl
@[simp] theorem State.arm_remoteOuts (s : State) (x : T) (i : Nat) (d : Ns) : (s.arm x i d).remoteOuts = s.remoteOuts := rfl
@[simp] theorem State.arm_remoteIns (s : State) (x : T) (i : Nat) (d : Ns) : (s.arm x i d).remoteIns = s.remoteIns := rfl
@[simp] theorem State.arm_opsPassed (s : State) (x : T) (i : Nat) (d : Ns) : (s.arm x i d).opsPassed = s.opsPassed := rfl
@[simp] theorem State.arm_paces (s : State) (x : T) (i : Nat) (d : Ns) : (s.arm x i d).paces = s.paces := rfl
@[simp] theorem State.arm_oldLimits (s : State) (x : T) (i : Nat) (d : Ns) : (s.arm x i d).oldLimits = s.oldLimits := rfl
@[simp] theorem State.arm_therms (s : State) (x : T) (i : Nat) (d : Ns) : (s.arm x i d).therms = s.therms := rfl
@[simp] theorem State.arm_drives (s : State) (x : T) (i : Nat) (d : Ns) : (s.arm x i d).drives = s.drives := rfl
@[simp] theorem State.arm_zones (s : State) (x : T) (i : Nat) (d : Ns) : (s.arm x i d).zones = s.zones := rfl
@[simp] theorem State.arm_branches (s : State) (x : T) (i : Nat) (d : Ns) : (s.arm x i d).branches = s.branches := rfl
@[simp] theorem State.arm_runs (s : State) (x : T) (i : Nat) (d : Ns) : (s.arm x i d).runs = s.runs := rfl
@[simp] theorem State.arm_offRuns (s : State) (x : T) (i : Nat) (d : Ns) : (s.arm x i d).offRuns = s.offRuns := rfl
@[simp] theorem State.arm_starts (s : State) (x : T) (i : Nat) (d : Ns) : (s.arm x i d).starts = s.starts := rfl
@[simp] theorem State.arm_stops (s : State) (x : T) (i : Nat) (d : Ns) : (s.arm x i d).stops = s.stops := rfl
@[simp] theorem State.arm_furls (s : State) (x : T) (i : Nat) (d : Ns) : (s.arm x i d).furls = s.furls := rfl
@[simp] theorem State.arm_furlCmds (s : State) (x : T) (i : Nat) (d : Ns) : (s.arm x i d).furlCmds = s.furlCmds := rfl
@[simp] theorem State.arm_failures (s : State) (x : T) (i : Nat) (d : Ns) : (s.arm x i d).failures = s.failures := rfl
@[simp] theorem State.arm_restarts (s : State) (x : T) (i : Nat) (d : Ns) : (s.arm x i d).restarts = s.restarts := rfl

/-! ### disarm -/

@[simp] theorem State.disarm_now (s : State) (x : T) (i : Nat) : (s.disarm x i).now = s.now := rfl
@[simp] theorem State.disarm_pending (s : State) (x : T) (i : Nat) : (s.disarm x i).pending = s.pending := rfl
@[simp] theorem State.disarm_member (s : State) (x : T) (i : Nat) : (s.disarm x i).member = s.member := rfl
@[simp] theorem State.disarm_draws (s : State) (x : T) (i : Nat) : (s.disarm x i).draws = s.draws := rfl
@[simp] theorem State.disarm_regs (s : State) (x : T) (i : Nat) : (s.disarm x i).regs = s.regs := rfl
@[simp] theorem State.disarm_vars (s : State) (x : T) (i : Nat) : (s.disarm x i).vars = s.vars := rfl
@[simp] theorem State.disarm_lastCsn (s : State) (x : T) (i : Nat) : (s.disarm x i).lastCsn = s.lastCsn := rfl
@[simp] theorem State.disarm_outbox (s : State) (x : T) (i : Nat) : (s.disarm x i).outbox = s.outbox := rfl
@[simp] theorem State.disarm_raised (s : State) (x : T) (i : Nat) : (s.disarm x i).raised = s.raised := rfl
@[simp] theorem State.disarm_sessions (s : State) (x : T) (i : Nat) : (s.disarm x i).sessions = s.sessions := rfl
@[simp] theorem State.disarm_endpoints (s : State) (x : T) (i : Nat) : (s.disarm x i).endpoints = s.endpoints := rfl
@[simp] theorem State.disarm_waiting (s : State) (x : T) (i : Nat) : (s.disarm x i).waiting = s.waiting := rfl
@[simp] theorem State.disarm_served (s : State) (x : T) (i : Nat) : (s.disarm x i).served = s.served := rfl
@[simp] theorem State.disarm_outst (s : State) (x : T) (i : Nat) : (s.disarm x i).outst = s.outst := rfl
@[simp] theorem State.disarm_orphans (s : State) (x : T) (i : Nat) : (s.disarm x i).orphans = s.orphans := rfl
@[simp] theorem State.disarm_handovers (s : State) (x : T) (i : Nat) : (s.disarm x i).handovers = s.handovers := rfl
@[simp] theorem State.disarm_running (s : State) (x : T) (i : Nat) : (s.disarm x i).running = s.running := rfl
@[simp] theorem State.disarm_safetyAdmits (s : State) (x : T) (i : Nat) : (s.disarm x i).safetyAdmits = s.safetyAdmits := rfl
@[simp] theorem State.disarm_safetyLimited (s : State) (x : T) (i : Nat) : (s.disarm x i).safetyLimited = s.safetyLimited := rfl
@[simp] theorem State.disarm_unapplied (s : State) (x : T) (i : Nat) : (s.disarm x i).unapplied = s.unapplied := rfl
@[simp] theorem State.disarm_endings (s : State) (x : T) (i : Nat) : (s.disarm x i).endings = s.endings := rfl
@[simp] theorem State.disarm_cmdCsn (s : State) (x : T) (i : Nat) : (s.disarm x i).cmdCsn = s.cmdCsn := rfl
@[simp] theorem State.disarm_applying (s : State) (x : T) (i : Nat) : (s.disarm x i).applying = s.applying := rfl
@[simp] theorem State.disarm_disagreed (s : State) (x : T) (i : Nat) : (s.disarm x i).disagreed = s.disagreed := rfl
@[simp] theorem State.disarm_resWaits (s : State) (x : T) (i : Nat) : (s.disarm x i).resWaits = s.resWaits := rfl
@[simp] theorem State.disarm_holds (s : State) (x : T) (i : Nat) : (s.disarm x i).holds = s.holds := rfl
@[simp] theorem State.disarm_journal (s : State) (x : T) (i : Nat) : (s.disarm x i).journal = s.journal := rfl
@[simp] theorem State.disarm_log (s : State) (x : T) (i : Nat) : (s.disarm x i).log = s.log := rfl
@[simp] theorem State.disarm_td (s : State) (x : T) (i : Nat) : (s.disarm x i).td = s.td := rfl
@[simp] theorem State.disarm_powerWrites (s : State) (x : T) (i : Nat) : (s.disarm x i).powerWrites = s.powerWrites := rfl
@[simp] theorem State.disarm_norWrites (s : State) (x : T) (i : Nat) : (s.disarm x i).norWrites = s.norWrites := rfl
@[simp] theorem State.disarm_tables (s : State) (x : T) (i : Nat) : (s.disarm x i).tables = s.tables := rfl
@[simp] theorem State.disarm_rails (s : State) (x : T) (i : Nat) : (s.disarm x i).rails = s.rails := rfl
@[simp] theorem State.disarm_domains (s : State) (x : T) (i : Nat) : (s.disarm x i).domains = s.domains := rfl
@[simp] theorem State.disarm_legs (s : State) (x : T) (i : Nat) : (s.disarm x i).legs = s.legs := rfl
@[simp] theorem State.disarm_relays (s : State) (x : T) (i : Nat) : (s.disarm x i).relays = s.relays := rfl
@[simp] theorem State.disarm_links (s : State) (x : T) (i : Nat) : (s.disarm x i).links = s.links := rfl
@[simp] theorem State.disarm_held (s : State) (x : T) (i : Nat) : (s.disarm x i).held = s.held := rfl
@[simp] theorem State.disarm_alertHolds (s : State) (x : T) (i : Nat) : (s.disarm x i).alertHolds = s.alertHolds := rfl
@[simp] theorem State.disarm_hints (s : State) (x : T) (i : Nat) : (s.disarm x i).hints = s.hints := rfl
@[simp] theorem State.disarm_ratPorts (s : State) (x : T) (i : Nat) : (s.disarm x i).ratPorts = s.ratPorts := rfl
@[simp] theorem State.disarm_hearings (s : State) (x : T) (i : Nat) : (s.disarm x i).hearings = s.hearings := rfl
@[simp] theorem State.disarm_nodes (s : State) (x : T) (i : Nat) : (s.disarm x i).nodes = s.nodes := rfl
@[simp] theorem State.disarm_rackMembers (s : State) (x : T) (i : Nat) : (s.disarm x i).rackMembers = s.rackMembers := rfl
@[simp] theorem State.disarm_racks (s : State) (x : T) (i : Nat) : (s.disarm x i).racks = s.racks := rfl
@[simp] theorem State.disarm_pIn (s : State) (x : T) (i : Nat) : (s.disarm x i).pIn = s.pIn := rfl
@[simp] theorem State.disarm_auxHistory (s : State) (x : T) (i : Nat) : (s.disarm x i).auxHistory = s.auxHistory := rfl
@[simp] theorem State.disarm_trayDemands (s : State) (x : T) (i : Nat) : (s.disarm x i).trayDemands = s.trayDemands := rfl
@[simp] theorem State.disarm_fast (s : State) (x : T) (i : Nat) : (s.disarm x i).fast = s.fast := rfl
@[simp] theorem State.disarm_telemetry (s : State) (x : T) (i : Nat) : (s.disarm x i).telemetry = s.telemetry := rfl
@[simp] theorem State.disarm_models (s : State) (x : T) (i : Nat) : (s.disarm x i).models = s.models := rfl
@[simp] theorem State.disarm_fcDoms (s : State) (x : T) (i : Nat) : (s.disarm x i).fcDoms = s.fcDoms := rfl
@[simp] theorem State.disarm_switches (s : State) (x : T) (i : Nat) : (s.disarm x i).switches = s.switches := rfl
@[simp] theorem State.disarm_shelf (s : State) (x : T) (i : Nat) : (s.disarm x i).shelf = s.shelf := rfl
@[simp] theorem State.disarm_nandWrites (s : State) (x : T) (i : Nat) : (s.disarm x i).nandWrites = s.nandWrites := rfl
@[simp] theorem State.disarm_nor (s : State) (x : T) (i : Nat) : (s.disarm x i).nor = s.nor := rfl
@[simp] theorem State.disarm_stage (s : State) (x : T) (i : Nat) : (s.disarm x i).stage = s.stage := rfl
@[simp] theorem State.disarm_descStore (s : State) (x : T) (i : Nat) : (s.disarm x i).descStore = s.descStore := rfl
@[simp] theorem State.disarm_etch (s : State) (x : T) (i : Nat) : (s.disarm x i).etch = s.etch := rfl
@[simp] theorem State.disarm_activation (s : State) (x : T) (i : Nat) : (s.disarm x i).activation = s.activation := rfl
@[simp] theorem State.disarm_roll (s : State) (x : T) (i : Nat) : (s.disarm x i).roll = s.roll := rfl
@[simp] theorem State.disarm_revoking (s : State) (x : T) (i : Nat) : (s.disarm x i).revoking = s.revoking := rfl
@[simp] theorem State.disarm_wakeRec (s : State) (x : T) (i : Nat) : (s.disarm x i).wakeRec = s.wakeRec := rfl
@[simp] theorem State.disarm_points (s : State) (x : T) (i : Nat) : (s.disarm x i).points = s.points := rfl
@[simp] theorem State.disarm_tests (s : State) (x : T) (i : Nat) : (s.disarm x i).tests = s.tests := rfl
@[simp] theorem State.disarm_recorder (s : State) (x : T) (i : Nat) : (s.disarm x i).recorder = s.recorder := rfl
@[simp] theorem State.disarm_stipple (s : State) (x : T) (i : Nat) : (s.disarm x i).stipple = s.stipple := rfl
@[simp] theorem State.disarm_exports (s : State) (x : T) (i : Nat) : (s.disarm x i).exports = s.exports := rfl
@[simp] theorem State.disarm_rowHits (s : State) (x : T) (i : Nat) : (s.disarm x i).rowHits = s.rowHits := rfl
@[simp] theorem State.disarm_ueHits (s : State) (x : T) (i : Nat) : (s.disarm x i).ueHits = s.ueHits := rfl
@[simp] theorem State.disarm_codewords (s : State) (x : T) (i : Nat) : (s.disarm x i).codewords = s.codewords := rfl
@[simp] theorem State.disarm_poison (s : State) (x : T) (i : Nat) : (s.disarm x i).poison = s.poison := rfl
@[simp] theorem State.disarm_buses (s : State) (x : T) (i : Nat) : (s.disarm x i).buses = s.buses := rfl
@[simp] theorem State.disarm_windows (s : State) (x : T) (i : Nat) : (s.disarm x i).windows = s.windows := rfl
@[simp] theorem State.disarm_relayDone (s : State) (x : T) (i : Nat) : (s.disarm x i).relayDone = s.relayDone := rfl
@[simp] theorem State.disarm_ethShakes (s : State) (x : T) (i : Nat) : (s.disarm x i).ethShakes = s.ethShakes := rfl
@[simp] theorem State.disarm_ethSessions (s : State) (x : T) (i : Nat) : (s.disarm x i).ethSessions = s.ethSessions := rfl
@[simp] theorem State.disarm_moves (s : State) (x : T) (i : Nat) : (s.disarm x i).moves = s.moves := rfl
@[simp] theorem State.disarm_lockMembers (s : State) (x : T) (i : Nat) : (s.disarm x i).lockMembers = s.lockMembers := rfl
@[simp] theorem State.disarm_lockGroups (s : State) (x : T) (i : Nat) : (s.disarm x i).lockGroups = s.lockGroups := rfl
@[simp] theorem State.disarm_lockTable (s : State) (x : T) (i : Nat) : (s.disarm x i).lockTable = s.lockTable := rfl
@[simp] theorem State.disarm_lockCmds (s : State) (x : T) (i : Nat) : (s.disarm x i).lockCmds = s.lockCmds := rfl
@[simp] theorem State.disarm_lockSum (s : State) (x : T) (i : Nat) : (s.disarm x i).lockSum = s.lockSum := rfl
@[simp] theorem State.disarm_lockHeard (s : State) (x : T) (i : Nat) : (s.disarm x i).lockHeard = s.lockHeard := rfl
@[simp] theorem State.disarm_plans (s : State) (x : T) (i : Nat) : (s.disarm x i).plans = s.plans := rfl
@[simp] theorem State.disarm_coming (s : State) (x : T) (i : Nat) : (s.disarm x i).coming = s.coming := rfl
@[simp] theorem State.disarm_runningPlan (s : State) (x : T) (i : Nat) : (s.disarm x i).runningPlan = s.runningPlan := rfl
@[simp] theorem State.disarm_phases (s : State) (x : T) (i : Nat) : (s.disarm x i).phases = s.phases := rfl
@[simp] theorem State.disarm_engines (s : State) (x : T) (i : Nat) : (s.disarm x i).engines = s.engines := rfl
@[simp] theorem State.disarm_srcs (s : State) (x : T) (i : Nat) : (s.disarm x i).srcs = s.srcs := rfl
@[simp] theorem State.disarm_mail (s : State) (x : T) (i : Nat) : (s.disarm x i).mail = s.mail := rfl
@[simp] theorem State.disarm_progShelf (s : State) (x : T) (i : Nat) : (s.disarm x i).progShelf = s.progShelf := rfl
@[simp] theorem State.disarm_globalOps (s : State) (x : T) (i : Nat) : (s.disarm x i).globalOps = s.globalOps := rfl
@[simp] theorem State.disarm_opResults (s : State) (x : T) (i : Nat) : (s.disarm x i).opResults = s.opResults := rfl
@[simp] theorem State.disarm_snapBufs (s : State) (x : T) (i : Nat) : (s.disarm x i).snapBufs = s.snapBufs := rfl
@[simp] theorem State.disarm_remoteOuts (s : State) (x : T) (i : Nat) : (s.disarm x i).remoteOuts = s.remoteOuts := rfl
@[simp] theorem State.disarm_remoteIns (s : State) (x : T) (i : Nat) : (s.disarm x i).remoteIns = s.remoteIns := rfl
@[simp] theorem State.disarm_opsPassed (s : State) (x : T) (i : Nat) : (s.disarm x i).opsPassed = s.opsPassed := rfl
@[simp] theorem State.disarm_paces (s : State) (x : T) (i : Nat) : (s.disarm x i).paces = s.paces := rfl
@[simp] theorem State.disarm_oldLimits (s : State) (x : T) (i : Nat) : (s.disarm x i).oldLimits = s.oldLimits := rfl
@[simp] theorem State.disarm_therms (s : State) (x : T) (i : Nat) : (s.disarm x i).therms = s.therms := rfl
@[simp] theorem State.disarm_drives (s : State) (x : T) (i : Nat) : (s.disarm x i).drives = s.drives := rfl
@[simp] theorem State.disarm_zones (s : State) (x : T) (i : Nat) : (s.disarm x i).zones = s.zones := rfl
@[simp] theorem State.disarm_branches (s : State) (x : T) (i : Nat) : (s.disarm x i).branches = s.branches := rfl
@[simp] theorem State.disarm_runs (s : State) (x : T) (i : Nat) : (s.disarm x i).runs = s.runs := rfl
@[simp] theorem State.disarm_offRuns (s : State) (x : T) (i : Nat) : (s.disarm x i).offRuns = s.offRuns := rfl
@[simp] theorem State.disarm_starts (s : State) (x : T) (i : Nat) : (s.disarm x i).starts = s.starts := rfl
@[simp] theorem State.disarm_stops (s : State) (x : T) (i : Nat) : (s.disarm x i).stops = s.stops := rfl
@[simp] theorem State.disarm_furls (s : State) (x : T) (i : Nat) : (s.disarm x i).furls = s.furls := rfl
@[simp] theorem State.disarm_furlCmds (s : State) (x : T) (i : Nat) : (s.disarm x i).furlCmds = s.furlCmds := rfl
@[simp] theorem State.disarm_failures (s : State) (x : T) (i : Nat) : (s.disarm x i).failures = s.failures := rfl
@[simp] theorem State.disarm_restarts (s : State) (x : T) (i : Nat) : (s.disarm x i).restarts = s.restarts := rfl

/-! ### count -/

@[simp] theorem State.count_now (s : State) (p : P) (i : Nat) : (s.count p i).now = s.now := rfl
@[simp] theorem State.count_pending (s : State) (p : P) (i : Nat) : (s.count p i).pending = s.pending := rfl
@[simp] theorem State.count_member (s : State) (p : P) (i : Nat) : (s.count p i).member = s.member := rfl
@[simp] theorem State.count_draws (s : State) (p : P) (i : Nat) : (s.count p i).draws = s.draws := rfl
@[simp] theorem State.count_vars (s : State) (p : P) (i : Nat) : (s.count p i).vars = s.vars := rfl
@[simp] theorem State.count_timers (s : State) (p : P) (i : Nat) : (s.count p i).timers = s.timers := rfl
@[simp] theorem State.count_lastCsn (s : State) (p : P) (i : Nat) : (s.count p i).lastCsn = s.lastCsn := rfl
@[simp] theorem State.count_outbox (s : State) (p : P) (i : Nat) : (s.count p i).outbox = s.outbox := rfl
@[simp] theorem State.count_raised (s : State) (p : P) (i : Nat) : (s.count p i).raised = s.raised := rfl
@[simp] theorem State.count_sessions (s : State) (p : P) (i : Nat) : (s.count p i).sessions = s.sessions := rfl
@[simp] theorem State.count_endpoints (s : State) (p : P) (i : Nat) : (s.count p i).endpoints = s.endpoints := rfl
@[simp] theorem State.count_waiting (s : State) (p : P) (i : Nat) : (s.count p i).waiting = s.waiting := rfl
@[simp] theorem State.count_served (s : State) (p : P) (i : Nat) : (s.count p i).served = s.served := rfl
@[simp] theorem State.count_outst (s : State) (p : P) (i : Nat) : (s.count p i).outst = s.outst := rfl
@[simp] theorem State.count_orphans (s : State) (p : P) (i : Nat) : (s.count p i).orphans = s.orphans := rfl
@[simp] theorem State.count_handovers (s : State) (p : P) (i : Nat) : (s.count p i).handovers = s.handovers := rfl
@[simp] theorem State.count_running (s : State) (p : P) (i : Nat) : (s.count p i).running = s.running := rfl
@[simp] theorem State.count_safetyAdmits (s : State) (p : P) (i : Nat) : (s.count p i).safetyAdmits = s.safetyAdmits := rfl
@[simp] theorem State.count_safetyLimited (s : State) (p : P) (i : Nat) : (s.count p i).safetyLimited = s.safetyLimited := rfl
@[simp] theorem State.count_unapplied (s : State) (p : P) (i : Nat) : (s.count p i).unapplied = s.unapplied := rfl
@[simp] theorem State.count_endings (s : State) (p : P) (i : Nat) : (s.count p i).endings = s.endings := rfl
@[simp] theorem State.count_cmdCsn (s : State) (p : P) (i : Nat) : (s.count p i).cmdCsn = s.cmdCsn := rfl
@[simp] theorem State.count_applying (s : State) (p : P) (i : Nat) : (s.count p i).applying = s.applying := rfl
@[simp] theorem State.count_disagreed (s : State) (p : P) (i : Nat) : (s.count p i).disagreed = s.disagreed := rfl
@[simp] theorem State.count_resWaits (s : State) (p : P) (i : Nat) : (s.count p i).resWaits = s.resWaits := rfl
@[simp] theorem State.count_holds (s : State) (p : P) (i : Nat) : (s.count p i).holds = s.holds := rfl
@[simp] theorem State.count_journal (s : State) (p : P) (i : Nat) : (s.count p i).journal = s.journal := rfl
@[simp] theorem State.count_log (s : State) (p : P) (i : Nat) : (s.count p i).log = s.log := rfl
@[simp] theorem State.count_td (s : State) (p : P) (i : Nat) : (s.count p i).td = s.td := rfl
@[simp] theorem State.count_powerWrites (s : State) (p : P) (i : Nat) : (s.count p i).powerWrites = s.powerWrites := rfl
@[simp] theorem State.count_norWrites (s : State) (p : P) (i : Nat) : (s.count p i).norWrites = s.norWrites := rfl
@[simp] theorem State.count_tables (s : State) (p : P) (i : Nat) : (s.count p i).tables = s.tables := rfl
@[simp] theorem State.count_rails (s : State) (p : P) (i : Nat) : (s.count p i).rails = s.rails := rfl
@[simp] theorem State.count_domains (s : State) (p : P) (i : Nat) : (s.count p i).domains = s.domains := rfl
@[simp] theorem State.count_legs (s : State) (p : P) (i : Nat) : (s.count p i).legs = s.legs := rfl
@[simp] theorem State.count_relays (s : State) (p : P) (i : Nat) : (s.count p i).relays = s.relays := rfl
@[simp] theorem State.count_links (s : State) (p : P) (i : Nat) : (s.count p i).links = s.links := rfl
@[simp] theorem State.count_held (s : State) (p : P) (i : Nat) : (s.count p i).held = s.held := rfl
@[simp] theorem State.count_alertHolds (s : State) (p : P) (i : Nat) : (s.count p i).alertHolds = s.alertHolds := rfl
@[simp] theorem State.count_hints (s : State) (p : P) (i : Nat) : (s.count p i).hints = s.hints := rfl
@[simp] theorem State.count_ratPorts (s : State) (p : P) (i : Nat) : (s.count p i).ratPorts = s.ratPorts := rfl
@[simp] theorem State.count_hearings (s : State) (p : P) (i : Nat) : (s.count p i).hearings = s.hearings := rfl
@[simp] theorem State.count_nodes (s : State) (p : P) (i : Nat) : (s.count p i).nodes = s.nodes := rfl
@[simp] theorem State.count_rackMembers (s : State) (p : P) (i : Nat) : (s.count p i).rackMembers = s.rackMembers := rfl
@[simp] theorem State.count_racks (s : State) (p : P) (i : Nat) : (s.count p i).racks = s.racks := rfl
@[simp] theorem State.count_pIn (s : State) (p : P) (i : Nat) : (s.count p i).pIn = s.pIn := rfl
@[simp] theorem State.count_auxHistory (s : State) (p : P) (i : Nat) : (s.count p i).auxHistory = s.auxHistory := rfl
@[simp] theorem State.count_trayDemands (s : State) (p : P) (i : Nat) : (s.count p i).trayDemands = s.trayDemands := rfl
@[simp] theorem State.count_fast (s : State) (p : P) (i : Nat) : (s.count p i).fast = s.fast := rfl
@[simp] theorem State.count_telemetry (s : State) (p : P) (i : Nat) : (s.count p i).telemetry = s.telemetry := rfl
@[simp] theorem State.count_models (s : State) (p : P) (i : Nat) : (s.count p i).models = s.models := rfl
@[simp] theorem State.count_fcDoms (s : State) (p : P) (i : Nat) : (s.count p i).fcDoms = s.fcDoms := rfl
@[simp] theorem State.count_switches (s : State) (p : P) (i : Nat) : (s.count p i).switches = s.switches := rfl
@[simp] theorem State.count_shelf (s : State) (p : P) (i : Nat) : (s.count p i).shelf = s.shelf := rfl
@[simp] theorem State.count_nandWrites (s : State) (p : P) (i : Nat) : (s.count p i).nandWrites = s.nandWrites := rfl
@[simp] theorem State.count_nor (s : State) (p : P) (i : Nat) : (s.count p i).nor = s.nor := rfl
@[simp] theorem State.count_stage (s : State) (p : P) (i : Nat) : (s.count p i).stage = s.stage := rfl
@[simp] theorem State.count_descStore (s : State) (p : P) (i : Nat) : (s.count p i).descStore = s.descStore := rfl
@[simp] theorem State.count_etch (s : State) (p : P) (i : Nat) : (s.count p i).etch = s.etch := rfl
@[simp] theorem State.count_activation (s : State) (p : P) (i : Nat) : (s.count p i).activation = s.activation := rfl
@[simp] theorem State.count_roll (s : State) (p : P) (i : Nat) : (s.count p i).roll = s.roll := rfl
@[simp] theorem State.count_revoking (s : State) (p : P) (i : Nat) : (s.count p i).revoking = s.revoking := rfl
@[simp] theorem State.count_wakeRec (s : State) (p : P) (i : Nat) : (s.count p i).wakeRec = s.wakeRec := rfl
@[simp] theorem State.count_points (s : State) (p : P) (i : Nat) : (s.count p i).points = s.points := rfl
@[simp] theorem State.count_tests (s : State) (p : P) (i : Nat) : (s.count p i).tests = s.tests := rfl
@[simp] theorem State.count_recorder (s : State) (p : P) (i : Nat) : (s.count p i).recorder = s.recorder := rfl
@[simp] theorem State.count_stipple (s : State) (p : P) (i : Nat) : (s.count p i).stipple = s.stipple := rfl
@[simp] theorem State.count_exports (s : State) (p : P) (i : Nat) : (s.count p i).exports = s.exports := rfl
@[simp] theorem State.count_rowHits (s : State) (p : P) (i : Nat) : (s.count p i).rowHits = s.rowHits := rfl
@[simp] theorem State.count_ueHits (s : State) (p : P) (i : Nat) : (s.count p i).ueHits = s.ueHits := rfl
@[simp] theorem State.count_codewords (s : State) (p : P) (i : Nat) : (s.count p i).codewords = s.codewords := rfl
@[simp] theorem State.count_poison (s : State) (p : P) (i : Nat) : (s.count p i).poison = s.poison := rfl
@[simp] theorem State.count_buses (s : State) (p : P) (i : Nat) : (s.count p i).buses = s.buses := rfl
@[simp] theorem State.count_windows (s : State) (p : P) (i : Nat) : (s.count p i).windows = s.windows := rfl
@[simp] theorem State.count_relayDone (s : State) (p : P) (i : Nat) : (s.count p i).relayDone = s.relayDone := rfl
@[simp] theorem State.count_ethShakes (s : State) (p : P) (i : Nat) : (s.count p i).ethShakes = s.ethShakes := rfl
@[simp] theorem State.count_ethSessions (s : State) (p : P) (i : Nat) : (s.count p i).ethSessions = s.ethSessions := rfl
@[simp] theorem State.count_moves (s : State) (p : P) (i : Nat) : (s.count p i).moves = s.moves := rfl
@[simp] theorem State.count_lockMembers (s : State) (p : P) (i : Nat) : (s.count p i).lockMembers = s.lockMembers := rfl
@[simp] theorem State.count_lockGroups (s : State) (p : P) (i : Nat) : (s.count p i).lockGroups = s.lockGroups := rfl
@[simp] theorem State.count_lockTable (s : State) (p : P) (i : Nat) : (s.count p i).lockTable = s.lockTable := rfl
@[simp] theorem State.count_lockCmds (s : State) (p : P) (i : Nat) : (s.count p i).lockCmds = s.lockCmds := rfl
@[simp] theorem State.count_lockSum (s : State) (p : P) (i : Nat) : (s.count p i).lockSum = s.lockSum := rfl
@[simp] theorem State.count_lockHeard (s : State) (p : P) (i : Nat) : (s.count p i).lockHeard = s.lockHeard := rfl
@[simp] theorem State.count_plans (s : State) (p : P) (i : Nat) : (s.count p i).plans = s.plans := rfl
@[simp] theorem State.count_coming (s : State) (p : P) (i : Nat) : (s.count p i).coming = s.coming := rfl
@[simp] theorem State.count_runningPlan (s : State) (p : P) (i : Nat) : (s.count p i).runningPlan = s.runningPlan := rfl
@[simp] theorem State.count_phases (s : State) (p : P) (i : Nat) : (s.count p i).phases = s.phases := rfl
@[simp] theorem State.count_engines (s : State) (p : P) (i : Nat) : (s.count p i).engines = s.engines := rfl
@[simp] theorem State.count_srcs (s : State) (p : P) (i : Nat) : (s.count p i).srcs = s.srcs := rfl
@[simp] theorem State.count_mail (s : State) (p : P) (i : Nat) : (s.count p i).mail = s.mail := rfl
@[simp] theorem State.count_progShelf (s : State) (p : P) (i : Nat) : (s.count p i).progShelf = s.progShelf := rfl
@[simp] theorem State.count_globalOps (s : State) (p : P) (i : Nat) : (s.count p i).globalOps = s.globalOps := rfl
@[simp] theorem State.count_opResults (s : State) (p : P) (i : Nat) : (s.count p i).opResults = s.opResults := rfl
@[simp] theorem State.count_snapBufs (s : State) (p : P) (i : Nat) : (s.count p i).snapBufs = s.snapBufs := rfl
@[simp] theorem State.count_remoteOuts (s : State) (p : P) (i : Nat) : (s.count p i).remoteOuts = s.remoteOuts := rfl
@[simp] theorem State.count_remoteIns (s : State) (p : P) (i : Nat) : (s.count p i).remoteIns = s.remoteIns := rfl
@[simp] theorem State.count_opsPassed (s : State) (p : P) (i : Nat) : (s.count p i).opsPassed = s.opsPassed := rfl
@[simp] theorem State.count_paces (s : State) (p : P) (i : Nat) : (s.count p i).paces = s.paces := rfl
@[simp] theorem State.count_oldLimits (s : State) (p : P) (i : Nat) : (s.count p i).oldLimits = s.oldLimits := rfl
@[simp] theorem State.count_therms (s : State) (p : P) (i : Nat) : (s.count p i).therms = s.therms := rfl
@[simp] theorem State.count_drives (s : State) (p : P) (i : Nat) : (s.count p i).drives = s.drives := rfl
@[simp] theorem State.count_zones (s : State) (p : P) (i : Nat) : (s.count p i).zones = s.zones := rfl
@[simp] theorem State.count_branches (s : State) (p : P) (i : Nat) : (s.count p i).branches = s.branches := rfl
@[simp] theorem State.count_runs (s : State) (p : P) (i : Nat) : (s.count p i).runs = s.runs := rfl
@[simp] theorem State.count_offRuns (s : State) (p : P) (i : Nat) : (s.count p i).offRuns = s.offRuns := rfl
@[simp] theorem State.count_starts (s : State) (p : P) (i : Nat) : (s.count p i).starts = s.starts := rfl
@[simp] theorem State.count_stops (s : State) (p : P) (i : Nat) : (s.count p i).stops = s.stops := rfl
@[simp] theorem State.count_furls (s : State) (p : P) (i : Nat) : (s.count p i).furls = s.furls := rfl
@[simp] theorem State.count_furlCmds (s : State) (p : P) (i : Nat) : (s.count p i).furlCmds = s.furlCmds := rfl
@[simp] theorem State.count_failures (s : State) (p : P) (i : Nat) : (s.count p i).failures = s.failures := rfl
@[simp] theorem State.count_restarts (s : State) (p : P) (i : Nat) : (s.count p i).restarts = s.restarts := rfl

/-! ### countV -/

@[simp] theorem State.countV_now (s : State) (x : V) (i : Nat) : (s.countV x i).now = s.now := rfl
@[simp] theorem State.countV_pending (s : State) (x : V) (i : Nat) : (s.countV x i).pending = s.pending := rfl
@[simp] theorem State.countV_member (s : State) (x : V) (i : Nat) : (s.countV x i).member = s.member := rfl
@[simp] theorem State.countV_draws (s : State) (x : V) (i : Nat) : (s.countV x i).draws = s.draws := rfl
@[simp] theorem State.countV_regs (s : State) (x : V) (i : Nat) : (s.countV x i).regs = s.regs := rfl
@[simp] theorem State.countV_timers (s : State) (x : V) (i : Nat) : (s.countV x i).timers = s.timers := rfl
@[simp] theorem State.countV_lastCsn (s : State) (x : V) (i : Nat) : (s.countV x i).lastCsn = s.lastCsn := rfl
@[simp] theorem State.countV_outbox (s : State) (x : V) (i : Nat) : (s.countV x i).outbox = s.outbox := rfl
@[simp] theorem State.countV_raised (s : State) (x : V) (i : Nat) : (s.countV x i).raised = s.raised := rfl
@[simp] theorem State.countV_sessions (s : State) (x : V) (i : Nat) : (s.countV x i).sessions = s.sessions := rfl
@[simp] theorem State.countV_endpoints (s : State) (x : V) (i : Nat) : (s.countV x i).endpoints = s.endpoints := rfl
@[simp] theorem State.countV_waiting (s : State) (x : V) (i : Nat) : (s.countV x i).waiting = s.waiting := rfl
@[simp] theorem State.countV_served (s : State) (x : V) (i : Nat) : (s.countV x i).served = s.served := rfl
@[simp] theorem State.countV_outst (s : State) (x : V) (i : Nat) : (s.countV x i).outst = s.outst := rfl
@[simp] theorem State.countV_orphans (s : State) (x : V) (i : Nat) : (s.countV x i).orphans = s.orphans := rfl
@[simp] theorem State.countV_handovers (s : State) (x : V) (i : Nat) : (s.countV x i).handovers = s.handovers := rfl
@[simp] theorem State.countV_running (s : State) (x : V) (i : Nat) : (s.countV x i).running = s.running := rfl
@[simp] theorem State.countV_safetyAdmits (s : State) (x : V) (i : Nat) : (s.countV x i).safetyAdmits = s.safetyAdmits := rfl
@[simp] theorem State.countV_safetyLimited (s : State) (x : V) (i : Nat) : (s.countV x i).safetyLimited = s.safetyLimited := rfl
@[simp] theorem State.countV_unapplied (s : State) (x : V) (i : Nat) : (s.countV x i).unapplied = s.unapplied := rfl
@[simp] theorem State.countV_endings (s : State) (x : V) (i : Nat) : (s.countV x i).endings = s.endings := rfl
@[simp] theorem State.countV_cmdCsn (s : State) (x : V) (i : Nat) : (s.countV x i).cmdCsn = s.cmdCsn := rfl
@[simp] theorem State.countV_applying (s : State) (x : V) (i : Nat) : (s.countV x i).applying = s.applying := rfl
@[simp] theorem State.countV_disagreed (s : State) (x : V) (i : Nat) : (s.countV x i).disagreed = s.disagreed := rfl
@[simp] theorem State.countV_resWaits (s : State) (x : V) (i : Nat) : (s.countV x i).resWaits = s.resWaits := rfl
@[simp] theorem State.countV_holds (s : State) (x : V) (i : Nat) : (s.countV x i).holds = s.holds := rfl
@[simp] theorem State.countV_journal (s : State) (x : V) (i : Nat) : (s.countV x i).journal = s.journal := rfl
@[simp] theorem State.countV_log (s : State) (x : V) (i : Nat) : (s.countV x i).log = s.log := rfl
@[simp] theorem State.countV_td (s : State) (x : V) (i : Nat) : (s.countV x i).td = s.td := rfl
@[simp] theorem State.countV_powerWrites (s : State) (x : V) (i : Nat) : (s.countV x i).powerWrites = s.powerWrites := rfl
@[simp] theorem State.countV_norWrites (s : State) (x : V) (i : Nat) : (s.countV x i).norWrites = s.norWrites := rfl
@[simp] theorem State.countV_tables (s : State) (x : V) (i : Nat) : (s.countV x i).tables = s.tables := rfl
@[simp] theorem State.countV_rails (s : State) (x : V) (i : Nat) : (s.countV x i).rails = s.rails := rfl
@[simp] theorem State.countV_domains (s : State) (x : V) (i : Nat) : (s.countV x i).domains = s.domains := rfl
@[simp] theorem State.countV_legs (s : State) (x : V) (i : Nat) : (s.countV x i).legs = s.legs := rfl
@[simp] theorem State.countV_relays (s : State) (x : V) (i : Nat) : (s.countV x i).relays = s.relays := rfl
@[simp] theorem State.countV_links (s : State) (x : V) (i : Nat) : (s.countV x i).links = s.links := rfl
@[simp] theorem State.countV_held (s : State) (x : V) (i : Nat) : (s.countV x i).held = s.held := rfl
@[simp] theorem State.countV_alertHolds (s : State) (x : V) (i : Nat) : (s.countV x i).alertHolds = s.alertHolds := rfl
@[simp] theorem State.countV_hints (s : State) (x : V) (i : Nat) : (s.countV x i).hints = s.hints := rfl
@[simp] theorem State.countV_ratPorts (s : State) (x : V) (i : Nat) : (s.countV x i).ratPorts = s.ratPorts := rfl
@[simp] theorem State.countV_hearings (s : State) (x : V) (i : Nat) : (s.countV x i).hearings = s.hearings := rfl
@[simp] theorem State.countV_nodes (s : State) (x : V) (i : Nat) : (s.countV x i).nodes = s.nodes := rfl
@[simp] theorem State.countV_rackMembers (s : State) (x : V) (i : Nat) : (s.countV x i).rackMembers = s.rackMembers := rfl
@[simp] theorem State.countV_racks (s : State) (x : V) (i : Nat) : (s.countV x i).racks = s.racks := rfl
@[simp] theorem State.countV_pIn (s : State) (x : V) (i : Nat) : (s.countV x i).pIn = s.pIn := rfl
@[simp] theorem State.countV_auxHistory (s : State) (x : V) (i : Nat) : (s.countV x i).auxHistory = s.auxHistory := rfl
@[simp] theorem State.countV_trayDemands (s : State) (x : V) (i : Nat) : (s.countV x i).trayDemands = s.trayDemands := rfl
@[simp] theorem State.countV_fast (s : State) (x : V) (i : Nat) : (s.countV x i).fast = s.fast := rfl
@[simp] theorem State.countV_telemetry (s : State) (x : V) (i : Nat) : (s.countV x i).telemetry = s.telemetry := rfl
@[simp] theorem State.countV_models (s : State) (x : V) (i : Nat) : (s.countV x i).models = s.models := rfl
@[simp] theorem State.countV_fcDoms (s : State) (x : V) (i : Nat) : (s.countV x i).fcDoms = s.fcDoms := rfl
@[simp] theorem State.countV_switches (s : State) (x : V) (i : Nat) : (s.countV x i).switches = s.switches := rfl
@[simp] theorem State.countV_shelf (s : State) (x : V) (i : Nat) : (s.countV x i).shelf = s.shelf := rfl
@[simp] theorem State.countV_nandWrites (s : State) (x : V) (i : Nat) : (s.countV x i).nandWrites = s.nandWrites := rfl
@[simp] theorem State.countV_nor (s : State) (x : V) (i : Nat) : (s.countV x i).nor = s.nor := rfl
@[simp] theorem State.countV_stage (s : State) (x : V) (i : Nat) : (s.countV x i).stage = s.stage := rfl
@[simp] theorem State.countV_descStore (s : State) (x : V) (i : Nat) : (s.countV x i).descStore = s.descStore := rfl
@[simp] theorem State.countV_etch (s : State) (x : V) (i : Nat) : (s.countV x i).etch = s.etch := rfl
@[simp] theorem State.countV_activation (s : State) (x : V) (i : Nat) : (s.countV x i).activation = s.activation := rfl
@[simp] theorem State.countV_roll (s : State) (x : V) (i : Nat) : (s.countV x i).roll = s.roll := rfl
@[simp] theorem State.countV_revoking (s : State) (x : V) (i : Nat) : (s.countV x i).revoking = s.revoking := rfl
@[simp] theorem State.countV_wakeRec (s : State) (x : V) (i : Nat) : (s.countV x i).wakeRec = s.wakeRec := rfl
@[simp] theorem State.countV_points (s : State) (x : V) (i : Nat) : (s.countV x i).points = s.points := rfl
@[simp] theorem State.countV_tests (s : State) (x : V) (i : Nat) : (s.countV x i).tests = s.tests := rfl
@[simp] theorem State.countV_recorder (s : State) (x : V) (i : Nat) : (s.countV x i).recorder = s.recorder := rfl
@[simp] theorem State.countV_stipple (s : State) (x : V) (i : Nat) : (s.countV x i).stipple = s.stipple := rfl
@[simp] theorem State.countV_exports (s : State) (x : V) (i : Nat) : (s.countV x i).exports = s.exports := rfl
@[simp] theorem State.countV_rowHits (s : State) (x : V) (i : Nat) : (s.countV x i).rowHits = s.rowHits := rfl
@[simp] theorem State.countV_ueHits (s : State) (x : V) (i : Nat) : (s.countV x i).ueHits = s.ueHits := rfl
@[simp] theorem State.countV_codewords (s : State) (x : V) (i : Nat) : (s.countV x i).codewords = s.codewords := rfl
@[simp] theorem State.countV_poison (s : State) (x : V) (i : Nat) : (s.countV x i).poison = s.poison := rfl
@[simp] theorem State.countV_buses (s : State) (x : V) (i : Nat) : (s.countV x i).buses = s.buses := rfl
@[simp] theorem State.countV_windows (s : State) (x : V) (i : Nat) : (s.countV x i).windows = s.windows := rfl
@[simp] theorem State.countV_relayDone (s : State) (x : V) (i : Nat) : (s.countV x i).relayDone = s.relayDone := rfl
@[simp] theorem State.countV_ethShakes (s : State) (x : V) (i : Nat) : (s.countV x i).ethShakes = s.ethShakes := rfl
@[simp] theorem State.countV_ethSessions (s : State) (x : V) (i : Nat) : (s.countV x i).ethSessions = s.ethSessions := rfl
@[simp] theorem State.countV_moves (s : State) (x : V) (i : Nat) : (s.countV x i).moves = s.moves := rfl
@[simp] theorem State.countV_lockMembers (s : State) (x : V) (i : Nat) : (s.countV x i).lockMembers = s.lockMembers := rfl
@[simp] theorem State.countV_lockGroups (s : State) (x : V) (i : Nat) : (s.countV x i).lockGroups = s.lockGroups := rfl
@[simp] theorem State.countV_lockTable (s : State) (x : V) (i : Nat) : (s.countV x i).lockTable = s.lockTable := rfl
@[simp] theorem State.countV_lockCmds (s : State) (x : V) (i : Nat) : (s.countV x i).lockCmds = s.lockCmds := rfl
@[simp] theorem State.countV_lockSum (s : State) (x : V) (i : Nat) : (s.countV x i).lockSum = s.lockSum := rfl
@[simp] theorem State.countV_lockHeard (s : State) (x : V) (i : Nat) : (s.countV x i).lockHeard = s.lockHeard := rfl
@[simp] theorem State.countV_plans (s : State) (x : V) (i : Nat) : (s.countV x i).plans = s.plans := rfl
@[simp] theorem State.countV_coming (s : State) (x : V) (i : Nat) : (s.countV x i).coming = s.coming := rfl
@[simp] theorem State.countV_runningPlan (s : State) (x : V) (i : Nat) : (s.countV x i).runningPlan = s.runningPlan := rfl
@[simp] theorem State.countV_phases (s : State) (x : V) (i : Nat) : (s.countV x i).phases = s.phases := rfl
@[simp] theorem State.countV_engines (s : State) (x : V) (i : Nat) : (s.countV x i).engines = s.engines := rfl
@[simp] theorem State.countV_srcs (s : State) (x : V) (i : Nat) : (s.countV x i).srcs = s.srcs := rfl
@[simp] theorem State.countV_mail (s : State) (x : V) (i : Nat) : (s.countV x i).mail = s.mail := rfl
@[simp] theorem State.countV_progShelf (s : State) (x : V) (i : Nat) : (s.countV x i).progShelf = s.progShelf := rfl
@[simp] theorem State.countV_globalOps (s : State) (x : V) (i : Nat) : (s.countV x i).globalOps = s.globalOps := rfl
@[simp] theorem State.countV_opResults (s : State) (x : V) (i : Nat) : (s.countV x i).opResults = s.opResults := rfl
@[simp] theorem State.countV_snapBufs (s : State) (x : V) (i : Nat) : (s.countV x i).snapBufs = s.snapBufs := rfl
@[simp] theorem State.countV_remoteOuts (s : State) (x : V) (i : Nat) : (s.countV x i).remoteOuts = s.remoteOuts := rfl
@[simp] theorem State.countV_remoteIns (s : State) (x : V) (i : Nat) : (s.countV x i).remoteIns = s.remoteIns := rfl
@[simp] theorem State.countV_opsPassed (s : State) (x : V) (i : Nat) : (s.countV x i).opsPassed = s.opsPassed := rfl
@[simp] theorem State.countV_paces (s : State) (x : V) (i : Nat) : (s.countV x i).paces = s.paces := rfl
@[simp] theorem State.countV_oldLimits (s : State) (x : V) (i : Nat) : (s.countV x i).oldLimits = s.oldLimits := rfl
@[simp] theorem State.countV_therms (s : State) (x : V) (i : Nat) : (s.countV x i).therms = s.therms := rfl
@[simp] theorem State.countV_drives (s : State) (x : V) (i : Nat) : (s.countV x i).drives = s.drives := rfl
@[simp] theorem State.countV_zones (s : State) (x : V) (i : Nat) : (s.countV x i).zones = s.zones := rfl
@[simp] theorem State.countV_branches (s : State) (x : V) (i : Nat) : (s.countV x i).branches = s.branches := rfl
@[simp] theorem State.countV_runs (s : State) (x : V) (i : Nat) : (s.countV x i).runs = s.runs := rfl
@[simp] theorem State.countV_offRuns (s : State) (x : V) (i : Nat) : (s.countV x i).offRuns = s.offRuns := rfl
@[simp] theorem State.countV_starts (s : State) (x : V) (i : Nat) : (s.countV x i).starts = s.starts := rfl
@[simp] theorem State.countV_stops (s : State) (x : V) (i : Nat) : (s.countV x i).stops = s.stops := rfl
@[simp] theorem State.countV_furls (s : State) (x : V) (i : Nat) : (s.countV x i).furls = s.furls := rfl
@[simp] theorem State.countV_furlCmds (s : State) (x : V) (i : Nat) : (s.countV x i).furlCmds = s.furlCmds := rfl
@[simp] theorem State.countV_failures (s : State) (x : V) (i : Nat) : (s.countV x i).failures = s.failures := rfl
@[simp] theorem State.countV_restarts (s : State) (x : V) (i : Nat) : (s.countV x i).restarts = s.restarts := rfl

/-! ### Reading after a write -/

theorem State.tick_now (s : State) (t : Ns) : (s.tick t).now = max s.now t := rfl
@[simp] theorem State.send_outbox (s : State) (m : Msg) : (s.send m).outbox = s.outbox ++ [m] := rfl

@[simp] theorem State.get_tick (s : State) (t : Ns) (p : P) (i : Nat) : (s.tick t).get p i = s.get p i := rfl
@[simp] theorem State.var_tick (s : State) (t : Ns) (x : V) (i : Nat) : (s.tick t).var x i = s.var x i := rfl
@[simp] theorem State.timer_tick (s : State) (t : Ns) (x : T) (i : Nat) : (s.tick t).timer x i = s.timer x i := rfl
@[simp] theorem State.get_send (s : State) (m : Msg) (p : P) (i : Nat) : (s.send m).get p i = s.get p i := rfl
@[simp] theorem State.var_send (s : State) (m : Msg) (x : V) (i : Nat) : (s.send m).var x i = s.var x i := rfl
@[simp] theorem State.timer_send (s : State) (m : Msg) (x : T) (i : Nat) : (s.send m).timer x i = s.timer x i := rfl
@[simp] theorem State.get_setV (s : State) (x : V) (j : Nat) (v : Int) (p : P) (i : Nat) : (s.setV x j v).get p i = s.get p i := rfl
@[simp] theorem State.timer_setV (s : State) (x : V) (j : Nat) (v : Int) (y : T) (i : Nat) : (s.setV x j v).timer y i = s.timer y i := rfl
@[simp] theorem State.var_put (s : State) (p : P) (j : Nat) (v : Int) (x : V) (i : Nat) : (s.put p j v).var x i = s.var x i := rfl
@[simp] theorem State.timer_put (s : State) (p : P) (j : Nat) (v : Int) (x : T) (i : Nat) : (s.put p j v).timer x i = s.timer x i := rfl
@[simp] theorem State.get_setT (s : State) (x : T) (j : Nat) (v : Option Ns) (p : P) (i : Nat) : (s.setT x j v).get p i = s.get p i := rfl
@[simp] theorem State.var_setT (s : State) (x : T) (j : Nat) (v : Option Ns) (y : V) (i : Nat) : (s.setT x j v).var y i = s.var y i := rfl
@[simp] theorem State.get_arm (s : State) (x : T) (j : Nat) (d : Ns) (p : P) (i : Nat) : (s.arm x j d).get p i = s.get p i := rfl
@[simp] theorem State.var_arm (s : State) (x : T) (j : Nat) (d : Ns) (y : V) (i : Nat) : (s.arm x j d).var y i = s.var y i := rfl
@[simp] theorem State.get_disarm (s : State) (x : T) (j : Nat) (p : P) (i : Nat) : (s.disarm x j).get p i = s.get p i := rfl
@[simp] theorem State.var_disarm (s : State) (x : T) (j : Nat) (y : V) (i : Nat) : (s.disarm x j).var y i = s.var y i := rfl
@[simp] theorem State.var_count (s : State) (p : P) (j : Nat) (y : V) (i : Nat) : (s.count p j).var y i = s.var y i := rfl
@[simp] theorem State.timer_count (s : State) (p : P) (j : Nat) (y : T) (i : Nat) : (s.count p j).timer y i = s.timer y i := rfl
@[simp] theorem State.get_countV (s : State) (x : V) (j : Nat) (p : P) (i : Nat) : (s.countV x j).get p i = s.get p i := rfl

/-- The codes of the registers' names keep them apart. -/
theorem P.code_inj {p q : P} (h : p.ctorIdx = q.ctorIdx) : p = q := by
  have hp := P.ofNat_ctorIdx p
  rw [h, P.ofNat_ctorIdx q] at hp
  exact hp.symm

theorem V.code_inj {p q : V} (h : p.ctorIdx = q.ctorIdx) : p = q := by
  have hp := V.ofNat_ctorIdx p
  rw [h, V.ofNat_ctorIdx q] at hp
  exact hp.symm

theorem T.code_inj {p q : T} (h : p.ctorIdx = q.ctorIdx) : p = q := by
  have hp := T.ofNat_ctorIdx p
  rw [h, T.ofNat_ctorIdx q] at hp
  exact hp.symm

/-- A property reads as what was written last. -/
@[simp] theorem State.get_put (s : State) (p q : P) (i j : Nat) (v : Int) :
    (s.put p i v).get q j = if p = q ∧ i = j then v else s.get q j := by
  unfold State.get State.put
  by_cases h : p = q
  · subst h; by_cases h2 : i = j
    · subst h2; simp
    · simp [h2]
  · have : p.ctorIdx ≠ q.ctorIdx := fun e => h (P.code_inj e)
    simp [this, h]

/-- A hidden register reads as what was written last. -/
@[simp] theorem State.var_setV (s : State) (p q : V) (i j : Nat) (v : Int) :
    (s.setV p i v).var q j = if p = q ∧ i = j then v else s.var q j := by
  unfold State.var State.setV
  by_cases h : p = q
  · subst h; by_cases h2 : i = j
    · subst h2; simp
    · simp [h2]
  · have : p.ctorIdx ≠ q.ctorIdx := fun e => h (V.code_inj e)
    simp [this, h]

/-- A timer is due when it was set last. -/
@[simp] theorem State.timer_setT (s : State) (p q : T) (i j : Nat) (v : Option Ns) :
    (s.setT p i v).timer q j = if p = q ∧ i = j then v else s.timer q j := by
  unfold State.timer State.setT
  by_cases h : p = q
  · subst h; by_cases h2 : i = j
    · subst h2; simp
    · simp [h2]
  · have : p.ctorIdx ≠ q.ctorIdx := fun e => h (T.code_inj e)
    simp [this, h]

@[simp] theorem State.timer_arm (s : State) (p q : T) (i j : Nat) (d : Ns) :
    (s.arm p i d).timer q j = if p = q ∧ i = j then some (s.now + d) else s.timer q j := by
  simp [State.arm]

@[simp] theorem State.timer_disarm (s : State) (p q : T) (i j : Nat) :
    (s.disarm p i).timer q j = if p = q ∧ i = j then none else s.timer q j := by
  simp [State.disarm]

@[simp] theorem State.get_count (s : State) (p q : P) (i j : Nat) :
    (s.count p i).get q j = if p = q ∧ i = j then min (s.get p i + 1) 4294967295 else s.get q j := by
  simp [State.count]

@[simp] theorem State.var_countV (s : State) (p q : V) (i j : Nat) :
    (s.countV p i).var q j = if p = q ∧ i = j then s.var p i + 1 else s.var q j := by
  simp [State.countV]

end Sys2Proof.Machine
end

