-- ==== Sys2Proof/Laws/Events.lean ====
section
/-! SUPPORT. What the shared operations (events, the journal, outcomes, sending) leave of the registers: everything but the few each names. -/

set_option linter.unreachableTactic false
set_option linter.unusedTactic false
set_option linter.unusedSimpArgs false

namespace Sys2Proof.Machine

/-- Reading a register, timer or hidden register from the tables alone. -/
def regAt (r : Tab (Tab Int)) (p : P) (i : Nat) : Int := (r.get {} p.ctorIdx).get (p.dfltAt i) i
def varAt (r : Tab (Tab Int)) (x : V) (i : Nat) : Int := (r.get {} x.ctorIdx).get x.dflt i
def timerAt (r : Tab (Tab (Option Ns))) (x : T) (i : Nat) : Option Ns := (r.get {} x.ctorIdx).get none i

theorem State.get_eq (s : State) (p : P) (i : Nat) : s.get p i = regAt s.regs p i := rfl
theorem State.var_eq (s : State) (x : V) (i : Nat) : s.var x i = varAt s.vars x i := rfl
theorem State.timer_eq (s : State) (x : T) (i : Nat) : s.timer x i = timerAt s.timers x i := rfl

theorem State.each_eq {α β : Type} (g : State → β) (f : State → α → State) (h : ∀ s x, g (f s x) = g s) (s : State) (l : List α) :
    g (s.each l f) = g s := by
  unfold State.each
  induction l generalizing s with
  | nil => rfl
  | cons a l ih => rw [List.foldl_cons, ih, h]

theorem State.when_eq {β : Type} (g : State → β) (f : State → State) (s : State) (c : Bool) (h : g (f s) = g s) :
    g (s.when c f) = g s := by
  unfold State.when; split
  · exact h
  · rfl

@[simp] theorem State.get_when (s : State) (c : Bool) (f : State → State) (p : P) (i : Nat) :
    (s.when c f).get p i = if c then (f s).get p i else s.get p i := by
  unfold State.when; split <;> rfl
@[simp] theorem State.var_when (s : State) (c : Bool) (f : State → State) (x : V) (i : Nat) :
    (s.when c f).var x i = if c then (f s).var x i else s.var x i := by
  unfold State.when; split <;> rfl
@[simp] theorem State.timer_when (s : State) (c : Bool) (f : State → State) (x : T) (i : Nat) :
    (s.when c f).timer x i = if c then (f s).timer x i else s.timer x i := by
  unfold State.when; split <;> rfl
@[simp] theorem State.now_when (s : State) (c : Bool) (f : State → State) : (s.when c f).now = if c then (f s).now else s.now := by
  unfold State.when; split <;> rfl

@[simp] theorem State.timer_armOnce (s : State) (x y : T) (i j : Nat) (d : Ns) (h : x ≠ y) :
    (s.armOnce x i d).timer y j = s.timer y j := by
  unfold State.armOnce; split <;> simp [h]

@[simp] theorem State.get_armOnce (s : State) (x : T) (j : Nat) (d : Ns) (p : P) (i : Nat) : (s.armOnce x j d).get p i = s.get p i := by
  unfold State.armOnce; split <;> simp

@[simp] theorem State.var_armOnce (s : State) (x : T) (j : Nat) (d : Ns) (y : V) (i : Nat) : (s.armOnce x j d).var y i = s.var y i := by
  unfold State.armOnce; split <;> simp

@[simp] theorem State.now_armOnce (s : State) (x : T) (j : Nat) (d : Ns) : (s.armOnce x j d).now = s.now := by
  unfold State.armOnce; split <;> simp

@[simp] theorem State.get_modSession (s : State) (k : Nat) (f : Session → Session) (p : P) (i : Nat) : (s.modSession k f).get p i = s.get p i := rfl

@[simp] theorem State.var_modSession (s : State) (k : Nat) (f : Session → Session) (y : V) (i : Nat) : (s.modSession k f).var y i = s.var y i := rfl

@[simp] theorem State.timer_modSession (s : State) (k : Nat) (f : Session → Session) (y : T) (i : Nat) : (s.modSession k f).timer y i = s.timer y i := rfl

@[simp] theorem State.now_modSession (s : State) (k : Nat) (f : Session → Session) : (s.modSession k f).now = s.now := rfl

@[simp] theorem State.get_modEndpoint (s : State) (k : Nat) (f : Endpoint → Endpoint) (p : P) (i : Nat) : (s.modEndpoint k f).get p i = s.get p i := rfl

@[simp] theorem State.var_modEndpoint (s : State) (k : Nat) (f : Endpoint → Endpoint) (y : V) (i : Nat) : (s.modEndpoint k f).var y i = s.var y i := rfl

@[simp] theorem State.timer_modEndpoint (s : State) (k : Nat) (f : Endpoint → Endpoint) (y : T) (i : Nat) : (s.modEndpoint k f).timer y i = s.timer y i := rfl

@[simp] theorem State.now_modEndpoint (s : State) (k : Nat) (f : Endpoint → Endpoint) : (s.modEndpoint k f).now = s.now := rfl

@[simp] theorem State.get_modQp (s : State) (k q : Nat) (f : QueuePair → QueuePair) (p : P) (i : Nat) : (s.modQp k q f).get p i = s.get p i := rfl

@[simp] theorem State.var_modQp (s : State) (k q : Nat) (f : QueuePair → QueuePair) (y : V) (i : Nat) : (s.modQp k q f).var y i = s.var y i := rfl

@[simp] theorem State.timer_modQp (s : State) (k q : Nat) (f : QueuePair → QueuePair) (y : T) (i : Nat) : (s.modQp k q f).timer y i = s.timer y i := rfl

@[simp] theorem State.now_modQp (s : State) (k q : Nat) (f : QueuePair → QueuePair) : (s.modQp k q f).now = s.now := rfl

@[simp] theorem State.get_modLink (s : State) (k : Nat) (f : Link → Link) (p : P) (i : Nat) : (s.modLink k f).get p i = s.get p i := rfl

@[simp] theorem State.var_modLink (s : State) (k : Nat) (f : Link → Link) (y : V) (i : Nat) : (s.modLink k f).var y i = s.var y i := rfl

@[simp] theorem State.timer_modLink (s : State) (k : Nat) (f : Link → Link) (y : T) (i : Nat) : (s.modLink k f).timer y i = s.timer y i := rfl

@[simp] theorem State.now_modLink (s : State) (k : Nat) (f : Link → Link) : (s.modLink k f).now = s.now := rfl

@[simp] theorem State.get_signal (s : State) (k v : Nat) (p : P) (i : Nat) : (s.signal k v).get p i = s.get p i := by
  unfold State.signal
  repeat' first
    | rfl
    | (simp; done)
    | rw [State.each_eq (fun s => s.get p i)]
    | rw [State.when_eq (fun s => s.get p i)]
    | split
    | intro _

@[simp] theorem State.var_signal (s : State) (k v : Nat) (y : V) (i : Nat) : (s.signal k v).var y i = s.var y i := by
  unfold State.signal
  repeat' first
    | rfl
    | (simp; done)
    | rw [State.each_eq (fun s => s.var y i)]
    | rw [State.when_eq (fun s => s.var y i)]
    | split
    | intro _

@[simp] theorem State.timer_signal (s : State) (k v : Nat) (y : T) (i : Nat) : (s.signal k v).timer y i = s.timer y i := by
  unfold State.signal
  repeat' first
    | rfl
    | (simp; done)
    | rw [State.each_eq (fun s => s.timer y i)]
    | rw [State.when_eq (fun s => s.timer y i)]
    | split
    | intro _

@[simp] theorem State.now_signal (s : State) (k v : Nat) : (s.signal k v).now = s.now := by
  unfold State.signal
  repeat' first
    | rfl
    | (simp; done)
    | rw [State.each_eq (fun s => s.now)]
    | rw [State.when_eq (fun s => s.now)]
    | split
    | intro _

@[simp] theorem State.get_deliver (s : State) (k : Nat) (r : EventRec) (p : P) (i : Nat) : (s.deliver k r).get p i = s.get p i := by
  unfold State.deliver
  dsimp only
  repeat' first
    | rfl
    | (simp; done)
    | rw [State.each_eq (fun s => s.get p i)]
    | rw [State.when_eq (fun s => s.get p i)]
    | split
    | intro _

@[simp] theorem State.var_deliver (s : State) (k : Nat) (r : EventRec) (y : V) (i : Nat) : (s.deliver k r).var y i = s.var y i := by
  unfold State.deliver
  dsimp only
  repeat' first
    | rfl
    | (simp; done)
    | rw [State.each_eq (fun s => s.var y i)]
    | rw [State.when_eq (fun s => s.var y i)]
    | split
    | intro _

@[simp] theorem State.timer_deliver (s : State) (k : Nat) (r : EventRec) (y : T) (i : Nat) (h0 : T.eventNotice ≠ y) : (s.deliver k r).timer y i = s.timer y i := by
  unfold State.deliver
  dsimp only
  split
  · rfl
  · split
    · simp
    · split <;> simp [h0]

@[simp] theorem State.now_deliver (s : State) (k : Nat) (r : EventRec) : (s.deliver k r).now = s.now := by
  unfold State.deliver
  dsimp only
  repeat' first
    | rfl
    | (simp; done)
    | rw [State.each_eq (fun s => s.now)]
    | rw [State.when_eq (fun s => s.now)]
    | split
    | intro _

@[simp] theorem State.get_postTo (s : State) (r : EventRec) (k : Nat) (p : P) (i : Nat) : (s.postTo r k).get p i = s.get p i := by
  unfold State.postTo
  dsimp only
  repeat' first
    | rfl
    | (simp; done)
    | rw [State.each_eq (fun s => s.get p i)]
    | rw [State.when_eq (fun s => s.get p i)]
    | split
    | intro _

@[simp] theorem State.var_postTo (s : State) (r : EventRec) (k : Nat) (y : V) (i : Nat) : (s.postTo r k).var y i = s.var y i := by
  unfold State.postTo
  dsimp only
  repeat' first
    | rfl
    | (simp; done)
    | rw [State.each_eq (fun s => s.var y i)]
    | rw [State.when_eq (fun s => s.var y i)]
    | split
    | intro _

@[simp] theorem State.timer_postTo (s : State) (r : EventRec) (k : Nat) (y : T) (i : Nat) (h0 : T.eventNotice ≠ y) : (s.postTo r k).timer y i = s.timer y i := by
  unfold State.postTo
  dsimp only
  repeat' first
    | rfl
    | (simp [h0]; done)
    | rw [State.each_eq (fun s => s.timer y i)]
    | rw [State.when_eq (fun s => s.timer y i)]
    | split
    | intro _

@[simp] theorem State.now_postTo (s : State) (r : EventRec) (k : Nat) : (s.postTo r k).now = s.now := by
  unfold State.postTo
  dsimp only
  repeat' first
    | rfl
    | (simp; done)
    | rw [State.each_eq (fun s => s.now)]
    | rw [State.when_eq (fun s => s.now)]
    | split
    | intro _

@[simp] theorem State.get_logAdd (s : State) (r : LogRec) (p : P) (i : Nat) : (s.logAdd r).get p i = s.get p i := by
  unfold State.logAdd; split <;> rfl

@[simp] theorem State.var_logAdd (s : State) (r : LogRec) (y : V) (i : Nat) : (s.logAdd r).var y i = s.var y i := by
  unfold State.logAdd; split <;> rfl

@[simp] theorem State.timer_logAdd (s : State) (r : LogRec) (y : T) (i : Nat) : (s.logAdd r).timer y i = s.timer y i := by
  unfold State.logAdd; split <;> rfl

@[simp] theorem State.now_logAdd (s : State) (r : LogRec) : (s.logAdd r).now = s.now := by
  unfold State.logAdd; split <;> simp

@[simp] theorem State.get_raiseRec (s : State) (r : EventRec) (dest : List Nat) (only quiet : Bool) (p : P) (i : Nat) : (s.raiseRec r dest only quiet).get p i = s.get p i := by
  unfold State.raiseRec
  dsimp only
  repeat' first
    | rfl
    | (simp; done)
    | rw [State.each_eq (fun s => s.get p i)]
    | rw [State.when_eq (fun s => s.get p i)]
    | split
    | intro _

@[simp] theorem State.var_raiseRec (s : State) (r : EventRec) (dest : List Nat) (only quiet : Bool) (y : V) (i : Nat) : (s.raiseRec r dest only quiet).var y i = s.var y i := by
  unfold State.raiseRec
  dsimp only
  repeat' first
    | rfl
    | (simp; done)
    | rw [State.each_eq (fun s => s.var y i)]
    | rw [State.when_eq (fun s => s.var y i)]
    | split
    | intro _

@[simp] theorem State.timer_raiseRec (s : State) (r : EventRec) (dest : List Nat) (only quiet : Bool) (y : T) (i : Nat) (h0 : T.eventNotice ≠ y) : (s.raiseRec r dest only quiet).timer y i = s.timer y i := by
  unfold State.raiseRec
  dsimp only
  repeat' first
    | rfl
    | (simp [h0]; done)
    | rw [State.each_eq (fun s => s.timer y i)]
    | rw [State.when_eq (fun s => s.timer y i)]
    | split
    | intro _

@[simp] theorem State.now_raiseRec (s : State) (r : EventRec) (dest : List Nat) (only quiet : Bool) : (s.raiseRec r dest only quiet).now = s.now := by
  unfold State.raiseRec
  dsimp only
  repeat' first
    | rfl
    | (simp; done)
    | rw [State.each_eq (fun s => s.now)]
    | rw [State.when_eq (fun s => s.now)]
    | split
    | intro _

@[simp] theorem State.get_raiseTo (s : State) (e : Ev) (src : ObjId) (l : List Int) (sf : Bool) (st : Ns) (dest : List Nat) (only : Bool) (p : P) (i : Nat) : (s.raiseTo e src l sf st dest only).get p i = s.get p i := by simp [State.raiseTo]

@[simp] theorem State.var_raiseTo (s : State) (e : Ev) (src : ObjId) (l : List Int) (sf : Bool) (st : Ns) (dest : List Nat) (only : Bool) (y : V) (i : Nat) : (s.raiseTo e src l sf st dest only).var y i = s.var y i := by simp [State.raiseTo]

@[simp] theorem State.timer_raiseTo (s : State) (e : Ev) (src : ObjId) (l : List Int) (sf : Bool) (st : Ns) (dest : List Nat) (only : Bool) (y : T) (i : Nat) (h0 : T.eventNotice ≠ y) : (s.raiseTo e src l sf st dest only).timer y i = s.timer y i := by simp [State.raiseTo, h0]

@[simp] theorem State.now_raiseTo (s : State) (e : Ev) (src : ObjId) (l : List Int) (sf : Bool) (st : Ns) (dest : List Nat) (only : Bool) : (s.raiseTo e src l sf st dest only).now = s.now := by simp [State.raiseTo]

@[simp] theorem State.get_recTrigger (s : State) (n : Nat) (st post : Ns) (p : P) (i : Nat) (h0 : P.recState ≠ p) : (s.recTrigger n st post).get p i = s.get p i := by
  unfold State.recTrigger
  dsimp only
  split
  · simp [h0]
    simp only [State.get_eq]; simp [← State.get_eq, h0]
  · split
    · simp only [State.get_eq]; simp [← State.get_eq, h0]
    · rfl

@[simp] theorem State.var_recTrigger (s : State) (n : Nat) (st post : Ns) (y : V) (i : Nat) (h0 : V.recTriggers ≠ y) : (s.recTrigger n st post).var y i = s.var y i := by
  unfold State.recTrigger
  dsimp only
  split
  · simp [h0]
    simp only [State.var_eq]; simp [← State.var_eq, h0]
  · split
    · simp only [State.var_eq]; simp [← State.var_eq, h0]
    · rfl

@[simp] theorem State.timer_recTrigger (s : State) (n : Nat) (st post : Ns) (y : T) (i : Nat) (h0 : T.eventNotice ≠ y) (h1 : T.recFreeze ≠ y) : (s.recTrigger n st post).timer y i = s.timer y i := by
  unfold State.recTrigger
  dsimp only
  split
  · simp [h0, h1]
    simp only [State.timer_eq]; simp [← State.timer_eq, h0, h1]
  · split
    · simp only [State.timer_eq]; simp [← State.timer_eq, h0, h1]
    · rfl

@[simp] theorem State.now_recTrigger (s : State) (n : Nat) (st post : Ns) : (s.recTrigger n st post).now = s.now := by
  unfold State.recTrigger
  dsimp only
  repeat' first
    | (simp; done)
    | (simp; done)
    | split

@[simp] theorem State.get_trigger (s : State) (n : Nat) (sf : Bool) (st : Ns) (p : P) (i : Nat) (h0 : P.recState ≠ p) : (s.trigger n sf st).get p i = s.get p i := by
  unfold State.trigger; split <;> simp [h0]

@[simp] theorem State.var_trigger (s : State) (n : Nat) (sf : Bool) (st : Ns) (y : V) (i : Nat) (h0 : V.recTriggers ≠ y) : (s.trigger n sf st).var y i = s.var y i := by
  unfold State.trigger; split <;> simp [h0]

@[simp] theorem State.timer_trigger (s : State) (n : Nat) (sf : Bool) (st : Ns) (y : T) (i : Nat) (h0 : T.eventNotice ≠ y) (h1 : T.recFreeze ≠ y) : (s.trigger n sf st).timer y i = s.timer y i := by
  unfold State.trigger; split <;> simp [h0, h1]

@[simp] theorem State.now_trigger (s : State) (n : Nat) (sf : Bool) (st : Ns) : (s.trigger n sf st).now = s.now := by
  unfold State.trigger
  repeat' first
    | rfl
    | (simp; done)
    | rw [State.each_eq (fun s => s.now)]
    | rw [State.when_eq (fun s => s.now)]
    | split
    | intro _

@[simp] theorem State.get_raiseAt (s : State) (e : Ev) (src : ObjId) (l : List Int) (sf : Bool) (st : Ns) (dest : List Nat) (p : P) (i : Nat) (h0 : P.recState ≠ p) : (s.raiseAt e src l sf st dest).get p i = s.get p i := by simp [State.raiseAt, h0]

@[simp] theorem State.var_raiseAt (s : State) (e : Ev) (src : ObjId) (l : List Int) (sf : Bool) (st : Ns) (dest : List Nat) (y : V) (i : Nat) (h0 : V.recTriggers ≠ y) : (s.raiseAt e src l sf st dest).var y i = s.var y i := by simp [State.raiseAt, h0]

@[simp] theorem State.timer_raiseAt (s : State) (e : Ev) (src : ObjId) (l : List Int) (sf : Bool) (st : Ns) (dest : List Nat) (y : T) (i : Nat) (h0 : T.eventNotice ≠ y) (h1 : T.recFreeze ≠ y) : (s.raiseAt e src l sf st dest).timer y i = s.timer y i := by simp [State.raiseAt, h0, h1]

@[simp] theorem State.now_raiseAt (s : State) (e : Ev) (src : ObjId) (l : List Int) (sf : Bool) (st : Ns) (dest : List Nat) : (s.raiseAt e src l sf st dest).now = s.now := by simp [State.raiseAt]

@[simp] theorem State.get_raise (s : State) (e : Ev) (src : ObjId) (l : List Int) (p : P) (i : Nat) (h0 : P.recState ≠ p) : (s.raise e src l).get p i = s.get p i := by simp [State.raise, h0]

@[simp] theorem State.var_raise (s : State) (e : Ev) (src : ObjId) (l : List Int) (y : V) (i : Nat) (h0 : V.recTriggers ≠ y) : (s.raise e src l).var y i = s.var y i := by simp [State.raise, h0]

@[simp] theorem State.timer_raise (s : State) (e : Ev) (src : ObjId) (l : List Int) (y : T) (i : Nat) (h0 : T.eventNotice ≠ y) (h1 : T.recFreeze ≠ y) : (s.raise e src l).timer y i = s.timer y i := by simp [State.raise, h0, h1]

@[simp] theorem State.now_raise (s : State) (e : Ev) (src : ObjId) (l : List Int) : (s.raise e src l).now = s.now := by simp [State.raise]

@[simp] theorem State.get_raiseSafety (s : State) (e : Ev) (src : ObjId) (l : List Int) (p : P) (i : Nat) (h0 : P.recState ≠ p) : (s.raiseSafety e src l).get p i = s.get p i := by simp [State.raiseSafety, h0]

@[simp] theorem State.var_raiseSafety (s : State) (e : Ev) (src : ObjId) (l : List Int) (y : V) (i : Nat) (h0 : V.recTriggers ≠ y) : (s.raiseSafety e src l).var y i = s.var y i := by simp [State.raiseSafety, h0]

@[simp] theorem State.timer_raiseSafety (s : State) (e : Ev) (src : ObjId) (l : List Int) (y : T) (i : Nat) (h0 : T.eventNotice ≠ y) (h1 : T.recFreeze ≠ y) : (s.raiseSafety e src l).timer y i = s.timer y i := by simp [State.raiseSafety, h0, h1]

@[simp] theorem State.now_raiseSafety (s : State) (e : Ev) (src : ObjId) (l : List Int) : (s.raiseSafety e src l).now = s.now := by simp [State.raiseSafety]

@[simp] theorem State.get_stitchSend (s : State) (a b ch k : Nat) (l : List Int) (p : P) (i : Nat) : (s.stitchSend a b ch k l).get p i = s.get p i := by
  unfold State.stitchSend; split <;> simp

@[simp] theorem State.var_stitchSend (s : State) (a b ch k : Nat) (l : List Int) (y : V) (i : Nat) (h0 : V.crossingLost ≠ y) : (s.stitchSend a b ch k l).var y i = s.var y i := by
  unfold State.stitchSend; split <;> simp [h0]

@[simp] theorem State.timer_stitchSend (s : State) (a b ch k : Nat) (l : List Int) (y : T) (i : Nat) : (s.stitchSend a b ch k l).timer y i = s.timer y i := by
  unfold State.stitchSend; split <;> rfl

@[simp] theorem State.now_stitchSend (s : State) (a b ch k : Nat) (l : List Int) : (s.stitchSend a b ch k l).now = s.now := by
  unfold State.stitchSend; split <;> simp

@[simp] theorem State.get_commitUp (s : State) (p : P) (i : Nat) : (s.commitUp ).get p i = s.get p i := rfl

@[simp] theorem State.var_commitUp (s : State) (y : V) (i : Nat) : (s.commitUp ).var y i = s.var y i := rfl

@[simp] theorem State.timer_commitUp (s : State) (y : T) (i : Nat) : (s.commitUp ).timer y i = s.timer y i := rfl

@[simp] theorem State.now_commitUp (s : State) : (s.commitUp ).now = s.now := rfl

@[simp] theorem State.get_followerAck (s : State) (t csn : Nat) (p : P) (i : Nat) (h0 : P.ackCsn ≠ p) : (s.followerAck t csn).get p i = s.get p i := by simp [State.followerAck, h0]

@[simp] theorem State.var_followerAck (s : State) (t csn : Nat) (y : V) (i : Nat) (h0 : V.ackSeen ≠ y) (h1 : V.crossingLost ≠ y) : (s.followerAck t csn).var y i = s.var y i := by simp [State.followerAck, h0, h1]

@[simp] theorem State.timer_followerAck (s : State) (t csn : Nat) (y : T) (i : Nat) : (s.followerAck t csn).timer y i = s.timer y i := by simp [State.followerAck]

@[simp] theorem State.now_followerAck (s : State) (t csn : Nat) : (s.followerAck t csn).now = s.now := by simp [State.followerAck]

@[simp] theorem State.get_journalWrite (s : State) (e : Entry) (p : P) (i : Nat) (h0 : P.ackCsn ≠ p) : (s.journalWrite e).get p i = s.get p i := by
  unfold State.journalWrite
  dsimp only
  split
  · rfl
  · rw [State.get_commitUp, State.each_eq (fun s => s.get p i)]
    · first | rfl | (simp only [State.get_put, h0, false_and, if_false]; rfl)
    · intro u x
      generalize List.map _ _ = l
      split <;> simp_all

@[simp] theorem State.var_journalWrite (s : State) (e : Entry) (y : V) (i : Nat) (h0 : V.ackSeen ≠ y) (h1 : V.crossingLost ≠ y) : (s.journalWrite e).var y i = s.var y i := by
  unfold State.journalWrite
  dsimp only
  split
  · rfl
  · rw [State.var_commitUp, State.each_eq (fun s => s.var y i)]
    · first | rfl | (simp only [State.get_put, h0, false_and, if_false]; rfl)
    · intro u x
      generalize List.map _ _ = l
      split <;> simp_all

@[simp] theorem State.timer_journalWrite (s : State) (e : Entry) (y : T) (i : Nat) : (s.journalWrite e).timer y i = s.timer y i := by
  unfold State.journalWrite
  dsimp only
  split
  · rfl
  · rw [State.timer_commitUp, State.each_eq (fun s => s.timer y i)]
    · first | rfl | (simp only [State.get_put, h0, false_and, if_false]; rfl)
    · intro u x
      generalize List.map _ _ = l
      split <;> simp_all

@[simp] theorem State.now_journalWrite (s : State) (e : Entry) : (s.journalWrite e).now = s.now := by
  unfold State.journalWrite
  dsimp only
  split
  · rfl
  · rw [State.now_commitUp, State.each_eq (fun s => s.now)]
    · first | rfl | (simp only [State.get_put, h0, false_and, if_false]; rfl)
    · intro u x
      generalize List.map _ _ = l
      split <;> simp_all

@[simp] theorem State.get_journalAdd (s : State) (k : EntryKind) (o : Origin) (c : Nat) (l : List Fld) (p : P) (i : Nat) (h0 : P.ackCsn ≠ p) : (s.journalAdd k o c l).get p i = s.get p i := by simp [State.journalAdd, h0]

@[simp] theorem State.var_journalAdd (s : State) (k : EntryKind) (o : Origin) (c : Nat) (l : List Fld) (y : V) (i : Nat) (h0 : V.ackSeen ≠ y) (h1 : V.crossingLost ≠ y) : (s.journalAdd k o c l).var y i = s.var y i := by simp [State.journalAdd, h0, h1]

@[simp] theorem State.timer_journalAdd (s : State) (k : EntryKind) (o : Origin) (c : Nat) (l : List Fld) (y : T) (i : Nat) : (s.journalAdd k o c l).timer y i = s.timer y i := by simp [State.journalAdd]

@[simp] theorem State.now_journalAdd (s : State) (k : EntryKind) (o : Origin) (c : Nat) (l : List Fld) : (s.journalAdd k o c l).now = s.now := by simp [State.journalAdd]

@[simp] theorem State.get_journalCommand (s : State) (o : Origin) (b : Option Body) (p : P) (i : Nat) (h0 : P.ackCsn ≠ p) : (s.journalCommand o b).get p i = s.get p i := by
  unfold State.journalCommand
  dsimp only
  repeat' first
    | (simp [h0]; done)
    | (simp only [State.get_eq]; first | done | rfl | (simp only [← State.get_eq]; first | done | rfl | (simp [h0]; done)))
    | split

@[simp] theorem State.var_journalCommand (s : State) (o : Origin) (b : Option Body) (y : V) (i : Nat) (h0 : V.ackSeen ≠ y) (h1 : V.crossingLost ≠ y) : (s.journalCommand o b).var y i = s.var y i := by
  unfold State.journalCommand
  dsimp only
  repeat' first
    | (simp [h0, h1]; done)
    | (simp only [State.var_eq]; first | done | rfl | (simp only [← State.var_eq]; first | done | rfl | (simp [h0, h1]; done)))
    | split

@[simp] theorem State.timer_journalCommand (s : State) (o : Origin) (b : Option Body) (y : T) (i : Nat) : (s.journalCommand o b).timer y i = s.timer y i := by
  unfold State.journalCommand
  dsimp only
  repeat' first
    | (simp; done)
    | (simp only [State.timer_eq]; first | done | rfl | (simp only [← State.timer_eq]; first | done | rfl | (simp; done)))
    | split

@[simp] theorem State.now_journalCommand (s : State) (o : Origin) (b : Option Body) : (s.journalCommand o b).now = s.now := by simp [State.journalCommand]

@[simp] theorem State.get_touch (s : State) (x : ObjId) (csn : Nat) (p : P) (i : Nat) : (s.touch x csn).get p i = s.get p i := rfl

@[simp] theorem State.var_touch (s : State) (x : ObjId) (csn : Nat) (y : V) (i : Nat) : (s.touch x csn).var y i = s.var y i := rfl

@[simp] theorem State.timer_touch (s : State) (x : ObjId) (csn : Nat) (y : T) (i : Nat) : (s.touch x csn).timer y i = s.timer y i := rfl

@[simp] theorem State.now_touch (s : State) (x : ObjId) (csn : Nat) : (s.touch x csn).now = s.now := rfl

@[simp] theorem State.get_commit (s : State) (o : Origin) (p : P) (i : Nat) (h0 : P.ackCsn ≠ p) : (s.commit o).get p i = s.get p i := by simp [State.commit, h0]

@[simp] theorem State.var_commit (s : State) (o : Origin) (y : V) (i : Nat) (h0 : V.ackSeen ≠ y) (h1 : V.crossingLost ≠ y) : (s.commit o).var y i = s.var y i := by simp [State.commit, h0, h1]

@[simp] theorem State.timer_commit (s : State) (o : Origin) (y : T) (i : Nat) : (s.commit o).timer y i = s.timer y i := by simp [State.commit]

@[simp] theorem State.now_commit (s : State) (o : Origin) : (s.commit o).now = s.now := by simp [State.commit]

@[simp] theorem State.get_journalSafety (s : State) (o : ObjId) (act : Int) (p : P) (i : Nat) (h0 : P.ackCsn ≠ p) : (s.journalSafety o act).get p i = s.get p i := by simp [State.journalSafety, h0]

@[simp] theorem State.var_journalSafety (s : State) (o : ObjId) (act : Int) (y : V) (i : Nat) (h0 : V.ackSeen ≠ y) (h1 : V.crossingLost ≠ y) : (s.journalSafety o act).var y i = s.var y i := by simp [State.journalSafety, h0, h1]

@[simp] theorem State.timer_journalSafety (s : State) (o : ObjId) (act : Int) (y : T) (i : Nat) : (s.journalSafety o act).timer y i = s.timer y i := by simp [State.journalSafety]

@[simp] theorem State.now_journalSafety (s : State) (o : ObjId) (act : Int) : (s.journalSafety o act).now = s.now := by simp [State.journalSafety]

@[simp] theorem State.get_pumpN (s : State) (k : Nat) (n : Nat) (p : P) (i : Nat) : (s.pumpN k n).get p i = s.get p i := by
  induction n generalizing s with
  | zero => rfl
  | succ n ih => unfold State.pumpN; dsimp only; split <;> simp [ih] <;> rfl

@[simp] theorem State.var_pumpN (s : State) (k : Nat) (n : Nat) (y : V) (i : Nat) : (s.pumpN k n).var y i = s.var y i := by
  induction n generalizing s with
  | zero => rfl
  | succ n ih => unfold State.pumpN; dsimp only; split <;> simp [ih] <;> rfl

@[simp] theorem State.timer_pumpN (s : State) (k : Nat) (n : Nat) (y : T) (i : Nat) : (s.pumpN k n).timer y i = s.timer y i := by
  induction n generalizing s with
  | zero => rfl
  | succ n ih => unfold State.pumpN; dsimp only; split <;> simp [ih] <;> rfl

@[simp] theorem State.now_pumpN (s : State) (k : Nat) (n : Nat) : (s.pumpN k n).now = s.now := by
  induction n generalizing s with
  | zero => rfl
  | succ n ih => unfold State.pumpN; dsimp only; split <;> simp [ih] <;> rfl

@[simp] theorem State.get_pump (s : State) (k : Nat) (p : P) (i : Nat) : (s.pump k).get p i = s.get p i := by
  unfold State.pump; split <;> simp

@[simp] theorem State.var_pump (s : State) (k : Nat) (y : V) (i : Nat) : (s.pump k).var y i = s.var y i := by
  unfold State.pump; split <;> simp

@[simp] theorem State.timer_pump (s : State) (k : Nat) (y : T) (i : Nat) : (s.pump k).timer y i = s.timer y i := by
  unfold State.pump; split <;> simp

@[simp] theorem State.now_pump (s : State) (k : Nat) : (s.pump k).now = s.now := by
  unfold State.pump; split <;> simp

@[simp] theorem State.get_sendOn (s : State) (k ch kind num : Nat) (b : List Nat) (p : P) (i : Nat) : (s.sendOn k ch kind num b).get p i = s.get p i := by simp [State.sendOn]

@[simp] theorem State.var_sendOn (s : State) (k ch kind num : Nat) (b : List Nat) (y : V) (i : Nat) : (s.sendOn k ch kind num b).var y i = s.var y i := by simp [State.sendOn]

@[simp] theorem State.timer_sendOn (s : State) (k ch kind num : Nat) (b : List Nat) (y : T) (i : Nat) : (s.sendOn k ch kind num b).timer y i = s.timer y i := by simp [State.sendOn]

@[simp] theorem State.now_sendOn (s : State) (k ch kind num : Nat) (b : List Nat) : (s.sendOn k ch kind num b).now = s.now := by simp [State.sendOn]

@[simp] theorem State.get_ratPass (s : State) (k vc kind key : Nat) (m : Msg) (b : List Nat) (p : P) (i : Nat) : (s.ratPass k vc kind key m b).get p i = s.get p i := by simp [State.ratPass]

@[simp] theorem State.var_ratPass (s : State) (k vc kind key : Nat) (m : Msg) (b : List Nat) (y : V) (i : Nat) : (s.ratPass k vc kind key m b).var y i = s.var y i := by simp [State.ratPass]

@[simp] theorem State.timer_ratPass (s : State) (k vc kind key : Nat) (m : Msg) (b : List Nat) (y : T) (i : Nat) : (s.ratPass k vc kind key m b).timer y i = s.timer y i := by simp [State.ratPass]

@[simp] theorem State.now_ratPass (s : State) (k vc kind key : Nat) (m : Msg) (b : List Nat) : (s.ratPass k vc kind key m b).now = s.now := by simp [State.ratPass]

@[simp] theorem State.get_ratOut (s : State) (k vc kind key : Nat) (m : Msg) (b : List Nat) (p : P) (i : Nat) : (s.ratOut k vc kind key m b).get p i = s.get p i := by simp [State.ratOut]

@[simp] theorem State.var_ratOut (s : State) (k vc kind key : Nat) (m : Msg) (b : List Nat) (y : V) (i : Nat) : (s.ratOut k vc kind key m b).var y i = s.var y i := by simp [State.ratOut]

@[simp] theorem State.timer_ratOut (s : State) (k vc kind key : Nat) (m : Msg) (b : List Nat) (y : T) (i : Nat) : (s.ratOut k vc kind key m b).timer y i = s.timer y i := by simp [State.ratOut]

@[simp] theorem State.now_ratOut (s : State) (k vc kind key : Nat) (m : Msg) (b : List Nat) : (s.ratOut k vc kind key m b).now = s.now := by simp [State.ratOut]

@[simp] theorem State.get_ratSend (s : State) (k vc kind route src dst serial hops : Nat) (body : List Int) (p : P) (i : Nat) : (s.ratSend k vc kind route src dst serial hops body).get p i = s.get p i := by simp [State.ratSend]

@[simp] theorem State.var_ratSend (s : State) (k vc kind route src dst serial hops : Nat) (body : List Int) (y : V) (i : Nat) : (s.ratSend k vc kind route src dst serial hops body).var y i = s.var y i := by simp [State.ratSend]

@[simp] theorem State.timer_ratSend (s : State) (k vc kind route src dst serial hops : Nat) (body : List Int) (y : T) (i : Nat) : (s.ratSend k vc kind route src dst serial hops body).timer y i = s.timer y i := by simp [State.ratSend]

@[simp] theorem State.now_ratSend (s : State) (k vc kind route src dst serial hops : Nat) (body : List Int) : (s.ratSend k vc kind route src dst serial hops body).now = s.now := by simp [State.ratSend]

@[simp] theorem State.get_ratLink (s : State) (k vc kind : Nat) (body : List Int) (p : P) (i : Nat) : (s.ratLink k vc kind body).get p i = s.get p i := by simp [State.ratLink]

@[simp] theorem State.var_ratLink (s : State) (k vc kind : Nat) (body : List Int) (y : V) (i : Nat) : (s.ratLink k vc kind body).var y i = s.var y i := by simp [State.ratLink]

@[simp] theorem State.timer_ratLink (s : State) (k vc kind : Nat) (body : List Int) (y : T) (i : Nat) : (s.ratLink k vc kind body).timer y i = s.timer y i := by simp [State.ratLink]

@[simp] theorem State.now_ratLink (s : State) (k vc kind : Nat) (body : List Int) : (s.ratLink k vc kind body).now = s.now := by simp [State.ratLink]

@[simp] theorem State.get_ratTree (s : State) (vc kind dst serial : Nat) (body : List Int) (p : P) (i : Nat) : (s.ratTree vc kind dst serial body).get p i = s.get p i := by
  unfold State.ratTree; split <;> simp

@[simp] theorem State.var_ratTree (s : State) (vc kind dst serial : Nat) (body : List Int) (y : V) (i : Nat) : (s.ratTree vc kind dst serial body).var y i = s.var y i := by
  unfold State.ratTree; split <;> simp

@[simp] theorem State.timer_ratTree (s : State) (vc kind dst serial : Nat) (body : List Int) (y : T) (i : Nat) : (s.ratTree vc kind dst serial body).timer y i = s.timer y i := by
  unfold State.ratTree; split <;> simp

@[simp] theorem State.now_ratTree (s : State) (vc kind dst serial : Nat) (body : List Int) : (s.ratTree vc kind dst serial body).now = s.now := by
  unfold State.ratTree; split <;> simp

@[simp] theorem State.get_sendRemoteReply (s : State) (addr serial status : Nat) (packet : List Nat) (p : P) (i : Nat) : (s.sendRemoteReply addr serial status packet).get p i = s.get p i := by
  unfold State.sendRemoteReply; split <;> simp

@[simp] theorem State.var_sendRemoteReply (s : State) (addr serial status : Nat) (packet : List Nat) (y : V) (i : Nat) : (s.sendRemoteReply addr serial status packet).var y i = s.var y i := by
  unfold State.sendRemoteReply; split <;> simp

@[simp] theorem State.timer_sendRemoteReply (s : State) (addr serial status : Nat) (packet : List Nat) (y : T) (i : Nat) : (s.sendRemoteReply addr serial status packet).timer y i = s.timer y i := by
  unfold State.sendRemoteReply; split <;> simp

@[simp] theorem State.now_sendRemoteReply (s : State) (addr serial status : Nat) (packet : List Nat) : (s.sendRemoteReply addr serial status packet).now = s.now := by
  unfold State.sendRemoteReply; split <;> simp

@[simp] theorem State.get_remoteDone (s : State) (serial queue tag : Nat) (q : Bool) (packet : List Nat) (p : P) (i : Nat) : (s.remoteDone serial queue tag q packet).get p i = s.get p i := by
  unfold State.remoteDone
  dsimp only
  split
  · split
    · rfl
    · rw [State.get_sendRemoteReply]; rfl
  · rfl

@[simp] theorem State.var_remoteDone (s : State) (serial queue tag : Nat) (q : Bool) (packet : List Nat) (y : V) (i : Nat) : (s.remoteDone serial queue tag q packet).var y i = s.var y i := by
  unfold State.remoteDone
  dsimp only
  split
  · split
    · rfl
    · rw [State.var_sendRemoteReply]; rfl
  · rfl

@[simp] theorem State.timer_remoteDone (s : State) (serial queue tag : Nat) (q : Bool) (packet : List Nat) (y : T) (i : Nat) : (s.remoteDone serial queue tag q packet).timer y i = s.timer y i := by
  unfold State.remoteDone
  dsimp only
  split
  · split
    · rfl
    · rw [State.timer_sendRemoteReply]; rfl
  · rfl

@[simp] theorem State.now_remoteDone (s : State) (serial queue tag : Nat) (q : Bool) (packet : List Nat) : (s.remoteDone serial queue tag q packet).now = s.now := by
  unfold State.remoteDone
  dsimp only
  repeat' first
    | rfl
    | (simp; done)
    | rw [State.each_eq (fun s => s.now)]
    | rw [State.when_eq (fun s => s.now)]
    | split
    | intro _

@[simp] theorem State.get_opReply (s : State) (id status csn : Nat) (p : P) (i : Nat) : (s.opReply id status csn).get p i = s.get p i := rfl

@[simp] theorem State.var_opReply (s : State) (id status csn : Nat) (y : V) (i : Nat) : (s.opReply id status csn).var y i = s.var y i := rfl

@[simp] theorem State.timer_opReply (s : State) (id status csn : Nat) (y : T) (i : Nat) : (s.opReply id status csn).timer y i = s.timer y i := rfl

@[simp] theorem State.now_opReply (s : State) (id status csn : Nat) : (s.opReply id status csn).now = s.now := rfl

@[simp] theorem State.get_windowReply (s : State) (k : Nat) (bytes : List Nat) (p : P) (i : Nat) : (s.windowReply k bytes).get p i = s.get p i := rfl

@[simp] theorem State.var_windowReply (s : State) (k : Nat) (bytes : List Nat) (y : V) (i : Nat) : (s.windowReply k bytes).var y i = s.var y i := rfl

@[simp] theorem State.timer_windowReply (s : State) (k : Nat) (bytes : List Nat) (y : T) (i : Nat) : (s.windowReply k bytes).timer y i = s.timer y i := rfl

@[simp] theorem State.now_windowReply (s : State) (k : Nat) (bytes : List Nat) : (s.windowReply k bytes).now = s.now := rfl

@[simp] theorem State.get_ethSent (s : State) (k n len : Nat) (p : P) (i : Nat) : (s.ethSent k n len).get p i = s.get p i := rfl

@[simp] theorem State.var_ethSent (s : State) (k n len : Nat) (y : V) (i : Nat) : (s.ethSent k n len).var y i = s.var y i := rfl

@[simp] theorem State.timer_ethSent (s : State) (k n len : Nat) (y : T) (i : Nat) : (s.ethSent k n len).timer y i = s.timer y i := rfl

@[simp] theorem State.now_ethSent (s : State) (k n len : Nat) : (s.ethSent k n len).now = s.now := rfl

@[simp] theorem State.get_queueError (s : State) (k q c : Nat) (p : P) (i : Nat) (h0 : P.recState ≠ p) : (s.queueError k q c).get p i = s.get p i := by simp [State.queueError, h0]

@[simp] theorem State.var_queueError (s : State) (k q c : Nat) (y : V) (i : Nat) (h0 : V.recTriggers ≠ y) : (s.queueError k q c).var y i = s.var y i := by simp [State.queueError, h0]

@[simp] theorem State.timer_queueError (s : State) (k q c : Nat) (y : T) (i : Nat) (h0 : T.eventNotice ≠ y) (h1 : T.recFreeze ≠ y) : (s.queueError k q c).timer y i = s.timer y i := by simp [State.queueError, h0, h1]

@[simp] theorem State.now_queueError (s : State) (k q c : Nat) : (s.queueError k q c).now = s.now := by simp [State.queueError]

@[simp] theorem State.get_resetDone (s : State) (k : Nat) (p : P) (i : Nat) : (s.resetDone k).get p i = s.get p i := by
  unfold State.resetDone; split <;> simp

@[simp] theorem State.var_resetDone (s : State) (k : Nat) (y : V) (i : Nat) : (s.resetDone k).var y i = s.var y i := by
  unfold State.resetDone; split <;> simp

@[simp] theorem State.timer_resetDone (s : State) (k : Nat) (y : T) (i : Nat) : (s.resetDone k).timer y i = s.timer y i := by
  unfold State.resetDone; split <;> simp

@[simp] theorem State.now_resetDone (s : State) (k : Nat) : (s.resetDone k).now = s.now := by
  unfold State.resetDone; split <;> simp

@[simp] theorem State.get_completeRing (s : State) (k : Nat) (o : Outst) (r : Reply) (q : Bool) (p : P) (i : Nat) : (s.completeRing k o r q).get p i = s.get p i := by simp [State.completeRing]

@[simp] theorem State.var_completeRing (s : State) (k : Nat) (o : Outst) (r : Reply) (q : Bool) (y : V) (i : Nat) : (s.completeRing k o r q).var y i = s.var y i := by simp [State.completeRing]

@[simp] theorem State.timer_completeRing (s : State) (k : Nat) (o : Outst) (r : Reply) (q : Bool) (y : T) (i : Nat) : (s.completeRing k o r q).timer y i = s.timer y i := by simp [State.completeRing]

@[simp] theorem State.now_completeRing (s : State) (k : Nat) (o : Outst) (r : Reply) (q : Bool) : (s.completeRing k o r q).now = s.now := by simp [State.completeRing]

@[simp] theorem State.get_report (s : State) (o : Outst) (r : Reply) (p : P) (i : Nat) (h0 : P.busyReplies ≠ p) (h1 : P.recState ≠ p) : (s.report o r).get p i = s.get p i := by
  unfold State.report
  dsimp only
  repeat' first
    | (simp [h0, h1]; done)
    | (simp only [State.get_eq]; first | done | rfl | (simp only [← State.get_eq]; first | done | rfl | (simp [h0, h1]; done)))
    | split

@[simp] theorem State.var_report (s : State) (o : Outst) (r : Reply) (y : V) (i : Nat) (h0 : V.recTriggers ≠ y) : (s.report o r).var y i = s.var y i := by
  unfold State.report
  dsimp only
  repeat' first
    | (simp [h0]; done)
    | (simp only [State.var_eq]; first | done | rfl | (simp only [← State.var_eq]; first | done | rfl | (simp [h0]; done)))
    | split

@[simp] theorem State.timer_report (s : State) (o : Outst) (r : Reply) (y : T) (i : Nat) (h0 : T.eventNotice ≠ y) (h1 : T.recFreeze ≠ y) : (s.report o r).timer y i = s.timer y i := by
  unfold State.report
  dsimp only
  repeat' first
    | (simp [h0, h1]; done)
    | (simp only [State.timer_eq]; first | done | rfl | (simp only [← State.timer_eq]; first | done | rfl | (simp [h0, h1]; done)))
    | split

@[simp] theorem State.now_report (s : State) (o : Outst) (r : Reply) : (s.report o r).now = s.now := by
  unfold State.report
  dsimp only
  repeat' first
    | rfl
    | (simp; done)
    | rw [State.each_eq (fun s => s.now)]
    | rw [State.when_eq (fun s => s.now)]
    | split
    | intro _

@[simp] theorem State.get_flushN (s : State) (n : Nat) (p : P) (i : Nat) (h0 : P.busyReplies ≠ p) (h1 : P.recState ≠ p) : (s.flushN n).get p i = s.get p i := by
  induction n generalizing s with
  | zero => rfl
  | succ n ih =>
    unfold State.flushN
    split
    · rfl
    · rw [ih, State.get_report (h0 := h0) (h1 := h1)]; rfl

@[simp] theorem State.var_flushN (s : State) (n : Nat) (y : V) (i : Nat) (h0 : V.recTriggers ≠ y) : (s.flushN n).var y i = s.var y i := by
  induction n generalizing s with
  | zero => rfl
  | succ n ih =>
    unfold State.flushN
    split
    · rfl
    · rw [ih, State.var_report (h0 := h0)]; rfl

@[simp] theorem State.timer_flushN (s : State) (n : Nat) (y : T) (i : Nat) (h0 : T.eventNotice ≠ y) (h1 : T.recFreeze ≠ y) : (s.flushN n).timer y i = s.timer y i := by
  induction n generalizing s with
  | zero => rfl
  | succ n ih =>
    unfold State.flushN
    split
    · rfl
    · rw [ih, State.timer_report (h0 := h0) (h1 := h1)]; rfl

@[simp] theorem State.now_flushN (s : State) (n : Nat) : (s.flushN n).now = s.now := by
  induction n generalizing s with
  | zero => rfl
  | succ n ih =>
    unfold State.flushN
    split
    · rfl
    · rw [ih, State.now_report]

@[simp] theorem State.get_flush (s : State) (p : P) (i : Nat) (h0 : P.busyReplies ≠ p) (h1 : P.recState ≠ p) : (s.flush ).get p i = s.get p i := by simp [State.flush, h0, h1]

@[simp] theorem State.var_flush (s : State) (y : V) (i : Nat) (h0 : V.recTriggers ≠ y) : (s.flush ).var y i = s.var y i := by simp [State.flush, h0]

@[simp] theorem State.timer_flush (s : State) (y : T) (i : Nat) (h0 : T.eventNotice ≠ y) (h1 : T.recFreeze ≠ y) : (s.flush ).timer y i = s.timer y i := by simp [State.flush, h0, h1]

@[simp] theorem State.now_flush (s : State) : (s.flush ).now = s.now := by simp [State.flush]

@[simp] theorem State.get_noteRecent (s : State) (o : Origin) (a b c : Nat) (p : P) (i : Nat) : (s.noteRecent o a b c).get p i = s.get p i := rfl

@[simp] theorem State.var_noteRecent (s : State) (o : Origin) (a b c : Nat) (y : V) (i : Nat) : (s.noteRecent o a b c).var y i = s.var y i := rfl

@[simp] theorem State.timer_noteRecent (s : State) (o : Origin) (a b c : Nat) (y : T) (i : Nat) : (s.noteRecent o a b c).timer y i = s.timer y i := rfl

@[simp] theorem State.now_noteRecent (s : State) (o : Origin) (a b c : Nat) : (s.noteRecent o a b c).now = s.now := rfl

@[simp] theorem State.get_fill (s : State) (o : Origin) (st : Status) (rs : List Fld) (csn : Nat) (fin : Bool) (p : P) (i : Nat) : (s.fill o st rs csn fin).get p i = s.get p i := rfl

@[simp] theorem State.var_fill (s : State) (o : Origin) (st : Status) (rs : List Fld) (csn : Nat) (fin : Bool) (y : V) (i : Nat) : (s.fill o st rs csn fin).var y i = s.var y i := rfl

@[simp] theorem State.timer_fill (s : State) (o : Origin) (st : Status) (rs : List Fld) (csn : Nat) (fin : Bool) (y : T) (i : Nat) : (s.fill o st rs csn fin).timer y i = s.timer y i := rfl

@[simp] theorem State.now_fill (s : State) (o : Origin) (st : Status) (rs : List Fld) (csn : Nat) (fin : Bool) : (s.fill o st rs csn fin).now = s.now := rfl

@[simp] theorem State.get_answer (s : State) (o : Origin) (st : Status) (rs : List Fld) (csn : Nat) (fin : Bool) (p : P) (i : Nat) (h0 : P.busyReplies ≠ p) (h1 : P.recState ≠ p) : (s.answer o st rs csn fin).get p i = s.get p i := by simp [State.answer, h0, h1]

@[simp] theorem State.var_answer (s : State) (o : Origin) (st : Status) (rs : List Fld) (csn : Nat) (fin : Bool) (y : V) (i : Nat) (h0 : V.recTriggers ≠ y) : (s.answer o st rs csn fin).var y i = s.var y i := by simp [State.answer, h0]

@[simp] theorem State.timer_answer (s : State) (o : Origin) (st : Status) (rs : List Fld) (csn : Nat) (fin : Bool) (y : T) (i : Nat) (h0 : T.eventNotice ≠ y) (h1 : T.recFreeze ≠ y) : (s.answer o st rs csn fin).timer y i = s.timer y i := by simp [State.answer, h0, h1]

@[simp] theorem State.now_answer (s : State) (o : Origin) (st : Status) (rs : List Fld) (csn : Nat) (fin : Bool) : (s.answer o st rs csn fin).now = s.now := by simp [State.answer]

@[simp] theorem State.get_hold (s : State) (o : Origin) (l : List ObjId) (p : P) (i : Nat) : (s.hold o l).get p i = s.get p i := rfl

@[simp] theorem State.var_hold (s : State) (o : Origin) (l : List ObjId) (y : V) (i : Nat) : (s.hold o l).var y i = s.var y i := rfl

@[simp] theorem State.timer_hold (s : State) (o : Origin) (l : List ObjId) (y : T) (i : Nat) : (s.hold o l).timer y i = s.timer y i := rfl

@[simp] theorem State.now_hold (s : State) (o : Origin) (l : List ObjId) : (s.hold o l).now = s.now := rfl

@[simp] theorem State.get_unhold (s : State) (o : Origin) (p : P) (i : Nat) : (s.unhold o).get p i = s.get p i := rfl

@[simp] theorem State.var_unhold (s : State) (o : Origin) (y : V) (i : Nat) : (s.unhold o).var y i = s.var y i := rfl

@[simp] theorem State.timer_unhold (s : State) (o : Origin) (y : T) (i : Nat) : (s.unhold o).timer y i = s.timer y i := rfl

@[simp] theorem State.now_unhold (s : State) (o : Origin) : (s.unhold o).now = s.now := rfl

@[simp] theorem State.get_beginApply (s : State) (o : Origin) (p : P) (i : Nat) (h0 : P.ackCsn ≠ p) : (s.beginApply o).get p i = s.get p i := by
  unfold State.beginApply
  dsimp only
  repeat' first
    | (simp [h0]; done)
    | (simp only [State.get_eq]; first | done | rfl | (simp only [← State.get_eq]; first | done | rfl | (simp [h0]; done)))
    | split

@[simp] theorem State.var_beginApply (s : State) (o : Origin) (y : V) (i : Nat) (h0 : V.ackSeen ≠ y) (h1 : V.crossingLost ≠ y) : (s.beginApply o).var y i = s.var y i := by
  unfold State.beginApply
  dsimp only
  repeat' first
    | (simp [h0, h1]; done)
    | (simp only [State.var_eq]; first | done | rfl | (simp only [← State.var_eq]; first | done | rfl | (simp [h0, h1]; done)))
    | split

@[simp] theorem State.timer_beginApply (s : State) (o : Origin) (y : T) (i : Nat) : (s.beginApply o).timer y i = s.timer y i := by
  unfold State.beginApply
  dsimp only
  repeat' first
    | (simp; done)
    | (simp only [State.timer_eq]; first | done | rfl | (simp only [← State.timer_eq]; first | done | rfl | (simp; done)))
    | split

@[simp] theorem State.now_beginApply (s : State) (o : Origin) : (s.beginApply o).now = s.now := by simp [State.beginApply]

@[simp] theorem State.get_endApply (s : State) (o : Origin) (st : Status) (p : P) (i : Nat) (h0 : P.ackCsn ≠ p) : (s.endApply o st).get p i = s.get p i := by
  unfold State.endApply
  split
  · rw [State.get_journalAdd (h0 := h0)]; rfl
  · rfl

@[simp] theorem State.var_endApply (s : State) (o : Origin) (st : Status) (y : V) (i : Nat) (h0 : V.ackSeen ≠ y) (h1 : V.crossingLost ≠ y) : (s.endApply o st).var y i = s.var y i := by
  unfold State.endApply
  split
  · rw [State.var_journalAdd (h0 := h0) (h1 := h1)]; rfl
  · rfl

@[simp] theorem State.timer_endApply (s : State) (o : Origin) (st : Status) (y : T) (i : Nat) : (s.endApply o st).timer y i = s.timer y i := by
  unfold State.endApply
  split
  · rw [State.timer_journalAdd]; rfl
  · rfl

@[simp] theorem State.now_endApply (s : State) (o : Origin) (st : Status) : (s.endApply o st).now = s.now := by
  unfold State.endApply; split <;> simp

@[simp] theorem State.get_ended (s : State) (x : Ending) (p : P) (i : Nat) (h0 : P.recState ≠ p) : (s.ended x).get p i = s.get p i := by
  unfold State.ended
  dsimp only
  rw [State.get_raiseAt (h0 := h0)]
  split
  · simp only [State.get_eq]
    simp only [← State.get_eq]
    rw [State.get_modSession]
    simp only [State.get_eq]
    simp only [← State.get_eq]
    simp
  · rw [State.get_modSession]
    simp only [State.get_eq]
    simp only [← State.get_eq]
    simp

@[simp] theorem State.var_ended (s : State) (x : Ending) (y : V) (i : Nat) (h0 : V.recTriggers ≠ y) : (s.ended x).var y i = s.var y i := by
  unfold State.ended
  dsimp only
  rw [State.var_raiseAt (h0 := h0)]
  split
  · simp only [State.var_eq]
    simp only [← State.var_eq]
    rw [State.var_modSession]
    simp only [State.var_eq]
    simp only [← State.var_eq]
    simp
  · rw [State.var_modSession]
    simp only [State.var_eq]
    simp only [← State.var_eq]
    simp

@[simp] theorem State.timer_ended (s : State) (x : Ending) (y : T) (i : Nat) (h0 : T.eventNotice ≠ y) (h1 : T.recFreeze ≠ y) : (s.ended x).timer y i = s.timer y i := by
  unfold State.ended
  dsimp only
  rw [State.timer_raiseAt (h0 := h0) (h1 := h1)]
  split
  · simp only [State.timer_eq]
    simp only [← State.timer_eq]
    rw [State.timer_modSession]
    simp only [State.timer_eq]
    simp only [← State.timer_eq]
    simp
  · rw [State.timer_modSession]
    simp only [State.timer_eq]
    simp only [← State.timer_eq]
    simp

@[simp] theorem State.now_ended (s : State) (x : Ending) : (s.ended x).now = s.now := by
  unfold State.ended
  dsimp only
  repeat' first
    | rfl
    | (simp; done)
    | rw [State.each_eq (fun s => s.now)]
    | rw [State.when_eq (fun s => s.now)]
    | split
    | intro _

@[simp] theorem State.get_endDue (s : State) (p : P) (i : Nat) (h0 : P.recState ≠ p) : (s.endDue ).get p i = s.get p i := by
  unfold State.endDue
  dsimp only
  repeat' first
    | rfl
    | (simp [h0]; done)
    | rw [State.each_eq (fun s => s.get p i)]
    | rw [State.when_eq (fun s => s.get p i)]
    | split
    | intro _

@[simp] theorem State.var_endDue (s : State) (y : V) (i : Nat) (h0 : V.recTriggers ≠ y) : (s.endDue ).var y i = s.var y i := by
  unfold State.endDue
  dsimp only
  repeat' first
    | rfl
    | (simp [h0]; done)
    | rw [State.each_eq (fun s => s.var y i)]
    | rw [State.when_eq (fun s => s.var y i)]
    | split
    | intro _

@[simp] theorem State.timer_endDue (s : State) (y : T) (i : Nat) (h0 : T.eventNotice ≠ y) (h1 : T.recFreeze ≠ y) : (s.endDue ).timer y i = s.timer y i := by
  unfold State.endDue
  dsimp only
  repeat' first
    | rfl
    | (simp [h0, h1]; done)
    | rw [State.each_eq (fun s => s.timer y i)]
    | rw [State.when_eq (fun s => s.timer y i)]
    | split
    | intro _

@[simp] theorem State.now_endDue (s : State) : (s.endDue ).now = s.now := by
  unfold State.endDue
  dsimp only
  repeat' first
    | rfl
    | (simp; done)
    | rw [State.each_eq (fun s => s.now)]
    | rw [State.when_eq (fun s => s.now)]
    | split
    | intro _

@[simp] theorem State.get_recommit (s : State) (p : P) (i : Nat) (h0 : P.busyReplies ≠ p) (h1 : P.recState ≠ p) : (s.recommit ).get p i = s.get p i := by simp [State.recommit, h0, h1]

@[simp] theorem State.var_recommit (s : State) (y : V) (i : Nat) (h0 : V.recTriggers ≠ y) : (s.recommit ).var y i = s.var y i := by simp [State.recommit, h0]

@[simp] theorem State.timer_recommit (s : State) (y : T) (i : Nat) (h0 : T.eventNotice ≠ y) (h1 : T.recFreeze ≠ y) : (s.recommit ).timer y i = s.timer y i := by simp [State.recommit, h0, h1]

@[simp] theorem State.now_recommit (s : State) : (s.recommit ).now = s.now := by simp [State.recommit]

@[simp] theorem State.get_complete (s : State) (o : Origin) (e : Ev) (st : Status) (data : List Int) (d : Int) (p : P) (i : Nat) (h0 : P.ackCsn ≠ p) (h1 : P.recState ≠ p) : (s.complete o e st data d).get p i = s.get p i := by
  unfold State.complete
  dsimp only
  repeat' first
    | (simp [h0, h1]; done)
    | (simp only [State.get_eq]; first | done | rfl | (simp only [← State.get_eq]; first | done | rfl | (simp [h0, h1]; done)))
    | split

@[simp] theorem State.var_complete (s : State) (o : Origin) (e : Ev) (st : Status) (data : List Int) (d : Int) (y : V) (i : Nat) (h0 : V.ackSeen ≠ y) (h1 : V.crossingLost ≠ y) (h2 : V.recTriggers ≠ y) : (s.complete o e st data d).var y i = s.var y i := by
  unfold State.complete
  dsimp only
  repeat' first
    | (simp [h0, h1, h2]; done)
    | (simp only [State.var_eq]; first | done | rfl | (simp only [← State.var_eq]; first | done | rfl | (simp [h0, h1, h2]; done)))
    | split

@[simp] theorem State.timer_complete (s : State) (o : Origin) (e : Ev) (st : Status) (data : List Int) (d : Int) (y : T) (i : Nat) (h0 : T.eventNotice ≠ y) (h1 : T.recFreeze ≠ y) : (s.complete o e st data d).timer y i = s.timer y i := by
  unfold State.complete
  dsimp only
  repeat' first
    | (simp [h0, h1]; done)
    | (simp only [State.timer_eq]; first | done | rfl | (simp only [← State.timer_eq]; first | done | rfl | (simp [h0, h1]; done)))
    | split

@[simp] theorem State.now_complete (s : State) (o : Origin) (e : Ev) (st : Status) (data : List Int) (d : Int) : (s.complete o e st data d).now = s.now := by
  unfold State.complete
  dsimp only
  repeat' first
    | rfl
    | (simp; done)
    | rw [State.each_eq (fun s => s.now)]
    | rw [State.when_eq (fun s => s.now)]
    | split
    | intro _

@[simp] theorem State.get_finish (s : State) (o : Origin) (e : Ev) (st : Status) (data : List Int) (rs : List Fld) (d : Int) (p : P) (i : Nat) (h0 : P.ackCsn ≠ p) (h1 : P.busyReplies ≠ p) (h2 : P.recState ≠ p) : (s.finish o e st data rs d).get p i = s.get p i := by
  unfold State.finish; split <;> simp [h0, h1, h2]

@[simp] theorem State.var_finish (s : State) (o : Origin) (e : Ev) (st : Status) (data : List Int) (rs : List Fld) (d : Int) (y : V) (i : Nat) (h0 : V.ackSeen ≠ y) (h1 : V.crossingLost ≠ y) (h2 : V.recTriggers ≠ y) : (s.finish o e st data rs d).var y i = s.var y i := by
  unfold State.finish; split <;> simp [h0, h1, h2]

@[simp] theorem State.timer_finish (s : State) (o : Origin) (e : Ev) (st : Status) (data : List Int) (rs : List Fld) (d : Int) (y : T) (i : Nat) (h0 : T.eventNotice ≠ y) (h1 : T.recFreeze ≠ y) : (s.finish o e st data rs d).timer y i = s.timer y i := by
  unfold State.finish; split <;> simp [h0, h1]

@[simp] theorem State.now_finish (s : State) (o : Origin) (e : Ev) (st : Status) (data : List Int) (rs : List Fld) (d : Int) : (s.finish o e st data rs d).now = s.now := by
  unfold State.finish; split <;> simp

@[simp] theorem State.get_noteDispatch (s : State) (o : Origin) (p : P) (i : Nat) : (s.noteDispatch o).get p i = s.get p i := by
  unfold State.noteDispatch; split <;> rfl

@[simp] theorem State.var_noteDispatch (s : State) (o : Origin) (y : V) (i : Nat) : (s.noteDispatch o).var y i = s.var y i := by
  unfold State.noteDispatch; split <;> rfl

@[simp] theorem State.timer_noteDispatch (s : State) (o : Origin) (y : T) (i : Nat) : (s.noteDispatch o).timer y i = s.timer y i := by
  unfold State.noteDispatch; split <;> rfl

@[simp] theorem State.now_noteDispatch (s : State) (o : Origin) : (s.noteDispatch o).now = s.now := by
  unfold State.noteDispatch; split <;> simp

@[simp] theorem State.get_entered (s : State) (o : Origin) (b : Body) (p : P) (i : Nat) (h0 : P.ackCsn ≠ p) : (s.entered o b).get p i = s.get p i := by
  unfold State.entered; split <;> simp [h0]

@[simp] theorem State.var_entered (s : State) (o : Origin) (b : Body) (y : V) (i : Nat) (h0 : V.ackSeen ≠ y) (h1 : V.crossingLost ≠ y) : (s.entered o b).var y i = s.var y i := by
  unfold State.entered; split <;> simp [h0, h1]

@[simp] theorem State.timer_entered (s : State) (o : Origin) (b : Body) (y : T) (i : Nat) : (s.entered o b).timer y i = s.timer y i := by
  unfold State.entered; split <;> simp

@[simp] theorem State.now_entered (s : State) (o : Origin) (b : Body) : (s.entered o b).now = s.now := by
  unfold State.entered; split <;> simp

@[simp] theorem State.get_touched (s : State) (u : State) (o : Origin) (csn : Nat) (p : P) (i : Nat) : (s.touched u o csn).get p i = s.get p i := by
  unfold State.touched
  have h : ∀ (l : List ObjId) (z : State), (l.foldl (fun s x => s.touch x csn) z).get p i = z.get p i := by
    intro l
    induction l with
    | nil => intro z; rfl
    | cons a l ih => intro z; rw [List.foldl_cons, ih]; rfl
  rw [h]; rfl

@[simp] theorem State.var_touched (s : State) (u : State) (o : Origin) (csn : Nat) (y : V) (i : Nat) : (s.touched u o csn).var y i = s.var y i := by
  unfold State.touched
  have h : ∀ (l : List ObjId) (z : State), (l.foldl (fun s x => s.touch x csn) z).var y i = z.var y i := by
    intro l
    induction l with
    | nil => intro z; rfl
    | cons a l ih => intro z; rw [List.foldl_cons, ih]; rfl
  rw [h]; rfl

@[simp] theorem State.timer_touched (s : State) (u : State) (o : Origin) (csn : Nat) (y : T) (i : Nat) : (s.touched u o csn).timer y i = s.timer y i := by
  unfold State.touched
  have h : ∀ (l : List ObjId) (z : State), (l.foldl (fun s x => s.touch x csn) z).timer y i = z.timer y i := by
    intro l
    induction l with
    | nil => intro z; rfl
    | cons a l ih => intro z; rw [List.foldl_cons, ih]; rfl
  rw [h]; rfl

@[simp] theorem State.now_touched (s : State) (u : State) (o : Origin) (csn : Nat) : (s.touched u o csn).now = s.now := by
  unfold State.touched
  have h : ∀ (l : List ObjId) (z : State), (l.foldl (fun s x => s.touch x csn) z).now = z.now := by
    intro l
    induction l with
    | nil => intro z; rfl
    | cons a l ih => intro z; rw [List.foldl_cons, ih]; rfl
  rw [h]; rfl

@[simp] theorem State.get_outcome (s : State) (o : Origin) (r : Res) (csn : Nat) (p : P) (i : Nat) (h0 : P.busyReplies ≠ p) (h1 : P.recState ≠ p) : (s.outcome o r csn).get p i = s.get p i := by
  unfold State.outcome
  split
  · rw [State.get_recommit (h0 := h0) (h1 := h1), State.get_answer (h0 := h0) (h1 := h1)]
  · dsimp only
    rw [State.get_recommit (h0 := h0) (h1 := h1), State.get_answer (h0 := h0) (h1 := h1), State.get_modSession]; rfl
  · rw [State.get_recommit (h0 := h0) (h1 := h1)]
    split
    · rw [State.get_noteRecent]
    · rfl

@[simp] theorem State.var_outcome (s : State) (o : Origin) (r : Res) (csn : Nat) (y : V) (i : Nat) (h0 : V.recTriggers ≠ y) : (s.outcome o r csn).var y i = s.var y i := by
  unfold State.outcome
  split
  · rw [State.var_recommit (h0 := h0), State.var_answer (h0 := h0)]
  · dsimp only
    rw [State.var_recommit (h0 := h0), State.var_answer (h0 := h0), State.var_modSession]; rfl
  · rw [State.var_recommit (h0 := h0)]
    split
    · rw [State.var_noteRecent]
    · rfl

@[simp] theorem State.timer_outcome (s : State) (o : Origin) (r : Res) (csn : Nat) (y : T) (i : Nat) (h0 : T.eventNotice ≠ y) (h1 : T.recFreeze ≠ y) : (s.outcome o r csn).timer y i = s.timer y i := by
  unfold State.outcome
  split
  · rw [State.timer_recommit (h0 := h0) (h1 := h1), State.timer_answer (h0 := h0) (h1 := h1)]
  · dsimp only
    rw [State.timer_recommit (h0 := h0) (h1 := h1), State.timer_answer (h0 := h0) (h1 := h1), State.timer_modSession]; rfl
  · rw [State.timer_recommit (h0 := h0) (h1 := h1)]
    split
    · rw [State.timer_noteRecent]
    · rfl

@[simp] theorem State.now_outcome (s : State) (o : Origin) (r : Res) (csn : Nat) : (s.outcome o r csn).now = s.now := by
  unfold State.outcome
  dsimp only
  repeat' first
    | rfl
    | (simp; done)
    | rw [State.each_eq (fun s => s.now)]
    | rw [State.when_eq (fun s => s.now)]
    | split
    | intro _

@[simp] theorem State.get_conclude (s : State) (u : State) (o : Origin) (r : Res) (p : P) (i : Nat) (h0 : P.ackCsn ≠ p) (h1 : P.busyReplies ≠ p) (h2 : P.recState ≠ p) : (s.conclude u o r).get p i = s.get p i := by
  unfold State.conclude
  dsimp only
  repeat' first
    | rfl
    | (simp [h0, h1, h2]; done)
    | rw [State.each_eq (fun s => s.get p i)]
    | rw [State.when_eq (fun s => s.get p i)]
    | split
    | intro _

@[simp] theorem State.var_conclude (s : State) (u : State) (o : Origin) (r : Res) (y : V) (i : Nat) (h0 : V.ackSeen ≠ y) (h1 : V.crossingLost ≠ y) (h2 : V.recTriggers ≠ y) : (s.conclude u o r).var y i = s.var y i := by
  unfold State.conclude
  dsimp only
  repeat' first
    | rfl
    | (simp [h0, h1, h2]; done)
    | rw [State.each_eq (fun s => s.var y i)]
    | rw [State.when_eq (fun s => s.var y i)]
    | split
    | intro _

@[simp] theorem State.timer_conclude (s : State) (u : State) (o : Origin) (r : Res) (y : T) (i : Nat) (h0 : T.eventNotice ≠ y) (h1 : T.recFreeze ≠ y) : (s.conclude u o r).timer y i = s.timer y i := by
  unfold State.conclude
  dsimp only
  repeat' first
    | rfl
    | (simp [h0, h1]; done)
    | rw [State.each_eq (fun s => s.timer y i)]
    | rw [State.when_eq (fun s => s.timer y i)]
    | split
    | intro _

@[simp] theorem State.now_conclude (s : State) (u : State) (o : Origin) (r : Res) : (s.conclude u o r).now = s.now := by
  unfold State.conclude
  dsimp only
  repeat' first
    | rfl
    | (simp; done)
    | rw [State.each_eq (fun s => s.now)]
    | rw [State.when_eq (fun s => s.now)]
    | split
    | intro _

end Sys2Proof.Machine
end

