-- ==== Sys2Proof/Laws/Requests.lean ====
section
/-! SUPPORT. What a request does: one whose parameters its opcode refuses is answered so; one that is dispatched at once has its effect,
or leaves the state as it was; one whose entry is committed has its effect, the answer and the outcomes that may be reported. -/

namespace Sys2Proof.Machine

theorem State.noteDispatch_now (s : State) (o : Origin) : (s.noteDispatch o).now = s.now := by
  unfold State.noteDispatch; split <;> rfl

/-- What `take` does with a request that arrives: its admission is decided by its opcode's parameters. -/
theorem State.take_of_arrives {s v : State} {a : Arrival} {b : Body} (eff : State → State × Res) (h : s.arrives a b = some v) :
    s.take a b eff = match ((eff v).2.fault).getD .ok, b.op with
      | .ok, some op =>
        match v.attach a (v.newOrigin a op) with
        | some s => (s, none)
        | none => ((v.enrol a (v.newOrigin a op) b.opcode none).when a.hdr.safety (fun s => s.noteSafety a.binding),
            some (v.newOrigin a op, (classOf a.binding a.queue a.hdr.safety op).getD .bulk))
      | st, _ => ((v.noteSafetyRate a st).refuse a b st, none) := by
  unfold State.arrives at h
  dsimp only at h
  split at h
  · simp at h
  · rename_i h1
    split at h
    · simp at h
    · rename_i h2
      simp only [Option.some.injEq] at h
      subst h
      rw [not_or] at h1 h2
      obtain ⟨h3, h4⟩ := h1
      obtain ⟨h5, h6⟩ := h2
      have h6 : ((s.tick a.t).feedSession a.binding).checks a b false = .ok := by simpa using h6
      unfold State.take State.admission
      dsimp only
      rw [if_neg (by simpa using h3)]
      have h4 : (s.tick a.t).packetCut a.binding = none := by simpa using h4
      simp only [h4, h6, if_neg h5]
      all_goals rfl

theorem State.request_of_refused {s v : State} {a : Arrival} {b : Body} {st : Status} (eff : State → State × Res)
    (h : s.arrives a b = some v) (hf : (eff v).2.fault = some st) : s.request a b eff = v.refuse a b st := by
  have hne : st ≠ .ok ∧ st ≠ .busy := by
    unfold Res.fault at hf
    split at hf <;> simp only [Option.some.injEq, reduceCtorEq] at hf <;> subst hf <;> decide
  have hr : v.noteSafetyRate a st = v := by
    unfold State.noteSafetyRate
    simp [hne.2]
  unfold State.request
  rw [State.take_of_arrives eff h, hf]
  simp only [Option.getD_some]
  split
  · rename_i s' heq
    split at heq
    · exact absurd rfl hne.1
    · simp only [Prod.mk.injEq, and_true] at heq
      rw [← heq, hr]
  · rename_i heq
    split at heq
    · exact absurd rfl hne.1
    · simp at heq

/-- A request that is dispatched at once runs there. -/
theorem State.request_of_reaches {s v : State} {a : Arrival} {b : Body} {o : Origin} (eff : State → State × Res)
    (h : s.reaches a b eff = some (v, o)) :
    s.request a b eff =
      if o.op.info.changes && !o.safety && !(eff (v.entered o b)).2.commits then v.outcome o (eff (v.entered o b)).2 v.journal.committed
      else if o.op.info.changes && !o.safety && !(v.entered o b).allCommitted then
        { (v.entered o b) with unapplied := (v.entered o b).unapplied ++ [⟨(v.entered o b).journal.assigned, a, b, o⟩] }
      else (eff (v.entered o b)).1.conclude (v.entered o b) o (eff (v.entered o b)).2 := by
  unfold State.reaches at h
  split at h
  · rename_i w op hw hop
    dsimp only at h
    split at h
    · simp at h
    · rename_i hg
      split at h
      · simp at h
      · rename_i hq
        split at h
        · simp at h
        · rename_i hd
          simp only [Option.some.injEq, Prod.mk.injEq] at h
          obtain ⟨rfl, rfl⟩ := h
          simp only [not_or, Bool.not_eq_true] at hg hq
          obtain ⟨hf, ha⟩ := hg
          have hf : (eff w).2.fault = none := by simpa using hf
          have ha : w.attach a (w.newOrigin a op) = none := by simpa using ha
          unfold State.request
          rw [State.take_of_arrives eff hw]
          simp only [hf, Option.getD_none, hop, ha, hq, if_false, Bool.false_eq_true]
          simp only [not_or] at hd
          obtain ⟨h1, h2, h3, h4, h5, h6⟩ := hd
          unfold State.run
          simp only [h1, h2, h3, h4, h5, if_false, Bool.false_eq_true]
          rw [if_neg (by simpa using h6)]
  · simp at h

/-- A request that is turned away after its dispatch leaves the state it was dispatched in, but for its answer. -/
theorem State.request_of_failed {s v : State} {a : Arrival} {b : Body} {o : Origin} {r : Res} (eff : State → State × Res)
    (h : s.reaches a b eff = some (v, o)) (he : eff (v.entered o b) = (v.entered o b, r)) (hr : r.commits = false) :
    s.request a b eff = v.outcome o r v.journal.committed := by
  rw [State.request_of_reaches eff h, he]
  unfold State.entered State.conclude
  cases hc : o.op.info.changes <;> cases hs : o.safety <;> simp [hr]

/-- A request that opens has its effect and is concluded. -/
theorem State.request_of_opens {s u : State} {a : Arrival} {b : Body} {o : Origin} (eff : State → State × Res)
    (h : s.opens a b eff = some (u, o)) (hr : o.op.info.changes = false ∨ o.safety = true ∨ (eff u).2.commits = true) :
    s.request a b eff = (eff u).1.conclude u o (eff u).2 := by
  unfold State.opens at h
  split at h
  · rename_i v p hv
    dsimp only at h
    split at h
    · simp at h
    · rename_i hg
      simp only [Option.some.injEq, Prod.mk.injEq] at h
      obtain ⟨rfl, rfl⟩ := h
      rw [State.request_of_reaches eff hv]
      rw [if_neg (by rcases hr with hr | hr | hr <;> simp [hr])]
      rw [if_neg (by simp only [not_and, Bool.not_eq_false] at hg; simp only [Bool.and_eq_true, Bool.not_eq_true', not_and]; intro hx; simp [hg hx.1 hx.2])]
  · simp at h

/-- A request's origin names its opcode. -/
theorem State.reaches_op {s v : State} {a : Arrival} {b : Body} {o : Origin} {eff : State → State × Res}
    (h : s.reaches a b eff = some (v, o)) : b.op = some o.op := by
  unfold State.reaches at h
  split at h
  · rename_i op hw hop
    dsimp only at h
    split at h
    · simp at h
    · split at h
      · simp at h
      · split at h
        · simp at h
        · simp only [Option.some.injEq, Prod.mk.injEq] at h
          obtain ⟨-, rfl⟩ := h
          exact hop
  · simp at h

/-- A request that changes nothing and opens has its effect and is concluded. -/
theorem State.request_of_read {s u : State} {a : Arrival} {b : Body} {o : Origin} (eff : State → State × Res)
    (h : s.opens a b eff = some (u, o)) (hb : b.op.map (fun x => x.info.changes) = some false) :
    s.request a b eff = (eff u).1.conclude u o (eff u).2 := by
  refine State.request_of_opens eff h (Or.inl ?_)
  unfold State.opens at h
  split at h
  · rename_i v p hv
    dsimp only at h
    split at h
    · simp at h
    · simp only [Option.some.injEq, Prod.mk.injEq] at h
      obtain ⟨-, rfl⟩ := h
      rw [State.reaches_op hv] at hb
      simpa using hb
  · simp at h

theorem State.write_of_opens {s u : State} {a : Arrival} {p : P} {v : Int} {o : Origin} (eff : Nat → State → State × Res)
    (h : s.opensWrite a p v eff = some (u, o))
    (hr : o.op.info.changes = false ∨ o.safety = true ∨ (eff (writeIndex a p) u).2.commits = true) :
    s.write a p v eff = (eff (writeIndex a p) u).1.conclude u o (eff (writeIndex a p) u).2 := by
  unfold State.opensWrite at h
  split at h
  · rename_i hw
    rw [← State.request_of_opens _ h hr]
    unfold State.write State.writeAt
    simp only [hw]
    rfl
  · simp at h

theorem State.write_of_failed {s v : State} {a : Arrival} {p : P} {x : Int} {o : Origin} {r : Res} (eff : Nat → State → State × Res)
    (h : s.reachesWrite a p x eff = some (v, o))
    (he : eff (writeIndex a p) (v.entered o (.setProp p.desc.bytes x)) = (v.entered o (.setProp p.desc.bytes x), r)) (hr : r.commits = false) :
    s.write a p x eff = v.outcome o r v.journal.committed := by
  unfold State.reachesWrite at h
  split at h
  · rename_i hw
    rw [← State.request_of_failed _ h he hr]
    unfold State.write State.writeAt
    simp only [hw]
    rfl
  · simp at h

/-! ### What a request's arrival and its journal entry leave alone -/

theorem State.each_stage {α : Type} (l : List α) (f : State → α → State) (h : ∀ s x, (f s x).stage = s.stage) :
    ∀ s : State, (s.each l f).stage = s.stage := by
  unfold State.each
  induction l with
  | nil => intro s; rfl
  | cons x l ih => intro s; exact (ih _).trans (h s x)

theorem State.stitchSend_stage (s : State) (a b c k : Nat) (l : List Int) : (s.stitchSend a b c k l).stage = s.stage := by
  unfold State.stitchSend
  split <;> rfl

theorem State.journalWrite_stage (s : State) (e : Entry) : (s.journalWrite e).stage = s.stage := by
  unfold State.journalWrite
  split
  · rfl
  · show State.stage (State.each _ _ _) = _
    rw [State.each_stage]
    · rfl
    · intro s x
      have h (s : State) (c : Bool) (n : Nat) : (if c then s.followerAck x n else s).stage = s.stage := by
        split
        · exact State.stitchSend_stage _ _ _ _ _ _
        · rfl
      exact (h _ _ _).trans (State.stitchSend_stage _ _ _ _ _ _)

theorem State.entered_stage (s : State) (o : Origin) (b : Body) : (s.entered o b).stage = s.stage := by
  unfold State.entered State.journalCommand
  split
  · exact State.journalWrite_stage _ _
  · rfl

theorem State.noteDispatch_stage (s : State) (o : Origin) : (s.noteDispatch o).stage = s.stage := by
  unfold State.noteDispatch; split <;> rfl

theorem State.enrol_stage (s : State) (a : Arrival) (o : Origin) (n : Nat) (r : Option Reply) : (s.enrol a o n r).stage = s.stage := by
  unfold State.enrol; dsimp only; split <;> rfl

theorem State.arrives_stage {s v : State} {a : Arrival} {b : Body} (h : s.arrives a b = some v) : v.stage = s.stage := by
  have h1 (s : State) (b : Binding) : (s.feedSession b).stage = s.stage := by
    unfold State.feedSession; split <;> rfl
  unfold State.arrives at h
  dsimp only at h
  split at h
  · cases h
  · split at h
    · cases h
    · rw [← Option.some.inj h, h1]; rfl

theorem State.reaches_stage {s v : State} {a : Arrival} {b : Body} {o : Origin} {eff : State → State × Res} (h : s.reaches a b eff = some (v, o)) : v.stage = s.stage := by
  unfold State.reaches at h
  split at h
  · rename_i w op hw hop
    dsimp only at h
    split at h
    · simp at h
    · split at h
      · simp at h
      · split at h
        · simp at h
        · simp only [Option.some.injEq, Prod.mk.injEq] at h
          rw [← h.1, State.noteDispatch_stage, ← State.arrives_stage hw]
          unfold State.when
          split <;> exact State.enrol_stage _ _ _ _ _
  · simp at h

/-- The state a request opens in has the stage of the state it came to. -/
theorem State.opens_stage {s u : State} {a : Arrival} {b : Body} {o : Origin} {eff : State → State × Res} (h : s.opens a b eff = some (u, o)) : u.stage = s.stage := by
  unfold State.opens at h
  split at h
  · rename_i v o' hv
    dsimp only at h
    split at h
    · simp at h
    · simp only [Option.some.injEq, Prod.mk.injEq] at h
      rw [← h.1, State.entered_stage, State.reaches_stage hv]
  · simp at h

/-- Whether a request opens depends on its effect only through whether that refuses a parameter. -/
theorem State.opens_of_fault {s : State} {a : Arrival} {b : Body} {eff : State → State × Res}
    (h : ∀ v, s.arrives a b = some v → (eff v).2.fault = none) : s.opens a b eff = s.opens a b (fun u => (u, .st .ok)) := by
  have h2 : s.reaches a b eff = s.reaches a b (fun u => (u, .st .ok)) := by
    unfold State.reaches
    split
    · rename_i v op hv hop
      simp only [h v hv]
      rfl
    · rfl
  unfold State.opens
  rw [h2]

end Sys2Proof.Machine
end

