-- ==== Sys2Proof/WellFormed.lean ====
section
/-! DEFINITION. Which commands the outside can send: header fields within their widths (Table 3.1) and lists of bytes that are
bytes. A command's meaning is given for every operand; one that is not well formed stands for nothing on a wire. -/

namespace Sys2Proof

/-- Every number of a list fits a byte. -/
def bytesWf (l : List Nat) : Bool := l.all (fun b => decide (b < 256))

/-- A header's fields fit their widths (Table 3.1). -/
def Header.wf (h : Header) : Bool :=
  decide (h.version < 256) && decide (h.tag < 65536) && decide (h.queue < 65536) && decide (h.object < 4294967296) &&
  decide (h.property < 65536) && decide (h.paramLen < 65536) && decide (h.condCsn < 2 ^ 64) && decide (h.deadline < 2 ^ 64)

/-- An arrival names a queue and a slot of a ring (Tables 3.10, 3.19), and its header is well formed. -/
def Arrival.wf (a : Arrival) : Bool :=
  a.hdr.wf && decide (a.queue < 65536) && decide (a.slot < 256) &&
    (match a.binding with | .ring _ => decide (a.queue < 64) | _ => true)

/-- The byte lists of a parameter block are bytes. -/
def Body.wf : Body → Bool
  | .raiseEvent _ payload => bytesWf payload
  | .attest _ _ _ nonce => bytesWf nonce
  | .writeStage _ bytes => bytesWf bytes
  | .configureBus block => bytesWf block
  | _ => true

/-- A command is well formed. -/
def Instr.wf : Instr → Bool
  | .pgStbyRise _ _ _ => true
  | .pgStbyFall _ _ => true
  | .foreReady _ => true
  | .writePowerState a _ => a.wf
  | .enterRunning _ => true
  | .mainPowerGood _ _ _ => true
  | .mainPowerLost _ _ _ => true
  | .supplyPowerGood _ _ => true
  | .supplyPgTimeout _ _ => true
  | .supplyPgFall _ _ => true
  | .tileReady _ _ => true
  | .tileReadyTimeout _ _ => true
  | .coreUndervoltage _ _ => true
  | .coreUndervoltageClear _ => true
  | .runOnExpiry _ => true
  | .wakeTrigger _ _ _ => true
  | .norWriteComplete _ _ _ => true
  | .nandWriteComplete _ _ _ _ => true
  | .paceWindow _ _ _ _ _ _ => true
  | .writePaceMin a _ => a.wf
  | .refclkLost _ _ => true
  | .refclkRestored _ _ => true
  | .forwardedRefLost _ _ => true
  | .oscOffsetMeasure _ _ _ => true
  | .compensationUpdate _ => true
  | .writeCommonTime a _ => a.wf
  | .ppsEdge _ => true
  | .holdoverLimitReached _ => true
  | .guardClockFallback _ _ => true
  | .guardClockRestored _ _ => true
  | .islandClockStopped _ _ _ => true
  | .islandClockResumed _ _ _ => true
  | .crossingTimeout _ _ _ _ => true
  | .crossingFarReset _ _ => true
  | .crossingDrained _ _ _ => true
  | .crossingRearm _ _ => true
  | .privilegedSignal _ _ _ _ => true
  | .gantlineCrcError _ _ _ => true
  | .dispatchRound _ => true
  | .resourceWaitTimeout _ _ => true
  | .mctpInterimTimeout _ _ _ => true
  | .sessionTimeout _ _ => true
  | .watchReport _ _ _ => true
  | .eventNotice _ _ => true
  | .sqDoorbell _ _ _ _ => true
  | .sqFetch _ _ _ _ => true
  | .cqDoorbell _ _ _ _ => true
  | .evqDoorbell _ _ _ => true
  | .qpEnable _ _ _ _ _ => true
  | .qpDisable _ _ _ => true
  | .resetQueues _ _ => true
  | .evqEnable _ _ _ => true
  | .registerWrite _ _ _ _ => true
  | .getProp a => a.wf
  | .setProp a _ _ => a.wf
  | .getSnapshot a _ => a.wf
  | .watch a _ _ _ _ => a.wf
  | .negotiate a _ _ _ => a.wf
  | .hello a _ _ => a.wf
  | .keepalive a => a.wf
  | .recall a _ _ _ => a.wf
  | .close a => a.wf
  | .subscribe a _ => a.wf
  | .readEvents a _ _ => a.wf
  | .mctpPacket _ _ _ _ _ _ _ _ _ _ => true
  | .mctpSetEndpointId _ _ _ _ => true
  | .mctpGetEndpointId _ _ => true
  | .mctpGetVersionSupport _ _ _ => true
  | .mctpGetMessageTypeSupport _ _ => true
  | .mctpGetVendorMessageSupport _ _ _ => true
  | .mctpSendRetry _ _ _ => true
  | .ethInit _ _ _ _ _ => true
  | .ethFinish _ _ _ _ _ => true
  | .ethData _ _ _ _ _ _ _ => true
  | .ethHandshakeExpiry _ _ _ => true
  | .ethSessionExpiry _ _ _ => true
  | .heartbeatSend _ _ => true
  | .heartbeatReceive _ _ _ => true
  | .heartbeatTimeout _ _ _ => true
  | .fenceRequestExpiry _ _ _ => true
  | .loneMizzenCut _ => true
  | .leaderClaim _ _ _ => true
  | .journalEntry _ _ _ => true
  | .journalAck _ _ _ => true
  | .journalStall _ => true
  | .soloJournalWrite _ => true
  | .journalUncorrectable _ _ x => decide (x.addr < 2 ^ 48) && decide (x.bits < 2 ^ 80)
  | .checkpoint _ _ => true
  | .voterInputChange _ _ _ _ => true
  | .voteDisagree _ _ _ => true
  | .mirrorTakeover _ _ => true
  | .plannedMove _ _ => true
  | .writeLeader a _ => a.wf
  | .writeAdminState a _ => a.wf
  | .rejoinComplete _ _ => true
  | .rejoinTimeout _ _ => true
  | .foreLossGraceExpiry _ => true
  | .identity _ _ _ => true
  | .reefTable _ _ _ _ _ => true
  | .hint _ _ _ => true
  | .telemetry _ _ _ => true
  | .qstate _ _ _ _ => true
  | .imageStatus _ _ _ _ _ => true
  | .alert _ _ _ _ _ _ _ => true
  | .freqAck _ _ _ _ _ _ => true
  | .alertPinAssert _ _ => true
  | .alertNolinkReef _ _ => true
  | .alertNolinkFurl _ _ => true
  | .alertLinkHandover _ _ => true
  | .accelLossTimeout _ _ => true
  | .telemetrySilence _ _ => true
  | .silentFurlDelayExpiry _ _ => true
  | .quiesceTimeout _ _ => true
  | .signalDetect _ _ => true
  | .trainFlit _ _ b => bytesWf b
  | .dataFlit _ _ flags seq ack body crc => decide (flags < 256) && decide (seq < 65536) && decide (ack < 65536) && bytesWf body && decide (crc < 2 ^ 32)
  | .linkFlit _ _ flags body crc => decide (flags < 256) && bytesWf body && decide (crc < 2 ^ 32)
  | .replayTimeout _ _ => true
  | .portStateTimeout _ _ _ => true
  | .shroudGapTimeout _ _ _ => true
  | .timeFlitSend _ => true
  | .budgetResend _ => true
  | .trayRailSample _ _ => true
  | .seqRunStart _ _ => true
  | .railEnableSlot _ _ => true
  | .goodDeadlineExpiry _ _ => true
  | .railDisableSlot _ _ => true
  | .offDeadlineExpiry _ _ => true
  | .startWaitExpiry _ _ => true
  | .scopeDischarged _ _ => true
  | .dischargeTimeout _ _ => true
  | .firstFaultForm _ => true
  | .autoRestart _ => true
  | .startSequence a => a.wf
  | .stopSequence a => a.wf
  | .enableRail a => a.wf
  | .disableRail a => a.wf
  | .loadSequence a _ _ _ => a.wf
  | .readFirstFault a _ _ => a.wf
  | .clearFirstFault a => a.wf
  | .writeThresholds a _ => a.wf
  | .slotInstant _ _ _ => true
  | .sheetUpstreamFrame _ _ b0 c0 b1 c1 => bytesWf b0 && decide (c0 < 2 ^ 32) && bytesWf b1 && decide (c1 < 2 ^ 32)
  | .domainOcTripCheck _ _ => true
  | .legReplan _ => true
  | .legWakeDone _ _ => true
  | .legDrainDone _ _ => true
  | .writeLegAdmin a _ => a.wf
  | .writeSetpoint a _ => a.wf
  | .calRotation _ => true
  | .calCompareDone _ _ => true
  | .calResult _ _ _ _ _ _ _ => true
  | .sheetTrainFrame _ _ b => bytesWf b
  | .sideSlice _ _ b => bytesWf b
  | .sliceReplayTimeout _ _ => true
  | .relayIdentity _ _ _ => true
  | .configAck _ _ _ _ _ => true
  | .relayAlert _ _ _ _ _ => true
  | .sheetPortTimeout _ _ => true
  | .relayLossTimeout _ _ => true
  | .accelEpoch _ _ => true
  | .trayEpoch _ => true
  | .rackEpoch _ => true
  | .installationEpoch _ => true
  | .grantEffective _ _ => true
  | .limitEffective _ _ => true
  | .rackHelloSend _ => true
  | .rackHello _ _ _ => true
  | .budgetReport _ _ => true
  | .budgetGrant _ _ => true
  | .rackHoldExpiry _ _ => true
  | .writeRackOther a _ => a.wf
  | .fastSenseSample _ _ => true
  | .fastStage2Check _ => true
  | .fastFurlExpiry _ => true
  | .fastReleaseExpiry _ => true
  | .reefStepDown _ _ => true
  | .complianceCheck _ _ => true
  | .reefDurationExpiry _ _ => true
  | .setBudget a _ => a.wf
  | .setWeight a _ => a.wf
  | .setMinGrant a _ => a.wf
  | .readGrants a => a.wf
  | .reef a _ _ => a.wf
  | .releaseReef a => a.wf
  | .forecastStep _ => true
  | .forecastPublish _ _ => true
  | .knownAnswerTest _ _ _ _ => true
  | .trainingSampleComplete _ _ _ => true
  | .minibatchDone _ _ _ => true
  | .candidateEvaluate _ _ => true
  | .modelSwitchInstant _ => true
  | .errorWindow _ => true
  | .shelfWeightWrite _ _ => true
  | .shelfRestore _ => true
  | .loadModel a _ => a.wf
  | .activateModel a _ => a.wf
  | .retireModel a => a.wf
  | .queryForecast a => a.wf
  | .setTraining a _ _ _ _ _ _ _ _ => a.wf
  | .readModelStats a => a.wf
  | .writeTrainTile a _ => a.wf
  | .writeFcSvnFloor a _ => a.wf
  | .lockRound _ => true
  | .lockUp _ _ _ => true
  | .lockCommitSend _ => true
  | .lockCommit _ _ _ => true
  | .freqAckDeadline _ => true
  | .lockJoin _ _ _ _ _ => true
  | .lockJoinAck _ _ _ _ => true
  | .lockJoinTimeout _ => true
  | .joinGroup a _ _ => a.wf
  | .leaveGroup a _ => a.wf
  | .readGroup a => a.wf
  | .loadPhasePlan a _ => a.wf
  | .clearPhasePlan a _ _ => a.wf
  | .readPhasePlan a _ _ => a.wf
  | .controllerSensorSample _ _ => true
  | .housekeepingSample _ _ _ => true
  | .coolantTempSample _ _ => true
  | .thermalCeilingUpdate _ => true
  | .thermalReefStep _ => true
  | .furlCutInstant _ _ => true
  | .furl a _ => a.wf
  | .driveCurrentSample _ _ => true
  | .tachEdge _ _ => true
  | .kickTimeExpiry _ _ => true
  | .restTimeExpiry _ _ => true
  | .tachLossExpiry _ _ => true
  | .stallRetryExpiry _ _ => true
  | .speedLoopUpdate _ => true
  | .fanTableHandover _ => true
  | .hostSilenceExpiry _ => true
  | .flowUpdate _ _ => true
  | .pressureSample _ _ => true
  | .coolantUpdate _ _ => true
  | .leakSample _ _ => true
  | .leakConfirmExpiry _ _ => true
  | .leakEscalateExpiry _ _ => true
  | .leakDryExpiry _ _ => true
  | .leakCutExpiry _ => true
  | .setFan a _ _ => a.wf
  | .setPump a _ _ => a.wf
  | .setValve a _ _ => a.wf
  | .isolateLeak a _ => a.wf
  | .resetLeakZone a => a.wf
  | .loadFanTable a _ _ _ _ => a.wf
  | .setWaterMode a _ _ _ => a.wf
  | .add _ _ _ _ _ => true
  | .sub _ _ _ _ _ => true
  | .and _ _ _ _ _ => true
  | .or _ _ _ _ _ => true
  | .xor _ _ _ _ _ => true
  | .shl _ _ _ _ _ => true
  | .shr _ _ _ _ _ => true
  | .sar _ _ _ _ _ => true
  | .mul _ _ _ _ _ => true
  | .mulh _ _ _ _ _ => true
  | .div _ _ _ _ _ => true
  | .divu _ _ _ _ _ => true
  | .min _ _ _ _ _ => true
  | .max _ _ _ _ _ => true
  | .cmp _ _ _ _ => true
  | .sadd _ _ _ _ _ => true
  | .ssub _ _ _ _ _ => true
  | .addi _ _ _ _ _ => true
  | .andi _ _ _ _ _ => true
  | .ori _ _ _ _ _ => true
  | .xori _ _ _ _ _ => true
  | .shifti _ _ _ _ _ => true
  | .cmpi _ _ _ _ => true
  | .lui _ _ _ _ => true
  | .movi _ _ _ _ => true
  | .ldw _ _ _ _ _ => true
  | .ldh _ _ _ _ _ => true
  | .ldb _ _ _ _ _ => true
  | .stw _ _ _ _ _ => true
  | .sth _ _ _ _ _ => true
  | .stb _ _ _ _ _ => true
  | .br _ _ _ _ => true
  | .call _ _ _ => true
  | .jr _ _ _ => true
  | .rdp _ _ _ _ _ => true
  | .fcq _ _ _ _ _ => true
  | .gcmd _ _ _ _ body => body.wf
  | .gpoll _ _ _ _ => true
  | .eoi _ _ => true
  | .time _ _ _ _ => true
  | .tset _ _ _ => true
  | .halt _ _ => true
  | .occurrencePost _ => true
  | .engineDispatch _ _ => true
  | .moderationExpiry _ _ _ => true
  | .timerTick _ _ => true
  | .mailboxReply _ _ => true
  | .ecHoldLimitExpiry _ _ => true
  | .writeSrcConfig a _ _ => a.wf
  | .writeSrcStatus a _ _ => a.wf
  | .softPend a _ => a.wf
  | .writeEcHold a _ => a.wf
  | .writeAutostart a _ => a.wf
  | .loadProgram a _ => a.wf
  | .startProgram a => a.wf
  | .stopProgram a => a.wf
  | .readEngine a => a.wf
  | .raiseEvent a _ payload => a.wf && bytesWf payload
  | .linkIdentity _ _ _ => true
  | .linkIdentityAck _ _ _ _ _ _ => true
  | .treeAdvertSend _ => true
  | .treeAdvert _ _ _ => true
  | .advertStale _ => true
  | .ratlineMessageRoute _ _ m => bytesWf m.body
  | .vc1CreditTimeout _ _ => true
  | .ratlineTimeSend _ => true
  | .ratlineTimeFlit _ _ _ _ _ _ => true
  | .opStart _ _ _ hdr body => hdr.wf && body.wf
  | .opDown _ _ _ => true
  | .opUp _ _ _ => true
  | .opWaitClose _ => true
  | .remoteRequest _ _ _ _ _ hdr body => hdr.wf && body.wf
  | .remoteReply _ _ _ packet => bytesWf packet
  | .remoteTimeoutExpiry _ => true
  | .snapData _ m => bytesWf m.result
  | .snapshotCollectTimeout _ => true
  | .exportData _ _ _ _ _ _ _ => true
  | .exportAck _ _ _ _ => true
  | .exportEnd _ _ _ _ => true
  | .barrier a _ => a.wf
  | .reduce a _ => a.wf
  | .broadcast a _ hdr inner => a.wf && hdr.wf && inner.wf
  | .snapshotGlobal a _ => a.wf
  | .resetGlobal a _ => a.wf
  | .writePortAdmin a _ => a.wf
  | .busGrant _ _ => true
  | .queueWaitExpiry _ _ => true
  | .twoWireTransactionEnd _ _ _ => true
  | .twoWireTimeout _ _ _ _ => true
  | .busIllegalCond _ _ _ _ _ => true
  | .targetIllegalCond _ _ _ _ _ => true
  | .busRecovery _ _ _ _ _ => true
  | .sclStuck _ _ _ _ _ => true
  | .failedPortRetry _ _ _ _ _ => true
  | .windowWrite _ _ _ data _ => bytesWf data
  | .windowRead _ _ _ _ => true
  | .mbxSubmit _ _ _ => true
  | .mbxFree _ _ => true
  | .busTransfer a _ _ => a.wf
  | .busRecover a => a.wf
  | .configureBus a block => a.wf && bytesWf block
  | .pmbusRead a _ _ _ => a.wf
  | .pmbusWrite a _ _ _ _ => a.wf
  | .sramScrub _ _ words => words.all (fun w => decide (w.1 < 2 ^ 48) && decide (w.2 < 2 ^ 80))
  | .patrolScrub _ _ words => words.all (fun w => decide (w.addr < 2 ^ 48) && decide (w.bits < 2 ^ 80))
  | .memoryUncorrectable _ w => match w with
    | .sram _ _ addr bits _ _ => decide (addr < 2 ^ 48) && decide (bits < 2 ^ 80)
    | .dram _ w _ _ _ => decide (w.addr < 2 ^ 48) && decide (w.bits < 2 ^ 80)
  | .stackLost _ _ _ => true
  | .recorderFreezeInstant _ => true
  | .autoReleaseExpiry _ => true
  | .stippleFrame _ => true
  | .writeStippleInterval a _ => a.wf
  | .exportComplete _ _ => true
  | .triggerRecorder a _ => a.wf
  | .freezeRecorder a => a.wf
  | .releaseRecorder a => a.wf
  | .exportRecorder a _ _ _ _ _ _ _ _ => a.wf
  | .readStipple a _ _ _ => a.wf
  | .keySlotProgram _ _ _ _ => true
  | .attest a _ _ _ nonce => a.wf && bytesWf nonce
  | .revokeKey a => a.wf
  | .readKeys a => a.wf
  | .openStage a _ _ => a.wf
  | .writeStage a _ bytes => a.wf && bytesWf bytes
  | .verifyStage a => a.wf
  | .planUpdate a => a.wf
  | .etch a => a.wf
  | .activate a _ => a.wf
  | .stepTimeoutExpiry _ => true
  | .confirm a => a.wf
  | .autoConfirmExpiry _ => true
  | .readPlates a => a.wf
  | .inject a _ => a.wf
  | .injectionFire _ _ _ => true
  | .injectionHoldEnd _ _ => true
  | .armLimitExpiry _ _ => true
  | .setMaintenance a _ _ => a.wf
  | .maintenanceExpiry _ => true
  | .selftest a _ _ => a.wf
  | .selftestComplete _ object _ _ _ => decide (object < 4294967296)
  | .calibrate a _ => a.wf
  | .calibrationPeriod _ => true
  | .calibrateComplete _ object _ _ _ _ => decide (object < 4294967296)
  | .logRecordWrite _ => true
  | .writeLogCursor a _ => a.wf
  | .ppsEdgeMissing _ => true
  | .alertPinRelease _ _ => true
  | .tripResetRelease _ _ => true
  | .invalidSyncHeaders _ _ => true
  | .stageVerifyDone _ => true
  | .modelVerifyDone _ _ => true
  | .programVerifyDone _ _ => true
  | .foreignStartStop _ _ _ => true
  | .busIdleTime _ _ => true

end Sys2Proof
end

