-- ==== Sys2Proof/Tests/Slice0.lean ====
section
/-! SUPPORT. Tests: terms WellFormed refuses, and for each statement a state and operands that meet its hypotheses. -/

namespace Sys2Proof.Tests

set_option Elab.async false

open Sys2Proof Sys2Proof.Machine

/-- A KT-880 in TRIO and RUNNING with a description in force. -/
def trio : State :=
  { (((((((State.reset.setV .tilePhase 0 3).setV .tilePhase 1 3).setV .tilePhase 2 3).setV .serving 0 1).setV .mainGood 0 1).put .powerState 0 3).put .feedsRequired 0 2)
    with td := some {} }

/-- The same with one session, bound to the ring of endpoint 0, that has negotiated every feature. -/
def host : State := { trio with sessions := [{ id := 1, token := 7, features := 2 ^ 64 - 1, bindings := [.ring 0] }] }

/-- A request of that session on an object. -/
def ask (o : ObjId) : Arrival := { t := 5, binding := .ring 0, hdr := { object := o, replyRequired := true } }

/-- A request opens, and the state its effect acts on meets a condition. -/
def opensWith (x : Option (State × Origin)) (c : State → Origin → Bool) : Bool :=
  match x with
  | some (u, o) => c u o
  | none => false

/-! ### What WellFormed refuses -/

theorem test_wf_takes_a_request : (Instr.getProp (ask oDevice)).wf = true := by decide

theorem test_wf_refuses_wide_header_fields :
    ([{ version := 256 }, { tag := 65536 }, { queue := 65536 }, { object := 4294967296 }, { property := 65536 },
      { paramLen := 65536 }, { condCsn := 2 ^ 64 }, { deadline := 2 ^ 64 }] : List Header).all
      (fun h => !(Instr.getProp { hdr := h }).wf) = true := by decide

theorem test_wf_refuses_wide_arrivals :
    ([{ queue := 64 }, { slot := 256 }, { binding := .firmware, queue := 65536 }] : List Arrival).all
      (fun a => !(Instr.getProp a).wf) = true := by decide

theorem test_wf_refuses_wide_bytes :
    ([.raiseEvent {} 1 [256], .attest {} 0 0 0 [256], .writeStage {} 0 [0, 256], .configureBus {} [256]] : List Instr).all
      (fun i => !i.wf) = true := by decide

theorem test_wf_refuses_wide_bodies :
    ([.raiseEvent 1 [256], .attest 0 0 0 [256], .writeStage 0 [256], .configureBus [256]] : List Body).all
      (fun b => !b.wf) = true := by decide

theorem test_wf_refuses_wide_objects :
    ([.selftestComplete 0 4294967296 0 0 0, .calibrateComplete 0 4294967296 0 true 0 []] : List Instr).all (fun i => !i.wf) = true := by decide

theorem test_wf_refuses_wide_rows :
    ([.gcmd 0 0 0 0 (.configureBus [256]), .opStart 0 0 0 { tag := 65536 } .close, .opStart 0 0 0 {} (.configureBus [256]),
      .remoteRequest 0 0 0 0 0 { tag := 65536 } .close, .remoteRequest 0 0 0 0 0 {} (.configureBus [256]), .remoteReply 0 0 0 [256],
      .windowWrite 0 0 none [256] true] : List Instr).all (fun i => !i.wf) = true := by decide

theorem test_wf_refuses_wide_flits :
    ([.trainFlit 0 (.shroud 0) [256], .dataFlit 0 (.shroud 0) 256 0 0 [] 0, .dataFlit 0 (.shroud 0) 0 65536 0 [] 0, .dataFlit 0 (.shroud 0) 0 0 65536 [] 0,
      .dataFlit 0 (.shroud 0) 0 0 0 [256] 0, .dataFlit 0 (.shroud 0) 0 0 0 [] (2 ^ 32), .linkFlit 0 (.shroud 0) 256 [] 0, .linkFlit 0 (.shroud 0) 0 [256] 0,
      .linkFlit 0 (.shroud 0) 0 [] (2 ^ 32)] : List Instr).all (fun i => !i.wf) = true := by decide

theorem test_wf_refuses_wide_frames :
    ([.sheetUpstreamFrame 0 0 [256] 0 [] 0, .sheetUpstreamFrame 0 0 [] (2 ^ 32) [] 0, .sheetUpstreamFrame 0 0 [] 0 [256] 0, .sheetUpstreamFrame 0 0 [] 0 [] (2 ^ 32),
      .sheetTrainFrame 0 0 [256], .sideSlice 0 0 [256], .ratlineMessageRoute 0 0 { kind := 0x50, route := 1, src := 0, dst := 0, serial := 0, hops := 0, body := [256] },
      .snapData 0 { opId := 1, taddr := 0, serial := 0, rackId := 0, unlocked := false, timeState := 0, result := [256] }] : List Instr).all (fun i => !i.wf) = true := by decide

theorem test_wf_refuses_wide_words :
    ([.journalUncorrectable 0 1 ⟨0, false, 2 ^ 48, 0⟩, .journalUncorrectable 0 1 ⟨0, false, 0, 2 ^ 80⟩, .sramScrub 0 0 [(2 ^ 48, 0)], .sramScrub 0 0 [(0, 2 ^ 80)],
      .patrolScrub 0 0 [⟨0, 0, 2 ^ 48, 0⟩], .patrolScrub 0 0 [⟨0, 0, 0, 2 ^ 80⟩], .memoryUncorrectable 0 (.sram 0 0 (2 ^ 48) 0 0 0), .memoryUncorrectable 0 (.sram 0 0 0 (2 ^ 80) 0 0),
      .memoryUncorrectable 0 (.dram 0 ⟨0, 0, 2 ^ 48, 0⟩ 0 false none), .memoryUncorrectable 0 (.dram 0 ⟨0, 0, 0, 2 ^ 80⟩ 0 false none)] : List Instr).all
      (fun i => !i.wf) = true := by decide

theorem test_emptyQueue_met : State.reset.pending = [] := by decide

theorem test_canonical_met : State.reset.canonical := by
  refine ⟨⟨⟨?_, ?_⟩, ?_⟩, ⟨⟨?_, ?_⟩, ?_⟩, ⟨⟨?_, ?_⟩, ?_⟩, ⟨?_, ?_⟩⟩ <;> simp [State.reset, rowWf, Tab.get, entryGet]

theorem test_standbyPower_met :
    State.reset.get .powerState = psOff ∧ State.reset.var .tilePhase 0 = 0 ∧ State.reset.var .heldReset = 0 ∧
    (trio.tick 5).var .tilePhase 0 ≠ 0 ∧
    ((State.reset.setV .tilePhase 0 2).tick 5).var .tilePhase 0 = 2 ∧ ((State.reset.setV .tilePhase 0 2).tick 5).flag .rejoining 0 = false ∧
    ((State.reset.setV .tilePhase 0 2).tick 5).get .powerState = psOff := by
  decide

/-- STANDBY with a description, Fore alone in service. -/
def standby : State :=
  { (((((State.reset.setV .tilePhase 0 3).setV .serving 0 1).put .powerState 0 2).put .flowProven 0 1).put .feedsRequired 0 2) with td := some {} }

/-- A session on Fore's Ethernet-less byte window: the firmware asks. -/
def own (o : ObjId) : Arrival := { t := 5, binding := .firmware, hdr := { object := o } }

theorem test_powerState_met :
    opensWith (trio.opensWrite (own oDevice) .powerState 3 (setPowerState (trio.originOf (own oDevice) .setProp) 3)) (fun u _ => decide (u.get .powerState = 3 ∧ u.var .goal < 0 ∧ u.td.isSome)) = true ∧
    (let s := trio.put .powerState 0 2
     opensWith (s.opensWrite (own oDevice) .powerState psRunning (setPowerState (s.originOf (own oDevice) .setProp) psRunning))
      (fun u _ => decide (u.get .powerState = psStandby ∧ u.var .goal < 0 ∧ u.td.isSome)) = true) ∧
    opensWith (standby.reachesWrite (own oDevice) .powerState psRunning (setPowerState (standby.originOf (own oDevice) .setProp) psRunning))
      (fun v o => let w := v.entered o (.setProp P.powerState.desc.bytes psRunning)
        decide (o.safety = false ∧ w.allCommitted = false ∧ w.get .powerState = psStandby ∧ w.var .goal < 0 ∧ w.td.isSome)) = true ∧
    opensWith (trio.opensWrite (own oDevice) .powerState 2 (setPowerState (trio.originOf (own oDevice) .setProp) 2)) (fun u _ => decide (u.get .powerState = 3 ∧ u.var .goal < 0)) = true ∧
    (let u := (standby.setV .goal 0 3).tick 5
     u.get .powerState = psStandby ∧ u.var .goal = psRunning ∧ u.td.isSome ∧ u.get .flowProven = 1 ∧ (u.zonesHolding 2).isEmpty ∧
       u.flag .restart43 = false) ∧
    (let u := standby.tick 5
     u.flag .mainGood = false ∧ u.td.isSome ∧ u.getN .feedsRequired ≤ 4 ∧ u.inService u.leader) ∧
    (let u := (standby.setV .mainGood 0 1).tick 5
     u.flag .mainGood = true ∧ 0 < u.getN .feedsRequired ∧ u.get .powerState = psStandby) ∧
    (let u := trio.tick 5
     u.flag .mainGood = true ∧ 0 < u.getN .feedsRequired ∧ u.get .powerState = psRunning) ∧
    (let u := ((standby.setV .goal 0 psDeepSleep).setT .runOn 0 (some 3)).tick 5
     u.due .runOn ∧ u.get .powerState = psStandby ∧ u.var .goal = psDeepSleep) := by decide

theorem test_powerDenied_met :
    (let s := standby.put .powerState 0 psRecovery
     opensWith (s.reachesWrite (own oDevice) .powerState 3 (setPowerState (s.originOf (own oDevice) .setProp) 3))
      (fun v o => decide ((v.entered o (.setProp P.powerState.desc.bytes 3)).get .powerState = psRecovery)) = true) := by decide

theorem test_wake_met : ((State.reset.put .powerState 0 psDeepSleep).tick 5).get .powerState = psDeepSleep ∧
    ((State.reset.put .powerState 0 psDeepSleep).tick 5).var .tilePhase 0 = 0 := by decide

theorem test_supplies_met :
    ((trio.setV .tilePhase 1 1).tick 5).flag .rejoining 1 = false ∧
    (((trio.setV .tilePhase 1 1).setV .rejoining 1 1).tick 5).flag .rejoining 1 = true ∧
    (((trio.setV .tilePhase 1 1).setT .supplyPg 1 (some 4)).tick 5).due .supplyPg 1 = true ∧
    ((trio.setV .pad outVddm 1).tick 5).padOf outVddm = 1 ∧ ((trio.setV .pad outVddm 1).tick 5).var .tilePhase 1 = 3 ∧
    (((trio.setV .tilePhase 1 2).setT .tileReady 1 (some 4)).tick 5).due .tileReady 1 = true ∧
    (let u := (trio.setV .tilePhase 1 2).tick 5
     u.var .tilePhase 1 = 2 ∧ u.flag .rejoining 1 = false ∧ u.flag .tileReset 1 = false ∧ u.flag .electing = false ∧
       u.get .powerState = psRunning ∧ u.imageFor 1 = some 0) ∧
    (trio.tick 5).var .tilePhase 0 = 3 ∧ (trio.tick 5).var .tilePhase 1 = 3 ∧ (trio.tick 5).var .heldReset = 0 ∧
    (standby.tick 5).var .tilePhase 0 = 3 ∧ (standby.tick 5).var .tilePhase 1 = 0 ∧ (standby.tick 5).var .tilePhase 2 = 0 ∧
    ((State.reset.setV .heldReset 0 1).tick 5).var .heldReset = 1 ∧ ((State.reset.setV .heldReset 0 2).tick 5).var .heldReset = 2 := by decide

theorem test_clocks_met :
    (trio.tick 5).votes 1 = true ∧ (trio.tick 5).injected (0x044 + 16 * 1) = none ∧
    opensWith (trio.opensWrite (own (oTile 1)) .paceMin 0 (setPaceMin 0)) (fun _ _ => true) = true ∧
    (trio.tick 5).inService 0 = true ∧ (trio.tick 5).flag .oscUse 0 = false ∧
    ((trio.setV .oscUse 0 1).tick 5).flag .oscUse 0 = true ∧ (trio.tick 5).acts 0x040 = false ∧ (trio.tick 5).inService 2 = true ∧
    (trio.tick 5).validTemp 0 = none ∧
    (trio.tick 5).flag .guardFallback 1 = false ∧ ((trio.setV .guardFallback 1 1).tick 5).flag .guardFallback 1 = true ∧
    (trio.tick 5).acts (0x043 + 16 * 1) = false ∧ (trio.tick 5).member.island 1 0 = true ∧ ((trio.tick 5).varN .islandDown 16).testBit 0 = false ∧ (trio.tick 5).flag .oscUse 2 = false ∧
    (trio.tick 5).injected (0x041 + 16 * 1) = none := by decide

/-- A masthead locked to PPS. -/
def locked : State := (trio.put .timeStatus 0 (2 + 256 * 3)).put .depth 0 0

/-- A crossing of the stitch from Fore to Main. -/
def cross : Crossing := ⟨0, 2, 0⟩

theorem test_time_met :
    opensWith (trio.opensWrite (own oDevice) .commonTime 9 (setCommonTime 9)) (fun u _ => decide (u.timeSource < 2)) = true ∧
    opensWith (locked.reachesWrite (own oDevice) .commonTime 9 (setCommonTime 9))
      (fun v o => decide (2 ≤ (v.entered o (.setProp P.commonTime.desc.bytes 9)).timeSource)) = true ∧
    (locked.tick 5).isMasthead = true ∧ (locked.tick 5).tilesIn ≠ [] ∧ (locked.tick 5).timeState = 2 ∧ (locked.tick 5).timeSource = 3 ∧
    (locked.tick 5).now % sec ≤ 1000 ∧ 1000 < (locked.tick 2000).now % sec ∧
    ((trio.put .timeStatus 0 3).put .timeError 0 5).timeState = 3 ∧
    ((((trio.put .timeStatus 0 3).setV .holdErr 0 1000000000).put .holdoverLimit 0 4).tick 5).get .holdoverLimit
      < ((((trio.put .timeStatus 0 3).setV .holdErr 0 1000000000).put .holdoverLimit 0 4).tick 5).timeError ∧
    (trio.tick 50000).inService cross.tile.val = true ∧ (trio.tick 50000).var .crossing cross.id = crActive ∧
    (trio.tick 50000).crossLimit cross 0 ≤ (((trio.tick 50000).now - 0 : Nat) : Int) ∧
    (trio.setV .crossing cross.id crDraining).var .crossing cross.id = crDraining ∧
    (trio.setV .crossing cross.id crFlushed).var .crossing cross.id = crFlushed ∧ trio.farReady cross = true := by decide

/-- A request of the host on a property of an object. -/
def askProp (o : ObjId) (code : Nat) : Arrival :=
  { t := 5, binding := .ring 0, hdr := { object := o, property := code, replyRequired := true } }

theorem test_properties_met :
    opensWith (host.opens (askProp oDevice P.hostSilence.desc.code) .getProp (doGetProp (askProp oDevice P.hostSilence.desc.code))) (fun _ _ => true) = true ∧
    findProp oDevice P.hostSilence.desc.code = some .hostSilence ∧ findProp oDevice 0xFFF = none ∧
    (host.arrives (askProp oDevice 0xFFF) .getProp).isSome = true ∧
    opensWith (host.opens (askProp oDevice P.hostSilence.desc.code) (.setProp P.hostSilence.desc.bytes 20) (doSetProp (askProp oDevice P.hostSilence.desc.code) P.hostSilence.desc.bytes 20))
      (fun u _ => (setEffect (askProp oDevice P.hostSilence.desc.code) (u.originOf (askProp oDevice P.hostSilence.desc.code) .setProp) .hostSilence 20 0 u).2.commits) = true ∧
    writeStatus (askProp oDevice P.hostSilence.desc.code) .hostSilence P.hostSilence.desc.bytes 20 = .ok ∧
    (host.arrives (askProp oDevice P.hostSilence.desc.code) (.setProp P.hostSilence.desc.bytes (-1))).isSome = true ∧
    writeStatus (askProp oDevice P.hostSilence.desc.code) .hostSilence P.hostSilence.desc.bytes (-1) ≠ .ok ∧
    opensWith (host.opens (ask oDevice) (.getSnapshot [{ object := oDevice, property := P.hostSilence.desc.code, rsv := 0 }]) (doGetSnapshot (ask oDevice) [{ object := oDevice, property := P.hostSilence.desc.code, rsv := 0 }]))
      (fun u _ => decide (16 + recordLen ([({ object := oDevice, property := P.hostSilence.desc.code, rsv := 0 } : SnapItem)].flatMap
        (fun m => itemFields ((u.tick (latchAfter u.now)).snapItem ((u.tick (latchAfter u.now)).sessionAt (.ring 0)) m))) ≤ 4060)) = true := by
  decide

/-- The host's session watches HOST_SILENCE. -/
def watching : State := host.modSession 1 (fun x => { x with
  watches := [{ id := 3, object := oDevice, prop := .hostSilence, index := 0, minUs := 100, delta := 0, maxUs := 1, last := 0, lastAt := 0 }] })

theorem test_watch_met :
    opensWith (host.opens (askProp oDevice P.hostSilence.desc.code) (.watch 0 100 0 0) (doWatch (askProp oDevice P.hostSilence.desc.code) 0 100 0 0)) (fun u _ =>
      (u.sessionAt (.ring 0)).any (fun x => decide (x.watches.length < 256)) && decide ((u.sessions.map (·.watches.length)).sum < 4096)) = true ∧
    P.hostSilence.desc.bytes ≤ 8 ∧
    opensWith (watching.opens (askProp oDevice P.hostSilence.desc.code) (.watch 3 0 0 0) (doWatch (askProp oDevice P.hostSilence.desc.code) 3 0 0 0)) (fun u _ =>
      (u.sessionAt (.ring 0)).any (fun x => x.watches.any (fun w => w.id = 3))) = true ∧
    ((watching.tick 200000).session 1).any (fun x => (x.watches.find? (fun y => y.id = 3)).any (fun w =>
      (watching.tick 200000).watchHolds 1 w)) = true := by decide

/-- The host's session with a record of request 9, and one armed notice. -/
def knowing : State := (host.modSession 1 (fun x => { x with recent := [⟨1, 0, 9, 3, 0, 4, 0⟩] })).setT .eventNotice 1 (some 3)

theorem test_sessions_met :
    opensWith (trio.opens (ask oDevice) (.negotiate 2 0 0) (doNegotiate (ask oDevice) 2 0 0)) (fun u _ => decide (u.sessions.length < 32)) = true ∧
    opensWith (host.opens (ask oDevice) (.hello 1 7) (doHello (ask oDevice) 1 7)) (fun u _ => (u.session 1).any (fun x => decide (x.token = 7))) = true ∧
    opensWith (host.reaches (ask oDevice) (.hello 1 8) (doHello (ask oDevice) 1 8)) (fun v o =>
      ((v.entered o (.hello 1 8)).session 1).any (fun x => decide (x.token ≠ 8))) = true ∧
    opensWith (host.opens (ask oDevice) .keepalive (doKeepalive (ask oDevice))) (fun _ _ => true) = true ∧ (Binding.ring 0).cls.isHost = true ∧
    opensWith (host.opens (ask oDevice) .close (doClose (ask oDevice))) (fun u _ => (u.sessionAt (.ring 0)).isSome) = true ∧
    ((host.setT .sessionIdle 1 (some 3)).tick 5).due .sessionIdle 1 = true ∧ ((host.setT .sessionIdle 1 (some 3)).tick 5).session 1 ≠ none := by
  decide

theorem test_records_met :
    opensWith (knowing.opens (ask oDevice) (.recall 1 0 9) (doRecall (ask oDevice) 1 0 9)) (fun u _ =>
      (u.sessionAt (.ring 0)).any (fun x => (x.recent.find? (fun r => r.port = 1 && r.queue = 0 && r.tag = 9)).isSome)) = true ∧
    opensWith (host.opens (ask oDevice) (.subscribe 5) (doSubscribe (ask oDevice) 5)) (fun u _ => (u.sessionAt (.ring 0)).isSome) = true ∧
    opensWith (host.opens (ask oDevice) (.readEvents 0 5) (doReadEvents (ask oDevice) 0 5)) (fun u _ => (u.sessionAt (.ring 0)).isSome) = true ∧
    ((knowing.tick 5).timer .eventNotice 1).isSome = true ∧
    ((knowing.tick 5).session 1).any (fun x => decide ((x.buffer.filter (fun r => decide (x.noticed ≤ r.seq))).length ≤ 63)) = true := by decide

/-- Endpoint 0 with queue pair 0 enabled and one entry announced. -/
def ringed : State := host.modQp 0 0 (fun x => { x with enable := true, sizeM1 := 7, sqTail := 1 })

/-- An entry that is laid out right: 36 bytes at 0, and 36 for the reply at 64. -/
def goodEntry : SqEntry :=
  { raw := [0, 0, 0, 0, 0, 0, 0, 0, 36, 0, 0, 0, 0, 0, 0, 0, 64, 0, 0, 0, 0, 0, 0, 0, 36, 0, 0, 0, 0, 0, 0, 0]
    packet := .packet (ask oDevice).hdr .keepalive }

theorem test_rings_met :
    (ringed.tick 5).epUp 0 = true ∧ (host.tick 5).epUp 0 = true ∧ (host.tick 5).epReady 0 = true ∧ 3 % 256 ≤ (((ringed.tick 5).endpoint 0).qp 0).sizeM1 ∧
    (((ringed.tick 5).endpoint 0).qp 0).sizeM1 < 9 % 256 ∧ (ringed.tick 5).mayFetch 0 0 = true ∧ malformedEntry goodEntry = false ∧
    (((host.tick 5).endpoint 0).qp 0).enable = false ∧ (((host.tick 5).endpoint 0).qp 0).sqBase % 64 = 0 ∧
    (((host.tick 5).endpoint 0).qp 0).cqBase % 64 = 0 ∧ (((ringed.tick 5).endpoint 0).qp 0).enable = true ∧
    ((host.tick 5).endpoint 0).evqEnable = false := by decide

/-- A request that came over MCTP and is still to be answered. -/
def lateVdm : State := { trio with
  outst := [{ origin := { binding := .vdm 0, tag := 4 }, opcode := 0, slot := 0, replySize := 0, wantsReply := true, safety := false,
              dueMctp := some 3, reply := none }]
  resWaits := [⟨{}, .keepalive, { binding := .ring 0 }, 0⟩] }

theorem test_waiting_met :
    (trio.tick 5).committedNow.dispatchHeld = false ∧ (({ trio with journal := { stalled := true } } : State).tick 5).committedNow.dispatchHeld = true ∧
    hostPort (.ring 0) = some 0 ∧ (trio.tick 5).get .crcErrors 0 < 4294967295 ∧
    ((lateVdm.tick 10000000).resWaits[0]?).any (fun x => decide (x.since + 10 * ms ≤ (lateVdm.tick 10000000).now)) = true ∧
    ((lateVdm.tick 5).outst.find? (fun o => o.origin.binding = .vdm 0 && o.origin.tag = 4 && o.reply.isNone)).any (fun o =>
      o.dueMctp.any (fun d => decide (d ≤ (lateVdm.tick 5).now))) = true := by decide

theorem test_target_met :
    (trio.tick 5).answers 0 = true ∧ ((trio.tick 5).win 0).retries = 0 ∧ (trio.tick 5).inService (mctpBinding 0).tile = true ∧
    (trio.tick 5).flag .serving = true ∧ (trio.tick 5).windowPec 0 = false ∧ winAcked (0x40 / 64) 0x40 [1, 2] = 2 ∧
    (trio.tick 5).get .illegalConds 32 < 4294967295 ∧
    (trio.tick 5).outst.any (fun (o : Outst) => o.admitted && decide (o.dest = .smbus 0)) = false ∧
    (trio.tick 5).hearsMctp 0 = true ∧
    (((trio.modWin 0 (fun w => { w with status := 2 })).tick 5).win 0).status = 2 := by decide

/-- Test mode, with the ROM at the JTAG port. -/
def jtag : State := (State.reset.setV .testMode 0 1).setV .tilePhase 0 1

/-- Fore's Ethernet port with one handshake of operator 2 and one session. -/
def ether : State := { trio with
  td := some { operators := [2] }, ethShakes := [{ port := 0, session := 3, operator := 2, due := 1000 }]
  ethSessions := [{ port := 0, session := 4, opened := 0 }] }

theorem test_secure_met :
    (jtag.tick 5).flag .testMode = true ∧ (jtag.tick 5).var .tilePhase 0 = 1 ∧ (jtag.tick 5).keyEc 4 = 0 ∧
    (jtag.tick 5).flag .dualSign = false ∧ opensWith (host.opens (ask oDevice) .readKeys (doReadKeys (ask oDevice))) (fun _ _ => true) = true ∧
    objCls oDevice = 0xFF ∧
    opensWith (host.opens (ask oDevice) (.attest 1 0 0 (List.replicate 48 0)) (doAttest (ask oDevice) 1 0 0 (List.replicate 48 0))) (fun u _ => u.inService 1) = true ∧
    opensWith ((host.setV .tilePhase 2 0).reaches (ask oDevice) (.attest 2 0 0 []) (doAttest (ask oDevice) 2 0 0 []))
      (fun v o => !(v.entered o (.attest 2 0 0 [])).inService 2) = true ∧
    (ether.tick 5).ethServed 0 = true ∧ (ether.tick 5).ethShakes.length < 8 ∧ (ether.tick 5).ethCount 0 < 16 ∧
    ((ether.tick 5).ethShakes.find? (fun x => x.port = 0 ∧ x.session = 3 ∧ (ether.tick 5).now < x.due)).any (fun x =>
      (ether.tick 5).td.any (fun d => decide (x.operator ∈ d.operators))) = true ∧
    ((ether.tick 5).ethAt 0 4).any (fun e => e.fresh 0 && decide (e.got < 2 ^ 32)) = true ∧ (ether.tick 5).acts 0x254 = false ∧
    ((ether.tick (86400 * sec)).ethAt 0 4).any (fun e => decide (e.opened + 86400 * sec ≤ (ether.tick (86400 * sec)).now)) = true := by
  decide

/-- A tray whose Mizzen rejoins with the image Fore booted. -/
def rejoin2 : State := ((trio.setV .tilePhase 2 2).setV .rejoining 2 1).setV .bootPlate 0 0 |>.putPlate 0 (some { digest := 0 })

/-- Mizzen alone. -/
def lone : State := ((trio.setV .tilePhase 0 4).setV .tilePhase 1 4).setT .loneCut 0 (some 3)

theorem test_heartbeats_met :
    (trio.tick 5).votes 1 = true ∧ (trio.tick 5).acts 0x090 = false ∧ ((trio.setT .heartbeat 1 (some 3)).tick 5).due .heartbeat 1 = true ∧
    ((trio.setT .fenceReq 1 (some 3)).tick 5).due .fenceReq 1 = true ∧ (lone.tick 5).due .loneCut = true ∧ (lone.tick 5).tilesIn = [2] ∧
    ((trio.setV .electing 0 1).tick 5).flag .electing = true ∧
    (((trio.setV .tilePhase 0 4).setT .foreGrace 0 (some 3)).tick 5).due .foreGrace = true ∧
    ((trio.setV .tilePhase 0 4).tick 5).inService 0 = false ∧
    (((trio.setV .rejoining 2 1).setV .tileReset 2 1).setT .rejoin 2 (some 3)).due .rejoin 2 = false ∧
    ((((trio.setV .rejoining 2 1).setV .tileReset 2 1).setT .rejoin 2 (some 3)).tick 5).due .rejoin 2 = true := by decide

theorem test_rejoin_met :
    (let u := rejoin2.tick 5
     u.flag .rejoining 2 = true ∧ u.var .tilePhase 2 = 2 ∧ u.flag .tileReset 2 = false ∧ u.flag .electing = false ∧ u.membership ≠ 0 ∧
       (u.rejoinImage 2).2 = some 0 ∧
       ((u.rejoinImage 2).1.plate 0).any (fun i => decide ((i.digest : Int) = u.digestWanted)) = true) := by decide

theorem test_claims_met :
    (let u := (trio.setV .electing 0 1).tick 5
     let v := u.setV .claims 0 (u.varN .claims ||| 2 ^ 0 : Nat)
     u.inService 0 = true ∧ v.tilesIn.all (fun y => (v.varN .claims).testBit y) = false) ∧
    (let u := ((trio.setV .electing 0 1).setV .claims 0 6).tick 5
     let v := u.setV .claims 0 (u.varN .claims ||| 2 ^ 0 : Nat)
     v.tilesIn.all (fun y => (v.varN .claims).testBit y) = true) := by decide

theorem test_cut_met :
    (let u := ({ lone with tables := ({} : Tab SeqTable).put {} 0 { generation := 1, entries := [{ rail := 3, onSlot := 1, offSlot := 1 }, { rail := 4, onSlot := 2, offSlot := 9 }] } } : State).tick 5
     let l := u.activeTable.entries.filter (fun e => decide (e.rail < 64))
     u.due .loneCut = true ∧ u.tilesIn = [2] ∧
       l.map (fun e => decide (u.now < u.varN .loneFrom + (e.offSlot - 1) * 10 * us)) = [false, true]) ∧
    (lone.tick 5).activeTable.entries = [] := by decide

/-- DUO with one entry that Main has not acknowledged for 1 ms. -/
def stalling : State := { (trio.setV .tilePhase 2 4).put .ackCsn 1 0 with
  journal := { assigned := 5, committed := 4, entries := [{ csn := 1, term := 1, kind := .command, stamp := 0, origin := {}, refCsn := 0 }] } }

theorem test_journal_met :
    (let u := ({ trio with journal := { assigned := 5 } } : State).tick 5
     u.votes 1 = true ∧ 1 ≠ u.leader ∧ u.getN .ackCsn 1 + 1 ≤ u.journal.assigned ∧ u.flag .electing = false ∧ u.acts 0x092 = false ∧
       u.inService 1 = true ∧ u.membership ≠ 0) ∧
    (let u := stalling.tick 2000000
     u.tilesIn = [0, 1] ∧ u.leader = 0 ∧ u.flag .electing = false ∧ u.var .stallAt < 0 ∧ u.journal.stalled = false ∧
       u.journal.entries.any (fun e => decide (e.csn = u.bestSeen + 1) && decide (e.stamp + ms ≤ u.now)) = true ∧
       u.getN .ackCsn 1 < u.journal.committed) ∧
    (standby.tick 5).membership = 1 ∧
    (let u := stalling.tick 5
     1 ≤ u.journal.committed ∧ u.journal.entries.any (fun e => decide (e.csn = 1)) = true ∧ u.journal.lost = false) ∧
    (let u := trio.tick 10000000
     u.membership ≠ 0 ∧ u.flag .electing = false ∧ u.tilesIn ≠ [] ∧ u.journal.checkpointAt + 10 * ms ≤ u.now ∧
       u.injected 0x0E0 = none) := by decide

theorem test_journal_more_met :
    (let u := (stalling.put .ackCsn 1 4).tick 2000000
     let v : State := u.raise .journalStall oDevice [u.leader, (u.bestSeen + 1 : Nat)]
     let w : State := ({ v with journal := { v.journal with stalled := true } } : State).setV .stallAt 0 v.now
     u.journal.entries.any (fun e => decide (e.csn = u.bestSeen + 1) && decide (e.stamp + ms ≤ u.now)) = true ∧ w.tilesIn = [0, 1] ∧ w.leader = 0 ∧
       w.journal.committed ≤ w.getN .ackCsn 1) ∧
    (standby.tick 5).nandLost = false ∧ readWord 0 (2 ^ 79) = .uncorrectable ∧ (trio.tick 10000000).checkpoint.recommit.injected 0x0E0 = none := by decide

theorem test_voting_met :
    (let u := ((trio.setV .vote 1 1).setT .voteDisagree 1 (some 3)).tick 5
     u.due .voteDisagree 1 = true ∧ u.votes 1 = true ∧ u.voteOf 0 1 ≠ u.padOf 0 ∧
       (((1, u.now) :: (u.disarm .voteDisagree 1).disagreed.filter (fun y => decide (u.now < y.2 + sec))).filter (fun y => decide (y.1 = 1))).length < 3) ∧
    (let u := ((trio.put .loopAccels (primaryTile 0) 1).modDom 0 (fun x => { x with misses := 4 })).tick 5
     u.regTile 0 = some (primaryTile 0) ∧ 4 ≤ (u.dom 0).misses ∧ (u.dom 0).mirrored = false ∧ 2 ≤ u.tilesIn.length ∧ u.inService (lossTile (primaryTile 0) 0) = true ∧
       lossTile (primaryTile 0) 0 ≠ primaryTile 0) ∧
    (let u := ({ trio with moves := [(0, 1)] } : State).tick 5
     u.moves = [(0, 1)] ∧ u.var .moveAt < 0 ∧ u.inService 1 = true) ∧
    opensWith (trio.opensWrite (own oDevice) .leader 0 (setLeader (trio.originOf (own oDevice) .setProp) 0)) (fun u _ => decide (u.leader = 0)) = true ∧
    opensWith (trio.opensWrite (own oDevice) .leader 1 (setLeader (trio.originOf (own oDevice) .setProp) 1)) (fun u _ =>
      decide (1 ≠ u.leader) && u.inService 1 && decide (2 ≤ u.tilesIn.length)) = true ∧
    opensWith (trio.opensWrite (own (oTile 1)) .adminState 1 (setAdminState 1)) (fun u _ => decide (u.get .powerState = psRunning)
      && ! [0, 1, 2].any (fun (x : Nat) => u.flag .rejoining x) && !u.flag .rolling && !u.flag .adminOut && u.inService 1
      && decide (2 < u.tilesIn.length ∧ u.leader ≠ 1)) = true ∧ writeIndex (own (oTile 1)) .adminState = 1 := by decide

theorem test_stores_met :
    (let u := ({ trio with norWrites := [{ what := .record { kind := 1, seq := 1, plate := 0, arg := 0 } }], nandWrites := [.model 0] } : State).tick 5
     u.norWrites ≠ [] ∧ u.acts 0x0D0 = false ∧ u.acts 0x0D1 = false ∧ u.varN .norLost ≠ 3 ∧ u.nandWrites = [.model 0] ∧
       u.nandLost = false ∧ u.acts 0x0D2 = false) ∧
    (trio.tick 5).inService 0 = true ∧
    (let u := (trio.setV .stacksUp 0 15).tick 5
     (u.varN .stacksUp).testBit 1 = true ∧ (1, 5) ∉ u.poison ∧ (u.varN .stackFailed).testBit 1 = false ∧ u.get .powerState ≠ 0) := by decide

theorem test_words_met : (((trio.setV .stacksUp 0 15).tick 5).islandGives (((trio.setV .stacksUp 0 15).tick 5).stackTile 1) 5) = true ∧
    readWord 8 0 = .uncorrectable := by decide

/-- Accelerator 0 in its identity phase: the description declares it. -/
def identing : State := { trio.modLink 0 (fun x => { x with state := lkIdent }) with td := some { accels := [{ accel := 0, domains := 4, sensors := 4 }] } }

/-- The identity it gives. -/
def goodIdentity : Identity := { major := 1, minor := 0, domains := 4, sensors := 4, port := 0, serial := 5, incarnation := 1 }

theorem test_partners_met :
    ((identing.tick 5).link 0).state = lkIdent ∧
    (let v : State := ((identing.tick 5).setV .reportedSerial 0 5).each (List.range 16) (fun s q =>
       s.reopen [q] (fun x => decide (x.why = 3) && !s.reportedElsewhere (q / 2) x.whySerial))
     v.identityStatus 0 goodIdentity = 0 ∧ v.get .accelPresence 0 ≠ 2) ∧
    (let levels : List (Nat × Int) := (List.range 8).map (fun k => (1000 - k, (900 - k : Int)))
     levels.length = 8 ∧ notRising (levels.map (fun l => (l.1 : Int))) = true ∧ notRising (levels.map (·.2)) = true) := by decide

/-- Accelerator 0 arrived, its ALERT pin asserted, every timer of it due at 3. -/
def silent0 : State :=
  (((((((trio.put .accelPresence 0 2).setV .alertPin 0 1).setT .accelLoss 0 (some 3)).setT .telemetry 0 (some 3)).setT .silentFurl 0 (some 3)).setT
    .alertReef 0 (some 3)).setT .alertFurl 0 (some 3)).setT .alertHandover 0 (some 3) |>.setT .quiesce 0 (some 3)

theorem test_partner_timers_met :
    (let u := silent0.tick 5
     u.due .accelLoss 0 = true ∧ u.get .accelPresence 0 = 2 ∧ u.accelUp 0 = false ∧ (u.setV .alertPin 0 1).accelUp 0 = false ∧
       u.due .silentFurl 0 = true ∧ u.due .alertReef 0 = true ∧ u.flag .alertPin 0 = true ∧ u.due .alertFurl 0 = true ∧
       u.due .alertHandover 0 = true ∧ u.due .quiesce 0 = true ∧ u.activation = none) ∧
    (let u := (silent0.modLink 0 (fun x => { x with state := lkActive })).tick 5
     u.due .telemetry 0 = true ∧ u.accelUp 0 = true) := by decide

/-- Shroud port 0 in a state of its link, with what it holds. -/
def linked (x : Link) : State := trio.modLink 0 (fun _ => x)

theorem test_links_met :
    (let u := trio.tick 5
     (u.link 0).state = lkDown ∧ u.inService (portTile 0) = true ∧ u.timer .injHold (pLink 0) = none ∧ u.flag .islandDown (16 * portTile 0 + 2) = false ∧
       (u.link 48).state = lkDown ∧ u.inService (portTile 48) = true ∧ u.get .portAdmin 0 = 0) ∧
    (let u := (linked { state := lkRetrain, rxOk := 7, aligned := true }).tick 5
     (u.spend (pLink 0)).inTraining 0 = true ∧
       (((u.modLink 0 (fun x => { x with rxOk := if x.aligned && true then x.rxOk + 1 else 0 })).link 0).rxOk = 8)) ∧
    ((linked { state := lkIdent, left := 0 }).tick 2000000000).linkLate 0 = true := by decide

/-- Shroud port 0 ACTIVE with one flit that is not acknowledged. -/
def replaying : State :=
  linked { state := lkActive, rxSeq := 4095, unacked := [{ seq := 0, ch := 0, kind := 0, num := 0, first := true, last := true }] }

/-- The flit a port in training sends, and a DATA flit of SEQ 0, with FIRST and LAST, that returns nothing. -/
def goodTrain : List Nat := flitBytes 3 0 0 none 0 0 (trainPayload 1 true 0 0 0)
def goodData : List Nat := flitBytes 1 3 0 none 0 0 []

theorem test_flits_met :
    (let u := replaying.tick 10005
     u.linkUp 0 = true ∧ (u.spend (pLink 0)).linkUp 0 = true ∧ u.acts (pLink 0) = false ∧ (u.acceptFlit 0 3).2 = false ∧
       (u.link 0).unacked ≠ [] ∧ (u.link 0).ackAt + 10 * us ≤ u.now) := by decide

theorem test_goodTrain_met : flitGood goodTrain = true ∧ flitKind goodTrain = 3 ∧ (trainOf (flitPayload goodTrain)).role = farRole 0 ∧
    (trainOf (flitPayload goodTrain)).rxOk = true ∧ flitGood [] = false := by decide +kernel

theorem test_goodData_met :
    wireFlit 1 3 (leBytes 2 0 ++ leBytes 2 0 ++ (goodData.drop 6).take 54) (leAt goodData 60 4) = goodData ∧ flitGood goodData = true := by decide +kernel

theorem test_goodLink_met :
    (let b := flitBytes 2 8 0 none 0 0 []
     wireFlit 2 8 ((b.drop 2).take 58) (leAt b 60 4) = b ∧ flitGood b = true ∧ flitNak b = true) := by decide +kernel

theorem test_gap_met :
    (let u := (({ trio with held := [{ accel := 0, stream := 0, port := 0, num := 4, msg := .qstate 0 1 }] } : State).setT .shroudGap 0 (some 3)).tick 20005
     u.due .shroudGap 0 = true ∧ ((u.heldOf 0 0).filter (fun h => decide (h.since + 20 * us ≤ u.now))).getLast?.isSome = true) := by decide

theorem test_link_training_met :
    (let s := (linked { state := lkRetrain, rxOk := 7, rxGood := 60, aligned := true }).tick 5
     let f : TrainFlit := { trainOf (flitPayload goodTrain) with role := farRole 0, rxOk := true }
     f.role = farRole 0 ∧ s.inTraining 0 = true ∧
       8 ≤ ((s.modLink 0 (fun x => { x with rxOk := if x.aligned && f.rxOk then x.rxOk + 1 else 0 })).link 0).rxOk) ∧
    (let b := flitBytes 2 0 0 none 0 0 []
     wireFlit 2 0 ((b.drop 2).take 58) (leAt b 60 4) = b ∧ flitGood b = true ∧ flitNak b = false) ∧
    ((linked { state := lkActive }).tick 5).linkUp 0 = true := by decide +kernel

/-- Accelerator 0 with four domains on legs of relay 0, which is present and identified. -/
def sheet0 : State := { ((trio.put .relayPresence 0 2).modRelay 0 (fun x => { x with identified := true })).setT .relayLoss 0 (some 3) with
  td := some { accels := [{ accel := 0, domains := 4, sensors := 4 }], legs := [(0, 0), (1, 0)] } }

theorem test_legs_met :
    (let u := ((sheet0.setT .ocTrip 0 (some 3)).put .domainCurrent 0 9).tick 5
     u.due .ocTrip 0 = true ∧ (u.disarm .ocTrip 0).get .domainOc 0 < (u.disarm .ocTrip 0).get .domainCurrent 0) ∧
    (let u := ((sheet0.modLeg 0 (fun y => { y with wakeAt := some 3 })).put .legState 0 legWaking).tick 500
     (u.leg 0).wakeAt = some 3 ∧ u.legDomain 0 = some 0 ∧ u.get .legState 0 = legWaking ∧ ceilTo (500 * max 1 (u.varN .switchSlots 0)) 3 ≤ u.now) ∧
    (let u := ((sheet0.modLeg 0 (fun y => { y with drainAt := some 3 })).put .legState 0 legDraining).tick 5
     (u.leg 0).drainAt = some 3 ∧ u.get .legState 0 = legDraining ∧ u.get .current 0 < 1000) ∧
    (sheet0.tick 5).var .calRotated < 0 ∧
    (let u := (sheet0.modRelay 0 (fun x => { x with cal := some { leg := 0, spare := 1, slots := 64, sum := 0 } })).tick 5
     (u.relay 0).cal = some { leg := 0, spare := 1, slots := 64, sum := 0 } ∧ u.injected 0x620 = none ∧
       ((0 : Int).natAbs : Int) ≤ 64 * u.get .calMismatch) := by decide

theorem test_leg_writes_met :
    opensWith ((sheet0.put .legState 0 legSleep).opensWrite (own (oLeg 0)) .admin 1 (setLegAdmin (own (oLeg 0)).hdr.force 1)) (fun u _ =>
      decide (u.legDomain 0 = some 0 ∧ u.get .minHealthy 0 ≤ (u.nHealthy 0 : Int) - 1 ∧ u.get .legState 0 = legSleep)) = true ∧
    opensWith (((sheet0.setV .setMin 0 500).setV .setMax 0 2000).opensWrite (own (oDomain 0)) .setpoint 1000 (setSetpoint 1000)) (fun u _ =>
      decide (u.var .setMin 0 ≤ 1000 ∧ 1000 ≤ u.var .setMax 0)) = true := by decide

/-- The same tray with rail 3 and thresholds in order: 200, 300, 400, 500. -/
def rail3 : State := { sheet0 with td := sheet0.td.map (fun d => { d with declared := [oRail 3] }) }

def inOrder : Nat := 500 * 2 ^ 48 + 400 * 2 ^ 32 + 300 * 2 ^ 16 + 200

theorem test_thresholds_met :
    inOrder &&& 0xF000F000F000F000 = 0 ∧ thrDisch inOrder < thrLo inOrder ∧ thrLo inOrder ≤ thrHi inOrder ∧ thrHi inOrder < thrOv inOrder ∧
    opensWith (rail3.opensWrite (own (oRail 3)) .thresholds inOrder (setThresholds inOrder)) (fun _ _ => true) = true ∧ writeIndex (own (oRail 3)) .thresholds < 64 ∧
    opensWith (sheet0.opensWrite (own (oRail 64)) .thresholds inOrder (setThresholds inOrder)) (fun u _ => u.relayPresent (relayOfDomain 0)) = true ∧
    opensWith ((sheet0.put .relayPresence 0 0).reachesWrite (own (oRail 64)) .thresholds inOrder (setThresholds inOrder)) (fun v o =>
      !(v.entered o (.setProp P.thresholds.desc.bytes inOrder)).relayPresent (relayOfDomain 0)) = true ∧
    64 ≤ writeIndex (own (oRail 64)) .thresholds := by decide

theorem test_slots_met : (sheet0.tick 500).now = 500 * 1 ∧ (sheet0.tick 2000).onGrid (2 * us) = true := by decide

theorem test_sheets_met :
    (let u := sheet0.tick 20005
     u.acts 0x630 = false ∧ u.acts 0x220 = false ∧ u.relayPresent 0 = true ∧ (u.relay 0).identified = true ∧ u.due .relayLoss 0 = true ∧
       u.relayUp 0 = false) ∧
    (let u := (sheet0.modLink 16 (fun x => { x with state := lkLock })).tick 200000000
     u.timer .injHold (pLink 16) = none ∧ (u.link 16).state = lkLock ∧ u.sheetLate 16 = true) ∧
    (let u := ((trio.modLink 16 (fun x => { x with state := lkIdent })).modLink (sideKey 0) (fun x => { x with
      unacked := [{ seq := 0, ch := 0, kind := 0, num := 0, first := true, last := true }] })).tick 20005
     (u.link 16).state = lkIdent ∧ u.relayStatus 16 {} = 0 ∧ (u.relay 0).identified = false ∧ u.relayPresent 0 = false ∧
       (u.link (sideKey 0)).unacked ≠ [] ∧ (u.link (sideKey 0)).ackAt + 20 * us ≤ u.now) := by decide

/-- A TRAIN frame, and a slice that holds a whole message of unknown type. -/
def frameBody : List Nat := padTo 316 (recordBytes [u8 2, u8 0, rsv 6] ++ trainPayload 1 true 0 0 0)
def goodFrame : List Nat := sealed frameBody
def goodSlice : List Nat := sliceBytes 1 none 7 [0, 0, 0, 0]

theorem test_frames_met :
    (let u := sheet0.tick 20005
     let v := (((u.spend 0x220).spend 0x221).noteFrame 16 false).noteFrame 17 false
     u.frameGood 16 ([] ++ leBytes 4 0) = false ∧ u.frameGood 17 ([] ++ leBytes 4 0) = false ∧ v.relayPresent 0 = true ∧ v.var .frameSlot 0 ≠ v.now / 500) ∧
    (let u := (sheet0.modLink 16 (fun x => { x with state := lkLock })).tick 5
     u.timer .injHold (pLink 16) = none ∧ u.islandGives (portTile 16) 2 = true ∧ u.acts 0x220 = false ∧ leAt frameBody 0 1 = 2 ∧
       sealGood 320 [] = false ∧ ((u.spend 0x220).linkError 16).inTraining 16 = true) := by decide +kernel

theorem test_goodFrame_met : sealGood 320 goodFrame = true := by
  have h : frameBody.length + 4 = 320 := by decide +kernel
  rw [← h]
  exact sealGood_sealed frameBody (by decide +kernel)

theorem test_slices_met :
    (let x := sliceOf goodSlice
     x.sack = none ∧ x.nak = false ∧ x.data = true ∧ x.first = true ∧ x.last = true ∧ (x.seq + 4096 - 0) % 4096 = 1 ∧
       (x.seq + 4096 - 1) % 4096 = 0) ∧
    ((trio.modLink (sideKey 0) (fun y => { y with rxSeq := 0 })).link (sideKey 0)).rxSeq = 0 ∧
    (trio.link 16).state ≠ lkIdent ∧ (((trio.modLink (sideKey 0) (fun y => { y with rxSeq := 1 })).link (sideKey 0)).rxSeq = 1) ∧
    ((trio.joinFlit (sideKey 0) 0 true true [0]).2 = some [0] ∧ (trio.joinFlit (sideKey 0) 0 true false [0]).2 = none) := by decide +kernel

theorem test_relay_identity_met :
    (let u := (trio.modLink 16 (fun x => { x with state := lkIdent })).tick 5
     let v := u.setV .reportedSerial 16 ({} : RelayIdentity).serial
     (u.relay 0).rejected = false ∧ (v.link 16).state = lkIdent ∧ v.relayStatus 16 {} = 0 ∧ v.relayPresent 0 = false) := by decide

/-- Accelerator 0 with four domains, an active table of one tray rail, and a run of the tray scope. -/
def sequenced : State := { (rail3.put .flowProven 0 1) with
  tables := ({} : Tab SeqTable).put {} 0 { generation := 1, entries := [{ rail := 3, onSlot := 1, offSlot := 1 }, { rail := 64, onSlot := 2, offSlot := 2 }] }
  runs := [{ scopes := [8], all := [8], joint := false, auto := false }] }

theorem test_runs_met :
    (let u := sequenced.tick 5
     (u.runs.find? (fun r => decide (8 ∈ r.scopes) && r.start.isNone)).isSome = true ∧ u.runReady { scopes := [8], all := [8], joint := false, auto := false } = true ∧
       u.entryOf 3 = some { rail := 3, onSlot := 1, offSlot := 1 } ∧ (u.rail 3).enabled = false ∧ (u.rail 3).heldOff = false) ∧
    (let u := (({ sequenced with runs := [{ scopes := [8], all := [8], joint := false, auto := false, start := some 3 }] } : State).setScope 8 2 0 0xFFFF).tick 40
     u.runOf 8 = some { scopes := [8], all := [8], joint := false, auto := false, start := some 3 } ∧ u.scope 8 = 2 ∧ scopeOf 3 = 8 ∧
       u.slot0 { scopes := [8], all := [8], joint := false, auto := false, start := some 3 } = 1 ∧
       (({ scopes := [8], all := [8], joint := false, auto := false, start := some 3 } : Run).tauAt u.now).isSome = true) := by decide +kernel

theorem test_rails_met :
    (let u := ((sequenced.setScope 8 2 0 0xFFFF).modRail 3 (fun x => { x with deadline := some 3, enabled := true })).tick 5
     (u.rail 3).deadline = some 3 ∧ (u.rail 3).enabled = true ∧ (u.rail 3).goodOnce = false ∧ u.scope (scopeOf 3) = 2) ∧
    (let u := (sequenced.modRail 3 (fun x => { x with disabledAt := some 3, offHold := true })).tick 5
     u.entryOf 3 = some { rail := 3, onSlot := 1, offSlot := 1 } ∧ (u.rail 3).disabledAt = some 3 ∧ (u.rail 3).offHold = true ∧ 3 + 0 * 10 * us ≤ u.now) := by decide

theorem test_samples_met : (sequenced.tick 5000).onGrid us = true ∧ (sequenced.tick 5000).declared (oRail 3) = true := by decide +kernel

theorem test_offRuns_met :
    (let r : OffRun := { rails := [3], scopes := [8], all := [3], since := 5 }
     let u := ({ sequenced with offRuns := [r] } : State).tick 20005
     u.offRuns.find? (fun r => 3 ∈ r.rails) = some r ∧ (r.sigmaAt u.now).isSome = true ∧ (u.entryOf 3).isSome = true ∧
       (1 - u.offSlot0 r) * 10 * us ≤ (r.sigmaAt u.now).getD 0) := by decide +kernel

theorem test_scopes_met :
    (let u := ((sequenced.setScope 8 1 0 0xFFFF).setT .startWait 8 (some 3)).tick 5
     u.scope 8 = 1 ∧ u.due .startWait 8 = true) ∧
    (let u := ((sequenced.setScope 8 5 0 0xFFFF).modRail 3 (fun x => { x with below := true })).tick 10000000000
     u.scope 8 = 5 ∧ (u.railsOf 8).all u.discharged = true ∧ u.varN .dischargingAt 8 + u.getN .minOffTime * ms ≤ u.now) ∧
    (let u := (((sequenced.setScope 8 5 0 0xFFFF).modRail 3 (fun x => { x with code := 900 })).setT .discharge 8 (some 3)).tick 5
     u.due .discharge 8 = true ∧ (u.railsOf 8).find? (fun k => u.sensed k && !u.discharged k) = some 3) := by decide +kernel

theorem test_restarts_met :
    (let f : Failure := { rail := 3, cause := 1, failTime := 1, confirmTime := 1, scope := 8, state := 2, code := 0, seqTime := 0 }
     let u := (({ sequenced with failures := [f] } : State).setT .firstFault 0 (some 3)).tick 5
     u.due .firstFault = true ∧ firstFailing u.failures = some f) ∧
    (let u := (((sequenced.setV .restartWanted 0 1).put .autoRestart 0 1).put .powerState 0 2).tick 5
     u.flag .restartWanted = true ∧ u.get .autoRestart = 1 ∧ (∀ i ∈ scopes, u.var .stoppedBy6 i ≠ 1) ∧ u.flag .mainGood = true ∧
       u.get .powerState = psStandby ∧ u.var .goal < 0 ∧ u.get .firstFaultLatched ≠ 1 ∧ u.recentRestarts.length < u.getN .restartLimit) ∧
    (((((sequenced.setV .restartWanted 0 1).put .autoRestart 0 1).put .powerState 0 2).put .restartLimit 0 0).tick 5).recentRestarts.length ≤ 0 ∧
    (((sequenced.setV .restartWanted 0 1).put .firstFaultLatched 0 1).tick 5).get .firstFaultLatched = 1 := by decide +kernel

theorem test_sequence_requests_met :
    opensWith (sheet0.opens (own (oAccel 0)) .startSequence (doStartSequence (own (oAccel 0)))) (fun u _ =>
      decide (u.get .powerState = psRunning ∧ u.keptOff 0 = false ∧ u.scope 0 = 0)) = true ∧
    opensWith (sheet0.opens (own (oAccel 0)) .stopSequence (doStopSequence (own (oAccel 0)))) (fun u _ => decide ((u.stopScopes [0] 0).scope 0 ≠ 4)) = true ∧
    opensWith (((sequenced.modRail 64 (fun x => { x with enabled := true })).setScope 0 3 0 0).opens (own (oAccel 0)) .stopSequence (doStopSequence (own (oAccel 0)))) (fun u _ => decide ((u.stopScopes [0] 0).scope 0 = 4)) = true ∧
    opensWith ((sequenced.modRail 3 (fun x => { x with heldOff := true })).opens (own (oRail 3)) .enableRail (doEnableRail (own (oRail 3)))) (fun u _ =>
      (u.entryOf 3).isSome && (u.rail 3).heldOff && decide (u.scope (scopeOf 3) = 0)) = true ∧
    opensWith (((sequenced.modRail 3 (fun x => { x with heldOff := true })).setScope 8 3 0 0).opens (own (oRail 3)) .enableRail (doEnableRail (own (oRail 3)))) (fun u _ =>
      decide (u.scope (scopeOf 3) = 3)) = true ∧
    opensWith ((sequenced.modRail 3 (fun x => { x with enabled := true })).opens (own (oRail 3)) .disableRail (doDisableRail (own (oRail 3)))) (fun u _ =>
      (u.rail 3).enabled && (u.rail 3).enableCmd.isNone) = true := by decide +kernel

theorem test_tables_met :
    opensWith (sequenced.opens { own oDevice with hdr := { object := oDevice, property := 1 } } (.loadSequence 1 2 [{ rail := 3, onSlot := 1, offSlot := 1, goodDeadline := 1 }]) (doLoadSequence { own oDevice with hdr := { object := oDevice, property := 1 } } 1 2 [{ rail := 3, onSlot := 1, offSlot := 1, goodDeadline := 1 }])) (fun u _ =>
      decide ([({ rail := 3, onSlot := 1, offSlot := 1, goodDeadline := 1 } : SeqEntry)].findIdx? (u.badEntry [{ rail := 3, onSlot := 1, offSlot := 1, goodDeadline := 1 }]) = none ∧
        1 ≠ u.getN .activeTable)) = true ∧
    opensWith (trio.opens (own oDevice) (.readFirstFault 0 1) (doReadFirstFault 0 1)) (fun _ _ => true) = true ∧
    opensWith (trio.opens (own oDevice) .clearFirstFault (doClearFirstFault (own oDevice))) (fun _ _ => true) = true := by decide

/-- The tray whose tiles regulate their accelerators, Fore the first. -/
def loops0 : State := sheet0.put .loopAccels 0 1

theorem test_budget_met :
    (let u := (((loops0.put .rackLeader 0 1).put .timeStatus 0 2).setT .rackHold 0 (some 3)).tick 5
     u.splitsRun = true ∧ (u.regTile 0).isSome = true ∧ u.isRackLeader = true ∧ u.due .rackHold 0 = true ∧ u.rackMembers = [] ∧
       u.newerEpoch 0 5 = true ∧ 2 ≤ u.timeState ∧ ((u.getN .rackLeader : Nat) : Int) = u.get .rackLeader ∧ ((u.varN .serial : Nat) : Int) = u.var .serial ∧
       ((u.getN .rackId : Nat) : Int) = u.get .rackId ∧ (99 : Int) ≠ u.var .serial) ∧
    (let u := ((((sheet0.setV .serving 0 1).setV .serving 1 1).put .depth 0 0).setV .upPort 0 (-1)).tick 5
     u.hasRatline = true ∧ u.isMasthead = true ∧ u.splitsRun = true) ∧
    opensWith ((trio.put .rackLeader 0 1).opensWrite (own (oNode 1)) .rackOther 0 (setRackOther 0)) (fun u _ => u.isRackLeader && decide (0 ≤ u.get .limit nodeRack)) = true ∧
    writeIndex (own (oNode 1)) .rackOther = nodeRack := by decide +kernel

theorem test_epochs_met :
    (let u := ((loops0.put .rackLeader 0 1).setT .rackHold 1 (some 3)).tick 5000000
     u.epochDue 8 (2 * us) = true ∧ u.epochDue 2 (10 * us) = true ∧ u.epochDue 1 (100 * us) = true ∧ u.epochDue 0 ms = true ∧ u.splitsRun = true ∧
       (u.regTile 0).isSome = true ∧ u.isRackLeader = true ∧ u.due .rackHold 1 = true) ∧
    (let u := ((((sheet0.setV .serving 0 1).setV .serving 1 1).put .depth 0 0).setV .upPort 0 (-1)).tick 5000000
     u.epochDue 0 ms = true ∧ u.isMasthead = true ∧ u.hasRatline = true ∧ u.splitsRun = true) := by decide +kernel

/-- Every span of fast protection is over, P_in is above the threshold, and accelerator 0 is above its grant for long. -/
def overdrawn : State := { (((((((((loops0.setT .fastStage2 0 (some 3)).setT .fastFurl 0 (some 3)).setT .fastRelease 0 (some 3)).setT .fastStep 0 (some 3)).setT .complyStep 0
    (some 3)).setV .reefUnder 0 0).setV .reefOver 0 0).setT .reefCmd 0 (some 3)).put .grant 8 (-5)) with
  pIn := 1000000000000, fast := { low := some 0, stepping := true } }

theorem test_fast_met :
    (let u := overdrawn.tick 2000000000
     u.due .fastStage2 = true ∧ (u.disarm .fastStage2).fastThreshold < (u.disarm .fastStage2).pIn ∧ u.due .fastFurl = true ∧
       u.due .fastRelease = true ∧ u.fast.low.isSome = true ∧ u.due .fastStep = true ∧ u.fast.stepping = true ∧ u.due .complyStep 0 = true ∧
       0 ≤ u.var .reefUnder 0 ∧ u.varN .reefUnder 0 + ms ≤ u.now ∧ u.due .reefCmd 0 = true) ∧
    ((trio.tick 5).takeInput []).fastRuns = true := by decide +kernel

theorem test_compliance_met :
    (let u := overdrawn.tick 2000000000
     ((u.get .grant (nodeAccel 0) * (1000 + u.get .complyMargin) : Int) : Rat) / 1000 < u.outputPower 0 4 ∧ 0 ≤ u.var .reefOver 0 ∧
       u.flag .reefOverDone 0 = false ∧ u.varN .reefOver 0 + u.getN .complyTime * us ≤ u.now ∧ (u.regTile 0).isSome = true ∧
       u.get .grant (nodeAccel 0) < u.outputPower 0 4) := by decide +kernel

theorem test_inputs_met :
    (let u := (overdrawn.tick 1999999000).takeInput []
     (overdrawn.tick 1999999000).onGrid us = true ∧ u.inputSince (u.timer .fastStage2 0) = true ∧ u.inputSince (u.timer .fastFurl 0) = true) := by decide +kernel

theorem test_budget_requests_met :
    opensWith ((sheet0.put .limit 8 3000000).opens (own (oNode 8)) (.setBudget 2000000) (doSetBudget (own (oNode 8)) 2000000)) (fun u _ =>
      okPower 8 2000000 && (u.foreignNode 8).isNone && decide (u.get .minGrant 8 ≤ 2000000) &&
        decide ((if u.isGranted 8 then min 2000000 (u.get .grant 8) else 2000000) < u.capAt 8 u.now ∨ u.capAt 8 u.now ≤ (if u.isGranted 8 then min 2000000 (u.get .grant 8) else 2000000))) = true ∧
    opensWith ((sheet0.put .minGrant 8 3000000).opens (own (oNode 8)) (.setBudget 2000000) (doSetBudget (own (oNode 8)) 2000000)) (fun u _ => decide (2000000 < u.get .minGrant 8)) = true ∧
    opensWith (sheet0.opens (own (oNode 8)) (.setWeight 4) (doSetWeight (own (oNode 8)) 4)) (fun _ _ => true) = true ∧
    opensWith (sheet0.opens (own (oNode 256)) (.setMinGrant 0) (doSetMinGrant (own (oNode 256)) 0)) (fun u _ => u.minBound 256 0 && decide (0 ≤ u.get .limit 256)) = true ∧
    opensWith (sheet0.opens (own (oNode 256)) .readGrants (doReadGrants (own (oNode 256)))) (fun u _ => (u.foreignNode 256).isNone) = true ∧
    opensWith (sheet0.opens (own (oAccel 0)) (.reef 3 0) (doReef (own (oAccel 0)) 3 0)) (fun u _ => (u.reefTargets (oAccel 0)).isSome) = true ∧
    opensWith (sheet0.opens (own (oAccel 0)) .releaseReef (doReleaseReef (own (oAccel 0)))) (fun u _ => (u.reefTargets (oAccel 0)).isSome) = true := by decide +kernel

theorem test_budget_steps_met :
    opensWith (((sheet0.put .limit 8 3000000).put .grant 8 3000000).opens (own (oNode 8)) (.setBudget 2000000) (doSetBudget (own (oNode 8)) 2000000)) (fun u _ =>
      decide ((if u.isGranted 8 then min 2000000 (u.get .grant 8) else 2000000) < u.capAt 8 u.now)) = true ∧
    opensWith ((sheet0.put .limit 8 1000000).opens (own (oNode 8)) (.setBudget 2000000) (doSetBudget (own (oNode 8)) 2000000)) (fun u _ =>
      decide (u.capAt 8 u.now ≤ (if u.isGranted 8 then min 2000000 (u.get .grant 8) else 2000000))) = true := by decide +kernel

/-- A container of zeros whose FLAGS allow training. -/
def plain : List Nat := List.replicate 20 0 ++ [2] ++ List.replicate 60 0

/-- Slot 1 active with that container, training in MODE 2 on tile 0, every stack up, its spans over. -/
def trained : State := { ((((((sheet0.setV .stacksUp 0 63).put .trainTile 1 1).put .modelState 1 slActive).put .fcSlot 0 1).setT .candidate 1 (some 3)).setV .fcStart 0 0).modModel 1
    (fun x => { x with bytes := plain, training := { x.training with mode := 2, persist := 1 }, ring := 4000000, shelfDue := true }) with
  shelf := ({} : Tab Shelved).put {} 1 { bytes := plain }, switches := [{ at_ := 3, csn := 1, slot := 1, mask := some 1 }] }

theorem test_forecast_met :
    (let u := trained.tick 20000000
     u.fcStep ≠ 0 ∧ u.now % max 1 u.fcStep = 0 ∧ u.get .powerState = psRunning ∧ 0 ≤ u.var .fcStart ∧ (u.spend 0x0C0).inService 0 = true ∧
       (u.spend 0x0C0).get .arrayState 0 = 0 ∧ ((u.spend 0x0C0).member.features false).testBit 2 = true ∧ u.now % (10 * ms) = 0 ∧
       u.slotOf 0 = some 1 ∧ u.flag .shelfDone = false ∧ u.inService 1 = true ∧ u.inService 2 = true) := by decide +kernel

theorem test_training_met :
    (let u := trained.tick 20000000
     u.trains 1 = true ∧ 2 ≤ (u.model 1).training.mode ∧ 0 < (u.model 1).ring - (u.model 1).ring / 8 ∧ u.due .candidate 1 = true ∧
       4096 ≤ (((u.disarm .candidate 1).armCandidate 1).model 1).ring / 8 ∧ u.switches = [{ at_ := 3, csn := 1, slot := 1, mask := some 1 }] ∧
       (u.model 1).shelfDue = true ∧ (u.model 1).training.persist = 1 ∧ (u.model 1).shelfAt = none ∧ (u.shelf.get {} 1).bytes ≠ []) ∧
    (let u := (trained.modFc 0 (fun x => { x with samples := [{ at_ := 0 }] })).tick 20000000
     (u.fcDom 0).samples = [{ at_ := 0 }] ∧ 0 + 256 * us ≤ u.now ∧ (u.modFc 0 (fun x => { x with samples := [] })).trains 1 = true ∧
       (u.modFc 0 (fun x => { x with samples := [] })).hintUsed 0 = false) ∧
    (let u := ((trained.put .modelState 1 slVerifying).modModel 1 (fun x => { x with ending := some {} })).tick 5
     (u.model 1).ending = some {} ∧ u.get .modelState 1 = slVerifying ∧ NandWhat.model 1 ∉ u.nandWrites ∧ (u.model 1).keep = false) := by decide +kernel

theorem test_switch_met :
    (let x : Switch := { at_ := 3, csn := 1, slot := 1, mask := none, gen := some 2 }
     let u := ({ trained with switches := [x] } : State).tick 5
     u.switches = [x] ∧ x.at_ ≤ u.now ∧ x.mask = none ∧ x.gen = some 2) := by decide +kernel

theorem test_forecast_requests_met :
    opensWith (trained.opens { own (oModel 2) with hdr := { object := oModel 2, property := 0 } } (.loadModel (.start 100 0 0)) (doLoadModel { own (oModel 2) with hdr := { object := oModel 2, property := 0 } } (.start 100 0 0))) (fun u _ =>
      (u.model 2).holder.isNone && decide (u.get .modelState 2 = slEmpty)) = true ∧
    opensWith ((trained.put .modelState 2 slLoading).opens { own (oModel 2) with hdr := { object := oModel 2, property := 2 } } (.loadModel .none) (doLoadModel { own (oModel 2) with hdr := { object := oModel 2, property := 2 } } .none)) (fun u _ =>
      (u.model 2).holder.isNone && decide (u.get .modelState 2 = slLoading)) = true ∧
    opensWith ((trained.put .modelState 2 slLoaded).opens (own (oModel 2)) (.activateModel 1) (doActivateModel (own (oModel 2)) 1)) (fun u _ =>
      (u.noCapacity 2 1).isNone && u.hasDomain 0 && decide (u.get .modelState 2 = slLoaded)) = true ∧
    opensWith ((trained.put .modelState 2 slLoaded).opens (own (oModel 2)) .retireModel (doRetireModel (own (oModel 2)))) (fun u _ =>
      (u.boundTo 2).isEmpty && decide (u.get .modelState 2 = slLoaded)) = true ∧
    opensWith (trained.opens (own (oDomain 0)) .queryForecast (doQueryForecast (own (oDomain 0)))) (fun _ _ => true) = true ∧
    opensWith (trained.opens (own (oAccel 0)) .queryForecast (doQueryForecast (own (oAccel 0)))) (fun _ _ => true) = true ∧
    opensWith (trained.opens (own (oModel 1)) .readModelStats (doReadModelStats (own (oModel 1)))) (fun u _ => decide (u.get .modelState 1 ≠ slEmpty)) = true ∧
    opensWith (trained.opens (own (oModel 1)) (.setTraining 2 0 0 0 0 0 0 0) (doSetTraining (own (oModel 1)) 2 0 0 0 0 0 0 0)) (fun u _ =>
      cTrainable plain && [0, 1, 2].any u.tileStacks && (trainField 0 (lrDefault plain) 1 (lrMax plain) 1).isSome && decide ((u.model 1).bytes = plain)) = true ∧
    opensWith (({ trained with shelf := {} } : State).opens (own (oModel 1)) (.setTraining 2 0 0 0 0 0 0 0) (doSetTraining (own (oModel 1)) 2 0 0 0 0 0 0 0)) (fun u _ =>
      (u.shelf.get {} 1).bytes.isEmpty && decide ((u.model 1).training.mode = 2)) = true ∧
    opensWith (trained.opensWrite (own (oModel 3)) .trainTile 1 (setTrainTile 1)) (fun u _ =>
      u.tileStacks 1 && decide (((u.windowed (fun s => s.put .trainTile 3 1)).model 3).training.mode = 0)) = true ∧
    opensWith (trained.opensWrite (own oDevice) .fcSvnFloor 1 (setFcSvnFloor 1)) (fun u _ => decide (u.get .fcSvnFloor 0 ≤ 1)) = true ∧
    writeStatus (named (own oDevice) P.fcSvnFloor.desc.code) .fcSvnFloor P.fcSvnFloor.desc.bytes 1 = .ok ∧
    ((trained.put .fcSvnFloor 0 2).arrives (named (own oDevice) P.fcSvnFloor.desc.code) (.setProp P.fcSvnFloor.desc.bytes 1)).any (fun u => decide (1 < u.get .fcSvnFloor 0)) = true := by
  decide +kernel

/-- A masthead whose tray takes part in a round that began at 0. -/
def mast : State := { (((((trio.put .depth 0 0).setV .upPort 0 (-1)).setV .lockTakes 0 1).setV .lockRound 0 0).setV .lockMast 0 5 |>.put .portRole 3 3) with
  lockCmds := [{ origin := {}, group := 7, mask := 1, grid := 50, ackDue := some 3 }] }

theorem test_lockstep_met :
    (let u := mast.tick 1000000
     u.featuresUp.testBit 7 = true ∧ u.now % roundLen = 0 ∧ u.get .powerState = psRunning ∧ u.get .portRole 3 = 3 ∧
       ({ round := u.roundNo } : LockUp).round = u.roundNo ∧ u.flag .lockTakes = true ∧ u.flag .lockUpSent = false ∧ 3 ∉ u.lockHeard ∧
       u.isMasthead = true ∧ ({ round := u.roundNo } : LockUp).short = false ∧ 0 ≤ u.var .lockRound ∧ ({ u with lockHeard := [3] } : State).lockWhole = true ∧
       (u.joinTable 5 50).isSome = true ∧
       (u.lockCmds.find? (fun c => c.group = 7 ∧ c.ackDue.isSome ∧ !c.leave)).isSome = true) ∧
    ((3 : Fin 10).val : Int) = ((mast.setV .upPort 0 3).tick 5).var .upPort := by decide +kernel

theorem test_commit_send_met :
    (let u := mast.tick 1000000
     u.flag .lockTakes = true ∧ u.isMasthead = true ∧ u.flag .lockUpSent = false ∧ 0 ≤ u.var .lockRound ∧ u.roundAt + u.varN .lockLead * us ≤ u.now + 40 * us) := by decide +kernel

/-- Accelerator 0 present, able to keep a lockstep grid of 50. -/
def capable : State := ((((sheet0.put .accelPresence 0 2).setV .caps 0 2).setV .fStep 0 50).setV .lockMast 0 5).put .timeStatus 0 2

theorem test_group_requests_met :
    opensWith ((capable.setV .upPort 0 2).opens (own (oGroup 7)) (.joinGroup 1 50) (doJoinGroup (own (oGroup 7)) 1 50)) (fun u _ =>
      u.hasAccel 0 && !u.isHeld (oAccel 0) && decide (u.get .accelPresence 0 = 2) && (u.varN .caps 0).testBit 1 && (u.groupOf 0).isNone &&
        decide (50 % u.varN .fStep 0 = 0) && u.takesPart && !u.isMasthead) = true ∧
    opensWith (((capable.put .depth 0 0).setV .upPort 0 (-1)).opens (own (oGroup 7)) (.joinGroup 1 50) (doJoinGroup (own (oGroup 7)) 1 50)) (fun u _ =>
      u.takesPart && u.isMasthead && decide (u.joinTable 7 50 = some 0) &&
        decide ((u.hold (u.originOf (own (oGroup 7)) .joinGroup) [oAccel 0]).joinTable 7 50 = some 0)) = true ∧
    opensWith ((capable.put .lockGroup 0 7).opens (own (oGroup 7)) (.leaveGroup 1) (doLeaveGroup (own (oGroup 7)) 1)) (fun u _ =>
      !u.isHeld (oAccel 0) && decide (u.groupOf 0 = some 7)) = true ∧
    opensWith ((capable.put .groupRound 7 9).opens (own (oGroup 7)) .readGroup (doReadGroup (own (oGroup 7)))) (fun u _ => decide (u.get .groupRound 7 ≠ 0)) = true ∧
    opensWith (capable.opens (own oDevice) (.loadPhasePlan [{}]) (doLoadPhasePlan (own oDevice) [{}])) (fun _ _ => true) = true ∧
    (let s : State := { capable with plans := [{}] }
     opensWith (s.opens (own oDevice) (.clearPhasePlan 0 0) (doClearPhasePlan (own oDevice) 0 0)) (fun u _ => (u.plan 0 0).isSome) = true) ∧
    opensWith (capable.reaches (own oDevice) (.clearPhasePlan 0 1) (doClearPhasePlan (own oDevice) 0 1)) (fun v o =>
      ((v.entered o (.clearPhasePlan 0 1)).plan 0 1).isNone) = true ∧
    opensWith (capable.opens (own oDevice) (.readPhasePlan 0 1) (doReadPhasePlan (own oDevice) 0 1)) (fun _ _ => true) = true := by decide +kernel

/-- A tray with a whole coolant description, whose coolant loops run. -/
def cool : State := { sheet0 with td := some { accels := [{ accel := 0, domains := 4, sensors := 4 }], legs := [(0, 0), (1, 0)],
                                               supplyChan := some 200, returnChan := some 201,
                                               declared := [obj 0x07 0, obj 0x08 0, obj 0x09 0, obj 0x0A 0, obj 0x0B 0, obj 0x0C 0] } }

theorem test_thermal_met :
    (let u := (((cool.put .thermalReefStep 0 1).setScope 0 3 0 0xFFFF).startFurl 0 2 0xFFFF noReading 0 100).tick 1000000000
     (u.each ([] : List (Fin 16 × Option Nat)) (fun (s : State) (x : Fin 16 × Option Nat) => s.sampleCode (200 + x.1.val) x.2)).td.isSome = true ∧
       u.now % (u.getN .thermalReefStep * ms) = 0 ∧ u.furlStateOf 0 = 1 ∧ (u.furlOf 0).cut ≤ u.now) ∧
    opensWith (cool.opens (own (oAccel 0)) (.furl 100) (doFurl (own (oAccel 0)) 100)) (fun u _ => ((u.startFurl 0 2 0xFFFF noReading 0 100).furlWaits 0).isEmpty) = true ∧
    opensWith ((cool.setScope 0 3 0 0xFFFF).opens (own (oAccel 0)) (.furl 100) (doFurl (own (oAccel 0)) 100)) (fun u _ =>
      !((u.startFurl 0 2 0xFFFF noReading 0 100).furlWaits 0).isEmpty) = true := by decide +kernel

theorem test_boards_met : (cool.tick 1000000).onGrid (100 * us) = true ∧ (cool.tick 1000000).onGrid ms = true ∧ (cool.tick 0).boardTurn 72 = true ∧
    ((cool.tick 0).td.bind (fun d => d.supplyChan)) = some 200 ∧ ((cool.tick 0).td.bind (fun d => d.returnChan)) = some 201 := by decide +kernel

theorem test_drives_met :
    (let u := ((((cool.put .channelState 0 chKick).setT .fanHandover 0 (some 3)).setT .hostSilence 0 (some 3)).modDrv 0 (fun x => { x with edgeCount := 9 })).tick 9000000000
     u.coolRuns = true ∧ u.td.isSome = true ∧ u.onGrid ms = true ∧ u.islandGives 0 8 = true ∧ u.islandTakes 0 8 = true ∧ u.declared (oDrive 0) = true ∧ u.acts (pTach 0) = false ∧ u.get .channelState 0 = chKick ∧
       (u.drv 0).since + u.getN .kickTime 0 * ms ≤ u.now ∧ (u.driveDesc 0).ppr ≤ (u.drv 0).edgeCount ∧ u.due .fanHandover = true ∧
       u.due .hostSilence = true ∧ (u.disarm .hostSilence).get .autonomous ≠ 1) ∧
    (let u := (cool.put .channelState 0 chRest).tick 9000000000
     u.get .channelState 0 = chRest ∧ (u.drv 0).since + u.getN .restTime 0 * ms ≤ u.now) ∧
    (let u := ((cool.put .channelState 0 chStalled).put .stallRetry 0 1).tick 9000000000
     u.get .channelState 0 = chStalled ∧ u.getN .stallRetry 0 ≠ 0 ∧ (u.drv 0).since + u.getN .stallRetry 0 * sec ≤ u.now) ∧
    (let u := ((cool.put .channelState 0 chRun).modDrv 0 (fun x => { x with band := 3 })).tick 90000000000
     u.get .channelState 0 = chRun ∧ max (u.drv 0).since ((u.drv 0).edges.headD 0) + u.tachLimit 0 ≤ u.now ∧ u.bandIs 0 3 = true) := by
  decide +kernel

theorem test_coolant_met :
    (let u := (((cool.setT .leakConfirm 0 (some 3)).put .zoneState 0 zSuspect).setT .leakEscalate 0 (some 3)).tick 5
     u.td.isSome = true ∧ u.coolRuns = true ∧ u.get .powerState = psRunning ∧ u.due .leakConfirm 0 = true ∧ (u.disarm .leakConfirm 0).get .zoneState 0 = zSuspect ∧
       u.due .leakEscalate 0 = true) ∧
    ((((cool.setT .leakConfirm 0 (some 3)).put .zoneState 0 zDrying).tick 5).disarm .leakConfirm 0).get .zoneState 0 = zDrying ∧
    (cool.tick 20000000).onGrid (10 * ms) = true ∧
    (let u := (((cool.setT .leakDry 0 (some 3)).put .zoneState 0 zWet).setT .leakCut 0 (some 3)).tick 5
     u.due .leakDry 0 = true ∧ (u.disarm .leakDry 0).zoneWet 0 = true ∧ u.due .leakCut = true) := by decide +kernel

theorem test_coolant_requests_met :
    opensWith ((cool.put .channelState 0 chRun).opens (own (obj 0x07 0)) (.setFan 0 0) (doSetDrive (own (obj 0x07 0)) 7 0 0)) (fun u _ =>
      decide (u.get .autonomous ≠ 1) && u.coolRuns && decide (u.get .channelState 0 = chRun)) = true ∧
    opensWith ((cool.put .channelState 0 chRun).opens (own (obj 0x07 0)) (.setFan 2 0) (doSetDrive (own (obj 0x07 0)) 7 2 0)) (fun u _ => decide (u.get .autonomous ≠ 1)) = true ∧
    opensWith ((cool.put .channelState 16 chRun).opens (own (obj 0x08 0)) (.setPump 2 0) (doSetDrive (own (obj 0x08 0)) 8 2 0)) (fun u _ =>
      decide (u.get .autonomous ≠ 1) && !u.pumpHeld 0 && u.coolRuns && decide (u.get .channelState 16 = chRun)) = true ∧
    opensWith (({ cool with td := cool.td.map (fun d => { d with declared := d.declared ++ [obj 0x09 4] }) } : State).opens (own (obj 0x09 4)) (.setValve 1 500) (doSetValve (own (obj 0x09 4)) 1 500))
      (fun u _ => !u.flag .leakShut 0) = true ∧
    opensWith ((cool.modZone 0 (fun x => { x with wet := true })).opens (own (obj 0x0C 0)) (.isolateLeak 2) (doIsolateLeak (own (obj 0x0C 0)) 2)) (fun u _ => (u.zone 0).wet) = true ∧
    opensWith ((cool.put .zoneState 0 zDrying).opens (own (obj 0x0C 0)) .resetLeakZone (doResetLeakZone (own (obj 0x0C 0)))) (fun u _ => decide (u.get .zoneState 0 = zDrying)) = true ∧
    opensWith ((cool.put .zoneState 0 zWet).reaches (own (obj 0x0C 0)) .resetLeakZone (doResetLeakZone (own (obj 0x0C 0)))) (fun v o =>
      decide ((v.entered o .resetLeakZone).get .zoneState 0 = zWet)) = true ∧
    opensWith (cool.opens (own (obj 0x07 0)) (.loadFanTable 1 2 [0] [(20000, 300), (60000, 1000)]) (doLoadFanTable (own (obj 0x07 0)) 1 2 [0] [(20000, 300), (60000, 1000)])) (fun u _ =>
      u.objPresent (oThermal 0) && pointsRise [(20000, 300), (60000, 1000)] && u.coolRuns) = true ∧
    opensWith (cool.opens (own oDevice) (.setWaterMode 1 40000 100) (doSetWaterMode (own oDevice) 1 40000 100)) (fun _ _ => true) = true := by decide +kernel

/-- The bytes of an image whose one code word is `w` (Table 13.7). -/
def imageOf (w : Nat) : List Nat := List.replicate 26 0 ++ [1, 0] ++ List.replicate 8 0 ++ [48, 0, 0, 0] ++ List.replicate 8 0 ++ leBytes 4 w

/-- Engine 0 runs it, from word 0 with a budget of 100 and registers `g`. -/
def coded (w : Nat) (g : List (BitVec 32)) : State :=
  (trio.put .engineState 0 enRunning).modEngine 0 (fun x => { x with image := imageOf w, stack := [{ g, budget := 100, source := 7 }] })

/-- A word retires on it, and the state and level it finds meet a condition. -/
def retiring (w cost : Nat) (g : List (BitVec 32)) (c : State → Level → Bool) : Bool :=
  match ((coded w g).tick 5).retires 0 w cost with
  | some (u, l) => c u l
  | none => false

/-- Registers of small numbers, g3 zero and g4 a word address. -/
def nums : List (BitVec 32) := [1, 2, 3, 0, 64, 5, 6, 7, 8, 9, 10, 11, 12, 13, 14, 15]

theorem test_alu_met :
    (List.range 0x11).all (fun f => retiring (wordR f 1 2 5) (if f = 8 ∨ f = 9 then 2 else if f = 10 ∨ f = 11 then 8 else 1) nums
      (fun _ l => l.reg 5 != 0)) = true ∧
    retiring (wordR 0xA 1 2 3) 8 nums (fun _ l => l.reg 3 == 0) = true ∧ retiring (wordR 0xB 1 2 3) 8 nums (fun _ l => l.reg 3 == 0) = true := by
  decide +kernel

theorem test_immediates_met :
    [1, 2, 3, 4, 6].all (fun op => retiring (wordI op 1 2 9) 1 nums (fun _ _ => true)) = true ∧
    [0, 32, 64].all (fun k => retiring (wordI 5 1 2 (k + 3)) 1 nums (fun _ _ => true)) = true ∧
    [7, 8].all (fun op => retiring (wordL op 1 9) 1 nums (fun _ _ => true)) = true := by decide +kernel

theorem test_memory_met :
    [(0x10, 4), (0x11, 2), (0x12, 1)].all (fun x => retiring (wordI x.1 1 4 0) 2 nums (fun _ l => accessOk (l.addr 4 0) x.2)) = true ∧
    [(0x10, 4), (0x11, 2), (0x12, 1)].all (fun x => retiring (wordI x.1 1 4 0x1FFF) 2 nums (fun _ l => !accessOk (l.addr 4 0x1FFF) x.2)) = true ∧
    [(0x13, 4), (0x14, 2), (0x15, 1)].all (fun x => retiring (wordI x.1 1 4 0) 2 nums (fun _ l =>
      accessOk (l.addr 4 0) x.2 && decide (l.addr 4 0 < 0x1800))) = true ∧
    [(0x13, 4), (0x14, 2), (0x15, 1)].all (fun x => retiring (wordI x.1 1 4 0x1800) 2 nums (fun _ l =>
      accessOk (l.addr 4 0x1800) x.2 && decide (0x1800 ≤ l.addr 4 0x1800))) = true ∧
    retiring (wordL 0x20 0 3) 2 nums (fun _ l => l.holds 0 && decide (0 ≤ l.target 3 ∧ l.target 3 < 4096)) = true ∧
    retiring (wordL 0x20 1 3) 1 nums (fun _ l => !l.holds 1) = true ∧ wOp (wordL 0x21 0 3) = 0x21 ∧ wImm22 (wordL 0x21 0 3) = 3 ∧
    retiring (wordL 0x21 0 3) 2 nums (fun _ l => decide (0 ≤ l.target 3 ∧ l.target 3 < 4096)) = true ∧ wOp (wordI 0x22 0 4 0) = 0x22 ∧
    wRs (wordI 0x22 0 4 0) = 4 ∧ retiring (wordI 0x22 0 4 0) 2 nums (fun _ l => decide ((l.reg 4).toNat < 4096)) = true := by decide +kernel

/-- The image with one manifest record behind its code word (Table 13.9a). -/
def imageWith (w : Nat) (r : List Nat) : List Nat :=
  List.replicate 24 0 ++ [1, 0, 1, 0] ++ List.replicate 4 0 ++ [64, 0, 0, 0, 48, 0, 0, 0] ++ List.replicate 8 0 ++ leBytes 4 w ++ List.replicate 12 0 ++ r

/-- Engine 0 runs it, with a request packet of KEEPALIVE to the device at address 64, and the forecast of domain 0 is there. -/
def manifested (w : Nat) (r : List Nat) (g : List (BitVec 32)) : State :=
  (((loops0.put .engineState 0 enRunning).modFc 0 (fun x => { x with valid := true })).setV .forecastOk 0 1).modEngine 0 (fun x =>
    (({ x with image := imageWith w r, stack := [{ g, budget := 100, source := 7 }] } : Engine).writeData 66 2 0x0203).writeData 72 4 oDevice)

/-- A word retires there, and the state and level it finds meet a condition. -/
def permitted (w cost : Nat) (r : List Nat) (g : List (BitVec 32)) (c : State → Level → Bool) : Bool :=
  match ((manifested w r g).tick 5).retires 0 w cost with
  | some (u, l) => c u l
  | none => false

/-- A record of a kind over every object of a class, whose property and check name anything. -/
def record (kind source cls : Nat) : List Nat :=
  [kind, 0] ++ leBytes 2 source ++ leBytes 4 (obj cls 0) ++ leBytes 4 (obj cls 0xFFFF) ++ [0xFF, 0xFF, 0xFF, 0xFF] ++ List.replicate 8 0

theorem test_system_met :
    (let w := wordI 0x33 1 0 0
     wOp w = 0x33 ∧ wRd w = 1 ∧ wImm18 w = 0 ∧ retiring w 2 nums (fun u _ => decide ((u.engine 0).slotState 0 = 0)) = true) ∧
    (let w := wordI 0x33 1 0 4
     wImm18 w = 4 ∧ retiring w 2 nums (fun _ _ => true) = true) ∧
    (wOp (wordI 0x35 0 0 0) = 0x35 ∧ retiring (wordI 0x35 0 0 0) 8 nums (fun _ _ => true) = true) ∧
    [0, 2, 3].all (fun k => retiring (wordI 0x36 1 0 k) 2 nums (fun _ _ => true)) = true ∧
    (wOp (wordI 0x37 0 3 0) = 0x37 ∧ wRs (wordI 0x37 0 3 0) = 3 ∧ retiring (wordI 0x37 0 3 0) 2 nums (fun _ l => decide ((l.reg 3).toNat = 0)) = true) ∧
    (wOp (wordI 0x3F 0 0 0) = 0x3F ∧ retiring (wordI 0x3F 0 0 0) 1 nums (fun _ _ => true) = true) := by decide +kernel

theorem test_reads_met :
    permitted (wordI 0x30 1 2 P.powerState.desc.code) 16 (record 2 0 0xFF) [0, 0, BitVec.ofNat 32 oDevice] (fun u l =>
      decide ((l.reg 2).toNat = oDevice) && (iManifest (u.engine 0).image).any (fun r => decide (r.kind = 2) && decide (r.first ≤ oDevice ∧ oDevice ≤ r.last) &&
        decide (r.prop = 0xFFFF)) && decide (u.checkPresence none oDevice [] = .ok) && decide (findProp oDevice P.powerState.desc.code = some .powerState) &&
        decide (P.powerState.desc.bytes ≤ 4)) = true ∧
    permitted (wordI 0x30 1 2 P.powerState.desc.code) 16 (record 3 0 0xFF) [0, 0, BitVec.ofNat 32 oDevice] (fun u _ =>
      !(iManifest (u.engine 0).image).any (fun r => decide (r.kind = 2))) = true ∧
    permitted (wordI 0x31 1 2 0) 24 (record 4 0 3) [0, 0, BitVec.ofNat 32 (obj 3 0)] (fun u l =>
      decide ((l.reg 2).toNat = obj 3 0) && (iManifest (u.engine 0).image).any (fun r => decide (r.kind = 4) && decide (r.first ≤ obj 3 0 ∧ obj 3 0 ≤ r.last)) &&
        decide (u.regTile 0 = some 0) && decide (u.fcStep ≠ 0) && u.hasDomain 0 && (u.fcDom 0).valid && u.flag .forecastOk 0) = true := by decide +kernel

theorem test_sends_met :
    permitted (wordI 0x32 1 2 0) 32 (record 3 0x0203 0xFF) [0, 0, 64] (fun u l =>
      let x := u.engine 0
      decide ((l.reg 2).toNat = 64) && decide ((List.range 4).find? (fun k => decide (x.slotState k = 0)) = some 0) &&
        decide (x.readData 66 2 = 0x0203 ∧ Body.keepalive.opcode = 0x0203 ∧ x.readData 78 2 = 0) &&
        x.permits 64 0x0203 (x.packetAt 64 0).object (x.packetAt 64 0).property (x.packetAt 64 0).paramLen (x.packetAt 64 0).safety) = true ∧
    (match (((coded (wordI 0x33 1 0 4) nums).modEngine 0 (fun x => x.writeData (mailAddr 0) 4 2)).tick 5).retires 0 (wordI 0x33 1 0 4) 2 with
      | some (u, _) => decide ((u.engine 0).slotState 0 = 2)
      | none => false) = true ∧
    permitted (wordI 0x37 0 2 0) 2 ([1, 0] ++ leBytes 2 0x401 ++ leBytes 4 0 ++ leBytes 4 100 ++ [0, 0, 0, 0] ++ leBytes 4 10 ++ leBytes 4 0) [0, 0, 20]
      (fun u l => (handlerOf (u.engine 0).image vTimer).any (fun r => decide (r.lo ≤ ((l.reg 2).toNat : Int))) && decide ((l.reg 2).toNat ≠ 0)) = true := by decide +kernel

/-- Fore's engines run a program without code, and one event has been raised. -/
def raised0 : State := ({ trio with raised := [{ num := 0x320, src := oDevice, stamp := 0, csn := 0, safety := false, payload := [] }] } : State).put .engineState 0 enRunning

theorem test_occurrences_met :
    (raised0.tick 5).raised.length = 1 ∧ ((raised0.setT .ecHold 0 (some 3)).tick 5).due .ecHold 0 = true ∧
    (let u := ((raised0.modEngine 0 (fun x => { x with period := 10, timer := some (1, 0) })).setT .engineTimer 0 (some 3)).tick 5
     u.timer .engineTimer 0 = some 3 ∧ 3 ≤ u.now ∧ (u.engine 0).period ≠ 0 ∧ (u.engine 0).timer = some (1, 0)) ∧
    (let u := ((raised0.modEngine 0 (fun x => { x with period := 10 })).setT .engineTimer 0 (some 3)).tick 5
     u.timer .engineTimer 0 = some 3 ∧ (u.engine 0).timer = none ∧ (u.engine 0).stack = []) ∧
    (let u := ((raised0.modEngine 0 (fun x => { x with period := 10, stack := [{ source := vTimer }] })).setT .engineTimer 0 (some 3)).tick 5
     (u.engine 0).timer = none ∧ (u.engine 0).stack.reverse.findIdx? (fun l => decide (l.source = vTimer)) = some 0) := by decide +kernel

theorem test_event_registers_met :
    writeStatus (named (own (oEventSrc 0x320)) 0x130) .srcConfig P.srcConfig.desc.bytes 0 = .ok ∧
    opensWith (trio.opens (named (own (oEventSrc 0x320)) 0x130) (.setProp P.srcConfig.desc.bytes 0) (setSrcConfig 0 (3 * 0x320))) (fun u _ =>
      decide (cfgMask (u.cfg 0x320 0) = 0 ∧ propIndex (oEventSrc 0x320) .srcConfig 0x130 = 3 * 0x320)) = true ∧
    writeStatus (named (own (oEventSrc 0x320)) 0x134) .srcStatus P.srcStatus.desc.bytes 0 = .ok ∧
    opensWith (trio.opens (named (own (oEventSrc 0x320)) 0x134) (.setProp P.srcStatus.desc.bytes 0) (setSrcStatus 0 (3 * 0x320))) (fun _ _ => true) = true ∧
    opensWith (trio.opensWrite (own (oEventSrc 0x320)) .softPend 1 (setSoftPend (own (oEventSrc 0x320)).hdr.force 1)) (fun _ _ => true) = true ∧ writeIndex (own (oEventSrc 0x320)) .softPend = 0x320 ∧
    opensWith (trio.opensWrite (own (oEventSrc 1023)) .ecHold 1 (setEcHold 1)) (fun _ _ => true) = true ∧
    opensWith ((trio.modEngine 0 (fun x => { x with shelved := true })).opensWrite (own (oBurin 0)) .autostart 1 (setAutostart 1)) (fun u _ => (u.engine 0).shelved) = true := by
  decide +kernel

theorem test_dispatch_met :
    (let u := (raised0.modEngine 0 (fun x => { x with timer := some (1, 0) })).tick 5
     u.candidatesOf 0 = [(15, 1, vTimer)] ∧ u.get .engineState 0 = enRunning ∧ 15 < (u.engine 0).runPrio ∧ (u.engine 0).stack.length < 8 ∧ 1022 < vTimer) ∧
    (let u := (raised0.modSrc 0x320 0 (fun x => { x with assigned := some 0, pending := 1 })).tick 5
     (u.candidatesOf 0).length = 1 ∧ (u.candidatesOf 0).all (fun c => decide (c.1 < (u.engine 0).runPrio) && decide (c.2.2 = 0x320)) = true) ∧
    (let r : Reply := { opcode := 0x101, tag := 0, queue := 0, object := oDevice, status := 0, results := [], commitCsn := 0, doneTime := 0, final := true, safety := false }
     let u := (({ raised0 with mail := [(0, r)] } : State).modEngine 0 (fun x => x.writeData (mailAddr 0) 4 1)).tick 5
     u.mail.find? (fun m => m.1 = 0) = some (0, r) ∧ u.get .engineState 0 = enRunning ∧ r.tag < 4 ∧ (u.engine 0).slotState r.tag = 1) := by decide +kernel

theorem test_programs_met :
    opensWith (trio.opens { own (oBurin 0) with hdr := { object := oBurin 0, property := 0 } } (.loadProgram (.start 100 0 0)) (doLoadProgram { own (oBurin 0) with hdr := { object := oBurin 0, property := 0 } } (.start 100 0 0))) (fun u _ =>
      (u.engine 0).holder.isNone && decide (u.get .engineState 0 = enEmpty)) = true ∧
    opensWith ((trio.put .engineState 0 enLoading).opens { own (oBurin 0) with hdr := { object := oBurin 0, property := 2 } } (.loadProgram .none) (doLoadProgram { own (oBurin 0) with hdr := { object := oBurin 0, property := 2 } } .none)) (fun u _ =>
      (u.engine 0).ending.isNone && decide (u.get .engineState 0 = enLoading)) = true ∧
    (let u := ((trio.put .engineState 0 enLoading).modEngine 0 (fun x => { x with ending := some {} })).tick 5
     (u.engine 0).ending = some {} ∧ u.get .engineState 0 = enLoading ∧ NandWhat.program 0 ∉ u.nandWrites ∧ (u.engine 0).keep = false) ∧
    opensWith ((trio.put .engineState 0 enLoaded).opens (own (oBurin 0)) .startProgram (doStartProgram (own (oBurin 0)))) (fun u _ =>
      !u.routeConflict 0 (u.engine 0).image && decide (((u.startEngine 0 0).engine 0).init ≠ 1)) = true ∧
    opensWith ((trio.put .engineState 0 enRunning).opens (own (oBurin 0)) .stopProgram (doStopProgram (own (oBurin 0)))) (fun u _ => decide (u.get .engineState 0 = enRunning)) = true ∧
    opensWith ((trio.put .engineState 0 enLoaded).opens { own (oBurin 0) with hdr := { object := oBurin 0, property := 1 } } .stopProgram (doStopProgram { own (oBurin 0) with hdr := { object := oBurin 0, property := 1 } })) (fun u _ =>
      decide (u.get .engineState 0 = enLoaded)) = true ∧
    opensWith ((trio.put .engineState 0 enLoaded).opens (own (oBurin 0)) .readEngine (doReadEngine (own (oBurin 0)))) (fun _ _ => true) = true ∧
    opensWith (trio.opens (own (oEventSrc 0x320)) (.raiseEvent 4 (List.replicate 32 0)) (doRaiseEvent (own (oEventSrc 0x320)) 4 (List.replicate 32 0))) (fun _ _ => true) = true := by decide +kernel

theorem test_program_ends_met :
    opensWith ((trio.put .engineState 0 enLoading).opens { own (oBurin 0) with hdr := { object := oBurin 0, property := 3 } } (.loadProgram .none) (doLoadProgram { own (oBurin 0) with hdr := { object := oBurin 0, property := 3 } } .none)) (fun u _ =>
      (u.engine 0).holder.isNone && (u.engine 0).ending.isNone && decide (u.get .engineState 0 = enLoading)) = true := by decide +kernel

/-- Ratline port 3 in a state of its link. -/
def ratOn (x : Link) : State := trio.modLink 51 (fun _ => x)

theorem test_ratline_met :
    (let u := (ratOn { state := lkIdent }).tick 5
     (u.link 51).state = lkIdent ∧ (77 : Int) ≠ u.var .serial) ∧
    (let u := (trio.tick 5)
     (u.var .advertAt < 0) ∧ 0 ≤ (u.setV .upPort 0 3).var .upPort ∧ (u.setV .upPort 0 3).freshAdvert ((u.setV .upPort 0 3).varN .upPort) = none) ∧
    ((ratOn { state := lkActive }).tick 5).ratUp 3 = true ∧
    ratChannel 0x50 = some 3 ∧ (trio.tick 5).treeRoute 1 0 = .unreachable := by decide +kernel

theorem test_ratline_drops_met :
    (let u := (ratOn { state := lkActive, queue := [{ ch := 2, kind := 1, num := 0, first := true, last := true, since := 0 }] }).tick 20000
     (u.link 51).queue.any (fun (f : TxFlit) => decide (f.ch = 2 ∧ f.last ∧ f.since + 20 * us ≤ u.now)) = true) ∧
    (trio.tick 20000).var .eventAt (0x2000 + 3) < 0 ∧
    opensWith (trio.opensWrite (own (oRatPort 3)) .portAdmin 1 (setPortAdmin 1)) (fun _ _ => true) = true ∧
    (let u := ((ratOn { state := lkActive }).setV .upPort 0 3).tick 5
     u.var .upPort = 3 ∧ u.ratUp 3 = true ∧ (u.rat 3).exchanges = []) := by decide +kernel

theorem test_routes_met :
    (let u := ({ trio with hearings := [{ serial := 77, port := 4, hops := 1, at_ := 3, stamp := 0, prio := 0, locked := false }] } : State).tick 5
     u.rackPort 77 = some 4 ∧ (77 : Int) ≠ u.var .serial) ∧
    (let u := (((trio.put .depth 0 1).put .taddr 0 0x0FFFFFF5).setV .upPort 0 3).tick 5
     u.treeRoute 0x0FFFFFFF 0 = .port 3 ∧ u.treeRoute 0x0FFFFFF5 9 = .wrongTray) ∧
    ((((trio.put .depth 0 255).tick 5).treeRoute 5 0) = .unreachable) := by decide +kernel

/-- A snapshot over scope 5 from a host. -/
def snapBody : Body := .snapshotGlobal (.snapshot 5 [])

theorem test_globalOps_met :
    (let u := (trio.put .taddr 0 5).tick 5
     (opOfBody snapBody).isSome ∧ u.getN .taddr = 5 ∧ u.get .depth ≠ 255 ∧ u.globalOps.length < 16) ∧
    (let u := (trio.setV .upPort 0 3).tick 5
     u.var .upPort = 3 ∧ u.get .depth ≠ 255 ∧ u.globalOps = []) ∧
    (let x : GlobalOp := { opId := 9, begun := true, root := true, own := some 0 }
     let u := (({ trio with globalOps := [x] } : State).put .portRole 3 3).tick 5
     u.get .portRole 3 = 3 ∧ u.globalOps.find? (fun x => decide (x.opId = 9)) = some x ∧ x.closed = false ∧ x.kind ≠ 3 ∧ u.opOrphan x = false ∧
       u.opReady x = true) ∧
    (let x : GlobalOp := { opId := 9, begun := true, dataDue := some 3 }
     let u := ({ trio with globalOps := [x] } : State).tick 5
     u.globalOps = [x] ∧ 3 ≤ u.now) := by decide +kernel

theorem test_remote_met :
    (trio.tick 5).remoteIns = [] ∧
    (let u := ({ trio with remoteOuts := [{ origin := { op := .broadcast, object := oDevice }, opId := 1, addr := 5, serial := 6, due := 3, hdr := {}, body := snapBody }] } : State).tick 5
     ∃ r : RemoteOut, u.remoteOuts = [r] ∧ r.serial = 6 ∧ r.due ≤ u.now ∧ r.fail = none ∧ r.attempt = 1) ∧
    (let u := ({ trio with exports := [{ origin := { op := .exportRecorder, object := oRecorder }, path := 2, content := 1, id := 4, room := 4096 }] } : State).tick 5
     ∃ x : Export, u.exports.find? (fun x => x.path = 2 ∧ x.id = 4) = some x ∧ 4096 ≤ x.room) ∧
    (let u := ({ trio with exports := [{ origin := { op := .exportRecorder, object := oRecorder }, path := 1, content := 1, id := 4, open_ := [0], next := 1, data := List.replicate 8 0 }] } : State).tick 5
     ∃ x : Export, u.exports.find? (fun x => x.path = 1 ∧ x.id = 4 ∧ 0 ∈ x.open_) = some x ∧ x.open_ = [0] ∧ exportCount x ≤ x.next) :=
  ⟨by decide, ⟨_, rfl, by decide⟩, ⟨_, rfl, by decide⟩, ⟨_, rfl, by decide⟩⟩

theorem test_remote_again_met :
    (let u := ({ trio with remoteIns := [{ serial := 6, addr := 5, queue := 0, tag := 0, reply := some [1] }] } : State).tick 5
     u.remoteIns.find? (fun r => decide (r.serial = 6) && decide (r.queue = ({} : Header).queue) && decide (r.tag = ({} : Header).tag)) =
       some { serial := 6, addr := 5, queue := 0, tag := 0, reply := some [1] }) ∧
    (let r : RemoteOut := { origin := { op := .broadcast, object := oDevice }, opId := 1, addr := 5, serial := 6, due := 3, hdr := {}, body := snapBody, attempt := 2 }
     let u := ({ trio with remoteOuts := [r] } : State).tick 5
     u.remoteOuts = [r] ∧ r.due ≤ u.now ∧ r.fail = none) ∧
    leValue ((([0, 0, 0, 0, 0, 0, 0, 0, 0, 0] : List Nat).drop 4).take 2) = ({} : Header).tag := by decide +kernel

theorem test_global_requests_met :
    inScope 0x0FFFFFFF 0x0FFFFFFF = true ∧
    opensWith ((trio.put .taddr 0 0x0FFFFFFF).opens (own oDevice) (.barrier (.barrier 7 0x0FFFFFFF 1000)) (doBarrier (own oDevice) (.barrier 7 0x0FFFFFFF 1000))) (fun u _ =>
      decide (u.get .depth ≠ 255) && decide (7 ∉ u.opsPassed) && decide (u.globalOps = []) && decide (u.getN .taddr = 0x0FFFFFFF)) = true ∧
    opensWith ((trio.put .depth 0 255).reaches (own oDevice) (.barrier (.barrier 7 5 1000)) (doBarrier (own oDevice) (.barrier 7 5 1000))) (fun v o =>
      decide ((v.entered o (.barrier (.barrier 7 5 1000))).get .depth = 255)) = true ∧
    ((trio.put .taddr 0 0x0FFFFFFF).arrives (own oDevice) (.barrier (.barrier 7 0x1 1000))).any (fun u =>
      decide (u.get .depth ≠ 255) && !inScope 0x1 (u.getN .taddr)) = true ∧
    opensWith ((trio.put .taddr 0 0x0FFFFFFF).opens (own oDevice) (.reduce (.reduce 7 0x0FFFFFFF 1000 2 (-5))) (doReduce (own oDevice) (.reduce 7 0x0FFFFFFF 1000 2 (-5)))) (fun u _ =>
      decide (u.get .depth ≠ 255) && inScope 0x0FFFFFFF (u.getN .taddr) && decide (u.globalOps = [])) = true ∧
    opensWith (({ trio with opResults := [{ session := 0, at_ := 0, status := 0, msg := { opId := 7 } }] } : State).opens
      { own oDevice with hdr := { object := oDevice, property := 1 } } (.reduce (.opId 7)) (doReduce { own oDevice with hdr := { object := oDevice, property := 1 } } (.opId 7))) (fun _ _ => true) = true ∧
    opensWith ((trio.put .taddr 0 0x0FFFFFFF).opens (own oDevice) (.broadcast (.broadcast 0x0FFFFFFF 1 0) {} snapBody) (doBroadcast (own oDevice) (.broadcast 0x0FFFFFFF 1 0) {} snapBody)) (fun u _ =>
      decide (u.get .depth ≠ 255) && decide (u.globalOps.length < 16)) = true ∧
    opensWith ((trio.put .taddr 0 0x0FFFFFFF).opens (own oDevice) (.snapshotGlobal (.snapshot 0x0FFFFFFF [{ object := oDevice, property := 0, rsv := 0 }])) (doSnapshotGlobal (own oDevice) (.snapshot 0x0FFFFFFF [{ object := oDevice, property := 0, rsv := 0 }]))) (fun u _ =>
      decide (u.get .depth ≠ 255) && decide (u.snapBufs = [])) = true ∧
    opensWith ((trio.put .taddr 0 0x0FFFFFFF).opens (own oDevice) (.resetGlobal (.reset 0x0FFFFFFF 0 1 0)) (doResetGlobal (own oDevice) (.reset 0x0FFFFFFF 0 1 0))) (fun u _ =>
      decide (u.get .depth ≠ 255) && decide (u.globalOps.length < 16)) = true := by decide +kernel

/-- A request of firmware on port 0: one address of one device. -/
def busReq (work : BusWork) : BusReq :=
  { owner := 0, origin := some { op := .busTransfer, object := oBus 0 }, csn := 1, work, txns := [[{ addr := 0x20, len := 1, data := [0] }]], retries := 0, since := 0 }

/-- Port 0 in a state, with what it holds. -/
def busAt (st : Nat) (b : BusSt) : State := (trio.put .busPortState 0 st).modBus 0 (fun _ => b)

theorem test_bus_met :
    (let u := (busAt busIdle { queue := [busReq (.pmRead 0x20 1 false)] }).tick 5
     u.portState 0 = busIdle ∧ (u.bus 0).look = false ∧ (u.bus 0).hold = none ∧ u.inService (busTile 0) = true ∧
       (u.nextGrant 0).isSome = true ∧ ((u.modBus 0 (fun b => { b with queue := [] })).countQueued 0).farBlocked 0 (busReq .transfer).txns = false) ∧
    (let u := (busAt busIdle { queue := [busReq .transfer] }).tick 5
     (u.nextGrant 0).isSome = true) ∧
    ((busAt busBusy { hold := some (busReq .transfer) }).tick 5).txnRuns 0 = true ∧
    (let u := (((busAt busBusy { look := true }).setT .sclStuck 0 (some 3)).tick 5)
     u.portRests 0 = true ∧ (u.bus 0).look = true ∧ u.due .sclStuck 0 = true) ∧
    (let u := (((busAt busFailed {}).setT .busRetry 0 (some 3)).tick 5)
     u.inService (busTile 0) = true ∧ u.portState 0 = busFailed ∧ u.due .busRetry 0 = true) ∧
    (let u := ((busAt busIdle {}).tick 5)
     u.portRests 0 = true ∧ u.portState 0 = busIdle) ∧
    (let u := ((busAt busForeign {}).tick 5)
     u.portRests 0 = true ∧ u.portState 0 = busForeign) := by decide +kernel

/-- A device at address 0x20 of port 0 that is protected. -/
def protected0 : State := { trio with td := some { devices := [{ port := 0, addr := 0x20, guarded := true }] } }

theorem test_bus_requests_met :
    opensWith (trio.reaches (own (oBus 32)) (.busTransfer 1 [{ addr := 0x20, len := 1, data := [0] }]) (doBusTransfer (own (oBus 32)) 1 [{ addr := 0x20, len := 1, data := [0] }])) (fun _ _ => true) = true ∧
    opensWith (trio.opens (own (oBus 0)) (.busTransfer 1 [{ addr := 0x20, len := 1, data := [0] }]) (doBusTransfer (own (oBus 0)) 1 [{ addr := 0x20, len := 1, data := [0] }])) (fun u _ =>
      decide (([{ addr := 0x20, len := 1, data := [0] }] : List BusSeg).all BusSeg.right) && !u.guards (own (oBus 0)) 0 0x20 &&
        !u.farBlocked 0 [[{ addr := 0x20, len := 1, data := [0] }]] && decide (u.portState 0 ≠ busFailed)) = true ∧
    opensWith (protected0.reaches (own (oBus 0)) (.busTransfer 1 [{ addr := 0x20, len := 1, data := [0] }]) (doBusTransfer (own (oBus 0)) 1 [{ addr := 0x20, len := 1, data := [0] }])) (fun v o =>
      (v.entered o (.busTransfer 1 [{ addr := 0x20, len := 1, data := [0] }])).guards (own (oBus 0)) 0 0x20) = true ∧
    opensWith (trio.opens (own (oBus 0)) (.pmbusRead 0x20 0 1) (doPmbusRead (own (oBus 0)) 0x20 0 1)) (fun u _ =>
      !u.farBlocked 0 (pageTxns 0x20 0 false ++ [readTxn 0x20 0x88 2 false]) && decide (u.portState 0 ≠ busFailed)) = true ∧
    opensWith (trio.opens (own (oBus 0)) (.pmbusWrite 0x20 0 0x80 0x80) (doPmbusWrite (own (oBus 0)) 0x20 0 0x80 0x80)) (fun u _ => !u.guards (own (oBus 0)) 0 0x20) = true ∧
    opensWith (protected0.reaches (own (oBus 0)) (.pmbusWrite 0x20 0 0x80 0x80) (doPmbusWrite (own (oBus 0)) 0x20 0 0x80 0x80)) (fun v o =>
      (v.entered o (.pmbusWrite 0x20 0 0x80 0x80)).guards (own (oBus 0)) 0 0x20) = true ∧
    configRight 0 [0, 0, 100, 0, 1, 0, 1, 0, 3, 35, 100, 0, 100, 0, 0, 0] = true ∧ configRight 32 [0x20, 0x21, 0, 0, 0, 0, 0, 0, 0, 0, 0, 0, 0, 0, 0, 0] = true ∧
    opensWith (trio.opens (own (oBus 0)) (.configureBus [0, 0, 100, 0, 1, 0, 1, 0, 3, 35, 100, 0, 100, 0, 0, 0]) (doConfigureBus (own (oBus 0)) [0, 0, 100, 0, 1, 0, 1, 0, 3, 35, 100, 0, 100, 0, 0, 0])) (fun _ _ => true) = true ∧
    opensWith ((busAt busIdle {}).opens { own (oBus 0) with hdr := { object := oBus 0, property := 1 } } .busRecover (doBusRecover { own (oBus 0) with hdr := { object := oBus 0, property := 1 } })) (fun u _ =>
      decide ((u.bus 0).hold = none) && decide (u.portState 0 = busIdle)) = true ∧
    opensWith (trio.opens { own (oBus 0) with hdr := { object := oBus 0, property := 2 } } .busRecover (doBusRecover { own (oBus 0) with hdr := { object := oBus 0, property := 2 } })) (fun u _ =>
      decide ((u.bus 0).hold = none)) = true := by decide +kernel

/-- The recorder in a state. -/
def recAt (st : Int) : State := (trio.setV .stacksUp 0 63).put .recState 0 st

theorem test_recorder_met :
    (let u := ((recAt 2).setT .recFreeze 0 (some 3)).tick 5
     u.timer .recFreeze = some 3 ∧ u.get .recState = 2) ∧
    (let u := ((recAt 3).put .autoRelease 0 1).tick 2000000000
     u.get .recState = 3 ∧ u.recorder.frozenAt + u.getN .autoRelease * sec ≤ u.now ∧ u.exports = []) ∧
    (let u := ((recAt 1).setT .stipple 0 (some 3)).tick 5
     u.due .stipple = true ∧ u.get .recState ≠ 0) ∧
    opensWith ((recAt 1).opensWrite (own oRecorder) .stippleInterval 1000 (setStippleInterval 1000)) (fun _ _ => true) = true ∧
    [1, 2, 3].all (fun k => opensWith ((recAt k).opens (own oRecorder) (.triggerRecorder 100) (doTriggerRecorder (own oRecorder) 100)) (fun u _ => decide (u.get .recState = k))) = true ∧
    [1, 2, 3].all (fun k => opensWith ((recAt k).opens (own oRecorder) .freezeRecorder (doFreezeRecorder (own oRecorder))) (fun u _ => decide (u.get .recState = k))) = true ∧
    opensWith ((recAt 0).reaches (own oRecorder) (.triggerRecorder 100) (doTriggerRecorder (own oRecorder) 100)) (fun v o => decide ((v.entered o (.triggerRecorder 100)).get .recState = 0)) = true ∧
    opensWith ((recAt 0).reaches (own oRecorder) .freezeRecorder (doFreezeRecorder (own oRecorder))) (fun v o => decide ((v.entered o .freezeRecorder).get .recState = 0)) = true ∧
    opensWith ((recAt 2).opens (own oRecorder) .releaseRecorder (doReleaseRecorder (own oRecorder))) (fun u _ => decide (2 ≤ u.get .recState)) = true ∧
    opensWith ((recAt 1).opens (own oRecorder) (.readStipple 0 1 1) (doReadStipple (own oRecorder) 0 1 1)) (fun u _ => decide (u.stipple = [])) = true ∧
    opensWith (({ recAt 1 with stipple := [{ at_ := 4, sections := [] }] } : State).opens (own oRecorder) (.readStipple 3 1 1) (doReadStipple (own oRecorder) 3 1 1)) (fun u _ =>
      decide (u.stipple.length = 1)) = true := by decide +kernel

theorem test_exports_met :
    opensWith ((host.setV .stacksUp 0 63).opens (ask oRecorder) (.exportRecorder 2 1 7 0 0 5 6 [(4096, 4096)]) (doExportRecorder (ask oRecorder) 2 1 7 0 0 5 6 [(4096, 4096)])) (fun _ _ => true) = true ∧
    opensWith ((recAt 1).reaches (own oRecorder) (.exportRecorder 1 1 7 0 0 5 6 []) (doExportRecorder (own oRecorder) 1 1 7 0 0 5 6 [])) (fun v o =>
      decide ((v.entered o (.exportRecorder 1 1 7 0 0 5 6 [])).get .recState ≠ 3)) = true ∧
    (let x : Export := { origin := { op := .exportRecorder, object := oRecorder }, path := 0, content := 1, id := 4, room := 4 }
     let u := ({ recAt 1 with exports := [x, { x with data := [1] }, { x with data := [1, 2, 3, 4, 5] }, { x with path := 2 }] } : State).tick 2000000000
     u.exports[0]? = some x ∧ u.exports[1]? = some { x with data := [1] } ∧ u.exports[2]? = some { x with data := [1, 2, 3, 4, 5] } ∧
       u.exports[3]? = some { x with path := 2 } ∧ 4 ≤ u.exported { x with data := [1, 2, 3, 4, 5] } ∧ 1 ≤ u.exported { x with data := [1] } ∧
       x.heard + u.getN .remoteTimeout * us ≤ u.now) := by decide +kernel

theorem test_meter : (({} : Meter).add 2).add 4 = { sum := 6, n := 2, high := 4, low := 2 } := by decide +kernel

theorem test_interval_mean :
    let s := (((recAt 1).gauge (meterPower 0) 1000).gauge (meterPower 0) 3000).gauge (meterFault 5) 1
    s.meanOf (meterPower 0) 0 = 2000 ∧ s.highOf (meterPower 0) 0 = 3000 ∧ s.meanOf (meterPower 1) 7 = 7 ∧ s.metered (meterFault 5) = true ∧
      (recAt 0).gauge (meterPower 0) 1000 = recAt 0 := by decide +kernel

/-- The stage in a state. -/
def stageAt (st : Int) : State := (trio.put .stageState 0 st).put .stageTotal 0 1024

theorem test_stage_met :
    opensWith (trio.opens (own oStage) (.openStage 1024 0) (doOpenStage (own oStage) 1024 0)) (fun u _ =>
      u.stage.holder.isNone && !u.isHeld oStage && decide (u.stageWrites = [])) = true ∧
    opensWith (trio.opens (own oStage) (.openStage 0 0) (doOpenStage (own oStage) 0 0)) (fun _ _ => true) = true ∧
    opensWith (({ stageAt 1 with stage := { holder := some 0 } } : State).opens (own oStage) (.writeStage 0 [1]) (doWriteStage (own oStage) 0 [1])) (fun u _ =>
      decide (u.get .stageState = sgOpen) && decide (u.stage.holder = some (u.originOf (own oStage) .writeStage).session) &&
        decide (u.getN .stageTotal = 1024) && decide (u.stage.parts = [])) = true ∧
    opensWith ((stageAt 1).opens (own oStage) .verifyStage (doVerifyStage (own oStage))) (fun u _ => u.stage.holder.isNone && decide (u.get .stageState = sgOpen)) = true ∧
    ((({ stageAt 2 with stage := { verifying := some { op := .verifyStage, object := oStage } } } : State).tick 5).stage.verifying.isSome = true) ∧
    opensWith ((stageAt 3).opens (own oStage) .planUpdate (doPlanUpdate (own oStage))) (fun u _ => decide (u.get .stageState = sgVerified)) = true ∧
    opensWith (trio.opens (own oDevice) .confirm (doConfirm (own oDevice))) (fun _ _ => true) = true ∧
    (let u := (trio.put .autoConfirm 0 1).tick 2000000000
     u.tilesIn.length = u.member.tiles ∧ ∀ x ∈ u.tilesIn, u.varN .joinedAt x + u.getN .autoConfirm * sec ≤ u.now) ∧
    opensWith ((trio.setV .keyEcFuse 4 5).opens (own (oKeySlot 4)) .revokeKey (doRevokeKey (own (oKeySlot 4)))) (fun u _ =>
      decide (u.keyState 4 = 1) && !u.isHeld (oPlate 0) && !u.isHeld (oPlate 1)) = true ∧
    opensWith (trio.opens (own oDevice) .readPlates (doReadPlates (own oDevice))) (fun u _ => decide (u.plate 0 = none) && decide (u.plate 1 = none)) = true := by decide +kernel

/-- A VERIFIED stage with an empty component of kind 0 whose DIGEST is `d`. -/
def stagedWith (d : Nat) : State :=
  (({ stageAt 3 with stage := { parts := [(0, [0, 0, 0, 0, 0, 0, 1, 0] ++ List.replicate 104 0 ++ leBytes 48 d)] } } : State).setV .bootPlate 0 0)

/-- The digest of an empty component, and another. -/
def emptyDigest : Nat := Config.sha384 []
def otherDigest : Nat := if Config.sha384 [] = 0 then 1 else 0

theorem stagedWith_staged (d : Nat) (h : d < 256 ^ 48) (s : State) (hs : s.stage.parts = (stagedWith d).stage.parts) :
    s.staged 0 = if Config.sha384 [] = d then some [] else none := by
  have h1 := leBytes_value 48 d h
  have h2 : s.bundle = ([0, 0, 0, 0, 0, 0, 1, 0] ++ List.replicate 104 0) ++ leBytes 48 d := by
    unfold State.bundle
    rw [hs]
    show (_ ++ []) = _
    simp
  have h3 : (bundleComp s.bundle 0).digest = d := by
    rw [h2]
    show leValue (List.take 48 (List.drop 112 _)) = d
    rw [List.drop_left' (by rfl), List.take_of_length_le (by omega)]
    exact h1.1
  have h4 : (bundleComp s.bundle 0).bytes s.bundle = [] := by
    rw [h2]
    rfl
  simp only [State.staged, h3, h4]

theorem test_etch_met : ∀ d ∈ [emptyDigest, otherDigest], opensWith ((stagedWith d).opens (own (oPlate 1)) .etch (doEtch (own (oPlate 1)))) (fun u _ =>
    decide (u.stagedKind 0 = some 0) && decide (u.etchTarget = some 1) && !u.onTrial && !u.isHeld oStage) = true := by
  intro d hd
  rw [State.opens_of_fault]
  · fin_cases hd <;> decide +kernel
  · intro v hv
    have h1 : (stagedWith d).arrives (own (oPlate 1)) .etch = some ((stagedWith d).tick 5) := rfl
    rw [h1] at hv
    rw [← Option.some.inj hv]
    have h2 : ((stagedWith d).tick 5).etchTarget = some 1 ∧ ((stagedWith d).tick 5).onTrial = false ∧ ((stagedWith d).tick 5).stagedKind 0 = some 0 := by
      fin_cases hd <;> decide +kernel
    have h3 : (((stagedWith d).tick 5).originOf (own (oPlate 1)) .etch).object = oPlate 1 ∧ (own (oPlate 1)).hdr.property = 0 := ⟨rfl, rfl⟩
    unfold doEtch State.startEtch
    simp only [h2.1, h2.2.1, h2.2.2, h3.1, h3.2]
    rw [if_pos (by decide), if_neg (by decide), if_neg (by simp)]
    split <;> rfl

/-- An ETCH opens on a stage whose component matches its DIGEST, and on one whose does not. -/
theorem test_etch_staged_met : (∃ u o, (stagedWith emptyDigest).opens (own (oPlate 1)) .etch (doEtch (own (oPlate 1))) = some (u, o) ∧ u.staged 0 = some []) ∧
    (∃ u o, (stagedWith otherDigest).opens (own (oPlate 1)) .etch (doEtch (own (oPlate 1))) = some (u, o) ∧ u.staged 0 = none) := by
  have h : Config.sha384 [] < 256 ^ 48 := (Config.sha384Bits []).isLt.trans_le (by decide +kernel)
  have get (d : Nat) (hd : d ∈ [emptyDigest, otherDigest]) :
      ∃ u o, (stagedWith d).opens (own (oPlate 1)) .etch (doEtch (own (oPlate 1))) = some (u, o) := by
    have h1 := test_etch_met d hd
    unfold opensWith at h1
    split at h1
    · rename_i u o h2; exact ⟨u, o, h2⟩
    · cases h1
  obtain ⟨u, o, h1⟩ := get emptyDigest (by simp)
  obtain ⟨v, p, h2⟩ := get otherDigest (by simp)
  refine ⟨⟨u, o, h1, ?_⟩, ⟨v, p, h2, ?_⟩⟩
  · rw [stagedWith_staged emptyDigest h u (congrArg _ (State.opens_stage h1))]
    exact if_pos rfl
  · rw [stagedWith_staged otherDigest (by unfold otherDigest; split <;> decide) v (congrArg _ (State.opens_stage h2)), if_neg]
    unfold otherDigest
    split <;> omega

theorem test_activate_met :
    opensWith (({ stageAt 3 with descStore := [{ id := 0, kind := 0, vendor := 0, device := 0, version := 0, reqs := [] }] } : State).opens (own oStage)
      (.activate 0) (doActivate (own oStage) 0)) (fun u _ => !u.isHeld oStage && decide (u.get .stageState = sgVerified) && !u.unquiet && decide (u.updatePlan = (0, []))) = true ∧
    opensWith ((stageAt 3).opens (own oStage) (.activate 0) (doActivate (own oStage) 0)) (fun u _ => !u.unquiet && decide (u.updatePlan = (1, []))) = true ∧
    (let x : Activation := { origin := { op := .activate, object := oStage }, csn := 1, stop := false, all := 1, image := 0, todo := [{ unit := { kind := 2, inst := 0, device := 0, compat := 0, target := 1, comp := 0, here := true }, src := 0, dst := 1 }] }
     let u := (({ trio with activation := some x } : State).setT .stepTimeout 0 (some 3)).tick 5
     u.activation = some x ∧ x.todo ≠ [] ∧ u.due .stepTimeout 0 = true) := by decide +kernel

/-- ARM once, at once. -/
def arm0 : ArmParams := { trigger := 0, count := 1, spacing := 0, at_ := 0, skip := 0, duration := 0, value := 0, rsv := false }

/-- A request on an injection point, to arm it or to disarm it. -/
def pointing (p f : Nat) : Arrival := { own (oPoint p) with hdr := { object := oPoint p, property := f } }

theorem test_injection_met :
    opensWith (trio.opens (pointing 0x0D2 0) (.inject (some arm0)) (doInject (pointing 0x0D2 0) (some arm0))) (fun u _ =>
      decide ((pointOf 0x0D2).isSome) && decide (u.get .pointState 0x0D2 = ptIdle) && decide (u.armedPoints.length < 16) &&
        decide (u.pointLevel .nand 0 0 = 0) && armRight u.member .nand arm0) = true ∧
    opensWith (trio.reaches (pointing 0x0D0 0) (.inject (some arm0)) (doInject (pointing 0x0D0 0) (some arm0))) (fun u o =>
      let w := u.entered o (.inject (some arm0))
      decide (w.pointLevel (.norDie 0) 0 0 = 1) && decide (w.timer .maintenance = none) && decide (w.get .pointState 0x0D0 = ptIdle)) = true ∧
    opensWith (trio.opens (pointing 0x0D2 1) (.inject none) (doInject (pointing 0x0D2 1) none)) (fun _ _ => true) = true ∧
    (((trio.put .pointState 0x0D2 1).armPoint 0x0D2 arm0).tick 5).triggerMet 0x0D2 0 = true ∧
    (let u := ((trio.setT .injHold 0xC10 (some 3)).setT .armLimit 0xC10 (some 3)).tick 5
     u.due .injHold 0xC10 = true ∧ (pointOf 0xC10).any Point.outside = false ∧ u.due .armLimit 0xC10 = true) := by decide +kernel

theorem test_maintenance_met :
    opensWith (trio.opens (own oDevice) (.setMaintenance 1 60) (doSetMaintenance (own oDevice) 1 60)) (fun _ _ => true) = true ∧
    opensWith (trio.opens (own oDevice) (.setMaintenance 0 0) (doSetMaintenance (own oDevice) 0 0)) (fun _ _ => true) = true ∧
    ((trio.setT .maintenance 0 (some 3)).tick 5).due .maintenance = true ∧
    opensWith (trio.opens (own (oTile 1)) (.selftest 0 0) (doSelftest (own (oTile 1)) 0 0)) (fun u _ => testRight 0 0 (oTile 1) && !u.testBarred 0 (oTile 1)) = true ∧
    (let x : Trial := { origin := none, cal := false, test := 0, object := oTile 1, since := 0 }
     let u := ({ trio with tests := [x] } : State).tick 5
     u.tests.find? (fun x => !x.cal && decide (x.object = oTile 1 ∧ x.test = 0)) = some x) ∧
    opensWith (trio.opens (own (oTile 1)) (.calibrate 1) (doCalibrate (own (oTile 1)) 1)) (fun u _ => !u.calBarred 1 (oTile 1)) = true ∧
    ((trio.setT .calPeriod 0 (some 3)).tick 5).due .calPeriod = true ∧
    (let x : Trial := { origin := none, cal := true, test := 1, object := oTile 1, since := 0 }
     let u := ({ trio with tests := [x] } : State).tick 5
     u.tests.find? (fun x => x.cal && decide (x.object = oTile 1 ∧ x.test = 1) && !x.waits) = some x) ∧
    (let u := ((trio.armPoint 0x0D2 arm0).tick 5)
     u.nandLost = false ∧ u.log.waiting ≠ [] ∧ u.log.held.length < 16777216) ∧
    opensWith (host.opensWrite (ask oDevice) .logCursor 7 (setLogCursor (host.originOf (ask oDevice) .setProp).session 7)) (fun _ _ => true) = true := by decide +kernel

/-- Registers whose g4 names the last aligned word of data memory, and g6 all ones. -/
def edges : List (BitVec 32) := [1, 2, 3, 0, 0x1FFC, 5, 0xFFFFFFFF, 7, 8, 9, 10, 11, 12, 13, 14, 15]

theorem test_faults_met :
    (wOp (wordI 0x36 15 0 1) = 0x36 ∧ wRd (wordI 0x36 15 0 1) = 15 ∧ wImm18 (wordI 0x36 15 0 1) = 1) ∧
    retiring (wordI 0x36 15 0 1) 2 nums (fun _ _ => true) = true ∧
    [(0x10, 4), (0x11, 2), (0x12, 1), (0x13, 4), (0x14, 2), (0x15, 1)].all (fun x => retiring (wordI x.1 1 4 4) 2 edges (fun _ l =>
      !accessOk (l.addr 4 4) x.2)) = true ∧
    [(0x13, 4), (0x14, 2), (0x15, 1)].all (fun x => retiring (wordI x.1 1 4 0) 2 edges (fun _ l =>
      accessOk (l.addr 4 0) x.2 && decide (0x1800 ≤ l.addr 4 0))) = true ∧
    retiring (wordI 0x32 1 4 0) 32 edges (fun u l => decide ((l.reg 4).toNat % 4 = 0) &&
      decide (36 + up4 ((u.engine 0).readData ((l.reg 4).toNat + 14) 2) ≤ 512) && decide (0x2000 < (l.reg 4).toNat + 36)) = true ∧
    retiring (wordL 0x20 0 0x3FFFF0) 2 nums (fun _ l => l.holds 0 && decide (l.target 0x3FFFF0 < 0)) = true ∧
    retiring (wordL 0x21 0 4095) 2 nums (fun _ l => decide (4096 ≤ l.target 4095)) = true ∧
    retiring (wordI 0x22 0 6 0) 2 edges (fun _ l => decide (4096 ≤ (l.reg 6).toNat)) = true := by decide +kernel

theorem test_pair_fault_met :
    (let u := { (coded (wordI 0x30 15 6 1) edges).tick 5 with td := some {} }
     u.checkPresence none oDevice [] = .ok) ∧
    (findProp oDevice 1 = some .lastCsn ∧ P.lastCsn.desc.bytes = 8) := by decide +kernel

theorem test_record_met :
    recordLen (layFields Ev.commandDone.layout []) ≤ 32 ∧ [1, 1, 2, 2, 2, 2, -2, 4, 8] <+: Ev.commandDone.layout ∧
    (let r : EventRec := { num := 7, src := oDevice, stamp := 5, csn := 1, safety := true, payload := [u32 9], seq := 3 }
     (recordBytes r.fields).length = 64 ∧ leAt (recordBytes r.fields) 0x20 4 = 9) := by decide

theorem test_frame_met :
    retiring (wordR 0 1 2 5) 24 nums (fun _ l => accessOk (l.addr 4 0) 4 && decide (0 ≤ l.target 3 ∧ l.target 3 < 4096) &&
      decide ((l.reg 4).toNat < 4096) && decide (l.addr 4 0 < 0x1800)) = true ∧
    [(0x13, 4), (0x14, 2), (0x15, 1)].all (fun x => retiring (wordI x.1 1 4 0) 24 nums (fun _ l =>
      accessOk (l.addr 4 0) x.2 && decide (l.addr 4 0 < 0x1800))) = true := by decide +kernel

theorem test_reading_met :
    [(.getProp : Body), .readPlates, .readKeys].all (fun b =>
      opensWith (let a : Arrival := { own oDevice with hdr := { object := oDevice, property := 1 } }; trio.opens a b (effectOf a b)) (fun _ _ => true)) = true ∧
    trio.endings = [] ∧ trio.outst = [] := by decide +kernel

theorem test_undue_met : (trio.tick 5).due .runOn 0 = false ∧ ((trio.setT .reefCmd 3 (some 9)).tick 5).due .reefCmd 3 = false := by decide

end Sys2Proof.Tests
end

section
/-! A row that acts when a timer ends is guarded by that timer: before its instant only time passes (O60). -/

namespace Sys2Proof.Machine

/-- A row whose guard asks for a timer answers the state at its instant while the timer is not due. -/
theorem exec_of_not_due {c : Instr} {s u v : State} {k : T} {i : Nat} {guard : Prop} [Decidable guard] (h : u.due k i = false)
    (row : exec c s = .next (if guard then v else u)) (asks : guard → u.due k i = true) : exec c s = .next u := by
  rw [row, if_neg (fun g => by simp [asks g] at h)]

/-- Settles O60: each row's guard asks for its timer, alone (`id`) or before other conditions (`And.left`). The rows stand in the order of
the statement. -/
theorem undueTimersPassTime : Obligations.UndueTimersPassTime := by
  unfold Obligations.UndueTimersPassTime
  rintro s u t rfl
  refine ⟨?tray, ?unit, ?ecHold, ?fence, ?vote, ?tileReady, ?session, ?shroudGap, ?ocTrip, ?relayLoss, ?rackHold, ?injHold, ?armLimit⟩
  case tray =>
    intro c k i hc h
    simp only [List.mem_cons, List.not_mem_nil, or_false, Prod.mk.injEq] at hc
    obtain ⟨rfl, rfl, rfl⟩ | ⟨rfl, rfl, rfl⟩ | ⟨rfl, rfl, rfl⟩ | ⟨rfl, rfl, rfl⟩ | ⟨rfl, rfl, rfl⟩ | ⟨rfl, rfl, rfl⟩ | ⟨rfl, rfl, rfl⟩ |
      ⟨rfl, rfl, rfl⟩ | ⟨rfl, rfl, rfl⟩ | ⟨rfl, rfl, rfl⟩ | ⟨rfl, rfl, rfl⟩ | ⟨rfl, rfl, rfl⟩ | ⟨rfl, rfl, rfl⟩ := hc
    · exact exec_of_not_due h rfl And.left
    · exact exec_of_not_due h rfl And.left
    · exact exec_of_not_due h rfl And.left
    · exact exec_of_not_due h rfl id
    · exact exec_of_not_due h rfl And.left
    · exact exec_of_not_due h rfl And.left
    · exact exec_of_not_due h rfl And.left
    · exact exec_of_not_due h rfl id
    · exact exec_of_not_due h rfl id
    · exact exec_of_not_due h rfl id
    · exact exec_of_not_due h rfl And.left
    · exact exec_of_not_due h rfl id
    · exact exec_of_not_due h rfl id
  case unit =>
    intro a c k hc h
    simp only [List.mem_cons, List.not_mem_nil, or_false, Prod.mk.injEq] at hc
    obtain ⟨rfl, rfl⟩ | ⟨rfl, rfl⟩ | ⟨rfl, rfl⟩ | ⟨rfl, rfl⟩ | ⟨rfl, rfl⟩ | ⟨rfl, rfl⟩ | ⟨rfl, rfl⟩ | ⟨rfl, rfl⟩ := hc
    · exact exec_of_not_due h rfl And.left
    · exact exec_of_not_due h rfl And.left
    · exact exec_of_not_due h rfl id
    · exact exec_of_not_due h rfl id
    · exact exec_of_not_due h rfl id
    · exact exec_of_not_due h rfl id
    · exact exec_of_not_due h rfl id
    · exact exec_of_not_due h rfl id
  case ecHold => exact fun _ h => exec_of_not_due h rfl id
  case fence => exact fun _ _ h => exec_of_not_due h rfl id
  case vote => exact fun _ _ h => exec_of_not_due h rfl And.left
  case tileReady => exact fun _ h => exec_of_not_due h rfl And.left
  case session => exact fun _ h => exec_of_not_due h rfl (fun g => (Bool.and_eq_true_iff.mp g).1)
  case shroudGap => exact fun _ _ h => exec_of_not_due h rfl id
  case ocTrip => exact fun _ h => exec_of_not_due h rfl id
  case relayLoss => exact fun _ h => exec_of_not_due h rfl And.left
  case rackHold => exact fun _ h => exec_of_not_due h rfl And.left
  case injHold => exact fun _ h => exec_of_not_due h rfl id
  case armLimit => exact fun _ h => exec_of_not_due h rfl id

end Sys2Proof.Machine
end

section
/-! Records as bytes (R142): the bytes of a record's fields one after another, and the two layouts of Table 3.23 (O57). -/

namespace Sys2Proof.Machine

theorem leBytes_length (n v : Nat) : (leBytes n v).length = n := by
  induction n generalizing v with
  | zero => rfl
  | succ n ih => simp [leBytes, ih]

theorem leBytes_zero (n : Nat) : leBytes n 0 = List.replicate n 0 := by
  induction n with
  | zero => rfl
  | succ n ih => simp [leBytes, ih, List.replicate_succ]

@[simp] theorem recordLen_cons (f : Fld) (l : List Fld) : recordLen (f :: l) = f.size + recordLen l := by
  simp [recordLen]

@[simp] theorem recordBytes_append (l m : List Fld) : recordBytes (l ++ m) = recordBytes l ++ recordBytes m := by
  simp [recordBytes]

@[simp] theorem recordBytes_length (l : List Fld) : (recordBytes l).length = recordLen l := by
  simp [recordBytes, recordLen, leBytes_length]

theorem recordBytes_rsv (n : Nat) : recordBytes [rsv n] = List.replicate n 0 := by
  simp [recordBytes, rsv, leBytes_zero]

/-- A field stands in its record's bytes at the sum of the sizes before it, in two's complement. -/
theorem leAt_field {l : List Fld} {k off n : Nat} {v : Int} (field : l[k]? = some ⟨n, v⟩) (before : recordLen (l.take k) = off) :
    leAt (recordBytes l) off n = (v % ((256 ^ n : Nat) : Int)).toNat := by
  obtain ⟨hk, hf⟩ := List.getElem?_eq_some_iff.mp field
  have parts : recordBytes l = recordBytes (l.take k) ++ (leBytes n (v % ((256 ^ n : Nat) : Int)).toNat ++ recordBytes (l.drop (k + 1))) := by
    conv_lhs => rw [← List.take_append_drop k l, List.drop_eq_getElem_cons hk, hf]
    simp [recordBytes]
  have fits : (v % ((256 ^ n : Nat) : Int)).toNat < 256 ^ n := by
    have := Int.emod_lt_of_pos v (b := ((256 ^ n : Nat) : Int)) (by positivity)
    have := Int.emod_nonneg v (b := ((256 ^ n : Nat) : Int)) (by positivity)
    omega
  unfold leAt
  rw [parts, List.drop_left' (by simp [before]), List.take_left' (leBytes_length _ _)]
  exact (leBytes_value n _ fits).1

/-- A field that holds a natural number reads as that number to its width. -/
theorem leAt_natField {l : List Fld} {k off n v : Nat} (field : l[k]? = some ⟨n, v⟩) (before : recordLen (l.take k) = off) :
    leAt (recordBytes l) off n = v % 256 ^ n :=
  leAt_field field before

/-- A reserved field reads as zero. -/
theorem leAt_reserved {l : List Fld} {k off n : Nat} (field : l[k]? = some (rsv n)) (before : recordLen (l.take k) = off) :
    leAt (recordBytes l) off n = 0 := by
  rw [leAt_field field before, Int.zero_emod, Int.toNat_zero]

/-! ### Events' payloads -/

/-- Whatever the values, a layout's fields take the sizes the layout names. -/
theorem recordLen_layFields (sizes vs : List Int) : recordLen (layFields sizes vs) = (sizes.map Int.natAbs).sum := by
  induction sizes generalizing vs with
  | nil => rfl
  | cons n rest ih =>
    unfold layFields
    split
    · simp [rsv, ih]
    · cases vs <;> simp [ih] <;> omega

/-- No event's layout is larger than a record's 32 bytes of payload (Tables 1.11 to 19.13). -/
theorem layout_size_le (e : Ev) : (e.layout.map Int.natAbs).sum ≤ 32 := by
  cases e with
  | software _ => exact Nat.le_refl 32
  | _ => decide

/-- The fields of the completion block (Table 3.23). -/
def Origin.blockFields (o : Origin) (st : Status) (detail : Int) (csn : Nat) : List Fld :=
  [u8 o.binding.cls.code, u8 o.binding.port, u16 o.queue, u16 o.tag, u16 o.op.info.code, u16 st.code, rsv 2, u32 detail, u64 csn]

/-- Where a layout begins with the completion block's sizes, the event begins with the block. -/
theorem layFields_block (o : Origin) (st : Status) (detail : Int) (csn : Nat) (rest data : List Int) :
    layFields ([1, 1, 2, 2, 2, 2, -2, 4, 8] ++ rest) (o.block st detail csn ++ data) = o.blockFields st detail csn ++ layFields rest data :=
  rfl

/-! ### Event records -/

/-- The fields of an event record before its payload, 32 bytes (Table 3.23). -/
def EventRec.head (r : EventRec) : List Fld :=
  [u16 r.num, u8 ((if r.lostBefore then 2 else 0) + (if r.safety then 4 else 0)), u8 (recordLen r.payload), u32 r.src, u64 r.stamp, u64 r.csn,
   u32 r.seq, rsv 4]

theorem EventRec.head_length (r : EventRec) : (recordBytes r.head).length = 32 := recordBytes_length r.head

/-- An event record is its head, its payload, and zeros to 64 bytes. -/
theorem EventRec.bytes_eq (r : EventRec) (h : recordLen r.payload ≤ 32) :
    recordBytes r.fields = recordBytes r.head ++ (recordBytes r.payload ++ List.replicate (32 - recordLen r.payload) 0) := by
  have pad : recordBytes (if recordLen r.payload < 32 then [rsv (32 - recordLen r.payload)] else []) =
      List.replicate (32 - recordLen r.payload) 0 := by
    split
    · exact recordBytes_rsv _
    · rw [Nat.sub_eq_zero_of_le (by omega)]; rfl
  rw [← pad, ← recordBytes_append, ← recordBytes_append]
  simp [EventRec.fields, EventRec.head]

theorem EventRec.bytes_length (r : EventRec) (h : recordLen r.payload ≤ 32) : (recordBytes r.fields).length = 64 := by
  rw [r.bytes_eq h, List.length_append, List.length_append, r.head_length, recordBytes_length, List.length_replicate]
  omega

theorem EventRec.flags_byte (r : EventRec) : leAt (recordBytes r.fields) 2 1 = (if r.lostBefore then 2 else 0) + (if r.safety then 4 else 0) := by
  refine (leAt_field (k := 1) rfl rfl).trans ?_
  cases r.lostBefore <;> cases r.safety <;> rfl

theorem EventRec.length_byte (r : EventRec) (h : recordLen r.payload ≤ 32) : leAt (recordBytes r.fields) 3 1 = recordLen r.payload :=
  (leAt_natField (k := 2) rfl rfl).trans (Nat.mod_eq_of_lt (by omega))

theorem EventRec.payload_bytes (r : EventRec) (h : recordLen r.payload ≤ 32) :
    ((recordBytes r.fields).drop 0x20).take (recordLen r.payload) = recordBytes r.payload := by
  rw [r.bytes_eq h, List.drop_left' r.head_length, List.take_left' (recordBytes_length _)]

theorem EventRec.zero_after_payload (r : EventRec) (h : recordLen r.payload ≤ 32) (k : Nat) (hk : 0x20 + recordLen r.payload ≤ k) :
    (recordBytes r.fields).getD k 0 = 0 := by
  rw [r.bytes_eq h, ← List.append_assoc, List.getD_append_right _ _ _ _ (by simpa [r.head_length] using hk)]
  simpa only [List.getD_eq_getElem?_getD] using List.getElem?_getD_replicate_default_eq _ _ _

/-- Settles O57: a record is its head, its payload and zeros, and each field stands at the sum of the sizes before it. -/
theorem eventRecordLayout : Obligations.EventRecordLayout := by
  unfold Obligations.EventRecordLayout
  refine ⟨fun e vs => ?payload, fun r h => ?record, ?block⟩
  case payload => rw [recordLen_layFields]; exact layout_size_le e
  case record =>
    exact ⟨r.bytes_length h, leAt_natField (k := 0) rfl rfl, r.flags_byte, r.length_byte h, leAt_natField (k := 3) rfl rfl,
      leAt_natField (k := 4) rfl rfl, leAt_natField (k := 5) rfl rfl, leAt_natField (k := 6) rfl rfl, leAt_reserved (k := 7) rfl rfl,
      r.payload_bytes h, r.zero_after_payload h⟩
  case block =>
    rintro e o st detail csn data ⟨rest, hl⟩
    rw [← hl, layFields_block]
    exact ⟨leAt_natField (k := 0) rfl rfl, leAt_natField (k := 1) rfl rfl, leAt_natField (k := 2) rfl rfl, leAt_natField (k := 3) rfl rfl,
      leAt_natField (k := 4) rfl rfl, leAt_natField (k := 5) rfl rfl, leAt_reserved (k := 6) rfl rfl, leAt_field (k := 7) rfl rfl,
      leAt_natField (k := 8) rfl rfl⟩

end Sys2Proof.Machine
end

section
/-! Faults inside an instruction that retires (R528, Table 13.9): each shared operation's faulting branch once, and the rows that reach it
(O56). -/

namespace Sys2Proof.Machine

/-- An instruction's row, whose word retires, answers what its effect makes of the state and the level that have paid for it. -/
theorem exec_of_retires {c : Instr} {s u v : State} {t : Ns} {e : Fin 48} {w k : Nat} {l : Level} {fits : Nat → Bool} {cost : Level → Nat}
    {eff : State → Level → State} (row : exec c s = .next ((s.tick t).instr e fits cost eff)) (h : (s.tick t).retires e w k = some (u, l))
    (hf : fits w = true) (hc : ∀ m : Level, m.sameFlags l → cost m = k) (effect : eff u l = v) : exec c s = .next v := by
  rw [row, State.instr_of_retires eff h hf hc, effect]

/-! ### Where the shared operations fault -/

/-- Tables 13.2, 13.15 and 13.16: a fault is stored in LAST_FAULT, raised as EV_BURIN_FAULT, and takes the engine to FAULTED. -/
theorem State.instrFault_eq (s : State) (e cause : Nat) (l : Level) : s.instrFault e cause l =
    ((s.put .lastFault e (cause * 2 ^ 24 + (l.pc - 1) % 4096 : Nat)).raise .burinFault (oBurin e)
      [e, cause, (l.pc - 1 : Nat), (s.engine e).codeAt (l.pc - 1), l.source]).stopEngine e enFaulted 2 :=
  rfl

theorem State.setPair_g15 (s : State) (e : Fin 48) (l : Level) (v : Nat) (f : Level → Level) : s.setPair e l 15 v f = s.instrFault e.val 1 l :=
  if_pos rfl

theorem State.load_of_not_accessOk {s : State} {e : Fin 48} {n : Nat} {rd rs : Fin 16} {imm : Fin 262144} {l : Level} {f : Nat → BitVec 32}
    (h : accessOk (l.addr rs imm) n = false) : s.load e n rd rs imm l f = s.instrFault e.val 2 l :=
  if_neg (by simp [h])

theorem State.store_of_not_accessOk {s : State} {e : Fin 48} {n : Nat} {rd rs : Fin 16} {imm : Fin 262144} {l : Level}
    (h : accessOk (l.addr rs imm) n = false) : s.store e n rd rs imm l = s.instrFault e.val 2 l :=
  if_pos (by simp [h])

theorem State.store_above_program_area {s : State} {e : Fin 48} {n : Nat} {rd rs : Fin 16} {imm : Fin 262144} {l : Level}
    (h : accessOk (l.addr rs imm) n = true) (above : 0x1800 ≤ l.addr rs imm) : s.store e n rd rs imm l = s.instrFault e.val 3 l :=
  (if_neg (by simp [h])).trans (if_pos above)

theorem State.jump_outside {s : State} {e : Fin 48} {l : Level} {target : Int} {f : Level → Level} (h : target < 0 ∨ 4096 ≤ target) :
    s.jump e l target f = s.instrFault e.val 4 l :=
  if_neg (by omega)

/-! ### The rows that reach them -/

section
variable {c : Instr} {s u : State} {t : Ns} {e : Fin 48} {rd rs : Fin 16} {imm : Fin 262144} {w n : Nat} {l : Level}

theorem exec_load_faults {f : Nat → BitVec 32}
    (row : exec c s = .next ((s.tick t).instr e (· = w) (fun _ => 2) (fun s l => s.load e n rd rs imm l f)))
    (h : (s.tick t).retires e w 2 = some (u, l)) (outside : accessOk (l.addr rs imm) n = false) :
    exec c s = .next (u.instrFault e.val 2 l) :=
  exec_of_retires row h (decide_eq_true rfl) (fun _ _ => rfl) (State.load_of_not_accessOk outside)

theorem exec_store_faults
    (row : exec c s = .next ((s.tick t).instr e (· = w) (fun _ => 2) (fun s l => s.store e n rd rs imm l)))
    (h : (s.tick t).retires e w 2 = some (u, l)) :
    (accessOk (l.addr rs imm) n = false → exec c s = .next (u.instrFault e.val 2 l)) ∧
    (accessOk (l.addr rs imm) n = true → 0x1800 ≤ l.addr rs imm → exec c s = .next (u.instrFault e.val 3 l)) :=
  ⟨fun outside => exec_of_retires row h (decide_eq_true rfl) (fun _ _ => rfl) (State.store_of_not_accessOk outside),
   fun inside above => exec_of_retires row h (decide_eq_true rfl) (fun _ _ => rfl) (State.store_above_program_area inside above)⟩

theorem exec_time_g15_faults (hop : wOp w = 0x36) (hrd : wRd w = 15) (himm : wImm18 w = imm.val) (pair : imm.val ≤ 1)
    (h : (s.tick t).retires e w 2 = some (u, l)) : exec (.time t e 15 imm) s = .next (u.instrFault e.val 1 l) := by
  refine exec_of_retires rfl h (by simp [hop, hrd, himm]) (fun _ _ => rfl) ?_
  obtain rfl | rfl : imm = 0 ∨ imm = 1 := by omega
  · exact u.setPair_g15 ..
  · exact u.setPair_g15 ..

/-- R542, R528: a permitted RDP of a property that is there and has 64 bits names g15 + 1. -/
theorem exec_rdp_g15_faults {p : P} (h : (s.tick t).retires e (wordI 0x30 15 rs imm.val) 16 = some (u, l))
    (permitted : (iManifest (u.engine e.val).image).any (fun r => decide (r.kind = 2) &&
      decide (r.first ≤ (l.reg rs).toNat ∧ (l.reg rs).toNat ≤ r.last) && decide (r.prop = 0xFFFF ∨ r.prop = imm.val % 65536)) = true)
    (there : u.checkPresence none (l.reg rs).toNat [] = .ok) (found : findProp (l.reg rs).toNat (imm.val % 65536) = some p)
    (wide : p.desc.bytes = 8) : exec (.rdp t e 15 rs imm) s = .next (u.instrFault e.val 1 l) := by
  refine exec_of_retires rfl h (decide_eq_true rfl) (fun _ _ => rfl) ?_
  dsimp only
  rw [permitted, if_neg (by simp), if_neg (by simp [there]), found]
  dsimp only
  rw [if_neg (by omega), if_pos wide]
  exact u.setPair_g15 ..

/-- R544 (log 158): a packet of an admissible length that ends outside data memory. -/
theorem exec_gcmd_outside_faults {body : Body} (hop : wOp w = 0x32) (hrd : wRd w = rd.val) (hrs : wRs w = rs.val)
    (h : (s.tick t).retires e w 32 = some (u, l)) (aligned : (l.reg rs).toNat % 4 = 0)
    (short : 36 + up4 ((u.engine e.val).readData ((l.reg rs).toNat + 14) 2) ≤ 512)
    (outside : 0x2000 < (l.reg rs).toNat + (36 + up4 ((u.engine e.val).readData ((l.reg rs).toNat + 14) 2))) :
    exec (.gcmd t e rd rs body) s = .next (u.instrFault e.val 2 l) := by
  refine exec_of_retires rfl h (by simp [hop, hrd, hrs]) (fun _ _ => rfl) ?_
  exact (if_neg (by omega)).trans (if_pos outside)

theorem exec_br_outside_faults {cond : Fin 16} {off : Fin 4194304} (h : (s.tick t).retires e (wordL 0x20 cond off.val) 2 = some (u, l))
    (taken : l.holds cond.val = true) (outside : l.target off < 0 ∨ 4096 ≤ l.target off) :
    exec (.br t e cond off) s = .next (u.instrFault e.val 4 l) :=
  exec_of_retires rfl h (decide_eq_true rfl) (fun m same => by rw [Level.holds_of_sameFlags same, if_pos taken])
    ((if_pos taken).trans (State.jump_outside outside))

theorem exec_call_outside_faults {off : Fin 4194304} (hop : wOp w = 0x21) (himm : wImm22 w = off.val)
    (h : (s.tick t).retires e w 2 = some (u, l)) (outside : l.target off < 0 ∨ 4096 ≤ l.target off) :
    exec (.call t e off) s = .next (u.instrFault e.val 4 l) :=
  exec_of_retires rfl h (by simp [hop, himm]) (fun _ _ => rfl) (State.jump_outside outside)

theorem exec_jr_outside_faults (hop : wOp w = 0x22) (hrs : wRs w = rs.val) (h : (s.tick t).retires e w 2 = some (u, l))
    (outside : 4096 ≤ (l.reg rs).toNat) : exec (.jr t e rs) s = .next (u.instrFault e.val 4 l) :=
  exec_of_retires rfl h (by simp [hop, hrs]) (fun _ _ => rfl) (State.jump_outside (.inr (by exact_mod_cast outside)))

end

/-- Settles O56: each row's effect takes the faulting branch of its shared operation, and a fault is stored, raised, and stops the
engine. -/
theorem engineFaults : Obligations.EngineFaults := by
  unfold Obligations.EngineFaults
  refine ⟨State.instrFault_eq, ?time, ?rdp, ?memory, ?gcmd, ?jumps⟩
  case time => exact fun _ _ _ _ _ _ _ hop hrd himm pair h => exec_time_g15_faults hop hrd himm pair h
  case rdp => exact fun _ _ _ _ _ _ _ _ h permitted there found wide => exec_rdp_g15_faults h permitted there found wide
  case memory =>
    exact fun _ _ _ _ _ _ _ _ => ⟨exec_load_faults rfl, exec_load_faults rfl, exec_load_faults rfl,
      exec_store_faults rfl, exec_store_faults rfl, exec_store_faults rfl⟩
  case gcmd => exact fun _ _ _ _ _ _ _ _ _ hop hrd hrs h aligned short outside => exec_gcmd_outside_faults hop hrd hrs h aligned short outside
  case jumps => exact fun _ _ _ _ _ _ _ _ _ => ⟨exec_br_outside_faults, exec_call_outside_faults, exec_jr_outside_faults⟩

end Sys2Proof.Machine
end

section
/-! An ETCH beside an attached one (R169): the origin the model finds for the new request is the attached one's, so its effect etches the
plate that one names (O53). -/

namespace Sys2Proof.Machine

/-! ### ETCH of a staged plate image (R696) -/

/-- The state in which ETCH of plate `p` by `x` has begun, the staged image being `b`. -/
def State.etchBegun (s : State) (x : Origin) (p : Nat) (b : List Nat) : State :=
  let v : State := { (s.hold x [oStage, oPlate p]).beginApply x with etch := some { origin := x, copy := false, target := p } }
  v.norWrite (.record (v.newRecord 7 p 0 (v.plateOf b).digest)) none

/-- Where no plate is barred, the plate that is etched is the one the origin names. -/
theorem State.startEtch_plate {s : State} {x : Origin} {i : Nat} {disturb : Bool} {b : List Nat} (plate : objCls x.object = 0x11)
    (kind : s.stagedKind 0 = some i) (target : s.etchTarget = none) (trial : s.onTrial = false) (image : s.staged i = some b) :
    s.startEtch x 0 disturb = (s.etchBegun x (objIdx x.object) b, .accepted []) := by
  unfold State.startEtch
  dsimp only
  rw [if_pos ⟨rfl, plate⟩, kind]
  dsimp only
  rw [if_neg (by simp [target]), if_neg (by simp [trial]), image]
  rfl

/-! ### The counterexample -/

/-- An ETCH of plate 0 from ring 0, attached after a failover to its repetition over ring 1: it waits there for its reply, and does not
count among the requests outstanding on ring 0 (R102, R169). -/
def attachedEtch : Outst :=
  { origin := { binding := .ring 0, op := .etch, object := oPlate 0, session := 1, id := 1 }, opcode := Op.etch.info.code, slot := 0,
    replySize := 0, wantsReply := true, safety := false, via := some (.ring 1) }

/-- A bundle's header and its one entry, which names an empty plate image by its DIGEST. -/
def emptyImageBundle : List Nat := ([0, 0, 0, 0, 0, 0, 1, 0] ++ List.replicate 104 0) ++ leBytes 48 (Config.sha384 [])

/-- TRIO and RUNNING, with that bundle VERIFIED, no plate active or booted, and the attached ETCH still without its reply. -/
def etchBesideAttached : State :=
  { (((((State.reset.setV .tilePhase 0 3).setV .tilePhase 1 3).setV .tilePhase 2 3).setV .serving 0 1).put .powerState 0 psRunning).put
      .stageState 0 sgVerified with
    sessions := [{ id := 2, token := 7, features := 2 ^ 64 - 1, bindings := [.ring 0] }]
    stage := { parts := [(0, emptyImageBundle)] }
    outst := [attachedEtch] }

/-- An ETCH of plate 1 from ring 0, with the queue and the tag of the attached one. -/
def etchPlate1 : Arrival := { t := 5, binding := .ring 0, hdr := { object := oPlate 1, replyRequired := true } }

/-- The entry's DIGEST is that of its image, which is empty. -/
theorem staged_emptyImageBundle {s : State} (h : s.stage = etchBesideAttached.stage) : s.staged 0 = some [] := by
  have bundle : s.bundle = emptyImageBundle := by
    unfold State.bundle
    rw [h]
    exact List.append_nil _
  have fits : Config.sha384 [] < 256 ^ 48 := (Config.sha384Bits []).isLt.trans_le (by decide +kernel)
  obtain ⟨value, length⟩ := leBytes_value 48 _ fits
  have digest : (bundleComp emptyImageBundle 0).digest = Config.sha384 [] := by
    show leValue (List.take 48 (List.drop 112 emptyImageBundle)) = _
    rw [emptyImageBundle, List.drop_left' (by rfl), List.take_of_length_le length.le]
    exact value
  have image : (bundleComp emptyImageBundle 0).bytes emptyImageBundle = [] := rfl
  unfold State.staged
  dsimp only
  rw [bundle, image, digest, if_pos rfl]

/-- The request of plate 1 finds the attached one's origin, and no plate is barred. -/
def findsAttached (s : State) : Bool :=
  decide (s.originOf etchPlate1 .etch = attachedEtch.origin) && decide (s.stagedKind 0 = some 0) && s.etchTarget.isNone && !s.onTrial

theorem findsAttached_iff {s : State} : findsAttached s = true ↔ s.originOf etchPlate1 .etch = attachedEtch.origin ∧ s.stagedKind 0 = some 0 ∧
    s.etchTarget = none ∧ s.onTrial = false := by
  simp [findsAttached, and_assoc]

/-- There the request of plate 1 etches plate 0. -/
theorem doEtch_of_findsAttached {s : State} (h : findsAttached s = true) (stage : s.stage = etchBesideAttached.stage) :
    doEtch etchPlate1 s = (s.etchBegun attachedEtch.origin 0 [], .accepted []) := by
  obtain ⟨origin, kind, target, trial⟩ := findsAttached_iff.mp h
  unfold doEtch
  rw [origin]
  exact State.startEtch_plate (by decide) kind target trial (staged_emptyImageBundle stage)

/-- The plate that the ETCH under way writes. -/
def State.etchPlate (s : State) : Option Nat := s.etch.map (·.target)

theorem etchBesideAttached_arrives : (etchBesideAttached.arrives etchPlate1 .etch).all findsAttached = true := by decide +kernel

/-- The request of plate 1 opens, and the states that the ETCH of either plate leaves differ in the plate under way. -/
theorem etchBesideAttached_opens : ∃ u o, etchBesideAttached.opens etchPlate1 .etch (doEtch etchPlate1) = some (u, o) ∧
    findsAttached u = true ∧ u.isHeld oStage = false ∧
    ((u.etchBegun attachedEtch.origin 0 []).conclude u o (.accepted [])).etchPlate ≠
      ((u.etchBegun attachedEtch.origin 1 []).conclude u o (.accepted [])).etchPlate := by
  have accepted (v : State) (hv : etchBesideAttached.arrives etchPlate1 .etch = some v) : (doEtch etchPlate1 v).2.fault = none := by
    have finds := etchBesideAttached_arrives
    rw [hv] at finds
    rw [doEtch_of_findsAttached finds (State.arrives_stage hv)]
    rfl
  have runs : (etchBesideAttached.opens etchPlate1 .etch (fun u => (u, .st .ok))).any (fun x => findsAttached x.1 && !x.1.isHeld oStage &&
      decide (((x.1.etchBegun attachedEtch.origin 0 []).conclude x.1 x.2 (.accepted [])).etchPlate ≠
        ((x.1.etchBegun attachedEtch.origin 1 []).conclude x.1 x.2 (.accepted [])).etchPlate)) = true := by decide +kernel
  rw [← State.opens_of_fault accepted] at runs
  simp only [Option.any_eq_true, Bool.and_eq_true, Bool.not_eq_true', decide_eq_true_eq] at runs
  obtain ⟨⟨u, o⟩, opens, ⟨finds, free⟩, differ⟩ := runs
  exact ⟨u, o, opens, finds, free, differ⟩

/-- What the ETCH of plate 1 does: it etches plate 0. -/
theorem exec_etchPlate1 {u : State} {o : Origin} (h : etchBesideAttached.opens etchPlate1 .etch (doEtch etchPlate1) = some (u, o))
    (finds : findsAttached u = true) :
    exec (.etch etchPlate1) etchBesideAttached = .next ((u.etchBegun attachedEtch.origin 0 []).conclude u o (.accepted [])) := by
  have effect := doEtch_of_findsAttached finds (State.opens_stage h)
  have row : exec (.etch etchPlate1) etchBesideAttached = .next (etchBesideAttached.request etchPlate1 .etch (doEtch etchPlate1)) := rfl
  rw [row, State.request_of_opens _ h (by simp [effect, Res.commits]), effect]

/-- Refutes O53, in its clause on ETCH of a plate whose component matches: an origin is looked up by binding, queue, tag and opcode, and not
by object, while the check for a tag in use (R102) passes over a request whose reply goes to another binding (R169). So the ETCH of plate 1
in `etchBesideAttached` holds and etches plate 0, where the clause, with neither plate active or booted, gives plate 1. -/
theorem not_stageRequestsComplete : ¬ Obligations.StageRequestsComplete := by
  unfold Obligations.StageRequestsComplete
  rintro ⟨-, -, -, -, -, -, -, etch, -⟩
  obtain ⟨u, o, opens, finds, free, differ⟩ := etchBesideAttached_opens
  have does := exec_etchPlate1 opens finds
  have stage := State.opens_stage opens
  obtain ⟨origin, kind, target, trial⟩ := findsAttached_iff.mp finds
  have claimed := etch etchBesideAttached u _ etchPlate1 o 0 [] opens rfl rfl free kind (by simp [target]) trial
    (staged_emptyImageBundle stage) rfl
  rw [origin, does] at claimed
  injection claimed with same
  exact differ (congrArg State.etchPlate same)

end Sys2Proof.Machine
end

section
/-! ACTIVATE (R703): where none of R703's reasons holds it begins a safe order, or answers the plan's block. An opcode without a SAFETY form
is never dispatched as a SAFETY request, so one that is turned away leaves nothing of what its effect drew (O54). -/

namespace Sys2Proof.Machine

/-! ### Requests whose opcode has no SAFETY form (R102) -/

/-- A request that passes R102's checks sets SAFETY only where its opcode may. -/
theorem State.safety_of_checks {s : State} {a : Arrival} {b : Body} {op : Op} {again : Bool} (named : b.op = some op)
    (passes : s.checks a b again = .ok) (set : a.hdr.safety = true) : op.info.safety = true := by
  by_contra plain
  rw [Bool.not_eq_true] at plain
  unfold State.checks at passes
  -- With SAFETY set, only the status of an absent object could still be anything but a refusal, and that one is not ST_OK.
  simp only [named, set, plain, Bool.not_false, Bool.true_or, Bool.and_self, if_true] at passes
  split_ifs at passes
  all_goals
    split at passes
    · cases passes
    next absent => exact absent passes

theorem State.checks_of_arrives {s v : State} {a : Arrival} {b : Body} (h : s.arrives a b = some v) : v.checks a b false = .ok := by
  unfold State.arrives at h
  dsimp only at h
  split at h
  · cases h
  · split at h
    · cases h
    next passes =>
      rw [not_or, not_not] at passes
      cases h
      exact passes.2

theorem State.reaches_not_safety {s v : State} {a : Arrival} {b : Body} {o : Origin} {eff : State → State × Res}
    (h : s.reaches a b eff = some (v, o)) (plain : o.op.info.safety = false) : o.safety = false := by
  unfold State.reaches at h
  split at h
  next w op arrives named =>
    dsimp only at h
    split_ifs at h
    cases h
    rw [← Bool.not_eq_true]
    exact fun set => Bool.false_ne_true (plain.symm.trans (State.safety_of_checks named (State.checks_of_arrives arrives) set))
  next => cases h

/-- A change without a SAFETY form that is turned away leaves the state it was dispatched in, but for its answer: not even what its effect
drew. -/
theorem State.request_of_turnedAway {s v : State} {a : Arrival} {b : Body} {o : Origin} (eff : State → State × Res)
    (h : s.reaches a b eff = some (v, o)) (changes : o.op.info.changes = true) (plain : o.op.info.safety = false)
    (refused : (eff (v.entered o b)).2.commits = false) :
    s.request a b eff = v.outcome o (eff (v.entered o b)).2 v.journal.committed := by
  rw [State.request_of_reaches eff h, if_pos (by simp [changes, State.reaches_not_safety h plain, refused])]

/-! ### What ACTIVATE does with the plan (R701, R703) -/

/-- None of R703's reasons holds of the order `l`, and the image of a tile component is etched. -/
structure State.ReadyToActivate (s : State) (stop : Bool) (l : List (List UpdInst)) : Prop where
  verified : s.get .stageState = sgVerified
  quiet : s.unquiet = false
  tiles : (∃ x ∈ l.flatten, x.kind = 0) → s.membership = 3 ∧ s.etched = true
  relays : ∀ x ∈ l.flatten, x.kind = 1 → s.scope (x.inst / 2) = 0 ∨ stop = true

/-- The stage held and the order `l` to be run, under an image number that is drawn. -/
def State.activating (s : State) (o : Origin) (stop : Bool) (l : List (List UpdInst)) : State :=
  let w := s.draw.2.hold o [oStage]
  { w with activation := some { origin := o, csn := w.csnOf o, stop, todo := s.stepsOf l, all := (s.stepsOf l).length,
                                image := (s.draw.1 % 2 ^ 32).toNat }
           relayDone := [] }

theorem State.startActivate_of_ready {s : State} {stop : Bool} {l : List (List UpdInst)} {reason : Nat} (o : Origin)
    (ready : s.ReadyToActivate stop l) (plan : s.updatePlan = (reason, l)) :
    s.startActivate o stop = if reason = 0 then (s.activating o stop l, .accepted [])
      else ((s.planResults (reason, l)).2, .done .noSafeOrder (s.planResults (reason, l)).1) := by
  obtain ⟨verified, quiet, tiles, relays⟩ := ready
  have tile : l.flatten.any (fun u => decide (u.kind = 0)) = true → s.membership = 3 ∧ s.etched = true := by
    simpa only [List.any_eq_true, decide_eq_true_eq] using tiles
  have stops : l.flatten.any (fun u => decide (u.kind = 1) && decide (s.scope (u.inst / 2) ≠ 0)) = true → stop = true := by
    simp only [List.any_eq_true, Bool.and_eq_true, decide_eq_true_eq]
    rintro ⟨x, hx, relay, running⟩
    exact (relays x hx relay).resolve_left running
  unfold State.startActivate
  dsimp only
  rw [if_neg (not_not.mpr verified), plan, if_neg (fun h => h.2 (tile h.1).1), if_neg (by simp [quiet]),
    if_neg (fun h => by simp [stops h.1] at h), if_neg (fun h => by simp [(tile h.1).2] at h), ite_not]
  rfl

theorem doActivate_of_ready {s : State} {a : Arrival} {stop reason : Nat} {l : List (List UpdInst)} (stage : objCls a.hdr.object = 0x12)
    (inRange : stop ≤ 1) (ready : s.ReadyToActivate (decide (stop = 1)) l) (plan : s.updatePlan = (reason, l)) :
    doActivate a stop s = if reason = 0 then (s.activating (s.originOf a .activate) (decide (stop = 1)) l, .accepted [])
      else ((s.planResults (reason, l)).2, .done .noSafeOrder (s.planResults (reason, l)).1) := by
  unfold doActivate
  rw [if_neg (by omega), State.startActivate_of_ready _ ready plan]

/-- ACTIVATE is a request, and what runs then goes on. -/
theorem exec_activate (a : Arrival) (stop : Nat) (s : State) :
    exec (.activate a stop) s = .next (s.request a (.activate stop) (doActivate a stop)).settleUpdate := rfl

/-- Settles O54: an order accepted begins from the state ACTIVATE's entry left, one refused leaves the state ACTIVATE was dispatched in, and
STEP_TIMEOUT's guard is met. -/
theorem activateComplete : Obligations.ActivateComplete := by
  unfold Obligations.ActivateComplete
  refine ⟨?begins, ?noOrder, ?timeout⟩
  case begins =>
    rintro s u v w a o stop l r opens stage inRange - verified quiet plan tiles relays drawn rfl
    have effect := doActivate_of_ready stage inRange ⟨verified, quiet, tiles, by simpa using relays⟩ plan
    rw [if_pos rfl] at effect
    rw [exec_activate, State.request_of_opens _ opens (by simp [effect, Res.commits]), effect, State.activating, drawn]
  case noOrder =>
    intro s v a o stop reason l reached u stage inRange _ verified quiet plan unsafeOrder tiles relays
    have effect := doActivate_of_ready stage inRange ⟨verified, quiet, tiles, by simpa using relays⟩ plan
    rw [if_neg unsafeOrder] at effect
    have op : Op.activate = o.op := Option.some.inj (State.reaches_op reached)
    rw [exec_activate, State.request_of_turnedAway _ reached (by rw [← op]; rfl) (by rw [← op]; rfl) (by rw [effect]; rfl), effect]
  case timeout =>
    rintro s u t x k rest rfl running left due
    have row : exec (.stepTimeoutExpiry t) s = execStepTimeoutExpiry t s := rfl
    rw [row, execStepTimeoutExpiry]
    simp only [running, left, due, if_true]

end Sys2Proof.Machine
end

section
/-! The rows of chapter 19: what each request's effect answers where its conditions hold, said once per request, and the rows that end an
injection, maintenance mode, a test or a calibration (O55). -/

namespace Sys2Proof.Machine

/-! ### Rows whose conditions hold -/

/-- The row of a request that opens answers its effect, concluded. -/
theorem exec_of_request {c : Instr} {s u v : State} {a : Arrival} {b : Body} {o : Origin} {eff : State → State × Res} {r : Res}
    (row : exec c s = .next (s.request a b eff)) (opens : s.opens a b eff = some (u, o)) (effect : eff u = (v, r))
    (commits : r.commits = true) : exec c s = .next (v.conclude u o r) := by
  rw [row, State.request_of_opens eff opens (by simp [effect, commits]), effect]

theorem exec_of_guard {c : Instr} {s u v : State} {guard : Prop} [Decidable guard] (row : exec c s = .next (if guard then v else u))
    (holds : guard) : exec c s = .next v := by
  rw [row, if_pos holds]

theorem State.when_of_false (s : State) {c : Bool} (f : State → State) (h : c = false) : s.when c f = s := by
  rw [h]
  rfl

/-! ### Injection (R720–R722) -/

section
variable {a : Arrival} {k : Point} {s : State} (injection : objCls a.hdr.object = 0x1A) (named : pointOf (objIdx a.hdr.object) = some k)
include injection named

/-- ARM of an IDLE point: its level first, then R721's room and its parameters. -/
theorem doInject_arm_idle {x : ArmParams} (arm : a.hdr.property = 0) (idle : s.get .pointState (objIdx a.hdr.object) = ptIdle) :
    doInject a (some x) s =
      if (s.pointLevel k x.value x.duration = 1 ∧ (s.timer .maintenance).isNone) ∨ (s.pointLevel k x.value x.duration = 2 ∧ !s.mayDisturb a)
        then (s, .st .wouldDisturb)
      else if 16 ≤ s.armedPoints.length then (s, .st .diagArmFull)
      else if !armRight s.member k x then (s, .st .badParam)
      else (s.armPoint (objIdx a.hdr.object) x, .st .ok) := by
  unfold doInject
  dsimp only
  rw [named, arm]
  exact (if_neg (not_not.mpr injection)).trans (if_neg (not_not.mpr idle))

/-- DISARM returns the point to IDLE; of an IDLE point it raises nothing (log 222). -/
theorem doInject_disarm (disarm : a.hdr.property = 1) :
    doInject a none s = (if s.get .pointState (objIdx a.hdr.object) = ptIdle then s
      else (s.pointIdle (objIdx a.hdr.object)).pointEvent (objIdx a.hdr.object) 4, .st .ok) := by
  unfold doInject
  dsimp only
  rw [named, disarm]
  exact (if_neg (not_not.mpr injection)).trans (apply_ite (fun v : State => (v, Res.st .ok)) _ _ _).symm

end

theorem exec_injectionFire {s : State} {t : Ns} {p : Fin 4096} {k : Point} (seen : Nat) (named : pointOf p.val = some k) :
    exec (.injectionFire t p seen) s =
      .next (if (s.tick t).triggerMet p.val seen then ((s.tick t).firePoint p.val k).settleUpdate else s.tick t) := by
  have row : exec (.injectionFire t p seen) s = execInjectionFire t p seen s := rfl
  rw [row, execInjectionFire]
  simp only [named]

/-- R722: the hold of a point inside the block ends without a fault to take back outside it. -/
theorem exec_injectionHoldEnd {s u : State} {t : Ns} {p : Fin 4096} (now : u = s.tick t) (due : u.due .injHold p.val = true)
    (inside : (pointOf p.val).any Point.outside = false) :
    exec (.injectionHoldEnd t p) s =
      .next ((if (u.points.get {} p.val).left = 0 then ((u.pointEvent p.val 2).disarm .injHold p.val).pointIdle p.val
        else ((u.pointEvent p.val 2).disarm .injHold p.val).setPoint p.val ptArmed).voteBack p.val (u.points.get {} p.val).value) := by
  subst now
  refine (exec_of_guard rfl due).trans ?_
  dsimp only
  rw [State.when_of_false _ _ inside]

/-! ### Maintenance mode (R723) -/

theorem doSetMaintenance_on {a : Arrival} {duration : Nat} (s : State) (device : a.hdr.object = oDevice) (least : 60 ≤ duration)
    (most : duration ≤ 86400) (minutes : duration % 60 = 0) :
    doSetMaintenance a 1 duration s =
      ((s.arm .maintenance 0 (duration * sec)).when (s.timer .maintenance).isNone (fun s => s.raise .maintenance oDevice [0, 0, duration]),
        .done .ok [u32 duration]) :=
  (if_neg (not_or.mpr ⟨not_not.mpr device, by omega⟩)).trans (if_pos rfl)

theorem doSetMaintenance_off {a : Arrival} (duration : Nat) (s : State) (device : a.hdr.object = oDevice) :
    doSetMaintenance a 0 duration s = (s.endMaintenance 0, .done .ok [u32 0]) :=
  (if_neg (by simp [device])).trans (if_neg (by decide))

/-! ### Self-tests (R725, R726) -/

/-- The state in which a test by `o` has begun on its object, which it holds. -/
def State.testBegun (s : State) (o : Origin) (test arg : Nat) (obj : ObjId) : State :=
  let v := s.beginTest test arg obj
  let x : Trial := { origin := some o, cal := false, test, object := obj, arg, since := v.now,
                     prior := if test = 10 then s.get .command (objIdx obj) else 0 }
  (({ v with tests := v.tests ++ [x] } : State).hold o [obj]).beginApply o

/-- R725, R726: a test that disturbs has three conditions more than one that does not. -/
theorem doSelftest_of_allowed {a : Arrival} {test arg : Nat} {s : State} (right : testRight test arg a.hdr.object = true)
    (free : s.testBarred test a.hdr.object = false)
    (allowed : test < 8 ∨ (a.binding.cls ≠ .burin ∧ s.mayDisturb a = true ∧ s.tests.any (fun x => x.disturbs) = false)) :
    doSelftest a test arg s = (s.testBegun (s.originOf a .selftest) test arg a.hdr.object, .accepted []) := by
  have disturbing (hd : decide (8 ≤ test) = true) :
      a.binding.cls ≠ .burin ∧ s.mayDisturb a = true ∧ s.tests.any (fun x => x.disturbs) = false :=
    allowed.resolve_left (by simpa using hd)
  unfold doSelftest
  dsimp only
  rw [if_neg (by simp [right]), if_neg (fun h => (disturbing h.1).1 h.2), if_neg (fun h => by simp [(disturbing h.1).2.1] at h),
    if_neg (fun h => by simp [(disturbing h.1).2.2] at h), if_neg (by simp [free])]
  rfl

theorem exec_selftestComplete {s u : State} {t : Ns} {object : ObjId} {test : Nat} {x : Trial} (step measured : Nat) (now : u = s.tick t)
    (runs : u.tests.find? (fun x => !x.cal && decide (x.object = object ∧ x.test = test)) = some x) (sense : test ≠ 2) (valve : test ≠ 10)
    (drive : test ≠ 11) :
    exec (.selftestComplete t object test step measured) s =
      .next (u.endTrial x (if step = 0 then .ok else .diagFailed) (if step = 0 then 0 else 1) (step % 256) (measured % 4294967296 : Nat)) := by
  subst now
  have row : exec (.selftestComplete t object test step measured) s = execSelftestComplete t object test step measured s := rfl
  rw [row, execSelftestComplete]
  simp only [runs, sense, valve, drive, or_self, if_false]

/-! ### Calibrations (R729–R731) -/

/-- A calibration that is not barred finds its relay, where it is one of a relay's legs. -/
theorem State.relayPresent_of_not_calBarred {s : State} {cal : Nat} {obj : ObjId} (free : s.calBarred cal obj = false) (legs : cal = 0) :
    s.relayPresent (objIdx obj) = true := by
  simpa [State.calBarred, legs] using free

theorem doCalibrate_of_eligible {a : Arrival} {cal : Nat} {s : State} (free : s.calBarred cal a.hdr.object = false)
    (right : (cal = 0 ∧ objCls a.hdr.object = 6) ∨ (cal = 3 ∧ objCls a.hdr.object = 1) ∨
      ((cal = 1 ∨ cal = 2 ∨ cal = 4) ∧ objCls a.hdr.object = 1 ∧ objIdx a.hdr.object ≤ 1)) :
    doCalibrate a cal s =
      ((s.addCal (some (s.originOf a .calibrate)) cal a.hdr.object).hold (s.originOf a .calibrate) [a.hdr.object], .accepted []) := by
  have present (h : cal = 0 ∧ !s.relayPresent (objIdx a.hdr.object)) : False := by
    simp [State.relayPresent_of_not_calBarred free h.1] at h
  unfold doCalibrate
  dsimp only
  rw [if_neg ?object, if_neg present, if_neg (by simp [free])]
  case object =>
    obtain ⟨rfl, relay⟩ | ⟨rfl, tile⟩ | ⟨rfl | rfl | rfl, tile, banked⟩ := right
    · simp [relay]
    · simp [tile]
    · simp [tile, banked]
    · simp [tile, banked]
    · simp [tile, banked]

/-- What a calibration's result does: one within tolerance is applied, another marks the component it judges failed. -/
def State.calJudged (s : State) (cal : Nat) (object : ObjId) (within : Bool) (measured : Int) (errs : List Int) : State :=
  if within then s.applyCal cal (objIdx object) measured errs
  else match calPart cal with
    | some c => s.markPart (objIdx object) c true measured
    | none => s

theorem exec_calibrateComplete {s u : State} {t : Ns} {object : ObjId} {cal : Nat} {x : Trial} (within : Bool) (measured : Int)
    (errs : List Int) (now : u = s.tick t)
    (runs : u.tests.find? (fun x => x.cal && decide (x.object = object ∧ x.test = cal) && !x.waits) = some x) :
    exec (.calibrateComplete t object cal within measured errs) s = settled (.next (((u.calJudged cal object within measured errs).endTrial x
      (if within then .ok else .diagFailed) (if within then 0 else 1) 0 (measured % 4294967296)).nextCal)) := by
  subst now
  have row : exec (.calibrateComplete t object cal within measured errs) s = execCalibrateComplete t object cal within measured errs s := rfl
  rw [row, execCalibrateComplete]
  simp only [runs]
  rfl

/-! ### The long event log (R733) -/

/-- A log that is not full takes the oldest waiting record and drops none. -/
theorem exec_logRecordWrite {s u : State} {t : Ns} {r : LogRec} {rest : List LogRec} (now : u = s.tick t) (present : u.nandLost = false)
    (waiting : u.log.waiting = r :: rest) (room : u.log.held.length < 16777216) :
    exec (.logRecordWrite t) s = .next (State.logGap { u with log := { u.log with waiting := rest, held := u.log.held ++ [r] } }) := by
  subst now
  have fits : decide (16777216 < ((s.tick t).log.held ++ [r]).length) = false :=
    decide_eq_false (by rw [List.length_append, List.length_singleton]; omega)
  have row : exec (.logRecordWrite t) s = execLogRecordWrite t s := rfl
  rw [row, execLogRecordWrite]
  simp only [waiting, present, fits, Bool.false_eq_true, if_false]

/-- Settles O55: each request's effect meets none of its refusals and is concluded, ARM without its level is answered so, and each row that
ends something finds what it ends. -/
theorem diagnosticsComplete : Obligations.DiagnosticsComplete := by
  unfold Obligations.DiagnosticsComplete
  refine ⟨?arm, ?armDisturbs, ?disarm, ?fire, ?holdEnd, ?armLimit, ?maintenance, ?maintenanceEnds, ?selftest, ?selftestEnds, ?calibrate,
    ?calPeriod, ?calibrateEnds, ?logRecord, ?logCursor⟩
  case arm =>
    intro s u a o x k p opens injection named arm idle room right level1 level2
    refine exec_of_request rfl opens ?_ rfl
    rw [doInject_arm_idle injection named arm idle, if_neg ?level, if_neg (by omega), if_neg (by simp [right])]
    case level =>
      rintro (⟨h, closed⟩ | ⟨h, mayNot⟩)
      · exact absurd (level1 h) (by simpa using closed)
      · simp [level2 h] at mayNot
  case armDisturbs =>
    intro s v a o x k p reached injection named arm w idle disturbs
    refine congrArg Host.Outcome.next (State.request_of_failed _ reached ?_ rfl)
    exact (doInject_arm_idle injection named arm idle).trans (if_pos (by simpa using disturbs))
  case disarm =>
    intro s u a o k p opens injection named disarm
    exact exec_of_request rfl opens (doInject_disarm injection named disarm) rfl
  case fire =>
    rintro s u t p seen k rfl named
    exact exec_injectionFire seen named
  case holdEnd =>
    rintro s u v t p now due rfl inside
    exact exec_injectionHoldEnd now due inside
  case armLimit =>
    rintro s u t p rfl due
    exact exec_of_guard rfl due
  case maintenance =>
    intro s u a o on duration opens device
    refine ⟨?enters, ?restarts, ?leaves⟩
    case enters =>
      rintro rfl least most minutes outside
      refine exec_of_request rfl opens ?_ rfl
      rw [doSetMaintenance_on u device least most minutes, outside]
      rfl
    case restarts =>
      rintro rfl least most minutes inside
      refine exec_of_request rfl opens ?_ rfl
      rw [doSetMaintenance_on u device least most minutes, State.when_of_false _ _ (Option.isNone_eq_false_iff.mpr inside)]
    case leaves =>
      rintro rfl
      exact exec_of_request rfl opens (doSetMaintenance_off duration u device) rfl
  case maintenanceEnds =>
    rintro s u t rfl due
    exact exec_of_guard rfl due
  case selftest =>
    rintro s u v a o test arg obj opens right free allowed rfl
    exact exec_of_request rfl opens (doSelftest_of_allowed right free allowed) rfl
  case selftestEnds =>
    intro s u t object test step measured x now runs sense valve drive
    exact exec_selftestComplete step measured now runs sense valve drive
  case calibrate =>
    intro s u a o cal obj opens free right
    exact exec_of_request rfl opens (doCalibrate_of_eligible free right) rfl
  case calPeriod =>
    -- Log 230: a calibration the controller starts itself holds nothing.
    rintro s u t rfl due
    exact exec_of_guard rfl due
  case calibrateEnds =>
    rintro s u v t object cal within measured errs x now runs rfl
    exact exec_calibrateComplete within measured errs now runs
  case logRecord =>
    intro s u t r rest now present waiting room
    exact exec_logRecordWrite now present waiting room
  case logCursor =>
    intro s u a o v opens
    exact congrArg Host.Outcome.next (State.write_of_opens _ opens (.inr (.inr rfl)))

end Sys2Proof.Machine
end

section
/-! What every step keeps (O3, O4, O7): the queue, and the canonical form of the registers and codewords. One lemma per operation of the
model: a state it is given that is kept from `r` gives one that is kept from `r`. -/

namespace Sys2Proof.Machine

/-! ### The relation -/

/-- `t` has the queue of `r`, and its registers and codewords are in canonical form where those of `r` are. -/
structure Kept (r t : State) : Prop where
  pending : t.pending = r.pending
  canonical : r.canonical → t.canonical

/-- A command's meaning that goes on, in a state kept from `r`. -/
def KeptOut (r : State) (o : Out) : Prop := ∃ t, o = .next t ∧ Kept r t

section
variable {r s t : State}

theorem Kept.refl (s : State) : Kept s s := ⟨rfl, id⟩

/-- What `Kept` speaks of is the queue, the three tables of registers, and the codewords. -/
theorem Kept.of_core (h : Kept r s) (pending : t.pending = s.pending) (regs : t.regs = s.regs) (vars : t.vars = s.vars)
    (timers : t.timers = s.timers) (codewords : t.codewords = s.codewords) : Kept r t :=
  ⟨pending.trans h.pending, fun c => by
    have := h.canonical c
    unfold State.canonical at this ⊢
    rwa [regs, vars, timers, codewords]⟩

/-- No other field matters. -/
theorem Kept.frame (h : Kept r s)
    {now member draws lastCsn outbox raised sessions endpoints waiting served outst orphans handovers running safetyAdmits
    safetyLimited unapplied endings cmdCsn applying disagreed resWaits holds journal log td powerWrites norWrites tables rails domains
    legs relays links held alertHolds hints ratPorts hearings nodes rackMembers racks pIn auxHistory trayDemands fast telemetry models
    fcDoms switches shelf nandWrites nor stage descStore etch activation roll revoking wakeRec points tests recorder stipple exports
    rowHits ueHits poison buses windows relayDone ethShakes ethSessions moves lockMembers lockGroups lockTable lockCmds lockSum
    lockHeard plans coming runningPlan phases engines srcs mail progShelf globalOps opResults snapBufs remoteOuts remoteIns opsPassed
    paces oldLimits therms drives zones branches runs offRuns starts stops furls furlCmds failures restarts} :
    Kept r
      { now, pending := s.pending, member, draws, regs := s.regs, vars := s.vars, timers := s.timers, lastCsn, outbox, raised,
        sessions, endpoints, waiting, served, outst, orphans, handovers, running, safetyAdmits, safetyLimited, unapplied, endings,
        cmdCsn, applying, disagreed, resWaits, holds, journal, log, td, powerWrites, norWrites, tables, rails, domains, legs, relays,
        links, held, alertHolds, hints, ratPorts, hearings, nodes, rackMembers, racks, pIn, auxHistory, trayDemands, fast, telemetry,
        models, fcDoms, switches, shelf, nandWrites, nor, stage, descStore, etch, activation, roll, revoking, wakeRec, points, tests,
        recorder, stipple, exports, rowHits, ueHits, codewords := s.codewords, poison, buses, windows, relayDone, ethShakes,
        ethSessions, moves, lockMembers, lockGroups, lockTable, lockCmds, lockSum, lockHeard, plans, coming, runningPlan, phases,
        engines, srcs, mail, progShelf, globalOps, opResults, snapBufs, remoteOuts, remoteIns, opsPassed, paces, oldLimits, therms,
        drives, zones, branches, runs, offRuns, starts, stops, furls, furlCmds, failures, restarts } :=
  h.of_core rfl rfl rfl rfl rfl

theorem KeptOut.next (h : Kept r s) : KeptOut r (.next s) := ⟨s, rfl, h⟩

/-! ### Branches and repetition -/

theorem Kept.ite {c : Prop} [Decidable c] (h : Kept r s) (k : Kept r t) : Kept r (if c then s else t) := by
  split
  · exact h
  · exact k

theorem Kept.ite_fst {c : Prop} [Decidable c] {α : Type} {x y : State × α} (h : Kept r x.1) (k : Kept r y.1) :
    Kept r (if c then x else y).1 := by
  split
  · exact h
  · exact k

theorem Kept.ite_snd {c : Prop} [Decidable c] {α : Type} {x y : α × State} (h : Kept r x.2) (k : Kept r y.2) :
    Kept r (if c then x else y).2 := by
  split
  · exact h
  · exact k

theorem KeptOut.ite {c : Prop} [Decidable c] {x y : Out} (h : KeptOut r x) (k : KeptOut r y) : KeptOut r (if c then x else y) := by
  split
  · exact h
  · exact k

/-- The state of a pair that is taken apart. -/
theorem Kept.of_fst {α : Type} {p : State × α} {x : α} (h : Kept r p.1) (e : p = (s, x)) : Kept r s := by
  rwa [e] at h

theorem Kept.of_snd {α : Type} {p : α × State} {x : α} (h : Kept r p.2) (e : p = (x, s)) : Kept r s := by
  rwa [e] at h

theorem Kept.pair {α : Type} {x : α} (h : Kept r s) : Kept r (s, x).1 := h

theorem Kept.foldl {α : Type} {l : List α} {f : State → α → State} (h : Kept r s) (k : ∀ s x, Kept r s → Kept r (f s x)) :
    Kept r (l.foldl f s) := by
  induction l generalizing s with
  | nil => exact h
  | cons x l ih => exact ih (k s x h)

theorem Kept.foldl_fst {α β : Type} {l : List α} {x : State × β} {f : State × β → α → State × β} (h : Kept r x.1)
    (k : ∀ x y, Kept r x.1 → Kept r (f x y).1) : Kept r (l.foldl f x).1 := by
  induction l generalizing x with
  | nil => exact h
  | cons y l ih => exact ih (k x y h)

theorem Kept.foldl_snd {α β : Type} {l : List α} {x : β × State} {f : β × State → α → β × State} (h : Kept r x.2)
    (k : ∀ x y, Kept r x.2 → Kept r (f x y).2) : Kept r (l.foldl f x).2 := by
  induction l generalizing x with
  | nil => exact h
  | cons y l ih => exact ih (k x y h)

theorem Kept.each {α : Type} {l : List α} {f : State → α → State} (h : Kept r s) (k : ∀ s x, Kept r s → Kept r (f s x)) :
    Kept r (s.each l f) := h.foldl k

theorem Kept.when {c : Bool} {f : State → State} (h : Kept r s) (k : ∀ s, Kept r s → Kept r (f s)) : Kept r (s.when c f) :=
  .ite (k s h) h

end

/-! ### Tables in canonical form -/

theorem rowWf_empty {α : Type} (d : Nat → α) : rowWf d {} := ⟨.nil, by simp⟩

theorem rowWf_put {α : Type} [DecidableEq α] {d : Nat → α} {x : Tab α} (h : rowWf d x) (i : Nat) (v : α) : rowWf d (x.put (d i) i v) := by
  obtain ⟨sorted, proper⟩ := h
  have rest := entryErase_sublist x.entries i
  have sorted' := sorted.sublist (rest.map _)
  unfold Tab.put rowWf
  split
  · exact ⟨sorted', fun e he => proper e (rest.subset he)⟩
  · rename_i hv
    refine ⟨entryInsert_sorted _ i v sorted' (entryErase_ne x.entries i), fun e he => ?_⟩
    obtain rfl | he := entryInsert_mem _ i v e he
    · exact hv
    · exact proper e (rest.subset he)

/-- A write of one key of one row keeps a table of rows, indexed by names with codes of their own, in canonical form. -/
theorem rowsWf_put {ι α : Type} [DecidableEq α] {code : ι → Nat} (inj : ∀ {a b}, code a = code b → a = b) {d : ι → Nat → α}
    {x : Tab (Tab α)} (h : rowWf (fun _ => {}) x ∧ ∀ p, rowWf (d p) (x.get {} (code p))) (p : ι) {row : Tab α} (hr : rowWf (d p) row) :
    rowWf (fun _ => {}) (x.put {} (code p) row) ∧ ∀ q, rowWf (d q) ((x.put {} (code p) row).get {} (code q)) := by
  refine ⟨rowWf_put h.1 _ _, fun q => ?_⟩
  by_cases e : code p = code q
  · obtain rfl := inj e
    rwa [Tab.get_put_self]
  · rw [Tab.get_put_ne _ _ _ _ e]
    exact h.2 q

theorem State.canonical_of_empty {s : State} (regs : s.regs = {}) (vars : s.vars = {}) (timers : s.timers = {}) (codewords : s.codewords = {}) :
    s.canonical := by
  unfold State.canonical
  rw [regs, vars, timers, codewords]
  exact ⟨⟨rowWf_empty _, fun _ => rowWf_empty _⟩, ⟨rowWf_empty _, fun _ => rowWf_empty _⟩, ⟨rowWf_empty _, fun _ => rowWf_empty _⟩,
    rowWf_empty _⟩

/-! ### The writes of the tables -/

section
variable {r s : State}

/-- A row of the properties is replaced by one in canonical form. -/
theorem Kept.regs (h : Kept r s) (p : P) {row : Tab Int} (hr : r.canonical → rowWf p.dfltAt row) :
    Kept r { s with regs := s.regs.put {} p.ctorIdx row } :=
  ⟨h.pending, fun c => by
    obtain ⟨regs, rest⟩ := h.canonical c
    exact ⟨rowsWf_put P.code_inj regs p (hr c), rest⟩⟩

/-- A row of the hidden registers is replaced by one in canonical form. -/
theorem Kept.vars (h : Kept r s) (x : V) {row : Tab Int} (hr : r.canonical → rowWf (fun _ => x.dflt) row) :
    Kept r { s with vars := s.vars.put {} x.ctorIdx row } :=
  ⟨h.pending, fun c => by
    obtain ⟨regs, vars, rest⟩ := h.canonical c
    exact ⟨regs, rowsWf_put V.code_inj (d := fun x _ => x.dflt) vars x (hr c), rest⟩⟩

theorem Kept.put (h : Kept r s) {p i v} : Kept r (s.put p i v) :=
  h.regs p fun c => rowWf_put ((h.canonical c).1.2 p) i v

theorem Kept.setV (h : Kept r s) {x i v} : Kept r (s.setV x i v) :=
  h.vars x fun c => rowWf_put ((h.canonical c).2.1.2 x) i v

theorem Kept.setT (h : Kept r s) {x i v} : Kept r (s.setT x i v) :=
  ⟨h.pending, fun c => by
    obtain ⟨regs, vars, timers, codewords⟩ := h.canonical c
    exact ⟨regs, vars, rowsWf_put T.code_inj (d := fun _ _ => none) timers x (rowWf_put (timers.2 x) i v), codewords⟩⟩

/-- A codeword is written back. -/
theorem Kept.codewords (h : Kept r s) {k v : Nat} : Kept r { s with codewords := s.codewords.put 0 k v } :=
  ⟨h.pending, fun c => by
    obtain ⟨regs, vars, timers, codewords⟩ := h.canonical c
    exact ⟨regs, vars, timers, rowWf_put codewords k v⟩⟩

end

/-! ### The operations of the model

One lemma per operation, in the order in which they call each other: given a state kept from `r`, it leaves one kept from `r`. The rows'
own answers, of type `Out`, are the lemmas of `KeptOut`. -/

section
variable {r s : State} {o : Out}

theorem Kept.loadFuses (h : Kept r s) {f} : Kept r (s.loadFuses f) := by
  unfold State.loadFuses
  exact .setV (.setV (.setV (.frame h)))

theorem Kept.loadNor (h : Kept r s) {n} : Kept r (s.loadNor n) := by
  unfold State.loadNor
  exact .frame h

/-- Table 1.8: what the NOR, the NAND and the fuses do not hold starts again as after reset, and each register kept is written to that. -/
theorem Kept.powerOff (h : Kept r s) : Kept r s.powerOff := by
  unfold State.powerOff
  extract_lets z z1 z2
  have hz : Kept r z := ⟨h.pending, fun _ => State.canonical_of_empty rfl rfl rfl rfl⟩
  have h1 : Kept r z1 := hz.foldl fun _ _ h => h.setV
  have h2 : Kept r z2 := h1.foldl fun _ _ h => h.put
  exact .ite h2.put h2

theorem Kept.strapAddrs (h : Kept r s) : Kept r (s.strapAddrs) := by
  unfold State.strapAddrs
  exact h.put.put

theorem Kept.logAdd (h : Kept r s) {r'} : Kept r (s.logAdd r') := by
  unfold State.logAdd
  exact .ite (.frame h) (.frame h)

theorem Kept.modSession (h : Kept r s) {id f} : Kept r (s.modSession id f) := by
  unfold State.modSession
  exact .frame h

theorem Kept.modEndpoint (h : Kept r s) {ep f} : Kept r (s.modEndpoint ep f) := by
  unfold State.modEndpoint
  exact .frame h

theorem Kept.send (h : Kept r s) {m} : Kept r (s.send m) := by
  unfold State.send
  exact .frame h

theorem Kept.signal (h : Kept r s) {ep v} : Kept r (s.signal ep v) := by
  unfold State.signal
  exact .ite h (.ite h.modEndpoint h.send)

theorem Kept.arm (h : Kept r s) {x i d} : Kept r (s.arm x i d) := by
  unfold State.arm
  exact h.setT

theorem Kept.armOnce (h : Kept r s) {x i d} : Kept r (s.armOnce x i d) := by
  unfold State.armOnce
  exact .ite h h.arm

theorem Kept.deliver (h : Kept r s) {id r'} : Kept r (s.deliver id r') := by
  unfold State.deliver
  split
  · exact h
  · dsimp only
    split
    · exact h.modSession.send.signal.modEndpoint
    · exact .ite h.modSession.modSession.armOnce h.modSession.modSession

theorem Kept.postTo (h : Kept r s) {r' id} : Kept r (s.postTo r' id) := by
  unfold State.postTo
  split
  · exact h
  · exact .ite h.modSession.deliver (.ite h.modSession.modSession h.modSession.modSession)

theorem Kept.raiseRec (h : Kept r s) {r' dest only quiet} : Kept r (s.raiseRec r' dest only quiet) := by
  unfold State.raiseRec
  exact .each (.when (.frame h) (fun _ h1 => h1.logAdd)) (fun _ _ h1 => h1.postTo)

theorem Kept.raiseTo (h : Kept r s) {e src payload safety stamp dest only} : Kept r (s.raiseTo e src payload safety stamp dest only) := by
  unfold State.raiseTo
  exact h.raiseRec

theorem Kept.countV (h : Kept r s) {x i} : Kept r (s.countV x i) := by
  unfold State.countV
  exact h.setV

theorem Kept.recTrigger (h : Kept r s) {n stamp post} : Kept r (s.recTrigger n stamp post) := by
  unfold State.recTrigger
  exact .ite (.raiseTo (.raiseTo (.frame h.put.setT.setV))) (.ite (.frame h.countV) h)

theorem Kept.trigger (h : Kept r s) {n safety stamp} : Kept r (s.trigger n safety stamp) := by
  unfold State.trigger
  exact .ite h.recTrigger h

theorem Kept.raiseAt (h : Kept r s) {e src payload safety stamp dest} : Kept r (s.raiseAt e src payload safety stamp dest) := by
  unfold State.raiseAt
  exact h.raiseTo.trigger

theorem Kept.raise (h : Kept r s) {e src payload} : Kept r (s.raise e src payload) := by
  unfold State.raise
  exact h.raiseAt

theorem Kept.applyTd (h : Kept r s) {k' c} : Kept r (s.applyTd k' c) := by
  unfold State.applyTd
  exact .setV (.put (.foldl (.foldl (.frame h) (fun _ _ h1 => h1.put)) (fun _ _ h1 => h1.setV)))

theorem Kept.chooseTd (h : Kept r s) : Kept r (s.chooseTd) := by
  unfold State.chooseTd
  split
  · exact .setV (.ite h.applyTd.raise h.applyTd)
  · exact h.raise

theorem Kept.refreshLatch (h : Kept r s) : Kept r (s.refreshLatch) := by
  unfold State.refreshLatch
  exact h.put

theorem Kept.scanFaults (h : Kept r s) : Kept r (s.scanFaults) := by
  unfold State.scanFaults
  exact h.put.setV.refreshLatch

theorem Kept.romRuns (h : Kept r s) {t'} : Kept r (s.romRuns t') := by
  unfold State.romRuns
  exact h.setV

theorem Kept.lock (h : Kept r s) {t' k'} : Kept r (s.lock t' k') := by
  unfold State.lock
  exact .ite h h.setV

theorem Kept.lockAll (h : Kept r s) {t'} : Kept r (s.lockAll t') := by
  unfold State.lockAll
  exact h.lock.lock.lock

theorem Kept.raiseFloor (h : Kept r s) {p x} : Kept r (s.raiseFloor p x) := by
  unfold State.raiseFloor
  split
  · exact .ite h.put.raise h
  · exact h

theorem Kept.norPut (h : Kept r s) {f} : Kept r (s.norPut f) := by
  unfold State.norPut
  exact .frame h

theorem Kept.putRecord (h : Kept r s) {r'} : Kept r (s.putRecord r') := by
  unfold State.putRecord
  exact .ite (.countV (.norPut (.each h.norPut (fun _ _ h1 => h1.norPut)))) h.norPut

theorem Kept.addRecord (h : Kept r s) {kind plate arg digest} : Kept r (s.addRecord kind plate arg digest) := by
  unfold State.addRecord
  exact h.putRecord

theorem Kept.finishRevoke (h : Kept r s) {slot} : Kept r (s.finishRevoke slot) := by
  unfold State.finishRevoke
  exact .ite h (.ite h.addRecord (.ite h.setV.addRecord h))

theorem Kept.proofLoader (h : Kept r s) {p trial} : Kept r (s.proofLoader p trial) := by
  unfold State.proofLoader
  extract_lets s1
  have h1 : Kept r s1 := h.lock
  split
  · extract_lets s2
    have h2 : Kept r s2 := .lock (.lock (.raiseFloor (.each h1 (fun _ _ h2 => h2.finishRevoke))))
    exact .ite h2.addRecord h2
  · exact h1.lock.lock

theorem Kept.romCold (h : Kept r s) : Kept r (s.romCold) := by
  unfold State.romCold
  extract_lets s1 _
  have h1 : Kept r s1 := h.romRuns.setV.setV.setV.setV
  split
  · exact h1.setV.setV.setV.setV.lockAll
  · exact h1.setV.setV.setV.setV.setV.proofLoader

theorem Kept.coldStart (h : Kept r s) : Kept r (s.coldStart) := by
  unfold State.coldStart
  extract_lets _ s1 s2 s3 s4 s5
  have h1 : Kept r s1 := h.powerOff
  have h2 : Kept r s2 := h1.of_core rfl rfl rfl rfl rfl
  have h3 : Kept r s3 := h2.strapAddrs
  have h4 : Kept r s4 := h3.raise
  have h5 : Kept r s5 := .when h4 (fun _ h5 => .each h5 (fun _ _ h6 => h6.put))
  exact .ite h5.setV h5.romCold.scanFaults.chooseTd

theorem KeptOut.pgStbyRise (h : Kept r s) {straps fuses nor} : KeptOut r (execPgStbyRise straps fuses nor s) := by
  unfold execPgStbyRise
  refine .next ?_
  split
  · exact .setV (.coldStart (.setV (.setV (by split; exacts [.loadNor (by split; exacts [h.loadFuses, h]), by split; exacts [h.loadFuses, h]]))))
  · exact h

theorem Kept.tick (h : Kept r s) {t'} : Kept r (s.tick t') := by
  unfold State.tick
  exact .frame h

theorem Kept.addFault (h : Kept r s) {r'} : Kept r (s.addFault r') := by
  unfold State.addFault
  exact .ite h.norPut.norPut.countV h.norPut

theorem Kept.finishFaults (h : Kept r s) : Kept r (s.finishFaults) := by
  unfold State.finishFaults
  exact .each h (fun _ _ h1 => h1.addFault)

theorem Kept.draw (h : Kept r s) : Kept r (s.draw).2 := by
  unfold State.draw
  exact .frame h

theorem Kept.count (h : Kept r s) {p i} : Kept r (s.count p i) := by
  unfold State.count
  exact h.put

theorem Kept.norWrite (h : Kept r s) {w o} : Kept r (s.norWrite w o) := by
  unfold State.norWrite
  exact .frame h

theorem Kept.writeFault (h : Kept r s) {r' o} : Kept r (s.writeFault r' o) := by
  unfold State.writeFault
  exact h.setV.norWrite

theorem Kept.standbyLost (h : Kept r s) : Kept r (s.standbyLost) := by
  unfold State.standbyLost
  exact .ite h.draw.count.writeFault h

theorem Kept.formNow (h : Kept r s) : Kept r (s.formNow) := by
  unfold State.formNow
  split
  · split
    · exact .writeFault (.frame h)
    · exact h
  · exact h

theorem KeptOut.pgStbyFall (h : Kept r s) {t' flushed} : KeptOut r (execPgStbyFall t' flushed s) := by
  unfold execPgStbyFall
  exact .next (.ite h.tick (.setV (.powerOff (.frame h.tick.formNow.standbyLost.finishFaults))))

theorem Kept.tileBooted (h : Kept r s) {t'} : Kept r (s.tileBooted t') := by
  unfold State.tileBooted
  extract_lets s1 p rec_
  have h1 : Kept r s1 := h.when fun _ h => h.romRuns.lockAll
  clear_value s1 rec_
  dsimp only
  cases rec_
  · exact h1.setV.put.put.put.put.raise.logAdd
  · exact h1.draw.draw.draw.setV.put.put.put.put.raise.logAdd

theorem Kept.logGap (h : Kept r s) : Kept r (s.logGap) := by
  unfold State.logGap
  exact .ite h (.count (.frame h.logAdd))

theorem Kept.drawRandom (h : Kept r s) : Kept r (s.drawRandom).2 := by
  unfold State.drawRandom
  exact .frame h

theorem Kept.newIncarnation (h : Kept r s) : Kept r (s.newIncarnation) := by
  unfold State.newIncarnation
  exact h.drawRandom.setV

theorem Kept.modBus (h : Kept r s) {p f} : Kept r (s.modBus p f) := by
  unfold State.modBus
  exact .frame h

theorem Kept.busUp (h : Kept r s) {t'} : Kept r (s.busUp t') := by
  unfold State.busUp
  exact .each (.each h (fun _ _ h1 => h1.setV.setV)) (fun _ _ h1 => h1.modBus)

theorem Kept.putRefclk (h : Kept r s) {ok} : Kept r (s.putRefclk ok) := by
  unfold State.putRefclk
  exact h.put

theorem Kept.loopBack (h : Kept r s) {x} : Kept r (s.loopBack x) := by
  unfold State.loopBack
  exact h.setV.setV

theorem Kept.syncCoeffs (h : Kept r s) : Kept r (s.syncCoeffs) := by
  unfold State.syncCoeffs
  exact .each h (fun _ _ h1 => by split; exacts [h1.put, h1])

theorem Kept.disarm (h : Kept r s) {x i} : Kept r (s.disarm x i) := by
  unfold State.disarm
  exact h.setT

theorem Kept.watchVotes (h : Kept r s) {o} : Kept r (s.watchVotes o) := by
  unfold State.watchVotes
  exact .each h (fun _ _ h1 => .ite h1.armOnce (.ite h1.disarm h1))

theorem Kept.revote (h : Kept r s) {o} : Kept r (s.revote o) := by
  unfold State.revote
  exact .watchVotes (.ite h.setV h.setV)

theorem Kept.revoteAll (h : Kept r s) : Kept r (s.revoteAll) := by
  unfold State.revoteAll
  exact .each h (fun _ _ h1 => h1.revote)

theorem Kept.syncMembers (h : Kept r s) : Kept r (s.syncMembers) := by
  unfold State.syncMembers
  exact h.put.revoteAll

theorem Kept.foreLeads (h : Kept r s) : Kept r (s.foreLeads) := by
  unfold State.foreLeads
  extract_lets s1 s2 s3
  have h1 : Kept r s1 := h.setV.setV.put.put
  have h2 : Kept r s2 := .each h1 (fun _ _ h2 => h2.put)
  have h3 : Kept r s3 := h2.put.put
  exact h3.syncMembers.syncCoeffs.setV.loopBack.putRefclk.busUp

theorem Kept.trainStacks (h : Kept r s) : Kept r (s.trainStacks) := by
  unfold State.trainStacks
  exact .ite h (.each h.setV (fun _ _ h1 => h1.draw.setV))

theorem Kept.revert (h : Kept r s) : Kept r (s.revert) := by
  unfold State.revert
  exact .ite h h.raise.norWrite.setV.raise

theorem Kept.commitUp (h : Kept r s) : Kept r (s.commitUp) := by
  unfold State.commitUp
  exact .frame h

theorem Kept.stitchSend (h : Kept r s) {src dst ch kind fields} : Kept r (s.stitchSend src dst ch kind fields) := by
  unfold State.stitchSend
  exact .ite h.send h.countV

theorem Kept.followerAck (h : Kept r s) {t' csn} : Kept r (s.followerAck t' csn) := by
  unfold State.followerAck
  exact h.put.setV.stitchSend

theorem Kept.journalWrite (h : Kept r s) {e} : Kept r (s.journalWrite e) := by
  unfold State.journalWrite
  split
  · exact h
  · exact .commitUp (.each (.put (.frame h)) (fun _ _ h1 => .ite h1.stitchSend.followerAck h1.stitchSend))

theorem Kept.journalAdd (h : Kept r s) {kind o refCsn body} : Kept r (s.journalAdd kind o refCsn body) := by
  unfold State.journalAdd
  exact h.journalWrite

theorem Kept.endApply (h : Kept r s) {o st} : Kept r (s.endApply o st) := by
  unfold State.endApply
  split
  · exact .journalAdd (.frame h)
  · exact h

theorem Kept.unhold (h : Kept r s) {o} : Kept r (s.unhold o) := by
  unfold State.unhold
  exact .frame h

theorem Kept.touch (h : Kept r s) {x csn} : Kept r (s.touch x csn) := by
  unfold State.touch
  exact .frame h

theorem Kept.noteRecent (h : Kept r s) {o phase status csn} : Kept r (s.noteRecent o phase status csn) := by
  unfold State.noteRecent
  exact h.modSession

theorem Kept.ended (h : Kept r s) {x} : Kept r (s.ended x) := by
  unfold State.ended
  exact .raiseAt (by split; exacts [.frame (.modSession (.frame h.noteRecent.touch)), .modSession (.frame h.noteRecent.touch)])

theorem Kept.complete (h : Kept r s) {o e st data detail} : Kept r (s.complete o e st data detail) := by
  unfold State.complete
  exact .ite h.unhold.endApply.journalAdd.ended (.frame h.unhold.endApply.journalAdd)

theorem Kept.fill (h : Kept r s) {o st results csn final} : Kept r (s.fill o st results csn final) := by
  unfold State.fill
  exact .frame h

theorem Kept.modQp (h : Kept r s) {ep q f} : Kept r (s.modQp ep q f) := by
  unfold State.modQp
  exact h.modEndpoint

theorem Kept.queueError (h : Kept r s) {ep q code} : Kept r (s.queueError ep q code) := by
  unfold State.queueError
  exact h.modQp.raise

theorem Kept.resetDone (h : Kept r s) {ep} : Kept r (s.resetDone ep) := by
  unfold State.resetDone
  exact .ite h.modEndpoint h

theorem Kept.completeRing (h : Kept r s) {ep o r' quiet} : Kept r (s.completeRing ep o r' quiet) := by
  unfold State.completeRing
  exact .resetDone (.modQp (.signal (.send (.when h (fun _ h1 => h1.send)))))

theorem Kept.windowReply (h : Kept r s) {k' bytes} : Kept r (s.windowReply k' bytes) := by
  unfold State.windowReply
  exact .frame h

theorem Kept.opReply (h : Kept r s) {opId status csn} : Kept r (s.opReply opId status csn) := by
  unfold State.opReply
  exact .frame h

theorem Kept.modLink (h : Kept r s) {p f} : Kept r (s.modLink p f) := by
  unfold State.modLink
  exact .frame h

theorem Kept.emit (h : Kept r s) {p f} : Kept r (s.emit p f) := by
  unfold State.emit
  exact h.modLink.send

theorem Kept.pumpN (h : Kept r s) {p n} : Kept r (s.pumpN p n) := by
  induction n generalizing s with
  | zero => exact h
  | succ n ih =>
    unfold State.pumpN
    dsimp only
    split
    · exact h
    · exact ih h.modLink.emit

theorem Kept.pump (h : Kept r s) {p} : Kept r (s.pump p) := by
  unfold State.pump
  exact .ite h.pumpN h

theorem Kept.sendOn (h : Kept r s) {p ch kind num b} : Kept r (s.sendOn p ch kind num b) := by
  unfold State.sendOn
  exact h.modLink.pump

theorem Kept.ratPass (h : Kept r s) {p vc kind key m b} : Kept r (s.ratPass p vc kind key m b) := by
  unfold State.ratPass
  exact h.send.sendOn

theorem Kept.ratOut (h : Kept r s) {p vc kind key m b} : Kept r (s.ratOut p vc kind key m b) := by
  unfold State.ratOut
  exact .ratPass (.when h (fun _ h1 => h1.modLink))

theorem Kept.ratSend (h : Kept r s) {p vc kind route src dst serial hops body} : Kept r (s.ratSend p vc kind route src dst serial hops body) := by
  unfold State.ratSend
  exact h.ratOut

theorem Kept.sendRemoteReply (h : Kept r s) {addr serial status packet} : Kept r (s.sendRemoteReply addr serial status packet) := by
  unfold State.sendRemoteReply
  split
  · exact h.ratSend
  · exact h

theorem Kept.remoteDone (h : Kept r s) {serial queue tag quiet packet} : Kept r (s.remoteDone serial queue tag quiet packet) := by
  unfold State.remoteDone
  dsimp only
  split
  · exact .ite (.frame h) (.sendRemoteReply (.frame h))
  · exact h

theorem Kept.ethSent (h : Kept r s) {p n len} : Kept r (s.ethSent p n len) := by
  unfold State.ethSent
  exact .frame h.send

theorem Kept.report (h : Kept r s) {o r'} : Kept r (s.report o r') := by
  unfold State.report
  extract_lets _ _ _ s1
  have h1 : Kept r s1 := .when h (fun _ h1 => h1.count)
  split
  · exact .ite h1.queueError h1.completeRing
  · exact .ite h1.windowReply h1.send
  · exact h1.send
  · exact h1
  · exact .ite h1 (.frame h1)
  · exact .ite h1.opReply h1.remoteDone
  · exact .ite h1 h1.ethSent.send

theorem Kept.flushN (h : Kept r s) {n} : Kept r (s.flushN n) := by
  induction n generalizing s with
  | zero => exact h
  | succ n ih =>
    unfold State.flushN
    split
    · exact h
    · exact ih (.report (.frame h))

theorem Kept.flush (h : Kept r s) : Kept r (s.flush) := by
  unfold State.flush
  exact h.flushN

theorem Kept.answer (h : Kept r s) {o st results csn final} : Kept r (s.answer o st results csn final) := by
  unfold State.answer
  exact h.fill.noteRecent.flush

theorem Kept.finish (h : Kept r s) {o e st data results detail} : Kept r (s.finish o e st data results detail) := by
  unfold State.finish
  exact .ite h.complete h.unhold.endApply.answer

theorem Kept.powerReached (h : Kept r s) {new cause} : Kept r (s.powerReached new cause) := by
  unfold State.powerReached
  exact .when (.ite (.raise (.frame h.put)) (.each (.frame h.put) (fun _ _ h1 => h1.finish))) (fun _ h1 => h1.setV)

theorem Kept.modEngine (h : Kept r s) {e f} : Kept r (s.modEngine e f) := by
  unfold State.modEngine
  exact .frame h

theorem Kept.showProgram (h : Kept r s) {e b} : Kept r (s.showProgram e b) := by
  unfold State.showProgram
  exact h.put.put.put

theorem Kept.placeProgram (h : Kept r s) {e b} : Kept r (s.placeProgram e b) := by
  unfold State.placeProgram
  exact h.modEngine.setV.showProgram

theorem Kept.setEngine (h : Kept r s) {e new cause} : Kept r (s.setEngine e new cause) := by
  unfold State.setEngine
  exact .ite h h.put.raise

theorem Kept.modSrc (h : Kept r s) {n t' f} : Kept r (s.modSrc n t' f) := by
  unfold State.modSrc
  exact .frame h

theorem Kept.assign (h : Kept r s) {n t'} : Kept r (s.assign n t') := by
  unfold State.assign
  dsimp only
  split
  · exact h
  · split
    · exact h.modSrc
    · exact h

theorem Kept.assignAll (h : Kept r s) {t'} : Kept r (s.assignAll t') := by
  unfold State.assignAll
  exact .each h (fun _ _ h1 => h1.assign)

theorem Kept.setRoutes (h : Kept r s) {e b} : Kept r (s.setRoutes e b) := by
  unfold State.setRoutes
  exact .each h (fun _ _ h1 => h1.put)

theorem Kept.startEngine (h : Kept r s) {e cause} : Kept r (s.startEngine e cause) := by
  unfold State.startEngine
  exact h.modEngine.disarm.setRoutes.setEngine.assignAll

theorem Kept.restorePrograms (h : Kept r s) {t'} : Kept r (s.restorePrograms t') := by
  unfold State.restorePrograms
  exact .each h (fun _ _ h1 => .ite h1.raise (.ite h1.placeProgram.modEngine.put.setEngine.startEngine h1.placeProgram.modEngine.put.setEngine))

theorem Kept.latchBars (h : Kept r s) : Kept r (s.latchBars) := by
  unfold State.latchBars
  exact .ite h.setV.raise h

theorem Kept.placeAutoStart (h : Kept r s) : Kept r (s.placeAutoStart) := by
  unfold State.placeAutoStart
  exact .ite h.setV.latchBars h

theorem Kept.modDrv (h : Kept r s) {c f} : Kept r (s.modDrv c f) := by
  unfold State.modDrv
  exact .frame h

theorem Kept.roundDiv (h : Kept r s) {num den} : Kept r (s.roundDiv num den).2 := by
  unfold State.roundDiv
  exact .ite_snd h.draw (.ite_snd h h.draw)

theorem Kept.whole (h : Kept r s) {q} : Kept r (s.whole q).2 := by
  unfold State.whole
  exact h.roundDiv

theorem Kept.putFlags (h : Kept r s) {c crossing} : Kept r (s.putFlags c crossing) := by
  unfold State.putFlags
  exact h.put

theorem Kept.note (h : Kept r s) {kind o value} : Kept r (s.note kind o value) := by
  unfold State.note
  exact .ite (.frame h) h

theorem Kept.putVolt (h : Kept r s) {c v} : Kept r (s.putVolt c v) := by
  unfold State.putVolt
  extract_lets _ s1 s2
  have h1 : Kept r s1 := h.note.put.setV
  have h2 : Kept r s2 := .ite h1.modDrv h1
  exact .ite h2.modDrv h2

theorem Kept.applyVolt (h : Kept r s) {c} : Kept r (s.applyVolt c) := by
  unfold State.applyVolt
  exact .ite h.putVolt (.ite h.putVolt (.ite (.ite h h.putVolt) h.putVolt))

theorem Kept.enterDrive (h : Kept r s) {c st attempt} : Kept r (s.enterDrive c st attempt) := by
  unfold State.enterDrive
  exact h.put.modDrv.applyVolt.putFlags

theorem Kept.retarget (h : Kept r s) {c} : Kept r (s.retarget c) := by
  unfold State.retarget
  exact .putFlags (.ite h.whole.put.enterDrive (.ite h.whole.put.enterDrive h.whole.put))

theorem Kept.retargetAll (h : Kept r s) : Kept r (s.retargetAll) := by
  unfold State.retargetAll
  exact .ite (.each h (fun _ _ h1 => h1.retarget)) h

theorem Kept.setVote (h : Kept r s) {o t' v} : Kept r (s.setVote o t' v) := by
  unfold State.setVote
  exact .revote (.ite h.setV h.setV)

theorem Kept.drive (h : Kept r s) {o v} : Kept r (s.drive o v) := by
  unfold State.drive
  exact .revote (.foldl h (fun _ _ h1 => .ite h1.setVote h1))

theorem Kept.commandValve (h : Kept r s) {v x} : Kept r (s.commandValve v x) := by
  unfold State.commandValve
  exact h.note.put.setV

theorem Kept.syncValve (h : Kept r s) {v} : Kept r (s.syncValve v) := by
  unfold State.syncValve
  split
  · exact h
  · split
    · exact h.drive.put.put.put
    · extract_lets s1 s2
      have h1 : Kept r s1 := h.drive
      have h2 : Kept r s2 := h1.put
      split
      · exact h1.commandValve.put
      · exact .ite h1.commandValve (.ite h2.commandValve (.ite h2 h2.commandValve))

theorem Kept.syncValves (h : Kept r s) : Kept r (s.syncValves) := by
  unfold State.syncValves
  exact .each h (fun _ _ h1 => h1.syncValve)

theorem Kept.coolStart (h : Kept r s) : Kept r (s.coolStart) := by
  unfold State.coolStart
  extract_lets s1 s2 _
  have h1 : Kept r s1 := .each h (fun _ _ h1 => h1.put.modDrv)
  have h2 : Kept r s2 := .each h1 (fun _ _ h2 => h2.put.put)
  exact .ite h2.setV.arm.syncValves.retargetAll (.each h2 (fun _ _ h3 => h3.put.putVolt))

theorem Kept.modZone (h : Kept r s) {z f} : Kept r (s.modZone z f) := by
  unfold State.modZone
  exact .frame h

theorem Kept.wokenZone (h : Kept r s) {z at_} : Kept r (s.wokenZone z at_) := by
  unfold State.wokenZone
  exact h.put.modZone.setT.setV

theorem Kept.foreUp (h : Kept r s) : Kept r (s.foreUp) := by
  unfold State.foreUp
  extract_lets _ _ _ s1 s2 s3 s4 s5 s6 s7
  have h1 : Kept r s1 := h.trainStacks.foreLeads.newIncarnation.logGap.tileBooted
  have h2 : Kept r s2 := h1.revert
  have h3 : Kept r s3 := h2.setV.setV.arm.arm
  have h4 : Kept r s4 := h3.powerReached.setV
  have h5 : Kept r s5 := .ite h4.put.raise h4.restorePrograms
  have h6 : Kept r s6 := h5.coolStart.placeAutoStart
  have h7 : Kept r s7 := .ite h6.wokenZone h6
  exact h7.setV

theorem KeptOut.foreReady (h : Kept r s) {t'} : KeptOut r (execForeReady t' s) := by
  unfold execForeReady
  exact .next (.ite h.tick.foreUp h.tick)

theorem Kept.crcError (h : Kept r s) {port} : Kept r (s.crcError port) := by
  unfold State.crcError
  exact .ite h.count.setV.raise h.count

theorem Kept.muteCompletion (h : Kept r s) {ep q slot} : Kept r (s.muteCompletion ep q slot) := by
  unfold State.muteCompletion
  exact .flush (.frame h)

theorem Kept.crcDiscard (h : Kept r s) {b queue slot} : Kept r (s.crcDiscard b queue slot) := by
  unfold State.crcDiscard
  dsimp only
  split
  · exact .muteCompletion (by split; exacts [h.crcError, h])
  · split
    · exact h.crcError
    · exact h

theorem Kept.spend (h : Kept r s) {p} : Kept r (s.spend p) := by
  unfold State.spend
  exact .ite (.frame h) h

theorem Kept.feedSession (h : Kept r s) {b} : Kept r (s.feedSession b) := by
  unfold State.feedSession
  split
  · exact h.arm
  · exact h

theorem Kept.attach (h : Kept r s) {a o t} (e : s.attach a o = some t) : Kept r t := by
  unfold State.attach at e
  dsimp only at e
  split at e
  · cases e
  · split at e
    · obtain rfl := Option.some.inj e
      exact .flush (.frame h)
    · split at e
      · obtain rfl := Option.some.inj e
        exact .flush (.frame h)
      · split at e
        · obtain rfl := Option.some.inj e
          exact .flush (.frame h)
        · cases e

theorem Kept.enrol (h : Kept r s) {a o opcode reply} : Kept r (s.enrol a o opcode reply) := by
  unfold State.enrol
  exact .ite (.frame h) (.modSession (.countV (.frame h)))

theorem Kept.noteSafety (h : Kept r s) {b} : Kept r (s.noteSafety b) := by
  unfold State.noteSafety
  exact .frame h

theorem Kept.refuse (h : Kept r s) {a body st} : Kept r (s.refuse a body st) := by
  unfold State.refuse
  exact h.enrol.flush

theorem Kept.noteSafetyRate (h : Kept r s) {a st} : Kept r (s.noteSafetyRate a st) := by
  unfold State.noteSafetyRate
  exact .ite (.raise (.frame h)) h

theorem Kept.take (h : Kept r s) {a body eff} : Kept r (s.take a body eff).1 := by
  unfold State.take
  dsimp only
  split
  · exact h.tick
  · split
    · exact h.tick.spend.crcDiscard
    · split
      · split
        · rename_i e
          exact h.tick.feedSession.attach e
        · exact .when h.tick.feedSession.enrol fun _ h => h.noteSafety
      · exact h.tick.feedSession.noteSafetyRate.refuse

theorem Kept.enqueue (h : Kept r s) {a body cls} : Kept r (s.enqueue a body cls) := by
  unfold State.enqueue
  exact .frame h

theorem Kept.hold (h : Kept r s) {o objs} : Kept r (s.hold o objs) := by
  unfold State.hold
  exact .frame h

theorem Kept.awaitNeeds (h : Kept r s) {a body o} : Kept r (s.awaitNeeds a body o) := by
  unfold State.awaitNeeds
  exact .frame h.hold

theorem Kept.noteDispatch (h : Kept r s) {o} : Kept r (s.noteDispatch o) := by
  unfold State.noteDispatch
  split
  · exact .frame h
  · exact .frame h
  · exact h

theorem Kept.journalCommand (h : Kept r s) {o b} : Kept r (s.journalCommand o b) := by
  unfold State.journalCommand
  exact .frame h.journalWrite

theorem Kept.entered (h : Kept r s) {o b} : Kept r (s.entered o b) := by
  unfold State.entered
  exact .ite h.journalCommand h

theorem Kept.endDue (h : Kept r s) : Kept r (s.endDue) := by
  unfold State.endDue
  exact .ite h (.each (.frame h) (fun _ _ h1 => h1.ended))

theorem Kept.recommit (h : Kept r s) : Kept r (s.recommit) := by
  unfold State.recommit
  exact h.commitUp.endDue.flush

theorem Kept.outcome (h : Kept r s) {o r' csn} : Kept r (s.outcome o r' csn) := by
  unfold State.outcome
  split
  · exact h.answer.recommit
  · exact .recommit (.answer (.modSession (.frame h)))
  · exact .recommit (.ite h.noteRecent h)

theorem Kept.journalSafety (h : Kept r s) {object action} : Kept r (s.journalSafety object action) := by
  unfold State.journalSafety
  exact h.journalAdd

theorem Kept.touched (h : Kept r s) {u o csn} : Kept r (s.touched u o csn) := by
  unfold State.touched
  exact .foldl h.touch (fun _ _ h1 => h1.touch)

theorem Kept.conclude (h : Kept r s) {u o r'} : Kept r (s.conclude u o r') := by
  unfold State.conclude
  split
  · exact h.outcome
  · exact .ite (.outcome (.touched (.journalCommand (.ite h h.journalSafety)))) h.touched.outcome

theorem Kept.run (h : Kept r s) {a body o eff} (k : ∀ s, Kept r s → Kept r (eff s).1) : Kept r (s.run a body o eff) := by
  have effect : Kept r (eff ((s.noteDispatch o).entered o body)).1 := k _ h.noteDispatch.entered
  unfold State.run
  exact .ite h.answer <| .ite h.answer <| .ite h.answer <| .ite h.answer <| .ite h.answer <| .ite h.awaitNeeds <|
    .ite h.noteDispatch.outcome <| .ite h.noteDispatch.entered.frame effect.conclude

theorem Kept.request (h : Kept r s) {a body eff} (k : ∀ s, Kept r s → Kept r (eff s).1) : Kept r (s.request a body eff) := by
  have taken : Kept r (s.take a body eff).1 := h.take
  unfold State.request
  split
  · exact taken.of_fst ‹_›
  · have admitted := taken.of_fst ‹_›
    exact .ite admitted.enqueue (admitted.run k)

theorem Kept.writeAt (h : Kept r s) {a p code v eff} (k : ∀ x0 s, Kept r s → Kept r (eff x0 s).1) : Kept r (s.writeAt a p code v eff) := by
  unfold State.writeAt
  exact .request h (fun _ h1 => by split; exacts [k _ _ h1, h1])

theorem Kept.write (h : Kept r s) {a p v eff} (k : ∀ x0 s, Kept r s → Kept r (eff x0 s).1) : Kept r (s.write a p v eff) := by
  unfold State.write
  exact .writeAt h (fun _ _ h1 => k _ _ h1)

theorem Kept.takePower (h : Kept r s) {o v goal} : Kept r (s.takePower o v goal).1 := by
  unfold State.takePower
  exact .setV (.frame h)

theorem Kept.clearGrants (h : Kept r s) : Kept r s.clearGrants := .frame (h.regs .grant fun _ => rowWf_empty _)

theorem Kept.catchUp (h : Kept r s) {src dst} : Kept r (s.catchUp src dst) := by
  unfold State.catchUp
  exact .setV (.put (.each h (fun _ _ h1 => h1.stitchSend)))

theorem Kept.putOps (h : Kept r s) {l} : Kept r (s.putOps l) := by
  unfold State.putOps
  exact .put (.frame h)

theorem Kept.holdResult (h : Kept r s) {r'} : Kept r (s.holdResult r') := by
  unfold State.holdResult
  exact .frame h

theorem Kept.opComplete (h : Kept r s) {x st m detail} : Kept r (s.opComplete x st m detail) := by
  unfold State.opComplete
  exact .each h (fun _ _ h1 => h1.holdResult.finish)

theorem Kept.opsInterrupted (h : Kept r s) {detail} : Kept r (s.opsInterrupted detail) := by
  unfold State.opsInterrupted
  exact .each (.each (.putOps (.frame h)) (fun _ _ h1 => h1.opComplete)) (fun _ _ h1 => h1.opComplete)

theorem Kept.leadEnds (h : Kept r s) {lost cause} : Kept r (s.leadEnds lost cause) := by
  unfold State.leadEnds
  exact h.opsInterrupted

theorem Kept.journalMembers (h : Kept r s) {cause} : Kept r (s.journalMembers cause) := by
  unfold State.journalMembers
  exact h.journalAdd

theorem Kept.syncRoles (h : Kept r s) : Kept r (s.syncRoles) := by
  unfold State.syncRoles
  exact .each h (fun _ _ h1 => h1.put)

theorem Kept.lead (h : Kept r s) {new} : Kept r (s.lead new) := by
  unfold State.lead
  extract_lets s1 _ s2 _ s3
  have h1 : Kept r s1 := h.put.put.setV.setV
  have h2 : Kept r s2 := h1.of_core rfl rfl rfl rfl rfl
  have h3 : Kept r s3 := (h2.regs .age fun _ => rowWf_empty _).of_core rfl rfl rfl rfl rfl
  exact h3.syncRoles

theorem Kept.failoverEvent (h : Kept r s) {lost cause old new stamp again cut} : Kept r (s.failoverEvent lost cause old new stamp again cut) := by
  unfold State.failoverEvent
  exact h.count.raiseAt

theorem Kept.handover (h : Kept r s) {dest} : Kept r (s.handover dest) := by
  unfold State.handover
  exact h.catchUp.setV.lead.journalMembers.leadEnds.failoverEvent.recommit

theorem Kept.chansStop (h : Kept r s) {t'} : Kept r (s.chansStop t') := by
  unfold State.chansStop
  exact .each h (fun _ _ h1 => h1.put.put)

theorem Kept.countQueued (h : Kept r s) {p} : Kept r (s.countQueued p) := by
  unfold State.countQueued
  exact h.put

theorem Kept.setPort (h : Kept r s) {p new} : Kept r (s.setPort p new) := by
  unfold State.setPort
  extract_lets _ _ s1 s2
  have h1 : Kept r s1 := h.put
  have h2 : Kept r s2 := .ite h1.arm h1.disarm
  exact .ite h2.raise h2

theorem Kept.setSwitch (h : Kept r s) {p open_ cause} : Kept r (s.setSwitch p open_ cause) := by
  unfold State.setSwitch
  exact .ite h h.put.raise

theorem Kept.busAnswer (h : Kept r s) {o csn st results detail} : Kept r (s.busAnswer o csn st results detail) := by
  unfold State.busAnswer
  exact .ite h.complete h.unhold.endApply.answer

theorem Kept.busDown (h : Kept r s) {t'} : Kept r (s.busDown t') := by
  unfold State.busDown
  extract_lets _ _ s1
  have h1 : Kept r s1 := .each h (fun _ _ h1 => .each (.each (.disarm (.countQueued (.setPort (.setSwitch (.frame h1))))) (fun _ _ h2 => by split; exacts [.frame h2, h2.busAnswer, h2])) (fun _ _ h2 => h2.busAnswer))
  exact .frame h1

theorem Kept.countEth (h : Kept r s) : Kept r (s.countEth) := by
  unfold State.countEth
  exact .foldl h (fun _ _ h1 => h1.put)

theorem Kept.dropBindings (h : Kept r s) {t'} : Kept r (s.dropBindings t') := by
  unfold State.dropBindings
  exact .frame (.countEth (.frame (.ite h (.frame h))))

theorem Kept.gapCapture (h : Kept r s) : Kept r (s.gapCapture) := by
  unfold State.gapCapture
  exact .ite h (.frame h)

theorem Kept.windowed (h : Kept r s) {f} (k : ∀ s, Kept r s → Kept r (f s)) : Kept r (s.windowed f) := by
  unfold State.windowed
  exact .ite (.gapCapture (k _ h)) (.raise (.gapCapture (k _ h)))

theorem Kept.dma (h : Kept r s) {x} : Kept r (s.dma x) := by
  unfold State.dma
  exact .when h (fun _ h1 => h1.send)

theorem Kept.recorderOff (h : Kept r s) : Kept r (s.recorderOff) := by
  unfold State.recorderOff
  extract_lets _ _ s1
  have h1 : Kept r s1 := .raise (.disarm (.put (.put (.setV (.disarm (.put (.frame h)))))))
  exact .ite h (.each h1 (fun _ _ h2 => h2.dma.complete))

theorem Kept.stacksDown (h : Kept r s) {mask cause} : Kept r (s.stacksDown mask cause) := by
  unfold State.stacksDown
  extract_lets _
  split
  · exact h
  · exact .windowed h (fun _ h1 => .ite (.recorderOff (.each (.frame h1.setV) (fun _ _ h2 => h2.raise))) (.each (.frame h1.setV) (fun _ _ h2 => h2.raise)))

theorem Kept.trialsLost (h : Kept r s) {t'} : Kept r (s.trialsLost t') := by
  unfold State.trialsLost
  exact .each h (fun _ _ h1 => by dsimp only; split; exacts [.complete (.frame h1.draw), .frame h1.draw])

theorem Kept.setPoint (h : Kept r s) {p st} : Kept r (s.setPoint p st) := by
  unfold State.setPoint
  exact h.put.put

theorem Kept.pointIdle (h : Kept r s) {p} : Kept r (s.pointIdle p) := by
  unfold State.pointIdle
  exact .when (.setPoint (.frame (.disarm (.disarm (.when h (fun _ h1 => h1.send)))))) (fun _ h1 => h1.revoteAll)

theorem Kept.dropPoints (h : Kept r s) : Kept r (s.dropPoints) := by
  unfold State.dropPoints
  exact .each h (fun _ _ h1 => h1.pointIdle)

theorem Kept.tilesDown (h : Kept r s) : Kept r (s.tilesDown) := by
  unfold State.tilesDown
  extract_lets _ s1 s2 s3 s4 s5 s6
  have h1 : Kept r s1 := .when h (fun _ h1 => h1.handover)
  have h2 : Kept r s2 := .each h1 (fun _ _ h2 => .ite h2 h2.setV.put.put.setV.disarm.disarm.dropBindings.busDown.chansStop)
  have h3 : Kept r s3 := h2.put.put.stacksDown
  have h4 : Kept r s4 := h3.put
  have h5 : Kept r s5 := .foldl h4.dropPoints (fun _ _ h5 => h5.trialsLost)
  have h6 : Kept r s6 := h5.syncMembers
  exact .recommit (.when h6 (fun _ h7 => h7.journalMembers))

theorem Kept.toStandby (h : Kept r s) {cause} : Kept r (s.toStandby cause) := by
  unfold State.toStandby
  extract_lets s1 s2 s3 s4
  have h1 : Kept r s1 := .each h (fun _ _ h1 => h1.drive)
  have h2 : Kept r s2 := h1.drive.drive
  have h3 : Kept r s3 := h2.tilesDown.clearGrants.setV
  have h4 : Kept r s4 := h3.recorderOff.powerReached
  exact .ite h4.arm h4

theorem Kept.checkStandby (h : Kept r s) : Kept r (s.checkStandby) := by
  unfold State.checkStandby
  exact .ite h.toStandby h

theorem Kept.resolveStart (h : Kept r s) {i st rail} : Kept r (s.resolveStart i st rail) := by
  unfold State.resolveStart
  exact .each (.frame h) (fun _ _ h1 => h1.finish)

theorem Kept.cancelPending (h : Kept r s) {i} : Kept r (s.cancelPending i) := by
  unfold State.cancelPending
  exact .ite h.setV.resolveStart h

theorem Kept.putFurl (h : Kept r s) {i v} : Kept r (s.putFurl i v) := by
  unfold State.putFurl
  exact .ite h.put h.put

theorem Kept.raiseSafety (h : Kept r s) {e src payload} : Kept r (s.raiseSafety e src payload) := by
  unfold State.raiseSafety
  exact h.raiseAt

theorem Kept.furlRecord (h : Kept r s) {i cut} : Kept r (s.furlRecord i cut) := by
  unfold State.furlRecord
  exact h.logAdd

theorem Kept.armSeq (h : Kept r s) {x i d} : Kept r (s.armSeq x i d) := by
  unfold State.armSeq
  exact h.setT

theorem Kept.releaseFurl (h : Kept r s) {a} : Kept r (s.releaseFurl a) := by
  unfold State.releaseFurl
  exact .ite h.drive.put h

theorem Kept.assertFurl (h : Kept r s) {a} : Kept r (s.assertFurl a) := by
  unfold State.assertFurl
  exact h.drive.setV

theorem Kept.partnerDeparted (h : Kept r s) {kind cause o action safety} : Kept r (s.partnerDeparted kind cause o action safety) := by
  unfold State.partnerDeparted
  exact h.raiseAt

theorem Kept.lockDone (h : Kept r s) {c st} : Kept r (s.lockDone c st) := by
  unfold State.lockDone
  exact .complete (.frame h)

theorem Kept.modMember (h : Kept r s) {a f} : Kept r (s.modMember a f) := by
  unfold State.modMember
  exact .frame h

theorem Kept.syncGroup (h : Kept r s) {g} : Kept r (s.syncGroup g) := by
  unfold State.syncGroup
  exact h.put

theorem Kept.leaveGroup (h : Kept r s) {a} : Kept r (s.leaveGroup a) := by
  unfold State.leaveGroup
  exact .ite h.put.put.put.modMember.syncGroup h.put.put.put.modMember

theorem Kept.lockWithdraw (h : Kept r s) {c st} : Kept r (s.lockWithdraw c st) := by
  unfold State.lockWithdraw
  exact .lockDone (.each h (fun _ _ h1 => h1.leaveGroup))

theorem Kept.lockLost (h : Kept r s) {a} : Kept r (s.lockLost a) := by
  unfold State.lockLost
  exact .each h (fun _ _ h1 => h1.lockWithdraw)

theorem Kept.reportReef (h : Kept r s) {a} : Kept r (s.reportReef a) := by
  unfold State.reportReef
  exact .ite (.ite h.setV.setV.setV h.setV.setV.setV.raiseAt) h

theorem Kept.gauge (h : Kept r s) {m v} : Kept r (s.gauge m v) := by
  unfold State.gauge
  exact .ite h (.frame h)

theorem Kept.syncReef (h : Kept r s) {a} : Kept r (s.syncReef a) := by
  unfold State.syncReef
  exact .ite h h.put.gauge.note.setV.reportReef

theorem Kept.applyReef (h : Kept r s) {a} : Kept r (s.applyReef a) := by
  unfold State.applyReef
  exact h.drive.syncReef

theorem Kept.clearReef (h : Kept r s) {a bit} : Kept r (s.clearReef a bit) := by
  unfold State.clearReef
  exact .ite h.put.setV.applyReef h

theorem Kept.setReef (h : Kept r s) {a bit level} : Kept r (s.setReef a bit level) := by
  unfold State.setReef
  exact .applyReef (.setV (.ite h (.when h.put.gauge (fun _ h1 => h1.setV))))

theorem Kept.stepReef (h : Kept r s) {a bit level} : Kept r (s.stepReef a bit level) := by
  unfold State.stepReef
  exact .ite h.clearReef h.setReef

theorem Kept.refreshAlert (h : Kept r s) {a} : Kept r (s.refreshAlert a) := by
  unfold State.refreshAlert
  exact h.stepReef

theorem Kept.accelGone (h : Kept r s) {a} : Kept r (s.accelGone a) := by
  unfold State.accelGone
  exact .lockLost (.refreshAlert (.setV (.frame h)))

theorem Kept.domainsOff (h : Kept r s) {a} : Kept r (s.domainsOff a) := by
  unfold State.domainsOff
  exact .setV (.clearReef (.ite h.put.disarm.disarm.accelGone.partnerDeparted h))

theorem Kept.closeIncident (h : Kept r s) : Kept r (s.closeIncident) := by
  unfold State.closeIncident
  exact .ite h.setV h

theorem Kept.involve (h : Kept r s) {i} : Kept r (s.involve i) := by
  unfold State.involve
  exact .ite h.setV h

theorem Kept.setScope (h : Kept r s) {i new cause rail} : Kept r (s.setScope i new cause rail) := by
  unfold State.setScope
  extract_lets _ s1 s2 s3 s4 s5 s6 s7 s8
  have h1 : Kept r s1 := .ite h.put h.put
  have h2 : Kept r s2 := h1.raise
  have h3 : Kept r s3 := h2.setV.setV
  have h4 : Kept r s4 := h2.setV.armSeq
  have h5 : Kept r s5 := by dsimp only [s5]; split; exacts [h2.armSeq, .ite h2.setV h2.put, .ite h2.releaseFurl h2, .ite h3.assertFurl h3, .ite h4.domainsOff h4, h2]
  have h6 : Kept r s6 := .ite h5.disarm h5
  have h7 : Kept r s7 := .ite h6.disarm h6
  have h8 : Kept r s8 := .ite h7.setV h7
  exact .ite h8.setV.closeIncident (.ite h8.involve h8)

theorem Kept.rehold (h : Kept r s) : Kept r (s.rehold) := by
  unfold State.rehold
  exact .frame h

theorem Kept.modRuns (h : Kept r s) {f} : Kept r (s.modRuns f) := by
  unfold State.modRuns
  exact .frame h

theorem Kept.leaveRun (h : Kept r s) {i} : Kept r (s.leaveRun i) := by
  unfold State.leaveRun
  exact h.modRuns.rehold

theorem Kept.modOffRuns (h : Kept r s) {f} : Kept r (s.modOffRuns f) := by
  unfold State.modOffRuns
  exact .frame h

theorem Kept.resolveFurl (h : Kept r s) {i} : Kept r (s.resolveFurl i) := by
  unfold State.resolveFurl
  exact .each (.frame h) (fun _ _ h1 => h1.finish)

theorem Kept.resolveStop (h : Kept r s) {i} : Kept r (s.resolveStop i) := by
  unfold State.resolveStop
  exact .each (.frame h) (fun _ _ h1 => h1.finish)

theorem Kept.cutFeeds (h : Kept r s) : Kept r (s.cutFeeds) := by
  unfold State.cutFeeds
  exact .setV (.disarm (.each h (fun _ _ h1 => h1.drive)))

theorem Kept.leakFeeds (h : Kept r s) : Kept r (s.leakFeeds) := by
  unfold State.leakFeeds
  exact .ite h.cutFeeds h

theorem Kept.fallToStandby (h : Kept r s) {cause} : Kept r (s.fallToStandby cause) := by
  unfold State.fallToStandby
  exact .ite h.setV.setV.setV.checkStandby h

theorem Kept.offNext (h : Kept r s) : Kept r (s.offNext) := by
  unfold State.offNext
  extract_lets _ s1 s2 s3
  have h1 : Kept r s1 := h.modOffRuns
  have h2 : Kept r s2 := .each h1 (fun _ _ h2 => h2.setScope.resolveStop.resolveFurl)
  have h3 : Kept r s3 := .ite h2.leakFeeds h2
  exact .ite h3.fallToStandby h3.checkStandby

theorem Kept.beginOffOf (h : Kept r s) {items} : Kept r (s.beginOffOf items) := by
  unfold State.beginOffOf
  extract_lets _ _ s1 _ _
  have h1 : Kept r s1 := .each h (fun _ _ h1 => .ite (.resolveStart (.when (.when h1.leaveRun.setScope (fun _ h2 => h2.setV)) (fun _ h2 => h2.putFurl))) (.when (.when h1.leaveRun.setScope (fun _ h2 => h2.setV)) (fun _ h2 => h2.putFurl)))
  exact .ite h (.offNext (.frame h1))

theorem Kept.endTrial (h : Kept r s) {x st outcome step measured} : Kept r (s.endTrial x st outcome step measured) := by
  unfold State.endTrial
  dsimp only
  split
  · exact .ite (.complete (.frame h)) (.complete (.frame h))
  · exact .frame h

theorem Kept.abortTrial (h : Kept r s) {x st} : Kept r (s.abortTrial x st) := by
  unfold State.abortTrial
  exact h.draw.endTrial

theorem Kept.freeTrial (h : Kept r s) {x} : Kept r (s.freeTrial x) := by
  unfold State.freeTrial
  exact .when (.when h (fun _ h1 => h1.setV)) (fun _ h1 => h1.setV)

theorem Kept.stopTrials (h : Kept r s) {objs} : Kept r (s.stopTrials objs) := by
  unfold State.stopTrials
  exact .each h (fun _ _ h1 => h1.freeTrial.abortTrial)

theorem Kept.leakAtCut (h : Kept r s) {i} : Kept r (s.leakAtCut i) := by
  unfold State.leakAtCut
  exact .ite h.stopTrials.setV.commandValve.put h

theorem Kept.cutScope (h : Kept r s) {i reason} : Kept r (s.cutScope i reason) := by
  unfold State.cutScope
  split
  · extract_lets _ s1 s2 s3 s4
    have h1 : Kept r s1 := .putFurl (.frame h)
    have h2 : Kept r s2 := h1.furlRecord.raiseSafety
    have h3 : Kept r s3 := h2.leakAtCut.beginOffOf
    have h4 : Kept r s4 := h3.setV.setV.setV
    exact .ite (.ite h4 h4.fallToStandby) h3
  · exact h

theorem Kept.cutTray (h : Kept r s) {reason} : Kept r (s.cutTray reason) := by
  unfold State.cutTray
  exact .ite h.cutScope h

theorem Kept.cutFurl (h : Kept r s) {i reason} : Kept r (s.cutFurl i reason) := by
  unfold State.cutFurl
  exact h.cutScope.cutTray

theorem Kept.beginOff (h : Kept r s) {items} : Kept r (s.beginOff items) := by
  unfold State.beginOff
  exact h.beginOffOf.cutTray

theorem Kept.cancelWait (h : Kept r s) {ids cause} : Kept r (s.cancelWait ids cause) := by
  unfold State.cancelWait
  exact .each h (fun _ _ h1 => h1.leaveRun.setScope.resolveStart.resolveStop)

theorem Kept.stopScopes (h : Kept r s) {ids cause} : Kept r (s.stopScopes ids cause) := by
  unfold State.stopScopes
  exact .beginOff (.cancelWait (.each (.each h (fun _ _ h1 => h1.cancelPending)) (fun _ _ h1 => h1.cutFurl)))

theorem Kept.leaveRunning (h : Kept r s) {o v} : Kept r (s.leaveRunning o v).1 := by
  unfold State.leaveRunning
  exact h.setV.takePower.stopScopes.checkStandby

theorem Kept.powerSettle (h : Kept r s) : Kept r (s.powerSettle) := by
  unfold State.powerSettle
  exact .setV (.each (.frame h) (fun _ _ h1 => h1.finish))

theorem Kept.cancelPower (h : Kept r s) : Kept r (s.cancelPower) := by
  unfold State.cancelPower
  exact h.disarm.setV.setV.powerSettle

theorem Kept.enterSleep (h : Kept r s) {o} : Kept r (s.enterSleep o).1 := by
  unfold State.enterSleep
  exact h.setV.arm.takePower

theorem Kept.powerWrite (h : Kept r s) {o v} : Kept r (s.powerWrite o v).1 := by
  unfold State.powerWrite
  extract_lets _ _ s1
  have h1 : Kept r s1.1 := h.disarm.setV.takePower
  split
  · exact h
  · split
    · split
      · exact h.leaveRunning
      · exact .ite_fst h.setV.takePower (.ite_fst h.takePower (.ite_fst h.takePower h.setV.takePower))
    · split
      · exact .ite_fst h.takePower (.ite_fst h.cancelPower h.cancelPower.enterSleep)
      · split
        · exact .ite_fst h.cancelPower (.ite_fst h1 h.takePower)
        · exact .ite_fst h.setV.takePower h.enterSleep

theorem Kept.setPowerState (h : Kept r s) {o v x2} : Kept r (setPowerState o v x2 s).1 := by
  unfold Machine.setPowerState
  exact .ite_fst h (.ite_fst h (.ite_fst h (.ite_fst h (.powerWrite (.ite h h.setV.setV)))))

theorem KeptOut.writePowerState (h : Kept r s) {a v} : KeptOut r (execWritePowerState a v s) := by
  unfold execWritePowerState
  exact .next (.write h (fun _ _ h1 => h1.setPowerState))

theorem Kept.newInterval (h : Kept r s) : Kept r (s.newInterval) := by
  unfold State.newInterval
  exact .each (.frame h) (fun _ _ h1 => .each h1.gauge (fun _ _ h2 => h2.gauge))

theorem Kept.recorderOn (h : Kept r s) : Kept r (s.recorderOn) := by
  unfold State.recorderOn
  exact .ite (.raise (.arm (.newInterval (.put (.frame h))))) h

theorem Kept.modNode (h : Kept r s) {n f} : Kept r (s.modNode n f) := by
  unfold State.modNode
  exact .frame h

theorem Kept.settleNode (h : Kept r s) {n} : Kept r (s.settleNode n) := by
  unfold State.settleNode
  exact h.put.put.modNode

theorem Kept.startBudget (h : Kept r s) : Kept r (s.startBudget) := by
  unfold State.startBudget
  exact .each h.put.put.settleNode.settleNode (fun _ _ h1 => .ite h1.arm (.ite h1.setV.raise h1))

theorem Kept.beginWait (h : Kept r s) {ids joint auto} : Kept r (s.beginWait ids joint auto) := by
  unfold State.beginWait
  exact .ite h (.frame (.each h (fun _ _ h1 => h1.setScope)))

theorem Kept.step8 (h : Kept r s) : Kept r (s.step8) := by
  unfold State.step8
  exact .ite h.beginWait.setV h

theorem Kept.loopMoves (h : Kept r s) {x} : Kept r (s.loopMoves x) := by
  unfold State.loopMoves
  exact .ite h.setV.setV h.setV

theorem Kept.settleLoops (h : Kept r s) : Kept r (s.settleLoops) := by
  unfold State.settleLoops
  exact .each h (fun _ _ h1 => .ite (.ite h1 h1.loopMoves) (.ite h1.loopBack h1))

theorem Kept.isolateTile (h : Kept r s) {t' cause} : Kept r (s.isolateTile t' cause) := by
  unfold State.isolateTile
  extract_lets s1 s2 s3
  have h1 : Kept r s1 := h.setV.put.put.setV.disarm.disarm
  have h2 : Kept r s2 := .ite h1 h1.disarm
  have h3 : Kept r s3 := h2.setV.setV.settleLoops.revoteAll
  exact .ite h3 h3.drive

theorem Kept.noteLoss (h : Kept r s) {cause} : Kept r (s.noteLoss cause) := by
  unfold State.noteLoss
  exact .ite h (.frame h)

theorem Kept.dropFenceState (h : Kept r s) {t'} : Kept r (s.dropFenceState t') := by
  unfold State.dropFenceState
  exact .each h (fun _ _ h1 => h1.setV.setV.disarm.disarm.disarm.disarm)

theorem Kept.sendTrain (h : Kept r s) {p} : Kept r (s.sendTrain p) := by
  unfold State.sendTrain
  exact .ite h.send h

theorem Kept.reportLink (h : Kept r s) {p old new} : Kept r (s.reportLink p old new) := by
  unfold State.reportLink
  exact .ite h (.ite h.raise (.ite h.raise h.raise))

theorem Kept.syncLink (h : Kept r s) {p} : Kept r (s.syncLink p) := by
  unfold State.syncLink
  exact .ite h.put (.ite h.put h.put)

theorem Kept.setLink (h : Kept r s) {p new} : Kept r (s.setLink p new) := by
  unfold State.setLink
  exact h.modLink.syncLink.reportLink.sendTrain

theorem Kept.clearNumbers (h : Kept r s) {p} : Kept r (s.clearNumbers p) := by
  unfold State.clearNumbers
  exact .ite h (.disarm (.disarm (.setV (.setV (.setV (.setV (.frame h)))))))

theorem Kept.accelLinks (h : Kept r s) {a wasUp} : Kept r (s.accelLinks a wasUp) := by
  unfold State.accelLinks
  extract_lets _ s1 s2 s3 s4
  have h1 : Kept r s1 := h.disarm.disarm.disarm
  have h2 : Kept r s2 := .when h1 (fun _ h2 => h2.arm)
  have h3 : Kept r s3 := .when h (fun _ h3 => h3.arm)
  have h4 : Kept r s4 := h3.disarm.disarm
  exact .ite (.when h2 (fun _ h5 => h5.arm)) (.ite (.when h4 (fun _ h5 => h5.arm.arm)) h)

theorem Kept.relayLinks (h : Kept r s) {r'} : Kept r (s.relayLinks r') := by
  unfold State.relayLinks
  exact .ite h.disarm (.ite h.armOnce h)

theorem Kept.dropOp (h : Kept r s) {x} : Kept r (s.dropOp x) := by
  unfold State.dropOp
  exact h.putOps

theorem Kept.opDown (h : Kept r s) {m} : Kept r (s.opDown m) := by
  unfold State.opDown
  exact .each h (fun _ _ h1 => h1.ratOut)

theorem Kept.setOp (h : Kept r s) {x y} : Kept r (s.setOp x y) := by
  unfold State.setOp
  exact .frame h

theorem Kept.snapComplete (h : Kept r s) {x} : Kept r (s.snapComplete x) := by
  unfold State.snapComplete
  extract_lets _ _ _ _ lost
  clear_value *
  by_cases none : lost = 0
  · rw [if_pos none]
    exact h.dropOp.opComplete
  · rw [if_neg none]
    exact h.draw.dropOp.opComplete

theorem Kept.opFinish (h : Kept r s) {x st m} : Kept r (s.opFinish x st m) := by
  unfold State.opFinish
  exact .ite (.ite h.setOp.snapComplete h.setOp) h.dropOp.opComplete

theorem Kept.sendSnap (h : Kept r s) {x} : Kept r (s.sendSnap x) := by
  unfold State.sendSnap
  split
  · exact h
  · split
    · exact h.ratSend
    · exact h

theorem Kept.opClose (h : Kept r s) {x} : Kept r (s.opClose x) := by
  unfold State.opClose
  exact .ite h.opDown.sendSnap.opFinish (.ite h.opFinish h.ratOut.setOp.sendSnap)

theorem Kept.settleOps (h : Kept r s) : Kept r (s.settleOps) := by
  unfold State.settleOps
  exact .each (.each h (fun _ _ h1 => h1.dropOp.opComplete)) (fun _ _ h1 => h1.opClose)

theorem Kept.modRat (h : Kept r s) {p f} : Kept r (s.modRat p f) := by
  unfold State.modRat
  exact .frame h

theorem Kept.ratLost (h : Kept r s) {p} : Kept r (s.ratLost p) := by
  unfold State.ratLost
  exact .ite h.modRat.put.raise h

theorem Kept.syncHops (h : Kept r s) : Kept r (s.syncHops) := by
  unfold State.syncHops
  exact .ite h.put h

theorem Kept.ratLink (h : Kept r s) {p vc kind body} : Kept r (s.ratLink p vc kind body) := by
  unfold State.ratLink
  exact h.ratSend

theorem Kept.advertise (h : Kept r s) : Kept r (s.advertise) := by
  unfold State.advertise
  exact .each h (fun _ _ h1 => h1.ratLink)

theorem Kept.putTime (h : Kept r s) {st src hops err} : Kept r (s.putTime st src hops err) := by
  unfold State.putTime
  dsimp only
  split
  · exact .when h.put.put (fun _ h1 => h1.advertise)
  · exact .raise (.when h.put.put (fun _ h1 => h1.advertise))

theorem Kept.timeLost (h : Kept r s) : Kept r (s.timeLost) := by
  unfold State.timeLost
  exact .ite (.putTime (.setV (.setV (.setV (.each h (fun _ _ h1 => h1.setV.setV)))))) h

theorem Kept.place (h : Kept r s) {up depth taddr root prio seq cause} : Kept r (s.place up depth taddr root prio seq cause) := by
  unfold State.place
  extract_lets _ _ _ s1 s2 _ s3 s4 s5
  have h1 : Kept r s1 := h.setV.put.put.setV.setV
  have h2 : Kept r s2 := .ite h1.setV (.ite h1.setV h1)
  have h3 : Kept r s3 := .ite h2.count.raise h2
  have h4 : Kept r s4 := .ite h3.raise h3
  have h5 : Kept r s5 := .ite h4.modRat h4
  exact .syncHops (.ite h5.timeLost h5)

theorem Kept.setHeight (h : Kept r s) : Kept r (s.setHeight) := by
  unfold State.setHeight
  exact h.put

theorem Kept.setRoles (h : Kept r s) : Kept r (s.setRoles) := by
  unfold State.setRoles
  exact .each h (fun _ _ h1 => h1.put)

theorem Kept.elect (h : Kept r s) : Kept r s.elect := by
  unfold State.elect
  extract_lets own cands best before u cause offers present keep lost alt deep pick s1 s2
  have h1 : Kept r s1 := by
    clear_value own cands best before u cause offers present keep lost alt deep pick
    refine .ite ?_ ?_
    · split
      · exact .place (.ite h h.raise)
      · exact h.place
    · split
      · split
        rename_i e
        exact (Kept.ite_snd h.draw h |>.of_snd e).place.setV
      · exact h
  exact .ite h1.setRoles.setHeight h1.setRoles.setHeight.advertise

theorem Kept.treeLinks (h : Kept r s) {p} : Kept r (s.treeLinks p) := by
  unfold State.treeLinks
  exact .elect (.ite h.ratLost h)

theorem Kept.moveLink (h : Kept r s) {p new} : Kept r (s.moveLink p new) := by
  unfold State.moveLink
  split
  · exact .accelLinks (.when (.when h.setLink (fun _ h1 => h1.clearNumbers)) (fun _ h1 => h1.setV))
  · exact .ite h.setLink.relayLinks h.setLink.treeLinks.settleOps

theorem Kept.portsDown (h : Kept r s) {t'} : Kept r (s.portsDown t') := by
  unfold State.portsDown
  exact .each h (fun _ _ h1 => .ite h1.modLink h1.modLink.moveLink)

theorem Kept.trainingEvent (h : Kept r s) {m old new reason} : Kept r (s.trainingEvent m old new reason) := by
  unfold State.trainingEvent
  exact h.raise

theorem Kept.modModel (h : Kept r s) {m f} : Kept r (s.modModel m f) := by
  unfold State.modModel
  exact .frame h

theorem Kept.stopTraining (h : Kept r s) {m reason} : Kept r (s.stopTraining m reason) := by
  unfold State.stopTraining
  exact .ite h h.modModel.disarm.trainingEvent

theorem Kept.trainingLost (h : Kept r s) : Kept r (s.trainingLost) := by
  unfold State.trainingLost
  exact .each h (fun _ _ h1 => by split; exacts [h1.put.modModel.trainingEvent, h1.stopTraining])

theorem Kept.unloadEngine (h : Kept r s) {e} : Kept r (s.unloadEngine e) := by
  unfold State.unloadEngine
  exact .setEngine (.modEngine (by split; exacts [h.unhold, h]))

theorem Kept.clearRoutes (h : Kept r s) {e} : Kept r (s.clearRoutes e) := by
  unfold State.clearRoutes
  exact .assignAll (.each (.each h (fun _ _ h1 => .ite h1.put h1)) (fun _ _ h1 => h1.modSrc))

theorem Kept.stopEngine (h : Kept r s) {e new cause} : Kept r (s.stopEngine e new cause) := by
  unfold State.stopEngine
  dsimp only
  split
  · exact h.modEngine.disarm.setEngine.clearRoutes.answer
  · exact h.modEngine.disarm.setEngine.clearRoutes

theorem Kept.enginesLost (h : Kept r s) {t'} : Kept r (s.enginesLost t') := by
  unfold State.enginesLost
  extract_lets _ s1
  have h1 : Kept r s1 := .each h (fun _ _ h1 => .ite (.ite (by split; exacts [h1.unloadEngine.complete, h1.unloadEngine]) h1) (.modEngine (.stopEngine (.ite (by split; exacts [h1.unloadEngine.complete, h1.unloadEngine]) h1))))
  exact .each h1 (fun _ _ h2 => .ite h2 (by split; exacts [h2, .ite h2.placeProgram.modEngine.raise.setEngine h2.placeProgram.modEngine.raise.startEngine]))

theorem Kept.dropFeatures (h : Kept r s) : Kept r (s.dropFeatures) := by
  unfold State.dropFeatures
  exact .each (.frame h) (fun _ _ h1 => h1.raiseTo)

theorem Kept.draws_ (h : Kept r s) {n} : Kept r (s.draws_ n).2 := by
  unfold State.draws_
  exact .frame h

theorem Kept.etchLost (h : Kept r s) : Kept r (s.etchLost) := by
  unfold State.etchLost
  split
  · exact .ite h (.complete (.frame h.draws_))
  · exact h

theorem Kept.judgeFlow (h : Kept r s) : Kept r (s.judgeFlow) := by
  unfold State.judgeFlow
  dsimp only
  split
  · exact h
  · split
    · exact h.put.raise
    · exact h.draw.put.raise

theorem Kept.coolLost (h : Kept r s) : Kept r (s.coolLost) := by
  unfold State.coolLost
  extract_lets s1 s2 s3
  have h1 : Kept r s1 := .each h (fun _ _ h1 => h1.put.put.setV.modDrv)
  have h2 : Kept r s2 := .each h1 (fun _ _ h2 => h2.setV)
  have h3 : Kept r s3 := .each h2 (fun _ _ h3 => h3.disarm.disarm.disarm.modZone)
  exact h3.judgeFlow

theorem Kept.unitsLost (h : Kept r s) {t'} : Kept r (s.unitsLost t') := by
  unfold State.unitsLost
  extract_lets s1 s2 s3
  have h1 : Kept r s1 := h.dropBindings.portsDown.busDown.chansStop
  have h2 : Kept r s2 := h1.stacksDown.trainingLost
  have h3 : Kept r s3 := h2.enginesLost
  exact .trialsLost (.dropPoints (.dropFeatures (.ite h3.coolLost.putRefclk.etchLost h3)))

theorem Kept.modDom (h : Kept r s) {d f} : Kept r (s.modDom d f) := by
  unfold State.modDom
  exact .frame h

theorem Kept.unmirror (h : Kept r s) : Kept r (s.unmirror) := by
  unfold State.unmirror
  exact .each h (fun _ _ h1 => .ite h1.modDom h1)

theorem Kept.moveLoop (h : Kept r s) {a dest} : Kept r (s.moveLoop a dest) := by
  unfold State.moveLoop
  exact .each (.each h (fun _ _ h1 => .ite h1.modDom h1)) (fun _ _ h1 => h1.put)

theorem Kept.takeLoops (h : Kept r s) : Kept r (s.takeLoops) := by
  unfold State.takeLoops
  exact .syncCoeffs (.unmirror (.each h (fun _ _ h1 => by split; exacts [.ite h1 h1.moveLoop, h1.moveLoop])))

theorem Kept.sendClaims (h : Kept r s) : Kept r (s.sendClaims) := by
  unfold State.sendClaims
  exact .each h (fun _ _ h1 => .each h1 (fun _ _ h2 => h2.stitchSend))

theorem Kept.denyRest (h : Kept r s) : Kept r (s.denyRest) := by
  unfold State.denyRest
  exact .flush (.frame h)

theorem Kept.furlAccel (h : Kept r s) {a f} : Kept r (s.furlAccel a f) := by
  unfold State.furlAccel
  dsimp only
  split
  · exact .frame h.assertFurl
  · split
    · exact .put (.frame h.assertFurl)
    · exact .cutScope (.put (.frame h.assertFurl))
    · exact .put (.cancelWait (.frame h.assertFurl))
    · exact .put (.frame h.assertFurl)

theorem Kept.startFurl (h : Kept r s) {i origin channel temp threshold deadline} : Kept r (s.startFurl i origin channel temp threshold deadline) := by
  unfold State.startFurl
  extract_lets s1 _ _ _ _ _ s2 s3 s4 s5 _ s6 s7
  have h1 : Kept r s1 := h.stopTrials
  have h2 : Kept r s2 := .ite h1 (.putFurl (.frame h1))
  have h3 : Kept r s3 := .ite h2.assertFurl (.each h2 (fun _ _ h3 => h3.assertFurl))
  have h4 : Kept r s4 := h3.journalSafety
  have h5 : Kept r s5 := h4.raiseSafety
  have h6 : Kept r s6 := .furlRecord (.frame h5)
  have h7 : Kept r s7 := .ite (.frame h6) h4
  exact .ite h7.furlAccel.cutTray (.cutTray (.cancelWait (.each h7 (fun _ _ h8 => h8.furlAccel))))

theorem Kept.furl (h : Kept r s) {i origin channel temp threshold} : Kept r (s.furl i origin channel temp threshold) := by
  unfold State.furl
  exact h.startFurl

theorem Kept.furlPlain (h : Kept r s) {i origin} : Kept r (s.furlPlain i origin) := by
  unfold State.furlPlain
  exact h.furl

theorem Kept.loneMizzen (h : Kept r s) {lost cause old} : Kept r (s.loneMizzen lost cause old) := by
  unfold State.loneMizzen
  extract_lets _ _ s1 s2 s3 s4 s5
  have h1 : Kept r s1 := .denyRest (.frame h)
  have h2 : Kept r s2 := .each h1 (fun _ _ h2 => h2.assertFurl)
  have h3 : Kept r s3 := h2.failoverEvent
  have h4 : Kept r s4 := h3.furlPlain
  have h5 : Kept r s5 := .each h4 (fun _ _ h5 => h5.setScope)
  exact .put (.setV (.setT (.frame h5)))

theorem Kept.rewrite {x : State × List (Nat × Nat)} (h : Kept r x.1) {e} : Kept r (State.rewrite x e).1 := h.journalWrite

theorem Kept.renumber (h : Kept r s) {top m} : Kept r (s.renumber top m) := by
  unfold State.renumber
  exact .frame h

theorem Kept.takeAgain (h : Kept r s) {w} : Kept r (s.takeAgain w) := by
  unfold State.takeAgain
  split
  · exact .frame h
  · exact h.answer
  · exact h

theorem Kept.electLeader (h : Kept r s) {winner lost cause} : Kept r (s.electLeader winner lost cause) := by
  unfold State.electLeader
  extract_lets top old gone kept back order again s1 s2 s3 s3' x1 x2 x3 s4 s5 redo first
  have h2 : Kept r s3 := Kept.each (s := s2) (h.of_core rfl rfl rfl rfl rfl) fun _ _ h => h.catchUp
  have h1 : Kept r x1.1 := Kept.foldl_fst (x := (s3', [])) h2.lead.commitUp fun _ _ h => h.rewrite
  have h3 : Kept r x3.1 := Kept.foldl_fst (x := x2) h1.journalMembers fun _ _ h => h.rewrite
  have h4 : Kept r s4 := h3.renumber.leadEnds.each fun _ _ h => h.takeAgain
  have h5 : Kept r s5 := h4.of_core rfl rfl rfl rfl rfl
  exact h5.failoverEvent.setV.setV.recommit

theorem Kept.startRejoin (h : Kept r s) {t'} : Kept r (s.startRejoin t') := by
  unfold State.startRejoin
  exact .ite h.put.setV.setV.setV.arm h.put.setV.setV.drive.arm

theorem Kept.autoRejoin (h : Kept r s) {t' cause} : Kept r (s.autoRejoin t' cause) := by
  unfold State.autoRejoin
  exact .ite h.setV.setV.setV.startRejoin h

theorem Kept.settleHandovers (h : Kept r s) : Kept r (s.settleHandovers) := by
  unfold State.settleHandovers
  extract_lets _
  exact .each h (fun _ _ h1 => .ite (.complete (.frame h1)) (.ite (.complete (.ite (.frame h1) (.handover (.frame h1)))) h1))

theorem Kept.fence (h : Kept r s) {t' cause} : Kept r (s.fence t' cause) := by
  unfold State.fence
  split
  · exact h
  · split
    · exact h.isolateTile
    · split
      · exact h
      · extract_lets _ _ _ s1 s2 _ _ s3 s4 s5 s6 s7 s8 s9 s10
        have h1 : Kept r s1 := h.dropFenceState.isolateTile.noteLoss
        have h2 : Kept r s2 := h1.syncMembers
        have h3 : Kept r s3 := .ite (.setV (.setV (.setV (.setV (.frame h2))))) h2
        have h4 : Kept r s4 := h3.takeLoops.unitsLost
        have h5 : Kept r s5 := h4.setV
        have h6 : Kept r s6 := .ite h5.setV h5
        have h7 : Kept r s7 := h6.of_core rfl rfl rfl rfl rfl
        have h8 : Kept r s8 := .ite h7.sendClaims h7
        have h9 : Kept r s9 := .ite h8.raise.arm h8
        have h10 : Kept r s10 := .ite h9.failoverEvent.setV (.ite h9.electLeader h9)
        exact .ite h8.setV.loneMizzen h10.settleHandovers.recommit.autoRejoin

theorem Kept.raiseSupplies (h : Kept r s) : Kept r (s.raiseSupplies) := by
  unfold State.raiseSupplies
  exact .step8 (.each h (fun _ _ h1 => .ite h1 (.ite h1.fence h1.setV.drive.arm)))

theorem Kept.startRunning (h : Kept r s) : Kept r (s.startRunning) := by
  unfold State.startRunning
  extract_lets _ s1 s2 s3 s4 s5
  have h1 : Kept r s1 := h.setV.setV.setV.setV.setV.setV
  have h2 : Kept r s2 := .foldl h1 (fun _ _ h2 => h2.setV)
  have h3 : Kept r s3 := h2.powerReached
  have h4 : Kept r s4 := .setV (.each h3 (fun _ _ h4 => h4.drive))
  have h5 : Kept r s5 := h4.startBudget.syncValves.retargetAll.recorderOn
  exact .ite h5.raiseSupplies h5

theorem KeptOut.enterRunning (h : Kept r s) {t'} : KeptOut r (execEnterRunning t' s) := by
  unfold execEnterRunning
  exact .next (.ite h.tick.startRunning h.tick)

theorem KeptOut.mainPowerGood (h : Kept r s) {t' feeds lowest} : KeptOut r (execMainPowerGood t' feeds lowest s) := by
  unfold execMainPowerGood
  exact .next (.ite (.ite h.tick.setV.raise.raiseSupplies h.tick.setV.raise) h.tick)

theorem Kept.noteFailure (h : Kept r s) {f} : Kept r (s.noteFailure f) := by
  unfold State.noteFailure
  exact .ite (.ite (.frame h) h) (.armSeq (.frame h.count.setV.setV))

theorem Kept.mainFailure (h : Kept r s) {lowest} : Kept r (s.mainFailure lowest) := by
  unfold State.mainFailure
  exact h.noteFailure

theorem Kept.mainFails (h : Kept r s) {lowest} : Kept r (s.mainFails lowest) := by
  unfold State.mainFails
  exact .fallToStandby (.beginOff (.cancelWait (.each h.mainFailure.setV (fun _ _ h1 => h1.cancelPending))))

theorem KeptOut.mainPowerLost (h : Kept r s) {t' feeds lowest} : KeptOut r (execMainPowerLost t' feeds lowest s) := by
  unfold execMainPowerLost
  exact .next (.ite (.ite h.tick.setV.raise.mainFails h.tick.setV.raise) h.tick)

theorem KeptOut.supplyPowerGood (h : Kept r s) {t' group} : KeptOut r (execSupplyPowerGood t' group s) := by
  unfold execSupplyPowerGood
  extract_lets s1 _ s2
  have h1 : Kept r s1 := h.tick
  have h2 : Kept r s2 := h1.disarm.setV.setV
  exact .next (.ite (.ite h2.arm h2.arm) h1)

theorem Kept.planResults (h : Kept r s) {x} : Kept r (s.planResults x).2 := by
  unfold State.planResults
  extract_lets v row
  have hv : ∀ s id, Kept r s → Kept r (v s id).2 := by
    intro s id h
    unfold v
    split
    · exact h
    · exact h.draw
  refine h.foldl_snd fun p c h => ?_
  unfold row
  split
  · exact h
  · exact hv _ _ (hv _ _ h)

theorem Kept.startActivate (h : Kept r s) {o stop} : Kept r (s.startActivate o stop).1 := by
  unfold State.startActivate
  split
  · exact h
  · extract_lets _ _ _ _
    split
    · exact h
    · exact .ite_fst h (.ite_fst h (.ite_fst h (.ite_fst h.planResults (.frame h.draw.hold))))

theorem Kept.doActivate (h : Kept r s) {a stop} : Kept r (doActivate a stop s).1 := by
  unfold Machine.doActivate
  exact .ite_fst h h.startActivate

theorem Kept.setStage (h : Kept r s) {st} : Kept r (s.setStage st) := by
  unfold State.setStage
  exact h.put.put

theorem Kept.stageSpoilt (h : Kept r s) : Kept r (s.stageSpoilt) := by
  unfold State.stageSpoilt
  exact h.setStage

theorem Kept.etchSpoilt (h : Kept r s) {o} : Kept r (s.etchSpoilt o).1 := by
  unfold State.etchSpoilt
  exact h.stageSpoilt.answer

theorem Kept.beginApply (h : Kept r s) {o} : Kept r (s.beginApply o) := by
  unfold State.beginApply
  exact .frame h.journalAdd

theorem Kept.putCopy (h : Kept r s) {k' x} : Kept r (s.putCopy k' x) := by
  unfold State.putCopy
  exact h.norPut

theorem Kept.startEtch (h : Kept r s) {o property disturb} : Kept r (s.startEtch o property disturb).1 := by
  unfold State.startEtch
  extract_lets _ s1 s2 _ s3 s4
  have h1 : Kept r s1 := h.hold.beginApply
  have h2 : Kept r s2 := h1.of_core rfl rfl rfl rfl rfl
  have h3 : Kept r s3 := h.hold.beginApply.putCopy
  have h4 : Kept r s4 := h3.of_core rfl rfl rfl rfl rfl
  split
  · split
    · exact h
    · split
      · exact h
      · split
        · exact h
        · split
          · exact h.etchSpoilt
          · exact h2.norWrite
  · split
    · split
      · exact h
      · split
        · exact h.etchSpoilt
        · exact h4.norWrite
    · exact h

theorem Kept.doEtch (h : Kept r s) {a} : Kept r (doEtch a s).1 := by
  unfold Machine.doEtch
  exact h.startEtch

theorem Kept.resStep (h : Kept r s) : Kept r (s.resStep) := by
  unfold State.resStep
  split
  · extract_lets _ _ s1 s2
    have h1 : Kept r s1 := h.unhold
    have h2 : Kept r s2 := h1.of_core rfl rfl rfl rfl rfl
    split
    · exact h1.hold
    · split
      · exact .run h2 (fun _ h3 => h3.doActivate)
      · exact .run h2 (fun _ h3 => h3.doEtch)
  · exact h

theorem Kept.freeScopes (h : Kept r s) {x} : Kept r (s.freeScopes x).1 := by
  unfold State.freeScopes
  exact .each (.frame h) (fun _ _ h1 => by split; exacts [h1.beginWait, h1.setV, h1.setV, h1])

theorem Kept.reopen (h : Kept r s) {ps cleared} : Kept r (s.reopen ps cleared) := by
  unfold State.reopen
  exact .each h (fun _ _ h1 => .ite h1.moveLink h1)

theorem Kept.applyStagedTd (h : Kept r s) : Kept r (s.applyStagedTd).1 := by
  unfold State.applyStagedTd
  split
  · exact h
  · extract_lets _ _ s1
    have h1 : Kept r s1 := h.chooseTd.reopen
    split
    · exact h
    · split
      · split
        · exact .ite_fst h (.ite_fst h (.ite h1.coolStart h1))
        · exact h
      · exact h

theorem Kept.endActivate (h : Kept r s) {x st failed} : Kept r (s.endActivate x st failed) := by
  unfold State.endActivate
  exact .complete (.disarm (.frame (.draw (.ite_fst h.freeScopes.applyStagedTd h.freeScopes))))

theorem Kept.toManager (h : Kept r s) {r' cmd x b} : Kept r (s.toManager r' cmd x b) := by
  unfold State.toManager
  split
  · exact .countQueued (.modBus (.frame h))
  · exact h

theorem Kept.sendAccel (h : Kept r s) {a kind fields resent} : Kept r (s.sendAccel a kind fields resent) := by
  unfold State.sendAccel
  exact .ite (.each h.countV.send (fun _ _ h1 => h1.sendOn)) h

theorem Kept.resumeAccel (h : Kept r s) {a} : Kept r (s.resumeAccel a) := by
  unfold State.resumeAccel
  exact .ite h h.sendAccel.setV.disarm.setV

theorem Kept.stepEvent (h : Kept r s) {u what} : Kept r (s.stepEvent u what) := by
  unfold State.stepEvent
  exact h.raise

theorem Kept.failStep (h : Kept r s) {x u st} : Kept r (s.failStep x u st) := by
  unfold State.failStep
  exact .endActivate (.stepEvent (.journalAdd (.ite h.resumeAccel (.ite h.setV h))))

theorem Kept.haltStep (h : Kept r s) {x u} : Kept r (s.haltStep x u) := by
  unfold State.haltStep
  exact .failStep (by split; exacts [h.toManager, h.sendAccel, h])

theorem Kept.setAct (h : Kept r s) {x} : Kept r (s.setAct x) := by
  unfold State.setAct
  exact .frame h

theorem Kept.sendBudget (h : Kept r s) {a effective resent} : Kept r (s.sendBudget a effective resent) := by
  unfold State.sendBudget
  exact h.sendAccel

theorem Kept.quiesceAccel (h : Kept r s) {a} : Kept r (s.quiesceAccel a) := by
  unfold State.quiesceAccel
  exact h.setV.setV.arm.setV.put.sendBudget.sendAccel

theorem Kept.beginStep (h : Kept r s) {x u} : Kept r (s.beginStep x u) := by
  unfold State.beginStep
  extract_lets s1 _ _ _ s2 _ s3 s4
  have h1 : Kept r s1 := h.journalAdd.stepEvent
  have h2 : Kept r s2 := h1.arm
  have h3 : Kept r s3 := .hold (.ite h2 h2.hold)
  have h4 : Kept r s4 := .ite h3.stopScopes h3
  split
  · split
    · exact h1.norWrite.setV.setAct
    · exact h1.failStep
  · exact h4.setAct
  · exact h1.arm.quiesceAccel.setAct

theorem Kept.sendCmd (h : Kept r s) {x u cmd} : Kept r (s.sendCmd x u cmd) := by
  unfold State.sendCmd
  split
  · exact h.toManager.setAct
  · exact h.stageSpoilt.failStep

theorem Kept.busOutcome (h : Kept r s) {x u cmd} : Kept r (s.busOutcome x u cmd) := by
  unfold State.busOutcome
  split
  · exact h
  · extract_lets _ _ _
    split
    · exact h.haltStep
    · split
      · exact h.sendCmd
      · split
        · exact h.sendCmd
        · exact h.sendCmd
        · exact h.sendCmd
        · exact h.setV.setAct
        · exact .ite h.failStep (.ite h.sendCmd h.sendCmd)

theorem Kept.sendChunks (h : Kept r s) {a b n x} : Kept r (s.sendChunks a b n x).1 := by
  induction n generalizing s x with
  | zero => exact h
  | succ n ih =>
    unfold State.sendChunks
    exact .ite_fst (ih h.sendAccel) h

theorem Kept.stream (h : Kept r s) {x u} : Kept r (s.stream x u) := by
  unfold State.stream
  split
  · exact h
  · split
    · exact h.sendChunks.setAct
    · exact h.stageSpoilt.failStep

theorem Kept.dropRelay (h : Kept r s) {x r'} : Kept r (s.dropRelay x r') := by
  unfold State.dropRelay
  exact .frame h

theorem Kept.stepDone (h : Kept r s) {x u} : Kept r (s.stepDone x u) := by
  unfold State.stepDone
  exact .setAct (.freeScopes (.ite h.journalAdd.stepEvent.disarm.setV.dropRelay h.journalAdd.stepEvent.disarm))

theorem Kept.arrived (h : Kept r s) {x u compat} : Kept r (s.arrived x u compat) := by
  unfold State.arrived
  exact .ite h.stepDone h.failStep

theorem Kept.startRoll (h : Kept r s) {tiles update} : Kept r (s.startRoll tiles update) := by
  unfold State.startRoll
  exact .setV (.frame h)

theorem Kept.updStep (h : Kept r s) : Kept r (s.updStep) := by
  unfold State.updStep
  split
  · exact h
  · split
    · exact h.endActivate
    · extract_lets _ _ s1 s2 _
      have h1 : Kept r s1 := .ite h.haltStep h.failStep
      have h2 : Kept r s2 := .ite h h.handover
      split
      · exact .ite h.endActivate (.ite h.setAct h.beginStep)
      · exact .ite h.sendCmd h
      · exact h.busOutcome
      · exact .ite h1 (.ite h.stream h)
      · exact .ite h1 h.stream
      · exact .ite h1 h
      · exact .ite (.ite h.arrived h) (.ite h.arrived h)
      · exact .ite h2.startRoll.setAct h
      · split
        · exact h
        · exact .stepDone (.frame h)
        · exact .setAct (.setV (.norWrite (.frame h)))
      · exact .ite h.startRoll.setAct h
      · split
        · exact h
        · exact .failStep (.frame h)

theorem Kept.revokeStep (h : Kept r s) : Kept r (s.revokeStep) := by
  unfold State.revokeStep
  split
  · exact h
  · split
    · exact h
    · split
      · exact .answer (.unhold (.frame h))
      · split
        · exact .ite h (.startRoll (.frame h))
        · split
          · split
            · exact h
            · exact .ite (.complete (.frame h)) (.ite (.complete (.frame h)) (.complete (.frame h)))
          · exact h

theorem Kept.endRoll (h : Kept r s) {r' x} : Kept r (s.endRoll r' x) := by
  unfold State.endRoll
  exact .setV (.frame h)

theorem Kept.planHome (h : Kept r s) : Kept r (s.planHome) := by
  unfold State.planHome
  exact .setV (.frame h)

theorem Kept.loopsOut (h : Kept r s) {t'} : Kept r (s.loopsOut t') := by
  unfold State.loopsOut
  exact .frame h

theorem Kept.checkpoint (h : Kept r s) : Kept r (s.checkpoint) := by
  unfold State.checkpoint
  exact .journalAdd (.frame h.draw)

theorem Kept.rollStep (h : Kept r s) : Kept r (s.rollStep) := by
  unfold State.rollStep
  split
  · exact h
  · split
    · exact h
    · split
      · exact .ite h.endRoll h
      · split
        · exact .ite (.ite (.planHome (.frame h)) (.frame h)) (.ite h h.endRoll)
        · split
          · exact .startRejoin (.frame h)
          · split
            · exact .ite h h.endRoll
            · exact .ite h.loopsOut (.startRejoin (.fence (.frame (.ite h.checkpoint.handover h))))

theorem Kept.settleN (h : Kept r s) {n} : Kept r (s.settleN n) := by
  induction n generalizing s with
  | zero => exact h
  | succ n ih => exact ih h.rollStep.revokeStep.updStep.resStep

theorem Kept.settleUpdate (h : Kept r s) : Kept r (s.settleUpdate) := by
  unfold State.settleUpdate
  exact .ite h h.settleN

theorem KeptOut.settled {o : Out} (h : KeptOut r o) : KeptOut r (settled o) := by
  obtain ⟨t, rfl, ht⟩ := h
  exact .next ht.settleUpdate

theorem Kept.rejoinFails (h : Kept r s) {x cause step} : Kept r (s.rejoinFails x cause step) := by
  unfold State.rejoinFails
  exact h.isolateTile.raise

theorem Kept.notReady (h : Kept r s) {t' cause} : Kept r (s.notReady t' cause) := by
  unfold State.notReady
  exact h.fence.failoverEvent.step8

theorem KeptOut.onSupplyPgTimeout (h : Kept r s) {t' group} : KeptOut r (onSupplyPgTimeout t' group s) := by
  unfold Machine.onSupplyPgTimeout
  exact .next (.ite (.ite h.tick.rejoinFails h.tick.notReady) h.tick)

theorem KeptOut.supplyPgTimeout (h : Kept r s) {t' group} : KeptOut r (execSupplyPgTimeout t' group s) := by
  unfold execSupplyPgTimeout
  exact .settled (.onSupplyPgTimeout h)

theorem Kept.supplyLost (h : Kept r s) {t'} : Kept r (s.supplyLost t') := by
  unfold State.supplyLost
  exact h.fence

theorem KeptOut.onSupplyPgFall (h : Kept r s) {t' group} : KeptOut r (onSupplyPgFall t' group s) := by
  unfold Machine.onSupplyPgFall
  extract_lets s1 _
  have h1 : Kept r s1 := h.tick
  exact .next (.ite (by split; exacts [h1.supplyLost, .ite h1.rejoinFails h1.notReady, h1]) h1)

theorem KeptOut.supplyPgFall (h : Kept r s) {t' group} : KeptOut r (execSupplyPgFall t' group s) := by
  unfold execSupplyPgFall
  exact .settled (.onSupplyPgFall h)

theorem Kept.joinTile (h : Kept r s) {t'} : Kept r (s.joinTile t') := by
  unfold State.joinTile
  extract_lets s1 s2 s3 s4 s5 s6 s7
  have h1 : Kept r s1 := .each h (fun _ _ h1 => .ite h1.setV h1.setV)
  have h2 : Kept r s2 := h1.setV.put.setV.disarm
  have h3 : Kept r s3 := h2.catchUp.loopBack.settleLoops.setV
  have h4 : Kept r s4 := .ite h3.putRefclk h3
  have h5 : Kept r s5 := .each h4 (fun _ _ h5 => h5.modLink)
  have h6 : Kept r s6 := .each h5 (fun _ _ h6 => h6.arm.arm)
  have h7 : Kept r s7 := h6.syncMembers.setV
  exact h7.journalMembers.syncCoeffs.recommit.recorderOn.busUp

theorem KeptOut.tileReady (h : Kept r s) {t' group} : KeptOut r (execTileReady t' group s) := by
  unfold execTileReady
  extract_lets s1 _
  have h1 : Kept r s1 := h.tick
  exact .next (.ite (by split; exacts [h1.disarm.setV.joinTile.tileBooted.restorePrograms.planHome.step8, h1]) h1)

theorem KeptOut.tileReadyTimeout (h : Kept r s) {t' group} : KeptOut r (execTileReadyTimeout t' group s) := by
  unfold execTileReadyTimeout
  exact .next (.ite h.tick.notReady h.tick)

theorem Kept.holdReset (h : Kept r s) {why} : Kept r (s.holdReset why) := by
  unfold State.holdReset
  exact h.powerOff.setV

theorem KeptOut.onCoreUndervoltage (h : Kept r s) {t' tile} : KeptOut r (onCoreUndervoltage t' tile s) := by
  unfold Machine.onCoreUndervoltage
  extract_lets s1 _ _
  have h1 : Kept r s1 := h.tick
  exact .next (.ite h1 (.ite h1.holdReset (.ite h1.supplyLost (.ite h1.rejoinFails h1.notReady))))

theorem KeptOut.coreUndervoltage (h : Kept r s) {t' tile} : KeptOut r (execCoreUndervoltage t' tile s) := by
  unfold execCoreUndervoltage
  exact .settled (.onCoreUndervoltage h)

theorem KeptOut.coreUndervoltageClear (h : Kept r s) {t'} : KeptOut r (execCoreUndervoltageClear t' s) := by
  unfold execCoreUndervoltageClear
  exact .next (.ite h.tick.setV.coldStart h.tick)

theorem Kept.pointEvent (h : Kept r s) {p what} : Kept r (s.pointEvent p what) := by
  unfold State.pointEvent
  exact h.raise

theorem Kept.restoreTrial (h : Kept r s) {x} : Kept r (s.restoreTrial x) := by
  unfold State.restoreTrial
  extract_lets _ s1
  have h1 : Kept r s1 := h.freeTrial
  split
  · exact .ite h1.putFurl.releaseFurl h1
  · exact .syncValve (.ite h1 h1.commandValve)
  · exact .ite h1.retarget h1
  · exact h1

theorem Kept.endMaintenance (h : Kept r s) {cause} : Kept r (s.endMaintenance cause) := by
  unfold State.endMaintenance
  split
  · exact h
  · exact .each (.each h.draw.disarm.raise (fun _ _ h1 => h1.pointIdle.pointEvent)) (fun _ _ h1 => h1.restoreTrial.abortTrial)

theorem Kept.dropProgramLoads (h : Kept r s) {id} : Kept r (s.dropProgramLoads id) := by
  unfold State.dropProgramLoads
  exact .each h (fun _ _ h1 => h1.unloadEngine)

theorem Kept.setSlot (h : Kept r s) {m st} : Kept r (s.setSlot m st) := by
  unfold State.setSlot
  exact .put (.each h (fun _ _ h1 => .ite h1.setV h1))

theorem Kept.unload (h : Kept r s) {m} : Kept r (s.unload m) := by
  unfold State.unload
  exact .setSlot (.modModel (by split; exacts [h.unhold, h]))

theorem Kept.dropModelLoads (h : Kept r s) {id} : Kept r (s.dropModelLoads id) := by
  unfold State.dropModelLoads
  exact .each h (fun _ _ h1 => h1.unload)

theorem Kept.dropLoads (h : Kept r s) {id} : Kept r (s.dropLoads id) := by
  unfold State.dropLoads
  exact .frame h.dropModelLoads

theorem Kept.closeEth (h : Kept r s) {p n} : Kept r (s.closeEth p n) := by
  unfold State.closeEth
  exact .countEth (.frame (.frame h))

theorem Kept.endSession (h : Kept r s) {id cause} : Kept r (s.endSession id cause) := by
  unfold State.endSession
  extract_lets _ s1 s2
  have h1 : Kept r s1 := .dropProgramLoads (.dropLoads (.frame h))
  have h2 : Kept r s2 := .ite (.each h1 (fun _ _ h2 => by split; exacts [h2.closeEth, h2])) h1
  exact h2.disarm.disarm.raise

theorem Kept.writeWake (h : Kept r s) : Kept r (s.writeWake) := by
  unfold State.writeWake
  dsimp only
  split
  · exact .frame h
  · exact h

theorem Kept.stopEngines (h : Kept r s) : Kept r (s.stopEngines) := by
  unfold State.stopEngines
  exact .each h (fun _ _ h1 => h1.stopEngine)

theorem Kept.sleepLoss (h : Kept r s) : Kept r s.sleepLoss := by
  unfold State.sleepLoss
  extract_lets z1 z2 z3
  have h2 : Kept r z2 := h.powerOff.of_core rfl rfl rfl rfl rfl
  have h3 : Kept r z3 := h2.foldl fun _ x h' => h'.vars x fun c => (h.canonical c).2.1.2 x
  exact h3.put.put.putRefclk.put

theorem Kept.fallAsleep (h : Kept r s) : Kept r (s.fallAsleep) := by
  unfold State.fallAsleep
  extract_lets s1 s2 s3 s4 s5 s6 s7
  have h1 : Kept r s1 := h.disarm
  have h2 : Kept r s2 := .each h1 (fun _ _ h2 => h2.enterDrive)
  have h3 : Kept r s3 := .each h2 (fun _ _ h3 => h3.drive)
  have h4 : Kept r s4 := .each h3 (fun _ _ h4 => h4.drive)
  have h5 : Kept r s5 := h4.endMaintenance
  have h6 : Kept r s6 := .each h5 (fun _ _ h6 => h6.endSession)
  have h7 : Kept r s7 := h6.stopEngines.timeLost.writeWake
  exact h7.powerReached.sleepLoss

theorem KeptOut.runOnExpiry (h : Kept r s) {t'} : KeptOut r (execRunOnExpiry t' s) := by
  unfold execRunOnExpiry
  exact .next (.ite h.tick.fallAsleep h.tick)

theorem Kept.romFast (h : Kept r s) {p} : Kept r (s.romFast p) := by
  unfold State.romFast
  exact h.romRuns.setV.setV.setV.setV.setV.setV.setV.setV.proofLoader

theorem Kept.wake (h : Kept r s) {zone intact} : Kept r (s.wake zone intact) := by
  unfold State.wake
  exact .chooseTd (.scanFaults (.strapAddrs (by split; exacts [.romFast (.setV (.setV (.frame h))), .romCold (.setV (.setV (.frame h)))])))

theorem Kept.abortSleep (h : Kept r s) : Kept r (s.abortSleep) := by
  unfold State.abortSleep
  exact .ite h (.ite h.disarm.setV.setV.powerSettle h.setV)

theorem KeptOut.wakeTrigger (h : Kept r s) {t' zone intact} : KeptOut r (execWakeTrigger t' zone intact s) := by
  unfold execWakeTrigger
  exact .next (.ite h.tick.wake (.ite h.tick.abortSleep h.tick))

theorem Kept.norDieLost (h : Kept r s) {die cause addr} : Kept r (s.norDieLost die cause addr) := by
  unfold State.norDieLost
  exact .ite h h.setV.raise

theorem Kept.faultHeld (h : Kept r s) {r' o} : Kept r (s.faultHeld r' o) := by
  unfold State.faultHeld
  dsimp only
  split
  · exact h.addFault.refreshLatch.raise.latchBars.answer
  · exact h.addFault.refreshLatch.raise.latchBars

theorem Kept.putPlate (h : Kept r s) {p x} : Kept r (s.putPlate p x) := by
  unfold State.putPlate
  exact h.norPut

theorem Kept.storeDesc (h : Kept r s) {d} : Kept r (s.storeDesc d) := by
  unfold State.storeDesc
  split
  · exact h
  · split
    · exact .frame h
    · split
      · exact .frame h
      · exact h

theorem Kept.endEtch (h : Kept r s) {x st svn version} : Kept r (s.endEtch x st svn version) := by
  unfold State.endEtch
  exact .complete (.frame h)

theorem Kept.proofHeld (h : Kept r s) {x} : Kept r (s.proofHeld x) := by
  unfold State.proofHeld
  split
  · rename_i y _
    extract_lets s1 s2
    have h1 : Kept r s1 := by
      unfold s1
      split
      · exact h.storeDesc
      · exact h
    have h2 : Kept r s2 := h1.endEtch
    exact .ite (h2.frame (etch := some { x with resets := true })).norWrite h2
  · exact h

theorem Kept.confirmHeld (h : Kept r s) {r' o} : Kept r (s.confirmHeld r' o) := by
  unfold State.confirmHeld
  dsimp only
  split
  · exact .answer (.ite h.raise h)
  · exact .ite h.raise h

theorem Kept.metaHeld (h : Kept r s) {r' o} : Kept r (s.metaHeld r' o) := by
  unfold State.metaHeld
  extract_lets s1
  have h1 : Kept r s1 := h.putRecord
  split
  · exact h1.putPlate.norWrite
  · exact h1.proofHeld
  · exact .ite h1.coldStart h1
  · exact h1.confirmHeld
  · exact h1

theorem Kept.plateWritten (h : Kept r s) {x good} : Kept r (s.plateWritten x good) := by
  unfold State.plateWritten
  exact .ite h.putPlate.norWrite h.endEtch

theorem Kept.copyWritten (h : Kept r s) {x good} : Kept r (s.copyWritten x good) := by
  unfold State.copyWritten
  dsimp only
  split
  · exact .ite h.draw.putCopy.endEtch h.draw.endEtch
  · exact h.draw.endEtch

theorem Kept.norDone (h : Kept r s) {w good} : Kept r (s.norDone w good) := by
  unfold State.norDone
  split
  · exact h.faultHeld
  · exact h.metaHeld
  · exact h.plateWritten
  · exact h.copyWritten
  · exact h

theorem KeptOut.norWriteComplete (h : Kept r s) {t' lost good} : KeptOut r (execNorWriteComplete t' lost good s) := by
  unfold execNorWriteComplete
  extract_lets s1 s2 s3
  have h1 : Kept r s1 := h.tick
  have h2 : Kept r s2 := by dsimp only [s2]; split; exacts [h1.norDieLost, h1]
  have h3 : Kept r s3 := .each h2 (fun _ _ h3 => h3.spend.norDieLost)
  exact .next (by split; exacts [.ite h3 (.settleUpdate (.norDone (.frame h3))), h3])

theorem Kept.nandFails (h : Kept r s) {x1} : Kept r (s.nandFails x1) := by
  unfold State.nandFails
  split
  · split
    · exact h.unload.complete
    · exact h
  · split
    · exact h.unloadEngine.complete
    · exact h
  · exact h.answer

theorem Kept.loseNand (h : Kept r s) {usable} : Kept r (s.loseNand usable) := by
  unfold State.loseNand
  split
  · exact h
  · extract_lets _ _ s1 _ s2 s3
    have h1 : Kept r s1 := h.setV.raise
    have h2 : Kept r s2 := h1.of_core rfl rfl rfl rfl rfl
    have h3 : Kept r s3 := .each h2.put.put.setStage (fun _ _ h3 => h3.nandFails)
    clear_value *
    split
    · exact h3.draw.draw.complete
    · exact h3

theorem Kept.showVersion (h : Kept r s) {m} : Kept r (s.showVersion m) := by
  unfold State.showVersion
  exact h.put

theorem Kept.placeModel (h : Kept r s) {m b} : Kept r (s.placeModel m b) := by
  unfold State.placeModel
  exact h.modModel.put.put.put.showVersion.setSlot

theorem Kept.modelLoaded (h : Kept r s) {m o} : Kept r (s.modelLoaded m o) := by
  unfold State.modelLoaded
  exact .complete (.ite (.frame (.placeModel (by split; exacts [h.unhold, h]))) (.placeModel (by split; exacts [h.unhold, h])))

theorem Kept.nandModel (h : Kept r s) {m} : Kept r (s.nandModel m) := by
  unfold State.nandModel
  split
  · exact h.modelLoaded
  · exact h

theorem Kept.programLoaded (h : Kept r s) {e o} : Kept r (s.programLoaded e o) := by
  unfold State.programLoaded
  extract_lets _ _ s1 s2 s3 s4
  have h1 : Kept r s1 := by dsimp only [s1]; split; exacts [h.unhold, h]
  have h2 : Kept r s2 := h1.placeProgram.modEngine
  have h3 : Kept r s3 := h2.put
  have h4 : Kept r s4 := .ite (.frame h3) h2.put
  exact h4.setEngine.complete

theorem Kept.nandProgram (h : Kept r s) {e} : Kept r (s.nandProgram e) := by
  unfold State.nandProgram
  split
  · exact h.programLoaded
  · exact h

theorem Kept.stageHolds (h : Kept r s) {o csn off b} : Kept r (s.stageHolds o csn off b) := by
  unfold State.stageHolds
  exact .answer (.put (.frame h))

theorem Kept.nandDone (h : Kept r s) {x1} : Kept r (s.nandDone x1) := by
  unfold State.nandDone
  split
  · exact h.nandModel
  · exact h.nandProgram
  · exact h.stageHolds

theorem KeptOut.nandWriteComplete (h : Kept r s) {t' retired lost usable} : KeptOut r (execNandWriteComplete t' retired lost usable s) := by
  unfold execNandWriteComplete
  extract_lets s1 _ s2 s3
  have h1 : Kept r s1 := h.tick
  have h2 : Kept r s2 := h1.spend
  have h3 : Kept r s3 := by dsimp only [s3]; clear_value *; split; exacts [h2.raise, h2]
  clear_value *
  exact .next (.ite h1 (.ite h3.loseNand.settleUpdate (.ite h3 (by split; exacts [.settleUpdate (.nandDone (.frame h3)), h3]))))

theorem Kept.judgePace (h : Kept r s) {t' k' limit e} : Kept r (s.judgePace t' k' limit e) := by
  unfold State.judgePace
  extract_lets _ _ s1 s2 s3
  have h1 : Kept r s1 := h.setV
  have h2 : Kept r s2 := h1.setV
  have h3 : Kept r s3 := .ite h2.setV h2
  exact .ite h3.setV.raise h3

theorem Kept.requestFence (h : Kept r s) {r' x cause} : Kept r (s.requestFence r' x cause) := by
  unfold State.requestFence
  split
  · exact h
  · split
    · exact .ite h.fence (.ite h.fence (.ite h.fence (.ite h h.setV.arm)))
    · exact h.fence
    · exact h

theorem Kept.judgePaces (h : Kept r s) {x} : Kept r (s.judgePaces x) := by
  unfold State.judgePaces
  exact .ite (.each h.judgePace.judgePace (fun _ _ h1 => h1.requestFence)) h.judgePace.judgePace

theorem Kept.keepPace (h : Kept r s) {x p} : Kept r (s.keepPace x p) := by
  unfold State.keepPace
  extract_lets l s1
  have h1 : Kept r s1 := h.of_core rfl rfl rfl rfl rfl
  split
  rename_i e
  exact (h1.roundDiv.of_snd e).setV.put.put.setV

theorem KeptOut.paceWindow (h : Kept r s) {t' tile a b c d} : KeptOut r (execPaceWindow t' tile a b c d s) := by
  unfold execPaceWindow
  exact .next (.ite h.tick.spend.keepPace.judgePaces h.tick)

theorem Kept.setPaceMin (h : Kept r s) {x0 t'} : Kept r (setPaceMin x0 t' s).1 := by
  unfold Machine.setPaceMin
  exact h.put

theorem KeptOut.writePaceMin (h : Kept r s) {a v} : KeptOut r (execWritePaceMin a v s) := by
  unfold execWritePaceMin
  exact .next (.write h (fun _ _ h1 => h1.setPaceMin))

theorem KeptOut.refclkLost (h : Kept r s) {t' cause} : KeptOut r (execRefclkLost t' cause s) := by
  unfold execRefclkLost
  exact .next (.ite h.tick.putRefclk.loopMoves.raise h.tick)

theorem KeptOut.refclkRestored (h : Kept r s) {t' offset} : KeptOut r (execRefclkRestored t' offset s) := by
  unfold execRefclkRestored
  exact .next (.ite h.tick.loopBack.putRefclk.raise h.tick)

theorem KeptOut.forwardedRefLost (h : Kept r s) {t' group} : KeptOut r (execForwardedRefLost t' group s) := by
  unfold execForwardedRefLost
  exact .next (.ite h.tick.loopMoves h.tick)

theorem Kept.movePoint (h : Kept r s) {x i diff share} : Kept r (s.movePoint x i diff share) := by
  unfold State.movePoint
  exact h.whole.setV

theorem Kept.refine (h : Kept r s) {x base temp value} : Kept r (s.refine x base temp value) := by
  unfold State.refine
  exact .ite h.movePoint (.ite h.movePoint h.movePoint.movePoint)

theorem KeptOut.oscOffsetMeasure (h : Kept r s) {t' tile ppb} : KeptOut r (execOscOffsetMeasure t' tile ppb s) := by
  unfold execOscOffsetMeasure
  extract_lets s1 _ s2 s3
  have h1 : Kept r s1 := h.tick
  have h2 : Kept r s2 := .ite h1.loopBack h1
  have h3 : Kept r s3 := h2.setV.setV
  exact .next (.ite (by split; exacts [h3.refine, h3]) h2)

theorem Kept.holdRate (h : Kept r s) : Kept r (s.holdRate) := by
  unfold State.holdRate
  exact .ite h (.ite h h.setV.setV.setV)

theorem KeptOut.compensationUpdate (h : Kept r s) {t'} : KeptOut r (execCompensationUpdate t' s) := by
  unfold execCompensationUpdate
  refine .next ?_
  exact .holdRate (.each h.tick (fun _ _ h1 => by dsimp only; split; exacts [h1.whole.put, h1]))

theorem Kept.correct (h : Kept r s) {delta} : Kept r (s.correct delta) := by
  unfold State.correct
  exact .ite (.raise (.setV (.frame h))) h.setV.setV

theorem Kept.setCommonTime (h : Kept r s) {v x1} : Kept r (setCommonTime v x1 s).1 := by
  unfold Machine.setCommonTime
  exact .ite_fst h h.correct.putTime

theorem KeptOut.writeCommonTime (h : Kept r s) {a v} : KeptOut r (execWriteCommonTime a v s) := by
  unfold execWriteCommonTime
  exact .next (.write h (fun _ _ h1 => h1.setCommonTime))

theorem Kept.ppsFault (h : Kept r s) : Kept r (s.ppsFault) := by
  unfold State.ppsFault
  exact .ite h.countV.setV.timeLost h.countV

theorem Kept.timeLock (h : Kept r s) {src hops} : Kept r (s.timeLock src hops) := by
  unfold State.timeLock
  exact h.putTime

theorem KeptOut.ppsEdge (h : Kept r s) {t'} : KeptOut r (execPpsEdge t' s) := by
  unfold execPpsEdge
  extract_lets s1 _ _ _ s2
  have h1 : Kept r s1 := h.tick
  have h2 : Kept r s2 := h1.setV.correct
  exact .next (.ite h1 (.ite h1.ppsFault (.ite h2 h2.timeLock)))

theorem KeptOut.holdoverLimitReached (h : Kept r s) {t'} : KeptOut r (execHoldoverLimitReached t' s) := by
  unfold execHoldoverLimitReached
  exact .next (.ite h.tick.putTime h.tick)

theorem KeptOut.guardClockFallback (h : Kept r s) {t' tile} : KeptOut r (execGuardClockFallback t' tile s) := by
  unfold execGuardClockFallback
  exact .next (.ite h.tick.setV.raise h.tick)

theorem KeptOut.guardClockRestored (h : Kept r s) {t' tile} : KeptOut r (execGuardClockRestored t' tile s) := by
  unfold execGuardClockRestored
  exact .next (.ite h.tick.setV.raise h.tick)

theorem Kept.islandPorts (h : Kept r s) {t' i} : Kept r (s.islandPorts t' i) := by
  unfold State.islandPorts
  exact .each h (fun _ _ h1 => .ite h1 h1.moveLink)

theorem Kept.drainCrossing (h : Kept r s) {id} : Kept r (s.drainCrossing id) := by
  unfold State.drainCrossing
  exact .ite h.setV.setV h

theorem Kept.islandReset (h : Kept r s) {t' i cause} : Kept r (s.islandReset t' i cause) := by
  unfold State.islandReset
  exact h.setV.drainCrossing.drainCrossing.islandPorts

theorem KeptOut.islandClockStopped (h : Kept r s) {t' tile island} : KeptOut r (execIslandClockStopped t' tile island s) := by
  unfold execIslandClockStopped
  exact .next (.ite h.tick.raise.islandReset h.tick)

theorem Kept.startTxn (h : Kept r s) {p} : Kept r (s.startTxn p) := by
  unfold State.startTxn
  exact .ite h h.modBus.setPort.send

theorem Kept.startWaiting (h : Kept r s) {t'} : Kept r (s.startWaiting t') := by
  unfold State.startWaiting
  exact .each h (fun _ _ h1 => h1.startTxn)

theorem Kept.islandFree (h : Kept r s) {t' i cause} : Kept r (s.islandFree t' i cause) := by
  unfold State.islandFree
  exact .when h.setV (fun _ h1 => h1.startWaiting)

theorem KeptOut.islandClockResumed (h : Kept r s) {t' tile island} : KeptOut r (execIslandClockResumed t' tile island s) := by
  unfold execIslandClockResumed
  exact .next (.ite h.tick h.tick.islandFree)

theorem KeptOut.crossingTimeout (h : Kept r s) {t' c since reset} : KeptOut r (execCrossingTimeout t' c since reset s) := by
  unfold execCrossingTimeout
  extract_lets s1 s2 s3
  have h1 : Kept r s1 := h.tick
  have h2 : Kept r s2 := .ite h1 h1.raise
  have h3 : Kept r s3 := h2.drainCrossing
  exact .next (.ite (by split; exacts [.ite h3 h3.requestFence, h3]) h1)

theorem KeptOut.crossingFarReset (h : Kept r s) {t' c} : KeptOut r (execCrossingFarReset t' c s) := by
  unfold execCrossingFarReset
  exact .next (.ite h.tick.drainCrossing h.tick)

theorem KeptOut.crossingDrained (h : Kept r s) {t' c discarded} : KeptOut r (execCrossingDrained t' c discarded s) := by
  unfold execCrossingDrained
  exact .next (.ite h.tick.setV.setV.raise h.tick)

theorem Kept.tokens (h : Kept r s) {c} : Kept r (s.tokens c) := by
  unfold State.tokens
  split
  · exact h.setV
  · exact .ite h.setV.setV h

theorem KeptOut.crossingRearm (h : Kept r s) {t' c} : KeptOut r (execCrossingRearm t' c s) := by
  unfold execCrossingRearm
  exact .next (.ite h.tick.setV.tokens h.tick)

theorem Kept.voterInput (h : Kept r s) {o t' v} : Kept r (s.voterInput o t' v) := by
  unfold State.voterInput
  exact .ite h.setVote.syncReef h.setVote

theorem Kept.modLeg (h : Kept r s) {l f} : Kept r (s.modLeg l f) := by
  unfold State.modLeg
  exact .frame h

theorem Kept.privileged (h : Kept r s) {t' x on} : Kept r (s.privileged t' x on) := by
  unfold State.privileged
  extract_lets s1
  have h1 : Kept r s1 := h.setV
  split
  · exact h1.revote
  · exact h1.revote.syncReef
  · exact .each h1 (fun _ _ h2 => h2.revote)
  · exact .ite h1.voterInput h1
  · exact .ite h1.voterInput h1
  · exact .ite h1.modLeg h1
  · exact .revoteAll (.when h1.setV (fun _ h2 => h2.chansStop))
  · exact .ite (.ite h1.islandReset h1.islandFree) h1

theorem KeptOut.privilegedSignal (h : Kept r s) {t' tile x on} : KeptOut r (execPrivilegedSignal t' tile x on s) := by
  unfold execPrivilegedSignal
  exact .next (.ite h.tick.privileged h.tick)

theorem KeptOut.gantlineCrcError (h : Kept r s) {t' b tag} : KeptOut r (execGantlineCrcError t' b tag s) := by
  unfold execGantlineCrcError
  refine .next ?_
  split
  · exact h.tick.crcError
  · exact .frame h.tick
  · exact h.tick.send
  · exact h.tick

theorem Kept.doGetProp (h : Kept r s) {a} : Kept r (doGetProp a s).1 := by
  unfold Machine.doGetProp
  split <;> exact h

theorem Kept.planOut (h : Kept r s) {t'} : Kept r (s.planOut t') := by
  unfold State.planOut
  exact .setV (.frame h)

theorem Kept.setAdminState (h : Kept r s) {v t'} : Kept r (setAdminState v t' s).1 := by
  unfold Machine.setAdminState
  extract_lets _ s1 s2 s3 s4
  have h1 : Kept r s1 := h.put
  have h2 : Kept r s2 := .ite (by split; exacts [h1.handover, h1]) h1
  have h3 : Kept r s3 := h.put
  have h4 : Kept r s4 := .ite (.setV (.frame h3)) h3
  split
  · exact .ite_fst (.ite_fst h (.ite_fst (.ite_fst h h2.planOut) h.put)) (.ite_fst h h.put)
  · exact .ite h4.startRejoin h4

theorem Kept.setLeader (h : Kept r s) {o v x2} : Kept r (setLeader o v x2 s).1 := by
  unfold Machine.setLeader
  exact .ite_fst h (.ite_fst h (.frame h))

theorem Kept.sendRelay (h : Kept r s) {r' kind fields} : Kept r (s.sendRelay r' kind fields) := by
  unfold State.sendRelay
  exact h.modLink.send

theorem Kept.modRelay (h : Kept r s) {r' f} : Kept r (s.modRelay r' f) := by
  unfold State.modRelay
  exact .frame h

theorem Kept.configThresholds (h : Kept r s) {r' first n} : Kept r (s.configThresholds r' first n) := by
  unfold State.configThresholds
  exact h.modRelay.sendRelay

theorem Kept.setThresholds (h : Kept r s) {v k'} : Kept r (setThresholds v k' s).1 := by
  unfold Machine.setThresholds
  exact .ite_fst h (.ite_fst h.put (.ite_fst h h.setV.configThresholds))

theorem Kept.countLegs (h : Kept r s) {d} : Kept r (s.countLegs d) := by
  unfold State.countLegs
  exact h.put

theorem Kept.setLeg (h : Kept r s) {l st} : Kept r (s.setLeg l st) := by
  unfold State.setLeg
  dsimp only
  split
  · exact h.note.put.countLegs
  · exact h.note.put

theorem Kept.legsToOff (h : Kept r s) {d} : Kept r (s.legsToOff d) := by
  unfold State.legsToOff
  exact .each h (fun _ _ h1 => .ite (.ite h1.modLeg.modLeg.setLeg h1.modLeg.setLeg) h1.modLeg)

theorem Kept.domainHalt (h : Kept r s) {d} : Kept r (s.domainHalt d) := by
  unfold State.domainHalt
  exact h.modDom.legsToOff

theorem Kept.domainTrip (h : Kept r s) {d cause} : Kept r (s.domainTrip d cause) := by
  unfold State.domainTrip
  exact .ite h.drive.setV.domainHalt.journalSafety.raiseSafety.gauge h

theorem Kept.checkHealthy (h : Kept r s) {l} : Kept r (s.checkHealthy l) := by
  unfold State.checkHealthy
  split
  · exact .ite h.gauge.domainTrip h.gauge
  · exact h

theorem Kept.setLegAdmin (h : Kept r s) {force v l} : Kept r (Machine.setLegAdmin force v l s).1 := by
  unfold Machine.setLegAdmin
  extract_lets st s1 s2 s3
  refine .ite_fst ?_ ?_
  · split
    · exact .ite_fst h <| .ite_fst h.put <| .ite_fst h.put.modLeg.setLeg <| .ite_fst h.put.modLeg.pair h.put.modLeg.setLeg.checkHealthy
    · exact h
  · exact .ite_fst h.put.put.modLeg.setLeg h.put.put.modLeg.pair

theorem Kept.refAt (h : Kept r s) {d at_} : Kept r (s.refAt d at_).2 := by
  unfold State.refAt
  dsimp only
  split
  · exact h
  · exact .ite_snd h h.roundDiv
  · exact .ite_snd h h.roundDiv
  · exact h.roundDiv

theorem Kept.setSetpoint (h : Kept r s) {v d} : Kept r (setSetpoint v d s).1 := by
  unfold Machine.setSetpoint
  exact .ite_fst h (.put (.ite h.refAt.modDom h))

theorem Kept.setRackOther (h : Kept r s) {v n} : Kept r (setRackOther v n s).1 := by
  unfold Machine.setRackOther
  exact .ite_fst h (.ite_fst h (.ite_fst h h.put))

theorem Kept.setTrainTile (h : Kept r s) {v m} : Kept r (setTrainTile v m s).1 := by
  unfold Machine.setTrainTile
  split
  · exact h
  · dsimp only
    split
    · exact .trainingEvent (.modModel (.windowed h (fun _ h1 => h1.put)))
    · exact .windowed h (fun _ h1 => h1.put)

theorem Kept.setFcSvnFloor (h : Kept r s) {v i} : Kept r (setFcSvnFloor v i s).1 := by
  unfold Machine.setFcSvnFloor
  exact .ite_fst h h.put

theorem Kept.setAutostart (h : Kept r s) {v e} : Kept r (setAutostart v e s).1 := by
  unfold Machine.setAutostart
  exact .ite_fst h (.frame h.put)

theorem Kept.setSrcConfig (h : Kept r s) {v i} : Kept r (setSrcConfig v i s).1 := by
  unfold Machine.setSrcConfig
  exact .ite_fst h (.ite_fst h h.put.assign)

theorem Kept.setSrcStatus (h : Kept r s) {v i} : Kept r (setSrcStatus v i s).1 := by
  unfold Machine.setSrcStatus
  exact .ite h.modSrc h

theorem Kept.ecOverflow (h : Kept r s) {n t'} : Kept r (s.ecOverflow n t') := by
  unfold State.ecOverflow
  exact .ite h.modSrc.setV.setV.raise h.modSrc.setV

theorem Kept.post (h : Kept r s) {n t' o} : Kept r (s.post n t' o) := by
  unfold State.post
  exact .assign (.ite h.modSrc.modSrc (.ite h.modSrc.modSrc.ecOverflow h.modSrc.modSrc))

theorem Kept.setSoftPend (h : Kept r s) {force v n} : Kept r (setSoftPend force v n s).1 := by
  unfold Machine.setSoftPend
  exact .ite_fst h (.each h.draw (fun _ _ h1 => h1.post))

theorem Kept.setEcHold (h : Kept r s) {t' on how} : Kept r (s.setEcHold t' on how) := by
  unfold State.setEcHold
  exact .ite h (.ite h.put.raise.arm h.put.raise.disarm.assignAll)

theorem Kept.setEcHoldAll (h : Kept r s) {v x} : Kept r (Machine.setEcHold v x s).1 := by
  unfold Machine.setEcHold
  exact h.each fun _ _ h => h.setEcHold

theorem Kept.setPortAdmin (h : Kept r s) {v i} : Kept r (setPortAdmin v i s).1 := by
  unfold Machine.setPortAdmin
  exact .ite h.put.moveLink h.put

theorem Kept.setMastPriority (h : Kept r s) {v i} : Kept r (Machine.setMastPriority v i s).1 := by
  unfold Machine.setMastPriority
  exact h.put.elect.when fun _ h => h.advertise

theorem Kept.setStippleInterval (h : Kept r s) {v x1} : Kept r (setStippleInterval v x1 s).1 := by
  unfold Machine.setStippleInterval
  exact .ite (.newInterval (.frame h.put)) (.arm (.newInterval (.frame h.put)))

theorem Kept.setLogCursor (h : Kept r s) {id v x2} : Kept r (setLogCursor id v x2 s).1 := by
  unfold Machine.setLogCursor
  exact h.modSession

theorem Kept.keepLimit (h : Kept r s) {k' old} : Kept r (s.keepLimit k' old) := by
  unfold State.keepLimit
  exact .frame h

theorem Kept.retime (h : Kept r s) {x i by_} : Kept r (s.retime x i by_) := by
  unfold State.retime
  split
  · exact h.setT
  · exact h

theorem Kept.setPlain (h : Kept r s) {p v i} : Kept r (setPlain p v i s).1 := by
  unfold Machine.setPlain
  split
  · extract_lets _ s1 s2
    have h1 : Kept r s1 := by dsimp only [s1]; split; exacts [h.keepLimit, h.keepLimit, h]
    have h2 : Kept r s2 := .each h1 (fun _ _ h2 => .each h2 (fun _ _ h3 => .ite h3.disarm h3.retime))
    exact h2.put
  · exact h

theorem Kept.setEffect (h : Kept r s) {a o p v i} : Kept r (Machine.setEffect a o p v i s).1 := by
  unfold Machine.setEffect
  split
  · exact h.setPowerState
  · exact h.setPaceMin
  · exact h.setCommonTime
  · exact h.setAdminState
  · exact h.setLeader
  · exact h.setThresholds
  · exact h.setLegAdmin
  · exact h.setSetpoint
  · exact h.setRackOther
  · exact h.setTrainTile
  · exact h.setFcSvnFloor
  · exact h.setAutostart
  · exact h.setSrcConfig
  · exact h.setSrcStatus
  · exact h.setSoftPend
  · exact h.setEcHoldAll
  · exact h.setPortAdmin
  · exact h.setMastPriority
  · exact h.setStippleInterval
  · exact h.setLogCursor
  · exact h.setPlain

theorem Kept.doSetProp (h : Kept r s) {a len v} : Kept r (doSetProp a len v s).1 := by
  unfold Machine.doSetProp
  split
  · exact h
  · split
    · exact h.setEffect
    · exact h

theorem Kept.doGetSnapshot (h : Kept r s) {a items} : Kept r (doGetSnapshot a items s).1 := by
  unfold Machine.doGetSnapshot
  exact .ite_fst h (.ite_fst h h.tick)

theorem Kept.doWatch (h : Kept r s) {a id minUs delta maxUs} : Kept r (doWatch a id minUs delta maxUs s).1 := by
  unfold Machine.doWatch
  split
  · exact h
  · exact h
  · extract_lets _ _ _
    split
    · exact h
    · split
      · exact h
      · split
        · exact .ite_fst h (.ite_fst h h.countV.modSession)
        · exact .ite_fst h (.ite_fst h.modSession h.modSession)

theorem Kept.bind (h : Kept r s) {b id} : Kept r (s.bind b id) := by
  unfold State.bind
  exact .frame h

theorem Kept.doNegotiate (h : Kept r s) {a major x2 offer} : Kept r (doNegotiate a major x2 offer s).1 := by
  unfold Machine.doNegotiate
  exact .ite_fst h (.ite_fst h (.raise (.arm (.bind (.frame h.drawRandom.setV)))))

theorem Kept.doHello (h : Kept r s) {a id token} : Kept r (doHello a id token s).1 := by
  unfold Machine.doHello
  split
  · exact .ite_fst h.bind.arm h
  · exact h

theorem Kept.hostAlive (h : Kept r s) : Kept r (s.hostAlive) := by
  unfold State.hostAlive
  exact .ite h.setV.arm.put.raise h.setV.arm

theorem Kept.doKeepalive (h : Kept r s) {a} : Kept r (doKeepalive a s).1 := by
  unfold Machine.doKeepalive
  exact .when h (fun _ h1 => h1.hostAlive)

theorem Kept.doRecall (h : Kept r s) {a port queue tag} : Kept r (doRecall a port queue tag s).1 := by
  unfold Machine.doRecall
  split
  · exact h
  · split <;> exact h

theorem Kept.doClose (h : Kept r s) {a} : Kept r (doClose a s).1 := by
  unfold Machine.doClose
  split
  · exact h.endSession
  · exact h

theorem Kept.doSubscribe (h : Kept r s) {a mask} : Kept r (doSubscribe a mask s).1 := by
  unfold Machine.doSubscribe
  split
  · exact h
  · dsimp only
    split
    · exact h.modSession
    · exact h.modSession
    · exact h.modSession
    · exact h

theorem Kept.drainBacklogN (h : Kept r s) {id n} : Kept r (s.drainBacklogN id n) := by
  induction n generalizing s with
  | zero => exact h
  | succ n ih =>
    unfold State.drainBacklogN
    split
    · split
      · exact .ite (ih h.modSession.deliver) h
      · exact h
    · exact h

theorem Kept.drainBacklog (h : Kept r s) {id} : Kept r (s.drainBacklog id) := by
  unfold State.drainBacklog
  exact h.drainBacklogN

theorem Kept.doReadEvents (h : Kept r s) {a ack count} : Kept r (doReadEvents a ack count s).1 := by
  unfold Machine.doReadEvents
  split
  · exact h
  · exact .ite_fst h h.modSession.drainBacklog.modSession

theorem Kept.awaitStart (h : Kept r s) {o ids} : Kept r (s.awaitStart o ids) := by
  unfold State.awaitStart
  exact .hold (.frame h)

theorem Kept.placePending (h : Kept r s) {ids joint} : Kept r (s.placePending ids joint) := by
  unfold State.placePending
  exact .each h (fun _ _ h1 => .ite h1 h1.setV)

theorem Kept.doStartSequence (h : Kept r s) {a} : Kept r (doStartSequence a s).1 := by
  unfold Machine.doStartSequence
  extract_lets _ _ _ _ _ _ _
  split
  · exact h
  · split
    · exact h
    · split
      · split
        · exact h
        · split
          · exact h.beginWait.awaitStart
          · exact h.awaitStart
          · exact h.placePending.awaitStart
          · exact h.placePending.awaitStart
          · exact h
          · exact h
      · exact .ite_fst h h.beginWait.placePending.awaitStart

theorem Kept.doStopSequence (h : Kept r s) {a} : Kept r (doStopSequence a s).1 := by
  unfold Machine.doStopSequence
  exact .ite_fst h (.ite_fst h.stopScopes (.frame h.stopScopes))

theorem Kept.modRail (h : Kept r s) {k' f} : Kept r (s.modRail k' f) := by
  unfold State.modRail
  exact .frame h

theorem Kept.domainStart (h : Kept r s) {d ramp} : Kept r (s.domainStart d ramp) := by
  unfold State.domainStart
  exact .each h.modDom (fun _ _ h1 => h1.setLeg)

theorem Kept.enableRail (h : Kept r s) {k' e} : Kept r (s.enableRail k' e) := by
  unfold State.enableRail
  exact .rehold (.ite h.modRail.drive h.modRail.domainStart)

theorem Kept.doEnableRail (h : Kept r s) {a} : Kept r (Machine.doEnableRail a s).1 := by
  unfold Machine.doEnableRail
  refine .ite_fst h ?_
  split
  · exact h
  · refine .ite_fst h ?_
    split
    · exact h.beginApply.modRail.enableRail.modRail.pair
    · exact h.modRail.pair
    · exact h

theorem Kept.domainStop (h : Kept r s) {d ramp} : Kept r (s.domainStop d ramp) := by
  unfold State.domainStop
  exact h.modDom

theorem Kept.disableRail (h : Kept r s) {k'} : Kept r (s.disableRail k') := by
  unfold State.disableRail
  extract_lets _ s1 s2 s3
  have h1 : Kept r s1 := h.modRail
  have h2 : Kept r s2 := .ite h1.drive (.ite h1.domainStop h1.domainHalt)
  have h3 : Kept r s3 := by dsimp only [s3]; split; exacts [h2.finish, h2]
  exact h3.rehold

theorem Kept.dropOffRail (h : Kept r s) {k'} : Kept r (s.dropOffRail k') := by
  unfold State.dropOffRail
  exact h.modOffRuns

theorem Kept.checkUp (h : Kept r s) {i} : Kept r (s.checkUp i) := by
  unfold State.checkUp
  exact .ite h.setScope.leaveRun.resolveStart h

theorem Kept.doDisableRail (h : Kept r s) {a} : Kept r (doDisableRail a s).1 := by
  unfold Machine.doDisableRail
  extract_lets _ _ s1 s2 s3 s4
  have h1 : Kept r s1 := h.modRail
  have h2 : Kept r s2 := by dsimp only [s2]; split; exacts [h1.finish, h1]
  have h3 : Kept r s3 := .ite h2.disableRail h2
  have h4 : Kept r s4 := h3.dropOffRail
  exact .ite_fst h h4.rehold.offNext.checkUp

theorem Kept.doFurl (h : Kept r s) {a deadline} : Kept r (doFurl a deadline s).1 := by
  unfold Machine.doFurl
  exact .ite_fst h (.ite_fst h (.ite_fst h.startFurl (.hold (.frame h.startFurl))))

theorem Kept.doLoadSequence (h : Kept r s) {a table generation entries} : Kept r (doLoadSequence a table generation entries s).1 := by
  unfold Machine.doLoadSequence
  split
  · exact h
  · split
    · exact h
    · split
      · exact h
      · exact .ite_fst h (.ite_fst h (.frame h.draw))

theorem Kept.doReadFirstFault (h : Kept r s) {start count} : Kept r (doReadFirstFault start count s).1 := by
  unfold Machine.doReadFirstFault
  exact .ite_fst h h

theorem Kept.doClearFirstFault (h : Kept r s) {a} : Kept r (doClearFirstFault a s).1 := by
  unfold Machine.doClearFirstFault
  exact h.draw.draw.writeFault

theorem Kept.doSetBudget (h : Kept r s) {a v} : Kept r (doSetBudget a v s).1 := by
  unfold Machine.doSetBudget
  dsimp only
  split
  · exact h
  · split
    · exact h
    · exact .ite_fst h h.put.modNode.settleNode

theorem Kept.doSetWeight (h : Kept r s) {a w} : Kept r (doSetWeight a w s).1 := by
  unfold Machine.doSetWeight
  exact .ite_fst h (.ite_fst h (.ite_fst h h.put))

theorem Kept.doSetMinGrant (h : Kept r s) {a v} : Kept r (doSetMinGrant a v s).1 := by
  unfold Machine.doSetMinGrant
  dsimp only
  split
  · exact h
  · split
    · exact h
    · split
      · exact h
      · split
        · exact h
        · exact .ite_fst h (.ite_fst h h.put)

theorem Kept.grantRecord (h : Kept r s) {n} : Kept r (s.grantRecord n).2 := by
  unfold State.grantRecord
  exact h.whole

theorem Kept.memberRecord (h : Kept r s) {rack epoch x} : Kept r (s.memberRecord rack epoch x).2 := by
  unfold State.memberRecord
  exact h.whole.draw

theorem Kept.doReadGrants (h : Kept r s) {a} : Kept r (Machine.doReadGrants a s).1 := by
  unfold Machine.doReadGrants
  extract_lets _ len here kids shown
  refine .ite_fst h ?_
  clear_value shown kids
  split
  rename_i e1
  split
  rename_i e2
  refine Kept.of_snd (Kept.foldl_snd (h.grantRecord.of_snd e1) fun p k h => ?_) e2
  split
  rename_i e3
  refine Kept.of_snd ?_ e3
  split
  · exact h.grantRecord
  · exact h.memberRecord

theorem Kept.doReef (h : Kept r s) {a level duration} : Kept r (doReef a level duration s).1 := by
  unfold Machine.doReef
  split
  · exact h
  · exact .ite_fst h (.each h (fun _ _ h1 => h1.setT.setReef))

theorem Kept.doReleaseReef (h : Kept r s) {a} : Kept r (doReleaseReef a s).1 := by
  unfold Machine.doReleaseReef
  split
  · exact h
  · exact .each h (fun _ _ h1 => h1.disarm.clearReef)

theorem Kept.dropPromotion (h : Kept r s) {m} : Kept r (s.dropPromotion m) := by
  unfold State.dropPromotion
  exact .frame h

theorem Kept.doLoadModel (h : Kept r s) {a x} : Kept r (Machine.doLoadModel a x s).1 := by
  unfold Machine.doLoadModel
  refine .ite_fst h <| .ite_fst h ?_
  split
  · exact .ite_fst h <| .ite_fst h <| .ite_fst h <| .ite_fst h h.dropPromotion.modModel.hold.setSlot
  · exact .ite_fst h <| .ite_fst h h.modModel.pair
  · exact .ite_fst h h.modModel.setSlot
  · exact .ite_fst h h.unload
  · exact h

theorem Kept.doActivateModel (h : Kept r s) {a mask} : Kept r (doActivateModel a mask s).1 := by
  unfold Machine.doActivateModel
  dsimp only
  split
  · exact h
  · split
    · exact h
    · split
      · exact h
      · split
        · exact h
        · exact .frame h

theorem Kept.emptySlot (h : Kept r s) {m} : Kept r (s.emptySlot m) := by
  unfold State.emptySlot
  exact h.modModel.put.put.put.put.setSlot.disarm

theorem Kept.doRetireModel (h : Kept r s) {a} : Kept r (doRetireModel a s).1 := by
  unfold Machine.doRetireModel
  exact .ite_fst h (.ite_fst h (.frame h.dropPromotion.emptySlot))

theorem Kept.domainForecast (h : Kept r s) {d} : Kept r (s.domainForecast d).2 := by
  unfold State.domainForecast
  exact h.whole

theorem Kept.agreed (h : Kept r s) {l none_} : Kept r (s.agreed l none_).2 := by
  unfold State.agreed
  split
  · exact h
  · exact .ite_snd h h.draw

theorem Kept.wholes (h : Kept r s) {l} : Kept r (s.wholes l).2 := by
  induction l generalizing s with
  | nil => exact h
  | cons q l ih => exact ih h.whole

theorem Kept.accelForecast (h : Kept r s) {a} : Kept r (s.accelForecast a).2 := by
  unfold State.accelForecast
  exact h.agreed.agreed.wholes.whole

theorem Kept.doQueryForecast (h : Kept r s) {a} : Kept r (doQueryForecast a s).1 := by
  unfold Machine.doQueryForecast
  exact .ite_fst h.domainForecast (.ite_fst h.accelForecast h)

theorem Kept.armCandidate (h : Kept r s) {m} : Kept r (s.armCandidate m) := by
  unfold State.armCandidate
  exact .ite h.armOnce h.disarm

theorem Kept.doSetTraining (h : Kept r s) {a mode persist lr drift under margin interval sample} : Kept r (doSetTraining a mode persist lr drift under margin interval sample s).1 := by
  unfold Machine.doSetTraining
  extract_lets _ _ _
  split
  · exact h
  · split
    · exact h
    · split
      · exact h
      · split
        · exact .when (.armCandidate (.disarm (.ite h.modModel (.frame h.modModel)))) (fun _ h1 => h1.trainingEvent)
        · exact h

theorem Kept.doReadModelStats (h : Kept r s) {a} : Kept r (doReadModelStats a s).1 := by
  unfold Machine.doReadModelStats
  exact .ite_fst h (.ite_fst h h)

theorem Kept.lockEnter (h : Kept r s) {c} : Kept r (s.lockEnter c) := by
  unfold State.lockEnter
  exact .syncGroup (.each (.frame h) (fun _ _ h1 => h1.put.put.modMember))

theorem Kept.tableAdd (h : Kept r s) {group grid} : Kept r (s.tableAdd group grid) := by
  unfold State.tableAdd
  exact .ite h (.frame h)

theorem Kept.ratTree (h : Kept r s) {vc kind dst serial body} : Kept r (s.ratTree vc kind dst serial body) := by
  unfold State.ratTree
  split
  · exact h.ratSend
  · exact h

theorem Kept.doJoinGroup (h : Kept r s) {a mask grid} : Kept r (Machine.doJoinGroup a mask grid s).1 := by
  unfold Machine.doJoinGroup
  have held {l o} : Kept r (s.hold l o) := h.hold
  exact .ite_fst h <| .ite_fst h <| .ite_fst h <| .ite_fst h <| .ite_fst h <| .ite_fst h <| .ite_fst h <| .ite_fst h <| .ite_fst h <|
    .ite_fst h <| .ite_fst held.frame.tableAdd.lockEnter held.frame.ratTree

theorem Kept.doLeaveGroup (h : Kept r s) {a mask} : Kept r (doLeaveGroup a mask s).1 := by
  unfold Machine.doLeaveGroup
  exact .ite_fst h (.ite_fst h (.ite_fst h (.frame (.each h.hold (fun _ _ h1 => h1.modMember)))))

theorem Kept.doReadGroup (h : Kept r s) {a} : Kept r (doReadGroup a s).1 := by
  unfold Machine.doReadGroup
  exact .ite_fst h (.ite_fst h h)

theorem Kept.putPlans (h : Kept r s) {l} : Kept r (s.putPlans l) := by
  unfold State.putPlans
  exact .put (.frame h)

theorem Kept.putPlan (h : Kept r s) {e} : Kept r (s.putPlan e) := by
  unfold State.putPlan
  exact h.putPlans

theorem Kept.planRoom (h : Kept r s) : Kept r (s.planRoom).1 := by
  unfold State.planRoom
  split
  · exact h
  · split
    · exact h.putPlans.raise
    · exact h

theorem Kept.loadPlan (h : Kept r s) {e} : Kept r (s.loadPlan e) := by
  have room : Kept r s.planRoom.1 := h.planRoom
  unfold State.loadPlan
  dsimp only
  split
  · exact h.putPlan
  · split
    · exact (room.of_fst ‹_›).putPlans
    · exact room.of_fst ‹_›

theorem Kept.doLoadPhasePlan (h : Kept r s) {a entries} : Kept r (doLoadPhasePlan a entries s).1 := by
  unfold Machine.doLoadPhasePlan
  exact .ite_fst h (.ite_fst h (.ite_fst h (.each h (fun _ _ h1 => h1.loadPlan))))

theorem Kept.doClearPhasePlan (h : Kept r s) {a kind key} : Kept r (doClearPhasePlan a kind key s).1 := by
  unfold Machine.doClearPhasePlan
  split
  · exact h
  · split
    · split
      · exact h.putPlans
      · exact h
    · exact h.putPlans
    · exact h.putPlans
    · exact h

theorem Kept.doReadPhasePlan (h : Kept r s) {a first count} : Kept r (doReadPhasePlan a first count s).1 := by
  unfold Machine.doReadPhasePlan
  exact .ite_fst h h

theorem Kept.collective (h : Kept r s) {o kind opId scope timeout rop value} : Kept r (s.collective o kind opId scope timeout rop value).1 := by
  unfold State.collective
  split
  · exact h
  · split
    · exact h
    · split
      · exact .ite_fst h (.putOps (.frame h))
      · dsimp only
        split
        · exact .ite_fst h (.ite_fst h.setOp h.putOps)
        · exact .ite_fst h h.putOps

theorem Kept.doBarrier (h : Kept r s) {a x} : Kept r (doBarrier a x s).1 := by
  unfold Machine.doBarrier
  split
  · exact h.collective
  · exact h
  · exact h

theorem Kept.arrive (h : Kept r s) {a body eff} : Kept r (s.arrive a body eff) := by
  have taken : Kept r (s.take a body eff).1 := h.take
  unfold State.arrive
  split
  · exact taken.of_fst ‹_›
  · exact (taken.of_fst ‹_›).enqueue

theorem Kept.commit (h : Kept r s) {o} : Kept r (s.commit o) := by
  unfold State.commit
  exact h.journalCommand.touch

theorem Kept.cycleScope (h : Kept r s) {a} : Kept r (s.cycleScope a).1 := by
  unfold State.cycleScope
  refine .ite_fst h ?_
  dsimp only
  split
  · exact h.stopScopes.beginWait.pair
  · exact h.stopScopes.placePending.pair
  · exact h.stopScopes.placePending.pair
  · exact h.stopScopes
  · exact h.stopScopes

theorem Kept.clearCounters (h : Kept r s) : Kept r (s.clearCounters) := by
  unfold State.clearCounters
  exact .put (.each (.each h (fun _ _ h1 => h1.put.put)) (fun _ _ h1 => h1.put.put.put))

theorem Kept.resetAct (h : Kept r s) {kind mask deadline} : Kept r (s.resetAct kind mask deadline).1 := by
  unfold State.resetAct
  dsimp only
  split
  · exact .foldl_fst h (fun _ _ h1 => h1.cycleScope)
  · exact .each h (fun _ _ h1 => h1.startFurl)
  · exact h.clearCounters

theorem Kept.opAct (h : Kept r s) {m} : Kept r (s.opAct m) := by
  unfold State.opAct
  split
  · exact h.arrive
  · exact h.commit.resetAct.opReply.recommit
  · exact h

theorem Kept.opBegin (h : Kept r s) {x m root} : Kept r (s.opBegin x m root) := by
  unfold State.opBegin
  exact .opAct (.opDown (.frame h.putOps))

theorem Kept.opRoot (h : Kept r s) {kind issuer payload origins} : Kept r (s.opRoot kind issuer payload origins) := by
  unfold State.opRoot
  exact h.countV.opBegin

theorem Kept.ratPacket (h : Kept r s) {p vc kind dst serial before values h' body} : Kept r (s.ratPacket p vc kind dst serial before values h' body) := by
  unfold State.ratPacket
  exact h.ratOut

theorem Kept.initiated (h : Kept r s) {o a kind scope payload body} : Kept r (s.initiated o a kind scope payload body).1 := by
  unfold State.initiated
  split
  · exact h
  · split
    · exact h
    · split
      · exact h.opRoot
      · dsimp only
        split
        · exact h.putOps.ratPacket
        · exact h.putOps

theorem Kept.remoteSend (h : Kept r s) {r'} : Kept r (s.remoteSend r') := by
  unfold State.remoteSend
  split
  · exact h.ratPacket
  · exact .frame h

theorem Kept.doBroadcast (h : Kept r s) {a x hdr inner} : Kept r (doBroadcast a x hdr inner s).1 := by
  unfold Machine.doBroadcast
  extract_lets _
  split
  · split
    · exact h
    · exact .ite_fst h.initiated (.ite_fst h (.ite_fst h (.remoteSend (.countV (.frame h)))))
  · exact h
  · exact h

theorem Kept.doReduce (h : Kept r s) {a x} : Kept r (doReduce a x s).1 := by
  unfold Machine.doReduce
  split
  · exact h.collective
  · exact h
  · exact h

theorem Kept.doSnapshotGlobal (h : Kept r s) {a x} : Kept r (doSnapshotGlobal a x s).1 := by
  unfold Machine.doSnapshotGlobal
  extract_lets _ _ _
  split
  · split
    · exact h
    · split
      · exact h
      · dsimp only
        split
        · exact .initiated (.frame h)
        · exact h
  · exact h
  · split <;> exact h
  · split
    · exact .frame h
    · exact h
  · exact h

theorem Kept.doResetGlobal (h : Kept r s) {a x} : Kept r (doResetGlobal a x s).1 := by
  unfold Machine.doResetGlobal
  split
  · exact .ite_fst h h.initiated
  · exact h
  · exact h

theorem Kept.doLoadProgram (h : Kept r s) {a x} : Kept r (Machine.doLoadProgram a x s).1 := by
  unfold Machine.doLoadProgram
  refine .ite_fst h <| .ite_fst h ?_
  split
  · exact .ite_fst h <| .ite_fst h <| .ite_fst h <| .ite_fst h h.modEngine.hold.setEngine
  · exact .ite_fst h <| .ite_fst h h.modEngine.pair
  · exact .ite_fst h h.modEngine.pair
  · exact .ite_fst h h.unloadEngine
  · exact h

theorem Kept.doStartProgram (h : Kept r s) {a} : Kept r (Machine.doStartProgram a s).1 := by
  unfold Machine.doStartProgram
  exact .ite_fst h <| .ite_fst h <| .ite_fst h <| .ite_fst h.startEngine.modEngine.pair h.startEngine.pair

theorem Kept.dropProgram (h : Kept r s) {e} : Kept r (s.dropProgram e) := by
  unfold State.dropProgram
  exact h.modEngine.setV.put.put.put

theorem Kept.doStopProgram (h : Kept r s) {a} : Kept r (doStopProgram a s).1 := by
  unfold Machine.doStopProgram
  extract_lets _ _ s1 s2
  have h1 : Kept r s1 := h.dropProgram.setEngine
  have h2 : Kept r s2 := h1.put
  split
  · exact h
  · split
    · exact .ite h.stopEngine h
    · exact .ite_fst h (.frame h2)
    · exact h

theorem Kept.doReadEngine (h : Kept r s) {a} : Kept r (doReadEngine a s).1 := by
  unfold Machine.doReadEngine
  exact .ite_fst h (.ite_fst h h)

theorem Kept.doRaiseEvent (h : Kept r s) {a len payload} : Kept r (doRaiseEvent a len payload s).1 := by
  unfold Machine.doRaiseEvent
  exact .ite_fst h h.raiseRec.trigger

theorem Kept.doSetDrive (h : Kept r s) {a cls mode value} : Kept r (doSetDrive a cls mode value s).1 := by
  unfold Machine.doSetDrive
  extract_lets _ _ _ s1 _ s2
  have h1 : Kept r s1 := h.put.modDrv
  have h2 : Kept r s2 := .ite h1.enterDrive h1
  exact .ite_fst h (.ite_fst h (.ite_fst h (.ite h2.retarget h2)))

theorem Kept.doSetValve (h : Kept r s) {a mode value} : Kept r (doSetValve a mode value s).1 := by
  unfold Machine.doSetValve
  exact .ite_fst h (.ite_fst h (.ite_fst h (.ite_fst h h.setV.setV.syncValve)))

theorem Kept.firmwareFurl (h : Kept r s) {i deadline} : Kept r (s.firmwareFurl i deadline) := by
  unfold State.firmwareFurl
  exact .ite h.countV.startFurl.commit (.hold (.frame h.countV.startFurl.commit))

theorem Kept.holdLeak (h : Kept r s) {z action} : Kept r (s.holdLeak z action) := by
  unfold State.holdLeak
  extract_lets _ s1 s2 s3 s4 _ s5 s6
  have h1 : Kept r s1 := h.put.journalSafety
  have h2 : Kept r s2 := h1.stopTrials
  have h3 : Kept r s3 := h2.stopTrials
  have h4 : Kept r s4 := .ite h3.syncValves.retargetAll.judgeFlow h3
  have h5 : Kept r s5 := .ite (.ite h4.firmwareFurl h4) (.each h4 (fun _ _ h5 => h5.firmwareFurl))
  have h6 : Kept r s6 := h5.armOnce
  exact .ite h (.ite (.ite h6.cutFeeds h6) h5)

theorem Kept.zoneTo (h : Kept r s) {z st action} : Kept r (s.zoneTo z st action) := by
  unfold State.zoneTo
  exact h.put.holdLeak.raiseAt

theorem Kept.escalate (h : Kept r s) {z} : Kept r (s.escalate z) := by
  unfold State.escalate
  exact .ite h.zoneTo.disarm h

theorem Kept.zoneIsWet (h : Kept r s) {z st action} : Kept r (s.zoneIsWet z st action) := by
  unfold State.zoneIsWet
  extract_lets s1 s2
  have h1 : Kept r s1 := h.abortSleep.zoneTo.disarm.disarm
  have h2 : Kept r s2 := .ite h1.arm h1
  exact .ite (.each h2 (fun _ _ h3 => h3.escalate)) h2

theorem Kept.doIsolateLeak (h : Kept r s) {a action} : Kept r (doIsolateLeak a action s).1 := by
  unfold Machine.doIsolateLeak
  exact .ite_fst h (.each h (fun _ _ h1 => .zoneIsWet (.ite h1 h1.modZone)))

theorem Kept.releaseZone (h : Kept r s) {z} : Kept r (s.releaseZone z) := by
  unfold State.releaseZone
  exact .judgeFlow (.retargetAll (.syncValves (.each (.when h.put (fun _ h1 => h1.disarm)) (fun _ _ h1 => .ite h1.setV h1))))

theorem Kept.doResetLeakZone (h : Kept r s) {a} : Kept r (doResetLeakZone a s).1 := by
  unfold Machine.doResetLeakZone
  exact .ite_fst h (.ite_fst h.put.releaseZone.disarm (.ite_fst h h))

theorem Kept.doLoadFanTable (h : Kept r s) {a inputs points thermals curve} : Kept r (doLoadFanTable a inputs points thermals curve s).1 := by
  unfold Machine.doLoadFanTable
  exact .ite_fst h (.ite_fst h (.ite h.modDrv.retarget h.modDrv))

theorem Kept.doSetWaterMode (h : Kept r s) {a mode target weight} : Kept r (doSetWaterMode a mode target weight s).1 := by
  unfold Machine.doSetWaterMode
  exact .ite_fst h h.put.put.put

theorem Kept.evidence (h : Kept r s) {t' nonce} : Kept r (s.evidence t' nonce).2 := by
  unfold State.evidence
  exact .ite_snd h.draw h.draw.draw

theorem Kept.doAttest (h : Kept r s) {a tile index offset nonce} : Kept r (Machine.doAttest a tile index offset nonce s).1 := by
  unfold Machine.doAttest
  refine .ite_fst h <| .ite_fst h ?_
  split
  · exact .ite_fst h (.pair (h.evidence (nonce := _)))
  · exact .ite_fst h <| .ite_fst h h
  · exact h

theorem Kept.doRevokeKey (h : Kept r s) {a} : Kept r (doRevokeKey a s).1 := by
  unfold Machine.doRevokeKey
  exact .ite_fst h (.ite_fst h (.ite_fst h (.ite_fst h (.ite_fst h (.frame h.norWrite.hold)))))

theorem Kept.doReadKeys (h : Kept r s) {a} : Kept r (doReadKeys a s).1 := by
  unfold Machine.doReadKeys
  exact .ite_fst h h

theorem Kept.eraseStage (h : Kept r s) : Kept r (s.eraseStage) := by
  unfold State.eraseStage
  exact .put (.frame h)

theorem Kept.doOpenStage (h : Kept r s) {a total resume} : Kept r (doOpenStage a total resume s).1 := by
  unfold Machine.doOpenStage
  extract_lets _ _ _ s1 _
  have h1 : Kept r s1 := .ite h h.eraseStage
  split
  · exact h
  · split
    · exact h
    · split
      · exact h
      · exact .ite_fst (.setStage (.put (.eraseStage (.frame h)))) (.setStage (.put (.frame h1)))

theorem Kept.doWriteStage (h : Kept r s) {a offset bytes} : Kept r (doWriteStage a offset bytes s).1 := by
  unfold Machine.doWriteStage
  exact .ite_fst h (.ite_fst h (.ite_fst h (.frame h)))

theorem Kept.doVerifyStage (h : Kept r s) {a} : Kept r (doVerifyStage a s).1 := by
  unfold Machine.doVerifyStage
  exact .ite_fst h (.ite_fst h (.ite_fst h (.setStage (.hold (.frame h)))))

theorem Kept.doPlanUpdate (h : Kept r s) {a} : Kept r (doPlanUpdate a s).1 := by
  unfold Machine.doPlanUpdate
  exact .ite_fst h (.ite_fst h h.planResults)

theorem Kept.writeConfirm (h : Kept r s) {r' o} : Kept r (s.writeConfirm r' o) := by
  unfold State.writeConfirm
  exact h.norWrite.setV

theorem Kept.doConfirm (h : Kept r s) {a} : Kept r (doConfirm a s).1 := by
  unfold Machine.doConfirm
  split
  · exact h
  · split
    · exact h.writeConfirm
    · exact h

theorem Kept.doReadPlates (h : Kept r s) {a} : Kept r (doReadPlates a s).1 := by
  unfold Machine.doReadPlates
  exact .ite_fst h (.foldl_snd h (fun _ _ h1 => h1.draws_))

theorem Kept.queueBus (h : Kept r s) {a op p work txns retries} : Kept r (s.queueBus a op p work txns retries).1 := by
  unfold State.queueBus
  exact .ite_fst h (.ite_fst h h.modBus.countQueued)

theorem Kept.doBusTransfer (h : Kept r s) {a retries segs} : Kept r (doBusTransfer a retries segs s).1 := by
  unfold Machine.doBusTransfer
  split
  · exact h
  · exact .ite_fst h (.ite_fst h h.queueBus)

theorem Kept.actRec (h : Kept r s) {p} : Kept r (s.actRec p) := by
  unfold State.actRec
  exact .each h.modBus (fun _ _ h1 => .ite h1.setSwitch (.ite h1.beginApply.setSwitch h1.beginApply))

theorem Kept.doBusRecover (h : Kept r s) {a} : Kept r (doBusRecover a s).1 := by
  unfold Machine.doBusRecover
  split
  · exact h
  · extract_lets _ _ _ s1
    have h1 : Kept r s1 := h.modBus
    exact .ite_fst h (.ite_fst h.setSwitch (.ite_fst h.setSwitch.busAnswer (.ite h1 h1.actRec)))

theorem Kept.applyConfig (h : Kept r s) {p} : Kept r (s.applyConfig p) := by
  unfold State.applyConfig
  split
  · exact h.put.modBus
  · exact h

theorem Kept.doConfigureBus (h : Kept r s) {a block} : Kept r (doConfigureBus a block s).1 := by
  unfold Machine.doConfigureBus
  exact .ite_fst h (.ite_fst h.put (.ite h.modBus.applyConfig h.modBus))

theorem Kept.doPmbusRead (h : Kept r s) {a addr page code} : Kept r (doPmbusRead a addr page code s).1 := by
  unfold Machine.doPmbusRead
  split
  · exact h
  · exact h
  · exact .ite_fst h h.queueBus

theorem Kept.doPmbusWrite (h : Kept r s) {a addr page code value} : Kept r (doPmbusWrite a addr page code value s).1 := by
  unfold Machine.doPmbusWrite
  split
  · exact h
  · exact .ite_fst h (.ite_fst h h.queueBus)

theorem Kept.doTriggerRecorder (h : Kept r s) {a post} : Kept r (doTriggerRecorder a post s).1 := by
  unfold Machine.doTriggerRecorder
  exact .ite_fst h (.ite_fst h h.recTrigger)

theorem Kept.dropWaits (h : Kept r s) : Kept r (s.dropWaits) := by
  unfold State.dropWaits
  exact .ite h (.ite (.raise (.setV (.put (.frame h)))) (.put (.frame h)))

theorem Kept.closeFrame (h : Kept r s) : Kept r (s.closeFrame) := by
  unfold State.closeFrame
  dsimp only
  split
  · exact h
  · exact .ite h (.dropWaits (.frame (.frame h)))

theorem Kept.freeze (h : Kept r s) {z} : Kept r (s.freeze z) := by
  unfold State.freeze
  exact .raise (.disarm (.frame h.closeFrame.put.put.put))

theorem Kept.doFreezeRecorder (h : Kept r s) {a} : Kept r (doFreezeRecorder a s).1 := by
  unfold Machine.doFreezeRecorder
  exact .ite_fst h (.ite_fst h (.ite_fst h h.freeze))

theorem Kept.resume (h : Kept r s) : Kept r (s.resume) := by
  unfold State.resume
  exact .raise (.disarm (.setV (.put (.put (.put (.frame h))))))

theorem Kept.doReleaseRecorder (h : Kept r s) {a} : Kept r (doReleaseRecorder a s).1 := by
  unfold Machine.doReleaseRecorder
  exact .ite_fst h (.ite_fst h.resume h)

theorem Kept.exportPump (h : Kept r s) {x} : Kept r (s.exportPump x) := by
  unfold State.exportPump
  exact .frame (.each h (fun _ _ h1 => h1.ratTree))

theorem Kept.doExportRecorder (h : Kept r s) {a path content id first last taddr serial bufs} : Kept r (doExportRecorder a path content id first last taddr serial bufs s).1 := by
  unfold Machine.doExportRecorder
  extract_lets _ _ s1 _ s2
  have h1 : Kept r s1 := h.hold
  have h2 : Kept r s2 := h1.of_core rfl rfl rfl rfl rfl
  exact .ite_fst h (.ite_fst h (.ite_fst h (.ite_fst (.frame h1) (.ite h2.exportPump h2))))

theorem Kept.doReadStipple (h : Kept r s) {a start section_ count} : Kept r (Machine.doReadStipple a start section_ count s).1 := by
  unfold Machine.doReadStipple
  refine .ite_fst h ?_
  dsimp only
  split
  · exact h
  · exact h

theorem Kept.armPoint (h : Kept r s) {p x} : Kept r (s.armPoint p x) := by
  unfold State.armPoint
  exact .pointEvent (.logAdd (.arm (.setPoint (.frame h))))

theorem Kept.doInject (h : Kept r s) {a x} : Kept r (doInject a x s).1 := by
  unfold Machine.doInject
  extract_lets _
  split
  · exact .ite_fst h (.ite_fst h (.ite_fst h (.ite_fst h (.ite_fst h h.armPoint))))
  · exact .ite_fst h (.ite_fst h h.pointIdle.pointEvent)
  · exact h

theorem Kept.beginTest (h : Kept r s) {test arg o} : Kept r (s.beginTest test arg o) := by
  unfold State.beginTest
  dsimp only
  split
  · exact h.startFurl
  · exact h.setV.syncValve
  · exact .ite h.setV.retarget h
  · exact h

theorem Kept.doSelftest (h : Kept r s) {a test arg} : Kept r (doSelftest a test arg s).1 := by
  unfold Machine.doSelftest
  extract_lets _ _ _ _ s1 _
  have h1 : Kept r s1 := h.beginTest
  split
  · exact h
  · exact .ite_fst h (.ite_fst h (.ite_fst h (.ite_fst h (.beginApply (.hold (.frame h1))))))

theorem Kept.calBegins (h : Kept r s) {o} : Kept r (s.calBegins o) := by
  unfold State.calBegins
  split
  · exact h.beginApply
  · exact h

theorem Kept.addCal (h : Kept r s) {o cal object} : Kept r (s.addCal o cal object) := by
  unfold State.addCal
  exact .frame (.ite h h.calBegins)

theorem Kept.doCalibrate (h : Kept r s) {a cal} : Kept r (doCalibrate a cal s).1 := by
  unfold Machine.doCalibrate
  exact .ite_fst h (.ite_fst h (.ite_fst h h.addCal.hold))

theorem Kept.doSetMaintenance (h : Kept r s) {a on duration} : Kept r (doSetMaintenance a on duration s).1 := by
  unfold Machine.doSetMaintenance
  exact .ite_fst h (.ite_fst (.when h.arm (fun _ h1 => h1.raise)) h.endMaintenance)

theorem Kept.effectOf (h : Kept r s) {a b} : Kept r (Machine.effectOf a b s).1 := by
  unfold Machine.effectOf
  split
  · exact h
  · exact h
  · exact h.doGetProp
  · exact h.doSetProp
  · exact h.doGetSnapshot
  · exact h.doWatch
  · exact h.doNegotiate
  · exact h.doHello
  · exact h.doKeepalive
  · exact h.doRecall
  · exact h.doClose
  · exact h.doSubscribe
  · exact h.doReadEvents
  · exact h.doStartSequence
  · exact h.doStopSequence
  · exact h.doEnableRail
  · exact h.doDisableRail
  · exact h.doFurl
  · exact h.doLoadSequence
  · exact h.doReadFirstFault
  · exact h.doClearFirstFault
  · exact h.doSetBudget
  · exact h.doSetWeight
  · exact h.doSetMinGrant
  · exact h.doReadGrants
  · exact h.doReef
  · exact h.doReleaseReef
  · exact h.doLoadModel
  · exact h.doActivateModel
  · exact h.doRetireModel
  · exact h.doQueryForecast
  · exact h.doSetTraining
  · exact h.doReadModelStats
  · exact h.doJoinGroup
  · exact h.doLeaveGroup
  · exact h.doReadGroup
  · exact h.doLoadPhasePlan
  · exact h.doClearPhasePlan
  · exact h.doReadPhasePlan
  · exact h.doBarrier
  · exact h.doBroadcast
  · exact h.doReduce
  · exact h.doSnapshotGlobal
  · exact h.doResetGlobal
  · exact h.doLoadProgram
  · exact h.doStartProgram
  · exact h.doStopProgram
  · exact h.doReadEngine
  · exact h.doRaiseEvent
  · exact h.doSetDrive
  · exact h.doSetDrive
  · exact h.doSetValve
  · exact h.doIsolateLeak
  · exact h.doResetLeakZone
  · exact h.doLoadFanTable
  · exact h.doSetWaterMode
  · exact h.doAttest
  · exact h.doRevokeKey
  · exact h.doReadKeys
  · exact h.doOpenStage
  · exact h.doWriteStage
  · exact h.doVerifyStage
  · exact h.doPlanUpdate
  · exact h.doEtch
  · exact h.doActivate
  · exact h.doConfirm
  · exact h.doReadPlates
  · exact h.doBusTransfer
  · exact h.doBusRecover
  · exact h.doConfigureBus
  · exact h.doPmbusRead
  · exact h.doPmbusWrite
  · exact h.doTriggerRecorder
  · exact h.doFreezeRecorder
  · exact h.doReleaseRecorder
  · exact h.doExportRecorder
  · exact h.doReadStipple
  · exact h.doInject
  · exact h.doSelftest
  · exact h.doCalibrate
  · exact h.doSetMaintenance

theorem Kept.applyFirst (h : Kept r s) : Kept r (s.applyFirst) := by
  unfold State.applyFirst
  split
  · exact .ite (.ite (.outcome (.touched (.effectOf (.frame h)))) (.outcome (.frame h))) h
  · exact h

theorem Kept.applyReady (h : Kept r s) {n} : Kept r (s.applyReady n) := by
  induction n generalizing s with
  | zero => exact h
  | succ n ih => exact ih h.applyFirst

theorem Kept.committedNow (h : Kept r s) : Kept r (s.committedNow) := by
  unfold State.committedNow
  exact h.recommit.applyReady.settleHandovers.settleOps

theorem Kept.dispatch (h : Kept r s) {w} : Kept r (s.dispatch w) := by
  unfold State.dispatch
  dsimp only
  split
  · exact .run (.frame h) (fun _ h1 => h1.effectOf)
  · exact .frame h

theorem Kept.dispatchSafety (h : Kept r s) {n} : Kept r (s.dispatchSafety n) := by
  induction n generalizing s with
  | zero => exact h
  | succ n ih =>
    unfold State.dispatchSafety
    exact .ite h (by split; exacts [ih h.dispatch, h])

theorem Kept.dispatchAged (h : Kept r s) {n} : Kept r (s.dispatchAged n) := by
  induction n generalizing s with
  | zero => exact h
  | succ n ih =>
    unfold State.dispatchAged
    exact .ite h (by split; exacts [ih h.dispatch.dispatchSafety, h])

theorem Kept.dispatchClass (h : Kept r s) {k c n} : Kept r (s.dispatchClass k c n) := by
  induction n generalizing s with
  | zero => exact h
  | succ n ih =>
    unfold State.dispatchClass
    exact .ite h (by split; exacts [.ite (ih h.setV.dispatch.dispatchSafety) h, h])

theorem Kept.classTurn (h : Kept r s) {k' c} : Kept r (s.classTurn k' c) := by
  unfold State.classTurn
  exact .ite h.setV.dispatchClass h.setV

theorem KeptOut.dispatchRound (h : Kept r s) {t'} : KeptOut r (execDispatchRound t' s) := by
  unfold execDispatchRound
  extract_lets s1 _ s2 s3
  have h1 : Kept r s1 := h.tick.committedNow
  have h2 : Kept r s2 := h1.dispatchSafety.dispatchAged
  have h3 : Kept r s3 := h2.classTurn.classTurn.classTurn
  exact .ite (.next h1) (.settled (.next h3.settleHandovers))

theorem KeptOut.resourceWaitTimeout (h : Kept r s) {t' k'} : KeptOut r (execResourceWaitTimeout t' k' s) := by
  unfold execResourceWaitTimeout
  extract_lets s1
  have h1 : Kept r s1 := h.tick
  exact .next (by split; exacts [.ite (.settleUpdate (.answer (.unhold (.frame h1)))) h1, .ite h1.endActivate.settleUpdate h1, h1])

theorem KeptOut.mctpInterimTimeout (h : Kept r s) {t' b tag} : KeptOut r (execMctpInterimTimeout t' b tag s) := by
  unfold execMctpInterimTimeout
  refine .next ?_
  dsimp only
  split
  · exact .ite (.answer (.modSession (.frame h.tick))) h.tick
  · exact h.tick

theorem KeptOut.sessionTimeout (h : Kept r s) {t' id} : KeptOut r (execSessionTimeout t' id s) := by
  unfold execSessionTimeout
  exact .next (.ite h.tick.endSession h.tick)

theorem KeptOut.watchReport (h : Kept r s) {t' session id} : KeptOut r (execWatchReport t' session id s) := by
  unfold execWatchReport
  refine .next ?_
  dsimp only
  split
  · split
    · exact .ite h.tick.modSession.raise h.tick
    · exact h.tick
  · exact h.tick

theorem KeptOut.eventNotice (h : Kept r s) {t' id} : KeptOut r (execEventNotice t' id s) := by
  unfold execEventNotice
  refine .next ?_
  dsimp only
  split
  · split
    · split
      · exact .arm (.disarm (.modSession (.each h.tick (fun _ _ h1 => by split; exacts [h1.ethSent.send, h1]))))
      · exact .disarm (.modSession (.each h.tick (fun _ _ h1 => by split; exacts [h1.ethSent.send, h1])))
    · exact h.tick
  · exact h.tick

theorem KeptOut.sqDoorbell (h : Kept r s) {t' ep q tail} : KeptOut r (execSqDoorbell t' ep q tail s) := by
  unfold execSqDoorbell
  exact .next (.ite h.tick (.ite h.tick.queueError h.tick.modQp))

theorem Kept.takeTurn (h : Kept r s) {ep q} : Kept r (s.takeTurn ep q) := by
  unfold State.takeTurn
  exact .ite h.countV h.setV.setV

theorem Kept.arriveAt (h : Kept r s) {a b} : Kept r (s.arriveAt a b) := h.arrive

theorem KeptOut.sqFetch (h : Kept r s) {t' ep q e} : KeptOut r (execSqFetch t' ep q e s) := by
  unfold execSqFetch
  extract_lets s1 _ s2
  have h1 : Kept r s1 := h.tick
  have h2 : Kept r s2 := h1.modQp.takeTurn
  exact .next (.ite h1 (.ite h2.muteCompletion (by split; exacts [h2.queueError, h2.crcError.muteCompletion, h2.arriveAt])))

theorem KeptOut.cqDoorbell (h : Kept r s) {t' ep q head} : KeptOut r (execCqDoorbell t' ep q head s) := by
  unfold execCqDoorbell
  exact .next (.ite h.tick (.ite h.tick.queueError h.tick.modQp.flush))

theorem Kept.drainAll (h : Kept r s) : Kept r (s.drainAll) := by
  unfold State.drainAll
  exact .flush (.each h (fun _ _ h1 => h1.drainBacklog))

theorem KeptOut.evqDoorbell (h : Kept r s) {t' ep head} : KeptOut r (execEvqDoorbell t' ep head s) := by
  unfold execEvqDoorbell
  exact .next (.ite h.tick h.tick.modEndpoint.drainAll)

theorem KeptOut.qpEnable (h : Kept r s) {t' ep q vector sizeM1} : KeptOut r (execQpEnable t' ep q vector sizeM1 s) := by
  unfold execQpEnable
  have set {ep q f} : Kept r ((s.tick t').modQp ep q f) := h.tick.modQp
  exact .next <| .ite h.tick <| .ite set <| .ite set.queueError set.modQp

theorem Kept.disableQp (h : Kept r s) {ep q} : Kept r (s.disableQp ep q) := by
  unfold State.disableQp
  exact .flush (.modQp (.frame (.each h (fun _ _ h1 => h1.noteRecent))))

theorem KeptOut.qpDisable (h : Kept r s) {t' ep q} : KeptOut r (execQpDisable t' ep q s) := by
  unfold execQpDisable
  exact .next (.ite h.tick.disableQp h.tick)

theorem KeptOut.resetQueues (h : Kept r s) {t' ep} : KeptOut r (execResetQueues t' ep s) := by
  unfold execResetQueues
  exact .next (.ite h.tick (.drainAll (.resetDone (.each h.tick.modEndpoint (fun _ _ h1 => .ite h1.disableQp h1)))))

theorem KeptOut.evqEnable (h : Kept r s) {t' ep on} : KeptOut r (execEvqEnable t' ep on s) := by
  unfold execEvqEnable
  exact .next (.ite h.tick h.tick.modEndpoint.drainAll)

theorem Kept.msixWrite (h : Kept r s) {ep i v} : Kept r (s.msixWrite ep i v) := by
  unfold State.msixWrite
  exact .ite h.modEndpoint.modEndpoint.send h.modEndpoint

theorem KeptOut.registerWrite (h : Kept r s) {t' ep r' v} : KeptOut r (execRegisterWrite t' ep r' v s) := by
  unfold execRegisterWrite
  extract_lets s1
  have h1 : Kept r s1 := h.tick
  exact .next (.ite h1 (by split; exacts [h1.modEndpoint, h1.modEndpoint.drainAll, h1.modQp, h1.modQp, h1.modQp, h1.msixWrite, h1]))

theorem KeptOut.getProp (h : Kept r s) {a} : KeptOut r (execGetProp a s) := by
  unfold execGetProp
  exact .next (.request h (fun _ h1 => h1.doGetProp))

theorem KeptOut.setProp (h : Kept r s) {a len value} : KeptOut r (execSetProp a len value s) := by
  unfold execSetProp
  exact .settled (.next (.settleHandovers (.request h (fun _ h1 => h1.doSetProp))))

theorem KeptOut.getSnapshot (h : Kept r s) {a items} : KeptOut r (execGetSnapshot a items s) := by
  unfold execGetSnapshot
  exact .next (.request h (fun _ h1 => h1.doGetSnapshot))

theorem KeptOut.watch (h : Kept r s) {a id minUs delta maxUs} : KeptOut r (execWatch a id minUs delta maxUs s) := by
  unfold execWatch
  exact .next (.request h (fun _ h1 => h1.doWatch))

theorem KeptOut.negotiate (h : Kept r s) {a major minor offer} : KeptOut r (execNegotiate a major minor offer s) := by
  unfold execNegotiate
  exact .next (.request h (fun _ h1 => h1.doNegotiate))

theorem KeptOut.hello (h : Kept r s) {a id token} : KeptOut r (execHello a id token s) := by
  unfold execHello
  exact .next (.request h (fun _ h1 => h1.doHello))

theorem KeptOut.keepalive (h : Kept r s) {a} : KeptOut r (execKeepalive a s) := by
  unfold execKeepalive
  exact .next (.request h (fun _ h1 => h1.doKeepalive))

theorem KeptOut.recall (h : Kept r s) {a port queue tag} : KeptOut r (execRecall a port queue tag s) := by
  unfold execRecall
  exact .next (.request h (fun _ h1 => h1.doRecall))

theorem KeptOut.close (h : Kept r s) {a} : KeptOut r (execClose a s) := by
  unfold execClose
  exact .next (.request h (fun _ h1 => h1.doClose))

theorem KeptOut.subscribe (h : Kept r s) {a mask} : KeptOut r (execSubscribe a mask s) := by
  unfold execSubscribe
  exact .next (.request h (fun _ h1 => h1.doSubscribe))

theorem KeptOut.readEvents (h : Kept r s) {a ack count} : KeptOut r (execReadEvents a ack count s) := by
  unfold execReadEvents
  exact .next (.request h (fun _ h1 => h1.doReadEvents))

theorem Kept.modWin (h : Kept r s) {k' f} : Kept r (s.modWin k' f) := by
  unfold State.modWin
  exact .frame h

theorem Kept.takePacket (h : Kept r s) {b slot x3} : Kept r (s.takePacket b slot x3) := by
  unfold State.takePacket
  split
  · exact h.arriveAt
  · split
    · exact h.crcError
    · exact h
  · exact h

theorem Kept.takeMctp (h : Kept r s) {b len x} : Kept r (s.takeMctp b len x) := by
  unfold State.takeMctp
  split
  · exact .ite h.takePacket h
  · exact h

theorem KeptOut.mctpPacket (h : Kept r s) {t' m good som eom seq tag src len x} : KeptOut r (execMctpPacket t' m good som eom seq tag src len x s) := by
  unfold execMctpPacket
  extract_lets s1 _ _
  have h1 : Kept r s1 := h.tick
  clear_value *
  exact .next (.ite h1 (.ite (.when h1 (fun _ h2 => h2.count)) (by split; exacts [h1.modWin, .ite h1.modWin (.ite h1.modWin.takeMctp h1.modWin)])))

theorem Kept.mctpAnswer (h : Kept r s) {m code fields} : Kept r (s.mctpAnswer m code fields) := by
  unfold State.mctpAnswer
  exact .ite h.send h

theorem KeptOut.mctpSetEndpointId (h : Kept r s) {t' m op eid} : KeptOut r (execMctpSetEndpointId t' m op eid s) := by
  unfold execMctpSetEndpointId
  exact .next (.ite h.tick.setV.mctpAnswer h.tick.mctpAnswer)

theorem KeptOut.mctpGetEndpointId (h : Kept r s) {t' m} : KeptOut r (execMctpGetEndpointId t' m s) := by
  unfold execMctpGetEndpointId
  exact .next h.tick.mctpAnswer

theorem KeptOut.mctpGetVersionSupport (h : Kept r s) {t' m type} : KeptOut r (execMctpGetVersionSupport t' m type s) := by
  unfold execMctpGetVersionSupport
  exact .next (.ite h.tick.draw.mctpAnswer h.tick.mctpAnswer)

theorem KeptOut.mctpGetMessageTypeSupport (h : Kept r s) {t' m} : KeptOut r (execMctpGetMessageTypeSupport t' m s) := by
  unfold execMctpGetMessageTypeSupport
  exact .next h.tick.mctpAnswer

theorem KeptOut.mctpGetVendorMessageSupport (h : Kept r s) {t' m selector} : KeptOut r (execMctpGetVendorMessageSupport t' m selector s) := by
  unfold execMctpGetVendorMessageSupport
  exact .next (.ite h.tick.draw.mctpAnswer h.tick.mctpAnswer)

theorem KeptOut.mctpSendRetry (h : Kept r s) {t' k' acked} : KeptOut r (execMctpSendRetry t' k' acked s) := by
  unfold execMctpSendRetry
  extract_lets s1 _ _ s2
  have h1 : Kept r s1 := h.tick
  have h2 : Kept r s2 := h1.send
  exact .next (.ite h1 (.ite h2.modWin.disarm h2.modWin.arm))

theorem KeptOut.ethInit (h : Kept r s) {t' port udp good operator} : KeptOut r (execEthInit t' port udp good operator s) := by
  unfold execEthInit
  exact .next (.ite h.tick (.send (.draw (.drawRandom (.drawRandom (.frame h.tick.countV))))))

theorem Kept.authFail (h : Kept r s) {p stage} : Kept r (s.authFail p stage) := by
  unfold State.authFail
  exact .ite h.setV.raise h

theorem KeptOut.ethFinish (h : Kept r s) {t' port session good valid} : KeptOut r (execEthFinish t' port session good valid s) := by
  unfold execEthFinish
  extract_lets s1 _
  have h1 : Kept r s1 := h.tick
  exact .next (by split; exacts [.ite h1 (.ite (.ite (.frame h1) (.countEth (.frame (.frame h1)))) (.authFail (.frame h1))), h1])

theorem KeptOut.ethData (h : Kept r s) {t' port session seq good valid x} : KeptOut r (execEthData t' port session seq good valid x s) := by
  unfold execEthData
  extract_lets s1 _
  have h1 : Kept r s1 := h.tick
  exact .next (by split; exacts [.ite h1 (.ite h1.spend.count.authFail (by dsimp only; split; exacts [.closeEth (.frame h1), .crcError (.frame h1), .arriveAt (.frame h1)])), h1])

theorem KeptOut.ethHandshakeExpiry (h : Kept r s) {t' port session} : KeptOut r (execEthHandshakeExpiry t' port session s) := by
  unfold execEthHandshakeExpiry
  exact .next (.frame h.tick)

theorem KeptOut.ethSessionExpiry (h : Kept r s) {t' port session} : KeptOut r (execEthSessionExpiry t' port session s) := by
  unfold execEthSessionExpiry
  refine .next ?_
  split
  · exact .ite h.tick.closeEth h.tick
  · exact h.tick

theorem KeptOut.heartbeatSend (h : Kept r s) {t' tile} : KeptOut r (execHeartbeatSend t' tile s) := by
  unfold execHeartbeatSend
  exact .next (.ite (.each h.tick (fun _ _ h1 => h1.stitchSend)) h.tick)

theorem KeptOut.heartbeatReceive (h : Kept r s) {t' r' x} : KeptOut r (execHeartbeatReceive t' r' x s) := by
  unfold execHeartbeatReceive
  exact .next (.ite (.ite h.tick.arm.requestFence h.tick.arm) h.tick)

theorem KeptOut.onHeartbeatTimeout (h : Kept r s) {t' r' x} : KeptOut r (onHeartbeatTimeout t' r' x s) := by
  unfold Machine.onHeartbeatTimeout
  exact .next (.ite h.tick.disarm.requestFence h.tick)

theorem KeptOut.heartbeatTimeout (h : Kept r s) {t' r' x} : KeptOut r (execHeartbeatTimeout t' r' x s) := by
  unfold execHeartbeatTimeout
  exact .settled (.onHeartbeatTimeout h)

theorem KeptOut.fenceRequestExpiry (h : Kept r s) {t' r' x} : KeptOut r (execFenceRequestExpiry t' r' x s) := by
  unfold execFenceRequestExpiry
  exact .next (.ite h.tick.disarm.setV.raise h.tick)

theorem KeptOut.loneMizzenCut (h : Kept r s) {t'} : KeptOut r (execLoneMizzenCut t' s) := by
  unfold execLoneMizzenCut
  refine .next <| .ite ?_ h.tick
  dsimp only
  split
  · exact (h.tick.each fun _ _ h => h.drive.modRail).setT
  · exact (((h.tick.each fun _ _ h => h.drive.modRail).each fun _ _ h => h.modRail).each fun _ _ h => h.drive).disarm

theorem KeptOut.leaderClaim (h : Kept r s) {t' tile term} : KeptOut r (execLeaderClaim t' tile term s) := by
  unfold execLeaderClaim
  exact .settled (.next (.ite (.ite h.tick.setV.electLeader.committedNow h.tick.setV) h.tick))

theorem KeptOut.journalEntry (h : Kept r s) {t' tile csn} : KeptOut r (execJournalEntry t' tile csn s) := by
  unfold execJournalEntry
  exact .next (.ite (.ite h.tick.put h.tick.put.stitchSend) h.tick)

theorem KeptOut.journalAck (h : Kept r s) {t' tile csn} : KeptOut r (execJournalAck t' tile csn s) := by
  unfold execJournalAck
  exact .settled (.next (.ite (.committedNow (.frame h.tick.setV)) h.tick))

theorem KeptOut.journalStall (h : Kept r s) {t'} : KeptOut r (execJournalStall t' s) := by
  unfold execJournalStall
  extract_lets s1 _ _ _ s2 _ s3
  have h1 : Kept r s1 := h.tick
  have h2 : Kept r s2 := .ite h1 h1.raise
  have h3 : Kept r s3 := .setV (.frame h2)
  exact .next (.ite (by split; exacts [.ite h3.setV.electLeader.committedNow h3, h3]) h1)

theorem KeptOut.soloJournalWrite (h : Kept r s) {t'} : KeptOut r (execSoloJournalWrite t' s) := by
  unfold execSoloJournalWrite
  exact .settled (.next (.ite (.committedNow (.frame h.tick)) h.tick))

theorem Kept.refetch (h : Kept r s) {src dst csn} : Kept r (s.refetch src dst csn) := by
  unfold State.refetch
  exact h.stitchSend

theorem KeptOut.journalUncorrectable (h : Kept r s) {t' csn e} : KeptOut r (execJournalUncorrectable t' csn e s) := by
  unfold execJournalUncorrectable
  extract_lets s1 _ _ s2
  have h1 : Kept r s1 := h.tick
  have h2 : Kept r s2 := .ite h1.put h1
  exact .next (.ite h1 (.ite (.raise (.frame h1)) (.ite (by split; exacts [h1.refetch, h1]) h2.refetch)))

theorem KeptOut.checkpoint (h : Kept r s) {t' bad} : KeptOut r (execCheckpoint t' bad s) := by
  unfold execCheckpoint
  extract_lets s1 _ s2 _
  have h1 : Kept r s1 := h.tick
  have h2 : Kept r s2 := h1.checkpoint.recommit
  exact .next (.ite (.each h2.spend (fun _ _ h3 => .ite h3.draw.raise.requestFence h3)) h1)

theorem KeptOut.voterInputChange (h : Kept r s) {t' o tile level} : KeptOut r (execVoterInputChange t' o tile level s) := by
  unfold execVoterInputChange
  exact .next h.tick.voterInput

theorem KeptOut.voteDisagree (h : Kept r s) {t' o tile} : KeptOut r (execVoteDisagree t' o tile s) := by
  unfold execVoteDisagree
  extract_lets s1 _ _ s2 s3 _ s4
  have h1 : Kept r s1 := h.tick
  have h2 : Kept r s2 := h1.disarm
  have h3 : Kept r s3 := h2.of_core rfl rfl rfl rfl rfl
  have h4 : Kept r s4 := h3.raise
  exact .next (.ite (.ite h4.fence h4) h1)

theorem KeptOut.mirrorTakeover (h : Kept r s) {t' d} : KeptOut r (execMirrorTakeover t' d s) := by
  unfold execMirrorTakeover
  extract_lets s1 _ s2
  have h1 : Kept r s1 := h.tick
  have h2 : Kept r s2 := h1.modDom
  exact .next (by split; exacts [.ite (.syncCoeffs (.ite h2.moveLoop h2)) h1, h1])

theorem Kept.adminFence (h : Kept r s) : Kept r (s.adminFence) := by
  unfold State.adminFence
  exact .ite h.setV.fence h

theorem KeptOut.onPlannedMove (h : Kept r s) {t' back} : KeptOut r (onPlannedMove t' back s) := by
  unfold Machine.onPlannedMove
  extract_lets s1 _
  have h1 : Kept r s1 := h.tick
  exact .next (.ite h1 (by split; exacts [.adminFence (.ite (.setV (.syncCoeffs (.moveLoop (.frame h1)))) (.frame h1)), h1.adminFence]))

theorem KeptOut.plannedMove (h : Kept r s) {t' back} : KeptOut r (execPlannedMove t' back s) := by
  unfold execPlannedMove
  exact .settled (.onPlannedMove h)

theorem KeptOut.writeLeader (h : Kept r s) {a v} : KeptOut r (execWriteLeader a v s) := by
  unfold execWriteLeader
  exact .next (.settleHandovers (.write h (fun _ _ h1 => h1.setLeader)))

theorem KeptOut.writeAdminState (h : Kept r s) {a v} : KeptOut r (execWriteAdminState a v s) := by
  unfold execWriteAdminState
  exact .next (.write h (fun _ _ h1 => h1.setAdminState))

theorem Kept.rejoinImage (h : Kept r s) {x} : Kept r (s.rejoinImage x).1 := by
  unfold State.rejoinImage
  exact .ite_fst h.romCold.setV (.ite_fst h h)

theorem Kept.enginesBack (h : Kept r s) {t'} : Kept r (s.enginesBack t') := by
  unfold State.enginesBack
  exact .each h (fun _ _ h1 => .ite h1.dropProgram.setEngine (.ite (.ite h1.setEngine h1.startEngine) h1.setEngine))

theorem Kept.rejoined (h : Kept r s) {x p} : Kept r (s.rejoined x p) := by
  unfold State.rejoined
  extract_lets s1 s2 s3 s4 s5
  have h1 : Kept r s1 := h.setV.joinTile.tileBooted
  have h2 : Kept r s2 := h1.raise
  have h3 : Kept r s3 := .ite h2.disarm.raise h2
  have h4 : Kept r s4 := .ite h3.revert h3
  have h5 : Kept r s5 := h4.enginesBack
  exact .settleOps (.ite h5 h5.planHome)

theorem KeptOut.rejoinComplete (h : Kept r s) {t' tile} : KeptOut r (execRejoinComplete t' tile s) := by
  unfold execRejoinComplete
  extract_lets s1 _ _ s2
  have h1 : Kept r s1 := h.tick
  have h2 : Kept r s2.1 := h1.rejoinImage
  exact .next (.ite (by split; exacts [.ite h2.rejoined.settleUpdate h2.rejoinFails.settleUpdate, h2.rejoinFails.settleUpdate]) h1)

theorem KeptOut.onRejoinTimeout (h : Kept r s) {t' tile step} : KeptOut r (onRejoinTimeout t' tile step s) := by
  unfold Machine.onRejoinTimeout
  exact .next (.ite h.tick.rejoinFails h.tick)

theorem KeptOut.rejoinTimeout (h : Kept r s) {t' x} : KeptOut r (execRejoinTimeout t' x s) := by
  unfold execRejoinTimeout
  exact .settled (.onRejoinTimeout h)

theorem KeptOut.foreLossGraceExpiry (h : Kept r s) {t'} : KeptOut r (execForeLossGraceExpiry t' s) := by
  unfold execForeLossGraceExpiry
  exact .next (.ite (.ite h.tick.disarm.raise.furlPlain h.tick.disarm.raise) h.tick)

theorem Kept.sendIdent (h : Kept r s) {p ch kind m b} : Kept r (s.sendIdent p ch kind m b) := by
  unfold State.sendIdent
  exact .ite h.send.sendOn (.each h.send (fun _ _ h1 => h1.emit))

theorem Kept.identityAck (h : Kept r s) {p status} : Kept r (s.identityAck p status) := by
  unfold State.identityAck
  exact h.sendIdent

theorem Kept.identityAccept (h : Kept r s) {p} : Kept r (s.identityAccept p) := by
  unfold State.identityAccept
  exact .sendBudget (.when (.ite h.identityAck.moveLink h.identityAck) (fun _ h1 => h1.arm))

theorem Kept.partnerArrived (h : Kept r s) {kind port o serial} : Kept r (s.partnerArrived kind port o serial) := by
  unfold State.partnerArrived
  exact h.raise

theorem Kept.accelArrive (h : Kept r s) {p m} : Kept r (s.accelArrive p m) := by
  unfold State.accelArrive
  exact .partnerArrived (.releaseFurl (.clearReef (.put (.setV (.disarm (.frame (.disarm (.disarm (.setV (.setV (.setV (.setV (.disarm (.setV (.setV (.setV (.setV (.setV (.setV (.setV (.setV (.setV (.setV (.setV (.setV (.setV (.setV (.put (.put (.when h (fun _ h1 => h1.setV.put)))))))))))))))))))))))))))))))

theorem Kept.accelDepart (h : Kept r s) {a cause} : Kept r (s.accelDepart a cause) := by
  unfold State.accelDepart
  extract_lets _ _ _ s1 s2 _ s3
  have h1 : Kept r s1 := h.put.disarm.disarm.accelGone
  have h2 : Kept r s2 := h1.reopen
  have h3 : Kept r s3 := h2.journalSafety.setReef.setV
  exact .ite (.ite h3.arm.partnerDeparted h3.partnerDeparted) h2.partnerDeparted

theorem Kept.rejectPort (h : Kept r s) {p status serial} : Kept r (s.rejectPort p status serial) := by
  unfold State.rejectPort
  exact h.moveLink.modLink

theorem Kept.identityReject (h : Kept r s) {p status m} : Kept r (s.identityReject p status m) := by
  unfold State.identityReject
  exact .raise (.when h.identityAck.rejectPort (fun _ h1 => h1.put))

theorem Kept.takeIdentity (h : Kept r s) {p m} : Kept r (s.takeIdentity p m) := by
  unfold State.takeIdentity
  extract_lets _ s1 s2
  have h1 : Kept r s1 := h.setV
  have h2 : Kept r s2 := .each h1 (fun _ _ h2 => h2.reopen)
  split
  · exact h
  · split
    · split
      · split
        · exact .ite h2.identityAccept h2.accelDepart.accelArrive.identityAccept
        · exact .ite h2.accelDepart.accelArrive.identityAccept h2.identityReject
      · exact h2.accelArrive.identityAccept
    · exact h2.identityReject

theorem KeptOut.onIdentity (h : Kept r s) {t' port m} : KeptOut r (onIdentity t' port m s) := by
  unfold Machine.onIdentity
  exact .next h.tick.takeIdentity

theorem KeptOut.identity (h : Kept r s) {t' port m} : KeptOut r (execIdentity t' port m s) := by
  unfold execIdentity
  exact .settled (.onIdentity h)

theorem Kept.takeReefTable (h : Kept r s) {a generation latency levels} : Kept r (s.takeReefTable a generation latency levels) := by
  unfold State.takeReefTable
  exact .sendBudget (.raise (.when h.setV (fun _ h1 => .each h1.setV.put (fun _ _ h2 => h2.setV.setV))))

theorem KeptOut.reefTable (h : Kept r s) {t' a generation latency levels} : KeptOut r (execReefTable t' a generation latency levels s) := by
  unfold execReefTable
  exact .next h.tick.takeReefTable

theorem Kept.startPhase (h : Kept r s) {a tag mapping} : Kept r (s.startPhase a tag mapping) := by
  unfold State.startPhase
  exact .setV (.frame h)

theorem Kept.observe (h : Kept r s) {kind key mean peak dur limited} : Kept r (s.observe kind key mean peak dur limited) := by
  unfold State.observe
  split
  rename_i e1
  have h1 := Kept.of_fst (r := r) ?_ e1
  · split
    · exact .ite h1 <| .ite h1.putPlan.raise h1.putPlan
    · exact h1
  · refine .ite_fst h ?_
    split
    · rename_i e2
      exact (h.planRoom.of_fst e2).putPlans
    · rename_i e2
      exact h.planRoom.of_fst e2

theorem Kept.endPhase (h : Kept r s) {a} : Kept r (s.endPhase a) := by
  unfold State.endPhase
  exact .ite h (.ite h.whole.whole.observe h.whole.whole.observe.whole.whole.observe)

theorem Kept.takeHint (h : Kept r s) {a h'} : Kept r (s.takeHint a h') := by
  unfold State.takeHint
  exact .setV (.frame (.ite (.ite h.setV.setV h.setV.endPhase.startPhase) h))

theorem KeptOut.hint (h : Kept r s) {t' a h'} : KeptOut r (execHint t' a h' s) := by
  unfold execHint
  exact .next h.tick.takeHint

theorem Kept.modTherm (h : Kept r s) {c f} : Kept r (s.modTherm c f) := by
  unfold State.modTherm
  exact .frame h

theorem Kept.putTstat (h : Kept r s) {c bit v} : Kept r (s.putTstat c bit v) := by
  unfold State.putTstat
  exact h.put

theorem Kept.tripScope (h : Kept r s) {c i r'} : Kept r (s.tripScope c i r') := by
  unfold State.tripScope
  extract_lets s1 s2 s3
  have h1 : Kept r s1 := h.stopTrials
  have h2 : Kept r s2 := .ite h1.furl h1
  have h3 : Kept r s3 := .ite h2.cutFurl (.cutTray (.each h2 (fun _ _ h3 => h3.cutScope)))
  exact h3.raiseSafety

theorem Kept.tripTile (h : Kept r s) {t'} : Kept r (s.tripTile t') := by
  unfold State.tripTile
  exact .ite h.holdReset h.setV.chansStop.revoteAll

theorem Kept.crossed (h : Kept r s) {c k' r'} : Kept r (s.crossed c k' r') := by
  unfold State.crossed
  extract_lets _ s1 s2
  have h1 : Kept r s1 := .ite (.each h (fun _ _ h1 => h1.tripScope)) h
  have h2 : Kept r s2 := .ite h1 h1.raiseSafety
  split
  · exact .ite (.each h (fun _ _ h3 => h3.furl)) h
  · exact .ite h2.tripTile h1
  · exact h

theorem Kept.judgeThreshold (h : Kept r s) {c r' at_ k'} : Kept r (s.judgeThreshold c r' at_ k') := by
  unfold State.judgeThreshold
  extract_lets _ _ _ _ s1
  have h1 : Kept r s1 := h.modTherm
  exact .ite h1 (.ite h1.putTstat.raise.crossed (.ite h1.putTstat.raise h1))

theorem Kept.promoteChan (h : Kept r s) {c r'} : Kept r (s.promoteChan c r') := by
  unfold State.promoteChan
  have each {c f l} {g : Nat → Bool} : Kept r ((s.modTherm c f).each l fun s x => s.putTstat x tsPromoted (g x)) :=
    h.modTherm.each fun _ _ h => h.putTstat
  exact .ite h <| .ite each.setV.raise each

theorem Kept.startThrottle (h : Kept r s) {a} : Kept r (s.startThrottle a) := by
  unfold State.startThrottle
  split
  exact .ite h.setV.setV.put.raise h

theorem Kept.reading (h : Kept r s) {c r' reason at_} : Kept r (s.reading c r' reason at_) := by
  unfold State.reading
  extract_lets _ s1 s2 s3
  have h1 : Kept r s1 := h.spend
  have h2 : Kept r s2 := h1.modTherm.putTstat
  have h3 : Kept r s3 := h2.modTherm.putTstat.raise
  clear_value *
  split
  · extract_lets s4 s5 s6 s7 s8 s9 s10
    have h4 : Kept r s4 := h1.modTherm
    have h5 : Kept r s5 := h4.note.gauge.put.putTstat
    have h6 : Kept r s6 := .ite h5.putTstat.raise h5
    have h7 : Kept r s7 := .ite h6.gauge h6
    have h8 : Kept r s8 := .each h7 (fun _ _ h8 => .ite h8 h8.judgeThreshold)
    have h9 : Kept r s9 := h8.putTstat
    have h10 : Kept r s10 := h9.promoteChan
    clear_value *
    exact .ite h8 (.each h10 (fun _ _ h11 => h11.startThrottle))
  · exact .ite (.ite (.each h3 (fun _ _ h4 => h4.furl)) h3) h2

theorem Kept.suspend (h : Kept r s) {a} : Kept r (s.suspend a) := by
  unfold State.suspend
  exact .ite h.modMember h.put.modMember.raise

theorem Kept.noteLag (h : Kept r s) {a cause} : Kept r (s.noteLag a cause) := by
  unfold State.noteLag
  extract_lets _ s1 s2
  have h1 : Kept r s1 := h.modMember.count
  have h2 : Kept r s2 := .ite h1.put.raise h1
  exact .ite h (.ite h2.suspend h2)

theorem Kept.lockTelemetry (h : Kept r s) {a freq} : Kept r (s.lockTelemetry a freq) := by
  unfold State.lockTelemetry
  exact .ite h.setV (.ite h.setV.modMember.noteLag h.setV.modMember)

theorem Kept.takeTelemetry (h : Kept r s) {a m} : Kept r (s.takeTelemetry a m) := by
  unfold State.takeTelemetry
  split
  · exact h
  · extract_lets s1 s2 _ _ s3 _ _ s4
    have h1 : Kept r s1 := h.of_core rfl rfl rfl rfl rfl
    have h2 : Kept r s2 := h1.setV.setV.arm.gauge
    have h3 : Kept r s3 := .each h2 (fun _ _ h3 => h3.reading)
    have h4 : Kept r s4 := by dsimp only [s4]; clear_value *; split; exacts [h3, .frame h3]
    clear_value *
    exact h4.lockTelemetry

theorem KeptOut.telemetry (h : Kept r s) {t' a m} : KeptOut r (execTelemetry t' a m s) := by
  unfold execTelemetry
  exact .next h.tick.takeTelemetry

theorem Kept.takeQstate (h : Kept r s) {a qid state} : Kept r (s.takeQstate a qid state) := by
  unfold State.takeQstate
  exact .ite (.cutFurl (.when h.setV (fun _ h1 => h1.disarm))) (.when h.setV (fun _ h1 => h1.disarm))

theorem KeptOut.onQstate (h : Kept r s) {t' a qid state} : KeptOut r (onQstate t' a qid state s) := by
  unfold Machine.onQstate
  exact .next h.tick.takeQstate

theorem KeptOut.qstate (h : Kept r s) {t' a qid state} : KeptOut r (execQstate t' a qid state s) := by
  unfold execQstate
  exact .settled (.onQstate h)

theorem Kept.takeImageStatus (h : Kept r s) {a image next status} : Kept r (s.takeImageStatus a image next status) := by
  unfold State.takeImageStatus
  split
  · split
    · split
      · exact h
      · exact .ite h.failStep (.ite (.ite h.sendAccel.setAct h) (.ite h.sendAccel.setAct h.stream))
    · exact h
  · exact h

theorem KeptOut.imageStatus (h : Kept r s) {t' a image next status} : KeptOut r (execImageStatus t' a image next status s) := by
  unfold execImageStatus
  exact .next h.tick.takeImageStatus.settleUpdate

theorem Kept.takeAlert (h : Kept r s) {a num code severity detail stamp} : Kept r (s.takeAlert a num code severity detail stamp) := by
  unfold State.takeAlert
  extract_lets s1 _ _
  have h1 : Kept r s1 := h.sendAccel.raise
  split
  · exact .refreshAlert (.frame h1)
  · exact .refreshAlert (.frame h1)
  · exact h1.furlPlain
  · exact h1

theorem KeptOut.alert (h : Kept r s) {t' a num code severity detail stamp} : KeptOut r (execAlert t' a num code severity detail stamp s) := by
  unfold execAlert
  exact .next h.tick.takeAlert

theorem Kept.takeFreqAck (h : Kept r s) {a round freq outcome lateness} : Kept r (s.takeFreqAck a round freq outcome lateness) := by
  unfold State.takeFreqAck
  extract_lets s1 _ s2 s3 s4 s5
  have h1 : Kept r s1 := .each h (fun _ _ h1 => .ite (.lockDone (.frame h1)) (.frame h1))
  have h2 : Kept r s2 := h1.modMember
  have h3 : Kept r s3 := h2.modMember
  have h4 : Kept r s4 := .ite h3.put h3
  have h5 : Kept r s5 := .ite h4.noteLag h4
  split
  · exact h1
  · split
    · exact .each h5 (fun _ _ h6 => h6.lockDone)
    · exact h2.noteLag
    · exact h2.noteLag

theorem KeptOut.freqAck (h : Kept r s) {t' a round freq outcome lateness} : KeptOut r (execFreqAck t' a round freq outcome lateness s) := by
  unfold execFreqAck
  exact .next h.tick.takeFreqAck

theorem KeptOut.alertPinAssert (h : Kept r s) {t' a} : KeptOut r (execAlertPinAssert t' a s) := by
  unfold execAlertPinAssert
  exact .next (.ite h.tick.setV h.tick.setV.armOnce.armOnce)

theorem KeptOut.alertNolinkReef (h : Kept r s) {t' a} : KeptOut r (execAlertNolinkReef t' a s) := by
  unfold execAlertNolinkReef
  exact .next (.ite h.tick.disarm.setV.refreshAlert h.tick)

theorem KeptOut.alertNolinkFurl (h : Kept r s) {t' a} : KeptOut r (execAlertNolinkFurl t' a s) := by
  unfold execAlertNolinkFurl
  exact .next (.ite h.tick.disarm.furlPlain h.tick)

theorem KeptOut.alertLinkHandover (h : Kept r s) {t' a} : KeptOut r (execAlertLinkHandover t' a s) := by
  unfold execAlertLinkHandover
  exact .next (.ite h.tick.disarm.setV.refreshAlert h.tick)

theorem KeptOut.onAccelLossTimeout (h : Kept r s) {t' a} : KeptOut r (onAccelLossTimeout t' a s) := by
  unfold Machine.onAccelLossTimeout
  exact .next (.ite h.tick.accelDepart h.tick)

theorem KeptOut.accelLossTimeout (h : Kept r s) {t' a} : KeptOut r (execAccelLossTimeout t' a s) := by
  unfold execAccelLossTimeout
  exact .settled (.onAccelLossTimeout h)

theorem KeptOut.onTelemetrySilence (h : Kept r s) {t' a} : KeptOut r (onTelemetrySilence t' a s) := by
  unfold Machine.onTelemetrySilence
  exact .next (.ite h.tick.accelDepart h.tick)

theorem KeptOut.telemetrySilence (h : Kept r s) {t' a} : KeptOut r (execTelemetrySilence t' a s) := by
  unfold execTelemetrySilence
  exact .settled (.onTelemetrySilence h)

theorem KeptOut.silentFurlDelayExpiry (h : Kept r s) {t' a} : KeptOut r (execSilentFurlDelayExpiry t' a s) := by
  unfold execSilentFurlDelayExpiry
  exact .next (.ite h.tick.disarm.furlPlain h.tick)

theorem KeptOut.quiesceTimeout (h : Kept r s) {t' a} : KeptOut r (execQuiesceTimeout t' a s) := by
  unfold execQuiesceTimeout
  extract_lets s1
  have h1 : Kept r s1 := h.tick
  exact .next (.ite h1 (by split; exacts [by split; exacts [.ite h1.failStep.settleUpdate h1.resumeAccel, h1.resumeAccel], h1.resumeAccel]))

theorem KeptOut.signalDetect (h : Kept r s) {t' port} : KeptOut r (execSignalDetect t' port s) := by
  unfold execSignalDetect
  exact .next (.ite h.tick.moveLink h.tick)

theorem Kept.breakTrain (h : Kept r s) {p} : Kept r (s.breakTrain p) := by
  unfold State.breakTrain
  exact h.modLink

theorem Kept.sendNak (h : Kept r s) {p} : Kept r (s.sendNak p) := by
  unfold State.sendNak
  exact .ite h h.modLink.send

theorem Kept.linkError (h : Kept r s) {p} : Kept r (s.linkError p) := by
  unfold State.linkError
  exact .ite h.count (.ite h.count h.count)

theorem Kept.badFlit (h : Kept r s) {p crc} : Kept r (s.badFlit p crc) := by
  unfold State.badFlit
  exact .ite h.linkError.sendNak.modLink.moveLink h.linkError.sendNak.modLink

theorem Kept.enterIdent (h : Kept r s) {p} : Kept r (s.enterIdent p) := by
  unfold State.enterIdent
  extract_lets s1 _ _
  have h1 : Kept r s1 := h.moveLink
  exact .ite (.ite h1.put h1) (.ite (.ite h1.put h1) h1.sendIdent)

theorem Kept.trained (h : Kept r s) {p} : Kept r (s.trained p) := by
  unfold State.trained
  dsimp only
  split
  · exact .pump (.moveLink (.when h.modLink (fun _ h1 => h1.put)))
  · exact .enterIdent (.when h.modLink (fun _ h1 => h1.put))

theorem Kept.takeTrain (h : Kept r s) {p f} : Kept r (s.takeTrain p f) := by
  unfold State.takeTrain
  extract_lets _ s1 _ s2
  have h1 : Kept r s1 := h.modLink
  have h2 : Kept r s2 := h1.modLink
  exact .ite h (.ite h1.sendTrain (.ite h2.trained (.ite h2.moveLink h2.sendTrain)))

theorem Kept.takeAck (h : Kept r s) {p ack} : Kept r (s.takeAck p ack) := by
  unfold State.takeAck
  dsimp only
  split
  · exact h.modLink
  · exact h

theorem Kept.addCredit (h : Kept r s) {p ch n} : Kept r (s.addCredit p ch n) := by
  unfold State.addCredit
  exact h.modLink

theorem Kept.acceptFlit (h : Kept r s) {p seq} : Kept r (s.acceptFlit p seq).1 := by
  unfold State.acceptFlit
  exact .ite_fst h.badFlit.pair h.modLink.pair

theorem Kept.returnCredit (h : Kept r s) {p ch} : Kept r (s.returnCredit p ch) := by
  unfold State.returnCredit
  exact h.send

theorem Kept.joinFlit (h : Kept r s) {p ch first last data} : Kept r (s.joinFlit p ch first last data).1 := by
  unfold State.joinFlit
  exact .ite_fst h.modLink.pair h.modLink.pair

theorem Kept.gapTimer (h : Kept r s) {a stream} : Kept r (s.gapTimer a stream) := by
  unfold State.gapTimer
  split
  · exact h.disarm
  · exact h.setT

theorem Kept.takeShroud (h : Kept r s) {p num x3} : Kept r (s.takeShroud p num x3) := by
  unfold State.takeShroud
  split
  · exact h.takeIdentity
  · exact h.takeReefTable
  · exact h.takeHint
  · exact h.takeTelemetry
  · exact h.takeFreqAck
  · exact h.takeQstate
  · exact h.takeImageStatus
  · exact h.takeAlert
  · exact h.linkError

theorem Kept.releaseHeld (h : Kept r s) {a stream n} : Kept r (s.releaseHeld a stream n) := by
  induction n generalizing s with
  | zero => exact h
  | succ n ih =>
    unfold State.releaseHeld
    split
    · exact ih (.takeShroud (.countV (.frame h)))
    · exact h

theorem Kept.arriveShroud (h : Kept r s) {p stream num m} : Kept r (s.arriveShroud p stream num m) := by
  unfold State.arriveShroud
  exact .ite h (.ite h.countV.takeShroud.releaseHeld.gapTimer (.ite h (.gapTimer (.frame h))))

theorem Kept.takeMessage (h : Kept r s) {p stream b} : Kept r (s.takeMessage p stream b) := by
  unfold State.takeMessage
  split
  · exact h.takeIdentity
  · exact .ite h.arriveShroud h

theorem Kept.takeData (h : Kept r s) {p b} : Kept r (s.takeData p b) := by
  unfold State.takeData
  dsimp only
  split
  · rename_i e
    exact h.acceptFlit.of_fst e
  · rename_i e
    have h1 := h.acceptFlit.of_fst e
    split
    · rename_i e
      have h2 := Kept.of_fst (Kept.joinFlit (.ite h1.returnCredit h1)) e
      exact .ite h2.takeMessage h2
    · rename_i e
      exact Kept.of_fst (Kept.joinFlit (.ite h1.returnCredit h1)) e

theorem Kept.replay (h : Kept r s) {p} : Kept r (s.replay p) := by
  unfold State.replay
  extract_lets _ s1 s2 s3
  have h1 : Kept r s1 := .ite h.count h.count
  have h2 : Kept r s2 := .each h1 (fun _ _ h2 => h2.send)
  have h3 : Kept r s3 := h2.modLink
  exact .ite h (.ite h3.moveLink h3)

theorem Kept.takeFlit (h : Kept r s) {p b} : Kept r (s.takeFlit p b) := by
  unfold State.takeFlit
  split
  · exact h
  · extract_lets _ s1 _ s2 s3 s4 s5
    have h1 : Kept r s1 := h.spend
    have h2 : Kept r s2 := h1.modLink
    have h3 : Kept r s3 := by dsimp only [s3]; split; exacts [h2.takeAck, h2]
    have h4 : Kept r s4 := .when h3 (fun _ h4 => .each h4 (fun _ _ h5 => h5.addCredit))
    have h5 : Kept r s5 := .ite h4.takeData (.ite h4.replay h4)
    exact .ite (.ite h1.breakTrain (.ite h1.badFlit h1)) (.ite h2.takeTrain (.ite h2 h5.pump))

theorem KeptOut.trainFlit (h : Kept r s) {t' port bytes} : KeptOut r (execTrainFlit t' port bytes s) := by
  unfold execTrainFlit
  exact .next h.tick.takeFlit.settleUpdate

theorem KeptOut.dataFlit (h : Kept r s) {t' port flags seq ack body crc} : KeptOut r (execDataFlit t' port flags seq ack body crc s) := by
  unfold execDataFlit
  exact .next h.tick.takeFlit.settleUpdate

theorem KeptOut.linkFlit (h : Kept r s) {t' port flags body crc} : KeptOut r (execLinkFlit t' port flags body crc s) := by
  unfold execLinkFlit
  exact .next h.tick.takeFlit.settleUpdate

theorem KeptOut.replayTimeout (h : Kept r s) {t' port} : KeptOut r (execReplayTimeout t' port s) := by
  unfold execReplayTimeout
  exact .next (.ite h.tick.replay h.tick)

theorem KeptOut.portStateTimeout (h : Kept r s) {t' port noSignal} : KeptOut r (execPortStateTimeout t' port noSignal s) := by
  unfold execPortStateTimeout
  exact .next (.ite h.tick.moveLink h.tick)

theorem Kept.releaseLate (h : Kept r s) {a stream} : Kept r (s.releaseLate a stream) := by
  unfold State.releaseLate
  dsimp only
  split
  · exact h
  · exact .releaseHeld (.raise (.each (.setV (.frame h)) (fun _ _ h1 => h1.takeShroud)))

theorem KeptOut.shroudGapTimeout (h : Kept r s) {t' a stream} : KeptOut r (execShroudGapTimeout t' a stream s) := by
  unfold execShroudGapTimeout
  exact .next (.ite h.tick.releaseLate.gapTimer.settleUpdate h.tick)

theorem KeptOut.timeFlitSend (h : Kept r s) {t'} : KeptOut r (execTimeFlitSend t' s) := by
  unfold execTimeFlitSend
  exact .next (.each h.tick (fun _ _ h1 => h1.send))

theorem KeptOut.budgetResend (h : Kept r s) {t'} : KeptOut r (execBudgetResend t' s) := by
  unfold execBudgetResend
  exact .next (.each h.tick (fun _ _ h1 => h1.sendBudget))

theorem Kept.reckon (h : Kept r s) {at_ f} (k : ∀ s, Kept r s → Kept r (f s)) : Kept r (s.reckon at_ f) := by
  unfold State.reckon
  exact .setV (k _ h.setV)

theorem Kept.railTrip (h : Kept r s) {k' fail} : Kept r (s.railTrip k' fail) := by
  unfold State.railTrip
  extract_lets s1 _ _ _ _ s2 s3 s4 s5 s6 s7
  have h1 : Kept r s1 := h.stopTrials
  have h2 : Kept r s2 := h1.modRail
  have h3 : Kept r s3 := .ite h2.drive h2.domainTrip
  have h4 : Kept r s4 := h3.journalSafety.raiseSafety
  have h5 : Kept r s5 := by dsimp only [s5]; split; exacts [h4.modRail.finish, h4]
  have h6 : Kept r s6 := h5.dropOffRail
  have h7 : Kept r s7 := h6.rehold.offNext
  exact .ite h7.noteFailure.beginOff h7

theorem Kept.railFault (h : Kept r s) {k' cause fail} : Kept r (s.railFault k' cause fail) := by
  unfold State.railFault
  extract_lets _ _ _ _ _ s1 s2 s3 s4
  have h1 : Kept r s1 := h.modRail.raise
  have h2 : Kept r s2 := .when h1 (fun _ h2 => h2.gauge)
  have h3 : Kept r s3 := h2.noteFailure
  have h4 : Kept r s4 := .ite h3.disableRail.modRail h3
  clear_value *
  split
  · exact h4
  · exact h4.beginOff
  · exact h4.beginOff

theorem Kept.railGood (h : Kept r s) {k'} : Kept r (s.railGood k') := by
  unfold State.railGood
  exact .checkUp (by split; exacts [h.modRail.rehold.finish, h.modRail.rehold])

theorem Kept.sampleRail (h : Kept r s) {r'} : Kept r (s.sampleRail r') := by
  unfold State.sampleRail
  extract_lets k x s1 i
  split
  extract_lets s2 judged s3 s4 s5
  have h2 : Kept r s2 := h.spend.modRail.put
  have h3 : Kept r s3 := by
    unfold s3
    split
    · exact h2.raise
    · exact h2
  have h4 : Kept r s4 := by
    refine .ite h3.railTrip ?_
    split
    · exact .ite h3.railFault h3
    · exact .ite h3.railFault <| .ite h3.railFault <| .ite h3.railGood <| .ite h3.checkUp h3
  have h5 : Kept r s5 := .ite h4.modRail.rehold.offNext h4
  exact .ite h5.setScope.raise h5

theorem Kept.sampleRails (h : Kept r s) {at_ l} : Kept r (s.sampleRails at_ l) := by
  unfold State.sampleRails
  exact .reckon h (fun _ h1 => .each h1 (fun _ _ h2 => h2.sampleRail))

theorem KeptOut.trayRailSample (h : Kept r s) {t' samples} : KeptOut r (execTrayRailSample t' samples s) := by
  unfold execTrayRailSample
  exact .next h.tick.sampleRails

theorem Kept.commitRun (h : Kept r s) {scope r'} : Kept r (s.commitRun scope r') := by
  unfold State.commitRun
  extract_lets _ s1 _ s2 _ s3 s4
  have h1 : Kept r s1 := .each h (fun _ _ h1 => h1.leaveRun.setScope.raise.resolveStart)
  have h2 : Kept r s2 := h1.journalAdd
  have h3 : Kept r s3 := h2.modRuns
  have h4 : Kept r s4 := .each h3 (fun _ _ h4 => h4.setScope)
  exact .ite h1 (.recommit (.each h4 (fun _ _ h5 => h5.checkUp)))

theorem KeptOut.seqRunStart (h : Kept r s) {t' scope} : KeptOut r (execSeqRunStart t' scope s) := by
  unfold execSeqRunStart
  refine .next ?_
  split
  · exact h.tick
  · exact .ite h.tick h.tick.commitRun

theorem KeptOut.railEnableSlot (h : Kept r s) {t' rail} : KeptOut r (execRailEnableSlot t' rail s) := by
  unfold execRailEnableSlot
  extract_lets s1 _ _
  have h1 : Kept r s1 := h.tick
  exact .next (by split; exacts [by split; exacts [.ite (.reckon h1 (fun _ h2 => h2.enableRail)) h1, h1], h1])

theorem KeptOut.goodDeadlineExpiry (h : Kept r s) {t' rail} : KeptOut r (execGoodDeadlineExpiry t' rail s) := by
  unfold execGoodDeadlineExpiry
  extract_lets s1 _ _
  have h1 : Kept r s1 := h.tick
  exact .next (by split; exacts [.ite (.reckon h1 (fun _ h2 => .ite h2.modRail.railFault h2)) h1, h1])

theorem KeptOut.railDisableSlot (h : Kept r s) {t' rail} : KeptOut r (execRailDisableSlot t' rail s) := by
  unfold execRailDisableSlot
  extract_lets s1 _ _
  have h1 : Kept r s1 := h.tick
  exact .next (by split; exacts [by split; exacts [.ite (.reckon h1 (fun _ h2 => h2.disableRail.dropOffRail.modRail.rehold.offNext)) h1, h1], h1])

theorem KeptOut.offDeadlineExpiry (h : Kept r s) {t' rail} : KeptOut r (execOffDeadlineExpiry t' rail s) := by
  unfold execOffDeadlineExpiry
  refine .next ?_
  dsimp only
  split
  · exact .ite h.tick.modRail.raise.rehold.offNext h.tick
  · exact h.tick

theorem KeptOut.startWaitExpiry (h : Kept r s) {t' scope} : KeptOut r (execStartWaitExpiry t' scope s) := by
  unfold execStartWaitExpiry
  exact .next (.ite h.tick.leaveRun.setScope.resolveStart h.tick)

theorem KeptOut.onScopeDischarged (h : Kept r s) {t' scope} : KeptOut r (onScopeDischarged t' scope s) := by
  unfold Machine.onScopeDischarged
  extract_lets s1 _ _ _
  have h1 : Kept r s1 := h.tick
  exact .next (.ite (.ite h1.setV.beginWait h1.setScope) (.ite h1.setScope h1))

theorem KeptOut.scopeDischarged (h : Kept r s) {t' scope} : KeptOut r (execScopeDischarged t' scope s) := by
  unfold execScopeDischarged
  exact .settled (.onScopeDischarged h)

theorem KeptOut.dischargeTimeout (h : Kept r s) {t' scope} : KeptOut r (execDischargeTimeout t' scope s) := by
  unfold execDischargeTimeout
  refine .next ?_
  dsimp only
  split
  · split
    · exact h.tick.setScope.setV.resolveStart.raise
    · exact h.tick
  · exact h.tick

theorem KeptOut.firstFaultForm (h : Kept r s) {t'} : KeptOut r (execFirstFaultForm t' s) := by
  unfold execFirstFaultForm
  refine .next ?_
  dsimp only
  split
  · exact .closeIncident (.frame (by split; exacts [h.tick.disarm.writeFault, h.tick.disarm]))
  · exact h.tick

theorem KeptOut.autoRestart (h : Kept r s) {t'} : KeptOut r (execAutoRestart t' s) := by
  unfold execAutoRestart
  extract_lets s1 _ s2 s3
  have h1 : Kept r s1 := h.tick
  have h2 : Kept r s2 := h1.setV
  have h3 : Kept r s3 := h2.of_core rfl rfl rfl rfl rfl
  exact .next (.ite (.ite h2.raise (.ite h2.raise h3.setV.setV)) h1)

theorem KeptOut.startSequence (h : Kept r s) {a} : KeptOut r (execStartSequence a s) := by
  unfold execStartSequence
  exact .next (.request h (fun _ h1 => h1.doStartSequence))

theorem KeptOut.stopSequence (h : Kept r s) {a} : KeptOut r (execStopSequence a s) := by
  unfold execStopSequence
  exact .next (.request h (fun _ h1 => h1.doStopSequence))

theorem KeptOut.enableRail (h : Kept r s) {a} : KeptOut r (execEnableRail a s) := by
  unfold execEnableRail
  exact .next (.request h (fun _ h1 => h1.doEnableRail))

theorem KeptOut.disableRail (h : Kept r s) {a} : KeptOut r (execDisableRail a s) := by
  unfold execDisableRail
  exact .next (.request h (fun _ h1 => h1.doDisableRail))

theorem KeptOut.loadSequence (h : Kept r s) {a table generation entries} : KeptOut r (execLoadSequence a table generation entries s) := by
  unfold execLoadSequence
  exact .next (.request h (fun _ h1 => h1.doLoadSequence))

theorem KeptOut.readFirstFault (h : Kept r s) {a start count} : KeptOut r (execReadFirstFault a start count s) := by
  unfold execReadFirstFault
  exact .next (.request h (fun _ h1 => h1.doReadFirstFault))

theorem KeptOut.clearFirstFault (h : Kept r s) {a} : KeptOut r (execClearFirstFault a s) := by
  unfold execClearFirstFault
  exact .next (.request h (fun _ h1 => h1.doClearFirstFault))

theorem KeptOut.writeThresholds (h : Kept r s) {a v} : KeptOut r (execWriteThresholds a v s) := by
  unfold execWriteThresholds
  exact .next (.write h (fun _ _ h1 => h1.setThresholds))

theorem Kept.missWord (h : Kept r s) {d} : Kept r (s.missWord d) := by
  unfold State.missWord
  exact .ite h.modDom.count.setV.raise h.modDom.count

theorem Kept.sendWords (h : Kept r s) {slot d} : Kept r (s.sendWords slot d) := by
  unfold State.sendWords
  exact .modDom (.each h (fun _ _ h1 => h1.modLeg))

theorem Kept.nextSlice (h : Kept r s) {r'} : Kept r (s.nextSlice r').1 := by
  unfold State.nextSlice
  dsimp only
  split
  · exact .ite_fst h.modLink.modLink.pair h.modLink.pair
  · exact h.modLink.pair

theorem Kept.launchOn (h : Kept r s) {p slot side} : Kept r (s.launchOn p slot side) := by
  unfold State.launchOn
  exact .ite h (.ite h.send h.send)

theorem Kept.launchRelay (h : Kept r s) {slot r'} : Kept r (s.launchRelay slot r') := by
  unfold State.launchRelay
  exact .each (.ite_fst h.nextSlice h) (fun _ _ h1 => h1.launchOn)

theorem Kept.launchSlot (h : Kept r s) {missing} : Kept r (s.launchSlot missing) := by
  unfold State.launchSlot
  exact .each (.each (.each h (fun _ _ h1 => h1.missWord)) (fun _ _ h1 => h1.sendWords)) (fun _ _ h1 => h1.launchRelay)

theorem KeptOut.slotInstant (h : Kept r s) {t' slot missing} : KeptOut r (execSlotInstant t' slot missing s) := by
  unfold execSlotInstant
  exact .next (.ite h.tick.launchSlot h.tick)

theorem Kept.noteFrame (h : Kept r s) {p ok} : Kept r (s.noteFrame p ok) := by
  unfold State.noteFrame
  exact .ite h (.ite h.modLink (.ite h.modLink.linkError.moveLink h.modLink.linkError))

theorem Kept.legFault (h : Kept r s) {l cause code fail} : Kept r (s.legFault l cause code fail) := by
  unfold State.legFault
  exact .ite h.modLeg.put.setLeg.journalSafety.raiseSafety.checkHealthy h

theorem Kept.sampleLeg (h : Kept r s) {r' f at_ ℓ} : Kept r (s.sampleLeg r' f at_ ℓ) := by
  unfold State.sampleLeg
  extract_lets l i bad
  split
  rename_i e
  have h1 := Kept.of_snd (r := r) (.ite_snd h <| .ite_snd h (by exact h.draw)) e
  have h2 {l i f} : Kept r ((State.put _ P.current l i).modLeg l f) := h1.put.modLeg
  exact .ite h2.legFault <| .ite h2.legFault <| .ite h2.legFault <| .ite h2.legFault <| .ite h2.legFault h2

theorem Kept.readLegTemp (h : Kept r s) {r' slot f at_ m} : Kept r (s.readLegTemp r' slot f at_ m) := by
  unfold State.readLegTemp
  extract_lets l
  split
  rename_i e
  have h1 := h.roundDiv.of_snd e
  exact .ite h1.put.modLeg.legFault h1.put.modLeg

theorem Kept.refreshOc (h : Kept r s) {a} : Kept r (s.refreshOc a) := by
  unfold State.refreshOc
  exact .ite h h.clearReef

theorem Kept.sampleCurrent (h : Kept r s) {at_ d} : Kept r (s.sampleCurrent at_ d) := by
  unfold State.sampleCurrent
  extract_lets _ _ s1 _ s2
  have h1 : Kept r s1 := h.put.modDom
  have h2 : Kept r s2 := h1.modDom.arm
  exact .ite h2.journalSafety.setReef.raiseSafety (.ite h1.modDom.refreshOc h1)

theorem Kept.applyThresholds (h : Kept r s) {r' slot} : Kept r (s.applyThresholds r' slot) := by
  unfold State.applyThresholds
  exact .each h.modRelay (fun _ _ h1 => .ite h1.put.setV h1.put)

theorem Kept.sampleVolt (h : Kept r s) {f d} : Kept r (s.sampleVolt f d) := by
  unfold State.sampleVolt
  exact h.modDom

theorem Kept.gaugeDomain (h : Kept r s) {d} : Kept r (s.gaugeDomain d) := by
  unfold State.gaugeDomain
  exact h.gauge.gauge.gauge

theorem Kept.calStep (h : Kept r s) {r' leg spare op} : Kept r (s.calStep r' leg spare op) := by
  unfold State.calStep
  exact h.sendRelay

theorem Kept.calSample (h : Kept r s) {r' f} : Kept r (s.calSample r' f) := by
  unfold State.calSample
  split
  · exact .ite h.modRelay.calStep (.ite h.modRelay h)
  · exact h

theorem Kept.relayActions (h : Kept r s) {r'} : Kept r (s.relayActions r') := by
  unfold State.relayActions
  exact .beginOff (.ite h.journalSafety.setReef.assertFurl.noteFailure h.journalSafety.setReef.assertFurl)

theorem Kept.takeFrame (h : Kept r s) {r' slot f} : Kept r (s.takeFrame r' slot f) := by
  unfold State.takeFrame
  extract_lets _ s1 s2 s3 s4 s5 s6 s7 s8 s9 s10
  have h1 : Kept r s1 := h.modRelay
  have h2 : Kept r s2 := .each h1 (fun _ _ h2 => h2.sampleLeg)
  have h3 : Kept r s3 := .each h2 (fun _ _ h3 => h3.readLegTemp)
  have h4 : Kept r s4 := .each h3 (fun _ _ h4 => h4.sampleCurrent)
  have h5 : Kept r s5 := h4.applyThresholds
  have h6 : Kept r s6 := .each h5 (fun _ _ h6 => h6.sampleVolt)
  have h7 : Kept r s7 := .each h6 (fun _ _ h7 => h7.gaugeDomain)
  have h8 : Kept r s8 := h7.sampleRails
  have h9 : Kept r s9 := h8.calSample.refreshOc
  have h10 : Kept r s10 := h9.modRelay
  exact .ite h10.raiseSafety.relayActions h9.modRelay

theorem Kept.staleSlot (h : Kept r s) {r'} : Kept r (s.staleSlot r') := by
  unfold State.staleSlot
  extract_lets s1 s2
  have h1 : Kept r s1 := h.count.modRelay
  have h2 : Kept r s2 := .each h1 (fun _ _ h2 => h2.modDom)
  exact .ite (.each h2 (fun _ _ h3 => h3.domainTrip)) h2

theorem Kept.openFrame (h : Kept r s) {slot} : Kept r (s.openFrame slot) := by
  unfold State.openFrame
  exact .frame h

theorem Kept.recordSlot (h : Kept r s) {relay slot b} : Kept r (s.recordSlot relay slot b) := by
  unfold State.recordSlot
  extract_lets live last s1
  have h1 : Kept r s1 := .ite h h.closeFrame.openFrame
  refine .ite h ?_
  clear_value s1
  split
  · exact h1.of_core rfl rfl rfl rfl rfl
  · exact h1

theorem Kept.onTimes (h : Kept r s) {c u iMean l} : Kept r (s.onTimes c u iMean l).2 := by
  induction l generalizing s with
  | nil => exact h
  | cons x l ih =>
    rw [State.onTimes]
    split
    rename_i e1
    split
    rename_i e2
    exact ih ((h.roundDiv.of_snd e1).roundDiv.of_snd e2)

theorem Kept.putWord (h : Kept r s) {l slot word} : Kept r (s.putWord l slot word) := by
  unfold State.putWord
  exact h.modLeg

theorem Kept.layWords (h : Kept r s) {d slot ons} : Kept r (s.layWords d slot ons) := by
  unfold State.layWords
  extract_lets _ s1 _
  have h1 : Kept r s1 := .ite h.modDom h
  exact .each h1 (fun _ _ h2 => .ite h2.putWord.modLeg (by split; exacts [.ite h2.modLeg.draw.putWord h2.modLeg.putWord, h2.putWord]))

theorem Kept.updateDomain (h : Kept r s) {d k'} : Kept r (s.updateDomain d k') := by
  unfold State.updateDomain
  dsimp only
  split
  · exact h
  · split
    · exact h.domainHalt
    · exact .each h.refAt.roundDiv.roundDiv.modDom.roundDiv.onTimes (fun _ _ h1 => h1.layWords)

theorem KeptOut.sheetUpstreamFrame (h : Kept r s) {t' r' data0 crc0 data1 crc1} : KeptOut r (execSheetUpstreamFrame t' r' data0 crc0 data1 crc1 s) := by
  unfold execSheetUpstreamFrame
  extract_lets s1 _ _ _ _ _ _ _ s2 s3 _ _ _ _ s4 s5
  have h1 : Kept r s1 := h.tick
  have h2 : Kept r s2 := h1.spend.spend
  have h3 : Kept r s3 := h2.noteFrame.noteFrame
  have h4 : Kept r s4 := .ite h3.takeFrame h3.staleSlot
  have h5 : Kept r s5 := h4.recordSlot.setV
  exact .next (.ite h3 (.offNext (.each h5 (fun _ _ h6 => h6.updateDomain))))

theorem KeptOut.domainOcTripCheck (h : Kept r s) {t' d} : KeptOut r (execDomainOcTripCheck t' d s) := by
  unfold execDomainOcTripCheck
  exact .next (.ite (.ite h.tick.disarm.domainTrip.refreshOc h.tick.disarm) h.tick)

theorem Kept.putPlanSource (h : Kept r s) {d fc} : Kept r (s.putPlanSource d fc) := by
  unfold State.putPlanSource
  exact .ite h.put (.frame h.put)

theorem Kept.replan (h : Kept r s) {d} : Kept r (s.replan d) := by
  unfold State.replan
  extract_lets x fc s1 f plan healthy target wanted n s2 up active s3 below s4 hold s5 capacity
  have h2 : Kept r s2 := (h.putPlanSource.when fun _ h => h.note).setV
  have h4 : Kept r s4 := Kept.modDom (s := s3) (h2.each fun _ _ h => h.modLeg.setLeg)
  have h5 : Kept r s5 := by
    unfold s5
    split
    · exact .ite h4.modDom.modLeg.setLeg h4
    · exact h4
  clear_value s5
  split
  rename_i e
  have h6 := h5.roundDiv.of_snd e
  exact .ite (.setV (.ite h6.raise h6)) h6.setV

theorem KeptOut.legReplan (h : Kept r s) {t'} : KeptOut r (execLegReplan t' s) := by
  unfold execLegReplan
  exact .next (.ite (.each h.tick (fun _ _ h1 => h1.replan)) h.tick)

theorem KeptOut.legWakeDone (h : Kept r s) {t' l} : KeptOut r (execLegWakeDone t' l s) := by
  unfold execLegWakeDone
  refine .next ?_
  split
  · exact .ite h.tick.modLeg.setLeg h.tick
  · exact h.tick

theorem Kept.drained (h : Kept r s) {l} : Kept r (s.drained l) := by
  unfold State.drained
  exact .ite h.modLeg.modLeg.setLeg.checkHealthy h.modLeg.setLeg

theorem KeptOut.legDrainDone (h : Kept r s) {t' l} : KeptOut r (execLegDrainDone t' l s) := by
  unfold execLegDrainDone
  refine .next ?_
  split
  · exact .ite h.tick.drained h.tick
  · exact h.tick

theorem KeptOut.writeLegAdmin (h : Kept r s) {a v} : KeptOut r (execWriteLegAdmin a v s) := by
  unfold execWriteLegAdmin
  exact .next (.write h (fun _ _ h1 => h1.setLegAdmin))

theorem KeptOut.writeSetpoint (h : Kept r s) {a v} : KeptOut r (execWriteSetpoint a v s) := by
  unfold execWriteSetpoint
  exact .next (.write h (fun _ _ h1 => h1.setSetpoint))

theorem Kept.startCal (h : Kept r s) {r'} : Kept r (s.startCal r') := by
  unfold State.startCal
  dsimp only
  split
  · exact .ite h h.modRelay.calStep
  · exact h

theorem KeptOut.calRotation (h : Kept r s) {t'} : KeptOut r (execCalRotation t' s) := by
  unfold execCalRotation
  exact .next (.ite h.tick (.each h.tick.setV (fun _ _ h1 => h1.startCal)))

theorem Kept.calDone (h : Kept r s) {r'} : Kept r (s.calDone r') := by
  unfold State.calDone
  exact .modRelay (by split; exacts [.ite h.spend h, h])

theorem Kept.syncSpares (h : Kept r s) {r'} : Kept r (s.syncSpares r') := by
  unfold State.syncSpares
  exact .ite h.put.raise h.put

theorem Kept.calMove (h : Kept r s) {r' leg sp retire} : Kept r (s.calMove r' leg sp retire) := by
  unfold State.calMove
  exact h.put.modRelay.calStep.syncSpares

theorem KeptOut.calCompareDone (h : Kept r s) {t' r'} : KeptOut r (execCalCompareDone t' r' s) := by
  unfold execCalCompareDone
  extract_lets s1 r' far
  have h1 : Kept r s1 := h.tick
  clear_value s1
  refine .next ?_
  split
  · exact h1
  · extract_lets c
    clear_value c
    refine .ite h1 ?_
    split
    · refine .ite h1.calMove.calDone ?_
      split
      · exact h1.modRelay.calStep
      · exact h1.calStep.calDone
    · split
      rename_i e
      have h2 := h1.roundDiv.of_snd e
      exact .ite h2.modRelay.calStep.syncSpares.raise.calDone <| .ite h2.calMove.raise.calDone h2.legFault.calStep.calDone

theorem Kept.takeCalResult (h : Kept r s) {r' channel status} : Kept r (s.takeCalResult r' channel status) := by
  unfold State.takeCalResult
  split
  · exact h.modRelay.syncSpares
  · exact h

theorem KeptOut.calResult (h : Kept r s) {t' r' x2 channel status x5 x6} : KeptOut r (execCalResult t' r' x2 channel status x5 x6 s) := by
  unfold execCalResult
  exact .next h.tick.takeCalResult

theorem KeptOut.sheetTrainFrame (h : Kept r s) {t' p bytes} : KeptOut r (execSheetTrainFrame t' p bytes s) := by
  unfold execSheetTrainFrame
  extract_lets s1 _ s2 _ s3
  have h1 : Kept r s1 := h.tick
  have h2 : Kept r s2 := .ite h1.moveLink h1
  have h3 : Kept r s3 := .when h2.spend (fun _ h3 => h3.linkError)
  exact .next (.ite h1 (.ite h3.takeTrain (.ite h3.breakTrain h3)))

theorem Kept.replaySlices (h : Kept r s) {r'} : Kept r (s.replaySlices r') := by
  unfold State.replaySlices
  exact .ite h (.ite (.each h.modLink (fun _ _ h1 => h1.moveLink)) h.modLink)

theorem Kept.relayUnsensed (h : Kept r s) {r'} : Kept r (s.relayUnsensed r') := by
  unfold State.relayUnsensed
  exact .offNext (.rehold (.each h (fun _ _ h1 => h1.modRail)))

theorem Kept.relayDepart (h : Kept r s) {r' cause} : Kept r (s.relayDepart r' cause) := by
  unfold State.relayDepart
  extract_lets s1 s2 s3 s4 s5 s6
  have h1 : Kept r s1 := .each h (fun _ _ h1 => h1.abortTrial)
  have h2 : Kept r s2 := h1.put.disarm
  have h3 : Kept r s3 := h2.modRelay
  have h4 : Kept r s4 := h3.reopen
  have h5 : Kept r s5 := .ite h4.partnerDeparted h4.partnerDeparted.relayActions
  have h6 : Kept r s6 := .each h5 (fun _ _ h6 => h6.domainHalt)
  exact h6.relayUnsensed

theorem Kept.resetSide (h : Kept r s) {r'} : Kept r (s.resetSide r') := by
  unfold State.resetSide
  exact h.modLink

theorem Kept.relayAck (h : Kept r s) {r' status} : Kept r (s.relayAck r' status) := by
  unfold State.relayAck
  exact h.sendRelay

theorem Kept.relayArrive (h : Kept r s) {r' m} : Kept r (s.relayArrive r' m) := by
  unfold State.relayArrive
  extract_lets s1 s2 s3 s4 s5 s6 _ s7 s8
  have h1 : Kept r s1 := h.resetSide
  have h2 : Kept r s2 := h1.of_core rfl rfl rfl rfl rfl
  have h3 : Kept r s3 := h2.put.put
  have h4 : Kept r s4 := .each h3 (fun _ _ h4 => h4.put)
  have h5 : Kept r s5 := .each h4 (fun _ _ h5 => h5.put)
  have h6 : Kept r s6 := h5.syncSpares.relayAck
  have h7 : Kept r s7 := h6.sendRelay
  have h8 : Kept r s8 := h7.sendRelay
  exact h8.configThresholds

theorem Kept.takeRelayIdentity (h : Kept r s) {p m} : Kept r (s.takeRelayIdentity p m) := by
  unfold State.takeRelayIdentity
  extract_lets _ _ s1 _ s2 s3
  have h1 : Kept r s1 := h.setV
  have h2 : Kept r s2 := .ite h1.relayDepart h1
  have h3 : Kept r s3 := .ite h2.relayArrive h1.relayAck
  split
  · exact h1.modRelay.reopen
  · split
    · exact h1
    · split
      · exact .ite h3 h3.moveLink
      · exact .raise (.ite h1.relayAck.rejectPort.put h1.relayAck.rejectPort)

theorem Kept.takeConfigAck (h : Kept r s) {r' kind status slot} : Kept r (s.takeConfigAck r' kind status slot) := by
  unfold State.takeConfigAck
  extract_lets _ s1 s2 s3 s4 s5 s6 _ s7 _
  have h1 : Kept r s1 := .ite h.relayDepart h
  have h2 : Kept r s2 := h1.modRelay
  have h3 : Kept r s3 := h2.put
  have h4 : Kept r s4 := .each h3 (fun _ _ h4 => h4.rejectPort)
  have h5 : Kept r s5 := .ite (by split; exacts [h.modRelay.applyThresholds, h]) h
  have h6 : Kept r s6 := h5.modRelay
  have h7 : Kept r s7 := h6.put
  exact .ite h (.ite h4.raise (.ite h6 h7.partnerArrived.relayLinks))

theorem Kept.takeRelayAlert (h : Kept r s) {r' code severity detail} : Kept r (s.takeRelayAlert r' code severity detail) := by
  unfold State.takeRelayAlert
  exact h.sendRelay.raise

theorem Kept.takeRelayMsg (h : Kept r s) {p x2} : Kept r (s.takeRelayMsg p x2) := by
  unfold State.takeRelayMsg
  split
  · exact h.takeRelayIdentity
  · exact h.takeConfigAck
  · exact h.takeCalResult
  · exact h.takeRelayAlert
  · exact h.count

theorem KeptOut.sideSlice (h : Kept r s) {t' p bytes} : KeptOut r (execSideSlice t' p bytes s) := by
  unfold execSideSlice
  extract_lets s1 p k x s2 s3 anew ahead s4
  have h2 : Kept r s2 := by
    unfold s2
    split
    · exact h.tick.takeAck
    · exact h.tick
  have h3 : Kept r s3 := .ite h2.replaySlices h2
  have h4 : Kept r s4 := h3.modLink
  clear_value s3 s4
  refine .next <| .ite h3 <| .ite ?_ <| .ite h3.modLink h3
  split
  · rename_i e
    exact (h4.joinFlit.of_fst e).takeRelayMsg
  · rename_i e
    exact h4.joinFlit.of_fst e

theorem KeptOut.sliceReplayTimeout (h : Kept r s) {t' r'} : KeptOut r (execSliceReplayTimeout t' r' s) := by
  unfold execSliceReplayTimeout
  exact .next (.ite h.tick.replaySlices h.tick)

theorem KeptOut.onRelayIdentity (h : Kept r s) {t' p m} : KeptOut r (onRelayIdentity t' p m s) := by
  unfold Machine.onRelayIdentity
  exact .next h.tick.takeRelayIdentity

theorem KeptOut.relayIdentity (h : Kept r s) {t' p m} : KeptOut r (execRelayIdentity t' p m s) := by
  unfold execRelayIdentity
  exact .settled (.onRelayIdentity h)

theorem KeptOut.onConfigAck (h : Kept r s) {t' r' kind status slot} : KeptOut r (onConfigAck t' r' kind status slot s) := by
  unfold Machine.onConfigAck
  exact .next h.tick.takeConfigAck

theorem KeptOut.configAck (h : Kept r s) {t' r' kind status slot} : KeptOut r (execConfigAck t' r' kind status slot s) := by
  unfold execConfigAck
  exact .settled (.onConfigAck h)

theorem KeptOut.relayAlert (h : Kept r s) {t' r' code severity detail} : KeptOut r (execRelayAlert t' r' code severity detail s) := by
  unfold execRelayAlert
  exact .next h.tick.takeRelayAlert

theorem KeptOut.sheetPortTimeout (h : Kept r s) {t' x} : KeptOut r (execSheetPortTimeout t' x s) := by
  unfold execSheetPortTimeout
  exact .next (.ite h.tick.moveLink h.tick)

theorem KeptOut.relayLossTimeout (h : Kept r s) {t' r'} : KeptOut r (execRelayLossTimeout t' r' s) := by
  unfold execRelayLossTimeout
  exact .next (.ite h.tick.relayDepart h.tick)

theorem Kept.domainDemand (h : Kept r s) {d} : Kept r (s.domainDemand d).2 := by
  unfold State.domainDemand
  exact .ite_snd h h.roundDiv

theorem Kept.putDomainDemands (h : Kept r s) {a} : Kept r (s.putDomainDemands a) := by
  unfold State.putDomainDemands
  refine h.each fun _ _ h => ?_
  extract_lets n
  split
  rename_i e
  exact (h.domainDemand.of_snd e).put.modNode.put

theorem Kept.noteRation (h : Kept r s) {parent x l} : Kept r (s.noteRation parent x l) := by
  unfold State.noteRation
  exact .ite h.whole.setV.raise h

theorem Kept.giveGrant (h : Kept r s) {n v at_} : Kept r (s.giveGrant n v at_) := by
  unfold State.giveGrant
  exact .ite h (.settleNode (.modNode (.when h (fun _ h1 => h1.note))))

theorem Kept.putChild (h : Kept r s) {c grant dec inc} : Kept r (s.putChild c grant dec inc) := by
  unfold State.putChild
  exact h.modNode.put.giveGrant

theorem KeptOut.accelEpoch (h : Kept r s) {t' a} : KeptOut r (execAccelEpoch t' a s) := by
  unfold execAccelEpoch
  exact .next (.ite h.tick (.each h.tick.setV.putDomainDemands.noteRation (fun _ _ h1 => h1.putChild)))

theorem Kept.setBand (h : Kept r s) : Kept r (s.setBand) := by
  unfold State.setBand
  exact .ite h.put.setV.raise (.ite h.setV (.ite h.put.setV.raise h.setV))

theorem Kept.accelDemand (h : Kept r s) {a} : Kept r (s.accelDemand a).2 := by
  unfold State.accelDemand
  exact .ite_snd h (.ite_snd h (.ite_snd h (.ite_snd h.roundDiv h)))

theorem Kept.putAccelDemands (h : Kept r s) : Kept r (s.putAccelDemands) := by
  unfold State.putAccelDemands
  exact .put (.each h (fun _ _ h1 => h1.putDomainDemands.accelDemand.put.put))

theorem Kept.sendGrant (h : Kept r s) {a v effective} : Kept r (s.sendGrant a v effective) := by
  unfold State.sendGrant
  exact h.sendAccel

theorem Kept.putEmergency (h : Kept r s) : Kept r (s.putEmergency) := by
  unfold State.putEmergency
  exact .each h (fun _ _ h1 => h1.put)

theorem Kept.putTrayDemand (h : Kept r s) : Kept r (s.putTrayDemand) := by
  unfold State.putTrayDemand
  exact .put (.frame h.whole)

theorem Kept.ratRack (h : Kept r s) {kind serial body} : Kept r (s.ratRack kind serial body) := by
  unfold State.ratRack
  split
  · exact h.ratSend
  · exact h

theorem Kept.sendReport (h : Kept r s) : Kept r (s.sendReport) := by
  unfold State.sendReport
  exact .ite h h.ratRack

theorem Kept.trayEpoch (h : Kept r s) : Kept r s.trayEpoch := by
  unfold State.trayEpoch
  extract_lets s1 s2 s3
  have h2 : Kept r s2 := (h.each fun _ _ h => h.reportReef).each fun _ _ h => h.gauge.gauge
  have h3 : Kept r s3 := h2.settleNode.putAccelDemands.setBand
  refine .ite h2 ?_
  split
  rename_i e
  have h4 := h3.whole.of_snd e
  extract_lets s4 x l held s5 s6 s7
  have h5 : Kept r s5 := h4.put.noteRation.each fun s c h => .ite h.putChild h.putChild.sendGrant
  have h7 : Kept r s7 := (h5.when fun _ h => h.setV).putTrayDemand.putEmergency
  exact .ite h7.sendReport h7

theorem Kept.planProps (h : Kept r s) : Kept r (s.planProps) := by
  unfold State.planProps
  exact h.setV.setV.setV

theorem Kept.samplePhase (h : Kept r s) {a} : Kept r (s.samplePhase a) := by
  unfold State.samplePhase
  exact .ite h (.frame h)

theorem Kept.usePlan (h : Kept r s) {e} : Kept r (s.usePlan e) := by
  unfold State.usePlan
  exact h.putPlan

theorem Kept.planComing (h : Kept r s) {a} : Kept r (s.planComing a).2 := by
  unfold State.planComing
  extract_lets hint x lead base map spans s1 s2
  clear_value spans map base
  refine .ite_snd h ?_
  have h1 : Kept r s1 := by
    unfold s1
    split
    · exact h.usePlan
    · exact h
  have h2 : Kept r s2 := by
    unfold s2
    split
    · exact h1.usePlan
    · exact h1
  exact h2

theorem Kept.planAccel (h : Kept r s) {a} : Kept r (s.planAccel a) := by
  unfold State.planAccel
  extract_lets s1 prev s2
  refine .ite h.setV ?_
  have h2 : Kept r s2 := .ite h.samplePhase h.samplePhase.frame
  split
  rename_i e1
  have h3 := h2.planComing.of_snd e1
  extract_lets c s3 v
  have h4 : Kept r s3 := h3.of_core rfl rfl rfl rfl rfl
  split
  rename_i e2
  exact (h4.whole.of_snd e2).setV

theorem KeptOut.trayEpoch (h : Kept r s) {t'} : KeptOut r (execTrayEpoch t' s) := by
  unfold execTrayEpoch
  exact .next (.ite (.trayEpoch (.each h.tick.setV.planProps (fun _ _ h1 => h1.planAccel))) h.tick)

theorem Kept.rackDemand (h : Kept r s) : Kept r (s.rackDemand) := by
  unfold State.rackDemand
  exact h.put.put

theorem Kept.acceptGrant (h : Kept r s) {level epoch v effective} : Kept r (s.acceptGrant level epoch v effective) := by
  unfold State.acceptGrant
  exact .ite h.setV.setV.arm.giveGrant.setV.raise h.setV.setV.arm.giveGrant

theorem Kept.splitRack (h : Kept r s) : Kept r s.splitRack := by
  unfold State.splitRack
  extract_lets e own others all hold base unheard reserved x l frozen s1 s2 s3
  have h1 : Kept r s1 := h.noteRation.when fun _ h => h.setV
  have h2 : Kept r s2 := h1.frame.rackDemand
  have h3 : Kept r s3 := by
    refine h2.each fun s c h => ?_
    split
    · exact h
    · extract_lets g eff s4
      have h4 : Kept r s4 := h.of_core rfl rfl rfl rfl rfl
      exact .ite h4.acceptGrant h4.ratRack
  clear_value s3
  refine .ite ?_ h3
  split
  rename_i e1
  split
  rename_i e2
  split
  rename_i e3
  exact (((h3.roundDiv.of_snd e1).roundDiv.of_snd e2).roundDiv.of_snd e3).ratTree

theorem KeptOut.rackEpoch (h : Kept r s) {t'} : KeptOut r (execRackEpoch t' s) := by
  unfold execRackEpoch
  exact .next (.ite h.tick h.tick.setV.splitRack)

theorem Kept.takeReport (h : Kept r s) {m} : Kept r (s.takeReport m) := by
  unfold State.takeReport
  exact .ite (.ite (.frame h) h) (.ite (.frame h) h)

theorem Kept.splitInstall (h : Kept r s) : Kept r s.splitInstall := by
  unfold State.splitInstall
  extract_lets e
  split
  rename_i e1
  split
  rename_i e2
  split
  rename_i e3
  have h1 := ((h.roundDiv.of_snd e1).roundDiv.of_snd e2).roundDiv.of_snd e3
  refine Kept.each (.put (.when (.noteRation (.ite h1.takeReport h1)) fun _ h => h.setV)) fun s c h => ?_
  split
  · exact h
  · extract_lets g eff s4
    have h4 : Kept r s4 := h.of_core rfl rfl rfl rfl rfl
    exact .ite h4.acceptGrant h4.ratTree

theorem KeptOut.installationEpoch (h : Kept r s) {t'} : KeptOut r (execInstallationEpoch t' s) := by
  unfold execInstallationEpoch
  exact .next (.ite h.tick h.tick.setV.splitInstall)

theorem KeptOut.grantEffective (h : Kept r s) {t' n} : KeptOut r (execGrantEffective t' n s) := by
  unfold execGrantEffective
  exact .next h.tick.settleNode

theorem KeptOut.limitEffective (h : Kept r s) {t' n} : KeptOut r (execLimitEffective t' n s) := by
  unfold execLimitEffective
  exact .next h.tick.settleNode

theorem Kept.rackElect (h : Kept r s) : Kept r (s.rackElect) := by
  unfold State.rackElect
  exact .ite h (.ite h (.ite h.put.raise.setV h.put.raise))

theorem KeptOut.rackHelloSend (h : Kept r s) {t'} : KeptOut r (execRackHelloSend t' s) := by
  unfold execRackHelloSend
  exact .next (.ite (.rackElect (.each h.tick (fun _ _ h1 => h1.ratLink))) h.tick)

theorem Kept.takeHello (h : Kept r s) {p m} : Kept r (s.takeHello p m) := by
  unfold State.takeHello
  exact .ite h (.rackElect (.ite (.frame h) (.each (.frame h) (fun _ _ h1 => h1.ratLink))))

theorem KeptOut.rackHello (h : Kept r s) {t' p m} : KeptOut r (execRackHello t' p m s) := by
  unfold execRackHello
  exact .next h.tick.takeHello

theorem KeptOut.budgetReport (h : Kept r s) {t' m} : KeptOut r (execBudgetReport t' m s) := by
  unfold execBudgetReport
  exact .next h.tick.takeReport

theorem Kept.takeGrant (h : Kept r s) {m} : Kept r (s.takeGrant m) := by
  unfold State.takeGrant
  exact .ite h (.ite (.ite h.put.put.acceptGrant h) (.ite h.put.acceptGrant h))

theorem KeptOut.budgetGrant (h : Kept r s) {t' m} : KeptOut r (execBudgetGrant t' m s) := by
  unfold execBudgetGrant
  exact .next h.tick.takeGrant

theorem Kept.isolate (h : Kept r s) {level} : Kept r (s.isolate level) := by
  unfold State.isolate
  exact h.disarm.setV.raise.giveGrant

theorem KeptOut.rackHoldExpiry (h : Kept r s) {t' level} : KeptOut r (execRackHoldExpiry t' level s) := by
  unfold execRackHoldExpiry
  exact .next (.ite h.tick.isolate h.tick)

theorem KeptOut.writeRackOther (h : Kept r s) {a v} : KeptOut r (execWriteRackOther a v s) := by
  unfold execWriteRackOther
  exact .next (.write h (fun _ _ h1 => h1.setRackOther))

theorem Kept.takeInput (h : Kept r s) {feeds} : Kept r (s.takeInput feeds) := by
  unfold State.takeInput
  extract_lets _ _ s1 s2
  have h1 : Kept r s1 := .each h (fun _ _ h1 => h1.spend)
  have h2 : Kept r s2 := h1.of_core rfl rfl rfl rfl rfl
  exact .put (.whole (.frame (.each (.gauge (.put (.when h2.whole (fun _ h3 => h3.note)))) (fun _ _ h3 => h3.gauge))))

theorem Kept.raiseFast (h : Kept r s) {level} : Kept r (s.raiseFast level).1 := by
  unfold State.raiseFast
  exact .each h.stopTrials (fun _ _ h1 => h1.setReef)

theorem Kept.fastEvent (h : Kept r s) {stage mask} : Kept r (s.fastEvent stage mask) := by
  unfold State.fastEvent
  exact h.whole.whole.journalSafety.raiseSafety

theorem Kept.fastConfirm (h : Kept r s) : Kept r (s.fastConfirm) := by
  unfold State.fastConfirm
  exact .arm (.fastEvent (.count (.raiseFast (.disarm (.disarm (.frame h))))))

theorem Kept.judgeFast (h : Kept r s) : Kept r (s.judgeFast) := by
  unfold State.judgeFast
  dsimp only
  split
  · exact .fastConfirm (.frame h)
  · split
    · split
      · exact .setT (.frame h)
      · exact .disarm (.frame h)
    · exact .frame h

theorem KeptOut.fastSenseSample (h : Kept r s) {t' feeds} : KeptOut r (execFastSenseSample t' feeds s) := by
  unfold execFastSenseSample
  exact .next (.ite (.ite h.tick.takeInput.judgeFast h.tick.takeInput) h.tick)

theorem KeptOut.fastStage2Check (h : Kept r s) {t'} : KeptOut r (execFastStage2Check t' s) := by
  unfold execFastStage2Check
  exact .next (.ite (.ite h.tick.disarm.raiseFast.fastEvent.arm h.tick.disarm) h.tick)

theorem KeptOut.fastFurlExpiry (h : Kept r s) {t'} : KeptOut r (execFastFurlExpiry t' s) := by
  unfold execFastFurlExpiry
  exact .next (.ite (.ite h.tick.disarm.fastEvent.furlPlain h.tick.disarm) h.tick)

theorem Kept.fastStepDown (h : Kept r s) : Kept r (s.fastStepDown) := by
  unfold State.fastStepDown
  extract_lets s1 _ s2
  have h1 : Kept r s1 := .each h (fun _ _ h1 => .ite h1.stepReef h1)
  have h2 : Kept r s2 := .disarm (.frame h1)
  exact .ite h1.arm h2.whole.raise

theorem KeptOut.fastReleaseExpiry (h : Kept r s) {t'} : KeptOut r (execFastReleaseExpiry t' s) := by
  unfold execFastReleaseExpiry
  exact .next (.ite (.fastStepDown (.disarm (.frame h.tick))) h.tick)

theorem KeptOut.reefStepDown (h : Kept r s) {t' source1} : KeptOut r (execReefStepDown t' source1 s) := by
  unfold execReefStepDown
  extract_lets s1
  have h1 : Kept r s1 := h.tick
  exact .next (by split; exacts [.ite h1.fastStepDown h1, .ite (.ite h1.stepReef.arm h1.stepReef.disarm) h1])

theorem Kept.overGrant (h : Kept r s) {a p grant} : Kept r (s.overGrant a p grant) := by
  unfold State.overGrant
  exact h.whole.setV.count.disarm.journalSafety.setReef.raiseSafety

theorem KeptOut.complianceCheck (h : Kept r s) {t' a} : KeptOut r (execComplianceCheck t' a s) := by
  unfold execComplianceCheck
  extract_lets s1 _ _ _ _ s2 s3 s4
  have h1 : Kept r s1 := h.tick
  have h2 : Kept r s2 := h1.setV
  have h3 : Kept r s3 := .when h2 (fun _ h3 => h3.setV)
  have h4 : Kept r s4 := h3.setV
  exact .next (.ite h4 (.ite h4.overGrant (.ite h4.armOnce h4)))

theorem KeptOut.reefDurationExpiry (h : Kept r s) {t' a} : KeptOut r (execReefDurationExpiry t' a s) := by
  unfold execReefDurationExpiry
  exact .next (.ite h.tick.disarm.clearReef h.tick)

theorem KeptOut.setBudget (h : Kept r s) {a limit} : KeptOut r (execSetBudget a limit s) := by
  unfold execSetBudget
  exact .next (.request h (fun _ h1 => h1.doSetBudget))

theorem KeptOut.setWeight (h : Kept r s) {a weight} : KeptOut r (execSetWeight a weight s) := by
  unfold execSetWeight
  exact .next (.request h (fun _ h1 => h1.doSetWeight))

theorem KeptOut.setMinGrant (h : Kept r s) {a minGrant} : KeptOut r (execSetMinGrant a minGrant s) := by
  unfold execSetMinGrant
  exact .next (.request h (fun _ h1 => h1.doSetMinGrant))

theorem KeptOut.readGrants (h : Kept r s) {a} : KeptOut r (execReadGrants a s) := by
  unfold execReadGrants
  exact .next (.request h (fun _ h1 => h1.doReadGrants))

theorem KeptOut.reef (h : Kept r s) {a level duration} : KeptOut r (execReef a level duration s) := by
  unfold execReef
  exact .next (.request h (fun _ h1 => h1.doReef))

theorem KeptOut.releaseReef (h : Kept r s) {a} : KeptOut r (execReleaseReef a s) := by
  unfold execReleaseReef
  exact .next (.request h (fun _ h1 => h1.doReleaseReef))

theorem Kept.modFc (h : Kept r s) {d f} : Kept r (s.modFc d f) := by
  unfold State.modFc
  exact .frame h

theorem Kept.dropForecast (h : Kept r s) {d} : Kept r (s.dropForecast d) := by
  unfold State.dropForecast
  exact h.modFc.setV.putPlanSource

theorem Kept.shed (h : Kept r s) {t'} : Kept r (s.shed t') := by
  unfold State.shed
  dsimp only
  split
  · exact .each h.put.setV (fun _ _ h1 => h1.dropForecast)
  · exact .raise (.each h.put.setV (fun _ _ h1 => h1.dropForecast))

theorem Kept.realise (h : Kept r s) {d t'} : Kept r (s.realise d t') := by
  unfold State.realise
  dsimp only
  split
  · exact h.modFc
  · exact .each h.modFc (fun _ _ h1 => h1.modModel)

theorem Kept.infer (h : Kept r s) {m d tj} : Kept r (s.infer m d tj).2 := by
  unfold State.infer
  exact .ite_snd h (.foldl_snd h (fun _ _ h1 => h1.draw))

theorem Kept.demote (h : Kept r s) {m cause} : Kept r (s.demote m cause) := by
  unfold State.demote
  exact .stopTraining (.raise (.each h.dropPromotion.setSlot (fun _ _ h1 => h1.dropForecast)))

theorem Kept.noteFaults (h : Kept r s) {m outputs faults} : Kept r (s.noteFaults m outputs faults) := by
  unfold State.noteFaults
  exact .ite h.modModel.demote h.modModel

theorem Kept.formSample (h : Kept r s) {d m tj features forecast} : Kept r (s.formSample d m tj features forecast) := by
  unfold State.formSample
  exact .ite h.modFc h

theorem Kept.inferTile (h : Kept r s) {tj t'} : Kept r (s.inferTile tj t') := by
  unfold State.inferTile
  refine Kept.each h.shed fun s d h => ?_
  extract_lets s1
  have h1 : Kept r s1 := h.realise
  clear_value s1
  split
  · exact h1
  · refine .ite h1 ?_
    extract_lets b features
    split
    rename_i e
    exact (h1.infer.of_snd e).modFc.formSample.noteFaults

theorem KeptOut.forecastStep (h : Kept r s) {t'} : KeptOut r (execForecastStep t' s) := by
  unfold execForecastStep
  exact .next (.ite h.tick (.setV (.each h.tick (fun _ _ h1 => h1.inferTile))))

theorem Kept.missStep (h : Kept r s) {d} : Kept r (s.missStep d) := by
  unfold State.missStep
  extract_lets s1 s2
  have h1 : Kept r s1 := h.modFc
  have h2 : Kept r s2 := by dsimp only [s2]; split; exacts [h1.modModel, h1]
  exact .ite h2.setV.putPlanSource h2

theorem Kept.publish (h : Kept r s) {d tj f} : Kept r (s.publish d tj f) := by
  unfold State.publish
  extract_lets v s1 s2
  have h2 : Kept r s2 := Kept.modFc (s := s1) (h.each fun _ _ h => h.setV)
  exact .ite h2.setV.putPlanSource h2

theorem Kept.publishTile (h : Kept r s) {tj t' late} : Kept r (s.publishTile tj t' late) := by
  unfold State.publishTile
  extract_lets _ _ s1 s2 _
  have h1 : Kept r s1 := .ite h.count h
  have h2 : Kept r s2 := .each h1 (fun _ _ h2 => by split; exacts [.ite h2.missStep h2.publish, h2.missStep])
  exact .ite h2.setV.raise h2

theorem KeptOut.forecastPublish (h : Kept r s) {t' late} : KeptOut r (execForecastPublish t' late s) := by
  unfold execForecastPublish
  exact .next (.ite h.tick (.setV (.setV (.each h.tick (fun _ _ h1 => h1.publishTile)))))

theorem Kept.arrayFails (h : Kept r s) {t' test} : Kept r (s.arrayFails t' test) := by
  unfold State.arrayFails
  exact .dropFeatures (.each (.ite (.frame h.put.raise) h.put.raise) (fun _ _ h1 => .ite h1.dropForecast h1))

theorem KeptOut.knownAnswerTest (h : Kept r s) {t' tile pass test} : KeptOut r (execKnownAnswerTest t' tile pass test s) := by
  unfold execKnownAnswerTest
  exact .next (.ite h.tick.spend h.tick.spend.arrayFails)

theorem KeptOut.trainingSampleComplete (h : Kept r s) {t' d carried} : KeptOut r (execTrainingSampleComplete t' d carried s) := by
  unfold execTrainingSampleComplete
  extract_lets s1
  have h1 : Kept r s1 := h.tick
  exact .next (by split; exacts [.ite h1 (.ite h1.modFc.modModel h1.modFc.modModel), h1.modFc, h1])

theorem KeptOut.minibatchDone (h : Kept r s) {t' m numeric} : KeptOut r (execMinibatchDone t' m numeric s) := by
  unfold execMinibatchDone
  exact .next (.ite h.tick.modModel h.tick)

theorem Kept.promote (h : Kept r s) {m gen} : Kept r (s.promote m gen) := by
  unfold State.promote
  exact .recommit (.frame h.dropPromotion.commit)

theorem Kept.scoreCandidate (h : Kept r s) {m} : Kept r (s.scoreCandidate m) := by
  unfold State.scoreCandidate
  dsimp only
  split
  · exact h.draw.draw.draw.draw.roundDiv.modModel.promote.modModel.raise
  · exact h.draw.draw.draw.draw.roundDiv.modModel

theorem KeptOut.candidateEvaluate (h : Kept r s) {t' m} : KeptOut r (execCandidateEvaluate t' m s) := by
  unfold execCandidateEvaluate
  extract_lets s1 _ s2
  have h1 : Kept r s1 := h.tick
  have h2 : Kept r s2 := h1.disarm.armCandidate
  exact .next (.ite h1 (.ite h1.disarm (.ite h2 h2.scoreCandidate)))

theorem Kept.followBindings (h : Kept r s) {m} : Kept r (s.followBindings m) := by
  unfold State.followBindings
  exact .ite h.setSlot.disarm h

theorem Kept.applyBinding (h : Kept r s) {m mask at_} : Kept r (s.applyBinding m mask at_) := by
  unfold State.applyBinding
  extract_lets _ _ s1 s2 s3 _ s4 s5 _ s6
  have h1 : Kept r s1 := .each h (fun _ _ h1 => .ite h1 (.ite h1.put.modFc.dropForecast h1.put.modFc))
  have h2 : Kept r s2 := .ite h1.modModel.showVersion h1
  have h3 : Kept r s3 := h2.modModel
  have h4 : Kept r s4 := h3.setSlot
  have h5 : Kept r s5 := .each h4 (fun _ _ h5 => h5.followBindings)
  have h6 : Kept r s6 := .ite h5 (.frame h5)
  exact .ite h h6.armCandidate.raise

theorem Kept.applyGen (h : Kept r s) {m gen} : Kept r (s.applyGen m gen) := by
  unfold State.applyGen
  exact .ite h h.modModel.showVersion

theorem KeptOut.modelSwitchInstant (h : Kept r s) {t'} : KeptOut r (execModelSwitchInstant t' s) := by
  unfold execModelSwitchInstant
  refine .next ?_
  exact .each (.frame h.tick) (fun _ _ h1 => by split; exacts [h1.applyBinding, h1.applyGen, h1])

theorem Kept.endWindow (h : Kept r s) {m t'} : Kept r (s.endWindow m t') := by
  unfold State.endWindow
  extract_lets x em ep s1
  have h1 : Kept r s1 := h.modModel
  clear_value s1
  refine .ite h1 ?_
  split
  rename_i e
  have h2 := (h1.whole.of_snd e)
  have h3 {f} : Kept r (State.modModel _ m f) := h2.modModel
  exact .ite h3 <| .ite h3.demote h3.promote.modModel.raise

theorem KeptOut.errorWindow (h : Kept r s) {t'} : KeptOut r (execErrorWindow t' s) := by
  unfold execErrorWindow
  exact .next (.ite h.tick (.each h.tick (fun _ _ h1 => .each h1 (fun _ _ h2 => h2.endWindow))))

theorem KeptOut.shelfWeightWrite (h : Kept r s) {t' m} : KeptOut r (execShelfWeightWrite t' m s) := by
  unfold execShelfWeightWrite
  exact .next (.ite (.frame h.tick.modModel) h.tick)

theorem Kept.restoreShelf (h : Kept r s) {at_ m} : Kept r (s.restoreShelf at_ m) := by
  unfold State.restoreShelf
  dsimp only
  split
  · exact h
  · exact .ite h.placeModel.draw.modModel.showVersion (.frame h.placeModel.draw.modModel.showVersion)

theorem KeptOut.shelfRestore (h : Kept r s) {t'} : KeptOut r (execShelfRestore t' s) := by
  unfold execShelfRestore
  exact .next (.ite h.tick (.each h.tick.setV (fun _ _ h1 => h1.restoreShelf)))

theorem KeptOut.loadModel (h : Kept r s) {a x} : KeptOut r (execLoadModel a x s) := by
  unfold execLoadModel
  exact .next (.request h (fun _ h1 => h1.doLoadModel))

theorem KeptOut.activateModel (h : Kept r s) {a mask} : KeptOut r (execActivateModel a mask s) := by
  unfold execActivateModel
  exact .next (.request h (fun _ h1 => h1.doActivateModel))

theorem KeptOut.retireModel (h : Kept r s) {a} : KeptOut r (execRetireModel a s) := by
  unfold execRetireModel
  exact .next (.request h (fun _ h1 => h1.doRetireModel))

theorem KeptOut.queryForecast (h : Kept r s) {a} : KeptOut r (execQueryForecast a s) := by
  unfold execQueryForecast
  exact .next (.request h (fun _ h1 => h1.doQueryForecast))

theorem KeptOut.setTraining (h : Kept r s) {a mode persist lr drift under margin interval sample} : KeptOut r (execSetTraining a mode persist lr drift under margin interval sample s) := by
  unfold execSetTraining
  exact .next (.request h (fun _ h1 => h1.doSetTraining))

theorem KeptOut.readModelStats (h : Kept r s) {a} : KeptOut r (execReadModelStats a s) := by
  unfold execReadModelStats
  exact .next (.request h (fun _ h1 => h1.doReadModelStats))

theorem KeptOut.writeTrainTile (h : Kept r s) {a v} : KeptOut r (execWriteTrainTile a v s) := by
  unfold execWriteTrainTile
  exact .next (.write h (fun _ _ h1 => h1.setTrainTile))

theorem KeptOut.writeFcSvnFloor (h : Kept r s) {a v} : KeptOut r (execWriteFcSvnFloor a v s) := by
  unfold execWriteFcSvnFloor
  exact .next (.write h (fun _ _ h1 => h1.setFcSvnFloor))

theorem Kept.missRound (h : Kept r s) : Kept r (s.missRound) := by
  unfold State.missRound
  exact .raise (.each h (fun _ _ h1 => h1.noteLag))

theorem Kept.endLag (h : Kept r s) {a} : Kept r (s.endLag a) := by
  unfold State.endLag
  exact .modMember (.ite h (.ite h.put.put h.put))

theorem Kept.roundJoins (h : Kept r s) : Kept r (s.roundJoins) := by
  unfold State.roundJoins
  exact .each (.frame h) (fun _ _ h1 => h1.lockWithdraw)

theorem Kept.roundLeave (h : Kept r s) : Kept r (s.roundLeave) := by
  unfold State.roundLeave
  exact .frame (.each h (fun _ _ h1 => h1.draw.leaveGroup.sendAccel))

theorem Kept.roundMember (h : Kept r s) {a} : Kept r (s.roundMember a) := by
  unfold State.roundMember
  split
  · exact h
  · exact .ite h.put (.put (.ite h.put h))

theorem Kept.sendFreq (h : Kept r s) {a at_ freq group g} : Kept r (s.sendFreq a at_ freq group g) := by
  unfold State.sendFreq
  exact h.modMember.sendAccel

theorem Kept.roundAlone (h : Kept r s) : Kept r (s.roundAlone) := by
  unfold State.roundAlone
  exact .each h.raise (fun _ _ h1 => h1.noteLag.suspend.sendFreq)

theorem Kept.sendLockUp (h : Kept r s) : Kept r (s.sendLockUp) := by
  unfold State.sendLockUp
  exact .ite h h.setV.ratLink

theorem Kept.startRound (h : Kept r s) : Kept r s.startRound := by
  unfold State.startRound
  extract_lets s1 s2 s3 s4 s5 missed s6 s7 s8 s9 s10 s11 s12 own s13 s14
  have h1 : Kept r s1 := .ite h.missRound h
  have h2 : Kept r s2 := h1.each fun _ _ h => h.endLag
  have h3 : Kept r s3 := h2.setV.setV.setV.setV
  have h4 : Kept r s4 := h3.setV.setV.setV.setV
  clear_value s4
  have h5 : Kept r s5 := h4.of_core rfl rfl rfl rfl rfl
  have h7 : Kept r s7 := (h5.each fun _ _ h => h.raise).each fun _ _ h => h.noteLag
  have h8 : Kept r s8 := h7.setV.setV
  clear_value s8
  have h9 : Kept r s9 := .ite (h8.of_core rfl rfl rfl rfl rfl) h8
  have h11 : Kept r s11 := h9.roundLeave.roundJoins.each fun _ _ h => h.roundMember
  have h12 : Kept r s12 := h11.setV
  clear_value s12
  have h13 : Kept r s13 := h12.of_core rfl rfl rfl rfl rfl
  clear_value s13
  have h14 : Kept r s14 := .ite (h13.of_core rfl rfl rfl rfl rfl) h13
  exact .ite h5.setV <| .ite h11.roundAlone <| .ite h14.sendLockUp h14

theorem KeptOut.lockRound (h : Kept r s) {t'} : KeptOut r (execLockRound t' s) := by
  unfold execLockRound
  exact .next (.ite h.tick h.tick.startRound)

theorem KeptOut.lockUp (h : Kept r s) {t' p m} : KeptOut r (execLockUp t' p m s) := by
  unfold execLockUp
  extract_lets s1 s2 s3
  have h1 : Kept r s1 := h.tick
  have h2 : Kept r s2 := h1.of_core rfl rfl rfl rfl rfl
  have h3 : Kept r s3 := .ite h2.setV h2
  exact .next (.ite h1 (.ite (.frame h3) (.ite h3.sendLockUp h3)))

theorem Kept.readmit (h : Kept r s) {a g} : Kept r (s.readmit a g) := by
  unfold State.readmit
  exact .ite h (.ite h.modMember h.modMember.put.put.modMember.raise)

theorem Kept.takeCommit (h : Kept r s) {m} : Kept r (s.takeCommit m) := by
  unfold State.takeCommit
  split
  · exact h
  · extract_lets _ s1
    have h1 : Kept r s1 := .each h.setV (fun _ _ h1 => .each (.ite (.raise (.frame (.ite (.raise (.frame (.frame h1.put.put))) (.frame h1.put.put)))) (.ite (.raise (.frame (.frame h1.put.put))) (.frame h1.put.put))) (fun _ _ h2 => .ite h2 (.ite h2.put h2.sendFreq.readmit)))
    exact .ite h1.missRound h1

theorem Kept.relayCommit (h : Kept r s) {m} : Kept r (s.relayCommit m) := by
  unfold State.relayCommit
  exact .each h (fun _ _ h1 => h1.ratLink)

theorem Kept.sendCommit (h : Kept r s) {at_} : Kept r (s.sendCommit at_) := by
  unfold State.sendCommit
  exact .takeCommit (.relayCommit (.setV (.frame h)))

theorem KeptOut.lockCommitSend (h : Kept r s) {t'} : KeptOut r (execLockCommitSend t' s) := by
  unfold execLockCommitSend
  exact .next (.ite h.tick (.ite h.tick h.tick.sendCommit))

theorem KeptOut.lockCommit (h : Kept r s) {t' p m} : KeptOut r (execLockCommit t' p m s) := by
  unfold execLockCommit
  exact .next (.ite h.tick.relayCommit.takeCommit h.tick)

theorem KeptOut.freqAckDeadline (h : Kept r s) {t'} : KeptOut r (execFreqAckDeadline t' s) := by
  unfold execFreqAckDeadline
  exact .next (.each (.each h.tick (fun _ _ h1 => h1.noteLag)) (fun _ _ h1 => h1.lockDone))

theorem KeptOut.lockJoin (h : Kept r s) {t' serial group grid src} : KeptOut r (execLockJoin t' serial group grid src s) := by
  unfold execLockJoin
  refine .next ?_
  dsimp only
  split
  · exact h.tick
  · split
    · exact h.tick
    · exact .ratTree (.ite h.tick.tableAdd h.tick)

theorem KeptOut.lockJoinAck (h : Kept r s) {t' group status x3} : KeptOut r (execLockJoinAck t' group status x3 s) := by
  unfold execLockJoinAck
  extract_lets s1
  have h1 : Kept r s1 := h.tick
  exact .next (by split; exacts [h1, by split; exacts [.lockEnter (.frame h1), h1.lockDone, h1.lockDone]])

theorem KeptOut.lockJoinTimeout (h : Kept r s) {t'} : KeptOut r (execLockJoinTimeout t' s) := by
  unfold execLockJoinTimeout
  exact .next (.each h.tick (fun _ _ h1 => h1.lockDone))

theorem KeptOut.joinGroup (h : Kept r s) {a mask grid} : KeptOut r (execJoinGroup a mask grid s) := by
  unfold execJoinGroup
  exact .next (.request h (fun _ h1 => h1.doJoinGroup))

theorem KeptOut.leaveGroup (h : Kept r s) {a mask} : KeptOut r (execLeaveGroup a mask s) := by
  unfold execLeaveGroup
  exact .next (.request h (fun _ h1 => h1.doLeaveGroup))

theorem KeptOut.readGroup (h : Kept r s) {a} : KeptOut r (execReadGroup a s) := by
  unfold execReadGroup
  exact .next (.request h (fun _ h1 => h1.doReadGroup))

theorem KeptOut.loadPhasePlan (h : Kept r s) {a entries} : KeptOut r (execLoadPhasePlan a entries s) := by
  unfold execLoadPhasePlan
  exact .next (.request h (fun _ h1 => h1.doLoadPhasePlan))

theorem KeptOut.clearPhasePlan (h : Kept r s) {a kind key} : KeptOut r (execClearPhasePlan a kind key s) := by
  unfold execClearPhasePlan
  exact .next (.request h (fun _ h1 => h1.doClearPhasePlan))

theorem KeptOut.readPhasePlan (h : Kept r s) {a first count} : KeptOut r (execReadPhasePlan a first count s) := by
  unfold execReadPhasePlan
  exact .next (.request h (fun _ h1 => h1.doReadPhasePlan))

theorem KeptOut.controllerSensorSample (h : Kept r s) {t' readings} : KeptOut r (execControllerSensorSample t' readings s) := by
  unfold execControllerSensorSample
  exact .next (.ite (.each h.tick (fun _ _ h1 => .ite h1.reading h1)) h.tick)

theorem Kept.convert (h : Kept r s) {c code} : Kept r (s.convert c code).2 := by
  unfold State.convert
  dsimp only
  split
  · exact h
  · split
    · exact h
    · split
      · exact .ite_snd h h.whole
      · exact h

theorem Kept.sampleCode (h : Kept r s) {c code} : Kept r (s.sampleCode c code) := by
  unfold State.sampleCode
  split
  · split
    · exact h.reading
    · exact h.convert.reading
  · exact h

theorem KeptOut.housekeepingSample (h : Kept r s) {t' i code} : KeptOut r (execHousekeepingSample t' i code s) := by
  unfold execHousekeepingSample
  exact .next (.ite h.tick.sampleCode h.tick)

theorem KeptOut.coolantTempSample (h : Kept r s) {t' codes} : KeptOut r (execCoolantTempSample t' codes s) := by
  unfold execCoolantTempSample
  extract_lets s1 s2
  have h1 : Kept r s1 := h.tick
  have h2 : Kept r s2 := .each h1 (fun _ _ h2 => h2.sampleCode)
  exact .next (by split; exacts [by dsimp only; split; exacts [.put (by split; exacts [h2.put, h2]), by split; exacts [h2.put, h2]], h2])

theorem Kept.moveCeiling (h : Kept r s) {a} : Kept r (s.moveCeiling a) := by
  unfold State.moveCeiling
  refine .ite h ?_
  split
  extract_lets lim floor q step cur next
  split
  rename_i e
  have h1 {x i v p j w} : Kept r ((State.setV _ x i v).put p j w) := (h.whole.of_snd e).setV.put
  exact .ite h1.setV.setV.raise h1

theorem KeptOut.thermalCeilingUpdate (h : Kept r s) {t'} : KeptOut r (execThermalCeilingUpdate t' s) := by
  unfold execThermalCeilingUpdate
  exact .next (.ite (.each h.tick (fun _ _ h1 => h1.moveCeiling)) h.tick)

theorem Kept.reefStep (h : Kept r s) {a} : Kept r (s.reefStep a) := by
  unfold State.reefStep
  split
  exact .ite h.setV h.setV.put.stepReef

theorem KeptOut.thermalReefStep (h : Kept r s) {t'} : KeptOut r (execThermalReefStep t' s) := by
  unfold execThermalReefStep
  exact .next (.ite (.each h.tick (fun _ _ h1 => h1.reefStep)) h.tick)

theorem KeptOut.furlCutInstant (h : Kept r s) {t' scope} : KeptOut r (execFurlCutInstant t' scope s) := by
  unfold execFurlCutInstant
  exact .next (.ite (.ite h.tick.cutFurl h.tick.cutTray) h.tick)

theorem KeptOut.furl (h : Kept r s) {a deadline} : KeptOut r (execFurl a deadline s) := by
  unfold execFurl
  exact .next (.request h (fun _ h1 => h1.doFurl))

theorem Kept.tachLost (h : Kept r s) {c} : Kept r (s.tachLost c) := by
  unfold State.tachLost
  exact h.enterDrive.raise

theorem Kept.tachSilent (h : Kept r s) {c} : Kept r (s.tachSilent c) := by
  unfold State.tachSilent
  exact .ite (.ite h.tachLost (.ite h.enterDrive h)) h

theorem Kept.driveLost (h : Kept r s) {c st} : Kept r (s.driveLost c st) := by
  unfold State.driveLost
  extract_lets _ _ s1 _ _ s2
  have h1 : Kept r s1 := h.enterDrive
  have h2 : Kept r s2 := .ite h1.raise h1.raise
  exact .ite h2.partnerDeparted h2

theorem Kept.kickEnd (h : Kept r s) {c} : Kept r (s.kickEnd c) := by
  unfold State.kickEnd
  extract_lets _
  exact .ite (.ite h.enterDrive (.ite (.ite h.enterDrive h.driveLost) (.ite h.tachLost h))) h

theorem Kept.bandActs (h : Kept r s) {c} : Kept r (s.bandActs c) := by
  unfold State.bandActs
  extract_lets _ s1
  have h1 : Kept r s1 := .ite h.modDrv.partnerArrived h
  exact .ite h1.driveLost (.ite h1.enterDrive h1)

theorem Kept.sampleDrive (h : Kept r s) {c ma} : Kept r (s.sampleDrive c ma) := by
  unfold State.sampleDrive
  extract_lets l s1
  have h1 : Kept r s1 := h.spend
  clear_value s1
  split
  rename_i e
  have h2 := h1.roundDiv.of_snd e
  extract_lets v band s2 s3 s4
  have h4 : Kept r s4 := h2.put.modDrv.bandActs.kickEnd.tachSilent
  clear_value s4
  refine .ite ?_ h4
  split
  rename_i e
  exact (h4.whole.of_snd e).put

theorem KeptOut.driveCurrentSample (h : Kept r s) {t' samples} : KeptOut r (execDriveCurrentSample t' samples s) := by
  unfold execDriveCurrentSample
  exact .next (.ite (.judgeFlow (.each h.tick (fun _ _ h1 => h1.sampleDrive))) h.tick)

theorem Kept.takeEdge (h : Kept r s) {c} : Kept r (s.takeEdge c) := by
  unfold State.takeEdge
  extract_lets _ _ _ s1 _ _ _ _ s2 _ _ _ _ s3 s4
  have h1 : Kept r s1 := h.modDrv
  have h2 : Kept r s2 := .ite h1.whole.put h1
  have h3 : Kept r s3 := h2.modDrv
  have h4 : Kept r s4 := .ite h2.enterDrive (.ite (.ite h3.enterDrive.raise h3) h2)
  exact h4.judgeFlow

theorem KeptOut.tachEdge (h : Kept r s) {t' c} : KeptOut r (execTachEdge t' c s) := by
  unfold execTachEdge
  exact .next (.ite h.tick h.tick.takeEdge)

theorem KeptOut.kickTimeExpiry (h : Kept r s) {t' c} : KeptOut r (execKickTimeExpiry t' c s) := by
  unfold execKickTimeExpiry
  exact .next (.ite h.tick.kickEnd.judgeFlow h.tick)

theorem KeptOut.restTimeExpiry (h : Kept r s) {t' c} : KeptOut r (execRestTimeExpiry t' c s) := by
  unfold execRestTimeExpiry
  exact .next (.ite h.tick.enterDrive h.tick)

theorem KeptOut.tachLossExpiry (h : Kept r s) {t' c} : KeptOut r (execTachLossExpiry t' c s) := by
  unfold execTachLossExpiry
  exact .next (.ite h.tick.tachSilent.judgeFlow h.tick)

theorem KeptOut.stallRetryExpiry (h : Kept r s) {t' c} : KeptOut r (execStallRetryExpiry t' c s) := by
  unfold execStallRetryExpiry
  exact .next (.ite h.tick.enterDrive h.tick)

theorem Kept.restartPumps (h : Kept r s) : Kept r (s.restartPumps) := by
  unfold State.restartPumps
  exact .each h (fun _ _ h1 => .ite h1.setV.retarget h1)

theorem Kept.loopDrive (h : Kept r s) {c} : Kept r (s.loopDrive c) := by
  unfold State.loopDrive
  exact .ite h.retarget.modDrv.draw.putVolt.putFlags h.retarget.modDrv.applyVolt.putFlags

theorem KeptOut.speedLoopUpdate (h : Kept r s) {t'} : KeptOut r (execSpeedLoopUpdate t' s) := by
  unfold execSpeedLoopUpdate
  exact .next (.ite (.judgeFlow (.each h.tick.restartPumps (fun _ _ h1 => h1.loopDrive))) h.tick)

theorem KeptOut.fanTableHandover (h : Kept r s) {t'} : KeptOut r (execFanTableHandover t' s) := by
  unfold execFanTableHandover
  exact .next (.ite h.tick.disarm.setV.retargetAll h.tick)

theorem Kept.hostSettersOff (h : Kept r s) : Kept r (s.hostSettersOff) := by
  unfold State.hostSettersOff
  exact .retargetAll (.syncValves (.each (.each h (fun _ _ h1 => .ite h1.put h1)) (fun _ _ h1 => .ite h1.setV h1)))

theorem KeptOut.hostSilenceExpiry (h : Kept r s) {t'} : KeptOut r (execHostSilenceExpiry t' s) := by
  unfold execHostSilenceExpiry
  exact .next (.ite (.ite h.tick.disarm h.tick.disarm.put.hostSettersOff.raise) h.tick)

theorem Kept.watchFlow (h : Kept r s) {i low flow} : Kept r (s.watchFlow i low flow) := by
  unfold State.watchFlow
  split
  · exact h.setV.setV
  · exact .ite (.firmwareFurl (.raiseSafety (.setV (.ite h.setV h)))) (.ite h.setV h)

theorem Kept.updateFlow (h : Kept r s) {d pulses} : Kept r (s.updateFlow d pulses) := by
  unfold State.updateFlow
  extract_lets s1 _ s2 s3 s4 _ s5
  have h1 : Kept r s1 := .each h (fun _ _ h1 => h1.spend.roundDiv.note.put)
  have h2 : Kept r s2 := h1.put
  have h3 : Kept r s3 := .ite (.ite h2.setV h2) h2.setV
  have h4 : Kept r s4 := h3.judgeFlow
  have h5 : Kept r s5 := h4.watchFlow
  exact .each h5 (fun _ _ h6 => by split; exacts [h6.watchFlow, h6])

theorem KeptOut.flowUpdate (h : Kept r s) {t' pulses} : KeptOut r (execFlowUpdate t' pulses s) := by
  unfold execFlowUpdate
  refine .next ?_
  split
  · exact h.tick
  · exact .ite h.tick h.tick.updateFlow

theorem Kept.samplePressure (h : Kept r s) {x mv} : Kept r (s.samplePressure x mv) := by
  unfold State.samplePressure
  extract_lets i
  split
  rename_i e
  have h1 := Kept.of_snd (r := r) (.ite_snd h ?_) e
  · extract_lets s1 s2 st s3 low new
    have h2 : Kept r s2 := h1.spend.put
    have h3 : Kept r s3 := .ite (.ite h2.setV h2) h2.setV
    exact .ite h2 <| .ite h3 h3.setV.raise
  · split
    rename_i e
    have h2 := h.roundDiv.of_snd e
    split
    · exact h2
    · exact h2

theorem Kept.lowerPumps (h : Kept r s) : Kept r (s.lowerPumps) := by
  unfold State.lowerPumps
  exact .each h (fun _ _ h1 => .ite h1.putVolt h1)

theorem Kept.updatePressure (h : Kept r s) {d mv} : Kept r (s.updatePressure d mv) := by
  unfold State.updatePressure
  extract_lets s1 _ s2
  have h1 : Kept r s1 := .each h (fun _ _ h1 => by split; exacts [.ite h1.samplePressure h1, h1])
  have h2 : Kept r s2 := .ite h1.setV (.ite (.setV (.each h1 (fun _ _ h2 => h2.setV))) h1)
  exact .judgeFlow (.ite h2.lowerPumps h2)

theorem KeptOut.pressureSample (h : Kept r s) {t' mv} : KeptOut r (execPressureSample t' mv s) := by
  unfold execPressureSample
  refine .next ?_
  split
  · exact h.tick
  · exact .ite h.tick h.tick.updatePressure

theorem Kept.strokeValve (h : Kept r s) {v pos} : Kept r (s.strokeValve v pos) := by
  unfold State.strokeValve
  split
  · exact .ite h (.commandValve (.setV (.frame h)))
  · exact h

theorem Kept.modBranch (h : Kept r s) {a f} : Kept r (s.modBranch a f) := by
  unfold State.modBranch
  exact .frame h

theorem Kept.readValve (h : Kept r s) {a pos} : Kept r (s.readValve a pos) := by
  unfold State.readValve
  extract_lets _ _ s1 s2 _ _ s3
  have h1 : Kept r s1 := h.spend
  have h2 : Kept r s2 := h1.put.strokeValve
  have h3 : Kept r s3 := h2.modBranch
  exact .ite h (.ite (.ite h3.put.raise h3) h2.modBranch.put)

theorem Kept.waterModeOf (h : Kept r s) {d a} : Kept r (s.waterModeOf d a).2 := by
  unfold State.waterModeOf
  extract_lets _ _ _ _ s1 _ s2
  have h1 : Kept r s1 := h.modBranch
  have h2 : Kept r s2 := h.modBranch
  clear_value *
  split
  · exact h
  · split
    · exact .ite_snd h1 h1.draw.modBranch.raise
    · exact .ite_snd h (.ite_snd h2.draw.modBranch.raise h2)

theorem Kept.outletGoal (h : Kept r s) {d a mode} : Kept r (s.outletGoal d a mode).2 := by
  unfold State.outletGoal
  exact .ite_snd h h.roundDiv

theorem Kept.formRequest (h : Kept r s) {d a} : Kept r (s.formRequest d a) := by
  unfold State.formRequest
  exact .put (.ite h.waterModeOf.outletGoal.put h.waterModeOf.outletGoal.put.modBranch)

theorem Kept.coolStep (h : Kept r s) {d} : Kept r (s.coolStep d) := by
  unfold State.coolStep
  extract_lets s1 _ _ _ s2 _ s3 _ s4
  have h1 : Kept r s1 := .each h (fun _ _ h1 => h1.formRequest)
  have h2 : Kept r s2 := .each h1 (fun _ _ h2 => h2.put)
  have h3 : Kept r s3 := .ite h2.setV.raise h2
  have h4 : Kept r s4 := .each h3 (fun _ _ h4 => h4.draw.commandValve)
  exact h4.draw.setV.retargetAll

theorem KeptOut.coolantUpdate (h : Kept r s) {t' positions} : KeptOut r (execCoolantUpdate t' positions s) := by
  unfold execCoolantUpdate
  extract_lets s1 s2 s3
  have h1 : Kept r s1 := h.tick
  have h2 : Kept r s2 := .each h1 (fun _ _ h2 => h2.readValve)
  have h3 : Kept r s3 := .when h2 (fun _ h3 => h3.setV.raise)
  exact .next (by split; exacts [h1, .ite h1 (.ite h2.coolStep h3.syncValves)])

theorem Kept.sampleZone (h : Kept r s) {z ohm broken} : Kept r (s.sampleZone z ohm broken) := by
  unfold State.sampleZone
  extract_lets _ _ s1 s2 s3 _ s4 _ _ s5 s6
  have h1 : Kept r s1 := h.spend
  have h2 : Kept r s2 := h1.put
  have h3 : Kept r s3 := h2.modZone
  have h4 : Kept r s4 := .when h3 (fun _ h4 => h4.modZone)
  have h5 : Kept r s5 := h3.modZone
  have h6 : Kept r s6 := h5.disarm
  split
  · exact .ite h3.put.raise h3
  · split
    · exact h4.put.disarm.disarm.disarm.raise
    · split
      · exact .ite h5.put.arm h5
      · split
        · exact .ite h5.armOnce h5.put.disarm
        · exact .ite (.ite h5.armOnce h5.disarm) (.ite (.ite h6.armOnce h6) h5.armOnce.disarm)

theorem KeptOut.leakSample (h : Kept r s) {t' samples} : KeptOut r (execLeakSample t' samples s) := by
  unfold execLeakSample
  exact .next (.ite (.each h.tick (fun _ _ h1 => h1.sampleZone)) h.tick)

theorem KeptOut.leakConfirmExpiry (h : Kept r s) {t' z} : KeptOut r (execLeakConfirmExpiry t' z s) := by
  unfold execLeakConfirmExpiry
  extract_lets s1 _ s2
  have h1 : Kept r s1 := h.tick
  have h2 : Kept r s2 := h1.disarm
  exact .next (.ite (.ite h2.zoneIsWet (.ite h2.zoneIsWet h2)) h1)

theorem KeptOut.leakEscalateExpiry (h : Kept r s) {t' z} : KeptOut r (execLeakEscalateExpiry t' z s) := by
  unfold execLeakEscalateExpiry
  exact .next (.ite h.tick.disarm.escalate h.tick)

theorem KeptOut.leakDryExpiry (h : Kept r s) {t' z} : KeptOut r (execLeakDryExpiry t' z s) := by
  unfold execLeakDryExpiry
  exact .next (.ite (.ite h.tick.disarm.modZone.disarm.zoneTo h.tick.disarm) h.tick)

theorem KeptOut.leakCutExpiry (h : Kept r s) {t'} : KeptOut r (execLeakCutExpiry t' s) := by
  unfold execLeakCutExpiry
  exact .next (.ite h.tick.cutFeeds h.tick)

theorem KeptOut.setFan (h : Kept r s) {a mode value} : KeptOut r (execSetFan a mode value s) := by
  unfold execSetFan
  exact .next (.request h (fun _ h1 => h1.doSetDrive))

theorem KeptOut.setPump (h : Kept r s) {a mode value} : KeptOut r (execSetPump a mode value s) := by
  unfold execSetPump
  exact .next (.request h (fun _ h1 => h1.doSetDrive))

theorem KeptOut.setValve (h : Kept r s) {a mode value} : KeptOut r (execSetValve a mode value s) := by
  unfold execSetValve
  exact .next (.request h (fun _ h1 => h1.doSetValve))

theorem KeptOut.isolateLeak (h : Kept r s) {a action} : KeptOut r (execIsolateLeak a action s) := by
  unfold execIsolateLeak
  exact .next (.request h (fun _ h1 => h1.doIsolateLeak))

theorem KeptOut.resetLeakZone (h : Kept r s) {a} : KeptOut r (execResetLeakZone a s) := by
  unfold execResetLeakZone
  exact .next (.request h (fun _ h1 => h1.doResetLeakZone))

theorem KeptOut.loadFanTable (h : Kept r s) {a inputs points thermals curve} : KeptOut r (execLoadFanTable a inputs points thermals curve s) := by
  unfold execLoadFanTable
  exact .next (.request h (fun _ h1 => h1.doLoadFanTable))

theorem KeptOut.setWaterMode (h : Kept r s) {a mode target weight} : KeptOut r (execSetWaterMode a mode target weight s) := by
  unfold execSetWaterMode
  exact .next (.request h (fun _ h1 => h1.doSetWaterMode))

theorem Kept.engineFault (h : Kept r s) {e cause pc word source} : Kept r (s.engineFault e cause pc word source) := by
  unfold State.engineFault
  exact h.put.raise.stopEngine

theorem Kept.eoi (h : Kept r s) {e} : Kept r (s.eoi e) := by
  unfold State.eoi
  split
  · exact h
  · exact .assignAll (.ite (.assign (.ite (.modSrc (.ite (by dsimp only; split; exacts [h.modEngine.modEngine.assignAll.answer, h.modEngine.modEngine.assignAll]) h.modEngine)) (.ite (by dsimp only; split; exacts [h.modEngine.modEngine.assignAll.answer, h.modEngine.modEngine.assignAll]) h.modEngine))) (.ite (by dsimp only; split; exacts [h.modEngine.modEngine.assignAll.answer, h.modEngine.modEngine.assignAll]) h.modEngine))

theorem Kept.overrun (h : Kept r s) {e l word} : Kept r (s.overrun e l word) := by
  unfold State.overrun
  exact .ite h.modEngine.count.raise.engineFault h.modEngine.count.raise.eoi

theorem Kept.setTop (h : Kept r s) {e l} : Kept r (s.setTop e l) := by
  unfold State.setTop
  exact h.modEngine

theorem Kept.instr (h : Kept r s) {e fits cost eff} (k : ∀ s x1, Kept r s → Kept r (eff s x1)) : Kept r (s.instr e fits cost eff) := by
  unfold State.instr
  extract_lets _
  split
  · exact h
  · exact .ite h (.ite h.engineFault (.ite h.engineFault (.ite h (.ite h.overrun (k _ _ h.setTop)))))

theorem Kept.pure1 (h : Kept r s) {e fits cost f} : Kept r (s.pure1 e fits cost f) := by
  unfold State.pure1
  exact .instr h (fun _ _ h1 => h1.setTop)

theorem KeptOut.add (h : Kept r s) {t' e rd rs rt} : KeptOut r (execAdd t' e rd rs rt s) := by
  unfold execAdd
  exact .next h.tick.pure1

theorem KeptOut.sub (h : Kept r s) {t' e rd rs rt} : KeptOut r (execSub t' e rd rs rt s) := by
  unfold execSub
  exact .next h.tick.pure1

theorem KeptOut.and (h : Kept r s) {t' e rd rs rt} : KeptOut r (execAnd t' e rd rs rt s) := by
  unfold execAnd
  exact .next h.tick.pure1

theorem KeptOut.or (h : Kept r s) {t' e rd rs rt} : KeptOut r (execOr t' e rd rs rt s) := by
  unfold execOr
  exact .next h.tick.pure1

theorem KeptOut.xor (h : Kept r s) {t' e rd rs rt} : KeptOut r (execXor t' e rd rs rt s) := by
  unfold execXor
  exact .next h.tick.pure1

theorem KeptOut.shl (h : Kept r s) {t' e rd rs rt} : KeptOut r (execShl t' e rd rs rt s) := by
  unfold execShl
  exact .next h.tick.pure1

theorem KeptOut.shr (h : Kept r s) {t' e rd rs rt} : KeptOut r (execShr t' e rd rs rt s) := by
  unfold execShr
  exact .next h.tick.pure1

theorem KeptOut.sar (h : Kept r s) {t' e rd rs rt} : KeptOut r (execSar t' e rd rs rt s) := by
  unfold execSar
  exact .next h.tick.pure1

theorem KeptOut.mul (h : Kept r s) {t' e rd rs rt} : KeptOut r (execMul t' e rd rs rt s) := by
  unfold execMul
  exact .next h.tick.pure1

theorem KeptOut.mulh (h : Kept r s) {t' e rd rs rt} : KeptOut r (execMulh t' e rd rs rt s) := by
  unfold execMulh
  exact .next h.tick.pure1

theorem KeptOut.div (h : Kept r s) {t' e rd rs rt} : KeptOut r (execDiv t' e rd rs rt s) := by
  unfold execDiv
  exact .next h.tick.pure1

theorem KeptOut.divu (h : Kept r s) {t' e rd rs rt} : KeptOut r (execDivu t' e rd rs rt s) := by
  unfold execDivu
  exact .next h.tick.pure1

theorem KeptOut.min (h : Kept r s) {t' e rd rs rt} : KeptOut r (execMin t' e rd rs rt s) := by
  unfold execMin
  exact .next h.tick.pure1

theorem KeptOut.max (h : Kept r s) {t' e rd rs rt} : KeptOut r (execMax t' e rd rs rt s) := by
  unfold execMax
  exact .next h.tick.pure1

theorem KeptOut.cmp (h : Kept r s) {t' e rs rt} : KeptOut r (execCmp t' e rs rt s) := by
  unfold execCmp
  exact .next h.tick.pure1

theorem KeptOut.sadd (h : Kept r s) {t' e rd rs rt} : KeptOut r (execSadd t' e rd rs rt s) := by
  unfold execSadd
  exact .next h.tick.pure1

theorem KeptOut.ssub (h : Kept r s) {t' e rd rs rt} : KeptOut r (execSsub t' e rd rs rt s) := by
  unfold execSsub
  exact .next h.tick.pure1

theorem KeptOut.addi (h : Kept r s) {t' e rd rs imm} : KeptOut r (execAddi t' e rd rs imm s) := by
  unfold execAddi
  exact .next h.tick.pure1

theorem KeptOut.andi (h : Kept r s) {t' e rd rs imm} : KeptOut r (execAndi t' e rd rs imm s) := by
  unfold execAndi
  exact .next h.tick.pure1

theorem KeptOut.ori (h : Kept r s) {t' e rd rs imm} : KeptOut r (execOri t' e rd rs imm s) := by
  unfold execOri
  exact .next h.tick.pure1

theorem KeptOut.xori (h : Kept r s) {t' e rd rs imm} : KeptOut r (execXori t' e rd rs imm s) := by
  unfold execXori
  exact .next h.tick.pure1

theorem KeptOut.shifti (h : Kept r s) {t' e rd rs imm} : KeptOut r (execShifti t' e rd rs imm s) := by
  unfold execShifti
  exact .next h.tick.pure1

theorem KeptOut.cmpi (h : Kept r s) {t' e rs imm} : KeptOut r (execCmpi t' e rs imm s) := by
  unfold execCmpi
  exact .next h.tick.pure1

theorem KeptOut.lui (h : Kept r s) {t' e rd imm} : KeptOut r (execLui t' e rd imm s) := by
  unfold execLui
  exact .next h.tick.pure1

theorem KeptOut.movi (h : Kept r s) {t' e rd imm} : KeptOut r (execMovi t' e rd imm s) := by
  unfold execMovi
  exact .next h.tick.pure1

theorem Kept.instrFault (h : Kept r s) {e cause l} : Kept r (s.instrFault e cause l) := by
  unfold State.instrFault
  exact h.engineFault

theorem Kept.load (h : Kept r s) {e n rd rs imm l f} : Kept r (s.load e n rd rs imm l f) := by
  unfold State.load
  exact .ite h.setTop h.instrFault

theorem KeptOut.ldw (h : Kept r s) {t' e rd rs imm} : KeptOut r (execLdw t' e rd rs imm s) := by
  unfold execLdw
  exact .next (.instr h.tick (fun _ _ h1 => h1.load))

theorem KeptOut.ldh (h : Kept r s) {t' e rd rs imm} : KeptOut r (execLdh t' e rd rs imm s) := by
  unfold execLdh
  exact .next (.instr h.tick (fun _ _ h1 => h1.load))

theorem KeptOut.ldb (h : Kept r s) {t' e rd rs imm} : KeptOut r (execLdb t' e rd rs imm s) := by
  unfold execLdb
  exact .next (.instr h.tick (fun _ _ h1 => h1.load))

theorem Kept.store (h : Kept r s) {e n rd rs imm l} : Kept r (s.store e n rd rs imm l) := by
  unfold State.store
  exact .ite h.instrFault (.ite h.instrFault h.modEngine)

theorem KeptOut.stw (h : Kept r s) {t' e rd rs imm} : KeptOut r (execStw t' e rd rs imm s) := by
  unfold execStw
  exact .next (.instr h.tick (fun _ _ h1 => h1.store))

theorem KeptOut.sth (h : Kept r s) {t' e rd rs imm} : KeptOut r (execSth t' e rd rs imm s) := by
  unfold execSth
  exact .next (.instr h.tick (fun _ _ h1 => h1.store))

theorem KeptOut.stb (h : Kept r s) {t' e rd rs imm} : KeptOut r (execStb t' e rd rs imm s) := by
  unfold execStb
  exact .next (.instr h.tick (fun _ _ h1 => h1.store))

theorem Kept.jump (h : Kept r s) {e l target f} : Kept r (s.jump e l target f) := by
  unfold State.jump
  exact .ite h.setTop h.instrFault

theorem KeptOut.br (h : Kept r s) {t' e cond off} : KeptOut r (execBr t' e cond off s) := by
  unfold execBr
  exact .next (.instr h.tick (fun _ _ h1 => .ite h1.jump h1))

theorem KeptOut.call (h : Kept r s) {t' e off} : KeptOut r (execCall t' e off s) := by
  unfold execCall
  exact .next (.instr h.tick (fun _ _ h1 => h1.jump))

theorem KeptOut.jr (h : Kept r s) {t' e rs} : KeptOut r (execJr t' e rs s) := by
  unfold execJr
  exact .next (.instr h.tick (fun _ _ h1 => h1.jump))

theorem Kept.setPair (h : Kept r s) {e l rd v f} : Kept r (s.setPair e l rd v f) := by
  unfold State.setPair
  exact .ite h.instrFault h.setTop

theorem KeptOut.rdp (h : Kept r s) {t' e rd rs imm} : KeptOut r (execRdp t' e rd rs imm s) := by
  unfold execRdp
  refine .next ?_
  exact .instr h.tick (fun _ _ h1 => .ite h1.setTop (.ite h1.setTop (by dsimp only; split; exacts [h1.setTop, .ite h1.setTop (.ite h1.setPair h1.setTop)])))

theorem KeptOut.fcq (h : Kept r s) {t' e rd rs imm} : KeptOut r (execFcq t' e rd rs imm s) := by
  unfold execFcq
  exact .next (.instr h.tick (fun _ _ h1 => .ite h1.draw.setTop (.ite h1.whole.setTop (.ite h1.whole.setTop h1.draw.setTop))))

theorem KeptOut.gcmd (h : Kept r s) {t' e rd rs body} : KeptOut r (execGcmd t' e rd rs body s) := by
  unfold execGcmd
  extract_lets s1
  have h1 : Kept r s1 := h.tick
  exact .next (.instr h1 (fun _ _ h2 => .ite h2.setTop (.ite h2.instrFault (by dsimp only; split; exacts [h2.setTop, .ite h2.setTop (.ite h1 h2.modEngine.setTop.arriveAt)]))))

theorem KeptOut.gpoll (h : Kept r s) {t' e rd imm} : KeptOut r (execGpoll t' e rd imm s) := by
  unfold execGpoll
  exact .next (.instr h.tick (fun _ _ h1 => .ite h1.setTop.modEngine h1.setTop))

theorem KeptOut.eoi (h : Kept r s) {t' e} : KeptOut r (execEoi t' e s) := by
  unfold execEoi
  exact .next (.instr h.tick (fun _ _ h1 => h1.eoi))

theorem KeptOut.time (h : Kept r s) {t' e rd imm} : KeptOut r (execTime t' e rd imm s) := by
  unfold execTime
  refine .next ?_
  exact .instr h.tick (fun _ _ h1 => by split; exacts [h1.setPair, h1.setPair, h1.setTop, h1.setTop, h1.draw.setTop])

theorem KeptOut.tset (h : Kept r s) {t' e rs} : KeptOut r (execTset t' e rs s) := by
  unfold execTset
  exact .next (.instr h.tick (fun _ _ h1 => .ite h1.setTop.modEngine.disarm (.ite h1.setTop.modEngine.setT h1.setTop)))

theorem KeptOut.halt (h : Kept r s) {t' e} : KeptOut r (execHalt t' e s) := by
  unfold execHalt
  exact .next (.instr h.tick (fun _ _ h1 => h1.stopEngine))

theorem KeptOut.occurrencePost (h : Kept r s) {t'} : KeptOut r (execOccurrencePost t' s) := by
  unfold execOccurrencePost
  refine .next ?_
  split
  · exact h.tick
  · exact .each (.frame h.tick) (fun _ _ h1 => h1.post)

theorem Kept.dispatchFault {d : State} (h : Kept r d) {e} : Kept r (s.dispatchFault e d) := by
  unfold State.dispatchFault
  split
  · exact h.spend.engineFault
  · exact h.spend.modEngine
  · exact h

theorem Kept.openLevel (h : Kept r s) {e n prio count o lostBefore} : Kept r (s.openLevel e n prio count o lostBefore) := by
  unfold State.openLevel
  exact h.modEngine.count

theorem Kept.claim (h : Kept r s) {e n} : Kept r (s.claim e n) := by
  unfold State.claim
  exact .assign (.openLevel (.when (.modSrc (by dsimp only; split; exacts [h, h.draw.draw.draw])) (fun _ h1 => h1.ecOverflow)))

theorem Kept.claimLocal (h : Kept r s) {e v prio} : Kept r (s.claimLocal e v prio) := by
  unfold State.claimLocal
  exact h.draw.modEngine.openLevel

theorem KeptOut.engineDispatch (h : Kept r s) {t' e} : KeptOut r (execEngineDispatch t' e s) := by
  unfold execEngineDispatch
  refine .next ?_
  dsimp only
  split
  · exact h.tick
  · exact .ite h.tick <| .dispatchFault <| .ite h.tick.claim h.tick.claimLocal

theorem KeptOut.moderationExpiry (h : Kept r s) {t' tile n} : KeptOut r (execModerationExpiry t' tile n s) := by
  unfold execModerationExpiry
  exact .next h.tick.assign

theorem KeptOut.timerTick (h : Kept r s) {t' e} : KeptOut r (execTimerTick t' e s) := by
  unfold execTimerTick
  extract_lets s1 _
  have h1 : Kept r s1 := h.tick
  exact .next (by split; exacts [.ite h1 (by dsimp only; split; exacts [h1.setT.modEngine, by split <;> exact h1.setT.modEngine]), h1])

theorem KeptOut.mailboxReply (h : Kept r s) {t' e} : KeptOut r (execMailboxReply t' e s) := by
  unfold execMailboxReply
  refine .next ?_
  dsimp only
  split
  · exact h.tick
  · exact .ite (.frame h.tick) (.modEngine (.frame h.tick))

theorem KeptOut.ecHoldLimitExpiry (h : Kept r s) {t' tile} : KeptOut r (execEcHoldLimitExpiry t' tile s) := by
  unfold execEcHoldLimitExpiry
  exact .next (.ite h.tick.setEcHold h.tick)

theorem KeptOut.writeSrcConfig (h : Kept r s) {a tile v} : KeptOut r (execWriteSrcConfig a tile v s) := by
  unfold execWriteSrcConfig
  exact .next (.writeAt h (fun _ _ h1 => h1.setSrcConfig))

theorem KeptOut.writeSrcStatus (h : Kept r s) {a tile v} : KeptOut r (execWriteSrcStatus a tile v s) := by
  unfold execWriteSrcStatus
  exact .next (.writeAt h (fun _ _ h1 => h1.setSrcStatus))

theorem KeptOut.softPend (h : Kept r s) {a v} : KeptOut r (execSoftPend a v s) := by
  unfold execSoftPend
  exact .next (.write h (fun _ _ h1 => h1.setSoftPend))

theorem KeptOut.writeEcHold (h : Kept r s) {a v} : KeptOut r (execWriteEcHold a v s) :=
  .next <| h.write fun _ _ h => h.setEcHoldAll

theorem KeptOut.writeAutostart (h : Kept r s) {a v} : KeptOut r (execWriteAutostart a v s) := by
  unfold execWriteAutostart
  exact .next (.write h (fun _ _ h1 => h1.setAutostart))

theorem KeptOut.loadProgram (h : Kept r s) {a x} : KeptOut r (execLoadProgram a x s) := by
  unfold execLoadProgram
  exact .next (.request h (fun _ h1 => h1.doLoadProgram))

theorem KeptOut.startProgram (h : Kept r s) {a} : KeptOut r (execStartProgram a s) := by
  unfold execStartProgram
  exact .next (.request h (fun _ h1 => h1.doStartProgram))

theorem KeptOut.stopProgram (h : Kept r s) {a} : KeptOut r (execStopProgram a s) := by
  unfold execStopProgram
  exact .next (.request h (fun _ h1 => h1.doStopProgram))

theorem KeptOut.readEngine (h : Kept r s) {a} : KeptOut r (execReadEngine a s) := by
  unfold execReadEngine
  exact .next (.request h (fun _ h1 => h1.doReadEngine))

theorem KeptOut.raiseEvent (h : Kept r s) {a len payload} : KeptOut r (execRaiseEvent a len payload s) := by
  unfold execRaiseEvent
  exact .next (.request h (fun _ h1 => h1.doRaiseEvent))

theorem Kept.ratReject (h : Kept r s) {p status serial} : Kept r (s.ratReject p status serial) := by
  unfold State.ratReject
  exact h.rejectPort.raise

theorem KeptOut.linkIdentity (h : Kept r s) {t' p m} : KeptOut r (execLinkIdentity t' p m s) := by
  unfold execLinkIdentity
  extract_lets s1 _ _ _ s2 s3
  have h1 : Kept r s1 := h.tick
  have h2 : Kept r s2 := h1.sendIdent
  have h3 : Kept r s3 := h2.modRat.put
  exact .next (.ite h1 (.ite h2.ratReject (.ite h2 h3.moveLink.partnerArrived)))

theorem KeptOut.linkIdentityAck (h : Kept r s) {t' p x2 x3 status serial} : KeptOut r (execLinkIdentityAck t' p x2 x3 status serial s) := by
  unfold execLinkIdentityAck
  exact .next (.ite h.tick.ratReject h.tick)

theorem KeptOut.treeAdvertSend (h : Kept r s) {t'} : KeptOut r (execTreeAdvertSend t' s) := by
  unfold execTreeAdvertSend
  exact .next (.ite (.advertise (.when h.tick.setV.elect (fun _ h1 => h1.countV))) h.tick)

theorem KeptOut.treeAdvert (h : Kept r s) {t' p m} : KeptOut r (execTreeAdvert t' p m s) := by
  unfold execTreeAdvert
  exact .next (.ite h.tick h.tick.modRat.elect.settleOps)

theorem KeptOut.advertStale (h : Kept r s) {t'} : KeptOut r (execAdvertStale t' s) := by
  unfold execAdvertStale
  exact .next (.ite h.tick.elect.settleOps h.tick)

theorem KeptOut.ratlineMessageRoute (h : Kept r s) {t' p m} : KeptOut r (execRatlineMessageRoute t' p m s) := by
  unfold execRatlineMessageRoute
  refine .next ?_
  dsimp only
  split
  · exact h.tick.count
  · refine .ite h.tick <| .ite (.ite h.tick ?_) ?_
    · split
      · exact h.tick.ratPass
      · exact h.tick
    · split
      · exact h.tick
      · exact h.tick.ratPass
      · exact .ite h.tick.sendRemoteReply h.tick
      · exact .ite h.tick.sendRemoteReply h.tick

theorem KeptOut.vc1CreditTimeout (h : Kept r s) {t' p} : KeptOut r (execVc1CreditTimeout t' p s) := by
  unfold execVc1CreditTimeout
  extract_lets s1 _ _ s2 s3 _
  have h1 : Kept r s1 := h.tick
  have h2 : Kept r s2 := h1.modLink
  have h3 : Kept r s3 := .each h2 (fun _ _ h3 => h3.count)
  exact .next (.ite h1 (.ite h3.setV.raise h3))

theorem KeptOut.ratlineTimeSend (h : Kept r s) {t'} : KeptOut r (execRatlineTimeSend t' s) := by
  unfold execRatlineTimeSend
  exact .next (.each h.tick (fun _ _ h1 => h1.send))

theorem KeptOut.ratlineTimeFlit (h : Kept r s) {t' p tTx tEcho hold parentLocked} : KeptOut r (execRatlineTimeFlit t' p tTx tEcho hold parentLocked s) := by
  unfold execRatlineTimeFlit
  extract_lets s1 s2 _ _ _ _ s3 s4 _ s5 _
  have h1 : Kept r s1 := h.tick
  have h2 : Kept r s2 := .when h1 (fun _ h2 => h2.modLink)
  have h3 : Kept r s3 := h2.modRat
  have h4 : Kept r s4 := by dsimp only [s4]; split; exacts [.ite h3.setV h3, h3]
  have h5 : Kept r s5 := .ite (.when h4.correct (fun _ h5 => h5.modRat)) h4
  exact .next (.ite h2 (.ite h5.timeLock h5))

theorem KeptOut.opStart (h : Kept r s) {t' src x2 x3 body} : KeptOut r (execOpStart t' src x2 x3 body s) := by
  unfold execOpStart
  refine .next ?_
  split
  · exact .ite h.tick h.tick.opRoot
  · exact h.tick

theorem Kept.takeOpDown (h : Kept r s) {p m} : Kept r (s.takeOpDown p m) := by
  unfold State.takeOpDown
  split
  · exact h
  · split
    · exact .ite (.frame h.opDown.dropOp) (.ite h.opDown.dropOp.opComplete h.opDown.opFinish)
    · split
      · exact .frame h.opDown
      · split
        · exact h.opBegin
        · exact .ite h h.opBegin

theorem KeptOut.opDown (h : Kept r s) {t' p m} : KeptOut r (execOpDown t' p m s) := by
  unfold execOpDown
  exact .next h.tick.takeOpDown.settleOps

theorem Kept.takeOpUp (h : Kept r s) {p m} : Kept r (s.takeOpUp p m) := by
  unfold State.takeOpUp
  split
  · exact h
  · split
    · exact .ite h h.setOp
    · exact .ite h h.putOps

theorem KeptOut.opUp (h : Kept r s) {t' p m} : KeptOut r (execOpUp t' p m s) := by
  unfold execOpUp
  exact .next h.tick.takeOpUp.settleOps

theorem Kept.lockClose (h : Kept r s) : Kept r (s.lockClose) := by
  unfold State.lockClose
  exact .ite (.sendLockUp (.ite h h.setV)) h

theorem Kept.snapStore (h : Kept r s) {opId taddr r'} : Kept r (s.snapStore opId taddr r') := by
  unfold State.snapStore
  exact .frame h

theorem Kept.latchSnaps (h : Kept r s) : Kept r (s.latchSnaps) := by
  unfold State.latchSnaps
  exact .each h (fun _ _ h1 => .ite h1.setOp h1.setOp.snapStore)

theorem KeptOut.opWaitClose (h : Kept r s) {t'} : KeptOut r (execOpWaitClose t' s) := by
  unfold execOpWaitClose
  exact .next h.tick.latchSnaps.settleOps.lockClose

theorem KeptOut.remoteRequest (h : Kept r s) {t' p serial addr attempt hdr body} : KeptOut r (execRemoteRequest t' p serial addr attempt hdr body s) := by
  unfold execRemoteRequest
  extract_lets s1 _ _
  have h1 : Kept r s1 := h.tick
  exact .next (by split; exacts [.ite (by split; exacts [h1.sendRemoteReply, h1]) (.arriveAt (.frame h1)), .arriveAt (.frame h1)])

theorem Kept.remoteEnd (h : Kept r s) {r' st packet} : Kept r (s.remoteEnd r' st packet) := by
  unfold State.remoteEnd
  exact .finish (.holdResult (.frame h))

theorem KeptOut.remoteReply (h : Kept r s) {t' serial status packet} : KeptOut r (execRemoteReply t' serial status packet s) := by
  unfold execRemoteReply
  extract_lets s1 _ _
  have h1 : Kept r s1 := h.tick
  exact .next (by split; exacts [.ite h1.remoteEnd (.ite h1.remoteEnd h1.remoteEnd), h1])

theorem KeptOut.remoteTimeoutExpiry (h : Kept r s) {t'} : KeptOut r (execRemoteTimeoutExpiry t' s) := by
  unfold execRemoteTimeoutExpiry
  refine .next ?_
  exact .each h.tick (fun _ _ h1 => by dsimp only; split; exacts [h1.remoteEnd, .ite (.remoteSend (.frame h1)) h1.raise.remoteEnd])

theorem KeptOut.snapData (h : Kept r s) {t' m} : KeptOut r (execSnapData t' m s) := by
  unfold execSnapData
  refine .next ?_
  split
  · exact .ite h.tick.snapStore.snapComplete h.tick.snapStore
  · exact h.tick.snapStore

theorem KeptOut.snapshotCollectTimeout (h : Kept r s) {t'} : KeptOut r (execSnapshotCollectTimeout t' s) := by
  unfold execSnapshotCollectTimeout
  exact .next (.each h.tick (fun _ _ h1 => h1.snapComplete))

theorem Kept.exportDone (h : Kept r s) {x st bytes} : Kept r (s.exportDone x st bytes) := by
  unfold State.exportDone
  exact .complete (.frame h)

theorem KeptOut.exportData (h : Kept r s) {t' src serial id seq offset len} : KeptOut r (execExportData t' src serial id seq offset len s) := by
  unfold execExportData
  refine .next ?_
  dsimp only
  split
  · exact .ite h.tick.ratTree.exportDone (.frame h.tick.ratTree)
  · exact h.tick

theorem KeptOut.exportAck (h : Kept r s) {t' id seq status} : KeptOut r (execExportAck t' id seq status s) := by
  unfold execExportAck
  extract_lets s1
  have h1 : Kept r s1 := h.tick
  exact .next (by split; exacts [.ite h1.exportDone (.ite (.exportDone (.ratTree (.frame h1))) (.exportPump (.frame h1))), h1])

theorem KeptOut.exportEnd (h : Kept r s) {t' id bytes status} : KeptOut r (execExportEnd t' id bytes status s) := by
  unfold execExportEnd
  refine .next ?_
  split
  · exact h.tick.exportDone
  · exact h.tick

theorem KeptOut.barrier (h : Kept r s) {a x} : KeptOut r (execBarrier a x s) := by
  unfold execBarrier
  exact .next (.request h (fun _ h1 => h1.doBarrier))

theorem KeptOut.reduce (h : Kept r s) {a x} : KeptOut r (execReduce a x s) := by
  unfold execReduce
  exact .next (.request h (fun _ h1 => h1.doReduce))

theorem KeptOut.broadcast (h : Kept r s) {a x hdr inner} : KeptOut r (execBroadcast a x hdr inner s) := by
  unfold execBroadcast
  exact .next (.request h (fun _ h1 => h1.doBroadcast))

theorem KeptOut.snapshotGlobal (h : Kept r s) {a x} : KeptOut r (execSnapshotGlobal a x s) := by
  unfold execSnapshotGlobal
  exact .next (.request h (fun _ h1 => h1.doSnapshotGlobal))

theorem KeptOut.resetGlobal (h : Kept r s) {a x} : KeptOut r (execResetGlobal a x s) := by
  unfold execResetGlobal
  exact .next (.request h (fun _ h1 => h1.doResetGlobal))

theorem KeptOut.writePortAdmin (h : Kept r s) {a v} : KeptOut r (execWritePortAdmin a v s) := by
  unfold execWritePortAdmin
  exact .next (.write h (fun _ _ h1 => h1.setPortAdmin))

theorem Kept.busDone (h : Kept r s) {p r' st ended failed reads} : Kept r (s.busDone p r' st ended failed reads) := by
  unfold State.busDone
  split
  · exact .frame h
  · exact h.busAnswer
  · exact h.busAnswer
  · exact h

theorem KeptOut.onBusGrant (h : Kept r s) {t' port} : KeptOut r (Machine.onBusGrant t' port s) := by
  unfold Machine.onBusGrant
  refine .next <| .ite ?_ h.tick
  split
  · extract_lets s1 s2
    have h1 : Kept r s1 := h.tick.modBus.countQueued
    have h2 : Kept r s2 := by
      unfold s2
      split
      · exact h1.beginApply
      · exact h1.beginApply
      · exact h1
    exact .ite h1.busDone h2.modBus.startTxn
  · exact h.tick

theorem KeptOut.busGrant (h : Kept r s) {t' port} : KeptOut r (execBusGrant t' port s) := by
  unfold execBusGrant
  exact .settled (.onBusGrant h)

theorem KeptOut.onQueueWaitExpiry (h : Kept r s) {t' port} : KeptOut r (onQueueWaitExpiry t' port s) := by
  unfold Machine.onQueueWaitExpiry
  exact .next (.each h.tick.modBus.countQueued (fun _ _ h1 => h1.busDone))

theorem KeptOut.queueWaitExpiry (h : Kept r s) {t' port} : KeptOut r (execQueueWaitExpiry t' port s) := by
  unfold execQueueWaitExpiry
  exact .settled (.onQueueWaitExpiry h)

theorem Kept.deviceAcked (h : Kept r s) {p addr} : Kept r (s.deviceAcked p addr) := by
  unfold State.deviceAcked
  exact .ite h.setV.raise h

theorem Kept.deviceGone (h : Kept r s) {d cause} : Kept r (s.deviceGone d cause) := by
  unfold State.deviceGone
  exact .ite h.setV.setV.raise h

theorem Kept.deviceTried (h : Kept r s) {p addr failed} : Kept r (s.deviceTried p addr failed) := by
  unfold State.deviceTried
  dsimp only
  split
  · exact .ite h.setV (.ite h.countV.deviceGone h.countV)
  · exact h

theorem Kept.txnAcked (h : Kept r s) {p l} : Kept r (s.txnAcked p l) := by
  unfold State.txnAcked
  exact .each h (fun _ _ h1 => .deviceAcked (.ite h1.deviceTried h1))

theorem Kept.endRec (h : Kept r s) {p st} : Kept r (s.endRec p st) := by
  unfold State.endRec
  exact .each h.modBus (fun _ _ h1 => h1.busAnswer)

theorem Kept.portIdle (h : Kept r s) {p} : Kept r (s.portIdle p) := by
  unfold State.portIdle
  exact .ite h.setPort.applyConfig.actRec h.setPort.applyConfig.actRec.endRec

theorem Kept.endHold (h : Kept r s) {p st failed next} : Kept r (s.endHold p st failed next) := by
  unfold State.endHold
  dsimp only
  split
  · exact .busDone (.ite h.modBus.portIdle h.modBus.setPort.actRec)
  · exact h

theorem Kept.txnOk (h : Kept r s) {p reads} : Kept r (s.txnOk p reads) := by
  unfold State.txnOk
  extract_lets _ s1
  have h1 : Kept r s1 := h.txnAcked
  split
  · exact h
  · split
    · exact h1.endHold
    · extract_lets s2 s3
      have h2 : Kept r s2 := h1.modBus
      have h3 : Kept r s3 := h2.actRec
      exact .ite h2.endHold (.ite h2.endHold (.ite h3.modBus h3.startTxn))

theorem Kept.txnBefore (h : Kept r s) {p l seg} : Kept r (s.txnBefore p l seg) := by
  unfold State.txnBefore
  exact .when h.txnAcked (fun _ h1 => h1.deviceAcked)

theorem Kept.txnFails (h : Kept r s) {p st seg retried next} : Kept r (s.txnFails p st seg retried next) := by
  unfold State.txnFails
  dsimp only
  split
  · exact h
  · exact .ite h.actRec.modBus h.actRec.endHold

theorem KeptOut.onTwoWireTransactionEnd (h : Kept r s) {t' port x} : KeptOut r (Machine.onTwoWireTransactionEnd t' port x s) := by
  unfold Machine.onTwoWireTransactionEnd
  refine .next <| .ite h.tick ?_
  split
  · exact h.tick.txnOk
  · exact .txnFails <| .ite h.tick.count.txnBefore.deviceTried h.tick.count.txnBefore
  · exact h.tick.count.txnAcked.txnFails
  · exact h.tick.count.txnAcked.txnFails
  · exact h.tick.count.txnBefore.txnFails

theorem KeptOut.twoWireTransactionEnd (h : Kept r s) {t' port x} : KeptOut r (execTwoWireTransactionEnd t' port x s) := by
  unfold execTwoWireTransactionEnd
  exact .settled (.onTwoWireTransactionEnd h)

theorem Kept.busEvent (h : Kept r s) {k' p e payload} : Kept r (s.busEvent k' p e payload) := by
  unfold State.busEvent
  exact .ite h.setV.raise h

theorem KeptOut.onTwoWireTimeout (h : Kept r s) {t' port kind seg} : KeptOut r (onTwoWireTimeout t' port kind seg s) := by
  unfold Machine.onTwoWireTimeout
  extract_lets s1 _ _ _ s2 s3 s4
  have h1 : Kept r s1 := h.tick
  have h2 : Kept r s2 := h1.count.modBus
  have h3 : Kept r s3 := h2.arm.busEvent
  have h4 : Kept r s4 := h3.txnBefore
  exact .next (.ite (.txnFails (.ite h4.deviceTried h4)) h1)

theorem KeptOut.twoWireTimeout (h : Kept r s) {t' port kind seg} : KeptOut r (execTwoWireTimeout t' port kind seg s) := by
  unfold execTwoWireTimeout
  exact .settled (.onTwoWireTimeout h)

theorem KeptOut.onBusIllegalCond (h : Kept r s) {t' port kind bit seg} : KeptOut r (onBusIllegalCond t' port kind bit seg s) := by
  unfold Machine.onBusIllegalCond
  exact .next (.ite h.tick.count.modBus.busEvent.txnBefore.txnFails h.tick)

theorem KeptOut.busIllegalCond (h : Kept r s) {t' port kind bit seg} : KeptOut r (execBusIllegalCond t' port kind bit seg s) := by
  unfold execBusIllegalCond
  exact .settled (.onBusIllegalCond h)

theorem Kept.setPtr (h : Kept r s) {k' a} : Kept r (s.setPtr k' a) := by
  unfold State.setPtr
  exact h.modWin

theorem KeptOut.targetIllegalCond (h : Kept r s) {t' k' kind bit x} : KeptOut r (execTargetIllegalCond t' k' kind bit x s) := by
  unfold execTargetIllegalCond
  extract_lets s1 _ s2 s3
  have h1 : Kept r s1 := h.tick
  have h2 : Kept r s2 := h1.count
  have h3 : Kept r s3 := h2.busEvent
  exact .next (.ite h1 (by split; exacts [.ite h3.setPtr.modWin h3.setPtr.modWin.modWin, .modWin (by split; exacts [h3.setPtr, h3]), h3]))

theorem Kept.busFree (h : Kept r s) {p} : Kept r (s.busFree p) := by
  unfold State.busFree
  extract_lets s1 s2 s3
  have h1 : Kept r s1 := h.modBus.disarm
  have h2 : Kept r s2 := h1.actRec.modBus
  have h3 : Kept r s3 := h2.endRec
  exact .ite h3.startTxn h3.portIdle

theorem Kept.failPort (h : Kept r s) {p} : Kept r (s.failPort p) := by
  unfold State.failPort
  extract_lets _ s1 s2 s3 s4
  have h1 : Kept r s1 := h.modBus.disarm
  have h2 : Kept r s2 := h1.setPort.actRec.modBus
  have h3 : Kept r s3 := h2.endRec
  have h4 : Kept r s4 := by dsimp only [s4]; split; exacts [h3.busDone, h3]
  exact .countQueued (.each h4 (fun _ _ h5 => h5.busDone))

theorem Kept.pulse (h : Kept r s) {p d} : Kept r (s.pulse p d) := by
  unfold State.pulse
  exact h.send

theorem Kept.recoverSda (h : Kept r s) {p clocked pulsed near} : Kept r (s.recoverSda p clocked pulsed near) := by
  unfold State.recoverSda
  have isolate {s} (h : Kept r s) : Kept r (if near then (s.setSwitch p true 0).busFree p else (s.setSwitch p true 0).failPort p) :=
    .ite h.setSwitch.busFree h.setSwitch.failPort
  have h1 : Kept r ((s.count .recoveries p).setPort p busRecovering) := h.count.setPort
  refine .ite h1.busFree ?_
  dsimp only
  split
  · exact .ite h1.raise.pulse.busFree (isolate h1.raise.pulse)
  · exact isolate h1.raise

theorem KeptOut.onBusRecovery (h : Kept r s) {t' port clocked pulsed near} : KeptOut r (onBusRecovery t' port clocked pulsed near s) := by
  unfold Machine.onBusRecovery
  exact .next (.ite h.tick.recoverSda h.tick)

theorem KeptOut.busRecovery (h : Kept r s) {t' port clocked pulsed near} : KeptOut r (execBusRecovery t' port clocked pulsed near s) := by
  unfold execBusRecovery
  exact .settled (.onBusRecovery h)

theorem Kept.recoverScl (h : Kept r s) {p low pulsed near} : Kept r (s.recoverScl p low pulsed near) := by
  unfold State.recoverScl
  extract_lets s1 _ s2 s3 s4
  have h1 : Kept r s1 := h.count.setPort.disarm
  have h2 : Kept r s2 := h1.raise
  have h3 : Kept r s3 := .each h2 (fun _ _ h3 => h3.pulse)
  have h4 : Kept r s4 := h3.setSwitch
  exact .ite h3.busFree (.ite h4.busFree h4.failPort)

theorem KeptOut.onSclStuck (h : Kept r s) {t' port low pulsed near} : KeptOut r (onSclStuck t' port low pulsed near s) := by
  unfold Machine.onSclStuck
  exact .next (.ite h.tick.recoverScl h.tick)

theorem KeptOut.sclStuck (h : Kept r s) {t' port low pulsed near} : KeptOut r (execSclStuck t' port low pulsed near s) := by
  unfold execSclStuck
  exact .settled (.onSclStuck h)

theorem KeptOut.onFailedPortRetry (h : Kept r s) {t' port clocked pulsed near} : KeptOut r (onFailedPortRetry t' port clocked pulsed near s) := by
  unfold Machine.onFailedPortRetry
  exact .next (.ite h.tick.recoverSda h.tick)

theorem KeptOut.failedPortRetry (h : Kept r s) {t' port clocked pulsed near} : KeptOut r (execFailedPortRetry t' port clocked pulsed near s) := by
  unfold execFailedPortRetry
  exact .settled (.onFailedPortRetry h)

theorem KeptOut.windowWrite (h : Kept r s) {t' k ptr data pec} : KeptOut r (execWindowWrite t' k ptr data pec s) := by
  unfold execWindowWrite
  refine .next ?_
  dsimp only
  split
  · have h1 {i a j f} : Kept r (((s.tick t').setPtr i a).modWin j f) := h.tick.setPtr.modWin
    exact .ite (.busEvent (.count (.ite h1.busEvent h1))) (.modWin (.ite h1.busEvent h1))
  · exact h.tick

theorem KeptOut.windowRead (h : Kept r s) {t' k' ptr n} : KeptOut r (execWindowRead t' k' ptr n s) := by
  unfold execWindowRead
  refine .next ?_
  dsimp only
  split
  · exact h.tick
  · exact .send (.modWin (by split; exacts [h.tick.setPtr, h.tick]))

theorem KeptOut.mbxSubmit (h : Kept r s) {t' k' x} : KeptOut r (execMbxSubmit t' k' x s) := by
  unfold execMbxSubmit
  extract_lets s1 _
  have h1 : Kept r s1 := h.tick
  exact .next (.ite h1 (by split; exacts [.ite h1.count.windowReply h1.modWin.takePacket, h1.takePacket]))

theorem KeptOut.mbxFree (h : Kept r s) {t' k'} : KeptOut r (execMbxFree t' k' s) := by
  unfold execMbxFree
  exact .next (.ite h.tick.modWin h.tick)

theorem KeptOut.busTransfer (h : Kept r s) {a retries segs} : KeptOut r (execBusTransfer a retries segs s) := by
  unfold execBusTransfer
  exact .next (.request h (fun _ h1 => h1.doBusTransfer))

theorem KeptOut.busRecover (h : Kept r s) {a} : KeptOut r (execBusRecover a s) := by
  unfold execBusRecover
  exact .next (.request h (fun _ h1 => h1.doBusRecover))

theorem KeptOut.configureBus (h : Kept r s) {a block} : KeptOut r (execConfigureBus a block s) := by
  unfold execConfigureBus
  exact .next (.request h (fun _ h1 => h1.doConfigureBus))

theorem KeptOut.pmbusRead (h : Kept r s) {a addr page code} : KeptOut r (execPmbusRead a addr page code s) := by
  unfold execPmbusRead
  exact .next (.request h (fun _ h1 => h1.doPmbusRead))

theorem KeptOut.pmbusWrite (h : Kept r s) {a addr page code value} : KeptOut r (execPmbusWrite a addr page code value s) := by
  unfold execPmbusWrite
  exact .next (.request h (fun _ h1 => h1.doPmbusWrite))

theorem Kept.corrected (h : Kept r s) {t' stack n} : Kept r (s.corrected t' stack n) := by
  unfold State.corrected
  exact .ite h (.ite h.put.setV.raise h.put)

theorem Kept.writeBack (h : Kept r s) {place addr w} : Kept r (s.writeBack place addr w) := h.codewords

theorem KeptOut.sramScrub (h : Kept r s) {t' tile words} : KeptOut r (execSramScrub t' tile words s) := by
  unfold execSramScrub
  exact .next (.ite (.each h.tick.corrected (fun _ _ h1 => h1.writeBack)) h.tick)

theorem Kept.spareRow (h : Kept r s) {k' die row cause} : Kept r (s.spareRow k' die row cause) := by
  unfold State.spareRow
  exact .ite h (.ite (.raise (.setV (.raise (.frame h.countV)))) (.raise (.frame h.countV)))

theorem Kept.rowCorrected (h : Kept r s) {k' g} : Kept r (s.rowCorrected k' g) := by
  unfold State.rowCorrected
  exact .ite (.spareRow (.frame h.writeBack)) (.frame h.writeBack)

theorem KeptOut.patrolScrub (h : Kept r s) {t' stack words} : KeptOut r (execPatrolScrub t' stack words s) := by
  unfold execPatrolScrub
  exact .next (.ite (.each h.tick.corrected (fun _ _ h1 => h1.rowCorrected)) h.tick)

theorem Kept.badSram (h : Kept r s) {t' region slot engine} : Kept r (s.badSram t' region slot engine) := by
  unfold State.badSram
  extract_lets _ _
  split
  · exact h.requestFence
  · exact h.requestFence
  · exact .ite h h.setV
  · exact .ite h h.engineFault
  · exact .frame h
  · exact h

theorem Kept.loseOne {α : Type} {l : List α} (h : Kept r s) : Kept r (s.loseOne l).2 := h.draw

theorem Kept.badDram (h : Kept r s) {k' region optimiser snap} : Kept r (s.badDram k' region optimiser snap) := by
  unfold State.badDram
  dsimp only
  split
  · exact .ite h (.frame h.draw.draw)
  · split
    · exact .each h (fun _ _ h1 => h1.trainingEvent)
    · split
      · exact h
      · exact h.draw.loseOne.modModel
  · exact .ite h (.frame h.loseOne)
  · exact .frame h
  · exact h

theorem KeptOut.memoryUncorrectable (h : Kept r s) {t' w} : KeptOut r (execMemoryUncorrectable t' w s) := by
  unfold execMemoryUncorrectable
  extract_lets s1
  have h1 : Kept r s1 := h.tick
  exact .next (by split; exacts [.ite h1.count.raise.badSram h1, .ite (.spareRow (.badDram (.frame h1.count.raise))) h1])

theorem KeptOut.stackLost (h : Kept r s) {t' stack words} : KeptOut r (execStackLost t' stack words s) := by
  unfold execStackLost
  extract_lets s1 _ _ s2 _ s3
  have h1 : Kept r s1 := h.tick
  have h2 : Kept r s2 := h1.setV
  have h3 : Kept r s3 := h2.stacksDown.trainingLost
  exact .next (.ite h1 (.dropFeatures (.ite h3 h3.raise)))

theorem KeptOut.recorderFreezeInstant (h : Kept r s) {t'} : KeptOut r (execRecorderFreezeInstant t' s) := by
  unfold execRecorderFreezeInstant
  refine .next ?_
  split
  · exact .ite h.tick.freeze h.tick
  · exact h.tick

theorem KeptOut.autoReleaseExpiry (h : Kept r s) {t'} : KeptOut r (execAutoReleaseExpiry t' s) := by
  unfold execAutoReleaseExpiry
  exact .next (.ite h.tick.resume h.tick)

theorem Kept.stippleAccel (h : Kept r s) {a} : Kept r (s.stippleAccel a).2 := by
  unfold State.stippleAccel
  extract_lets power freq
  split
  rename_i e1
  split
  rename_i e2
  split
  rename_i e3
  exact ((h.wholes.of_snd e1).wholes.of_snd e2).wholes.of_snd e3

theorem Kept.stippleDomain (h : Kept r s) {d} : Kept r (s.stippleDomain d).2 := by
  unfold State.stippleDomain
  exact h.wholes

theorem Kept.stippleNow (h : Kept r s) : Kept r s.stippleNow.2 := by
  unfold State.stippleNow
  split
  rename_i e1
  extract_lets tray flow join
  clear_value tray flow
  have h1 := h.wholes.of_snd e1
  have joined {f : State → Nat → List Fld × State} {l x} (hf : ∀ s k, Kept r s → Kept r (f s k).2) (h : Kept r x.2) : Kept r (List.foldl (join f) x l).2 := by
    refine h.foldl_snd fun x k h => ?_
    unfold join
    split
    rename_i e
    exact (hf _ _ h).of_snd e
  have accels {l x} (h : Kept r x.2) : Kept r (List.foldl (join State.stippleAccel) x l).2 := joined (f := State.stippleAccel) (fun _ _ h => h.stippleAccel) h
  have domains {l x} (h : Kept r x.2) : Kept r (List.foldl (join State.stippleDomain) x l).2 := joined (f := State.stippleDomain) (fun _ _ h => h.stippleDomain) h
  split
  rename_i e2
  split
  rename_i e3
  extract_lets sec0
  have h2 := ((accels h1).of_snd e2).wholes.of_snd e3
  split
  rename_i e4
  split
  rename_i e5
  exact (domains ((domains h2).of_snd e4)).of_snd e5

theorem KeptOut.stippleFrame (h : Kept r s) {t'} : KeptOut r (execStippleFrame t' s) := by
  unfold execStippleFrame
  refine .next <| .ite ?_ h.tick
  split
  rename_i e
  exact (h.tick.stippleNow.of_snd e).frame.newInterval.arm

theorem KeptOut.writeStippleInterval (h : Kept r s) {a v} : KeptOut r (execWriteStippleInterval a v s) := by
  unfold execWriteStippleInterval
  exact .next (.write h (fun _ _ h1 => h1.setStippleInterval))

theorem KeptOut.exportComplete (h : Kept r s) {t' k'} : KeptOut r (execExportComplete t' k' s) := by
  unfold execExportComplete
  extract_lets s1
  have h1 : Kept r s1 := h.tick
  exact .next (by split; exacts [.ite h1.exportDone (.ite (.ite h1 (.ite h1.dma.exportDone h1.dma.exportDone)) (.ite h1.exportDone h1)), h1])

theorem KeptOut.triggerRecorder (h : Kept r s) {a post} : KeptOut r (execTriggerRecorder a post s) := by
  unfold execTriggerRecorder
  exact .next (.request h (fun _ h1 => h1.doTriggerRecorder))

theorem KeptOut.freezeRecorder (h : Kept r s) {a} : KeptOut r (execFreezeRecorder a s) := by
  unfold execFreezeRecorder
  exact .next (.request h (fun _ h1 => h1.doFreezeRecorder))

theorem KeptOut.releaseRecorder (h : Kept r s) {a} : KeptOut r (execReleaseRecorder a s) := by
  unfold execReleaseRecorder
  exact .next (.request h (fun _ h1 => h1.doReleaseRecorder))

theorem KeptOut.exportRecorder (h : Kept r s) {a path content id first last taddr serial bufs} : KeptOut r (execExportRecorder a path content id first last taddr serial bufs s) := by
  unfold execExportRecorder
  exact .next (.request h (fun _ h1 => h1.doExportRecorder))

theorem KeptOut.readStipple (h : Kept r s) {a start section_ count} : KeptOut r (execReadStipple a start section_ count s) := by
  unfold execReadStipple
  exact .next (.request h (fun _ h1 => h1.doReadStipple))

theorem KeptOut.keySlotProgram (h : Kept r s) {t' slot ec ml} : KeptOut r (execKeySlotProgram t' slot ec ml s) := by
  unfold execKeySlotProgram
  exact .next (.ite h.tick.setV.setV h.tick)

theorem KeptOut.attest (h : Kept r s) {a tile index offset nonce} : KeptOut r (execAttest a tile index offset nonce s) := by
  unfold execAttest
  exact .next (.request h (fun _ h1 => h1.doAttest))

theorem KeptOut.revokeKey (h : Kept r s) {a} : KeptOut r (execRevokeKey a s) := by
  unfold execRevokeKey
  exact .next (.request h (fun _ h1 => h1.doRevokeKey))

theorem KeptOut.readKeys (h : Kept r s) {a} : KeptOut r (execReadKeys a s) := by
  unfold execReadKeys
  exact .next (.request h (fun _ h1 => h1.doReadKeys))

theorem KeptOut.openStage (h : Kept r s) {a total resume} : KeptOut r (execOpenStage a total resume s) := by
  unfold execOpenStage
  exact .next (.request h (fun _ h1 => h1.doOpenStage))

theorem KeptOut.writeStage (h : Kept r s) {a offset bytes} : KeptOut r (execWriteStage a offset bytes s) := by
  unfold execWriteStage
  exact .next (.request h (fun _ h1 => h1.doWriteStage))

theorem KeptOut.verifyStage (h : Kept r s) {a} : KeptOut r (execVerifyStage a s) := by
  unfold execVerifyStage
  exact .next (.request h (fun _ h1 => h1.doVerifyStage))

theorem KeptOut.planUpdate (h : Kept r s) {a} : KeptOut r (execPlanUpdate a s) := by
  unfold execPlanUpdate
  exact .next (.request h (fun _ h1 => h1.doPlanUpdate))

theorem KeptOut.etch (h : Kept r s) {a} : KeptOut r (execEtch a s) := by
  unfold execEtch
  exact .next (.request h (fun _ h1 => h1.doEtch))

theorem KeptOut.activate (h : Kept r s) {a stop} : KeptOut r (execActivate a stop s) := by
  unfold execActivate
  exact .next (.settleUpdate (.request h (fun _ h1 => h1.doActivate)))

theorem KeptOut.stepTimeoutExpiry (h : Kept r s) {t'} : KeptOut r (execStepTimeoutExpiry t' s) := by
  unfold execStepTimeoutExpiry
  refine .next ?_
  split
  · split
    · exact .ite h.tick.failStep.settleUpdate h.tick
    · exact h.tick
  · exact h.tick

theorem KeptOut.confirm (h : Kept r s) {a} : KeptOut r (execConfirm a s) := by
  unfold execConfirm
  exact .next (.request h (fun _ h1 => h1.doConfirm))

theorem KeptOut.autoConfirmExpiry (h : Kept r s) {t'} : KeptOut r (execAutoConfirmExpiry t' s) := by
  unfold execAutoConfirmExpiry
  refine .next ?_
  split
  · split
    · exact h.tick.writeConfirm
    · exact h.tick
  · exact h.tick

theorem KeptOut.readPlates (h : Kept r s) {a} : KeptOut r (execReadPlates a s) := by
  unfold execReadPlates
  exact .next (.request h (fun _ h1 => h1.doReadPlates))

theorem KeptOut.inject (h : Kept r s) {a p} : KeptOut r (execInject a p s) := by
  unfold execInject
  exact .next (.request h (fun _ h1 => h1.doInject))

theorem Kept.after {o : Out} (h : KeptOut r o) : Kept r (s.after o) := by
  obtain ⟨t, rfl, ht⟩ := h
  exact ht

theorem Kept.fireEffect (h : Kept r s) {p k' x} : Kept r (s.fireEffect p k' x) := by
  unfold State.fireEffect
  extract_lets held
  split
  · exact .ite (.after (KeptOut.refclkLost h)) h
  · exact .ite (.after (KeptOut.islandClockStopped h)) h
  · exact .ite (.after (KeptOut.guardClockFallback h)) h
  · exact .ite h.voterInput h
  · exact .ite h.moveLink h
  · exact .ite h.moveLink h
  · exact .ite h.send h

theorem Kept.firePoint (h : Kept r s) {p k'} : Kept r (s.firePoint p k') := by
  unfold State.firePoint
  extract_lets _ _ _ s1 s2 s3 s4
  have h1 : Kept r s1 := h.of_core rfl rfl rfl rfl rfl
  have h2 : Kept r s2 := h1.count.pointEvent
  have h3 : Kept r s3 := .ite h2 h2.arm.setPoint
  have h4 : Kept r s4 := h3.fireEffect
  exact .ite h4.pointIdle h4

theorem KeptOut.injectionFire (h : Kept r s) {t' p seen} : KeptOut r (execInjectionFire t' p seen s) := by
  unfold execInjectionFire
  refine .next ?_
  split
  · exact .ite h.tick.firePoint.settleUpdate h.tick
  · exact h.tick

theorem Kept.voteBack (h : Kept r s) {p v} : Kept r (s.voteBack p v) := by
  unfold State.voteBack
  split
  · exact h.voterInput
  · exact h

theorem KeptOut.injectionHoldEnd (h : Kept r s) {t' p} : KeptOut r (execInjectionHoldEnd t' p s) := by
  unfold execInjectionHoldEnd
  extract_lets s1 _ _ s2 s3 s4
  have h1 : Kept r s1 := h.tick
  have h2 : Kept r s2 := h1.pointEvent.disarm
  have h3 : Kept r s3 := .when h2 (fun _ h3 => h3.send)
  have h4 : Kept r s4 := .ite h3.pointIdle h3.setPoint
  exact .next (.ite h4.voteBack h1)

theorem KeptOut.armLimitExpiry (h : Kept r s) {t' p} : KeptOut r (execArmLimitExpiry t' p s) := by
  unfold execArmLimitExpiry
  exact .next (.ite h.tick.pointIdle.pointEvent.voteBack h.tick)

theorem KeptOut.setMaintenance (h : Kept r s) {a on duration} : KeptOut r (execSetMaintenance a on duration s) := by
  unfold execSetMaintenance
  exact .next (.request h (fun _ h1 => h1.doSetMaintenance))

theorem KeptOut.maintenanceExpiry (h : Kept r s) {t'} : KeptOut r (execMaintenanceExpiry t' s) := by
  unfold execMaintenanceExpiry
  exact .next (.ite h.tick.endMaintenance h.tick)

theorem KeptOut.selftest (h : Kept r s) {a test arg} : KeptOut r (execSelftest a test arg s) := by
  unfold execSelftest
  exact .next (.request h (fun _ h1 => h1.doSelftest))

theorem Kept.markPart (h : Kept r s) {t' c failed measured} : Kept r (s.markPart t' c failed measured) := by
  unfold State.markPart
  exact .ite h h.setV.raise

theorem Kept.judgeBanks (h : Kept r s) {t' step measured} : Kept r (s.judgeBanks t' step measured) := by
  unfold State.judgeBanks
  exact .foldl h (fun _ _ h1 => .ite h1.markPart (.ite h1.markPart h1))

theorem KeptOut.selftestComplete (h : Kept r s) {t' object test step measured} : KeptOut r (execSelftestComplete t' object test step measured s) := by
  unfold execSelftestComplete
  extract_lets s1 s2
  have h1 : Kept r s1 := h.tick
  have h2 : Kept r s2 := .ite h1.judgeBanks h1
  exact .next (by split; exacts [.endTrial (.ite h2.restoreTrial h2), h1])

theorem KeptOut.calibrate (h : Kept r s) {a cal} : KeptOut r (execCalibrate a cal s) := by
  unfold execCalibrate
  exact .next (.request h (fun _ h1 => h1.doCalibrate))

theorem KeptOut.calibrationPeriod (h : Kept r s) {t'} : KeptOut r (execCalibrationPeriod t' s) := by
  unfold execCalibrationPeriod
  exact .next (.ite (.each h.tick.arm (fun _ _ h1 => .ite h1 h1.addCal)) h.tick)

theorem Kept.applyCal (h : Kept r s) {cal t' measured errs} : Kept r (s.applyCal cal t' measured errs) := by
  unfold State.applyCal
  split
  · split
    · exact .each h (fun _ _ h1 => h1.refine)
    · exact h
  · split
    · exact h.refine
    · exact h
  · exact h

theorem Kept.nextCal (h : Kept r s) : Kept r (s.nextCal) := by
  unfold State.nextCal
  split
  · exact .calBegins (.frame h)
  · exact h

theorem KeptOut.calibrateComplete (h : Kept r s) {t' object cal within measured errs} : KeptOut r (execCalibrateComplete t' object cal within measured errs s) := by
  unfold execCalibrateComplete
  extract_lets s1 s2
  have h1 : Kept r s1 := h.tick
  have h2 : Kept r s2 := .ite h1.applyCal (by split; exacts [h1.markPart, h1])
  exact .settled (.next (by split; exacts [h2.endTrial.nextCal, h1]))

theorem KeptOut.logRecordWrite (h : Kept r s) {t'} : KeptOut r (execLogRecordWrite t' s) := by
  unfold execLogRecordWrite
  refine .next ?_
  dsimp only
  split
  · exact .ite h.tick (.logGap (.frame h.tick))
  · exact h.tick.logGap

theorem KeptOut.writeLogCursor (h : Kept r s) {a v} : KeptOut r (execWriteLogCursor a v s) := by
  unfold execWriteLogCursor
  exact .next (.write h (fun _ _ h1 => h1.setLogCursor))

theorem KeptOut.ppsEdgeMissing (h : Kept r s) {t'} : KeptOut r (execPpsEdgeMissing t' s) := by
  unfold execPpsEdgeMissing
  exact .next (.ite h.tick.ppsFault h.tick)

theorem KeptOut.alertPinRelease (h : Kept r s) {t' a} : KeptOut r (execAlertPinRelease t' a s) := by
  unfold execAlertPinRelease
  exact .next h.tick.setV.disarm.disarm.disarm.setV.refreshAlert

theorem KeptOut.tripResetRelease (h : Kept r s) {t' tile} : KeptOut r (execTripResetRelease t' tile s) := by
  unfold execTripResetRelease
  exact .next (.ite (.ite h.tick.setV.coldStart h.tick) h.tick.setV)

theorem KeptOut.invalidSyncHeaders (h : Kept r s) {t' port} : KeptOut r (execInvalidSyncHeaders t' port s) := by
  unfold execInvalidSyncHeaders
  exact .next (.ite h.tick.moveLink h.tick)

theorem KeptOut.onStageVerifyDone (h : Kept r s) {t'} : KeptOut r (onStageVerifyDone t' s) := by
  unfold Machine.onStageVerifyDone
  extract_lets s1 _ _ s2 _ s3
  have h1 : Kept r s1 := h.tick
  have h2 : Kept r s2 := h1.of_core rfl rfl rfl rfl rfl
  have h3 : Kept r s3 := .each h2.setStage (fun _ _ h3 => h3.storeDesc)
  exact .next (by split; exacts [.ite h3.complete h2.draw.draw.setStage.complete, h1])

theorem KeptOut.stageVerifyDone (h : Kept r s) {t'} : KeptOut r (execStageVerifyDone t' s) := by
  unfold execStageVerifyDone
  exact .settled (.onStageVerifyDone h)

theorem KeptOut.modelVerifyDone (h : Kept r s) {t' m} : KeptOut r (execModelVerifyDone t' m s) := by
  unfold execModelVerifyDone
  extract_lets s1 _ _ _
  have h1 : Kept r s1 := h.tick
  exact .next (by split; exacts [.ite h1 (.ite h1.unload.complete (.ite (.frame h1) h1.modelLoaded)), h1])

theorem KeptOut.programVerifyDone (h : Kept r s) {t' e} : KeptOut r (execProgramVerifyDone t' e s) := by
  unfold execProgramVerifyDone
  extract_lets s1 _ _ _
  have h1 : Kept r s1 := h.tick
  exact .next (by split; exacts [.ite h1 (.ite h1.unloadEngine.complete (.ite (.frame h1) h1.programLoaded)), h1])

theorem KeptOut.onForeignStartStop (h : Kept r s) {t' port start} : KeptOut r (onForeignStartStop t' port start s) := by
  unfold Machine.onForeignStartStop
  extract_lets s1 _
  have h1 : Kept r s1 := h.tick
  exact .next (.ite h1 (.ite (.ite h1.setPort h1) (.ite h1.busFree h1)))

theorem KeptOut.foreignStartStop (h : Kept r s) {t' port start} : KeptOut r (execForeignStartStop t' port start s) := by
  unfold execForeignStartStop
  exact .settled (.onForeignStartStop h)

theorem KeptOut.onBusIdleTime (h : Kept r s) {t' port} : KeptOut r (onBusIdleTime t' port s) := by
  unfold Machine.onBusIdleTime
  extract_lets s1 _ _
  have h1 : Kept r s1 := h.tick
  exact .next (.ite h1 (.ite (.ite h1.count.setPort.busFree h1) (.ite h1 h1.busFree)))

theorem KeptOut.busIdleTime (h : Kept r s) {t' port} : KeptOut r (execBusIdleTime t' port s) := by
  unfold execBusIdleTime
  exact .settled (.onBusIdleTime h)

theorem KeptOut.exec (h : Kept r s) {i : Instr} : KeptOut r (Machine.exec i s) := by
  unfold Machine.exec
  cases i with
  | pgStbyRise => exact .pgStbyRise h
  | pgStbyFall => exact .pgStbyFall h
  | foreReady => exact .foreReady h
  | writePowerState => exact .writePowerState h
  | enterRunning => exact .enterRunning h
  | mainPowerGood => exact .mainPowerGood h
  | mainPowerLost => exact .mainPowerLost h
  | supplyPowerGood => exact .supplyPowerGood h
  | supplyPgTimeout => exact .supplyPgTimeout h
  | supplyPgFall => exact .supplyPgFall h
  | tileReady => exact .tileReady h
  | tileReadyTimeout => exact .tileReadyTimeout h
  | coreUndervoltage => exact .coreUndervoltage h
  | coreUndervoltageClear => exact .coreUndervoltageClear h
  | runOnExpiry => exact .runOnExpiry h
  | wakeTrigger => exact .wakeTrigger h
  | norWriteComplete => exact .norWriteComplete h
  | nandWriteComplete => exact .nandWriteComplete h
  | paceWindow => exact .paceWindow h
  | writePaceMin => exact .writePaceMin h
  | refclkLost => exact .refclkLost h
  | refclkRestored => exact .refclkRestored h
  | forwardedRefLost => exact .forwardedRefLost h
  | oscOffsetMeasure => exact .oscOffsetMeasure h
  | compensationUpdate => exact .compensationUpdate h
  | writeCommonTime => exact .writeCommonTime h
  | ppsEdge => exact .ppsEdge h
  | holdoverLimitReached => exact .holdoverLimitReached h
  | guardClockFallback => exact .guardClockFallback h
  | guardClockRestored => exact .guardClockRestored h
  | islandClockStopped => exact .islandClockStopped h
  | islandClockResumed => exact .islandClockResumed h
  | crossingTimeout => exact .crossingTimeout h
  | crossingFarReset => exact .crossingFarReset h
  | crossingDrained => exact .crossingDrained h
  | crossingRearm => exact .crossingRearm h
  | privilegedSignal => exact .privilegedSignal h
  | gantlineCrcError => exact .gantlineCrcError h
  | dispatchRound => exact .dispatchRound h
  | resourceWaitTimeout => exact .resourceWaitTimeout h
  | mctpInterimTimeout => exact .mctpInterimTimeout h
  | sessionTimeout => exact .sessionTimeout h
  | watchReport => exact .watchReport h
  | eventNotice => exact .eventNotice h
  | sqDoorbell => exact .sqDoorbell h
  | sqFetch => exact .sqFetch h
  | cqDoorbell => exact .cqDoorbell h
  | evqDoorbell => exact .evqDoorbell h
  | qpEnable => exact .qpEnable h
  | qpDisable => exact .qpDisable h
  | resetQueues => exact .resetQueues h
  | evqEnable => exact .evqEnable h
  | registerWrite => exact .registerWrite h
  | getProp => exact .getProp h
  | setProp => exact .setProp h
  | getSnapshot => exact .getSnapshot h
  | watch => exact .watch h
  | negotiate => exact .negotiate h
  | hello => exact .hello h
  | keepalive => exact .keepalive h
  | close => exact .close h
  | subscribe => exact .subscribe h
  | readEvents => exact .readEvents h
  | mctpPacket => exact .mctpPacket h
  | mctpSetEndpointId => exact .mctpSetEndpointId h
  | mctpGetEndpointId => exact .mctpGetEndpointId h
  | mctpGetVersionSupport => exact .mctpGetVersionSupport h
  | mctpGetMessageTypeSupport => exact .mctpGetMessageTypeSupport h
  | mctpGetVendorMessageSupport => exact .mctpGetVendorMessageSupport h
  | mctpSendRetry => exact .mctpSendRetry h
  | ethInit => exact .ethInit h
  | ethFinish => exact .ethFinish h
  | ethData => exact .ethData h
  | ethHandshakeExpiry => exact .ethHandshakeExpiry h
  | ethSessionExpiry => exact .ethSessionExpiry h
  | heartbeatSend => exact .heartbeatSend h
  | heartbeatReceive => exact .heartbeatReceive h
  | heartbeatTimeout => exact .heartbeatTimeout h
  | fenceRequestExpiry => exact .fenceRequestExpiry h
  | loneMizzenCut => exact .loneMizzenCut h
  | leaderClaim => exact .leaderClaim h
  | journalEntry => exact .journalEntry h
  | journalAck => exact .journalAck h
  | journalStall => exact .journalStall h
  | soloJournalWrite => exact .soloJournalWrite h
  | journalUncorrectable => exact .journalUncorrectable h
  | checkpoint => exact .checkpoint h
  | voterInputChange => exact .voterInputChange h
  | voteDisagree => exact .voteDisagree h
  | mirrorTakeover => exact .mirrorTakeover h
  | plannedMove => exact .plannedMove h
  | writeLeader => exact .writeLeader h
  | writeAdminState => exact .writeAdminState h
  | rejoinComplete => exact .rejoinComplete h
  | rejoinTimeout => exact .rejoinTimeout h
  | foreLossGraceExpiry => exact .foreLossGraceExpiry h
  | identity => exact .identity h
  | reefTable => exact .reefTable h
  | hint => exact .hint h
  | telemetry => exact .telemetry h
  | qstate => exact .qstate h
  | imageStatus => exact .imageStatus h
  | alert => exact .alert h
  | freqAck => exact .freqAck h
  | alertPinAssert => exact .alertPinAssert h
  | alertNolinkReef => exact .alertNolinkReef h
  | alertNolinkFurl => exact .alertNolinkFurl h
  | alertLinkHandover => exact .alertLinkHandover h
  | accelLossTimeout => exact .accelLossTimeout h
  | telemetrySilence => exact .telemetrySilence h
  | silentFurlDelayExpiry => exact .silentFurlDelayExpiry h
  | quiesceTimeout => exact .quiesceTimeout h
  | signalDetect => exact .signalDetect h
  | trainFlit => exact .trainFlit h
  | dataFlit => exact .dataFlit h
  | linkFlit => exact .linkFlit h
  | replayTimeout => exact .replayTimeout h
  | portStateTimeout => exact .portStateTimeout h
  | shroudGapTimeout => exact .shroudGapTimeout h
  | timeFlitSend => exact .timeFlitSend h
  | budgetResend => exact .budgetResend h
  | trayRailSample => exact .trayRailSample h
  | seqRunStart => exact .seqRunStart h
  | railEnableSlot => exact .railEnableSlot h
  | goodDeadlineExpiry => exact .goodDeadlineExpiry h
  | railDisableSlot => exact .railDisableSlot h
  | offDeadlineExpiry => exact .offDeadlineExpiry h
  | startWaitExpiry => exact .startWaitExpiry h
  | scopeDischarged => exact .scopeDischarged h
  | dischargeTimeout => exact .dischargeTimeout h
  | firstFaultForm => exact .firstFaultForm h
  | autoRestart => exact .autoRestart h
  | startSequence => exact .startSequence h
  | stopSequence => exact .stopSequence h
  | enableRail => exact .enableRail h
  | disableRail => exact .disableRail h
  | loadSequence => exact .loadSequence h
  | readFirstFault => exact .readFirstFault h
  | clearFirstFault => exact .clearFirstFault h
  | writeThresholds => exact .writeThresholds h
  | slotInstant => exact .slotInstant h
  | sheetUpstreamFrame => exact .sheetUpstreamFrame h
  | domainOcTripCheck => exact .domainOcTripCheck h
  | legReplan => exact .legReplan h
  | legWakeDone => exact .legWakeDone h
  | legDrainDone => exact .legDrainDone h
  | writeLegAdmin => exact .writeLegAdmin h
  | writeSetpoint => exact .writeSetpoint h
  | calRotation => exact .calRotation h
  | calCompareDone => exact .calCompareDone h
  | calResult => exact .calResult h
  | sheetTrainFrame => exact .sheetTrainFrame h
  | sideSlice => exact .sideSlice h
  | sliceReplayTimeout => exact .sliceReplayTimeout h
  | relayIdentity => exact .relayIdentity h
  | configAck => exact .configAck h
  | relayAlert => exact .relayAlert h
  | sheetPortTimeout => exact .sheetPortTimeout h
  | relayLossTimeout => exact .relayLossTimeout h
  | accelEpoch => exact .accelEpoch h
  | trayEpoch => exact .trayEpoch h
  | rackEpoch => exact .rackEpoch h
  | installationEpoch => exact .installationEpoch h
  | grantEffective => exact .grantEffective h
  | limitEffective => exact .limitEffective h
  | rackHelloSend => exact .rackHelloSend h
  | rackHello => exact .rackHello h
  | budgetReport => exact .budgetReport h
  | budgetGrant => exact .budgetGrant h
  | rackHoldExpiry => exact .rackHoldExpiry h
  | writeRackOther => exact .writeRackOther h
  | fastSenseSample => exact .fastSenseSample h
  | fastStage2Check => exact .fastStage2Check h
  | fastFurlExpiry => exact .fastFurlExpiry h
  | fastReleaseExpiry => exact .fastReleaseExpiry h
  | reefStepDown => exact .reefStepDown h
  | complianceCheck => exact .complianceCheck h
  | reefDurationExpiry => exact .reefDurationExpiry h
  | setBudget => exact .setBudget h
  | setWeight => exact .setWeight h
  | setMinGrant => exact .setMinGrant h
  | readGrants => exact .readGrants h
  | reef => exact .reef h
  | releaseReef => exact .releaseReef h
  | forecastStep => exact .forecastStep h
  | forecastPublish => exact .forecastPublish h
  | knownAnswerTest => exact .knownAnswerTest h
  | trainingSampleComplete => exact .trainingSampleComplete h
  | minibatchDone => exact .minibatchDone h
  | candidateEvaluate => exact .candidateEvaluate h
  | modelSwitchInstant => exact .modelSwitchInstant h
  | errorWindow => exact .errorWindow h
  | shelfWeightWrite => exact .shelfWeightWrite h
  | shelfRestore => exact .shelfRestore h
  | loadModel => exact .loadModel h
  | activateModel => exact .activateModel h
  | retireModel => exact .retireModel h
  | queryForecast => exact .queryForecast h
  | setTraining => exact .setTraining h
  | readModelStats => exact .readModelStats h
  | writeTrainTile => exact .writeTrainTile h
  | writeFcSvnFloor => exact .writeFcSvnFloor h
  | lockRound => exact .lockRound h
  | lockUp => exact .lockUp h
  | lockCommitSend => exact .lockCommitSend h
  | lockCommit => exact .lockCommit h
  | freqAckDeadline => exact .freqAckDeadline h
  | lockJoin => exact .lockJoin h
  | lockJoinAck => exact .lockJoinAck h
  | lockJoinTimeout => exact .lockJoinTimeout h
  | joinGroup => exact .joinGroup h
  | leaveGroup => exact .leaveGroup h
  | readGroup => exact .readGroup h
  | loadPhasePlan => exact .loadPhasePlan h
  | clearPhasePlan => exact .clearPhasePlan h
  | readPhasePlan => exact .readPhasePlan h
  | controllerSensorSample => exact .controllerSensorSample h
  | housekeepingSample => exact .housekeepingSample h
  | coolantTempSample => exact .coolantTempSample h
  | thermalCeilingUpdate => exact .thermalCeilingUpdate h
  | thermalReefStep => exact .thermalReefStep h
  | furlCutInstant => exact .furlCutInstant h
  | furl => exact .furl h
  | driveCurrentSample => exact .driveCurrentSample h
  | tachEdge => exact .tachEdge h
  | kickTimeExpiry => exact .kickTimeExpiry h
  | restTimeExpiry => exact .restTimeExpiry h
  | tachLossExpiry => exact .tachLossExpiry h
  | stallRetryExpiry => exact .stallRetryExpiry h
  | speedLoopUpdate => exact .speedLoopUpdate h
  | fanTableHandover => exact .fanTableHandover h
  | hostSilenceExpiry => exact .hostSilenceExpiry h
  | flowUpdate => exact .flowUpdate h
  | pressureSample => exact .pressureSample h
  | coolantUpdate => exact .coolantUpdate h
  | leakSample => exact .leakSample h
  | leakConfirmExpiry => exact .leakConfirmExpiry h
  | leakEscalateExpiry => exact .leakEscalateExpiry h
  | leakDryExpiry => exact .leakDryExpiry h
  | leakCutExpiry => exact .leakCutExpiry h
  | setFan => exact .setFan h
  | setPump => exact .setPump h
  | setValve => exact .setValve h
  | isolateLeak => exact .isolateLeak h
  | resetLeakZone => exact .resetLeakZone h
  | loadFanTable => exact .loadFanTable h
  | setWaterMode => exact .setWaterMode h
  | add => exact .add h
  | sub => exact .sub h
  | and => exact .and h
  | or => exact .or h
  | xor => exact .xor h
  | shl => exact .shl h
  | shr => exact .shr h
  | sar => exact .sar h
  | mul => exact .mul h
  | mulh => exact .mulh h
  | div => exact .div h
  | divu => exact .divu h
  | min => exact .min h
  | max => exact .max h
  | cmp => exact .cmp h
  | sadd => exact .sadd h
  | ssub => exact .ssub h
  | addi => exact .addi h
  | andi => exact .andi h
  | ori => exact .ori h
  | xori => exact .xori h
  | shifti => exact .shifti h
  | cmpi => exact .cmpi h
  | lui => exact .lui h
  | movi => exact .movi h
  | ldw => exact .ldw h
  | ldh => exact .ldh h
  | ldb => exact .ldb h
  | stw => exact .stw h
  | sth => exact .sth h
  | stb => exact .stb h
  | br => exact .br h
  | call => exact .call h
  | jr => exact .jr h
  | rdp => exact .rdp h
  | fcq => exact .fcq h
  | gcmd => exact .gcmd h
  | gpoll => exact .gpoll h
  | eoi => exact .eoi h
  | time => exact .time h
  | tset => exact .tset h
  | halt => exact .halt h
  | occurrencePost => exact .occurrencePost h
  | engineDispatch => exact .engineDispatch h
  | moderationExpiry => exact .moderationExpiry h
  | timerTick => exact .timerTick h
  | mailboxReply => exact .mailboxReply h
  | ecHoldLimitExpiry => exact .ecHoldLimitExpiry h
  | writeSrcConfig => exact .writeSrcConfig h
  | writeSrcStatus => exact .writeSrcStatus h
  | softPend => exact .softPend h
  | writeEcHold => exact .writeEcHold h
  | writeAutostart => exact .writeAutostart h
  | loadProgram => exact .loadProgram h
  | startProgram => exact .startProgram h
  | stopProgram => exact .stopProgram h
  | readEngine => exact .readEngine h
  | raiseEvent => exact .raiseEvent h
  | linkIdentity => exact .linkIdentity h
  | linkIdentityAck => exact .linkIdentityAck h
  | treeAdvertSend => exact .treeAdvertSend h
  | treeAdvert => exact .treeAdvert h
  | advertStale => exact .advertStale h
  | ratlineMessageRoute => exact .ratlineMessageRoute h
  | vc1CreditTimeout => exact .vc1CreditTimeout h
  | ratlineTimeSend => exact .ratlineTimeSend h
  | ratlineTimeFlit => exact .ratlineTimeFlit h
  | opStart => exact .opStart h
  | opDown => exact .opDown h
  | opUp => exact .opUp h
  | opWaitClose => exact .opWaitClose h
  | remoteRequest => exact .remoteRequest h
  | remoteReply => exact .remoteReply h
  | remoteTimeoutExpiry => exact .remoteTimeoutExpiry h
  | snapData => exact .snapData h
  | snapshotCollectTimeout => exact .snapshotCollectTimeout h
  | exportData => exact .exportData h
  | exportAck => exact .exportAck h
  | exportEnd => exact .exportEnd h
  | barrier => exact .barrier h
  | reduce => exact .reduce h
  | broadcast => exact .broadcast h
  | snapshotGlobal => exact .snapshotGlobal h
  | resetGlobal => exact .resetGlobal h
  | writePortAdmin => exact .writePortAdmin h
  | busGrant => exact .busGrant h
  | queueWaitExpiry => exact .queueWaitExpiry h
  | twoWireTransactionEnd => exact .twoWireTransactionEnd h
  | twoWireTimeout => exact .twoWireTimeout h
  | busIllegalCond => exact .busIllegalCond h
  | targetIllegalCond => exact .targetIllegalCond h
  | busRecovery => exact .busRecovery h
  | sclStuck => exact .sclStuck h
  | failedPortRetry => exact .failedPortRetry h
  | windowWrite => exact .windowWrite h
  | windowRead => exact .windowRead h
  | mbxSubmit => exact .mbxSubmit h
  | mbxFree => exact .mbxFree h
  | busTransfer => exact .busTransfer h
  | busRecover => exact .busRecover h
  | configureBus => exact .configureBus h
  | pmbusRead => exact .pmbusRead h
  | pmbusWrite => exact .pmbusWrite h
  | sramScrub => exact .sramScrub h
  | patrolScrub => exact .patrolScrub h
  | memoryUncorrectable => exact .memoryUncorrectable h
  | stackLost => exact .stackLost h
  | recorderFreezeInstant => exact .recorderFreezeInstant h
  | autoReleaseExpiry => exact .autoReleaseExpiry h
  | stippleFrame => exact .stippleFrame h
  | writeStippleInterval => exact .writeStippleInterval h
  | exportComplete => exact .exportComplete h
  | triggerRecorder => exact .triggerRecorder h
  | freezeRecorder => exact .freezeRecorder h
  | releaseRecorder => exact .releaseRecorder h
  | exportRecorder => exact .exportRecorder h
  | readStipple => exact .readStipple h
  | keySlotProgram => exact .keySlotProgram h
  | attest => exact .attest h
  | revokeKey => exact .revokeKey h
  | readKeys => exact .readKeys h
  | openStage => exact .openStage h
  | writeStage => exact .writeStage h
  | verifyStage => exact .verifyStage h
  | planUpdate => exact .planUpdate h
  | etch => exact .etch h
  | activate => exact .activate h
  | stepTimeoutExpiry => exact .stepTimeoutExpiry h
  | confirm => exact .confirm h
  | autoConfirmExpiry => exact .autoConfirmExpiry h
  | readPlates => exact .readPlates h
  | inject => exact .inject h
  | injectionFire => exact .injectionFire h
  | injectionHoldEnd => exact .injectionHoldEnd h
  | armLimitExpiry => exact .armLimitExpiry h
  | setMaintenance => exact .setMaintenance h
  | maintenanceExpiry => exact .maintenanceExpiry h
  | selftest => exact .selftest h
  | selftestComplete => exact .selftestComplete h
  | calibrate => exact .calibrate h
  | calibrationPeriod => exact .calibrationPeriod h
  | calibrateComplete => exact .calibrateComplete h
  | logRecordWrite => exact .logRecordWrite h
  | writeLogCursor => exact .writeLogCursor h
  | ppsEdgeMissing => exact .ppsEdgeMissing h
  | alertPinRelease => exact .alertPinRelease h
  | tripResetRelease => exact .tripResetRelease h
  | invalidSyncHeaders => exact .invalidSyncHeaders h
  | stageVerifyDone => exact .stageVerifyDone h
  | modelVerifyDone => exact .modelVerifyDone h
  | programVerifyDone => exact .programVerifyDone h
  | foreignStartStop => exact .foreignStartStop h
  | busIdleTime => exact .busIdleTime h
  -- RECALL, which a case cannot name: Mathlib has a command of that name.
  | _ => exact .recall h

end

/-! ### The step -/

theorem KeptOut.step (s : State) : KeptOut { s with pending := s.pending.tail } (step s) := by
  unfold Machine.step
  split
  · rename_i e
    refine .next ⟨?_, id⟩
    rw [e]
    rfl
  · rename_i e
    rw [e]
    exact KeptOut.exec (.refl _)

/-- What a step that goes on leaves is kept from the state without the front of its queue. -/
theorem Kept.of_step {s t : State} (h : step s = .next t) : Kept { s with pending := s.pending.tail } t := by
  obtain ⟨u, hu, kept⟩ := KeptOut.step s
  obtain rfl : u = t := by simpa [hu] using h
  exact kept

/-! ### The obligations -/

/-- Settles O1: the step is defined by the front of the queue. -/
theorem stepRunsFrontCommand : Obligations.StepRunsFrontCommand := fun _ _ _ => rfl

/-- Settles O2 (log entry 1). -/
theorem emptyQueueIdles : Obligations.EmptyQueueIdles := by
  intro s empty
  unfold step
  rw [empty]

/-- Settles O3: no operation of the model touches the queue. -/
theorem queueIsFifo : Obligations.QueueIsFifo := fun _ _ h => (Kept.of_step h).pending

/-- Settles O4: every command answers a next state. -/
theorem noCommandStops : Obligations.NoCommandStops := by
  intro s t _
  obtain ⟨u, hu, -⟩ := KeptOut.step t
  exact ⟨u, hu⟩

/-- Settles O5: the reset state's tables are empty. -/
theorem resetIsEmpty : Obligations.ResetIsEmpty := by
  refine ⟨fun p i => ?_, fun x i => ?_, fun x i => ?_, rfl, rfl, rfl, rfl, rfl, rfl, rfl⟩
  all_goals rfl

/-- Settles O6. -/
theorem resetIsCanonical : Obligations.ResetIsCanonical := State.canonical_of_empty rfl rfl rfl rfl

/-- Settles O7: a table of rows stays in canonical form when one key of one row is written. -/
theorem canonicalKept : Obligations.CanonicalKept := fun _ _ c h => (Kept.of_step h).canonical c

end Sys2Proof.Machine
end

section
/-! What a request that only reads leaves alone (O59): the plant, what is stored, and every property but the two that count and acknowledge
replies. One lemma per operation such a request runs. -/

namespace Sys2Proof.Machine

/-! ### The relation -/

/-- `t` has the plant and the stores of `r`, every property of it but BUSY_REPLIES and ACK_CSN, no completion that waits for its commit,
and owes no reply that Ratline carries or that host memory refuses. -/
structure Untouched (r t : State) : Prop where
  plant : r.samePlant t
  props : ∀ (p : P) (i : Nat), p ≠ .busyReplies → p ≠ .ackCsn → t.get p i = r.get p i
  quiet : t.endings = [] ∧ ∀ y ∈ t.outst, y.dest.cls ≠ .ratline ∧ y.noWrite = false

/-- What a read's effect answers: an outcome without more to come, in a state that is untouched. -/
def Untouched.Answers (r : State) (x : State × Res) : Prop := Untouched r x.1 ∧ ∃ st l, x.2 = .done st l

section
variable {r s : State}

theorem Untouched.refl (endings : s.endings = []) (outst : ∀ y ∈ s.outst, y.dest.cls ≠ .ratline ∧ y.noWrite = false) : Untouched s s := by
  refine ⟨?_, fun _ _ _ _ => rfl, endings, outst⟩
  unfold State.samePlant
  simp only [and_self]

/-- The fields that `Untouched` does not speak of. -/
theorem Untouched.frame (h : Untouched r s)
    {pending vars timers codewords now draws lastCsn outbox raised sessions endpoints waiting served orphans handovers safetyAdmits
    safetyLimited unapplied cmdCsn applying disagreed resWaits journal log powerWrites links held alertHolds hints ratPorts auxHistory
    trayDemands fast rowHits ueHits windows relayDone ethShakes ethSessions lockSum lockHeard coming runningPlan phases srcs mail globalOps
    opResults snapBufs remoteOuts remoteIns opsPassed paces oldLimits} :
    Untouched r
      { now, pending, member := s.member, draws, regs := s.regs, vars, timers, lastCsn, outbox, raised, sessions, endpoints, waiting,
        served, outst := s.outst, orphans, handovers, running := s.running, safetyAdmits, safetyLimited, unapplied, endings := s.endings,
        cmdCsn, applying, disagreed, resWaits, holds := s.holds, journal, log, td := s.td, powerWrites, norWrites := s.norWrites,
        tables := s.tables, rails := s.rails, domains := s.domains, legs := s.legs, relays := s.relays, links, held, alertHolds, hints,
        ratPorts, hearings := s.hearings, nodes := s.nodes, rackMembers := s.rackMembers, racks := s.racks, pIn := s.pIn, auxHistory,
        trayDemands, fast, telemetry := s.telemetry, models := s.models, fcDoms := s.fcDoms, switches := s.switches, shelf := s.shelf,
        nandWrites := s.nandWrites, nor := s.nor, stage := s.stage, descStore := s.descStore, etch := s.etch, activation := s.activation,
        roll := s.roll, revoking := s.revoking, wakeRec := s.wakeRec, points := s.points, tests := s.tests, recorder := s.recorder,
        stipple := s.stipple, exports := s.exports, rowHits, ueHits, codewords, poison := s.poison, buses := s.buses, windows, relayDone,
        ethShakes, ethSessions, moves := s.moves, lockMembers := s.lockMembers, lockGroups := s.lockGroups, lockTable := s.lockTable,
        lockCmds := s.lockCmds, lockSum, lockHeard, plans := s.plans, coming, runningPlan, phases, engines := s.engines, srcs, mail,
        progShelf := s.progShelf, globalOps, opResults, snapBufs, remoteOuts, remoteIns, opsPassed, paces, oldLimits, therms := s.therms,
        drives := s.drives, zones := s.zones, branches := s.branches, runs := s.runs, offRuns := s.offRuns, starts := s.starts,
        stops := s.stops, furls := s.furls, furlCmds := s.furlCmds, failures := s.failures, restarts := s.restarts } :=
  ⟨h.plant, h.props, h.quiet⟩

theorem Untouched.outst (h : Untouched r s) {l : List Outst} (hl : ∀ y ∈ l, y.dest.cls ≠ .ratline ∧ y.noWrite = false) :
    Untouched r { s with outst := l } :=
  ⟨h.plant, h.props, h.quiet.1, hl⟩

/-- Entries of the outstanding requests may change, but not where they are answered. -/
theorem Untouched.outst_map (h : Untouched r s) {f : Outst → Outst} (hf : ∀ y, (f y).dest = y.dest ∧ (f y).noWrite = y.noWrite) :
    Untouched r { s with outst := s.outst.map f } := by
  refine h.outst fun y hy => ?_
  obtain ⟨z, hz, rfl⟩ := List.mem_map.1 hy
  rw [(hf z).1, (hf z).2]
  exact h.quiet.2 z hz

theorem Untouched.busyReplies (h : Untouched r s) {i : Nat} : Untouched r (s.count .busyReplies i) :=
  ⟨h.plant, fun p j hp hq => by rw [← h.props p j hp hq, State.get_count, if_neg fun e => hp e.1.symm], h.quiet⟩

/-! ### Arrival -/

theorem Untouched.tick (h : Untouched r s) {t} : Untouched r (s.tick t) := h.frame

theorem Untouched.setV (h : Untouched r s) {x i v} : Untouched r (s.setV x i v) := h.frame

theorem Untouched.modSession (h : Untouched r s) {id f} : Untouched r (s.modSession id f) := h.frame

theorem Untouched.modEndpoint (h : Untouched r s) {ep f} : Untouched r (s.modEndpoint ep f) := h.frame

theorem Untouched.send (h : Untouched r s) {m} : Untouched r (s.send m) := h.frame

theorem Untouched.feedSession (h : Untouched r s) {b} : Untouched r (s.feedSession b) := by
  unfold State.feedSession
  split
  · exact h.frame
  · exact h

theorem Untouched.enrol (h : Untouched r s) {a o code x} (dest : o.binding.cls ≠ .ratline) (write : a.noWrite = false) :
    Untouched r (s.enrol a o code x) := by
  unfold State.enrol
  have enrolled (e : Outst) (he : e.dest.cls ≠ .ratline) (hw : e.noWrite = false) : Untouched r { s with outst := s.outst ++ [e] } := by
    refine h.outst fun y hy => ?_
    rcases List.mem_append.1 hy with hy | hy
    · exact h.quiet.2 y hy
    · rw [List.mem_singleton.1 hy]
      exact ⟨he, hw⟩
  dsimp only
  split
  · exact enrolled _ (by exact dest) write
  · exact (enrolled _ (by exact dest) write).setV.modSession

theorem Untouched.noteDispatch (h : Untouched r s) {o} : Untouched r (s.noteDispatch o) := by
  have noted : Untouched r { s with outst := s.outst.map fun x =>
      if x.origin = o ∧ x.reply = none then { x with dueMctp := some (s.now + 80 * ms) } else x } :=
    h.outst_map fun y => by split <;> exact ⟨rfl, rfl⟩
  unfold State.noteDispatch
  split
  · exact noted
  · exact noted
  · exact h

/-! ### Outcomes -/

theorem Untouched.signal (h : Untouched r s) {ep v} : Untouched r (s.signal ep v) := by
  unfold State.signal
  split
  · exact h
  · split
    · exact h.modEndpoint
    · exact h.send

theorem Untouched.resetDone (h : Untouched r s) {ep} : Untouched r (s.resetDone ep) := by
  unfold State.resetDone
  split
  · exact h.modEndpoint
  · exact h

theorem Untouched.completeRing (h : Untouched r s) {ep o x q} : Untouched r (s.completeRing ep o x q) := by
  have sent : Untouched r (s.when (!q) fun s => s.send (.replyBuffer ep o.origin.queue o.slot x
      (decide (o.replySize < 36 + (recordLen x.results + 3) / 4 * 4)))) := by
    unfold State.when
    split
    · exact h.send
    · exact h
  exact sent.send.signal.modEndpoint.resetDone

/-- An outcome that neither Ratline carries nor host memory refuses is reported. -/
theorem Untouched.report (h : Untouched r s) {o x} (dest : o.dest.cls ≠ .ratline) (write : o.noWrite = false) :
    Untouched r (s.report o x) := by
  unfold State.report
  extract_lets pend x' quiet s1
  have h1 : Untouched r s1 := by
    unfold s1 State.when
    split
    · exact h.busyReplies
    · exact h
  clear_value s1
  split
  · rw [write]
    exact h1.completeRing
  · split
    · exact h1.frame
    · exact h1.send
  · exact h1.send
  · exact h1
  · split
    · exact h1
    · exact h1.frame
  · rename_i e
    rw [e] at dest
    exact absurd rfl dest
  · split
    · exact h1
    · exact h1.send.frame.send

theorem State.nextReport_mem {s : State} {l : List Outst} {held : List (Binding × Nat)} {o : Outst} {x : Reply}
    (h : s.nextReport l held = some (o, x)) : o ∈ l := by
  induction l generalizing held with
  | nil => cases h
  | cons y l ih =>
    unfold State.nextReport at h
    split at h
    · exact .tail _ (ih h)
    · split at h
      · split at h
        · cases h
          exact .head _
        · exact .tail _ (ih h)
      · exact .tail _ (ih h)

theorem Untouched.flushN {n : Nat} (h : Untouched r s) : Untouched r (s.flushN n) := by
  induction n generalizing s with
  | zero => exact h
  | succ n ih =>
    unfold State.flushN
    split
    · exact h
    · rename_i o x e
      obtain ⟨dest, write⟩ := h.quiet.2 o (State.nextReport_mem e)
      refine ih (Untouched.report ?_ dest write)
      exact Untouched.frame (h.outst fun y hy => h.quiet.2 y (List.mem_of_mem_erase hy))

theorem Untouched.flush (h : Untouched r s) : Untouched r s.flush := h.flushN

theorem Untouched.noteRecent (h : Untouched r s) {o phase st csn} : Untouched r (s.noteRecent o phase st csn) := h.modSession

theorem Untouched.fill (h : Untouched r s) {o st l csn final} : Untouched r (s.fill o st l csn final) :=
  Untouched.frame (h.outst_map fun y => by split <;> exact ⟨rfl, rfl⟩)

theorem Untouched.answer (h : Untouched r s) {o st l csn final} : Untouched r (s.answer o st l csn final) :=
  h.fill.noteRecent.flush

theorem Untouched.recommit (h : Untouched r s) : Untouched r s.recommit := by
  have up : Untouched r s.commitUp := h.frame
  unfold State.recommit State.endDue
  rw [up.quiet.1]
  exact up.flush

/-- A request that changes nothing is concluded by its answer. -/
theorem Untouched.conclude {u : State} {o : Origin} {x : State × Res} (h : Untouched.Answers r x) (reads : o.op.info.changes = false) :
    Untouched r (x.1.conclude u o x.2) := by
  obtain ⟨h, st, l, e⟩ := h
  unfold State.conclude State.outcome
  rw [reads, e]
  exact h.answer.recommit

/-! ### What a read draws and rounds -/

theorem Untouched.draw (h : Untouched r s) : Untouched r s.draw.2 := h.frame

theorem Untouched.draws_ (h : Untouched r s) {n} : Untouched r (s.draws_ n).2 := h.frame

theorem Untouched.roundDiv (h : Untouched r s) {num den} : Untouched r (s.roundDiv num den).2 := by
  unfold State.roundDiv
  split
  · exact h.draw
  · split
    · exact h
    · exact h.draw

theorem Untouched.whole (h : Untouched r s) {q} : Untouched r (s.whole q).2 := h.roundDiv

theorem Untouched.wholes {l : List Rat} (h : Untouched r s) : Untouched r (s.wholes l).2 := by
  induction l generalizing s with
  | nil => exact h
  | cons q l ih => exact ih h.whole

theorem Untouched.agreed (h : Untouched r s) {l d} : Untouched r (s.agreed l d).2 := by
  unfold State.agreed
  split
  · exact h
  · split
    · exact h
    · exact h.draw

theorem Untouched.domainForecast (h : Untouched r s) {d} : Untouched r (s.domainForecast d).2 := h.whole

theorem Untouched.accelForecast (h : Untouched r s) {a} : Untouched r (s.accelForecast a).2 := by
  unfold State.accelForecast
  dsimp only
  exact h.agreed.agreed.wholes.whole

theorem Untouched.grantRecord (h : Untouched r s) {n} : Untouched r (s.grantRecord n).2 := h.whole

theorem Untouched.evidence (h : Untouched r s) {t n} : Untouched r (s.evidence t n).2 := by
  unfold State.evidence
  have drawn {c : Prop} [Decidable c] {x : Int} : Untouched r (if c then (x, s.draw.2) else s.draw.2.draw).2 := by
    split
    · exact h.draw
    · exact h.draw.draw
  exact drawn

/-- A fold that carries a state along with what it gathers. -/
theorem Untouched.foldl {α β : Type} {l : List α} {x : β × State} {f : β × State → α → β × State} (h : Untouched r x.2)
    (step : ∀ x y, Untouched r x.2 → Untouched r (f x y).2) : Untouched r (l.foldl f x).2 := by
  induction l generalizing x with
  | nil => exact h
  | cons y l ih => exact ih (step x y h)

theorem Untouched.planResults (h : Untouched r s) {x} : Untouched r (s.planResults x).2 := by
  unfold State.planResults
  extract_lets version row
  have versioned {s} {id} (h : Untouched r s) : Untouched r (version s id).2 := by
    unfold version
    split
    · exact h
    · exact h.draw
  refine h.foldl fun p c h => ?_
  unfold row
  split
  · exact h
  · exact versioned (versioned h)

/-! ### The reads' effects -/

/-- An answer that leaves the state alone. -/
theorem Untouched.done (h : Untouched r s) {st l} : Untouched.Answers r (s, .done st l) := ⟨h, st, l, rfl⟩

theorem Untouched.Answers.ite {c : Prop} [Decidable c] {x y : State × Res} (h : Untouched.Answers r x) (k : Untouched.Answers r y) :
    Untouched.Answers r (if c then x else y) := by
  split
  · exact h
  · exact k

theorem Untouched.doGetProp (h : Untouched r s) {a} : Untouched.Answers r (doGetProp a s) := by
  unfold Machine.doGetProp
  split
  · exact h.done
  · exact h.done

theorem Untouched.doGetSnapshot (h : Untouched r s) {a items} : Untouched.Answers r (doGetSnapshot a items s) :=
  .ite h.done <| .ite h.done h.tick.done

theorem Untouched.doRecall (h : Untouched r s) {a k m n} : Untouched.Answers r (doRecall a k m n s) := by
  unfold Machine.doRecall
  split
  · exact h.done
  · split
    · exact h.done
    · exact h.done

theorem Untouched.doReadFirstFault (h : Untouched r s) {m n} : Untouched.Answers r (doReadFirstFault m n s) := .ite h.done h.done

theorem Untouched.doReadGrants (h : Untouched r s) {a} : Untouched.Answers r (doReadGrants a s) := by
  refine .ite h.done (Untouched.done (Untouched.foldl (x := ([], (s.grantRecord (objIdx a.hdr.object)).2)) h.grantRecord fun x k h => ?_))
  cases k with
  | inl m => exact h.grantRecord
  | inr m => exact h.whole.draw

theorem Untouched.doQueryForecast (h : Untouched r s) {a} : Untouched.Answers r (doQueryForecast a s) :=
  .ite h.domainForecast.done <| .ite h.accelForecast.done h.done

theorem Untouched.doReadModelStats (h : Untouched r s) {a} : Untouched.Answers r (doReadModelStats a s) := .ite h.done <| .ite h.done h.done

theorem Untouched.doReadGroup (h : Untouched r s) {a} : Untouched.Answers r (doReadGroup a s) := .ite h.done <| .ite h.done h.done

theorem Untouched.doReadPhasePlan (h : Untouched r s) {a m n} : Untouched.Answers r (doReadPhasePlan a m n s) := .ite h.done h.done

theorem Untouched.doReadEngine (h : Untouched r s) {a} : Untouched.Answers r (doReadEngine a s) := .ite h.done <| .ite h.done h.done

theorem Untouched.doReadStipple (h : Untouched r s) {a k m n} : Untouched.Answers r (doReadStipple a k m n s) := by
  unfold Machine.doReadStipple
  refine .ite h.done ?_
  dsimp only
  split
  · exact h.done
  · exact h.done

theorem Untouched.doAttest (h : Untouched r s) {a k m n nonce} : Untouched.Answers r (doAttest a k m n nonce s) := by
  unfold Machine.doAttest
  refine .ite h.done <| .ite h.done ?_
  split
  · exact .ite h.done h.evidence.done
  · exact .ite h.done <| .ite h.done h.done
  · exact h.done

theorem Untouched.doReadKeys (h : Untouched r s) {a} : Untouched.Answers r (doReadKeys a s) := .ite h.done h.done

theorem Untouched.doPlanUpdate (h : Untouched r s) {a} : Untouched.Answers r (doPlanUpdate a s) :=
  .ite h.done <| .ite h.done h.planResults.done

theorem Untouched.doReadPlates (h : Untouched r s) {a} : Untouched.Answers r (doReadPlates a s) := by
  unfold Machine.doReadPlates
  refine .ite h.done ?_
  extract_lets row act head x
  have rows : Untouched r x.2 := Untouched.foldl (x := (head, s)) h fun _ _ h => h.draws_
  exact rows.done

/-! ### The request -/

theorem Untouched.when (h : Untouched r s) {c f} (k : Untouched r (f s)) : Untouched r (s.when c f) := by
  unfold State.when
  split
  · exact k
  · exact h

theorem Untouched.arrives {v : State} {a : Arrival} {b : Body} (h : Untouched s s) (arrives : s.arrives a b = some v) : Untouched s v := by
  unfold State.arrives at arrives
  dsimp only at arrives
  split at arrives
  · cases arrives
  · split at arrives
    · cases arrives
    · obtain rfl := Option.some.inj arrives
      exact h.tick.feedSession

theorem Untouched.reaches {v : State} {a : Arrival} {o : Origin} {b : Body} {eff : State → State × Res} (h : Untouched s s)
    (reaches : s.reaches a b eff = some (v, o)) (dest : a.binding.cls ≠ .ratline) (write : a.noWrite = false) : Untouched s v := by
  unfold State.reaches at reaches
  split at reaches
  · rename_i w op hw _
    dsimp only at reaches
    split at reaches
    · cases reaches
    · split at reaches
      · cases reaches
      · split at reaches
        · cases reaches
        · obtain ⟨rfl, rfl⟩ := Prod.mk.inj (Option.some.inj reaches)
          have enrolled := (h.arrives hw).enrol (o := w.newOrigin a op) (code := b.opcode) (x := none) dest write
          exact (Untouched.when enrolled enrolled.frame).noteDispatch
  · cases reaches

/-- A request that changes nothing opens in a state that is untouched, with an origin whose opcode changes nothing. -/
theorem Untouched.opens {u : State} {a : Arrival} {o : Origin} {b : Body} {eff : State → State × Res} (h : Untouched s s)
    (opens : s.opens a b eff = some (u, o)) (reads : b.op.map (fun x => x.info.changes) = some false) (dest : a.binding.cls ≠ .ratline)
    (write : a.noWrite = false) : Untouched s u ∧ o.op.info.changes = false := by
  unfold State.opens at opens
  split at opens
  · rename_i v o' reaches
    rw [State.reaches_op reaches] at reads
    have reads : o'.op.info.changes = false := by simpa using reads
    simp only [reads, Bool.false_eq_true, false_and, if_false, Option.some.injEq, Prod.mk.injEq] at opens
    obtain ⟨rfl, rfl⟩ := opens
    refine ⟨?_, reads⟩
    unfold State.entered
    rw [reads]
    exact Untouched.reaches h reaches dest write
  · cases opens

/-- A request that changes nothing, and whose effect only answers, leaves an untouched state. -/
theorem Untouched.request {s u : State} {a : Arrival} {o : Origin} {b : Body} (h : Untouched s s)
    (opens : s.opens a b (effectOf a b) = some (u, o)) (dest : a.binding.cls ≠ .ratline) (write : a.noWrite = false)
    (reads : b.op.map (fun x => x.info.changes) = some false)
    (answers : Untouched s u → Untouched.Answers s (effectOf a b u)) : Untouched s (s.request a b (effectOf a b)) := by
  obtain ⟨hu, ho⟩ := h.opens opens reads dest write
  rw [State.request_of_read _ opens reads]
  exact Untouched.conclude (answers hu) ho

end

/-- Settles O59: of what a read runs, only its answer leaves a trace, in BUSY_REPLIES and ACK_CSN. -/
theorem readsChangeNothing : Obligations.ReadsChangeNothing := by
  intro s u x a o b c items k m n nonce opens endings dest write outst mem next
  suffices kept : Untouched s x from ⟨kept.plant, kept.props⟩
  have request := Untouched.request (Untouched.refl endings outst) opens dest write
  have answered {y : State} (same : exec c s = .next y) (kept : Untouched s y) : Untouched s x := by
    rw [same] at next
    cases next
    exact kept
  simp only [List.mem_cons, Prod.mk.injEq, List.not_mem_nil, or_false] at mem
  obtain ⟨rfl, rfl⟩ | ⟨rfl, rfl⟩ | ⟨rfl, rfl⟩ | ⟨rfl, rfl⟩ | ⟨rfl, rfl⟩ | ⟨rfl, rfl⟩ | ⟨rfl, rfl⟩ | ⟨rfl, rfl⟩ | ⟨rfl, rfl⟩ | ⟨rfl, rfl⟩ |
    ⟨rfl, rfl⟩ | ⟨rfl, rfl⟩ | ⟨rfl, rfl⟩ | ⟨rfl, rfl⟩ | ⟨rfl, rfl⟩ := mem
  · exact answered rfl (request rfl fun h => h.doGetProp)
  · exact answered rfl (request rfl fun h => h.doGetSnapshot)
  · exact answered rfl (request rfl fun h => h.doRecall)
  · exact answered rfl (request rfl fun h => h.doReadFirstFault)
  · exact answered rfl (request rfl fun h => h.doReadGrants)
  · exact answered rfl (request rfl fun h => h.doQueryForecast)
  · exact answered rfl (request rfl fun h => h.doReadModelStats)
  · exact answered rfl (request rfl fun h => h.doReadGroup)
  · exact answered rfl (request rfl fun h => h.doReadPhasePlan)
  · exact answered rfl (request rfl fun h => h.doReadEngine)
  · exact answered rfl (request rfl fun h => h.doReadStipple)
  · exact answered rfl (request rfl fun h => h.doAttest)
  · exact answered rfl (request rfl fun h => h.doReadKeys)
  · exact answered rfl (request rfl fun h => h.doPlanUpdate)
  · exact answered rfl (request rfl fun h => h.doReadPlates)

end Sys2Proof.Machine
end

section
/-! Rows whose conditions hold: what is left of a row's answer when its branches are decided, and what the stores of the controller keep
through a loss of power. -/

namespace Sys2Proof.Machine

/-! ### Branches -/

theorem exec_of_settled_guard {c : Instr} {s u v : State} {guard : Prop} [Decidable guard]
    (row : exec c s = settled (.next (if guard then v else u))) (holds : guard) : exec c s = settled (.next v) := by
  rw [row, if_pos holds]

/-- A row that does nothing where what it needs is not up. -/
theorem exec_of_up {c : Instr} {s u v : State} {up : Bool} (row : exec c s = .next (if !up then u else v)) (isUp : up = true) :
    exec c s = .next v := by
  rw [row, isUp]
  rfl

/-! ### Flags -/

theorem State.flag_eq_of_var {s t : State} {x : V} {i : Nat} (h : s.var x i = t.var x i) : s.flag x i = t.flag x i := by
  unfold State.flag
  rw [h]

theorem State.inService_eq_of_var {s t : State} {x : Nat} (h : s.var .tilePhase x = t.var .tilePhase x) : s.inService x = t.inService x := by
  unfold State.inService
  rw [h]

/-! ### Loops that write registers -/

theorem State.foldl_setV_frame {l : List (V × Nat)} {f : V × Nat → Int} (z : State) :
    ∃ vars, l.foldl (fun (z : State) k => z.setV k.1 k.2 (f k)) z = { z with vars := vars } := by
  induction l generalizing z with
  | nil => exact ⟨_, rfl⟩
  | cons k l ih =>
    obtain ⟨vars, e⟩ := ih (z.setV k.1 k.2 (f k))
    exact ⟨vars, e⟩

theorem State.foldl_put_frame {l : List (P × Nat)} {f : P × Nat → Int} (z : State) :
    ∃ regs, l.foldl (fun (z : State) k => z.put k.1 k.2 (f k)) z = { z with regs := regs } := by
  induction l generalizing z with
  | nil => exact ⟨_, rfl⟩
  | cons k l ih =>
    obtain ⟨regs, e⟩ := ih (z.put k.1 k.2 (f k))
    exact ⟨regs, e⟩

theorem State.foldl_put_get {l : List (P × Nat)} {f : P × Nat → Int} {p : P} (other : ∀ k ∈ l, k.1 ≠ p) (z : State) (i : Nat) :
    (l.foldl (fun (z : State) k => z.put k.1 k.2 (f k)) z).get p i = z.get p i := by
  induction l generalizing z with
  | nil => rfl
  | cons k l ih =>
    refine (ih (fun y hy => other y (.tail _ hy)) _).trans ?_
    rw [State.get_put, if_neg fun e => other k (.head _) e.1]

/-- A loop whose step reads the instant and keeps it reads the instant it began with. -/
theorem State.each_of_now {α : Type} {f : Ns → State → α → State} (keeps : ∀ n z x, (f n z x).now = z.now) (s : State) (l : List α) :
    s.each l (fun z x => f z.now z x) = s.each l (f s.now) := by
  induction l generalizing s with
  | nil => rfl
  | cons x l ih =>
    refine (ih (f s.now s x)).trans ?_
    rw [keeps]
    rfl

/-! ### Rounding -/

/-- Rounding a value takes at most a draw. -/
theorem State.whole_frame (s : State) (q : Rat) : ∃ n, (s.whole q).2 = { s with draws := n } := by
  unfold State.whole State.roundDiv
  split
  · exact ⟨_, rfl⟩
  · split <;> exact ⟨_, rfl⟩

theorem State.now_whole (s : State) (q : Rat) : (s.whole q).2.now = s.now := by
  obtain ⟨n, e⟩ := s.whole_frame q
  rw [e]

theorem State.get_whole (s : State) (q : Rat) (p : P) (i : Nat) : (s.whole q).2.get p i = s.get p i := by
  obtain ⟨n, e⟩ := s.whole_frame q
  rw [e]
  rfl

/-! ### The loss of power (Table 1.8) -/

/-- Table 1.8: but for registers, what a loss of power leaves of the state. -/
theorem State.powerOff_frame (s : State) : ∃ regs vars, s.powerOff =
    { now := s.now, pending := s.pending, member := s.member, draws := s.draws, outbox := s.outbox, nor := s.nor, shelf := s.shelf,
      progShelf := s.progShelf, stage := { parts := s.stage.parts }, descStore := s.descStore,
      log := { held := s.log.held, first := s.log.first, lost := s.log.lost + s.log.waiting.length }, regs := regs, vars := vars } := by
  unfold State.powerOff
  extract_lets z z1 z2
  obtain ⟨vars, e1⟩ : ∃ vars, z1 = { z with vars := vars } := State.foldl_setV_frame z
  obtain ⟨regs, e2⟩ : ∃ regs, z2 = { z1 with regs := regs } := State.foldl_put_frame z1
  rw [e2, e1]
  split
  · exact ⟨_, vars, rfl⟩
  · exact ⟨regs, vars, rfl⟩

theorem State.powerOff_powerState (s : State) : s.powerOff.get .powerState = psOff := by
  unfold State.powerOff
  extract_lets z z1 z2
  obtain ⟨vars, e1⟩ : ∃ vars, z1 = { z with vars := vars } := State.foldl_setV_frame z
  have off : z2.get .powerState = psOff := by
    unfold z2
    rw [State.foldl_put_get (by decide), e1]
    rfl
  split
  · rw [State.get_put, if_neg (by decide), off]
  · exact off

/-! ### Requests and writes that reach their effect -/

/-- A change that is carried out but whose entry is not committed yet waits with it. -/
theorem State.request_of_waits {s v : State} {a : Arrival} {b : Body} {o : Origin} (eff : State → State × Res)
    (reached : s.reaches a b eff = some (v, o)) (changes : o.op.info.changes = true) (ordered : o.safety = false)
    (commits : (eff (v.entered o b)).2.commits = true) (waits : (v.entered o b).allCommitted = false) :
    s.request a b eff =
      { v.entered o b with unapplied := (v.entered o b).unapplied ++ [⟨(v.entered o b).journal.assigned, a, b, o⟩] } := by
  rw [State.request_of_reaches eff reached, if_neg (by simp [commits]), if_pos (by simp [changes, ordered, waits])]

theorem State.write_of_waits {s v : State} {a : Arrival} {p : P} {x : Int} {o : Origin} (eff : Nat → State → State × Res)
    (reached : s.reachesWrite a p x eff = some (v, o)) (ordered : o.safety = false)
    (commits : (eff (writeIndex a p) (v.entered o (.setProp p.desc.bytes x))).2.commits = true)
    (waits : (v.entered o (.setProp p.desc.bytes x)).allCommitted = false) :
    s.write a p x eff = { v.entered o (.setProp p.desc.bytes x) with
      unapplied := (v.entered o (.setProp p.desc.bytes x)).unapplied ++
        [⟨(v.entered o (.setProp p.desc.bytes x)).journal.assigned, named a p.desc.code, .setProp p.desc.bytes x, o⟩] } := by
  unfold State.reachesWrite at reached
  split at reached
  · rename_i accepted
    have op : Op.setProp = o.op := Option.some.inj (State.reaches_op reached)
    rw [← State.request_of_waits _ reached (by rw [← op]; rfl) ordered commits waits]
    unfold State.write State.writeAt
    simp only [accepted]
    rfl
  · cases reached

/-- A write of an accepted value that its property's effect refuses on arrival. -/
theorem State.write_of_refused {s v : State} {a : Arrival} {p : P} {x : Int} {st : Status} (eff : Nat → State → State × Res)
    (accepted : writeStatus (named a p.desc.code) p p.desc.bytes x = .ok)
    (arrives : s.arrives (named a p.desc.code) (.setProp p.desc.bytes x) = some v) (fault : (eff (writeIndex a p) v).2.fault = some st) :
    s.write a p x eff = v.refuse (named a p.desc.code) (.setProp p.desc.bytes x) st := by
  refine State.request_of_refused _ arrives ?_
  simp only [accepted]
  exact fault

/-- A write that opens has its effect, concluded. -/
theorem State.write_of_effect {s u v : State} {a : Arrival} {p : P} {x : Int} {o : Origin} {eff : Nat → State → State × Res} {r : Res}
    (opens : s.opensWrite a p x eff = some (u, o)) (effect : eff (writeIndex a p) u = (v, r)) (commits : r.commits = true) :
    s.write a p x eff = v.conclude u o r := by
  rw [State.write_of_opens eff opens (by simp [effect, commits]), effect]

/-- The row of a write that opens answers its effect, concluded. -/
theorem exec_of_write {c : Instr} {s u v : State} {a : Arrival} {p : P} {x : Int} {o : Origin} {eff : Nat → State → State × Res} {r : Res}
    (row : exec c s = .next (s.write a p x eff)) (opens : s.opensWrite a p x eff = some (u, o)) (effect : eff (writeIndex a p) u = (v, r))
    (commits : r.commits = true) : exec c s = .next (v.conclude u o r) := by
  rw [row, State.write_of_effect opens effect commits]

/-- A request that changes nothing in the plant is concluded with whatever it answers. -/
theorem State.request_of_query {s u : State} {a : Arrival} {b : Body} {o : Origin} {op : Op} (eff : State → State × Res)
    (opens : s.opens a b eff = some (u, o)) (named : b.op = some op) (reads : op.info.changes = false) :
    s.request a b eff = (eff u).1.conclude u o (eff u).2 := by
  refine State.request_of_opens eff opens (.inl ?_)
  unfold State.opens at opens
  cases reached : s.reaches a b eff with
  | none => simp [reached] at opens
  | some r =>
    obtain ⟨v, p⟩ := r
    simp only [reached] at opens
    split at opens
    · cases opens
    · cases opens
      have op_ := State.reaches_op reached
      rw [named] at op_
      cases op_
      exact reads

end Sys2Proof.Machine
end

section
namespace Sys2Proof.Machine

/-- The records that are flushed before the power goes: the NAND holds them. -/
def State.flushLog (s : State) (n : Nat) : State :=
  { s with log := { s.log with waiting := s.log.waiting.drop n, held := s.log.held ++ s.log.waiting.take n } }

theorem exec_pgStbyFall {s : State} {t : Ns} (flushed : Nat) (fore : (s.tick t).var .tilePhase 0 ≠ 0) :
    exec (.pgStbyFall t flushed) s = .next (((((s.tick t).formNow.standbyLost).finishFaults).flushLog flushed).powerOff.setV .heldReset 0 0) :=
  congrArg Host.Outcome.next (if_neg fun off => fore off.2.1)

/-- Settles O8: each row's guard holds; a loss of power leaves the stores and the reset values of everything else. -/
theorem standbyPowerRowsComplete : Obligations.StandbyPowerRowsComplete := by
  refine ⟨?rise, ?riseLatched, ?fall, ?ready⟩
  case rise =>
    intro s x f n off fore held
    exact exec_of_guard rfl ⟨off, fore, held⟩
  case riseLatched =>
    intro s x off fore held
    exact exec_of_guard rfl ⟨off, fore, held⟩
  case fall =>
    intro s t flushed fore
    refine ⟨_, _, rfl, exec_pgStbyFall flushed fore, ?_⟩
    generalize (((s.tick t).formNow.standbyLost).finishFaults) = v
    rw [State.get_setV, State.powerOff_powerState, State.var_setV, if_pos ⟨rfl, rfl⟩]
    obtain ⟨regs, vars, e⟩ := State.powerOff_frame (v.flushLog flushed)
    rw [e]
    exact ⟨rfl, rfl, rfl, rfl, rfl, rfl, rfl, rfl, rfl, rfl⟩
  case ready =>
    rintro s u t rfl fore joined power
    exact exec_of_guard rfl ⟨fore, by simp [joined], power⟩

end Sys2Proof.Machine
end

section
/-! The rows of the power states: what a write of POWER_STATE does in each state, and what falling asleep leaves. -/

namespace Sys2Proof.Machine

/-! ### Writes of POWER_STATE (R37, R39) -/

theorem setPowerState_recovery {s : State} (o : Origin) (v : Int) (i : Nat) (recovery : s.get .powerState = psRecovery) :
    setPowerState o v i s = (s, .st .denied) := if_pos recovery

theorem setPowerState_running {s : State} (o : Origin) (i : Nat) (proven : s.get .powerState ≠ psRecovery) (described : s.td.isSome) :
    setPowerState o psRunning i s = s.powerWrite o psRunning := by
  unfold setPowerState
  have described : ¬ s.td.isNone := by simpa [Option.isSome_iff_ne_none] using described
  rw [if_neg proven, if_neg fun h => described h.2, if_neg fun h => absurd h.1 (by decide), if_neg fun h => absurd h.1 (by decide)]
  rfl

theorem setPowerState_standby {s : State} (o : Origin) (i : Nat) (proven : s.get .powerState ≠ psRecovery) :
    setPowerState o psStandby i s = ((s.setV .autoStart 0 0).setV .restartWanted 0 0).powerWrite o psStandby := by
  unfold setPowerState
  rw [if_neg proven, if_neg fun h => absurd h.1 (by decide), if_neg fun h => absurd h.1 (by decide), if_neg fun h => absurd h.1 (by decide)]
  rfl

/-- A write of the present state, with no transition in progress, changes nothing. -/
theorem State.powerWrite_present {s : State} (o : Origin) {v : Int} (present : v = s.get .powerState) (settled : s.var .goal < 0) :
    s.powerWrite o v = (s, .st .ok) := if_pos ⟨present, settled⟩

theorem State.powerWrite_leave {s : State} (o : Origin) {v : Int} (running : s.get .powerState = psRunning) (other : v ≠ psRunning)
    (settled : s.var .goal < 0) : s.powerWrite o v = s.leaveRunning o v := by
  unfold State.powerWrite
  rw [if_neg fun h => other (h.1.trans running), if_pos running, if_pos settled]

theorem State.powerWrite_enter {s : State} (o : Origin) (standby : s.get .powerState = psStandby) (settled : s.var .goal < 0) :
    s.powerWrite o psRunning = (s.setV .goalCause 0 0).takePower o psRunning psRunning := by
  unfold State.powerWrite
  have goal {v : Int} (h : 0 ≤ v) : s.var .goal ≠ v := by omega
  simp only [standby, if_neg (goal (v := psRunning) (by decide)), if_neg (goal (v := psDeepSleep) (by decide))]
  rfl

/-! ### Falling asleep (R772) -/

theorem State.foldl_vars_frame {l : List V} {f : V → Tab Int} (z : State) :
    ∃ vars, l.foldl (fun (z : State) v => { z with vars := z.vars.put {} v.ctorIdx (f v) }) z = { z with vars := vars } := by
  induction l generalizing z with
  | nil => exact ⟨_, rfl⟩
  | cons k l ih =>
    obtain ⟨vars, e⟩ := ih { z with vars := z.vars.put {} k.ctorIdx (f k) }
    exact ⟨vars, e⟩

/-- R772: nothing waits, runs or is held after the fall into DEEP_SLEEP, and the journal is empty. -/
theorem State.sleepLoss_leaves (s : State) : s.sleepLoss.get .powerState = psDeepSleep ∧ s.sleepLoss.td = none ∧
    s.sleepLoss.sessions = [] ∧ s.sleepLoss.waiting = [] ∧ s.sleepLoss.running = [] ∧ s.sleepLoss.journal = {} := by
  refine ⟨?_, ?_⟩
  · unfold State.sleepLoss
    rw [State.get_put, if_pos ⟨rfl, rfl⟩]
  · unfold State.sleepLoss
    extract_lets z1 z2 z3
    obtain ⟨regs, vars, e1⟩ := s.powerOff_frame
    obtain ⟨vars', e3⟩ : ∃ vars', z3 = { z2 with vars := vars' } := State.foldl_vars_frame z2
    show z3.td = none ∧ z3.sessions = [] ∧ z3.waiting = [] ∧ z3.running = [] ∧ z3.journal = {}
    rw [e3]
    show s.powerOff.td = none ∧ s.powerOff.sessions = [] ∧ s.powerOff.waiting = [] ∧ s.powerOff.running = [] ∧ s.powerOff.journal = {}
    rw [e1]
    exact ⟨rfl, rfl, rfl, rfl, rfl⟩

/-- Settles O9: each row's guard holds, and a write has the effect of its state. -/
theorem powerStateRowsComplete : Obligations.PowerStateRowsComplete := by
  refine ⟨?present, ?enter, ?waits, ?leave, ?recovery, ?running, ?mainGood, ?mainLost, ?mainFails, ?asleep, ?wake, ?abort⟩
  case present =>
    intro s u a o opens now settled described
    have effect := (setPowerState_running (s.originOf a .setProp) (writeIndex a .powerState) (by rw [now]; decide) described).trans
      (State.powerWrite_present _ now.symm settled)
    exact exec_of_write rfl opens effect rfl
  case enter =>
    intro s u a o opens now described settled
    have effect := (setPowerState_running (s.originOf a .setProp) (writeIndex a .powerState) (by rw [now]; decide) described).trans
      (State.powerWrite_enter _ now settled)
    exact exec_of_write rfl opens effect rfl
  case waits =>
    intro s v a o reached w ordered waits now described settled
    have effect := (setPowerState_running (s.originOf a .setProp) (writeIndex a .powerState) (by rw [now]; decide) described).trans
      (State.powerWrite_enter _ now settled)
    exact congrArg Host.Outcome.next (State.write_of_waits _ reached ordered (by rw [effect]; rfl) waits)
  case leave =>
    intro s u a o opens now settled
    have effect := (setPowerState_standby (s.originOf a .setProp) (writeIndex a .powerState) (by rw [now]; decide)).trans
      (State.powerWrite_leave (s := (u.setV .autoStart 0 0).setV .restartWanted 0 0) _ (by simpa using now) (by decide)
        (by simpa [State.var_setV] using settled))
    exact exec_of_write rfl opens effect rfl
  case recovery =>
    intro s v a x o reached now
    exact congrArg Host.Outcome.next (State.write_of_failed _ reached (setPowerState_recovery _ _ _ now) rfl)
  case running =>
    rintro s u t rfl standby goal described flow zones restart
    exact exec_of_guard rfl ⟨standby, .inl goal, described, flow, zones, by simp [restart]⟩
  case mainGood =>
    rintro s u t feeds lowest rfl lost described enough led standby
    refine (exec_of_guard rfl ⟨by simp [lost], described, enough, led⟩).trans (congrArg Host.Outcome.next (if_neg ?_))
    simpa [standby] using (by decide : psStandby ≠ psRunning)
  case mainLost =>
    rintro s u t feeds lowest rfl good few standby
    refine (exec_of_guard rfl ⟨good, few⟩).trans (congrArg Host.Outcome.next (if_neg ?_))
    simpa [standby] using (by decide : psStandby ≠ psRunning)
  case mainFails =>
    rintro s u t feeds lowest rfl good few running
    refine (exec_of_guard rfl ⟨good, few⟩).trans (congrArg Host.Outcome.next (if_pos ?_))
    simpa using running
  case asleep =>
    rintro s u t rfl due standby goal
    exact ⟨_, exec_of_guard rfl ⟨due, standby, goal⟩, State.sleepLoss_leaves _⟩
  case wake =>
    rintro s u t zone intact rfl asleep fore
    exact exec_of_guard rfl ⟨asleep, fore⟩
  case abort =>
    rintro s u t zone intact rfl standby goal
    have effect : (s.tick t).abortSleep = _ := (if_neg (not_not.mpr goal)).trans (if_pos standby)
    rw [← effect]
    refine congrArg Host.Outcome.next ((if_neg fun h => ?_).trans (if_pos standby))
    rw [standby] at h
    exact absurd h.1 (by decide)

end Sys2Proof.Machine
end

section
/-! The rows of supplies and of tiles coming ready. -/

namespace Sys2Proof.Machine

/-- A supply comes good: its tile boots from now. -/
theorem exec_supplyPowerGood {s : State} {t : Ns} {g : Fin 2} (enabled : (s.tick t).var .tilePhase (1 + g.val) = 1) :
    exec (.supplyPowerGood t g) s =
      .next (if (s.tick t).flag .rejoining (1 + g.val)
        then ((((s.tick t).disarm .supplyPg (1 + g.val)).setV .tilePhase (1 + g.val) 2).setV .bootAt (1 + g.val) (s.tick t).now).arm
          .rejoin (1 + g.val) (2 * sec)
        else ((((s.tick t).disarm .supplyPg (1 + g.val)).setV .tilePhase (1 + g.val) 2).setV .bootAt (1 + g.val) (s.tick t).now).arm
          .tileReady (1 + g.val) (1500 * ms)) := by
  refine (exec_of_guard rfl enabled).trans (congrArg Host.Outcome.next (if_congr (Eq.to_iff (congrArg (· = true) ?_)) rfl rfl))
  exact State.flag_eq_of_var (by simp)

/-- Settles O10: each row's guard holds, and the tile's phase decides what a supply's change means. -/
theorem supplyRowsComplete : Obligations.SupplyRowsComplete := by
  refine ⟨?boots, ?rejoins, ?late, ?lost, ?ready, ?notReady, ?mainUnder, ?foreUnder, ?underClear, ?released, ?tileReleased⟩
  case boots =>
    rintro s u t g rfl enabled alone
    refine ⟨_, exec_supplyPowerGood enabled, ?_⟩
    rw [if_neg (by simp [alone])]
    simp [State.arm]
  case rejoins =>
    rintro s u t g rfl enabled rejoins
    refine ⟨_, exec_supplyPowerGood enabled, ?_⟩
    rw [if_pos rejoins]
    simp [State.arm]
  case late =>
    rintro s u t g rfl due enabled
    exact exec_of_settled_guard rfl ⟨due, enabled⟩
  case lost =>
    rintro s u t g rfl driven serves
    refine (exec_of_settled_guard rfl driven).trans ?_
    rw [serves]
    rfl
  case ready =>
    rintro s u t g p rfl boots alone free led running image
    refine (exec_of_guard rfl ⟨boots, by simp [alone], by simp [free], by simp [led], running⟩).trans ?_
    dsimp only
    rw [image]
  case notReady =>
    rintro s u t g rfl due boots
    exact exec_of_guard rfl ⟨due, boots⟩
  case mainUnder =>
    rintro s u t rfl fore main free
    have row : exec (.coreUndervoltage t 1) s = settled (onCoreUndervoltage t 1 s) := rfl
    rw [row, onCoreUndervoltage]
    generalize s.tick t = u at *
    simp [fore, main, free]
  case foreUnder =>
    rintro s u t rfl fore main mizzen free
    have row : exec (.coreUndervoltage t 0) s = settled (onCoreUndervoltage t 0 s) := rfl
    rw [row, onCoreUndervoltage]
    generalize s.tick t = u at *
    simp [fore, main, mizzen, free]
  case underClear =>
    rintro s u t rfl held
    exact exec_of_guard rfl held
  case released =>
    rintro s u t rfl held
    exact (exec_of_guard rfl held).trans (congrArg Host.Outcome.next (if_pos (.inl rfl)))
  case tileReleased =>
    rintro s u t x rfl free
    refine ⟨_, congrArg Host.Outcome.next (if_neg ?_), ?_⟩
    · rw [free]
      decide
    · rw [State.var_setV, if_pos ⟨rfl, rfl⟩]

end Sys2Proof.Machine
end

section
/-! The rows of paces and clocks. -/

namespace Sys2Proof.Machine

/-- What a pace window keeps as the tile's present pace. -/
theorem State.keepPace_now (s : State) (x p : Nat) : (s.keepPace x p).var .paceNow x = p ∧ (s.keepPace x p).var .paceSeen x = 1 := by
  simp [State.keepPace]

/-- The lowest of four counts, of a tile whose counts nothing replaces, is its pace. -/
theorem exec_paceWindow {s : State} {t : Ns} {x : Fin 3} {a b c d : Nat} (votes : (s.tick t).votes x.val)
    (free : (s.tick t).injected (0x044 + 16 * x.val) = none) :
    exec (.paceWindow t x a b c d) s =
      .next ((((s.tick t).spend (0x044 + 16 * x.val)).keepPace x.val (min (min a b) (min c d) * 1000)).judgePaces x.val) := by
  refine (exec_of_guard rfl votes).trans ?_
  dsimp only
  rw [free]

/-- A tile whose loop moves is on its oscillator. -/
theorem State.loopMoves_oscUse (s : State) (x : Nat) : (s.loopMoves x).var .oscUse x = 1 := by
  unfold State.loopMoves
  dsimp only
  split
  · simp
  · simp

/-- Settles O11: each row's guard holds. -/
theorem referenceClockRowsComplete : Obligations.ReferenceClockRowsComplete := by
  refine ⟨?pace, ?paceMin, ?lost, ?restored, ?forwarded, ?offset, ?compensation, ?fallback, ?guardBack, ?stopped, ?resumed⟩
  case pace =>
    rintro s u t x a b c d rfl votes free
    exact ⟨_, rfl, (State.keepPace_now _ _ _).1, (State.keepPace_now _ _ _).2, exec_paceWindow votes free⟩
  case paceMin =>
    intro s u a v o opens
    exact exec_of_write rfl opens rfl rfl
  case lost =>
    rintro s u t cause rfl serves reference
    refine ⟨_, exec_of_guard rfl ⟨serves, by simp [reference]⟩, ?_, rfl⟩
    rw [State.var_raise _ _ _ _ _ _ (by decide)]
    exact State.loopMoves_oscUse _ _
  case restored =>
    rintro s u t offset rfl serves oscillator free
    exact exec_of_guard rfl ⟨serves, oscillator, by simp [free]⟩
  case forwarded =>
    rintro s u t g rfl serves reference
    exact exec_of_guard rfl ⟨serves, by simp [reference]⟩
  case offset =>
    rintro s u t x ppb rfl serves reference noTemp
    have row : exec (.oscOffsetMeasure t x ppb) s = execOscOffsetMeasure t x ppb s := rfl
    rw [row, execOscOffsetMeasure]
    generalize s.tick t = u at *
    have sameTemp {i j v w} : ((u.setV .oscOffset i v).setV .oscMeasured j w).validTemp (24 * x.val) = u.validTemp (24 * x.val) := rfl
    simp only [serves, reference, Bool.false_eq_true, false_and, and_false, if_false, Bool.not_false, and_self, if_true, sameTemp, noTemp]
    refine ⟨_, rfl, by simp, ?_⟩
    simp only [State.var_setV, and_self, if_true]
    split
    · omega
    · omega
  case compensation =>
    rintro s u t rfl
    rfl
  case fallback =>
    rintro s u t x rfl serves clear
    refine ⟨_, exec_of_guard rfl ⟨serves, by simp [clear]⟩, ?_⟩
    rw [State.var_raise _ _ _ _ _ _ (by decide), State.var_setV, if_pos ⟨rfl, rfl⟩]
  case guardBack =>
    rintro s u t x rfl fallback free
    refine ⟨_, exec_of_guard rfl ⟨fallback, by simp [free]⟩, ?_⟩
    rw [State.var_raise _ _ _ _ _ _ (by decide), State.var_setV, if_pos ⟨rfl, rfl⟩]
  case stopped =>
    rintro s u t x k rfl serves island runs
    exact exec_of_guard rfl ⟨serves, island, by simp [runs]⟩
  case resumed =>
    rintro s u t x k rfl free
    refine congrArg Host.Outcome.next (if_neg ?_)
    rw [free]
    exact nofun

end Sys2Proof.Machine
end

section
/-! The rows of common time, of crossings and of privileged signals. -/

namespace Sys2Proof.Machine

/-- Settles O12: each row's guard holds, and the offset of a PPS edge decides whether it is a fault. -/
theorem commonTimeRowsComplete : Obligations.CommonTimeRowsComplete := by
  refine ⟨?set, ?denied, ?edge, ?lateEdge, ?missing, ?holdover, ?timeout, ?farReset, ?drained, ?rearm, ?signal⟩
  case set =>
    intro s u a v o opens free
    exact exec_of_write rfl opens (if_neg (by omega)) rfl
  case denied =>
    intro s v a x o reached source
    exact congrArg Host.Outcome.next (State.write_of_failed _ reached (if_pos source) rfl)
  case edge =>
    rintro s u t rfl masthead tiles locked pps near
    have row : exec (.ppsEdge t) s = execPpsEdge t s := rfl
    rw [row, execPpsEdge]
    have half : (s.tick t).now % sec ≤ sec / 2 := near.trans (by decide)
    have tiles : (s.tick t).tilesIn.isEmpty = false := by simpa using tiles
    generalize s.tick t = u at *
    generalize u.now % sec = f at *
    have early : ¬ (f : Int) < -1000 := not_lt.mpr (le_trans (by decide) (Int.natCast_nonneg f))
    simp [masthead, tiles, locked, pps, half, early, not_lt.mpr near]
  case lateEdge =>
    rintro s u t rfl masthead tiles locked pps late half
    have row : exec (.ppsEdge t) s = execPpsEdge t s := rfl
    rw [row, execPpsEdge]
    have tiles : (s.tick t).tilesIn.isEmpty = false := by simpa using tiles
    generalize s.tick t = u at *
    generalize u.now % sec = f at *
    simp [masthead, tiles, locked, pps, half, late]
  case missing =>
    rintro s u t rfl locked pps
    exact exec_of_guard rfl ⟨locked, pps⟩
  case holdover =>
    rintro s u t rfl holdover error
    exact exec_of_guard rfl ⟨holdover, error⟩
  case timeout =>
    rintro s u t c since rfl serves active past
    exact exec_of_guard rfl ⟨serves, active, past⟩
  case farReset =>
    rintro s u t c rfl serves
    exact exec_of_guard rfl serves
  case drained =>
    rintro s u t c n rfl draining
    refine ⟨_, exec_of_guard rfl draining, ?_⟩
    simp
  case rearm =>
    rintro s u t c rfl flushed ready
    exact exec_of_guard rfl ⟨flushed, ready⟩
  case signal =>
    rintro s u t x g on rfl serves
    exact exec_of_guard rfl serves

end Sys2Proof.Machine
end

section
/-! What GET_PROP, SET_PROP, GET_SNAPSHOT and WATCH answer, said once per request, and WATCH_REPORT (R137–R140). -/

namespace Sys2Proof.Machine

theorem doGetProp_of_known {s : State} {a : Arrival} {p : P} (known : findProp a.hdr.object a.hdr.property = some p) :
    doGetProp a s = (s, .done .ok (s.propFields a.hdr.object p (propIndex a.hdr.object p a.hdr.property)
      (match s.sessionAt a.binding with | some x => x.id | none => 0))) := by
  unfold doGetProp
  rw [known] <;> rfl

theorem doGetProp_of_unknown {s : State} {a : Arrival} (unknown : findProp a.hdr.object a.hdr.property = none) :
    doGetProp a s = (s, .st .propUnknown) := by
  unfold doGetProp
  rw [unknown]

theorem doSetProp_of_accepted {s : State} {a : Arrival} {p : P} {len : Nat} {v : Int} (known : findProp a.hdr.object a.hdr.property = some p)
    (accepted : writeStatus a p len v = .ok) :
    doSetProp a len v s = setEffect a (s.originOf a .setProp) p v (propIndex a.hdr.object p a.hdr.property) s := by
  unfold doSetProp
  simp only [known, accepted]

theorem doSetProp_of_turnedAway {s : State} {a : Arrival} {p : P} {len : Nat} {v : Int} (known : findProp a.hdr.object a.hdr.property = some p)
    (turnedAway : writeStatus a p len v ≠ .ok) : doSetProp a len v s = (s, .st (writeStatus a p len v)) := by
  unfold doSetProp
  simp only [known]

/-- R137: what a write may be turned away with is a fault of its parameters. -/
theorem fault_of_writeStatus {a : Arrival} {p : P} {len : Nat} {v : Int} (turnedAway : writeStatus a p len v ≠ .ok) :
    (Res.st (writeStatus a p len v)).fault = some (writeStatus a p len v) := by
  unfold writeStatus at *
  split
  · rfl
  · split
    · rfl
    · split
      · rename_i unknown ro accepted
        rw [if_neg unknown, if_neg ro, if_pos accepted] at turnedAway
        exact absurd rfl turnedAway
      · rfl

theorem doGetSnapshot_of_fits {s : State} {a : Arrival} {items : List SnapItem} (some_ : items ≠ []) (most : items.length ≤ 256)
    (fits : 16 + recordLen (items.flatMap fun m => itemFields
      ((s.tick (latchAfter s.now)).snapItem ((s.tick (latchAfter s.now)).sessionAt a.binding) m)) ≤ 4060) :
    doGetSnapshot a items s = (s.tick (latchAfter s.now), .done .ok ([u64 (s.tick (latchAfter s.now)).now, u32 items.length, rsv 4] ++
      items.flatMap fun m => itemFields ((s.tick (latchAfter s.now)).snapItem ((s.tick (latchAfter s.now)).sessionAt a.binding) m))) :=
  (if_neg (not_or.mpr ⟨by simpa using some_, not_lt.mpr most⟩)).trans (if_neg (not_lt.mpr fits))

section
variable {s : State} {a : Arrival} {delta : Int} {minUs maxUs : Nat} {x : Session} {p : P} (here : s.sessionAt a.binding = some x)
  (known : findProp a.hdr.object a.hdr.property = some p) (narrow : p.desc.bytes ≤ 8)
include here known narrow

/-- Log 242: a new watch's last value and instant are those of its creation. -/
theorem doWatch_new (least : 100 ≤ minUs) (most : minUs ≤ 60000000) (room : x.watches.length < 256)
    (total : (s.sessions.map (·.watches.length)).sum < 4096) :
    doWatch a 0 minUs delta maxUs s = ((s.countV .nextWatch 0).modSession x.id (fun y => { y with
      watches := y.watches ++ [{ id := s.varN .nextWatch, object := a.hdr.object, prop := p, index := propIndex a.hdr.object p a.hdr.property,
                                 minUs, delta, maxUs, last := s.readNum a.hdr.object p (propIndex a.hdr.object p a.hdr.property) x.id,
                                 lastAt := s.now }] }), .done .ok [u32 (s.varN .nextWatch)]) := by
  unfold doWatch
  simp only [here, known]
  rw [if_neg (by omega), if_neg (by omega), if_pos trivial, if_neg (by omega), if_neg (by omega)]

theorem doWatch_removed {id : Nat} (named : id ≠ 0) (watched : x.watches.any (fun w => w.id = id) = true) :
    doWatch a id 0 delta maxUs s = (s.modSession x.id (fun y => { y with watches := y.watches.filter (fun w => w.id ≠ id) }),
      .done .ok [u32 id]) := by
  unfold doWatch
  simp only [here, known]
  rw [if_neg (by simp), if_neg (by omega), if_neg named, if_neg (by simp [watched]), if_pos trivial]

end

/-- Settles O13: each request reaches its effect, which its conditions decide. -/
theorem propertyRequestsComplete : Obligations.PropertyRequestsComplete := by
  refine ⟨?get, ?unknown, ?set, ?turnedAway, ?snapshot, ?watch, ?unwatch, ?report⟩
  case get =>
    intro s u a o p opens known
    exact exec_of_request rfl opens (doGetProp_of_known known) rfl
  case unknown =>
    intro s v a arrives unknown
    exact congrArg Host.Outcome.next (State.request_of_refused _ arrives (by rw [doGetProp_of_unknown unknown]; rfl))
  case set =>
    intro s u a o len v p opens known accepted x commits
    have effect : doSetProp a len v u = x := doSetProp_of_accepted known accepted
    have concluded := State.request_of_opens _ opens (.inr (.inr (by rw [effect]; exact commits)))
    rw [effect] at concluded
    exact congrArg (fun s : State => settled (.next s.settleHandovers)) concluded
  case turnedAway =>
    intro s w a len v p arrives known turnedAway
    have refused := State.request_of_refused (doSetProp a len v) arrives (by rw [doSetProp_of_turnedAway known turnedAway]; exact fault_of_writeStatus turnedAway)
    exact congrArg (fun s : State => settled (.next s.settleHandovers)) refused
  case snapshot =>
    intro s u a o items opens some_ most w body fits
    exact exec_of_request rfl opens (doGetSnapshot_of_fits some_ most fits) rfl
  case watch =>
    intro s u a o minUs maxUs delta x p opens here known least most narrow room total i
    exact exec_of_request rfl opens (doWatch_new here known narrow least most room total) rfl
  case unwatch =>
    intro s u a o id maxUs delta x p opens here known narrow named watched
    exact exec_of_request rfl opens (doWatch_removed here known narrow named watched) rfl
  case report =>
    rintro s u t session id x w rfl here watched holds v
    have row : exec (.watchReport t session id) s = execWatchReport t session id s := rfl
    rw [row, execWatchReport]
    simp only [here, watched, holds, if_true]
    rfl

end Sys2Proof.Machine
end

section
/-! What the session's requests answer, said once per request, and the rows of its timers (R119–R122, R141–R145). -/

namespace Sys2Proof.Machine

theorem doHello_of_token {s : State} {a : Arrival} {id token : Nat} {x : Session} (open_ : s.session id = some x) (known : x.token = token) :
    doHello a id token s = ((s.bind a.binding id).arm .sessionIdle id (s.getN .sessionTimeout * sec), .st .ok) := by
  unfold doHello
  simp only [open_, known, if_true]

theorem doHello_of_otherToken {s : State} {a : Arrival} {id token : Nat} {x : Session} (open_ : s.session id = some x)
    (other : x.token ≠ token) : doHello a id token s = (s, .st .unknownSession) := by
  unfold doHello
  simp only [open_, other, if_false]

section
variable {s : State} {a : Arrival} {x : Session} (here : s.sessionAt a.binding = some x)
include here

theorem doClose_of_session : doClose a s = (s.endSession x.id 0, .st .ok) := by
  unfold doClose
  rw [here]

theorem doRecall_of_kept {port queue tag : Nat} {r : Recent}
    (kept : x.recent.find? (fun r => r.port = port && r.queue = queue && r.tag = tag) = some r) :
    doRecall a port queue tag s =
      (s, .done .ok [u16 r.phase, u16 (if r.phase = 3 then r.status else 0xFFFF), rsv 4, u64 r.csn]) := by
  unfold doRecall
  simp only [here, kept]

theorem doSubscribe_replace {mask : Nat} (replace : a.hdr.property = 0) :
    doSubscribe a mask s = (s.modSession x.id (fun y => { y with mask := gateMask y.features (mask % 2 ^ 1024) }), .st .ok) := by
  unfold doSubscribe
  simp only [here, replace]

end

/-- Settles O14: each request reaches its effect, which its conditions decide. -/
theorem sessionRequestsComplete : Obligations.SessionRequestsComplete := by
  refine ⟨?negotiate, ?hello, ?otherToken, ?keepalive, ?close, ?timeout, ?recalled, ?subscribe, ?readEvents, ?notice⟩
  case negotiate =>
    intro s u a o minor offer opens room id token word v w
    have effect : doNegotiate a 2 minor offer u = (w, .done .ok ([u8 2, u8 0, rsv 2, u32 id, u64 token, u64 word, rsv 8] ++ w.capFields)) :=
      (if_neg (by decide)).trans (if_neg (not_le.mpr room))
    exact exec_of_request rfl opens effect rfl
  case hello =>
    intro s u a o id token x opens open_ known v
    exact exec_of_request rfl opens (doHello_of_token open_ known) rfl
  case otherToken =>
    intro s v a o id token x reached open_ other
    exact congrArg Host.Outcome.next (State.request_of_failed _ reached (doHello_of_otherToken open_ other) rfl)
  case keepalive =>
    intro s u a o opens host
    have effect : doKeepalive a u = (u.hostAlive, .st .ok) := by
      unfold doKeepalive State.when
      rw [if_pos host]
    exact exec_of_request rfl opens effect rfl
  case close =>
    intro s u a o x opens here
    exact exec_of_request rfl opens (doClose_of_session here) rfl
  case timeout =>
    rintro s u t id rfl due open_
    exact exec_of_guard rfl (by simp [due, open_])
  case recalled =>
    intro s u a o port queue tag x r opens here kept
    exact exec_of_request rfl opens (doRecall_of_kept here kept) rfl
  case subscribe =>
    intro s u a o mask x opens here replace
    exact exec_of_request rfl opens (doSubscribe_replace here replace) rfl
  case readEvents =>
    intro s u a o ack count x opens here least most v l
    have effect : doReadEvents a ack count u = (v.modSession x.id (fun y => { y with readTo := max y.readTo (match l.getLast? with
        | some r => r.seq + 1
        | none => x.readTo) }), .done .ok (eventArray l)) := by
      unfold doReadEvents
      rw [here]
      exact if_neg (by omega)
    exact exec_of_request rfl opens effect rfl
  case notice =>
    rintro s u t id x rfl open_ armed l most v
    have row : exec (.eventNotice t id) s = execEventNotice t id s := rfl
    have all : l.take 63 = l := List.take_of_length_le most
    rw [row, execEventNotice]
    simp only [open_, armed, if_true]
    rw [if_neg (not_lt.mpr most), all] <;> rfl

end Sys2Proof.Machine
end

section
/-! The rows of the PCIe rings. -/

namespace Sys2Proof.Machine

/-- Settles O15: each row's endpoint is up, and its index, entry or register decides what it does. -/
theorem ringRowsComplete : Obligations.RingRowsComplete := by
  refine ⟨?tail, ?tailPast, ?fetch, ?head, ?eventHead, ?enable, ?disable, ?reset, ?eventsOn, ?eventsOff, ?base⟩
  case tail =>
    rintro s u t ep q tail rfl up inside
    exact (exec_of_up rfl up).trans (congrArg Host.Outcome.next (if_neg (not_lt.mpr inside)))
  case tailPast =>
    rintro s u t ep q tail rfl up past
    exact (exec_of_up rfl up).trans (congrArg Host.Outcome.next (if_pos past))
  case fetch =>
    rintro s u t ep q e hdr body rfl may wellFormed packet x v hdr' a
    refine (exec_of_up rfl may).trans ?_
    simp only [wellFormed, packet]
    rfl
  case head =>
    rintro s u t ep q head rfl up inside x freed
    exact (exec_of_up rfl up).trans (congrArg Host.Outcome.next (if_neg (not_lt.mpr inside)))
  case eventHead =>
    rintro s u t ep head rfl up size freed
    exact exec_of_up rfl up
  case enable =>
    rintro s u t ep q vector sizeM1 rfl up ready disabled least most narrow sqAligned cqAligned
    refine (exec_of_up rfl up).trans (congrArg Host.Outcome.next ((if_neg (by simp [disabled])).trans (if_neg ?_)))
    have size : sizeM1 % 256 = sizeM1 := Nat.mod_eq_of_lt (by omega)
    have vec : vector % 256 = vector := Nat.mod_eq_of_lt (by omega)
    simp only [ready, size, vec, sqAligned, cqAligned]
    simp only [Bool.or_eq_true, Bool.not_true, decide_eq_true_eq, not_or]
    exact ⟨⟨⟨⟨by decide, by omega⟩, by omega⟩, by decide⟩, by decide⟩
  case disable =>
    rintro s u t ep q rfl enabled
    exact exec_of_guard rfl enabled
  case reset =>
    rintro s u t ep rfl up v
    exact exec_of_up rfl up
  case eventsOn =>
    rintro s u t ep rfl up off
    exact exec_of_up rfl up
  case eventsOff =>
    rintro s u t ep rfl up
    exact exec_of_up rfl up
  case base =>
    rintro s u t ep v rfl up
    exact exec_of_up rfl up

end Sys2Proof.Machine
end

section
/-! The rows of dispatch and of waiting. -/

namespace Sys2Proof.Machine

/-- A packet that fails its CRC counts for the host port its binding has. -/
theorem exec_gantlineCrcError {s : State} {t : Ns} {b : Binding} {p : Nat} (tag : Nat) (port : hostPort b = some p) :
    exec (.gantlineCrcError t b tag) s = .next ((s.tick t).crcError p) := by
  have row : exec (.gantlineCrcError t b tag) s = execGantlineCrcError t b tag s := rfl
  rw [row]
  unfold execGantlineCrcError
  simp only [port]

/-- R101: the counter of a port below its bound is one more. -/
theorem State.crcError_counts {s : State} {p : Nat} (room : s.get .crcErrors p < 4294967295) :
    (s.crcError p).get .crcErrors p = s.get .crcErrors p + 1 := by
  have counted : (s.count .crcErrors p).get .crcErrors p = s.get .crcErrors p + 1 := by
    rw [State.get_count, if_pos ⟨rfl, rfl⟩]
    omega
  unfold State.crcError
  dsimp only
  split
  · rw [State.get_raise _ _ _ _ _ _ (by decide), State.get_setV, counted]
  · exact counted

/-- Settles O16: each row's guard holds. -/
theorem waitingRowsComplete : Obligations.WaitingRowsComplete := by
  refine ⟨?round, ?held, ?crc, ?resource, ?interim⟩
  case round =>
    rintro s u t rfl free n v
    exact if_neg (by simp [free])
  case held =>
    rintro s u t rfl held
    exact if_pos held
  case crc =>
    rintro s u t b tag p rfl port room
    exact ⟨_, exec_gantlineCrcError tag port, State.crcError_counts room⟩
  case resource =>
    rintro s u t k x rfl waits due
    have row : exec (.resourceWaitTimeout t k) s = execResourceWaitTimeout t k s := rfl
    rw [row, execResourceWaitTimeout]
    simp only [waits]
    rw [if_pos due]
  case interim =>
    rintro s u t b tag x d rfl found due past v
    have row : exec (.mctpInterimTimeout t b tag) s = execMctpInterimTimeout t b tag s := rfl
    rw [row, execMctpInterimTimeout]
    simp only [found, due]
    exact congrArg Host.Outcome.next (if_pos (by simpa using past))

end Sys2Proof.Machine
end

section
/-! The rows of the target ports. -/

namespace Sys2Proof.Machine

/-! ### Windows -/

theorem State.win_modWin (s : State) (k : Nat) (f : WinSt → WinSt) : (s.modWin k f).win k = f (s.win k) :=
  Tab.get_put_self _ _ _ _

theorem State.get_modWin (s : State) (k : Nat) (f : WinSt → WinSt) (p : P) (i : Nat) : (s.modWin k f).get p i = s.get p i := rfl

theorem State.get_busEvent (s : State) (k p : Nat) (e : Ev) (l : List Int) (q : P) (i : Nat) (other : P.recState ≠ q) :
    (s.busEvent k p e l).get q i = s.get q i := by
  unfold State.busEvent
  dsimp only
  split
  · rw [State.get_raise _ _ _ _ _ _ other, State.get_setV]
  · rfl

/-- A tile in service that serves answers a control command. -/
theorem State.mctpAnswer_of_serves {s : State} {m : Fin 4} (k : Nat) (l : List Int) (serves : s.inService (mctpBinding m).tile = true)
    (serving : s.flag .serving = true) : s.mctpAnswer m k l = s.send (.mctp (mctpBinding m) k l) := by
  unfold State.mctpAnswer
  simp [serves, serving]

/-- Settles O17: each row's tile serves, and the packet, the window or the mailbox decides what it does. -/
theorem targetPortRowsComplete : Obligations.TargetPortRowsComplete := by
  refine ⟨?message, ?start, ?bad, ?retry, ?setEid, ?control, ?write, ?read, ?illegal, ?submit, ?free⟩
  case message =>
    rintro s u t m seq tag src len x rfl hears short
    refine (exec_of_up rfl hears).trans (congrArg Host.Outcome.next ?_)
    simp only [Bool.not_true, Bool.false_eq_true, if_false, if_true, zero_add]
    rw [if_neg (by simp; omega)]
  case start =>
    rintro s u t m seq tag src x rfl hears
    exact exec_of_up rfl hears
  case bad =>
    rintro s u t m som eom seq tag src len x rfl hears target
    refine (exec_of_up rfl hears).trans (congrArg Host.Outcome.next ?_)
    exact (if_pos rfl).trans (if_pos (decide_eq_true target))
  case retry =>
    rintro s u t k rfl answers first
    have row : exec (.mctpSendRetry t k false) s = execMctpSendRetry t k false s := rfl
    rw [row, execMctpSendRetry]
    generalize s.tick t = u at *
    refine ⟨_, congrArg Host.Outcome.next ((if_neg ?_).trans (if_neg ?_)), ?_, ?_, ?_⟩
    · simp [answers, first]
    · simp [first]
    · rw [first]
      have armed (s : State) (x : T) (i : Nat) (d : Ns) (j : Nat) : (s.arm x i d).win j = s.win j := rfl
      rw [armed, State.win_modWin]
    · rw [State.timer_arm, if_pos ⟨rfl, rfl⟩]
      rfl
    · rw [first]
      rfl
  case setEid =>
    rintro s u t m eid rfl serves serving least most
    refine ⟨_, exec_of_guard rfl ⟨serves, serving, by simp, least, most⟩, ?_⟩
    have serving : ((s.tick t).setV .mctpEid m.val eid).flag .serving = true := (State.flag_eq_of_var (by simp)).trans serving
    have serves : ((s.tick t).setV .mctpEid m.val eid).inService (mctpBinding m).tile = true :=
      (State.inService_eq_of_var (by simp)).trans serves
    rw [State.mctpAnswer_of_serves (s := (s.tick t).setV .mctpEid m.val eid) 1 _ serves serving]
    refine ⟨?_, rfl⟩
    rw [State.var_send, State.var_setV, if_pos ⟨rfl, rfl⟩]
  case control =>
    rintro s u t m rfl serves serving
    refine ⟨congrArg Host.Outcome.next (State.mctpAnswer_of_serves _ _ serves serving),
      congrArg Host.Outcome.next (State.mctpAnswer_of_serves _ _ serves serving), ⟨(s.tick t).draw.1 % 2 ^ 32, ?_⟩,
      ⟨(s.tick t).draw.1 % 65536, ?_⟩⟩
    · exact (exec_of_guard rfl (.inr (.inl rfl))).trans (congrArg Host.Outcome.next (State.mctpAnswer_of_serves _ _ serves serving))
    · exact (exec_of_guard rfl rfl).trans (congrArg Host.Outcome.next (State.mctpAnswer_of_serves _ _ serves serving))
  case write =>
    rintro s u t k p data rfl answers noPec acked
    have row : exec (.windowWrite t k (some p) data true) s = execWindowWrite t k (some p) data true s := rfl
    rw [row]
    unfold execWindowWrite
    simp only [answers, acked, lt_irrefl, false_and, if_false, Bool.not_true, Bool.false_eq_true, and_false, List.take_length]
  case read =>
    rintro s u t k p n rfl answers
    refine ⟨_, exec_of_up rfl answers, ?_⟩
    have kept (s : State) (m : Msg) (k : Nat) : (s.send m).win k = s.win k := rfl
    dsimp only
    rw [kept, State.win_modWin, State.setPtr, State.win_modWin]
    simp
  case illegal =>
    rintro s u t k kind bit p n rfl answers room
    refine ⟨_, exec_of_up rfl answers, ?_⟩
    have counted : ((s.tick t).count .illegalConds (32 + k.val)).get .illegalConds (32 + k.val) =
        (s.tick t).get .illegalConds (32 + k.val) + 1 := by
      rw [State.get_count, if_pos ⟨rfl, rfl⟩]
      omega
    cases p with
    | none => exact (State.get_modWin _ _ _ _ _).trans ((State.get_busEvent _ _ _ _ _ _ _ (by decide)).trans counted)
    | some p =>
      exact (State.get_modWin _ _ _ _ _).trans ((State.get_modWin _ _ _ _ _).trans ((State.get_busEvent _ _ _ _ _ _ _ (by decide)).trans counted))
  case submit =>
    rintro s u t k h b rfl answers none_
    exact (exec_of_up rfl answers).trans (congrArg Host.Outcome.next (if_neg (by rw [none_]; exact Bool.false_ne_true)))
  case free =>
    rintro s u t k rfl answers ready
    exact exec_of_guard rfl ⟨answers, ready⟩

end Sys2Proof.Machine
end

section
/-! The rows of the secure start: key slots, evidence and Ethernet sessions (R665, R681–R685). -/

namespace Sys2Proof.Machine

section
variable {s : State} {a : Arrival} {tile : Nat} (index offset : Nat) (nonce : List Nat) (device : objCls a.hdr.object = 0xFF)
  (known : tile ≤ 2)
include device known

theorem doAttest_of_notPresent (out : s.inService tile = false) : doAttest a tile index offset nonce s = (s, .st .notPresent) := by
  unfold doAttest
  rw [if_neg (by simp [device]; omega), if_pos (by simp [out])]

theorem doAttest_of_evidence (here : s.inService tile = true) (evidence : a.hdr.property = 0) (length : nonce.length = 48) :
    doAttest a tile index offset nonce s =
      ((s.evidence tile (leValue nonce)).2, .done .ok (s.evidence tile (leValue nonce)).1) := by
  unfold doAttest
  rw [if_neg (by simp [device]; omega), if_neg (by simp [here]), evidence]
  exact if_neg (by simp [length])

end

/-- Settles O18: each row's conditions decide what it does. -/
theorem secureRowsComplete : Obligations.SecureRowsComplete := by
  refine ⟨?program, ?readKeys, ?attest, ?notPresent, ?init, ?finish, ?data, ?shakeExpiry, ?sessionExpiry⟩
  case program =>
    rintro s u t i ec ml rfl test up slot empty key single
    refine ⟨_, exec_of_guard rfl ⟨test, up, slot, empty, key, .inl (by simp [single])⟩, ?_, ?_⟩
    · rw [State.var_setV, if_neg (by simp), State.var_setV, if_pos ⟨rfl, rfl⟩]
    · rw [State.var_setV, if_pos ⟨rfl, rfl⟩]
  case readKeys =>
    intro s u a o opens device
    exact exec_of_request rfl opens (if_neg (not_not.mpr device)) rfl
  case attest =>
    intro s u a o tile index offset nonce opens device known here evidence length
    exact exec_of_request rfl opens (doAttest_of_evidence index offset nonce device known here evidence length) rfl
  case notPresent =>
    intro s v a o tile index offset nonce reached device known out
    exact congrArg Host.Outcome.next (State.request_of_failed _ reached (doAttest_of_notPresent index offset nonce device known out) rfl)
  case init =>
    rintro s u t p op rfl served operator room sessions
    have opens : ¬ (!(s.tick t).ethServed p.val ∨ !true ∨ (s.tick t).getN .udpPort ≠ (s.tick t).getN .udpPort ∨ 7 < op ∨
        8 ≤ (s.tick t).ethShakes.length ∨ 16 ≤ (s.tick t).ethCount p.val) := by
      simp only [served, not_le.mpr room, not_le.mpr sessions, not_lt.mpr operator]
      simp
    exact ⟨_, congrArg Host.Outcome.next (if_neg opens), rfl⟩
  case finish =>
    rintro s u t p n x d rfl found served described named room
    have row : exec (.ethFinish t p n true true) s = execEthFinish t p n true true s := rfl
    rw [row, execEthFinish]
    simp only [found]
    rw [if_neg (by simp [served]), if_pos (by simp only [described, Option.any_some, named, decide_true]; rfl)]
    exact congrArg Host.Outcome.next (if_neg (not_le.mpr room))
  case data =>
    rintro s u t p n seq e h b rfl found served fresh room quiet v
    have row : exec (.ethData t p n seq true true (.packet h b)) s = execEthData t p n seq true true (.packet h b) s := rfl
    rw [row, execEthData]
    simp only [found]
    rw [if_neg (by simp [served, fresh]; omega), if_neg (by simp [quiet])]
  case shakeExpiry =>
    rintro s u t p n rfl
    refine ⟨_, rfl, fun x hx => ?_⟩
    obtain ⟨kept, open_⟩ := List.mem_filter.mp hx
    exact ⟨kept, by simpa [← or_assoc, or_iff_not_imp_left] using open_⟩
  case sessionExpiry =>
    rintro s u t p n e rfl found old
    have row : exec (.ethSessionExpiry t p n) s = execEthSessionExpiry t p n s := rfl
    rw [row, execEthSessionExpiry]
    simp only [found]
    rw [if_pos (.inl old)]

end Sys2Proof.Machine
end

section
/-! The rows of heartbeats, fences, elections and rejoins (R159–R179). -/

namespace Sys2Proof.Machine

/-- Settles O19: each row's guard holds. -/
theorem heartbeatRowsComplete : Obligations.HeartbeatRowsComplete := by
  refine ⟨?send, ?receive, ?timeout, ?expiry, ?lone, ?claim, ?grace, ?complete, ?lapse⟩
  case send =>
    rintro s u t x rfl votes quiet
    exact exec_of_guard rfl ⟨votes, by simp [quiet]⟩
  case receive =>
    rintro s u t r x rfl hears here other quiet v
    exact exec_of_guard rfl ⟨hears, here, other, by simp [quiet]⟩
  case timeout =>
    rintro s u t r x rfl due other
    exact exec_of_settled_guard rfl ⟨due, other⟩
  case expiry =>
    rintro s u t r x rfl due
    refine ⟨_, exec_of_guard rfl due, ?_, ?_⟩
    · rw [State.var_raise _ _ _ _ _ _ (by decide), State.var_setV, if_pos ⟨rfl, rfl⟩]
    · rw [State.timer_raise _ _ _ _ _ _ (by decide) (by decide), State.timer_setV, State.timer_disarm, if_pos ⟨rfl, rfl⟩]
  case lone =>
    rintro s u t rfl due alone l first at_ off
    refine ⟨fun x rest later => (exec_of_guard rfl ⟨due, alone⟩).trans ?_, fun later => (exec_of_guard rfl ⟨due, alone⟩).trans ?_⟩
    · dsimp only
      split
      · rename_i y others e
        obtain ⟨rfl, rfl⟩ := List.cons.inj (e.symm.trans later)
        rfl
      · rename_i e
        cases e.symm.trans later
    · dsimp only
      split
      · rename_i y others e
        cases e.symm.trans later
      · rfl
  case claim =>
    rintro s u t x rfl electing here v
    exact ⟨fun all => (exec_of_settled_guard rfl ⟨electing, here, rfl⟩).trans (congrArg (fun z => settled (.next z)) (if_pos all)),
      fun some_ => (exec_of_settled_guard rfl ⟨electing, here, rfl⟩).trans
        (congrArg (fun z => settled (.next z)) (if_neg (by simpa using some_)))⟩
  case grace =>
    rintro s u t rfl due out v
    exact exec_of_guard rfl ⟨due, by simp [out]⟩
  case complete =>
    rintro s u t x p rfl rejoining booting out quiet member image same
    refine (exec_of_guard rfl ⟨rejoining, booting, by simp [out], by simp [quiet], member⟩).trans ?_
    dsimp only
    rw [image]
    exact congrArg Host.Outcome.next (if_pos same)
  case lapse =>
    rintro s u t x rfl due rejoining
    exact exec_of_settled_guard rfl ⟨due, rejoining⟩

end Sys2Proof.Machine
end

section
/-! The rows of the journal (R153–R157). -/

namespace Sys2Proof.Machine

/-- Settles O20: each row's guard holds. -/
theorem journalRowsComplete : Obligations.JournalRowsComplete := by
  refine ⟨?entry, ?ack, ?stall, ?solo, ?uncorrectable, ?checkpoint⟩
  case entry =>
    rintro s u t x rfl votes follows inside quiet v sound
    exact (exec_of_guard rfl ⟨votes, follows, rfl, inside, by simp [quiet]⟩).trans (congrArg Host.Outcome.next (if_neg (Bool.not_eq_true _ ▸ sound)))
  case ack =>
    rintro s u t x csn rfl here follows quiet member sound v
    exact exec_of_settled_guard rfl ⟨here, follows, by simp [quiet], member, by simp [sound]⟩
  case stall =>
    rintro s u t rfl duo quiet first open_ late v w duo' fore
    have row := exec_of_guard (c := .journalStall t) (s := s) rfl ⟨by rw [duo]; rfl, late, by rw [decide_eq_true first]; rfl, by simp [quiet]⟩
    simp only [open_, Bool.false_eq_true, if_false] at row
    have others : w.tilesIn.filter (fun x => x ≠ w.leader) = [1] := by
      rw [duo', fore]
      rfl
    refine ⟨fun behind => row.trans ?_, fun holds => row.trans ?_⟩
    · split
      · rename_i f rest e
        obtain ⟨rfl, rfl⟩ := List.cons.inj (e.symm.trans others)
        exact congrArg Host.Outcome.next (if_neg (not_le.mpr behind))
      · rename_i e
        cases e.symm.trans others
    · split
      · rename_i f rest e
        obtain ⟨rfl, rfl⟩ := List.cons.inj (e.symm.trans others)
        exact congrArg Host.Outcome.next (if_pos holds)
      · rename_i e
        cases e.symm.trans others
  case solo =>
    rintro s u t rfl member kept
    exact exec_of_settled_guard rfl ⟨member, by simp [kept]⟩
  case uncorrectable =>
    rintro s u t csn x rfl bad here noCopy committed known kept
    refine congrArg Host.Outcome.next ((if_neg ?_).trans (if_pos ⟨by simp [noCopy], committed⟩))
    simp only [bad, here, known, kept]
    decide
  case checkpoint =>
    rintro s u t rfl member quiet some_ due sound
    refine (exec_of_guard rfl ⟨member, by simp [quiet], by simpa using some_, .inr due⟩).trans (congrArg Host.Outcome.next ?_)
    dsimp only
    rw [sound]
    rfl

end Sys2Proof.Machine
end

section
/-! The rows of votes and moves, and the writes of LEADER and ADMIN_STATE (R151, R161–R163, R176–R180). -/

namespace Sys2Proof.Machine

/-! ### Writes -/

theorem setLeader_present {s : State} (o : Origin) (i : Nat) : setLeader o s.leader i s = (s, .st .ok) := if_pos rfl

theorem setLeader_other {s : State} (o : Origin) (i : Nat) {v : Nat} (other : v ≠ s.leader) (here : s.inService v = true)
    (two : 2 ≤ s.tilesIn.length) : setLeader o v i s = ({ s with handovers := s.handovers ++ [(o, v)] }, .accepted []) := by
  unfold setLeader
  rw [if_neg (Int.ofNat_inj.not.mpr other), if_neg]
  · rfl
  · rw [Int.toNat_natCast, here]
    simp [Nat.lt_of_succ_le two]

theorem setAdminState_out {s : State} {i : Nat} (running : s.get .powerState = psRunning)
    (none_ : [0, 1, 2].any (fun (x : Nat) => s.flag .rejoining x) = false) (idle : s.flag .rolling = false)
    (alone : s.flag .adminOut = false) (here : s.inService i = true) (three : 2 < s.tilesIn.length) (follows : s.leader ≠ i) :
    setAdminState 1 i s = ((s.put .adminState i 1).planOut i, .st .ok) := by
  have same : (s.put .adminState i 1).leader = s.leader := by
    unfold State.leader State.getN
    rw [State.get_put, if_neg fun e => absurd e.1 (by decide)]
  unfold setAdminState
  rw [if_pos rfl, if_pos (decide_eq_true running), if_neg (by rw [none_, idle, alone]; decide), if_pos here,
    if_neg (not_le.mpr three)]
  dsimp only
  rw [same, if_neg follows]

/-- Settles O21: each row's guard holds, and a write has the effect its conditions name. -/
theorem votingRowsComplete : Obligations.VotingRowsComplete := by
  refine ⟨?input, ?disagree, ?takeover, ?move, ?present, ?leader, ?admin⟩
  case input =>
    rintro s u t o x level rfl
    rfl
  case disagree =>
    rintro s u t o x rfl due votes otherwise v l n few
    exact (exec_of_guard rfl ⟨due, votes, otherwise⟩).trans (congrArg Host.Outcome.next (if_neg fun h => absurd few (not_lt.mpr h.1)))
  case takeover =>
    rintro s u t d rfl regulates missed single two m here other v
    have row : exec (.mirrorTakeover t d) s = execMirrorTakeover t d s := rfl
    rw [row, execMirrorTakeover]
    simp only [regulates]
    rw [if_pos ⟨missed, two, trivial, here, other, by simp [single]⟩]
  case move =>
    rintro s u t m rest rfl moves first here
    have row : exec (.plannedMove t []) s = settled (onPlannedMove t [] s) := rfl
    rw [row, onPlannedMove]
    simp only [List.map_nil, List.filter_nil, List.append_nil]
    rw [if_neg fun h => absurd first (not_lt.mpr h.1), moves]
    exact congrArg (fun z => settled (.next z)) (congrArg State.adminFence (if_pos here))
  case present =>
    intro s u a o opens
    exact congrArg (fun z => Host.Outcome.next (State.settleHandovers z))
      (State.write_of_effect opens (setLeader_present _ _) rfl)
  case leader =>
    intro s u a o v opens other here two
    exact congrArg (fun z => Host.Outcome.next (State.settleHandovers z))
      (State.write_of_effect opens (setLeader_other _ _ other here two) rfl)
  case admin =>
    intro s u a o opens running none_ idle alone here three follows
    exact exec_of_write rfl opens (setAdminState_out running none_ idle alone here three follows) rfl

end Sys2Proof.Machine
end

section
/-! The rows of the stores: writes of NOR and NAND, scrubs, uncorrectable words and lost stacks (R22, R24, R638–R645, R739). -/

namespace Sys2Proof.Machine

/-- Settles O22: each row's guard holds. -/
theorem storeRowsComplete : Obligations.StoreRowsComplete := by
  refine ⟨?nor, ?nand, ?sram, ?patrol, ?badSram, ?badDram, ?lost⟩
  case nor =>
    rintro s u t w rest good rfl writes sound sound' kept
    have row : exec (.norWriteComplete t none good) s = execNorWriteComplete t none good s := rfl
    have dies : [0, 1].filter (fun d => (s.tick t).acts (0x0D0 + d)) = [] := by simp [sound, sound']
    rw [row, execNorWriteComplete]
    simp only [writes, List.isEmpty_cons, Bool.false_eq_true, if_false, dies, State.each, List.foldl_nil]
    exact congrArg Host.Outcome.next (if_neg kept)
  case nand =>
    rintro s u t w rest usable rfl writes kept sound
    have row : exec (.nandWriteComplete t none false usable) s = execNandWriteComplete t none false usable s := rfl
    have spent : ((s.tick t).spend 0x0D2).nandWrites = w :: rest := by rw [← writes]; unfold State.spend; dsimp only; split <;> rfl
    rw [row, execNandWriteComplete]
    simp only [kept, sound, Bool.false_eq_true, false_and, if_false, Option.isSome_none, spent]
  case sram =>
    rintro s u t x words rfl here good
    exact exec_of_guard rfl here
  case patrol =>
    rintro s u t k words rfl up gives good
    exact exec_of_guard rfl ⟨up, gives⟩
  case badSram =>
    rintro s u t x region addr bits slot engine rfl here bad
    exact exec_of_guard rfl ⟨here, bad⟩
  case badDram =>
    rintro s u t k w region opt snap rfl up bad v fresh v
    refine (exec_of_guard rfl ⟨up, bad⟩).trans (congrArg Host.Outcome.next ?_)
    dsimp only
    rw [if_neg fresh]
  case lost =>
    rintro s u t k rfl fresh on up
    have opens : ¬ (((s.tick t).varN .stackFailed).testBit k.val ∨ (s.tick t).get .powerState = 0 ∨ (false = true ∧
        ((s.tick t).ueHits.filter (fun h => h.1 = k.val && decide ((s.tick t).now < h.2 + 3600 * sec))).length ≤
          (s.tick t).getN .ueStackLimit)) := by
      rw [fresh]
      rintro (h | h | ⟨h, -⟩)
      · cases h
      · exact on h
      · cases h
    refine congrArg Host.Outcome.next ((if_neg opens).trans (congrArg State.dropFeatures (if_pos ?_)))
    rw [← up]
    unfold State.varN
    rw [State.var_setV, if_neg (by decide)]

end Sys2Proof.Machine
end

section
/-! What an accelerator's messages leave, said once per message (R191, R215–R219, R222, R410, R411). -/

namespace Sys2Proof.Machine

/-- R191: a port in IDENT takes an acceptable identity of an accelerator that is not present. -/
theorem State.takeIdentity_arrives {s : State} {p : Nat} {m : Identity} (ident : (s.link p).state = lkIdent) :
    let v : State := (s.setV .reportedSerial (p / 2) m.serial).each (List.range 16) (fun s q =>
      s.reopen [q] (fun x => decide (x.why = 3) && !s.reportedElsewhere (q / 2) x.whySerial))
    v.identityStatus (p / 2) m = 0 → v.get .accelPresence (p / 2) ≠ 2 → s.takeIdentity p m = (v.accelArrive p m).identityAccept p := by
  intro v acceptable absent
  unfold State.takeIdentity
  dsimp only
  rw [if_neg fun h => h.1 ident]
  split
  · exact if_neg absent
  · rename_i refused
    exact absurd acceptable refused

/-- R215: a table of eight levels that does not rise, with a latency in range, is taken. -/
theorem State.takeReefTable_of_valid {s : State} (a generation : Nat) {latency : Nat} {levels : List (Nat × Int)} (eight : levels.length = 8)
    (frequency : notRising (levels.map (fun l => (l.1 : Int))) = true) (power : notRising (levels.map (·.2)) = true)
    (quick : latency ≤ 1000) :
    let v : State := ((s.setV .reefStatus a 0).setV .reefTable a 1).put .reefGen a generation
    let v : State := v.each (List.range 8) (fun s k =>
      (s.setV .reefPower (8 * a + k) ((levels.getD k (0, 0)).2)).setV .reefFreq (8 * a + k) ((levels.getD k (0, 0)).1))
    s.takeReefTable a generation latency levels = (v.raise .reefTable (oAccel a) [a, 0, generation]).sendBudget a 0 := by
  intro v v
  unfold State.takeReefTable
  simp only [eight, frequency, power, not_lt.mpr quick]
  rfl

/-- R218: a state other than 2 is kept, and state 4 cuts a furl. -/
theorem State.takeQstate_of_other {s : State} (a qid : Nat) {state : Nat} (other : state ≠ 2) :
    s.takeQstate a qid state = if state = 4 then (s.setV .qstate a state).cutFurl a 0 else s.setV .qstate a state := by
  unfold State.takeQstate
  dsimp only
  simp only [decide_eq_false other, Bool.false_and, State.when, Bool.false_eq_true, if_false]

/-- Settles O23: each message is taken as its lemma says. -/
theorem partnerMessagesComplete : Obligations.PartnerMessagesComplete := by
  refine ⟨?identity, ?reefTable, ?hint, ?telemetry, ?freqAck, ?qstate, ?cut, ?furl, ?hold, ?imageStatus⟩
  case identity =>
    rintro s u t p m rfl ident v acceptable absent
    exact congrArg (fun z => settled (.next z)) (State.takeIdentity_arrives ident acceptable absent)
  case reefTable =>
    rintro s u t a generation latency levels rfl eight frequency power quick v v
    exact congrArg Host.Outcome.next (State.takeReefTable_of_valid a.val generation eight frequency power quick)
  case hint =>
    rintro s u t a h rfl
    rfl
  case telemetry =>
    rintro s u t a m rfl
    rfl
  case freqAck =>
    rintro s u t a round freq outcome late rfl
    rfl
  case qstate =>
    rintro s u t a qid state rfl other uncut
    exact congrArg (fun z => settled (.next z)) ((State.takeQstate_of_other a.val qid other).trans (if_neg uncut))
  case cut =>
    rintro s u t a qid rfl
    exact congrArg (fun z => settled (.next z)) ((State.takeQstate_of_other a.val qid (by decide)).trans (if_pos rfl))
  case furl =>
    rintro s u t a num code detail stamp rfl v
    rfl
  case hold =>
    rintro s u t a num code detail stamp rfl v before
    rfl
  case imageStatus =>
    rintro s u t a image next status rfl
    rfl

end Sys2Proof.Machine
end

section
/-! The rows of a silent accelerator and of its ALERT pin (R188, R194, R195, R218, R222). -/

namespace Sys2Proof.Machine

/-- Settles O24: each timer is due and its guard holds. -/
theorem partnerTimersComplete : Obligations.PartnerTimersComplete := by
  refine ⟨?loss, ?silence, ?silentFurl, ?pin, ?unpin, ?reef, ?furl, ?handover, ?quiesce⟩
  case loss =>
    rintro s u t a rfl due present down
    exact exec_of_settled_guard rfl ⟨due, present, by simp [down]⟩
  case silence =>
    rintro s u t a rfl due present up
    exact exec_of_settled_guard rfl ⟨due, present, up⟩
  case silentFurl =>
    rintro s u t a rfl due
    exact exec_of_guard rfl due
  case pin =>
    rintro s u t a rfl down v
    exact congrArg Host.Outcome.next (if_neg (by rw [down]; decide))
  case unpin =>
    rintro s u t a rfl
    rfl
  case reef =>
    rintro s u t a rfl due pin down
    exact exec_of_guard rfl ⟨due, pin, by simp [down]⟩
  case furl =>
    rintro s u t a rfl due pin down
    exact exec_of_guard rfl ⟨due, pin, by simp [down]⟩
  case handover =>
    rintro s u t a rfl due
    exact exec_of_guard rfl due
  case quiesce =>
    rintro s u t a rfl due none_
    refine congrArg Host.Outcome.next ((if_neg (by simp [due])).trans ?_)
    rw [none_]

end Sys2Proof.Machine
end

section
/-! The rows of the flit links: what a received flit does, said once per kind, and the links' own timers (R199–R213, R569). -/

namespace Sys2Proof.Machine

/-! ### Flits received -/

theorem State.link_spend (s : State) (k p : Nat) : (s.spend k).link p = s.link p := by
  unfold State.spend
  dsimp only
  split <;> rfl

/-- What an ACK and the credits of a good flit do to a port (R203). -/
def State.takeFlow (s : State) (p : Nat) (b : List Nat) : State :=
  let s := match flitAck b with | some a => s.takeAck p a | none => s
  s.when (s.linkUp p) (fun s => s.each (flitCredits (isShroud p) b) (fun s c => s.addCredit p c.1 c.2))

section
variable {s : State} {p : Nat} {b : List Nat} (free : s.timer .injHold (pLink p) = none)
include free

theorem State.takeFlit_bad_training (bad : flitGood b = false) (training : (s.spend (pLink p)).inTraining p = true) :
    s.takeFlit p b = (s.spend (pLink p)).breakTrain p := by
  unfold State.takeFlit
  simp only [free, bad, Option.isSome_none, Bool.false_eq_true, if_false, Bool.false_and, Bool.not_false, if_true, training]

theorem State.takeFlit_bad_up (bad : flitGood b = false) (up : (s.spend (pLink p)).linkUp p = true) :
    s.takeFlit p b = (s.spend (pLink p)).badFlit p true := by
  have state : ((s.spend (pLink p)).link p).state = lkActive := of_decide_eq_true up
  have trained : (s.spend (pLink p)).inTraining p = false := by
    unfold State.inTraining
    rw [state]
    rfl
  unfold State.takeFlit
  simp only [free, bad, Option.isSome_none, Bool.false_eq_true, if_false, Bool.false_and, Bool.not_false, if_true, trained, up, Bool.or_true]

section
variable (good : flitGood b = true) (sound : s.acts (pLink p) = false)
include good sound

theorem State.takeFlit_train (train : flitKind b = 3) :
    s.takeFlit p b = ((s.spend (pLink p)).modLink p (fun x => { x with badRun := 0 })).takeTrain p (trainOf (flitPayload b)) := by
  unfold State.takeFlit
  simp only [free, good, sound, Option.isSome_none, Bool.false_eq_true, if_false, Bool.true_and, Bool.not_false, Bool.not_true, train, if_true]

/-- A good flit on an ACTIVE port that is not a TRAIN flit: its ACK and credits are taken, then its kind decides. -/
theorem State.takeFlit_up (other : flitKind b ≠ 3) (up : (s.spend (pLink p)).linkUp p = true) :
    s.takeFlit p b =
      (let v := ((s.spend (pLink p)).modLink p (fun x => { x with badRun := 0 })).takeFlow p b
      (if flitKind b = 1 then v.takeData p b else if flitKind b = 2 ∧ flitNak b then v.replay p else v).pump p) := by
  unfold State.takeFlit State.takeFlow
  simp only [free, good, sound, Option.isSome_none, Bool.false_eq_true, if_false, Bool.true_and, Bool.not_false, Bool.not_true, other, up,
    Bool.or_true] <;> rfl

end
end

theorem flitKind_wireFlit (kind flags : Nat) (body : List Nat) (crc : Nat) :
    flitKind (wireFlit kind flags body crc) = kind := by
  show kind + 256 * 0 = kind
  omega

theorem State.takeData_outOfOrder {s : State} {p : Nat} {b : List Nat} (outOfOrder : (s.acceptFlit p (flitSeq b)).2 = false) :
    s.takeData p b = s.badFlit p false := by
  unfold State.takeData
  revert outOfOrder
  unfold State.acceptFlit
  split
  · exact fun _ => rfl
  · exact fun h => Bool.noConfusion h

/-- R199–R201: a payload that completes eight good ones ends the training. -/
theorem State.takeTrain_of_trained {s : State} {p : Nat} {f : TrainFlit} (right : f.role = farRole p) (training : s.inTraining p = true) :
    let v : State := (s.modLink p (fun x => { x with rxTtx := f.tTx, rxAt := s.now })).modLink p (fun x => { x with
      rxGood := x.rxGood + 1, aligned := x.aligned || decide (lockFlits p ≤ x.rxGood + 1)
      rxOk := if x.aligned && f.rxOk then x.rxOk + 1 else 0
      best := if x.aligned then some (match x.best with
        | some b => min b (s.now - f.tEcho - f.hold)
        | none => s.now - f.tEcho - f.hold) else x.best })
    8 ≤ (v.link p).rxOk → s.takeTrain p f = v.trained p := by
  intro v eight
  have state := of_decide_eq_true training
  unfold State.takeTrain
  dsimp only
  rw [if_neg (not_not.mpr right), if_neg (by tauto)]
  exact if_pos eight

/-- Settles O25: each row's guard holds, and a flit is taken as its kind says. -/
theorem linkRowsComplete : Obligations.LinkRowsComplete := by
  refine ⟨?signal, ?badTrain, ?train, ?trained, ?badData, ?data, ?link, ?replay, ?late, ?headers, ?time, ?budget, ?gap⟩
  case signal =>
    rintro s u t port rfl down here free running admin
    have held : (((s.tick t).timer .injHold (pLink port.key)).isSome || (decide (48 ≤ port.key) && decide ((s.tick t).get .portAdmin (port.key - 48) = 1))
        || (s.tick t).flag .islandDown (16 * portTile port.key + (if port.key < 48 then 2 else 3))) = false := by
      rw [free, running]
      by_cases rat : 48 ≤ port.key
      · rw [admin rat, decide_eq_true rat]
        rfl
      · rw [decide_eq_false rat]
        rfl
    exact exec_of_guard rfl ⟨down, here, by rw [held]; rfl⟩
  case badTrain =>
    rintro s u t port b rfl free bad training
    exact congrArg (fun z => Host.Outcome.next (State.settleUpdate z)) (State.takeFlit_bad_training free bad training)
  case train =>
    rintro s u v t port b rfl free good sound train rfl
    exact congrArg (fun z => Host.Outcome.next (State.settleUpdate z)) (State.takeFlit_train free good sound train)
  case trained =>
    rintro s v p f right training rfl eight w w
    exact State.takeTrain_of_trained right training eight
  case badData =>
    rintro s u t port flags seq ack crc body rfl free bad up
    exact congrArg (fun z => Host.Outcome.next (State.settleUpdate z)) (State.takeFlit_bad_up free bad up)
  case data =>
    rintro s u t port flags seq ack crc body b rfl free good sound up v v v
    have kind : flitKind b = 1 := flitKind_wireFlit _ _ _ _
    refine ⟨congrArg (fun z => Host.Outcome.next (State.settleUpdate z)) ?_, State.takeData_outOfOrder⟩
    refine (State.takeFlit_up free good sound (by rw [kind]; decide) up).trans ?_
    dsimp only
    rw [if_pos kind]
    rfl
  case link =>
    rintro s u t port flags crc body b rfl free good sound up v v v
    have kind : flitKind b = 2 := flitKind_wireFlit _ _ _ _
    have taken := State.takeFlit_up free good sound (by rw [kind]; decide) up
    dsimp only at taken
    rw [if_neg (by rw [kind]; decide)] at taken
    refine ⟨fun quiet => ?_, fun nak => ?_⟩
    · rw [if_neg (by simp [quiet])] at taken
      exact congrArg (fun z => Host.Outcome.next (State.settleUpdate z)) taken
    · rw [if_pos ⟨kind, nak⟩] at taken
      exact congrArg (fun z => Host.Outcome.next (State.settleUpdate z)) taken
  case replay =>
    rintro s u t port rfl up waits old
    exact exec_of_guard rfl ⟨up, by simpa using waits, old⟩
  case late =>
    rintro s u t port noSignal rfl late
    exact exec_of_guard rfl (.inl late)
  case headers =>
    rintro s u t port rfl up
    exact exec_of_guard rfl up
  case time =>
    rintro s u t rfl
    rfl
  case budget =>
    rintro s u t rfl
    rfl
  case gap =>
    rintro s u t a stream z rfl due last l want v v v
    have released : (s.tick t).releaseLate a.val stream.val = v.releaseHeld a.val stream.val v.held.length := by
      unfold State.releaseLate
      simp only [last]
      rfl
    exact (exec_of_guard rfl due).trans (congrArg (fun z => Host.Outcome.next (State.settleUpdate (State.gapTimer z a.val stream.val))) released)

end Sys2Proof.Machine
end

section
/-! The rows of legs and domains, and the writes of ADMIN, SETPOINT and THRESHOLDS (R235, R281–R302). -/

namespace Sys2Proof.Machine

/-! ### Slots -/

theorem State.now_nextSlice (s : State) (r : Nat) : (s.nextSlice r).1.now = s.now := by
  unfold State.nextSlice
  dsimp only
  split
  · split <;> rfl
  · rfl

theorem State.now_launchOn (s : State) (p slot : Nat) (side : List Nat) : (s.launchOn p slot side).now = s.now := by
  unfold State.launchOn
  split
  · rfl
  · split <;> rfl

theorem State.now_launchRelay (s : State) (slot r : Nat) : (s.launchRelay slot r).now = s.now := by
  unfold State.launchRelay
  dsimp only
  refine (State.each_eq _ _ (fun _ _ => State.now_launchOn _ _ _ _) _ _).trans ?_
  split
  · exact State.now_nextSlice s r
  · rfl

/-! ### Writes -/

/-- A sleeping leg its domain can spare is disabled at once. -/
theorem setLegAdmin_of_asleep {s : State} (force : Bool) {l d : Nat} (domain : s.legDomain l = some d)
    (spare : s.get .minHealthy d ≤ (s.nHealthy d : Int) - 1) (asleep : s.get .legState l = legSleep) :
    setLegAdmin force 1 l s = ((((s.put .admin l 1).modLeg l LegSt.idle).setLeg l legDisabled).checkHealthy l, .st .ok) := by
  unfold setLegAdmin
  simp only [domain, asleep, not_lt.mpr spare, false_and, and_false, if_false, if_true]
  rfl

theorem setSetpoint_of_inRange {s : State} {v : Int} {d : Nat} (least : s.var .setMin d ≤ v) (most : v ≤ s.var .setMax d) :
    let w : State := if (s.dom d).mode = .on then
        (s.refAt d s.now).2.modDom d (fun x => { x with ref := (s.refAt d s.now).1, refAt := (s.refAt d s.now).2.now }) else s
    setSetpoint v d s = (w.put .setpoint d v, .st .ok) :=
  if_neg (by omega)

section
variable {s : State} {v : Int} {k : Nat} (reserved : v.toNat &&& 0xF000F000F000F000 = 0) (disch : thrDisch v.toNat < thrLo v.toNat)
  (lo : thrLo v.toNat ≤ thrHi v.toNat) (hi : thrHi v.toNat < thrOv v.toNat)
include reserved disch lo hi

theorem setThresholds_of_ordered : setThresholds v k s =
    if k < 64 then (s.put .thresholds k v, .st .ok)
    else if !s.relayPresent (relayOfDomain (k - 64)) then (s, .st .partnerLost)
    else ((s.setV .thrPend k v).configThresholds (relayOfDomain (k - 64)) (localDomain (k - 64)) 1, .st .ok) := by
  refine if_neg ?_
  rintro (h | h | h | h)
  · exact h reserved
  · exact absurd disch (not_lt.mpr h)
  · exact absurd lo (not_le.mpr h)
  · exact absurd hi (not_lt.mpr h)

theorem setThresholds_tray (tray : k < 64) : setThresholds v k s = (s.put .thresholds k v, .st .ok) :=
  (setThresholds_of_ordered reserved disch lo hi).trans (if_pos tray)

theorem setThresholds_relay (domain : 64 ≤ k) (present : s.relayPresent (relayOfDomain (k - 64)) = true) : setThresholds v k s =
    ((s.setV .thrPend k v).configThresholds (relayOfDomain (k - 64)) (localDomain (k - 64)) 1, .st .ok) :=
  (setThresholds_of_ordered reserved disch lo hi).trans ((if_neg (not_lt.mpr domain)).trans (if_neg (by simp [present])))

theorem setThresholds_absent (domain : 64 ≤ k) (absent : s.relayPresent (relayOfDomain (k - 64)) = false) :
    setThresholds v k s = (s, .st .partnerLost) :=
  (setThresholds_of_ordered reserved disch lo hi).trans ((if_neg (not_lt.mpr domain)).trans (if_pos (by simp [absent])))

end

/-- Settles O26: each row's guard holds, and a write has the effect its conditions name. -/
theorem legRowsComplete : Obligations.LegRowsComplete := by
  refine ⟨?slot, ?overcurrent, ?replan, ?wake, ?drain, ?rotation, ?compare, ?result, ?admin, ?asleep, ?setpoint, ?thresholds, ?absent⟩
  case slot =>
    rintro s u t slot missing rfl now late v w
    have row : exec (.slotInstant t slot missing) s = .next ((s.tick t).launchSlot missing) :=
      congrArg Host.Outcome.next (if_pos now)
    rw [row]
    exact congrArg Host.Outcome.next (State.each_of_now (f := fun n z r => z.launchRelay (n / 500) r) (fun _ _ _ => State.now_launchRelay _ _ _) w _)
  case overcurrent =>
    rintro s u t d rfl due above
    exact (exec_of_guard rfl due).trans (congrArg Host.Outcome.next (if_pos above))
  case replan =>
    rintro s u t rfl grid
    exact exec_of_guard rfl grid
  case wake =>
    rintro s u t l w d rfl wakes domain waking begun
    have row : exec (.legWakeDone t l) s = execLegWakeDone t l s := rfl
    rw [row, execLegWakeDone]
    simp only [wakes, domain]
    exact congrArg Host.Outcome.next (if_pos ⟨waking, begun⟩)
  case drain =>
    rintro s u t l w rfl drains draining empty
    have row : exec (.legDrainDone t l) s = execLegDrainDone t l s := rfl
    rw [row, execLegDrainDone]
    simp only [drains]
    exact congrArg Host.Outcome.next (if_pos ⟨draining, empty⟩)
  case rotation =>
    rintro s u t rfl passed
    refine congrArg Host.Outcome.next (if_neg ?_)
    rintro ⟨started, early⟩
    exact passed.elim (not_lt.mpr started) (not_le.mpr early)
  case compare =>
    rintro s u t r c rfl runs sound slots first close
    have row : exec (.calCompareDone t r) s = execCalCompareDone t r s := rfl
    rw [row, execCalCompareDone]
    simp only [runs, sound, reduceCtorEq, if_false, first, if_neg (not_lt.mpr slots), decide_eq_false (not_lt.mpr close), Bool.not_false, if_true]
  case result =>
    rintro s u t r leg channel status offset gain rfl
    rfl
  case admin =>
    intro s u a o v opens commits
    exact exec_of_write rfl opens rfl commits
  case asleep =>
    intro s u a o d l opens domain spare asleep
    exact exec_of_write rfl opens (setLegAdmin_of_asleep _ domain spare asleep) rfl
  case setpoint =>
    intro s u a o v d opens least most w
    exact exec_of_write rfl opens (setSetpoint_of_inRange least most) rfl
  case thresholds =>
    intro s u a o v k opens reserved disch lo hi
    exact ⟨fun tray => exec_of_write rfl opens (setThresholds_tray reserved disch lo hi tray) rfl,
      fun domain present => exec_of_write rfl opens (setThresholds_relay reserved disch lo hi domain present) rfl⟩
  case absent =>
    intro s w a o v k reached reserved disch lo hi domain absent
    exact congrArg Host.Outcome.next (State.write_of_failed _ reached (setThresholds_absent reserved disch lo hi domain absent) rfl)

end Sys2Proof.Machine
end

section
/-! The rows of the Sheet links (R280, R304–R317). -/

namespace Sys2Proof.Machine

/-! ### Side slices -/

section
variable {s : State} {t : Ns} {p : Fin 32} {b : List Nat} (noSack : (sliceOf b).sack = none) (noNak : (sliceOf b).nak = false)
include noSack noNak

/-- R309: a slice without SACK and NAK, the next in order, is accepted; the message it completes is taken. -/
theorem exec_sideSlice_next (data : (sliceOf b).data = true)
    (next : ((sliceOf b).seq + 4096 - ((s.tick t).link (sideKey (p.val / 2))).rxSeq) % 4096 = 1) {w : State} {m : Option (List Nat)}
    (joined : ((s.tick t).modLink (sideKey (p.val / 2)) (fun y => { y with
      rxSeq := (sliceOf b).seq, rxSeen := true, nak := false, nakDue := false })).joinFlit (sideKey (p.val / 2)) 0 (sliceOf b).first (sliceOf b).last (sliceOf b).bytes = (w, m)) :
    exec (.sideSlice t p b) s = .next (m.elim w (fun m => w.takeRelayMsg (16 + p.val) (relayMsgOf m))) := by
  have row : exec (.sideSlice t p b) s = execSideSlice t p b s := rfl
  rw [row, execSideSlice]
  generalize s.tick t = u at *
  simp only [Nat.add_sub_cancel_left, noSack, noNak, Bool.false_eq_true, if_false, data, Bool.not_true, next, true_or, if_true, joined]
  cases m <;> rfl

/-- R309: an old copy on a port that is not in IDENT does nothing. -/
theorem exec_sideSlice_old (identified : ((s.tick t).link (16 + p.val)).state ≠ lkIdent)
    (old : ((sliceOf b).seq + 4096 - ((s.tick t).link (sideKey (p.val / 2))).rxSeq) % 4096 = 0 ∨
      2048 ≤ ((sliceOf b).seq + 4096 - ((s.tick t).link (sideKey (p.val / 2))).rxSeq) % 4096) :
    exec (.sideSlice t p b) s = .next (s.tick t) := by
  have row : exec (.sideSlice t p b) s = execSideSlice t p b s := rfl
  rw [row, execSideSlice]
  generalize s.tick t = u at *
  simp only [Nat.add_sub_cancel_left, noSack, noNak, Bool.false_eq_true, if_false, identified, decide_false, Bool.false_and, or_false]
  split
  · rfl
  · rw [if_neg (by omega), if_neg (by omega)]

end

/-! ### Training -/

section
variable {s v : State} {t : Ns} {p : Fin 32} {b : List Nat} (free : (s.tick t).timer .injHold (pLink (16 + p.val)) = none)
  (gives : (s.tick t).islandGives (portTile (16 + p.val)) 2 = true)
  (woken : v = (if ((s.tick t).link (16 + p.val)).state = lkDown then (s.tick t).moveLink (16 + p.val) lkLock else s.tick t))
include free gives woken

theorem exec_sheetTrainFrame_good (sealed : sealGood 320 b = true) (kind : leAt b 0 1 = 2) (sound : v.acts (0x220 + p.val) = false) :
    exec (.sheetTrainFrame t p b) s = .next ((v.spend (0x220 + p.val)).takeTrain (16 + p.val) (trainOf (b.drop 8))) := by
  have row : exec (.sheetTrainFrame t p b) s = execSheetTrainFrame t p b s := rfl
  rw [row, execSheetTrainFrame]
  simp only [Nat.add_sub_cancel_left, free, gives, ← woken, sealed, kind, sound]
  rfl

theorem exec_sheetTrainFrame_bad (broken : sealGood 320 b = false)
    (training : ((v.spend (0x220 + p.val)).linkError (16 + p.val)).inTraining (16 + p.val) = true) :
    exec (.sheetTrainFrame t p b) s = .next (((v.spend (0x220 + p.val)).linkError (16 + p.val)).breakTrain (16 + p.val)) := by
  have row : exec (.sheetTrainFrame t p b) s = execSheetTrainFrame t p b s := rfl
  rw [row, execSheetTrainFrame]
  simp only [Nat.add_sub_cancel_left, free, gives, ← woken, broken, Bool.false_and, State.when, Bool.not_false, if_true, training]
  rfl

end

/-! ### Identities and acknowledgements -/

/-- R311: an acceptable identity on a port in IDENT of a relay neither identified nor present nor refused: it arrives. -/
theorem State.takeRelayIdentity_arrives {s : State} {p : Nat} {m : RelayIdentity} (open_ : (s.relay ((p - 16) / 2)).rejected = false)
    (ident : ((s.setV .reportedSerial (16 + (p - 16) / 2) m.serial).link p).state = lkIdent)
    (acceptable : (s.setV .reportedSerial (16 + (p - 16) / 2) m.serial).relayStatus p m = 0) (anew : (s.relay ((p - 16) / 2)).identified = false)
    (absent : (s.setV .reportedSerial (16 + (p - 16) / 2) m.serial).relayPresent ((p - 16) / 2) = false) :
    let w : State := (s.setV .reportedSerial (16 + (p - 16) / 2) m.serial).relayArrive ((p - 16) / 2) m
    s.takeRelayIdentity p m = if (w.link p).state = lkActive then w else w.moveLink p lkActive := by
  intro w
  unfold State.takeRelayIdentity
  simp only [open_, Bool.false_and, Bool.false_eq_true, if_false, ident, ne_eq, not_true_eq_false, false_and, acceptable, anew, absent,
    Bool.not_false, Bool.true_or, if_true]
  rfl

theorem State.takeConfigAck_of_present {s : State} {r kind : Nat} (slot : Nat) (identified : (s.relay r).identified = true)
    (other : kind ≠ 0) (present : s.relayPresent r = true) : s.takeConfigAck r kind 0 slot =
      s.modRelay r (fun x => { x with acks := if kind ∈ x.acks then x.acks else x.acks ++ [kind] }) := by
  unfold State.takeConfigAck
  dsimp only
  rw [if_neg (by simp [identified]), if_neg (by simp), if_neg other]
  exact if_pos (.inl present)

/-- Settles O27: each row's guard holds. -/
theorem sheetRowsComplete : Obligations.SheetRowsComplete := by
  refine ⟨?frame, ?train, ?next, ?old, ?replay, ?identity, ?ack, ?alert, ?port, ?loss⟩
  case frame =>
    rintro s u w v t r data0 data1 crc0 crc1 rfl ok0 ok1 rfl rfl present use1 f slot fresh z z
    exact congrArg Host.Outcome.next (if_neg (not_or.mpr ⟨by rw [present]; decide, fresh⟩))
  case train =>
    rintro s u v t p b rfl free gives woken
    exact ⟨exec_sheetTrainFrame_good free gives woken, exec_sheetTrainFrame_bad free gives woken⟩
  case next =>
    rintro s u v w t p b k x rfl noSack noNak data next rfl
    exact ⟨fun m joined => exec_sideSlice_next noSack noNak data next joined, fun joined => exec_sideSlice_next noSack noNak data next joined⟩
  case old =>
    rintro s u t p b x ahead rfl noSack noNak identified old
    exact exec_sideSlice_old noSack noNak identified old
  case replay =>
    rintro s u t r rfl waits late
    exact exec_of_guard rfl ⟨by simpa using waits, late⟩
  case identity =>
    rintro s u v t p m r rfl rfl open_ ident acceptable anew absent w
    exact congrArg (fun z => settled (.next z)) (State.takeRelayIdentity_arrives open_ ident acceptable anew absent)
  case ack =>
    rintro s u t r kind slot rfl identified other present
    exact congrArg (fun z => settled (.next z)) (State.takeConfigAck_of_present slot identified other present)
  case alert =>
    rintro s u t r code severity detail rfl
    rfl
  case port =>
    rintro s u t x rfl late
    exact exec_of_guard rfl late
  case loss =>
    rintro s u t r rfl due present down
    exact exec_of_guard rfl ⟨due, present, by simp [down]⟩

end Sys2Proof.Machine
end

section
/-! The rows of the sequencer (R231–R268). -/

namespace Sys2Proof.Machine

/-- What a record of a first fault says does not depend on the timers. -/
theorem State.stampFault_disarm (s : State) (x : T) (kind : Nat) (f : Failure) (n : Nat) :
    (s.disarm x).stampFault kind f n = s.stampFault kind f n := rfl

/-- Settles O28: each row's guard holds. -/
theorem sequencerRowsComplete : Obligations.SequencerRowsComplete := by
  refine ⟨?sample, ?start, ?enable, ?good, ?disable, ?offDeadline, ?startWait, ?discharged, ?timeout, ?firstFault, ?restart⟩
  case sample =>
    rintro s u t samples rfl xs
    rfl
  case start =>
    rintro s u t scope r rfl waits ready relays
    have row : exec (.seqRunStart t scope) s = execSeqRunStart t scope s := rfl
    rw [row, execSeqRunStart]
    simp only [waits]
    refine congrArg Host.Outcome.next (if_neg ?_)
    rintro (early | ⟨alone, missing⟩)
    · simp [ready] at early
    · obtain joint | here := relays
      · simp [joint] at alone
      · obtain ⟨i, inside, accel, gone⟩ := by simpa using missing
        rw [here i inside accel] at gone
        cases gone
  case enable =>
    rintro s u t rail r e tau rfl runs entry tau_ on off free slot
    have row : exec (.railEnableSlot t rail) s = execRailEnableSlot t rail s := rfl
    rw [row, execRailEnableSlot]
    simp only [runs, entry, tau_]
    exact congrArg Host.Outcome.next (if_pos ⟨on, by simp [off], by simp [free], slot⟩)
  case good =>
    rintro s u t rail d rfl deadline past on never
    have row : exec (.goodDeadlineExpiry t rail) s = execGoodDeadlineExpiry t rail s := rfl
    rw [row, execGoodDeadlineExpiry]
    simp only [deadline]
    exact congrArg Host.Outcome.next (if_pos ⟨past, on, by simp [never]⟩)
  case disable =>
    rintro s u t rail r e sigma rfl runs sigma_ rfl slot
    have row : exec (.railDisableSlot t rail) s = execRailDisableSlot t rail s := rfl
    rw [row, execRailDisableSlot]
    simp only [runs, sigma_]
    exact congrArg Host.Outcome.next (if_pos slot)
  case offDeadline =>
    rintro s u t rail e d rfl rfl off holds past
    have row : exec (.offDeadlineExpiry t rail) s = execOffDeadlineExpiry t rail s := rfl
    rw [row, execOffDeadlineExpiry]
    simp only [off]
    exact congrArg Host.Outcome.next (if_pos ⟨holds, past⟩)
  case startWait =>
    rintro s u t scope rfl waits due
    exact exec_of_guard rfl ⟨waits, due⟩
  case discharged =>
    rintro s u t scope rfl discharging all past
    exact exec_of_settled_guard rfl ⟨discharging, all, past⟩
  case timeout =>
    rintro s u t scope k rfl discharging due charged
    refine (exec_of_guard rfl ⟨discharging, due⟩).trans ?_
    dsimp only
    rw [charged]
  case firstFault =>
    rintro s u t f rfl due failing
    refine (exec_of_guard rfl due).trans ?_
    dsimp only
    rw [failing, State.stampFault_disarm]
  case restart =>
    rintro s u t rfl wanted automatic back main standby settled v
    have row := exec_of_guard (c := .autoRestart t) (s := s) rfl ⟨wanted, automatic,
      List.all_eq_true.mpr fun i hi => decide_eq_true (back i hi), main, standby, settled⟩
    exact ⟨fun latched => row.trans (congrArg Host.Outcome.next (if_pos latched)),
      fun open_ many => row.trans (congrArg Host.Outcome.next ((if_neg open_).trans (if_pos many))),
      fun open_ few => row.trans (congrArg Host.Outcome.next ((if_neg open_).trans (if_neg (not_le.mpr few))))⟩

end Sys2Proof.Machine
end

section
/-! What the sequencer's requests leave, said once per request (R241–R271). -/

namespace Sys2Proof.Machine

theorem doStartSequence_of_off {s : State} {a : Arrival} (accel : objCls a.hdr.object = 2) (running : s.get .powerState = psRunning)
    (free : s.keptOff (objIdx a.hdr.object) = false) (off : s.scope (objIdx a.hdr.object) = 0) : doStartSequence a s =
      ((s.beginWait [objIdx a.hdr.object] false false).awaitStart (s.originOf a .startSequence) [objIdx a.hdr.object], .accepted []) := by
  unfold doStartSequence
  dsimp only
  rw [if_neg (fun h => h.1 accel), if_neg (not_not.mpr running), if_pos accel, free, off]
  rfl

section
variable {s : State} {a : Arrival} (accel : objCls a.hdr.object = 2) (other : a.hdr.object ≠ oDevice)
include accel other

theorem doStopSequence_of_stopped (stopped : (s.stopScopes [objIdx a.hdr.object] 0).scope (objIdx a.hdr.object) ≠ 4) :
    doStopSequence a s = (s.stopScopes [objIdx a.hdr.object] 0, .st .ok) := by
  unfold doStopSequence
  simp [accel, other, stopped]

theorem doStopSequence_of_stopping (stopping : (s.stopScopes [objIdx a.hdr.object] 0).scope (objIdx a.hdr.object) = 4) :
    doStopSequence a s = ({ s.stopScopes [objIdx a.hdr.object] 0 with stops := (s.stopScopes [objIdx a.hdr.object] 0).stops ++
      [({ origin := s.originOf a .stopSequence, scopes := [objIdx a.hdr.object] } : StopCmd)] }, .accepted []) := by
  unfold doStopSequence
  simp [accel, other, stopping]

end

section
variable {s : State} {a : Arrival} {e : SeqEntry} (rail : objCls a.hdr.object = 5) (sequenced : s.entryOf (objIdx a.hdr.object) = some e)
  (held : (s.rail (objIdx a.hdr.object)).heldOff = true)
include rail sequenced held

theorem doEnableRail_of_up (up : s.scope (scopeOf (objIdx a.hdr.object)) = 3) : doEnableRail a s =
    ((((s.beginApply (s.originOf a .enableRail)).modRail (objIdx a.hdr.object) (fun x => { x with heldOff := false })).enableRail
      (objIdx a.hdr.object) e).modRail (objIdx a.hdr.object) (fun x => { x with enableCmd := some (s.originOf a .enableRail) }), .accepted []) := by
  unfold doEnableRail
  simp only [rail, ne_eq, not_true_eq_false, if_false, sequenced, held, Bool.not_true, Bool.false_eq_true, up]

theorem doEnableRail_of_off (off : s.scope (scopeOf (objIdx a.hdr.object)) = 0) :
    doEnableRail a s = (s.modRail (objIdx a.hdr.object) (fun x => { x with heldOff := false }), .st .ok) := by
  unfold doEnableRail
  simp only [rail, ne_eq, not_true_eq_false, if_false, sequenced, held, Bool.not_true, Bool.false_eq_true, off]

end

theorem doDisableRail_of_enabled {s : State} {a : Arrival} (rail : objCls a.hdr.object = 5) (alone : (s.rail (objIdx a.hdr.object)).enableCmd = none)
    (on : (s.rail (objIdx a.hdr.object)).enabled = true) : doDisableRail a s =
      (((((s.modRail (objIdx a.hdr.object) (fun x => { x with heldOff := true, enableCmd := none, offHold := false })).disableRail
        (objIdx a.hdr.object)).dropOffRail (objIdx a.hdr.object)).rehold.offNext.checkUp (scopeOf (objIdx a.hdr.object))), .st .ok) := by
  unfold doDisableRail
  simp only [rail, ne_eq, not_true_eq_false, if_false, alone, on, if_true]

theorem doLoadSequence_of_valid {s : State} {a : Arrival} {table : Nat} (generation : Nat) {entries : List SeqEntry}
    (device : a.hdr.object = oDevice) (named : table = a.hdr.property) (known : table ≤ 7) (some_ : entries ≠ []) (most : entries.length ≤ 320)
    (valid : entries.findIdx? (s.badEntry entries) = none)
    (deadlines : entries.any (fun e => decide (e.goodDeadline = 0 ∨ 65535 < e.goodDeadline)) = false) (inactive : table ≠ s.getN .activeTable) :
    doLoadSequence a table generation entries s =
      ({ s.draw.2 with tables := s.draw.2.tables.put {} table { generation, entries } }, .done .ok [u32 s.draw.1]) := by
  unfold doLoadSequence
  rw [if_neg (not_not.mpr device), if_neg (by simp [← named, some_]; omega), valid]
  dsimp only
  rw [if_neg (by rw [deadlines]; decide), if_neg fun h => inactive h.1]

/-- Settles O29: each request reaches its effect, which its conditions decide. -/
theorem sequenceRequestsComplete : Obligations.SequenceRequestsComplete := by
  refine ⟨?start, ?stop, ?enable, ?disable, ?load, ?read, ?clear⟩
  case start =>
    intro s u a o opens accel running free off
    exact exec_of_request rfl opens (doStartSequence_of_off accel running free off) rfl
  case stop =>
    intro s u a o opens accel other v
    exact ⟨fun stopped => exec_of_request rfl opens (doStopSequence_of_stopped accel other stopped) rfl,
      fun stopping => exec_of_request rfl opens (doStopSequence_of_stopping accel other stopping) rfl⟩
  case enable =>
    intro s u a o e k opens rail sequenced held
    exact ⟨fun up => exec_of_request rfl opens (doEnableRail_of_up rail sequenced held up) rfl,
      fun off => exec_of_request rfl opens (doEnableRail_of_off rail sequenced held off) rfl⟩
  case disable =>
    intro s u a o k opens rail alone on
    exact exec_of_request rfl opens (doDisableRail_of_enabled rail alone on) rfl
  case load =>
    intro s u a o table generation entries opens device named known some_ most valid deadlines inactive
    exact ⟨_, _, rfl, exec_of_request rfl opens
      (doLoadSequence_of_valid generation device named known some_ most valid deadlines inactive) rfl⟩
  case read =>
    intro s u a o start count opens least most rs
    exact exec_of_request rfl opens (if_neg (by omega)) rfl
  case clear =>
    intro s u a o opens
    refine ⟨u.draw.2.draw.2, _, ?rail, ?scope, rfl, exec_of_request rfl opens (effect := rfl) rfl⟩
    · rfl
    · rfl

end Sys2Proof.Machine
end

section
/-! The rows of the budget's epochs, of the rack and of grants (R318–R341, R430). -/

namespace Sys2Proof.Machine

/-- What a settled node's GRANT reads. -/
theorem State.get_grant_settleNode (s : State) (n : Nat) : (s.settleNode n).get .grant n = s.grantAt n s.now := by
  have kept (s : State) (n : Nat) (f : NodeSt → NodeSt) (p : P) (i : Nat) : (s.modNode n f).get p i = s.get p i := rfl
  unfold State.settleNode
  dsimp only
  rw [kept, State.get_put, if_neg (by simp), State.get_put, if_pos ⟨rfl, rfl⟩]

/-- Settles O30: each row's guard holds. -/
theorem budgetRowsComplete : Obligations.BudgetRowsComplete := by
  refine ⟨?accel, ?tray, ?rack, ?installation, ?effective, ?send, ?hello, ?report, ?grant, ?hold, ?other⟩
  case accel =>
    rintro s u t a rfl splits regulated due v x l
    exact congrArg Host.Outcome.next (if_neg (by simp [splits, Option.ne_none_iff_isSome.mpr regulated, due]))
  case tray =>
    rintro s u t rfl due
    exact exec_of_guard rfl due
  case rack =>
    rintro s u t rfl splits leads due
    exact congrArg Host.Outcome.next (if_neg (by simp [splits, leads, due]))
  case installation =>
    rintro s u t rfl splits ratline masthead due
    exact congrArg Host.Outcome.next (if_neg (by simp [splits, ratline, masthead, due]))
  case effective =>
    rintro s u t n rfl
    exact ⟨rfl, rfl, State.get_grant_settleNode _ _⟩
  case send =>
    rintro s u t rfl ratline body ports
    exact exec_of_guard rfl ratline
  case hello =>
    rintro s u t p m rfl rack other hops h v
    refine congrArg Host.Outcome.next ((if_neg ?_).trans (congrArg State.rackElect (if_pos (.inr hops))))
    exact not_or.mpr ⟨not_not.mpr rack, other⟩
  case report =>
    rintro s u t m rfl level leads rack none_
    refine congrArg Host.Outcome.next ((if_pos level).trans ((if_pos ⟨leads, rack⟩).trans ?_))
    rw [none_]
    rfl
  case grant =>
    rintro s u t m rfl here newer timed level leader
    have accepted : ¬ ((m.serial : Int) ≠ (s.tick t).var .serial ∨ !(s.tick t).newerEpoch m.level m.epoch ∨ 1 < m.level ∨
        (s.tick t).timeState < 2) := by
      rw [level, newer]
      rintro (h | h | h | h)
      · exact h here
      · cases h
      · omega
      · omega
    exact congrArg Host.Outcome.next ((if_neg accepted).trans ((if_pos level).trans (if_pos leader)))
  case hold =>
    rintro s u t level rfl due mine
    exact exec_of_guard rfl ⟨due, mine⟩
  case other =>
    intro s u a o v opens node leads inside
    have effect : setRackOther v (writeIndex a .rackOther) u = (u.put .rackOther nodeRack v, .st .ok) := by
      rw [node]
      exact (if_neg (by simp)).trans ((if_neg (by simp [leads])).trans (if_neg (not_lt.mpr inside)))
    exact exec_of_write rfl opens effect rfl

end Sys2Proof.Machine
end

section
/-! The rows of fast protection and of compliance (R62, R326, R345–R350). -/

namespace Sys2Proof.Machine

/-- R345: an accelerator above its grant by more than the margin for COMPLY_TIME, not counted yet, is over its grant. -/
theorem exec_complianceCheck_over {s u : State} {t : Ns} {a : Fin 8} {g : Int} (arrived : u = s.tick t)
    (grant : g = u.grantAt (nodeAccel a.val) u.now) (above : ((g * (1000 + u.get .complyMargin) : Int) : Rat) / 1000 < u.outputPower a.val 4)
    (exceeds : (g : Rat) < u.outputPower a.val 4) (since : 0 ≤ u.var .reefOver a.val) (fresh : u.flag .reefOverDone a.val = false)
    (long : u.varN .reefOver a.val + u.getN .complyTime * us ≤ u.now) (regulated : (u.regTile a.val).isSome) :
    exec (.complianceCheck t a) s =
      .next (((u.setV .reefOver a.val (u.var .reefOver a.val)).setV .reefUnder a.val (-1)).overGrant a.val (u.outputPower a.val 4) g) := by
  have row : exec (.complianceCheck t a) s = execComplianceCheck t a s := rfl
  have flag : ((u.setV .reefOver a.val (u.var .reefOver a.val)).setV .reefUnder a.val (-1)).flag .reefOverDone a.val = false :=
    (State.flag_eq_of_var (by simp)).trans fresh
  have same : ((u.setV .reefOver a.val (u.var .reefOver a.val)).setV .reefUnder a.val (-1)).varN .reefOver a.val = u.varN .reefOver a.val := by
    unfold State.varN
    rw [State.var_setV, if_neg (by simp), State.var_setV, if_pos ⟨rfl, rfl⟩]
  have tile : (((u.setV .reefOver a.val (u.var .reefOver a.val)).setV .reefUnder a.val (-1)).regTile a.val).isNone = false :=
    Option.isNone_eq_false_iff.mpr regulated
  rw [row, execComplianceCheck, ← arrived]
  simp only [← grant, decide_eq_true above, if_true, if_neg (not_lt.mpr since), Bool.not_true, State.when, Bool.false_eq_true, if_false,
    if_neg (not_le.mpr exceeds), tile, flag, same]
  exact congrArg Host.Outcome.next (if_pos ⟨trivial, by simp, long⟩)

theorem State.get_fastEvent (s : State) (stage mask : Nat) {p : P} (i : Nat) (recorder : P.recState ≠ p) (acknowledged : P.ackCsn ≠ p) :
    (s.fastEvent stage mask).get p i = s.get p i := by
  unfold State.fastEvent
  dsimp only
  rw [State.get_raiseSafety _ _ _ _ _ _ recorder, State.get_journalSafety _ _ _ _ _ acknowledged, State.get_whole, State.get_whole]

/-- Settles O31: each row's guard holds. -/
theorem fastRowsComplete : Obligations.FastRowsComplete := by
  refine ⟨?sense, ?stage2, ?furl, ?release, ?fastStep, ?complyStep, ?compliance, ?duration⟩
  case sense =>
    rintro s u t feeds grid rfl runs
    exact (exec_of_guard rfl grid).trans (congrArg Host.Outcome.next (if_pos runs))
  case stage2 =>
    rintro s u v w t mask rfl due input rfl above raised
    refine (exec_of_guard rfl ⟨due, input⟩).trans (congrArg Host.Outcome.next ((if_pos above).trans ?_))
    have time : (w.fastEvent 2 mask).getN .fastFurlTime = w.getN .fastFurlTime := by
      unfold State.getN
      rw [State.get_fastEvent _ _ _ _ (by decide) (by decide)]
    rw [raised, time]
  case furl =>
    rintro s u v t rfl due input rfl above
    exact (exec_of_guard rfl ⟨due, input⟩).trans (congrArg Host.Outcome.next (if_pos above))
  case release =>
    rintro s u t rfl due low
    exact exec_of_guard rfl ⟨due, low⟩
  case fastStep =>
    rintro s u t rfl due stepping
    exact exec_of_guard rfl ⟨due, stepping⟩
  case complyStep =>
    rintro s u t a rfl due under old v
    exact exec_of_guard rfl ⟨due, under, old⟩
  case compliance =>
    rintro s u v t a g arrived grant above exceeds since fresh long regulated rfl
    exact exec_complianceCheck_over arrived grant above exceeds since fresh long regulated
  case duration =>
    rintro s u t a rfl due
    exact exec_of_guard rfl due

end Sys2Proof.Machine
end

section
/-! What the budget's requests leave, said once per request (R323, R334, R338). -/

namespace Sys2Proof.Machine

section
variable {s : State} {a : Arrival} (node : objCls a.hdr.object = 0x14)
include node

section
variable {v : Int} (inRange : okPower (objIdx a.hdr.object) v = true) (here : s.foreignNode (objIdx a.hdr.object) = none)
include inRange here

theorem doSetBudget_of_below (below : v < s.get .minGrant (objIdx a.hdr.object)) : doSetBudget a v s = (s, .st .budgetBelowMin) := by
  unfold doSetBudget
  simp only [node, inRange, here, if_pos below]
  rfl

theorem doSetBudget_of_inBounds (least : s.get .minGrant (objIdx a.hdr.object) ≤ v) : doSetBudget a v s =
    (((s.put .limit (objIdx a.hdr.object) v).modNode (objIdx a.hdr.object) (fun x =>
      if decide ((if s.isGranted (objIdx a.hdr.object) then min v (s.get .grant (objIdx a.hdr.object)) else v) <
        s.capAt (objIdx a.hdr.object) s.now) then { x with lims := x.lims ++ [(s.now + decLead (objIdx a.hdr.object), s.get .limit (objIdx a.hdr.object))] }
      else { x with lims := [] })).settleNode (objIdx a.hdr.object), .st .ok) := by
  unfold doSetBudget
  simp only [node, inRange, here, if_neg (not_lt.mpr least)]
  rfl

/-- R323: where the cap does not fall, no earlier limit holds on. -/
theorem doSetBudget_of_raised (least : s.get .minGrant (objIdx a.hdr.object) ≤ v)
    (raised : s.capAt (objIdx a.hdr.object) s.now ≤ (if s.isGranted (objIdx a.hdr.object) then min v (s.get .grant (objIdx a.hdr.object)) else v)) :
    doSetBudget a v s =
      (((s.put .limit (objIdx a.hdr.object) v).modNode (objIdx a.hdr.object) (fun x => { x with lims := [] })).settleNode
        (objIdx a.hdr.object), .st .ok) := by
  rw [doSetBudget_of_inBounds node inRange here least]
  simp only [decide_eq_false (not_lt.mpr raised), Bool.false_eq_true, if_false]

/-- R323: where the cap falls, the old limit holds for the node's lead. -/
theorem doSetBudget_of_lowered (least : s.get .minGrant (objIdx a.hdr.object) ≤ v)
    (lowered : (if s.isGranted (objIdx a.hdr.object) then min v (s.get .grant (objIdx a.hdr.object)) else v) < s.capAt (objIdx a.hdr.object) s.now) :
    doSetBudget a v s =
      (((s.put .limit (objIdx a.hdr.object) v).modNode (objIdx a.hdr.object) (fun x => { x with
        lims := x.lims ++ [(s.now + decLead (objIdx a.hdr.object), s.get .limit (objIdx a.hdr.object))] })).settleNode
        (objIdx a.hdr.object), .st .ok) := by
  rw [doSetBudget_of_inBounds node inRange here least]
  simp only [decide_eq_true lowered, if_true]

theorem doSetMinGrant_of_inBounds (root : objIdx a.hdr.object ≠ 0) (most : v ≤ s.get .limit (objIdx a.hdr.object))
    (bounded : s.minBound (objIdx a.hdr.object) v = true) : doSetMinGrant a v s = (s.put .minGrant (objIdx a.hdr.object) v, .st .ok) := by
  unfold doSetMinGrant
  simp only [node, inRange, here, root, if_neg (not_lt.mpr most), bounded]
  rfl

end

theorem doSetWeight_of_inRange {w : Nat} (level : 8 ≤ objIdx a.hdr.object) (least : 1 ≤ w) (most : w ≤ 255) :
    doSetWeight a w s = (s.put .weight (objIdx a.hdr.object) w, .st .ok) := by
  unfold doSetWeight
  rw [if_neg (not_not.mpr node), if_neg (not_lt.mpr level), if_neg (by omega)]

theorem doReadGrants_of_domain {v : State} {own : List Fld} (domain : 256 ≤ objIdx a.hdr.object)
    (here : s.foreignNode (objIdx a.hdr.object) = none) (record : s.grantRecord (objIdx a.hdr.object) = (own, v)) :
    doReadGrants a s = (v, .done .ok ([u64 (s.now / (2 * us) * (2 * us) : Nat), u32 1, u32 0] ++ own)) := by
  have now : v.now = s.now := by
    have kept := State.now_whole s (s.node (objIdx a.hdr.object)).deficit
    rwa [← show v = (s.whole (s.node (objIdx a.hdr.object)).deficit).2 from congrArg Prod.snd record.symm] at kept
  unfold doReadGrants
  generalize objIdx a.hdr.object = n at *
  have kind : n ≠ 0 ∧ n ≠ 1 ∧ n ≠ 2 ∧ ¬ n < 16 := by omega
  obtain ⟨root, rack, tray, accel⟩ := kind
  simp [node, here, record, root, rack, tray, accel, now]

end

theorem doReef_of_targets {s : State} {a : Arrival} {level duration : Nat} {l : List Nat} (targets : s.reefTargets a.hdr.object = some l)
    (known : level ≤ 7) (long : duration = 0 ∨ (10 ≤ duration ∧ duration ≤ 60000000)) : doReef a level duration s =
      (s.each l (fun s x => (s.setT .reefCmd x (if duration = 0 then none else some (s.now + duration * us))).setReef x 2 level), .st .ok) := by
  unfold doReef
  rw [targets]
  exact if_neg (by omega)

theorem doReleaseReef_of_targets {s : State} {a : Arrival} {l : List Nat} (targets : s.reefTargets a.hdr.object = some l) :
    doReleaseReef a s = (s.each l (fun s x => (s.disarm .reefCmd x).clearReef x 2), .st .ok) := by
  unfold doReleaseReef
  rw [targets]

/-- Settles O32: each request reaches its effect, which its conditions decide. -/
theorem budgetRequestsComplete : Obligations.BudgetRequestsComplete := by
  refine ⟨?budget, ?below, ?weight, ?minGrant, ?grants, ?reef, ?release⟩
  case budget =>
    intro s u a o v n opens node inRange here least
    exact ⟨fun raised => exec_of_request rfl opens (doSetBudget_of_raised node inRange here least raised) rfl,
      fun lowered => exec_of_request rfl opens (doSetBudget_of_lowered node inRange here least lowered) rfl⟩
  case below =>
    intro s u a o v n reached node inRange here below
    exact congrArg Host.Outcome.next (State.request_of_failed _ reached (doSetBudget_of_below node inRange here below) rfl)
  case weight =>
    intro s u a o w n opens node level least most
    exact exec_of_request rfl opens (doSetWeight_of_inRange node level least most) rfl
  case minGrant =>
    intro s u a o v n opens node root inRange here most bounded
    exact exec_of_request rfl opens (doSetMinGrant_of_inBounds node inRange here root most bounded) rfl
  case grants =>
    intro s u v a o own n opens node domain here record
    exact exec_of_request rfl opens (doReadGrants_of_domain node domain here record) rfl
  case reef =>
    intro s u a o level duration l opens targets known long
    exact exec_of_request rfl opens (doReef_of_targets targets known long) rfl
  case release =>
    intro s u a o l opens targets
    exact exec_of_request rfl opens (doReleaseReef_of_targets targets) rfl

end Sys2Proof.Machine
end

section
/-! The rows of the forecast, of training and of the shelf (R368–R400). -/

namespace Sys2Proof.Machine

section
variable {s : State} {t : Ns} {d : Fin 256} {x : TrainSample} {m : Nat} {rest : List TrainSample}
  (samples : ((s.tick t).fcDom d.val).samples = x :: rest) (slot : (s.tick t).slotOf d.val = some m) (old : x.at_ + 256 * us ≤ (s.tick t).now)
include samples slot old

theorem exec_trainingSampleComplete_dropped : exec (.trainingSampleComplete t d false) s =
    .next (((s.tick t).modFc d.val (fun x => { x with samples := rest })).modModel m (fun x => { x with dropped := x.dropped + 1 })) := by
  have row : exec (.trainingSampleComplete t d false) s = execTrainingSampleComplete t d false s := rfl
  rw [row, execTrainingSampleComplete]
  simp only [samples, slot, if_neg (not_lt.mpr old), Bool.false_eq_true, false_and, if_false]

/-- R393: a sample carried to a slot that trains enters its ring; where no hint was used, no tag is taken. -/
theorem exec_trainingSampleComplete_taken {v : State} (open_ : v = (s.tick t).modFc d.val (fun x => { x with samples := rest }))
    (trains : v.trains m = true) (unused : v.hintUsed (d.val / 32) = false) : exec (.trainingSampleComplete t d true) s =
      .next (v.modModel m (fun y => { y with
        samples := y.samples + 1, ring := min (y.ring + 1) ringSamples
        store := ({ x with realised := v.realisedAt d.val x.at_, num := y.samples + 1 } :: y.store).take ringSamples })) := by
  have row : exec (.trainingSampleComplete t d true) s = execTrainingSampleComplete t d true s := rfl
  rw [row, execTrainingSampleComplete]
  simp only [samples, slot, if_neg (not_lt.mpr old), ← open_, trains, unused, Bool.false_eq_true, false_and, if_false, true_and, if_true]

end

theorem exec_modelSwitchInstant_one {s : State} {t : Ns} {x : Switch} (waits : (s.tick t).switches = [x]) (due : x.at_ ≤ (s.tick t).now) :
    exec (.modelSwitchInstant t) s = .next (match x.mask, x.gen with
      | some mask, _ => ({ s.tick t with switches := [] } : State).applyBinding x.slot mask x.at_
      | none, some g => ({ s.tick t with switches := [] } : State).applyGen x.slot g
      | none, none => { s.tick t with switches := [] }) := by
  have row : exec (.modelSwitchInstant t) s = execModelSwitchInstant t s := rfl
  rw [row, execModelSwitchInstant]
  simp only [waits, List.filter_cons, due, decide_true, if_true, List.filter_nil, Bool.not_true, Bool.false_eq_true, if_false, State.each,
    List.foldl_cons, List.foldl_nil] <;> rfl

/-- Settles O33: each row's guard holds. -/
theorem forecastRowsComplete : Obligations.ForecastRowsComplete := by
  refine ⟨?step, ?publish, ?test, ?dropped, ?taken, ?minibatch, ?candidate, ?binding, ?generation, ?error, ?write, ?restore, ?verify⟩
  case step =>
    rintro s u t rfl steps whole
    exact congrArg Host.Outcome.next (if_neg (not_or.mpr ⟨steps, not_not.mpr whole⟩))
  case publish =>
    rintro s u t rfl begun
    exact congrArg Host.Outcome.next (if_neg (not_lt.mpr begun))
  case test =>
    rintro s u v t tile test rfl rfl here works feature
    exact congrArg Host.Outcome.next (if_neg (by simp [here, works, feature]))
  case dropped =>
    rintro s u t d x m rest rfl samples slot old
    exact exec_trainingSampleComplete_dropped samples slot old
  case taken =>
    rintro s u v t d x m rest rfl samples slot old open_ trains unused
    exact exec_trainingSampleComplete_taken samples slot old open_ trains unused
  case minibatch =>
    rintro s u t m rfl trains mode some_
    exact exec_of_guard rfl ⟨trains, mode, some_, rfl⟩
  case candidate =>
    rintro s u t m rfl due trains mode many
    exact congrArg Host.Outcome.next ((if_neg (by simp [due])).trans ((if_neg (by simp [trains, mode])).trans (if_neg (not_lt.mpr many))))
  case binding =>
    rintro s u t x mask rfl waits due binds
    rw [exec_modelSwitchInstant_one waits due, binds]
  case generation =>
    rintro s u t x g rfl waits due none_ gen
    rw [exec_modelSwitchInstant_one waits due, none_, gen]
  case error =>
    rintro s u t rfl whole
    exact congrArg Host.Outcome.next (if_neg (not_not.mpr whole))
  case write =>
    rintro s u v t m rfl due persists never there rfl
    exact exec_of_guard rfl ⟨due, persists, by rw [never]; rfl, by simpa using there⟩
  case restore =>
    rintro s u v t rfl fresh running main mizzen feature rfl
    refine congrArg Host.Outcome.next (if_neg ?_)
    simp only [fresh, running, feature, List.all_cons, main, mizzen]
    simp
  case verify =>
    rintro s u t m o x r rfl ending verifying fresh kept
    have row : exec (.modelVerifyDone t m) s = execModelVerifyDone t m s := rfl
    rw [row, execModelVerifyDone]
    have checks : ¬ (((s.tick t).model m.val).keep = true ∧ (s.tick t).nandLost = true) := by
      rintro ⟨keeps, lost⟩
      obtain h | h := kept
      · exact Bool.false_ne_true (h.symm.trans keeps)
      · exact Bool.false_ne_true (h.symm.trans lost)
    simp only [show ((s.tick t).model m.val).ending = some o from ending]
    rw [if_neg (not_or.mpr ⟨not_not.mpr verifying, fresh⟩), if_neg checks]

end Sys2Proof.Machine
end

section
/-! What the forecast's requests and writes leave, said once per request (R378–R403). -/

namespace Sys2Proof.Machine

section
variable {s : State} {a : Arrival} (model : objCls a.hdr.object = 0x13)
include model

section
variable (free : (s.model (objIdx a.hdr.object)).holder = none)
include free

theorem doLoadModel_start {total : Nat} (first : a.hdr.property = 0) (least : 1 ≤ total) (most : total ≤ 4194304)
    (empty : s.get .modelState (objIdx a.hdr.object) = slEmpty) : doLoadModel a (.start total 0 0) s =
      (((((s.dropPromotion (objIdx a.hdr.object)).modModel (objIdx a.hdr.object) (fun y => { y with
        holder := some (s.originOf a .loadModel), prior := (s.get .modelState (objIdx a.hdr.object)).toNat, total, keep := false,
        parts := [] })).hold (s.originOf a .loadModel) [oModel (objIdx a.hdr.object)]).setSlot (objIdx a.hdr.object) slLoading), .st .ok) := by
  unfold doLoadModel
  dsimp only
  rw [if_neg (not_not.mpr model), free, if_neg (by simp), first]
  exact (if_neg (by omega)).trans ((if_neg (by simp)).trans ((if_neg (not_lt.mpr most)).trans (if_neg (fun h => h.1 empty))))

theorem doLoadModel_end (last : a.hdr.property = 2) (loading : s.get .modelState (objIdx a.hdr.object) = slLoading) : doLoadModel a .none s =
    (((s.modModel (objIdx a.hdr.object) (fun y => { y with ending := some (s.originOf a .loadModel) })).setSlot (objIdx a.hdr.object) slVerifying),
      .accepted []) := by
  unfold doLoadModel
  dsimp only
  rw [if_neg (not_not.mpr model), free, if_neg (by simp), last]
  exact if_neg (not_not.mpr loading)

end

theorem doActivateModel_of_loaded {mask : Nat} (loaded : s.get .modelState (objIdx a.hdr.object) = slLoaded)
    (there : ∀ d < 256, mask.testBit d → s.hasDomain d) (room : s.noCapacity (objIdx a.hdr.object) mask = none) :
    doActivateModel a mask s = ({ s with switches := s.switches ++ [({ at_ := s.switchInstant, csn := s.replyCsn (s.originOf a .activateModel), slot := objIdx a.hdr.object, mask := some mask } : Switch)] }, .done .ok [u64 s.switchInstant]) := by
  have known : ¬ (List.range 256).any (fun d => mask.testBit d && !s.hasDomain d) = true := by
    simp only [List.any_eq_true, List.mem_range, Bool.and_eq_true, Bool.not_eq_true']
    rintro ⟨d, inside, named, gone⟩
    rw [there d inside named] at gone
    cases gone
  unfold doActivateModel
  dsimp only
  rw [if_neg (not_not.mpr model), if_neg (fun h => h.1 loaded), if_neg known, room]

theorem doRetireModel_of_unbound (loaded : s.get .modelState (objIdx a.hdr.object) = slLoaded) (unbound : s.boundTo (objIdx a.hdr.object) = []) :
    doRetireModel a s = ({ (s.dropPromotion (objIdx a.hdr.object)).emptySlot (objIdx a.hdr.object) with
      shelf := s.shelf.put {} (objIdx a.hdr.object) {} }, .st .ok) := by
  unfold doRetireModel
  dsimp only
  rw [if_neg (not_not.mpr model), if_neg (by simp [loaded, unbound])]

theorem doSetTraining_of_inRange {mode persist lr drift under margin interval sample lr' drift' under' margin' interval' sample' : Nat}
    (known : mode ≤ 3) (flag : persist ≤ 1) (there : (s.model (objIdx a.hdr.object)).bytes ≠ [])
    (trainable : cTrainable (s.model (objIdx a.hdr.object)).bytes = true) (stacked : [0, 1, 2].any s.tileStacks = true)
    (rate : trainField lr (lrDefault (s.model (objIdx a.hdr.object)).bytes) 1 (lrMax (s.model (objIdx a.hdr.object)).bytes) 1 = some lr')
    (drifts : trainField drift (driftLimit (s.model (objIdx a.hdr.object)).bytes) 1 (driftLimit (s.model (objIdx a.hdr.object)).bytes) 1 = some drift')
    (unders : trainField under 20 10 (underMax (s.model (objIdx a.hdr.object)).bytes) 1 = some under')
    (margins : trainField margin 20 1 500 1 = some margin') (intervals : trainField interval 10000 1000 3600000 1000 = some interval')
    (samples : trainField sample 256 16 65536 16 = some sample') (unshelved : (s.shelf.get {} (objIdx a.hdr.object)).bytes = [])
    (unchanged : (s.model (objIdx a.hdr.object)).training.mode = mode) :
    doSetTraining a mode persist lr drift under margin interval sample s =
      ((((s.modModel (objIdx a.hdr.object) (fun x => { x with training := ⟨mode, persist, lr', drift', under', margin', interval', sample'⟩ })).disarm
        .candidate (objIdx a.hdr.object)).armCandidate (objIdx a.hdr.object)), .st .ok) := by
  have shelf (m : Nat) (f : Model → Model) : (s.modModel m f).shelf = s.shelf := rfl
  unfold doSetTraining
  dsimp only
  rw [if_neg (by simp [model]; omega), if_neg (by simp [there, trainable]), if_neg (by rw [stacked]; simp), rate, drifts, unders, margins, intervals,
    samples]
  dsimp only
  rw [shelf, unshelved, unchanged, if_pos (by rfl), State.when_of_false _ _ (by simp)]

end

theorem setTrainTile_of_off {s : State} {v : Int} {m : Nat} (stacked : s.tileStacks v.toNat = true)
    (off : ((s.windowed (fun s => s.put .trainTile m v)).model m).training.mode = 0) :
    setTrainTile v m s = (s.windowed (fun s => s.put .trainTile m v), .st .ok) := by
  unfold setTrainTile
  dsimp only
  rw [if_neg (by simp [stacked]), if_neg (by rw [off]; omega)]

/-- Settles O34: each request reaches its effect, which its conditions decide. -/
theorem forecastRequestsComplete : Obligations.ForecastRequestsComplete := by
  refine ⟨?load, ?verify, ?activate, ?retire, ?query, ?training, ?stats, ?tile, ?floor, ?lower⟩
  case load =>
    intro s u a o total m opens model first free least most empty v
    exact exec_of_request rfl opens (doLoadModel_start model free first least most empty) rfl
  case verify =>
    intro s u a o m opens model last free loading
    exact exec_of_request rfl opens (doLoadModel_end model free last loading) rfl
  case activate =>
    intro s u a o mask m opens model loaded there room
    exact exec_of_request rfl opens (doActivateModel_of_loaded model loaded there room) rfl
  case retire =>
    intro s u a o m opens model loaded unbound
    exact exec_of_request rfl opens (doRetireModel_of_unbound model loaded unbound) rfl
  case query =>
    intro s u a o opens
    refine ⟨fun domain => exec_of_request rfl opens (if_pos domain) rfl, fun accel => exec_of_request rfl opens ?_ rfl⟩
    exact (if_neg (by rw [accel]; decide)).trans (if_pos accel)
  case training =>
    intro s u v a o mode persist lr drift under margin interval sample lr' drift' under' margin' interval' sample' m b opens model known flag there
      trainable stacked rate drifts unders margins intervals samples unshelved unchanged e
    rw [e]
    exact exec_of_request rfl opens (doSetTraining_of_inRange model known flag there trainable stacked rate drifts unders margins intervals samples
      unshelved unchanged) rfl
  case stats =>
    intro s u a o m opens model some_
    exact ⟨_, exec_of_request rfl opens ((if_neg (not_not.mpr model)).trans (if_neg some_)) rfl⟩
  case tile =>
    intro s u a o v m opens stacked off
    exact exec_of_write rfl opens (setTrainTile_of_off stacked off) rfl
  case floor =>
    intro s u a o v opens rising
    exact exec_of_write rfl opens (if_neg (not_lt.mpr rising)) rfl
  case lower =>
    intro s u a v b accepted arrives lowers
    exact congrArg Host.Outcome.next (State.write_of_refused (setFcSvnFloor v) accepted arrives (by rw [setFcSvnFloor, if_pos lowers]; rfl))

end Sys2Proof.Machine
end

section
/-! The rows of lockstep (R411–R421). -/

namespace Sys2Proof.Machine

section
variable {s : State} {t : Ns} {group grid : Nat} {c : LockCmd}
  (waits : (s.tick t).lockCmds.find? (fun c => c.group = group ∧ c.ackDue.isSome ∧ !c.leave) = some c)
include waits

/-- Table 10.3: what the masthead's answer makes of a join that waits for it. -/
theorem exec_lockJoinAck_of_waiting (status : Nat) : exec (.lockJoinAck t group status grid) s = .next (match status with
    | 0 => State.lockEnter { s.tick t with lockCmds := (s.tick t).lockCmds.map (fun x => if x = c then { c with ackDue := none } else x) }
      { c with ackDue := none }
    | 1 => (s.tick t).lockDone c .lockGrid
    | _ => (s.tick t).lockDone c .lockGroupsFull) := by
  have row : exec (.lockJoinAck t group status grid) s = execLockJoinAck t group status grid s := rfl
  rw [row, execLockJoinAck]
  simp only [waits] <;> rfl

end

/-- Settles O35: each row's guard holds. -/
theorem lockstepRowsComplete : Obligations.LockstepRowsComplete := by
  refine ⟨?round, ?up, ?commitSend, ?commit, ?deadline, ?join, ?joinAck, ?timeout⟩
  case round =>
    rintro s u t rfl feature whole running
    refine congrArg Host.Outcome.next (if_neg ?_)
    rw [feature]
    simp [whole, running]
  case up =>
    rintro s u t p m rfl child this takes open_ unheard masthead long
    refine ⟨_, rfl, congrArg Host.Outcome.next ((if_neg ?_).trans ?_)⟩
    · simp only [child, this, takes, open_, unheard]
      simp
    · dsimp only
      rw [long, if_neg Bool.false_ne_true]
      exact if_pos masthead
  case commitSend =>
    rintro s u t rfl takes masthead open_ begun ready
    refine congrArg Host.Outcome.next ((if_neg ?_).trans (if_neg ?_))
    · simp only [takes, masthead, open_, not_lt.mpr begun]
      decide
    · simp only [Bool.not_eq_true, Bool.not_eq_false', Bool.or_eq_true, decide_eq_true_eq, or_assoc]
      exact ready
  case commit =>
    rintro s u t p m rfl parent
    exact exec_of_guard rfl parent
  case deadline =>
    rintro s u t rfl v
    rfl
  case join =>
    rintro s u t serial group grid src st rfl masthead feature answers
    have row : exec (.lockJoin t serial group grid src) s = execLockJoin t serial group grid src s := rfl
    refine ⟨_, (((if st = 0 then (s.tick t).tableAdd group grid else s.tick t).lockTable.find? (fun x => x.group = group)).elim 0
      (fun x => (x.grid : Int))), ?_, rfl⟩
    rw [row, execLockJoin]
    rw [if_neg (by rw [masthead, feature]; decide), answers]
    dsimp only
    generalize List.find? _ _ = entry
    cases entry <;> rfl
  case joinAck =>
    rintro s u t group status grid c rfl waits
    refine ⟨?_, ?_, fun other => ?_⟩
    · rintro rfl
      exact exec_lockJoinAck_of_waiting waits 0
    · rintro rfl
      exact exec_lockJoinAck_of_waiting waits 1
    · obtain ⟨n, rfl⟩ := Nat.exists_eq_add_of_le' other
      exact exec_lockJoinAck_of_waiting waits (n + 2)
  case timeout =>
    rintro s u t rfl
    rfl

end Sys2Proof.Machine
end

section
/-! What the requests of lockstep and of the phase plan leave, said once per request (R434, R435). -/

namespace Sys2Proof.Machine

/-! ### Groups -/

/-- The accelerators that a mask names. -/
def maskAccels (mask : Nat) : List Nat := (List.range 8).filter (fun i => mask.testBit i)

/-- What JOIN_GROUP asks of an accelerator (R434). -/
def State.joins (s : State) (grid i : Nat) : Prop :=
  s.hasAccel i = true ∧ s.isHeld (oAccel i) = false ∧ s.get .accelPresence i = 2 ∧ (s.varN .caps i).testBit 1 = true ∧ s.groupOf i = none ∧
    s.varN .fStep i ≠ 0 ∧ grid % s.varN .fStep i = 0

/-- A check that every element passes finds none that fails. -/
theorem not_any_of_forall {l : List Nat} {f : Nat → Bool} (none_ : ∀ i ∈ l, f i = false) : ¬ l.any f = true := by
  rw [Bool.not_eq_true]
  exact List.any_eq_false.mpr fun i hi => by rw [none_ i hi]; exact Bool.false_ne_true

section
variable {s : State} {a : Arrival} {mask : Nat} (group : objCls a.hdr.object = 0x15) (inRange : mask < 256)
include group inRange

section
variable {grid : Nat} (least : 1 ≤ grid) (most : grid ≤ 1000) (known : objIdx a.hdr.object ≠ 65535)
  (all : ∀ i ∈ maskAccels mask, s.joins grid i) (part : s.takesPart = true)
include least most known all part

theorem doJoinGroup_of_joins (room : s.isMasthead = true → s.joinTable (objIdx a.hdr.object) grid = some 0) :
    let c : LockCmd := { origin := s.originOf a .joinGroup, group := objIdx a.hdr.object, mask, grid }
    let v : State := s.hold (s.originOf a .joinGroup) ((maskAccels mask).map oAccel)
    doJoinGroup a mask grid s =
      if s.isMasthead ∧ s.joinTable (objIdx a.hdr.object) grid = some 0 then
        (({ v with lockCmds := v.lockCmds ++ [c] } : State).tableAdd (objIdx a.hdr.object) grid |>.lockEnter c, .accepted [])
      else (({ v with lockCmds := v.lockCmds ++ [{ c with ackDue := some (v.now + ms) }] } : State).ratTree 2 0x2A 0x0FFFFFFF 0
        [v.var .serial, objIdx a.hdr.object, grid], .accepted []) := by
  intro c v
  have there := not_any_of_forall (l := maskAccels mask) (f := fun i => !s.hasAccel i) (fun i hi => by simp [(all i hi).1])
  have free := not_any_of_forall (l := maskAccels mask) (f := fun i => s.isHeld (oAccel i)) (fun i hi => (all i hi).2.1)
  have present := not_any_of_forall (l := maskAccels mask) (f := fun i => decide (s.get .accelPresence i ≠ 2)) (fun i hi => by simp [(all i hi).2.2.1])
  have capable := not_any_of_forall (l := maskAccels mask) (f := fun i => !(s.varN .caps i).testBit 1) (fun i hi => by simp [(all i hi).2.2.2.1])
  have alone := not_any_of_forall (l := maskAccels mask) (f := fun i => (s.groupOf i).isSome) (fun i hi => by simp [(all i hi).2.2.2.2.1])
  have onGrid := not_any_of_forall (l := maskAccels mask) (f := fun i => decide (s.varN .fStep i = 0 ∨ grid % s.varN .fStep i ≠ 0))
    (fun i hi => by simp [(all i hi).2.2.2.2.2])
  have takes (n : Nat) (other : n ≠ 0) : ¬ (s.isMasthead = true ∧ s.joinTable (objIdx a.hdr.object) grid = some n) := fun ⟨here, answer⟩ =>
    other (Option.some.inj (answer.symm.trans (room here)))
  unfold doJoinGroup
  dsimp only
  rw [← maskAccels, if_neg (by simp [group]; omega), if_neg (not_or.mpr ⟨known, there⟩), if_neg free, if_neg present, if_neg capable, if_neg alone,
    if_neg onGrid, if_neg (takes 1 (by decide)), if_neg (by simp [part]), if_neg (takes 2 (by decide))]
  rfl

end

theorem doLeaveGroup_of_members (all : ∀ i ∈ maskAccels mask, s.isHeld (oAccel i) = false ∧ s.groupOf i = some (objIdx a.hdr.object)) :
    let v : State := (s.hold (s.originOf a .leaveGroup) ((maskAccels mask).map oAccel)).each (maskAccels mask) (fun s i =>
      s.modMember i (fun x => { x with leaving := true }))
    doLeaveGroup a mask s = ({ v with lockCmds := v.lockCmds ++
      [({ origin := s.originOf a .leaveGroup, group := objIdx a.hdr.object, mask, leave := true, waitFor := maskAccels mask } : LockCmd)] }, .accepted []) := by
  intro v
  have free := not_any_of_forall (l := maskAccels mask) (f := fun i => s.isHeld (oAccel i)) (fun i hi => (all i hi).1)
  have member := not_any_of_forall (l := maskAccels mask) (f := fun i => decide (s.groupOf i ≠ some (objIdx a.hdr.object))) (fun i hi => by simp [(all i hi).2])
  unfold doLeaveGroup
  dsimp only
  rw [← maskAccels, if_neg (by simp [group]; omega), if_neg free, if_neg member]

end

/-! ### The phase plan -/

theorem doLoadPhasePlan_of_valid {s : State} {a : Arrival} {entries : List PlanEntry} (device : a.hdr.object = oDevice) (some_ : entries ≠ [])
    (most : entries.length ≤ 125) (valid : entries.any PlanEntry.invalid = false)
    (room : (entries.foldl (fun l e => if (e.kind, e.key) ∈ l then l else l ++ [(e.kind, e.key)])
      ((s.plans.filter (·.loaded)).map (fun e => (e.kind, e.key)))).length ≤ 256) :
    doLoadPhasePlan a entries s = (s.each entries State.loadPlan, .st .ok) := by
  unfold doLoadPhasePlan
  rw [if_neg (by simp [device, some_]; omega), if_neg (by rw [valid]; exact Bool.false_ne_true)]
  exact if_neg (not_lt.mpr room)

section
variable {s : State} {a : Arrival} {kind key : Nat} (device : a.hdr.object = oDevice)
include device

theorem doClearPhasePlan_of_there {e : PlanEntry} (one : a.hdr.property = 0) (there : s.plan kind key = some e) :
    doClearPhasePlan a kind key s = (s.putPlans (s.plans.erase e), .st .ok) := by
  unfold doClearPhasePlan
  rw [if_neg (not_not.mpr device), one]
  simp only [there]

theorem doClearPhasePlan_of_absent (one : a.hdr.property = 0) (absent : s.plan kind key = none) :
    doClearPhasePlan a kind key s = (s, .st .planNotFound) := by
  unfold doClearPhasePlan
  rw [if_neg (not_not.mpr device), one]
  simp only [absent]

theorem doClearPhasePlan_all (all : a.hdr.property = 2) : doClearPhasePlan a kind key s = (s.putPlans [], .st .ok) := by
  unfold doClearPhasePlan
  rw [if_neg (not_not.mpr device), all]
  rfl

end

/-- Settles O36: each request reaches its effect, which its conditions decide. -/
theorem groupRequestsComplete : Obligations.GroupRequestsComplete := by
  refine ⟨?join, ?leave, ?read, ?load, ?clear, ?absent, ?plans⟩
  case join =>
    rintro s u a o mask grid _ g opens group least most inRange known rfl all part c v
    have effect := doJoinGroup_of_joins group inRange least most known all part
    refine ⟨fun follows => ?_, fun masthead answer => ?_⟩
    · exact exec_of_request rfl opens ((effect (fun h => by rw [follows] at h; cases h)).trans (if_neg (by simp [follows]))) rfl
    · exact exec_of_request rfl opens ((effect (fun _ => answer)).trans (if_pos ⟨masthead, answer⟩)) rfl
  case leave =>
    rintro s u v a o mask _ g opens group inRange rfl all rfl
    exact exec_of_request rfl opens (doLeaveGroup_of_members group inRange all) rfl
  case read =>
    intro s u a o g opens group round
    exact ⟨_, exec_of_request rfl opens ((if_neg (not_not.mpr group)).trans (if_neg fun h => round h.2.1)) rfl⟩
  case load =>
    intro s u a o entries opens device some_ most valid room
    exact exec_of_request rfl opens (doLoadPhasePlan_of_valid device some_ most valid room) rfl
  case clear =>
    intro s u a o kind key opens device
    exact ⟨fun e one there => exec_of_request rfl opens (doClearPhasePlan_of_there device one there) rfl,
      fun all => exec_of_request rfl opens (doClearPhasePlan_all device all) rfl⟩
  case absent =>
    intro s v a o kind key reached device one absent
    exact congrArg Host.Outcome.next (State.request_of_failed _ reached (doClearPhasePlan_of_absent device one absent) rfl)
  case plans =>
    intro s u a o first count opens device least most l
    exact exec_of_request rfl opens (if_neg (by simp [device]; omega)) rfl

end Sys2Proof.Machine
end

section
/-! The rows of temperatures and ceilings, and FURL (R62, R439, R443, R448–R461). -/

namespace Sys2Proof.Machine

section
variable {s : State} {a : Arrival} {deadline : Nat} (accel : objCls a.hdr.object = 2) (least : 100 ≤ deadline) (most : deadline ≤ 60000)
  (whole : deadline % 100 = 0)
include accel least most whole

theorem doFurl_of_accel : doFurl a deadline s =
    let i := objIdx a.hdr.object
    let v : State := s.startFurl i 2 0xFFFF noReading 0 deadline
    let cut := if v.furlStateOf i = 1 then (v.furlOf i).cut else s.now + deadline * ms
    if (v.furlWaits i).isEmpty then (v, .done .ok [u64 cut])
    else (State.hold { v with furlCmds := v.furlCmds ++ [({ origin := s.originOf a .furl, scopes := v.furlWaits i } : FurlCmd)] }
      (s.originOf a .furl) (((v.furlWaits i).filter (· < 8)).map oAccel), .accepted [u64 cut]) := by
  have nonzero : deadline ≠ 0 := by omega
  unfold doFurl
  dsimp only
  rw [if_neg (fun h => h.1 accel), if_neg (by omega), if_pos accel, if_neg nonzero]

end

/-- Settles O37: each row's guard holds, and FURL waits where an off-sequence is waited for. -/
theorem thermalRowsComplete : Obligations.ThermalRowsComplete := by
  refine ⟨?sensor, ?board, ?coolant, ?ceiling, ?reef, ?cut, ?furl⟩
  case sensor =>
    rintro s u t readings rfl grid
    exact exec_of_guard rfl grid
  case board =>
    rintro s u t i code rfl turn
    exact exec_of_guard rfl turn
  case coolant =>
    rintro s u v t codes d c1 c2 rfl grid rfl described supply return_ w
    have row : exec (.coolantTempSample t codes) s = execCoolantTempSample t codes s := rfl
    rw [row, execCoolantTempSample]
    simp only [grid, if_true, described, supply, return_]
    rfl
  case ceiling =>
    rintro s u t rfl grid
    exact exec_of_guard rfl grid
  case reef =>
    rintro s u t rfl whole
    exact exec_of_guard rfl whole
  case cut =>
    rintro s u t scope rfl furled past
    exact exec_of_guard rfl ⟨furled, past⟩
  case furl =>
    intro s u a o deadline opens accel least most whole i v cut
    have effect := doFurl_of_accel (s := u) accel least most whole
    exact ⟨fun none_ => exec_of_request rfl opens (effect.trans (if_pos (List.isEmpty_iff.mpr none_))) rfl,
      fun some_ => exec_of_request rfl opens (effect.trans (if_neg (List.isEmpty_iff.not.mpr some_))) rfl⟩

end Sys2Proof.Machine
end

section
/-! The rows of the drives: currents, edges, kicks, rests, losses, retries, the speed loop and a silent host (R62, R85, R474–R486). -/

namespace Sys2Proof.Machine

/-! ### How long the host has been silent: what the drives and valves do leaves it as it is -/

theorem State.silence_put (s : State) (p : P) (i : Nat) (v : Int) : (s.put p i v).silence = s.silence := rfl

theorem State.silence_setV (s : State) (x : V) (i : Nat) (v : Int) (other : x ≠ .keepAt) : (s.setV x i v).silence = s.silence := by
  unfold State.silence State.varN
  rw [State.var_setV, if_neg fun e => other e.1]
  rfl

theorem State.silence_note (s : State) (kind : Nat) (o : ObjId) (l : List Fld) : (s.note kind o l).silence = s.silence := by
  unfold State.note
  split <;> rfl

theorem State.silence_modDrv (s : State) (c : Nat) (f : DriveSt → DriveSt) : (s.modDrv c f).silence = s.silence := rfl

theorem State.silence_whole (s : State) (q : Rat) : (s.whole q).2.silence = s.silence := by
  obtain ⟨n, e⟩ := s.whole_frame q
  rw [e]
  rfl

theorem State.silence_putVolt (s : State) (c v : Nat) : (s.putVolt c v).silence = s.silence := by
  unfold State.putVolt
  extract_lets w z y
  have low : y.silence = z.silence := by
    unfold y
    split <;> rfl
  have high : z.silence = s.silence := (State.silence_setV _ _ _ _ (by decide)).trans ((State.silence_put _ _ _ _).trans (State.silence_note _ _ _ _))
  split
  · exact low.trans high
  · exact low.trans high

theorem State.silence_applyVolt (s : State) (c : Nat) : (s.applyVolt c).silence = s.silence := by
  unfold State.applyVolt
  dsimp only
  split
  · exact State.silence_putVolt _ _ _
  · split
    · exact State.silence_putVolt _ _ _
    · split
      · split
        · rfl
        · exact State.silence_putVolt _ _ _
      · exact State.silence_putVolt _ _ _

theorem State.silence_putFlags (s : State) (c : Nat) (b : Bool) : (s.putFlags c b).silence = s.silence := rfl

theorem State.silence_enterDrive (s : State) (c : Nat) (st : Int) (attempt : Nat) : (s.enterDrive c st attempt).silence = s.silence :=
  (State.silence_putFlags _ _ _).trans (State.silence_applyVolt _ _)

theorem State.silence_retarget (s : State) (c : Nat) : (s.retarget c).silence = s.silence := by
  unfold State.retarget
  dsimp only
  refine (State.silence_putFlags _ _ _).trans (Eq.trans ?_ (State.silence_whole s (s.effective c)))
  split
  · exact State.silence_enterDrive _ _ _ _
  · split
    · exact State.silence_enterDrive _ _ _ _
    · rfl

theorem State.silence_retargetAll (s : State) : s.retargetAll.silence = s.silence := by
  unfold State.retargetAll
  split
  · exact State.each_eq _ _ State.silence_retarget _ _
  · rfl

theorem State.silence_watchVotes (s : State) (o : Nat) : (s.watchVotes o).silence = s.silence := by
  refine State.each_eq State.silence _ (fun z x => ?_) s [0, 1, 2]
  split
  · unfold State.silence State.varN
    rw [State.now_armOnce, State.var_armOnce]
  · split <;> rfl

theorem State.silence_revote (s : State) (o : Nat) : (s.revote o).silence = s.silence := by
  unfold State.revote
  refine (State.silence_watchVotes _ _).trans ?_
  split
  · exact State.silence_setV _ _ _ _ (by decide)
  · exact State.silence_setV _ _ _ _ (by decide)

theorem State.silence_drive (s : State) (o : Nat) (v : Int) : (s.drive o v).silence = s.silence := by
  refine (State.silence_revote _ _).trans (State.each_eq State.silence _ (fun z t => ?_) s [0, 1, 2])
  split
  · refine (State.silence_revote _ _).trans ?_
    split
    · exact State.silence_setV _ _ _ _ (by decide)
    · exact State.silence_setV _ _ _ _ (by decide)
  · rfl

theorem State.silence_commandValve (s : State) (v : Nat) (x : Int) : (s.commandValve v x).silence = s.silence :=
  (State.silence_setV _ _ _ _ (by decide)).trans ((State.silence_put _ _ _ _).trans (State.silence_note _ _ _ _))

theorem State.silence_syncValve (s : State) (v : Nat) : (s.syncValve v).silence = s.silence := by
  have driven := State.silence_drive s (outValve (v - 4)) 1
  unfold State.syncValve
  split
  · rfl
  · split
    · simp only [State.silence_put, State.silence_drive]
    · extract_lets z w
      have shut (x : Int) : (z.commandValve v x).silence = s.silence := (State.silence_commandValve _ _ _).trans driven
      have noted : w.silence = s.silence := (State.silence_put _ _ _ _).trans driven
      have set (x : Int) : (w.commandValve v x).silence = s.silence := (State.silence_commandValve _ _ _).trans noted
      split
      · exact (State.silence_put _ _ _ _).trans (shut _)
      · split
        · exact shut _
        · split
          · exact set _
          · split
            · exact noted
            · exact set _

theorem State.silence_hostSettersOff (s : State) : s.hostSettersOff.silence = s.silence := by
  unfold State.hostSettersOff
  refine (State.silence_retargetAll _).trans ((State.each_eq _ _ State.silence_syncValve _ _).trans ?_)
  refine (State.each_eq State.silence _ (fun z v => ?_) _ _).trans (State.each_eq State.silence _ (fun z c => ?_) _ _)
  · split
    · exact State.silence_setV _ _ _ _ (by decide)
    · rfl
  · split
    · exact State.silence_put _ _ _ _
    · rfl

/-- Settles O38: each row's guard holds. -/
theorem driveRowsComplete : Obligations.DriveRowsComplete := by
  refine ⟨?current, ?edge, ?kick, ?rest, ?loss, ?retry, ?loop, ?handover, ?silent⟩
  case current =>
    rintro s u t samples rfl runs described grid gives
    exact exec_of_guard rfl ⟨runs, described, grid, gives⟩
  case edge =>
    rintro s u t c rfl runs gives declared sound
    exact congrArg Host.Outcome.next (if_neg (by rw [runs, gives, declared, sound]; decide))
  case kick =>
    rintro s u t c rfl runs kicks past turned
    exact (exec_of_guard rfl runs).trans (congrArg (fun z : State => Host.Outcome.next z.judgeFlow) ((if_pos ⟨kicks, past⟩).trans (if_pos turned)))
  case rest =>
    rintro s u t c rfl runs rests past
    exact exec_of_guard rfl ⟨runs, rests, past⟩
  case loss =>
    rintro s u t c rfl runs turns silent band
    exact (exec_of_guard rfl runs).trans (congrArg (fun z : State => Host.Outcome.next z.judgeFlow) ((if_pos ⟨turns, silent⟩).trans (if_pos band)))
  case retry =>
    rintro s u t c rfl runs lost retries past
    exact exec_of_guard rfl ⟨runs, lost, retries, past⟩
  case loop =>
    rintro s u t rfl runs described takes
    exact exec_of_guard rfl ⟨runs, described, takes⟩
  case handover =>
    rintro s u t rfl due
    exact exec_of_guard rfl due
  case silent =>
    rintro s u v t rfl due rfl attended
    refine (exec_of_guard rfl due).trans (congrArg Host.Outcome.next ((if_neg attended).trans ?_))
    rw [State.silence_hostSettersOff]
    rfl

end Sys2Proof.Machine
end

section
/-! The rows of flow, pressure, valves and leak zones (R62, R490–R506). -/

namespace Sys2Proof.Machine

/-- Settles O39: each row's guard holds. -/
theorem coolantRowsComplete : Obligations.CoolantRowsComplete := by
  refine ⟨?flow, ?pressure, ?coolant, ?sample, ?confirm, ?escalate, ?dry, ?cut⟩
  case flow =>
    rintro s u t d pulses rfl described runs
    have row : exec (.flowUpdate t pulses) s = execFlowUpdate t pulses s := rfl
    rw [row, execFlowUpdate]
    simp only [described, runs]
    rfl
  case pressure =>
    rintro s u t d mv rfl described runs grid
    have row : exec (.pressureSample t mv) s = execPressureSample t mv s := rfl
    rw [row, execPressureSample]
    simp only [described, runs, grid]
    rfl
  case coolant =>
    rintro s u v t d positions rfl described runs rfl running
    have row : exec (.coolantUpdate t positions) s = execCoolantUpdate t positions s := rfl
    rw [row, execCoolantUpdate]
    simp only [described, runs]
    exact congrArg Host.Outcome.next (if_pos running)
  case sample =>
    rintro s u t samples rfl runs grid
    exact exec_of_guard rfl ⟨runs, grid⟩
  case confirm =>
    rintro s u v t z rfl due rfl
    have row := exec_of_guard (c := .leakConfirmExpiry t z) (s := s) rfl due
    exact ⟨fun suspect => row.trans (congrArg Host.Outcome.next (if_pos suspect)),
      fun drying => row.trans (congrArg Host.Outcome.next ((if_neg (by rw [drying]; decide)).trans (if_pos drying)))⟩
  case escalate =>
    rintro s u t z rfl due
    exact exec_of_guard rfl due
  case dry =>
    rintro s u v t z rfl due rfl wet
    exact (exec_of_guard rfl due).trans (congrArg Host.Outcome.next (if_pos wet))
  case cut =>
    rintro s u t rfl due
    exact exec_of_guard rfl due

end Sys2Proof.Machine
end

section
/-! What the coolant's requests leave, said once per request (R484–R510). -/

namespace Sys2Proof.Machine

section
variable {s v : State} {a : Arrival} {cls mode : Nat} {value : Int} {c : Nat} (drive : c = if cls = 7 then objIdx a.hdr.object else 16 + objIdx a.hdr.object)
  (class_ : objCls a.hdr.object = cls) (attended : s.get .autonomous ≠ 1) (open_ : ¬ (cls = 8 ∧ s.pumpHeld (objIdx a.hdr.object) = true))
  (kept : v = (s.put .control c (setterCode a.binding mode)).modDrv c (fun x => { x with value })) (running : v.get .channelState c = chRun)
  (loops : v.coolRuns = true)
include drive class_ attended open_ kept running loops

/-- R484: a running channel takes its setter and its value, and is retargeted. -/
theorem doSetDrive_of_running (good : mode = 0 ∨ (mode = 2 ∧ 0 ≤ value ∧ value ≤ driveFull c ∧ value % (driveStep c : Int) = 0)) :
    doSetDrive a cls mode value s = (v.retarget c, .st .ok) := by
  have turns : ¬ (v.get .channelState c = chStalled ∨ v.get .channelState c = chOpen) := by
    rw [running]
    decide
  unfold doSetDrive
  dsimp only
  rw [← drive, ← kept, if_neg, if_neg (fun h => attended h.1), if_neg open_, if_neg turns, if_pos loops]
  refine not_or.mpr ⟨not_not.mpr class_, ?_⟩
  obtain rfl | ⟨rfl, good⟩ := good
  · simp
  · simp [good]

end

theorem doSetValve_of_accel {s : State} {a : Arrival} {value : Int} (class_ : objCls a.hdr.object = 9) (accel : 4 ≤ objIdx a.hdr.object)
    (least : 0 ≤ value) (most : value ≤ 1000) (attended : s.get .autonomous ≠ 1) (free : s.flag .leakShut (objIdx a.hdr.object - 4) = false) :
    doSetValve a 1 value s = (((s.setV .valveSetter (objIdx a.hdr.object) (if a.binding.cls = .burin then 2 else 1)).setV .valveSet
      (objIdx a.hdr.object) value).syncValve (objIdx a.hdr.object), .st .ok) := by
  have other : ¬ objIdx a.hdr.object < 4 := not_lt.mpr accel
  unfold doSetValve
  dsimp only
  rw [if_neg other, if_neg (by simp [class_]; omega), if_neg (fun h => attended h.1), if_neg (by simp [other, free]), if_neg fun h => other h.1]
  rfl

theorem doIsolateLeak_of_wet {s : State} {a : Arrival} {action : Nat} (class_ : objCls a.hdr.object = 12) (zone : a.hdr.object ≠ oDevice)
    (least : 1 ≤ action) (most : action ≤ 3) (wet : (s.zone (objIdx a.hdr.object)).wet = true) :
    doIsolateLeak a action s = (s.zoneIsWet (objIdx a.hdr.object) zWet (max (s.get .firstAction (objIdx a.hdr.object)) action), .st .ok) := by
  unfold doIsolateLeak
  dsimp only
  rw [if_neg (by simp [class_]; omega), if_neg zone]
  simp only [State.each, List.foldl_cons, List.foldl_nil, wet, if_true]

section
variable {s : State} {a : Arrival} (class_ : objCls a.hdr.object = 12)
include class_

theorem doResetLeakZone_of_drying (drying : s.get .zoneState (objIdx a.hdr.object) = zDrying) : doResetLeakZone a s =
    ((((s.put .zoneState (objIdx a.hdr.object) zDry).releaseZone (objIdx a.hdr.object)).disarm .leakConfirm (objIdx a.hdr.object)), .st .ok) := by
  unfold doResetLeakZone
  dsimp only
  rw [if_neg (not_not.mpr class_), if_pos drying]

theorem doResetLeakZone_of_wet (wet : s.get .zoneState (objIdx a.hdr.object) = zWet) : doResetLeakZone a s = (s, .st .leakStillWet) := by
  unfold doResetLeakZone
  dsimp only
  rw [if_neg (not_not.mpr class_), if_neg (by rw [wet]; decide), if_neg (by rw [wet]; decide)]

end

theorem doLoadFanTable_of_valid {s v : State} {a : Arrival} {inputs points : Nat} {thermals : List Nat} {curve : List (Int × Nat)}
    (class_ : objCls a.hdr.object = 7) (some_ : 1 ≤ inputs) (four : inputs ≤ 4) (two : 2 ≤ points) (eight : points ≤ 8)
    (named : (thermals.take inputs).length = inputs) (shape : curve.length = points)
    (there : ∀ i ∈ thermals.take inputs, i ≤ 983 ∧ s.objPresent (oThermal i) = true) (rises : pointsRise curve = true)
    (kept : v = s.modDrv (objIdx a.hdr.object) (fun x => { x with table := some { inputs := thermals.take inputs, points := curve } }))
    (loops : v.coolRuns = true) : doLoadFanTable a inputs points thermals curve s = (v.retarget (objIdx a.hdr.object), .st .ok) := by
  have known : ¬ (thermals.take inputs).any (fun i => decide (983 < i) || !s.objPresent (oThermal i)) = true := by
    rw [Bool.not_eq_true, List.any_eq_false]
    intro i hi
    simp [there i hi]
  unfold doLoadFanTable
  dsimp only
  rw [if_pos class_, if_neg (fun h => h.1 class_), if_neg, ← kept, if_pos loops]
  rintro (h | h | h | h | h | h | h | h)
  · omega
  · omega
  · omega
  · omega
  · exact h named
  · exact h shape
  · exact known h
  · rw [rises] at h
    cases h

/-- Settles O40: each request reaches its effect, which its conditions decide. -/
theorem coolantRequestsComplete : Obligations.CoolantRequestsComplete := by
  refine ⟨?off, ?fan, ?pump, ?valve, ?isolate, ?reset, ?wet, ?table, ?water⟩
  case off =>
    intro s u v a o c opens class_ attended kept running loops
    exact exec_of_request rfl opens (doSetDrive_of_running rfl class_ attended (fun h => absurd h.1 (by decide)) kept running loops (.inl rfl)) rfl
  case fan =>
    intro s u v a o value c opens class_ least most whole attended kept running loops
    exact exec_of_request rfl opens (doSetDrive_of_running rfl class_ attended (fun h => absurd h.1 (by decide)) kept running loops
      (.inr ⟨rfl, least, most, whole⟩)) rfl
  case pump =>
    intro s u v a o value c opens class_ least most whole attended free kept running loops
    exact exec_of_request rfl opens (doSetDrive_of_running rfl class_ attended (by simp [free]) kept running loops
      (.inr ⟨rfl, least, most, whole⟩)) rfl
  case valve =>
    intro s u a o value v opens class_ accel least most attended free
    exact exec_of_request rfl opens (doSetValve_of_accel class_ accel least most attended free) rfl
  case isolate =>
    intro s u a o action z opens class_ zone least most wet
    exact exec_of_request rfl opens (doIsolateLeak_of_wet class_ zone least most wet) rfl
  case reset =>
    intro s u a o z opens class_ drying
    exact exec_of_request rfl opens (doResetLeakZone_of_drying class_ drying) rfl
  case wet =>
    intro s v a o reached class_ wet
    exact congrArg Host.Outcome.next (State.request_of_failed _ reached (doResetLeakZone_of_wet class_ wet) rfl)
  case table =>
    intro s u v a o inputs points thermals curve c opens class_ some_ four two eight named shape there rises kept loops
    exact exec_of_request rfl opens (doLoadFanTable_of_valid class_ some_ four two eight named shape there rises kept loops) rfl
  case water =>
    intro s u a o mode target weight opens device known least most whole light heavy tenth
    exact exec_of_request rfl opens (if_neg (by simp [device]; omega)) rfl

end Sys2Proof.Machine
end

section
/-! The register instructions of the engines: each retires with its result and its flags (R527–R530, Table 13.5). -/

namespace Sys2Proof.Machine

/-- CMP ignores rd: a word of its opcode and function is one of its words whatever stands there. -/
theorem wordR_cmp_fits (rd rs rt : Fin 16) :
    (decide (wOp (wordR 0xE rd rs rt) = 0) && decide (wordR 0xE rd rs rt % 2 ^ 22 = wordR 0xE 0 rs rt)) = true := by
  have := rd.isLt
  have := rs.isLt
  have := rt.isLt
  rw [Bool.and_eq_true, decide_eq_true_eq, decide_eq_true_eq]
  unfold wOp wordR
  refine ⟨by omega, ?_⟩
  rw [show (0 : Fin 16).val = 0 from rfl]
  omega

section
variable {s u : State} {t : Ns} {e : Fin 48} {rd rs rt : Fin 16} {l : Level}

/-- DIV by what is not 0: truncated, V only where the quotient does not fit. -/
theorem exec_div_of_divisor (retires : (s.tick t).retires e (wordR 0xA rd rs rt) 8 = some (u, l)) (divisor : l.reg rt ≠ 0) :
    exec (.div t e rd rs rt) s = .next (u.setTop e.val { (l.setReg rd (BitVec.ofInt 32 ((l.reg rs).toInt.tdiv (l.reg rt).toInt))).zn
      (BitVec.ofInt 32 ((l.reg rs).toInt.tdiv (l.reg rt).toInt)) with v := decide ((l.reg rs).toInt = -(2 ^ 31) ∧ (l.reg rt).toInt = -1) }) := by
  have some_ : (l.reg rt).toInt ≠ 0 := fun e => divisor (BitVec.eq_of_toInt_eq e)
  refine congrArg Host.Outcome.next ((State.pure1_of_retires _ retires (decide_eq_true rfl)).trans ?_)
  simp only [some_, if_false, false_or]

theorem exec_div_of_zero (retires : (s.tick t).retires e (wordR 0xA rd rs rt) 8 = some (u, l)) (zero : l.reg rt = 0) :
    exec (.div t e rd rs rt) s = .next (u.setTop e.val { (l.setReg rd 0).zn 0 with v := true }) := by
  refine congrArg Host.Outcome.next ((State.pure1_of_retires _ retires (decide_eq_true rfl)).trans ?_)
  rw [zero]
  rfl

theorem exec_divu_of_divisor (retires : (s.tick t).retires e (wordR 0xB rd rs rt) 8 = some (u, l)) (divisor : l.reg rt ≠ 0) :
    exec (.divu t e rd rs rt) s = .next (u.setTop e.val { (l.setReg rd (l.reg rs / l.reg rt)).zn (l.reg rs / l.reg rt) with v := false }) := by
  refine congrArg Host.Outcome.next ((State.pure1_of_retires _ retires (decide_eq_true rfl)).trans ?_)
  simp only [divisor, if_false, decide_false]

theorem exec_divu_of_zero (retires : (s.tick t).retires e (wordR 0xB rd rs rt) 8 = some (u, l)) (zero : l.reg rt = 0) :
    exec (.divu t e rd rs rt) s = .next (u.setTop e.val { (l.setReg rd 0).zn 0 with v := true }) := by
  refine congrArg Host.Outcome.next ((State.pure1_of_retires _ retires (decide_eq_true rfl)).trans ?_)
  simp only [zero, if_true, decide_true]

end

/-- Settles O41: the word at the program counter is the instruction's, and it retires with what it does to its level. -/
theorem engineRegisterRows : Obligations.EngineRegisterRows := by
  refine ⟨?add, ?sub, ?and, ?or, ?xor, ?shl, ?shr, ?sar, ?mul, ?mulh, ?div, ?divu, ?min, ?max, ?cmp, ?sadd, ?ssub⟩
  case div =>
    intro s u t e rd rs rt l retires
    exact ⟨exec_div_of_divisor retires, exec_div_of_zero retires⟩
  case divu =>
    intro s u t e rd rs rt l retires
    exact ⟨exec_divu_of_divisor retires, exec_divu_of_zero retires⟩
  case cmp =>
    intro s u t e rd rs rt l retires
    exact congrArg Host.Outcome.next (State.pure1_of_retires _ retires (wordR_cmp_fits rd rs rt))
  all_goals
    intro s u t e rd rs rt l retires
    exact congrArg Host.Outcome.next (State.pure1_of_retires _ retires (decide_eq_true rfl))

end Sys2Proof.Machine
end

section
/-! The immediate instructions of the engines: each retires with its result and its flags (R527–R530, Table 13.5). -/

namespace Sys2Proof.Machine

/-- CMPI ignores rd: a word of its opcode, rs and immediate is one of its words whatever stands there. -/
theorem wordI_cmpi_fits (rd rs : Fin 16) (imm : Fin 262144) :
    (decide (wOp (wordI 6 rd rs imm.val) = 6) && decide (wRs (wordI 6 rd rs imm.val) = rs.val) &&
      decide (wImm18 (wordI 6 rd rs imm.val) = imm.val)) = true := by
  have := rd.isLt
  have := rs.isLt
  have := imm.isLt
  simp only [Bool.and_eq_true, decide_eq_true_eq]
  unfold wOp wRs wImm18 wordI
  omega

/-- The shift that bits 6:5 of SHIFTI's immediate name: left, right, or right with the sign. -/
def shiftOf (kind : Nat) (a : BitVec 32) (k : Nat) : BitVec 32 :=
  match kind with
  | 0 => a <<< k
  | 1 => a >>> k
  | _ => a.sshiftRight k

theorem exec_shifti {s u : State} {t : Ns} {e : Fin 48} {rd rs : Fin 16} {imm : Fin 262144} {l : Level}
    (retires : (s.tick t).retires e (wordI 5 rd rs imm.val) 1 = some (u, l)) :
    exec (.shifti t e rd rs imm) s = .next (u.setTop e.val (l.logic rd (shiftOf (imm.val / 32 % 4) (l.reg rs) (imm.val % 32)))) :=
  congrArg Host.Outcome.next (State.pure1_of_retires (fun l => l.logic rd (shiftOf (imm.val / 32 % 4) (l.reg rs) (imm.val % 32))) retires
    (decide_eq_true rfl))

/-- Settles O42: the word at the program counter is the instruction's, and it retires with what it does to its level. -/
theorem engineImmediateRows : Obligations.EngineImmediateRows := by
  refine ⟨?addi, ?andi, ?ori, ?xori, ?shifti, ?cmpi, ?lui, ?movi⟩
  case shifti =>
    intro s u t e rd rs imm l retires
    rw [exec_shifti retires]
    refine ⟨fun left => ?_, fun right => ?_, fun signed => ?_⟩
    · rw [left]
      rfl
    · rw [right]
      rfl
    · rw [signed]
      rfl
  case cmpi =>
    intro s u t e rd rs imm l retires
    exact congrArg Host.Outcome.next (State.pure1_of_retires _ retires (wordI_cmpi_fits rd rs imm))
  case lui =>
    intro s u t e rd imm l retires
    exact congrArg Host.Outcome.next (State.pure1_of_retires _ retires (decide_eq_true rfl))
  case movi =>
    intro s u t e rd imm l retires
    exact congrArg Host.Outcome.next (State.pure1_of_retires _ retires (decide_eq_true rfl))
  all_goals
    intro s u t e rd rs imm l retires
    exact congrArg Host.Outcome.next (State.pure1_of_retires _ retires (decide_eq_true rfl))

end Sys2Proof.Machine
end

section
/-! Loads, stores and jumps of the engines: where the address and the target are inside, and where they are not (R524, R526, R528). -/

namespace Sys2Proof.Machine

theorem State.load_of_accessOk {s : State} {e : Fin 48} {n : Nat} {rd rs : Fin 16} {imm : Fin 262144} {l : Level} {f : Nat → BitVec 32}
    (inside : accessOk (l.addr rs imm) n = true) :
    s.load e n rd rs imm l f = s.setTop e.val (l.setReg rd (f ((s.engine e.val).readData (l.addr rs imm) n))) :=
  if_pos inside

theorem State.store_below_program_area {s : State} {e : Fin 48} {n : Nat} {rd rs : Fin 16} {imm : Fin 262144} {l : Level}
    (inside : accessOk (l.addr rs imm) n = true) (below : l.addr rs imm < 0x1800) :
    s.store e n rd rs imm l = s.modEngine e.val (fun x => x.writeData (l.addr rs imm) n (l.reg rd).toNat) :=
  (if_neg (by simp [inside])).trans (if_neg (not_le.mpr below))

theorem State.jump_inside {s : State} {e : Fin 48} {l : Level} {target : Int} {f : Level → Level} (least : 0 ≤ target) (most : target < 4096) :
    s.jump e l target f = s.setTop e.val { f l with pc := target.toNat } :=
  if_pos ⟨least, most⟩

section
variable {c : Instr} {s u : State} {t : Ns} {e : Fin 48} {w n : Nat} {rd rs : Fin 16} {imm : Fin 262144} {l : Level}
  (retires : (s.tick t).retires e w 2 = some (u, l))
include retires

theorem exec_load {f : Nat → BitVec 32} (row : exec c s = .next ((s.tick t).instr e (· = w) (fun _ => 2) (fun s l => s.load e n rd rs imm l f))) :
    (accessOk (l.addr rs imm) n = true →
      exec c s = .next (u.setTop e.val (l.setReg rd (f ((u.engine e.val).readData (l.addr rs imm) n))))) ∧
    (accessOk (l.addr rs imm) n = false → exec c s = .next (u.instrFault e.val 2 l)) :=
  ⟨fun inside => exec_of_retires row retires (decide_eq_true rfl) (fun _ _ => rfl) (State.load_of_accessOk inside),
    exec_load_faults row retires⟩

theorem exec_store (row : exec c s = .next ((s.tick t).instr e (· = w) (fun _ => 2) (fun s l => s.store e n rd rs imm l)))
    (inside : accessOk (l.addr rs imm) n = true) :
    (l.addr rs imm < 0x1800 → exec c s = .next (u.modEngine e.val (fun x => x.writeData (l.addr rs imm) n (l.reg rd).toNat))) ∧
    (0x1800 ≤ l.addr rs imm → exec c s = .next (u.instrFault e.val 3 l)) :=
  ⟨fun below => exec_of_retires row retires (decide_eq_true rfl) (fun _ _ => rfl) (State.store_below_program_area inside below),
    (exec_store_faults row retires).2 inside⟩

end

/-- Settles O43: the word retires, and the address, the condition or the target decides what its row does. -/
theorem engineMemoryRows : Obligations.EngineMemoryRows := by
  refine ⟨?ldw, ?ldh, ?ldb, ?stw, ?sth, ?stb, ?br, ?call, ?jr⟩
  case br =>
    intro s u t e cond off l
    refine ⟨fun retires taken least most => ?_, fun retires untaken => ?_⟩
    · exact exec_of_retires rfl retires (decide_eq_true rfl) (fun m same => by rw [Level.holds_of_sameFlags same, if_pos taken])
        ((if_pos taken).trans (State.jump_inside least most))
    · have untaken' : ¬ l.holds cond.val = true := by rw [untaken]; exact Bool.false_ne_true
      exact exec_of_retires rfl retires (decide_eq_true rfl) (fun m same => by rw [Level.holds_of_sameFlags same, if_neg untaken'])
        (if_neg untaken')
  case call =>
    intro s u t e w off l op imm retires least most
    exact exec_of_retires rfl retires (by simp [op, imm]) (fun _ _ => rfl) (State.jump_inside least most)
  case jr =>
    intro s u t e w rs l op reg retires inside
    exact exec_of_retires rfl retires (by simp [op, reg]) (fun _ _ => rfl) (State.jump_inside (by omega) (by exact_mod_cast inside))
  case ldw =>
    intro s u t e rd rs imm l retires
    exact exec_load retires rfl
  case ldh =>
    intro s u t e rd rs imm l retires
    exact exec_load (f := fun v => sext v 16) retires rfl
  case ldb =>
    intro s u t e rd rs imm l retires
    exact exec_load retires rfl
  all_goals
    intro s u t e rd rs imm l retires inside
    exact exec_store retires rfl inside

end Sys2Proof.Machine
end


section EngineSystemRefuted
namespace Sys2Proof.Machine

/-- A program image whose one manifest record is a FORECAST record for every object and whose one
instruction is `FCQ rd 0, rs 1` with immediate 0. -/
def forecastImage : List Nat :=
  List.replicate 24 0 ++ [1, 0, 1, 0, 0, 0, 0, 0, 40, 0, 0, 0, 64, 0, 0, 0] ++
  [4, 0, 0, 0, 0, 0, 0, 0, 0xFF, 0xFF, 0xFF, 0xFF] ++ List.replicate 12 0 ++ [0, 0, 4, 0xC4]

/-- The level that runs it: g1 names domain 0. -/
def forecastLevel : Level :=
  { g := [0, 0x03000000] ++ List.replicate 14 0, budget := 24 }

/-- Engine 0 of Fore runs the image on accelerator 0's only domain, whose forecast is valid. Fore has
the accelerator's loop, but the domain itself is MIRRORED, so that Main regulates it (R176). -/
def mirroredDomain : State :=
  let s := ((State.reset.setV .tilePhase 0 3).setV .forecastOk 0 1).put .loopAccels 0 1 |>.put .engineState 0 enRunning
  { s with
    td := some { accels := [{ accel := 0, domains := 1, sensors := 0 }] }
    domains := s.domains.put {} 0 { mirrored := true }
    fcDoms := s.fcDoms.put {} 0 { valid := true }
    engines := s.engines.put {} 0 { image := forecastImage, stack := [forecastLevel] } }

/-- The state and level in which the FCQ instruction of `mirroredDomain` takes effect. -/
def mirroredRun : State × Level :=
  ((mirroredDomain.tick 0).retires 0 (wordI 0x31 0 1 0) 24).getD (mirroredDomain, forecastLevel)

/-- The carry of each level of engine 0 in the next state of an outcome. -/
def engineCarries : Out → List Bool
  | .next s => (s.engine 0).stack.map (fun l => l.c)
  | _ => []

theorem mirroredDomain_retires :
    (mirroredDomain.tick 0).retires 0 (wordI 0x31 0 1 0) 24 = some mirroredRun := by
  have runs : ((mirroredDomain.tick 0).retires 0 (wordI 0x31 0 1 0) 24).isSome = true := by decide
  obtain ⟨run, retires⟩ := Option.isSome_iff_exists.1 runs
  rw [mirroredRun, retires, Option.getD_some]

/-- The row itself finds that Main regulates the domain and sets C. -/
theorem mirroredDomain_fcq_sets_carry : engineCarries (exec (.fcq 0 0 0 1 0) mirroredDomain) = [true] := by
  decide

/-- Refutes O44: the clause on FCQ asks only that the engine's tile has the loop of the domain's
accelerator. With the domain itself MIRRORED the other tile regulates it, and FCQ sets C. -/
theorem not_engineSystemRows : ¬ Obligations.EngineSystemRows := by
  rintro ⟨-, -, fcq, -⟩
  have answered := fcq mirroredDomain mirroredRun.1 _ 0 0 0 1 0 mirroredRun.2 _ mirroredDomain_retires
    (by decide) (by decide) (by decide) (by decide) (by decide) (by decide) (by decide) (by decide) rfl
  have carries := congrArg engineCarries answered
  rw [mirroredDomain_fcq_sets_carry] at carries
  exact absurd carries (by decide)

end Sys2Proof.Machine
end EngineSystemRefuted


section
/-! What the rows of the event controller and the writes of its registers leave (R538–R561). -/

namespace Sys2Proof.Machine

/-! ### The rows -/

theorem execOccurrencePost_of_raised {s u : State} {t : Ns} {r : EventRec} {rest : List EventRec} (at_ : u = s.tick t) (raised : u.raised = r :: rest) :
    exec (.occurrencePost t) s =
      .next (({ u with raised := rest } : State).each ({ u with raised := rest } : State).tilesIn (fun s t => s.post r.num t { record := r })) := by
  have row : exec (.occurrencePost t) s = execOccurrencePost t s := rfl
  rw [row, execOccurrencePost, ← at_]
  simp only [raised]
  rfl

theorem execEngineDispatch_of_candidate {s u : State} {t : Ns} {e : Fin 48} {c : Nat × Nat × Nat} (at_ : u = s.tick t)
    (candidate : u.candidatesOf e.val = [c]) (running : u.get .engineState e.val = enRunning) (above : c.1 < (u.engine e.val).runPrio)
    (room : (u.engine e.val).stack.length < 8) : exec (.engineDispatch t e) s =
      .next (u.dispatchFault e.val (if c.2.2 ≤ 1022 then u.claim e.val c.2.2 else u.claimLocal e.val c.2.2 c.1)) := by
  have row : exec (.engineDispatch t e) s = execEngineDispatch t e s := rfl
  have free : ¬ (u.get .engineState e.val ≠ enRunning ∨ (u.engine e.val).runPrio ≤ c.1 ∨ 8 ≤ (u.engine e.val).stack.length) := by
    simp only [running, not_or]
    exact ⟨not_not.mpr rfl, not_le.mpr above, not_le.mpr room⟩
  rw [row, execEngineDispatch, ← at_]
  simp only [candidate]
  exact congrArg Host.Outcome.next (if_neg free)

/-- R540: a tick counts in the delivery that waits, else in the control block of the level that runs, else it is delivered. -/
theorem execTimerTick_of_due {s u v : State} {t : Ns} {e : Fin 48} {at_ : Ns} (now : u = s.tick t) (timer : u.timer .engineTimer e.val = some at_)
    (due : at_ ≤ u.now) (period : (u.engine e.val).period ≠ 0)
    (next : v = u.setT .engineTimer e.val (some (at_ + (u.engine e.val).period * us))) : exec (.timerTick t e) s =
      .next (match (u.engine e.val).timer with
        | some (st, k) => v.modEngine e.val (fun x => { x with timer := some (st, k + 1) })
        | none =>
          match (u.engine e.val).stack.reverse.findIdx? (fun l => decide (l.source = vTimer)) with
          | some k => v.modEngine e.val (fun x => x.writeData (0x1800 + 64 * k + 0x20) 4 (x.readData (0x1800 + 64 * k + 0x20) 4 + 1))
          | none => v.modEngine e.val (fun x => { x with timer := some (at_, 0) })) := by
  have row : exec (.timerTick t e) s = execTimerTick t e s := rfl
  subst next
  rw [row, execTimerTick, ← now]
  simp only [timer]
  exact congrArg Host.Outcome.next (if_neg (not_or.mpr ⟨not_lt.mpr due, period⟩))

theorem execMailboxReply_of_waiting {s u v : State} {t : Ns} {e : Fin 48} {r : Reply} (at_ : u = s.tick t)
    (mail : u.mail.find? (fun m => m.1 = e.val) = some (e.val, r)) (taken : v = { u with mail := u.mail.erase (e.val, r) })
    (running : v.get .engineState e.val = enRunning) (slot : r.tag < 4)
    (waits : (v.engine e.val).slotState r.tag = 1 ∨ (v.engine e.val).slotState r.tag = 4) :
    let st := if !r.final then 4 else if 216 < (recordBytes r.results).length then 3 else 2
    let y := (((v.engine e.val).writeData (mailAddr r.tag) 4 st).writeBytes (mailAddr r.tag + 8) (r.packet.take 32)).writeBytes
      (mailAddr r.tag + 0x28) ((recordBytes r.results).take 216)
    exec (.mailboxReply t e) s = .next (v.modEngine e.val (fun _ =>
      if r.final && (handlerOf y.image vReply).isSome then { y with replies := y.replies ++ [(r.tag, v.now)] } else y)) := by
  have row : exec (.mailboxReply t e) s = execMailboxReply t e s := rfl
  have open_ : ¬ (v.get .engineState e.val ≠ enRunning ∨ 4 ≤ r.tag ∨
      ((v.engine e.val).slotState r.tag ≠ 1 ∧ (v.engine e.val).slotState r.tag ≠ 4)) := by
    simp only [not_or, not_and, not_not]
    exact ⟨running, not_le.mpr slot, waits.resolve_left⟩
  subst taken
  intro st y
  rw [row, execMailboxReply, ← at_]
  simp only [mail]
  exact congrArg Host.Outcome.next (if_neg open_)

/-! ### The writes -/

/-- Table 13.10: a source that no engine of the tile takes has ENABLE, IDLE_BYPASS and MOD written. -/
theorem setSrcConfig_of_unrouted {s : State} {v : Int} {i : Nat} (reserved : v.toNat.testBit 28 = false)
    (unrouted : cfgMask (s.cfg (i / 3) (i % 3)) = 0) : setSrcConfig v i s =
      ((s.put .srcConfig i (cfgWord (if cfgEnable v.toNat then 1 else 0) (cfgMode (s.cfg (i / 3) (i % 3)))
        (if cfgBypass v.toNat then 1 else 0) (cfgPrio (s.cfg (i / 3) (i % 3))) (cfgMod v.toNat) 0)).assign (i / 3) (i % 3), .st .ok) := by
  have none_ : (List.range 16).filter (fun e => (0 : Nat).testBit e) = [] := by decide
  unfold setSrcConfig
  simp only [reserved, unrouted, none_, List.map_nil, List.foldl_nil, Nat.not_lt_zero, Bool.false_eq_true, if_false]

/-- R561: a program source is posted to every tile named that is in service. -/
theorem setSoftPend_of_program {s w : State} {force : Bool} {v src : Int} {n : Nat} (least : 0x320 ≤ n) (most : n ≤ 0x33F) (drawn : s.draw = (src, w)) :
    setSoftPend force v n s = (w.each ([0, 1, 2].filter (fun t => v.toNat.testBit t && w.inService t)) (fun s t => s.post n t
      { record := { num := n, src := src.toNat, stamp := s.now, csn := s.journal.committed, safety := false, payload := [] }
        software := true }), .st .ok) := by
  have program : decide (0x320 ≤ n ∧ n ≤ 0x33F) = true := decide_eq_true ⟨least, most⟩
  unfold setSoftPend
  simp only [program, drawn, Bool.not_true, Bool.false_and, Bool.false_eq_true, if_false]

theorem setAutostart_of_shelved {s : State} {v : Int} {e : Nat} (shelved : (s.engine e).shelved = true) : setAutostart v e s =
    ({ s.put .autostart e v with progShelf := s.progShelf.put {} e { s.progShelf.get {} e with auto := v.toNat } }, .st .ok) := by
  unfold setAutostart
  simp only [shelved, Bool.not_true, Bool.false_eq_true, if_false]

/-- A write by a code of its own, of an accepted value, that opens has its effect, concluded. -/
theorem State.writeAt_of_effect {s u v : State} {a : Arrival} {p : P} {code : Nat} {x : Int} {o : Origin} {eff : Nat → State → State × Res} {r : Res}
    (accepted : writeStatus (named a code) p p.desc.bytes x = .ok)
    (opens : s.opens (named a code) (.setProp p.desc.bytes x) (eff (propIndex a.hdr.object p code)) = some (u, o))
    (effect : eff (propIndex a.hdr.object p code) u = (v, r)) (commits : r.commits = true) :
    s.writeAt a p code x eff = v.conclude u o r := by
  unfold State.writeAt
  simp only [accepted]
  refine (State.request_of_opens _ opens (by simp [effect, commits])).trans ?_
  rw [effect]

/-- Settles O45: the rows take their open branch and the writes reach their effect. -/
theorem eventControllerRowsComplete : Obligations.EventControllerRowsComplete := by
  refine ⟨?post, ?dispatch, ?moderation, ?tick, ?reply, ?hold, ?config, ?status, ?pend, ?setHold, ?autostart⟩
  case post =>
    rintro s u v t r rest at_ raised rfl
    exact execOccurrencePost_of_raised at_ raised
  case dispatch =>
    intro s u t e c at_ candidate running above room
    refine ⟨fun source => ?_, fun own => ?_⟩
    · rw [execEngineDispatch_of_candidate at_ candidate running above room, if_pos source]
    · rw [execEngineDispatch_of_candidate at_ candidate running above room, if_neg (not_le.mpr own)]
  case moderation =>
    rintro s u t tile n rfl
    rfl
  case tick =>
    intro s u v t e at_ now timer due period next
    have row := execTimerTick_of_due now timer due period next
    refine ⟨fun st k waits => ?_, fun k idle runs => ?_, fun idle other => ?_⟩
    · rw [row, waits]
    · rw [row, idle, runs]
    · rw [row, idle, other]
  case reply =>
    rintro s u v t e r x at_ mail taken rfl running slot waits
    exact execMailboxReply_of_waiting at_ mail taken running slot waits
  case hold =>
    rintro s u t tile rfl due
    exact exec_of_guard rfl due
  case config =>
    intro s u a o tile v i accepted opens reserved unrouted
    exact congrArg Host.Outcome.next (State.writeAt_of_effect accepted opens (setSrcConfig_of_unrouted reserved unrouted) rfl)
  case status =>
    intro s u a o tile v i accepted opens
    exact congrArg Host.Outcome.next (State.writeAt_of_effect accepted opens rfl rfl)
  case pend =>
    intro s u w a o v src n opens least most drawn
    exact exec_of_write rfl opens (setSoftPend_of_program least most drawn) rfl
  case setHold =>
    intro s u a o v opens
    exact exec_of_write rfl opens rfl rfl
  case autostart =>
    intro s u a o v e opens shelved
    exact exec_of_write rfl opens (setAutostart_of_shelved shelved) rfl

end Sys2Proof.Machine
end


section
/-! What the requests that load, start, stop and read engine programs leave, and a program's verification (R521–R534, R562). -/

namespace Sys2Proof.Machine

/-! ### LOAD_PROGRAM -/

section
variable {s : State} {a : Arrival} (class_ : objCls a.hdr.object = 0x0F) (idle : (s.engine (objIdx a.hdr.object)).holder = none)
include class_ idle

theorem doLoadProgram_start {total auto : Nat} (property : a.hdr.property = 0) (auto_ : auto ≤ 1) (least : 1 ≤ total) (most : total ≤ 65536)
    (empty : s.get .engineState (objIdx a.hdr.object) = enEmpty) : doLoadProgram a (.start total 0 auto) s =
      (((s.modEngine (objIdx a.hdr.object) (fun y => { y with holder := some (s.originOf a .loadProgram)
                                                              prior := (s.get .engineState (objIdx a.hdr.object)).toNat
                                                              total, keep := false, auto, parts := [] })).hold
        (s.originOf a .loadProgram) [oBurin (objIdx a.hdr.object)]).setEngine (objIdx a.hdr.object) enLoading 0, .st .ok) := by
  have free : ¬ (s.get .engineState (objIdx a.hdr.object) = enRunning ∨ s.get .engineState (objIdx a.hdr.object) = enLost ∨
      s.get .engineState (objIdx a.hdr.object) = enLoading) := by
    rw [empty]
    decide
  unfold doLoadProgram
  simp only [property, idle]
  rw [if_neg (not_not.mpr class_), if_neg (by simp), if_neg (by omega), if_neg (by simp), if_neg (not_lt.mpr most), if_neg free]
  rfl

variable (loading : s.get .engineState (objIdx a.hdr.object) = enLoading) (open_ : (s.engine (objIdx a.hdr.object)).ending = none)
include loading open_

theorem doLoadProgram_end (property : a.hdr.property = 2) : doLoadProgram a .none s =
    (s.modEngine (objIdx a.hdr.object) (fun y => { y with ending := some (s.originOf a .loadProgram) }), .accepted []) := by
  unfold doLoadProgram
  simp only [property, idle]
  rw [if_neg (not_not.mpr class_), if_neg (by simp), if_neg (by simp [loading, open_])]

theorem doLoadProgram_abort (property : a.hdr.property = 3) :
    doLoadProgram a .none s = (s.unloadEngine (objIdx a.hdr.object), .st .ok) := by
  unfold doLoadProgram
  simp only [property, idle]
  rw [if_neg (not_not.mpr class_), if_neg (by simp), if_neg (by simp [loading, open_])]

end

/-! ### The verification -/

/-- R532: a bad program is unloaded and its command completed, a good one waits for its write or is loaded. -/
theorem execProgramVerifyDone_of_ending {s u : State} {t : Ns} {e : Fin 48} {o : Origin} {x : Engine} {r : Status × Nat} (now : u = s.tick t)
    (engine : x = u.engine e.val) (checked : r = u.checkProgram (x.parts.flatMap (·.2)) x.total) (ending : x.ending = some o)
    (loading : u.get .engineState e.val = enLoading) (unwritten : NandWhat.program e.val ∉ u.nandWrites)
    (kept : x.keep = false ∨ u.nandLost = false) : exec (.programVerifyDone t e) s =
      .next (if r.1 ≠ .ok then (u.unloadEngine e.val).complete o .burinLoaded r.1 [e.val, x.prior, u.get .programId e.val] r.2
        else if x.keep then { u with nandWrites := u.nandWrites ++ [.program e.val] } else u.programLoaded e.val o) := by
  have row : exec (.programVerifyDone t e) s = execProgramVerifyDone t e s := rfl
  have checks : ¬ (x.keep ∧ u.nandLost) := by
    obtain keep | nand := kept
    · simp [keep]
    · simp [nand]
  rw [row, execProgramVerifyDone, ← now]
  simp only [← engine, ending]
  rw [if_neg (by simp [loading, unwritten]), if_neg checks, ← checked]

/-! ### START_PROGRAM and STOP_PROGRAM -/

section
variable {s : State} {a : Arrival} (class_ : objCls a.hdr.object = 0x0F)
include class_

/-- A loaded program whose routes conflict with none starts; with an INIT handler its command is completed later. -/
theorem doStartProgram_of_loaded (loaded : s.get .engineState (objIdx a.hdr.object) = enLoaded)
    (routes : s.routeConflict (objIdx a.hdr.object / 16) (s.engine (objIdx a.hdr.object)).image = false) : doStartProgram a s =
    (if ((s.startEngine (objIdx a.hdr.object) 0).engine (objIdx a.hdr.object)).init = 1 then
      ((s.startEngine (objIdx a.hdr.object) 0).modEngine (objIdx a.hdr.object)
        (fun x => { x with startBy := some ((s.startEngine (objIdx a.hdr.object) 0).originOf a .startProgram) }), .later)
    else (s.startEngine (objIdx a.hdr.object) 0, .st .ok)) := by
  unfold doStartProgram
  dsimp only
  rw [if_neg (not_not.mpr class_), if_neg (fun h => h.1 loaded), if_neg (by simp [routes])]

theorem doStopProgram_of_running (property : a.hdr.property = 0) (running : s.get .engineState (objIdx a.hdr.object) = enRunning) :
    doStopProgram a s = (s.stopEngine (objIdx a.hdr.object) enStopped 0, .st .ok) := by
  unfold doStopProgram
  simp only [property]
  rw [if_neg (not_not.mpr class_), if_pos running]

theorem doStopProgram_unload (property : a.hdr.property = 1) (loaded : s.get .engineState (objIdx a.hdr.object) = enLoaded) :
    doStopProgram a s = ({ ((s.dropProgram (objIdx a.hdr.object)).setEngine (objIdx a.hdr.object) enEmpty 0).put .autostart
        (objIdx a.hdr.object) 0 with
      progShelf := ((s.dropProgram (objIdx a.hdr.object)).setEngine (objIdx a.hdr.object) enEmpty 0).progShelf.put {}
        (objIdx a.hdr.object) {} }, .st .ok) := by
  have free : ¬ (s.get .engineState (objIdx a.hdr.object) = enRunning ∨ s.get .engineState (objIdx a.hdr.object) = enLoading ∨
      s.get .engineState (objIdx a.hdr.object) = enLost) := by
    rw [loaded]
    decide
  unfold doStopProgram
  simp only [property]
  rw [if_neg (not_not.mpr class_), if_neg free]

/-! ### READ_ENGINE -/

theorem doReadEngine_of_held (held : s.get .engineState (objIdx a.hdr.object) ≠ enEmpty) : ∃ body : List Fld, doReadEngine a s =
    (s, .done .ok ([u8 (s.get .engineState (objIdx a.hdr.object)), u8 (s.engine (objIdx a.hdr.object)).stack.length,
      u16 ((s.engine (objIdx a.hdr.object)).stack.headD {}).pc, u32 (s.get .programId (objIdx a.hdr.object)),
      u16 (iVersion (s.engine (objIdx a.hdr.object)).image), u8 (s.engine (objIdx a.hdr.object)).slot, rsv 1,
      u32 (s.get .dispatches (objIdx a.hdr.object)), u32 (s.get .budgetFaults (objIdx a.hdr.object))] ++ body)) := by
  unfold doReadEngine
  dsimp only
  rw [if_neg (not_not.mpr class_), if_neg held]
  simp only [List.append_assoc]
  exact ⟨_, rfl⟩

end

/-! ### RAISE_EVENT -/

theorem doRaiseEvent_of_firmware {s : State} {a : Arrival} {len : Nat} {payload : List Nat} (class_ : objCls a.hdr.object = 0x10)
    (least : 0x320 ≤ objIdx a.hdr.object) (most : objIdx a.hdr.object ≤ 0x33F) (short : len ≤ 32) (size : payload.length = 32)
    (binding : a.binding = .firmware) : doRaiseEvent a len payload s =
      ((s.raiseRec { num := objIdx a.hdr.object, src := oDevice, stamp := s.now, csn := s.journal.committed, safety := false
                     payload := (payload.take len).map (fun (b : Nat) => u8 b) } [] false false).trigger
        (objIdx a.hdr.object) false s.now, .st .ok) := by
  have good : ¬ (objCls a.hdr.object ≠ 0x10 ∨ objIdx a.hdr.object < 0x320 ∨ 0x33F < objIdx a.hdr.object ∨ 32 < len ∨ payload.length ≠ 32) := by
    rw [class_, size]
    omega
  unfold doRaiseEvent
  simp only [binding]
  rw [if_neg good]

/-- Settles O46: each request has its one effect, and the verification ends by what it finds. -/
theorem programRowsComplete : Obligations.ProgramRowsComplete := by
  refine ⟨?start, ?loading, ?verify, ?run, ?stop, ?read, ?raise⟩
  case start =>
    rintro s u v a o total auto e opens class_ property idle auto_ least most empty rfl
    exact exec_of_request rfl opens (doLoadProgram_start class_ idle property auto_ least most empty) rfl
  case loading =>
    intro s u a o e opens class_ idle loading open_
    exact ⟨fun property => exec_of_request rfl opens (doLoadProgram_end class_ idle loading open_ property) rfl,
      fun property => exec_of_request rfl opens (doLoadProgram_abort class_ idle loading open_ property) rfl⟩
  case verify =>
    rintro s u t e o x r rfl ending loading unwritten kept
    exact execProgramVerifyDone_of_ending rfl rfl rfl ending loading unwritten kept
  case run =>
    intro s u a o e opens class_ loaded routes
    have effect := doStartProgram_of_loaded class_ loaded routes
    exact ⟨fun other => exec_of_request rfl opens (effect.trans (if_neg other)) rfl,
      fun init => exec_of_request rfl opens (effect.trans (if_pos init)) rfl⟩
  case stop =>
    intro s u a o e opens class_
    exact ⟨fun property running => exec_of_request rfl opens (doStopProgram_of_running class_ property running) rfl,
      fun property loaded => exec_of_request rfl opens (doStopProgram_unload class_ property loaded) rfl⟩
  case read =>
    intro s u a o e opens class_ held
    obtain ⟨body, effect⟩ := doReadEngine_of_held class_ held
    exact ⟨body, exec_of_request rfl opens effect rfl⟩
  case raise =>
    intro s u a o len payload n opens class_ least most short size binding
    exact exec_of_request rfl opens (doRaiseEvent_of_firmware class_ least most short size binding) rfl

end Sys2Proof.Machine
end


section
/-! What Ratline's rows leave: identities, adverts, routing, lost credits, port administration and time over the tree (R570–R588). -/

namespace Sys2Proof.Machine

/-! ### Identities -/

/-- The state in which a port of Ratline has answered an identity with a status. -/
def State.identityAnswered (s : State) (p st : Nat) : State :=
  s.sendIdent (48 + p) 2 0x02 (.ratline p 0x02 [1, 0, st, s.var .serial])
    (ratHeader 0x02 0 12 0 (s.getN .taddr) 0 0 ++ ratBody 0x02 [1, 0, st, s.var .serial])

/-- R570: a port in IDENT answers the identity with the status of its first fault, and rejects it where there is one. -/
theorem execLinkIdentity_of_ident {s u : State} {t : Ns} {p : Fin 10} {m : LinkIdentity} {st : Nat} (at_ : u = s.tick t)
    (ident : (u.link (48 + p.val)).state = lkIdent)
    (status : (if m.major ≠ 1 then 1 else if (m.serial : Int) = u.var .serial then 2 else 0) = st) :
    exec (.linkIdentity t p m) s = .next (if st ≠ 0 then (u.identityAnswered p.val st).ratReject p.val st m.serial
      else ((((u.identityAnswered p.val st).modRat p.val
          (fun x => { x with accepted := true, rackId := m.rackId, far := m.port, incarnation := m.incarnation })).put
        .neighbour p.val m.serial).moveLink (48 + p.val) lkActive).partnerArrived 5 p.val (oRatPort p.val) m.serial) := by
  have row : exec (.linkIdentity t p m) s = execLinkIdentity t p m s := rfl
  have hears : ¬ ((u.link (48 + p.val)).state ≠ lkIdent ∧ (u.link (48 + p.val)).state ≠ lkActive) := fun h => h.1 ident
  have other : ¬ (u.link (48 + p.val)).state = lkActive := by
    rw [ident]
    decide
  rw [row, execLinkIdentity, ← at_]
  dsimp only
  rw [if_neg hears, status, if_neg other]
  rfl

/-! ### The tree -/

theorem State.advertise_of_masthead (v : State) (c : Bool) : (v.when c (fun s => s.countV .rootSeq 0)).advertise =
    if c then (v.countV .rootSeq 0).advertise else v.advertise := by
  cases c <;> rfl

/-- R579: the tray elects and advertises, a masthead with the next ROOT_SEQ. -/
theorem execTreeAdvertSend_of_due {s u v : State} {t : Ns} (at_ : u = s.tick t) (due : u.var .advertAt < 0 ∨ u.var .advertAt + 100 * us ≤ u.now)
    (elected : v = (u.setV .advertAt 0 u.now).elect) :
    exec (.treeAdvertSend t) s = .next (if v.isMasthead then (v.countV .rootSeq 0).advertise else v.advertise) := by
  have row : exec (.treeAdvertSend t) s = execTreeAdvertSend t s := rfl
  rw [row, execTreeAdvertSend, ← at_]
  dsimp only
  rw [if_pos due, ← elected, State.advertise_of_masthead]

/-- R580: an advert's age runs from the last change of root or advance of ROOT_SEQ. -/
theorem execTreeAdvert_of_up {s u : State} {t : Ns} {p : Fin 10} {m : Advert} {f : Ns} (at_ : u = s.tick t) (up : u.ratUp p.val = true)
    (fresh : f = match (u.rat p.val).advert with
      | some a => if a.root = m.root ∧ seqAdvanced a.seq m.seq = false then (u.rat p.val).freshAt else u.now
      | none => u.now) :
    exec (.treeAdvert t p m) s = .next (u.modRat p.val (fun x => { x with advert := some m, freshAt := f })).elect.settleOps := by
  have row : exec (.treeAdvert t p m) s = execTreeAdvert t p m s := rfl
  have age : f = if (match (u.rat p.val).advert with
      | some a => decide (a.root ≠ m.root) || seqAdvanced a.seq m.seq
      | none => true) then u.now else (u.rat p.val).freshAt := by
    rw [fresh]
    cases (u.rat p.val).advert with
    | none => rfl
    | some a => by_cases root : a.root = m.root <;> cases seq : seqAdvanced a.seq m.seq <;> simp [root, seq]
  rw [row, execTreeAdvert, ← at_, age]
  simp only [up]
  rfl

/-! ### Messages -/

/-- R576: a message passed on over a port, with one more hop. -/
def State.passMessage (s : State) (m : RatHeader) (vc q : Nat) : State :=
  s.ratPass q vc m.kind (if m.route = 1 then m.dst else m.serial % 4294967296)
    (.ratline q m.kind ([(m.route : Int), m.src, m.dst, m.serial, (m.hops + 1 : Nat)] ++ m.body.map (fun (b : Nat) => (b : Int))))
    (ratHeader m.kind m.route m.body.length (m.hops + 1) m.src m.dst m.serial ++ m.body)

theorem execRatlineMessageRoute_of_channel {s u : State} {t : Ns} {p : Fin 10} {m : RatHeader} {vc : Nat} (at_ : u = s.tick t)
    (channel : ratChannel m.kind = some vc) : exec (.ratlineMessageRoute t p m) s =
      .next (if 16 ≤ m.hops ∨ m.route = 0 then u
        else if m.route = 2 then
          if (m.serial : Int) = u.var .serial then u
          else match u.rackPort m.serial with | some q => u.passMessage m vc q | none => u
        else match u.treeRoute m.dst m.serial with
          | .here => u
          | .port q => u.passMessage m vc q
          | .wrongTray => if m.kind = 0x50 then u.sendRemoteReply m.src 0 Status.ratWrongTray.code [] else u
          | .unreachable => if m.kind = 0x50 then u.sendRemoteReply m.src 0 Status.ratUnreachable.code [] else u) := by
  have row : exec (.ratlineMessageRoute t p m) s = execRatlineMessageRoute t p m s := rfl
  subst at_
  rw [row, execRatlineMessageRoute]
  dsimp only
  cases channel_ : ratChannel m.kind with
  | none => exact absurd (channel_.symm.trans channel) nofun
  | some c =>
    obtain rfl : c = vc := Option.some.inj (channel_.symm.trans channel)
    exact rfl

theorem execVc1CreditTimeout_of_late {s u : State} {t : Ns} {p : Fin 10} {f : TxFlit} {late : TxFlit → Bool} (at_ : u = s.tick t)
    (late_ : late = fun f => decide (f.ch = 2) && decide (f.since + 20 * us ≤ u.now)) (queued : f ∈ (u.link (48 + p.val)).queue)
    (lateFlit : late f = true) (last : f.last = true) {v : State}
    (dropped : v = (u.modLink (48 + p.val) (fun x => { x with queue := x.queue.filter (fun f => !late f) })).each
      (List.range ((u.link (48 + p.val)).queue.filter (fun f => late f && f.last)).length) (fun s _ => s.count .vc1Drops p.val)) :
    exec (.vc1CreditTimeout t p) s = .next (if v.var .eventAt (0x2000 + p.val) < 0 ∨ v.var .eventAt (0x2000 + p.val) + sec ≤ v.now
      then (v.setV .eventAt (0x2000 + p.val) v.now).raise .ratVc1Drop (oRatPort p.val) [p.val, v.get .vc1Drops p.val] else v) := by
  have row : exec (.vc1CreditTimeout t p) s = execVc1CreditTimeout t p s := rfl
  have some_ : ((u.link (48 + p.val)).queue.filter (fun f => late f && f.last)).length ≠ 0 := by
    rw [Ne, List.length_eq_zero_iff]
    exact List.ne_nil_of_mem (List.mem_filter.mpr ⟨queued, by simp [lateFlit, last]⟩)
  subst late_ dropped
  rw [row, execVc1CreditTimeout, ← at_]
  exact congrArg Host.Outcome.next (if_neg some_)

/-! ### Time over the tree -/

/-- R587: the first exchange with the parent, more than 20 ns off, is kept and breaks the run of close ones. -/
theorem execRatlineTimeFlit_of_first {s u : State} {t : Ns} {p : Fin 10} {tTx tEcho hold : Nat} {parentLocked : Bool} {offset : Int}
    (up : (s.tick t).ratUp p.val = true) (now : u = (s.tick t).modLink (48 + p.val) (fun x => { x with rxTtx := tTx, rxAt := (s.tick t).now }))
    (parent : u.var .upPort = p.val) (stays : u.ratUp p.val = true) (first : (u.rat p.val).exchanges = [])
    (offset_ : offset = tTx + ((u.now - tEcho - hold) / 2 : Nat) - u.now) (wide : 20 < offset.natAbs) :
    exec (.ratlineTimeFlit t p tTx tEcho hold parentLocked) s =
      .next (u.modRat p.val (fun x => { x with exchanges := [(u.now, offset)], close := 0 })) := by
  have row : exec (.ratlineTimeFlit t p tTx tEcho hold parentLocked) s = execRatlineTimeFlit t p tTx tEcho hold parentLocked s := rfl
  have here : ¬ (u.var .upPort ≠ p.val ∨ (!u.ratUp p.val) = true) := by simp [parent, stays]
  rw [row, execRatlineTimeFlit]
  simp only [State.when, up, if_true]
  rw [← now, if_neg here]
  simp only [← offset_, first, if_neg (not_le.mpr wide)]
  rfl

/-- Settles O47: each clause is the branch that its conditions open. -/
theorem ratlineRowsComplete : Obligations.RatlineRowsComplete := by
  refine ⟨?identity, ?ack, ?advertise, ?advert, ?stale, ?route, ?credits, ?admin, ?time, ?flit⟩
  case identity =>
    intro s u t p m at_ ident answered
    refine ⟨fun major other => ⟨_, rfl, ?_⟩, fun major => ?_, fun major own => ?_⟩
    · exact execLinkIdentity_of_ident at_ ident (by rw [if_neg (not_not.mpr major), if_neg other])
    · exact execLinkIdentity_of_ident at_ ident (if_pos major)
    · exact execLinkIdentity_of_ident at_ ident (by rw [if_neg (not_not.mpr major), if_pos own])
  case ack =>
    rintro s u t p major minor status serial rfl open_
    exact ⟨fun refused => exec_of_guard rfl ⟨refused, open_⟩,
      fun accepted => congrArg Host.Outcome.next (if_neg fun h => h.1 accepted)⟩
  case advertise =>
    intro s u v t at_ due elected
    exact execTreeAdvertSend_of_due at_ due elected
  case advert =>
    intro s u t p m at_ up f
    exact execTreeAdvert_of_up at_ up rfl
  case stale =>
    rintro s u t rfl parent stale
    exact exec_of_guard rfl ⟨parent, Option.isNone_iff_eq_none.mpr stale⟩
  case route =>
    intro s u t p m vc at_ channel pass
    have row := execRatlineMessageRoute_of_channel (p := p) at_ channel
    refine ⟨fun stops => ?_, fun hops rack other q port => ?_, fun hops tree q port => ?_, fun hops tree lost request => ?_,
      fun hops tree wrong request => ?_⟩
    · rw [row, if_pos stops]
    · rw [row, if_neg (by omega), if_pos rack, if_neg other, port]
      rfl
    · rw [row, if_neg (by omega), if_neg (by omega), port]
      rfl
    · rw [row, if_neg (by omega), if_neg (by omega), lost]
      exact congrArg Host.Outcome.next (if_pos request)
    · rw [row, if_neg (by omega), if_neg (by omega), wrong]
      exact congrArg Host.Outcome.next (if_pos request)
  case credits =>
    intro s u v t p f at_ queued channel last old late dropped
    exact execVc1CreditTimeout_of_late at_ rfl queued (by simp [channel, old]) last dropped
  case admin =>
    intro s u a o v i opens
    exact exec_of_write rfl opens rfl rfl
  case time =>
    rintro s u t rfl
    rfl
  case flit =>
    intro s u t p tTx tEcho hold parentLocked up now parent stays first offset wide
    exact execRatlineTimeFlit_of_first up now parent stays first rfl wide

end Sys2Proof.Machine
end


section
/-! What the rows of global operations, of remote requests and of exports over the tree leave (R590–R602, R657). -/

namespace Sys2Proof.Machine

/-! ### Global operations -/

/-- R590: an operation whose OP_ID is not held passes on as a collective, or begins here. -/
theorem State.takeOpDown_of_new {s : State} {p : Nat} {m : OpMsg} (parent : s.var .upPort = p) (tree : s.get .depth ≠ 255)
    (new : ∀ x ∈ s.globalOps, x.opId ≠ m.opId) :
    (m.kind ≤ 1 → s.takeOpDown p m = { s.opDown m with opsPassed := (m.opId :: s.opsPassed).take 16 }) ∧
    (1 < m.kind → s.globalOps = [] → s.takeOpDown p m = s.opBegin {} m false) := by
  have unheld : s.globalOps.find? (fun x => decide (x.opId = m.opId)) = none :=
    List.find?_eq_none.mpr fun x held => by simp [new x held]
  unfold State.takeOpDown
  rw [if_neg (by simp [parent, tree]), unheld]
  refine ⟨fun collective => if_pos collective, fun other empty => ?_⟩
  dsimp only
  rw [if_neg (not_le.mpr other)]
  simp only [empty, List.find?_nil, List.length_nil]
  rfl

theorem State.takeOpUp_of_held {s : State} {p : Nat} {m : OpMsg} {x : GlobalOp} (child : s.get .portRole p = 3)
    (held : s.globalOps.find? (fun x => decide (x.opId = m.opId)) = some x) (open_ : x.closed = false) (first : p ∉ x.heard)
    (agrees : x.kind = m.kind ∧ x.scope = m.scope ∧ x.reduceOp = m.reduceOp) :
    s.takeOpUp p m = s.setOp x { x with heard := x.heard ++ [p], up := x.up.merge m } := by
  obtain ⟨kind, scope, reduceOp⟩ := agrees
  unfold State.takeOpUp
  rw [if_neg (not_not.mpr child), held]
  exact if_neg (by simp [open_, first, kind, scope, reduceOp])

/-- Outside snapshots nothing is latched. -/
theorem State.latchSnaps_of_others {s : State} (others : ∀ x ∈ s.globalOps, x.kind ≠ 3) : s.latchSnaps = s := by
  have none_ : s.globalOps.filter (fun x => decide (x.kind = 3) && x.begun && x.own.isNone && decide (x.at_ ≤ s.now)) = [] :=
    List.filter_eq_nil_iff.mpr fun x held => by simp [others x held]
  unfold State.latchSnaps
  rw [none_]
  rfl

/-- R591: one operation that is no orphan and is ready closes. -/
theorem State.settleOps_of_ready {s : State} {x : GlobalOp} (held : s.globalOps = [x]) (attended : s.opOrphan x = false)
    (ready : s.opReady x = true) : s.settleOps = s.opClose x := by
  have orphans : s.globalOps.filter s.opOrphan = [] := by rw [held, List.filter_cons_of_neg (by simp [attended]), List.filter_nil]
  have readies : s.globalOps.filter s.opReady = [x] := by rw [held, List.filter_cons_of_pos ready, List.filter_nil]
  unfold State.settleOps
  rw [orphans]
  simp only [State.each, List.foldl_nil]
  rw [readies]
  rfl

theorem execSnapData_of_settled {s u : State} {t : Ns} {m : SnapData} (at_ : u = s.tick t)
    (complete : u.globalOps.find? (fun x => decide (x.opId = m.opId) && x.dataDue.isSome) = none) : exec (.snapData t m) s =
      .next (u.snapStore m.opId m.taddr ([u32 m.opId, u32 m.taddr, u64 m.serial, u16 m.rackId, u8 (if m.unlocked then 1 else 0), u8 m.timeState,
        u16 m.result.length, rsv 2] ++ m.result.map (fun (b : Nat) => u8 b))) := by
  have row : exec (.snapData t m) s = execSnapData t m s := rfl
  have kept (r : List Fld) : (u.snapStore m.opId m.taddr r).globalOps = u.globalOps := rfl
  rw [row, execSnapData, ← at_]
  rw [kept, complete]

/-! ### Remote requests -/

section
variable {s u : State} {t : Ns} (at_ : u = s.tick t)
include at_

theorem execRemoteRequest_of_first {p : Fin 10} {serial addr attempt : Nat} {hdr : Header} {body : Body} (empty : u.remoteIns = []) :
    exec (.remoteRequest t p serial addr attempt hdr body) s =
      .next (State.arriveAt { u with remoteIns := [{ serial, addr, queue := hdr.queue, tag := hdr.tag }] }
        { t, binding := .ratline p serial, queue := hdr.queue, hdr } body) := by
  have row : exec (.remoteRequest t p serial addr attempt hdr body) s = execRemoteRequest t p serial addr attempt hdr body s := rfl
  rw [row, execRemoteRequest, ← at_]
  simp only [empty, List.find?_nil]
  rfl

theorem execRemoteRequest_of_repeat {p : Fin 10} {serial addr : Nat} {hdr : Header} {body : Body} {r : RemoteIn} {packet : List Nat}
    (held : u.remoteIns.find? (fun r => decide (r.serial = serial) && decide (r.queue = hdr.queue) && decide (r.tag = hdr.tag)) = some r)
    (reply : r.reply = some packet) :
    exec (.remoteRequest t p serial addr 2 hdr body) s = .next (u.sendRemoteReply addr serial 0 packet) := by
  have row : exec (.remoteRequest t p serial addr 2 hdr body) s = execRemoteRequest t p serial addr 2 hdr body s := rfl
  rw [row, execRemoteRequest, ← at_]
  simp only [held, if_true, reply]

theorem execRemoteReply_of_out {serial status : Nat} {packet : List Nat} {r : RemoteOut} (out : u.remoteOuts = [r]) (tray : r.serial = serial)
    (answers : packet = [] ∨ (r.hdr.tag = leValue ((packet.drop 4).take 2) ∧ r.hdr.queue = leValue ((packet.drop 8).take 2))) :
    exec (.remoteReply t serial status packet) s = .next (if status = Status.ratWrongTray.code then u.remoteEnd r .ratWrongTray []
      else if status = Status.ratUnreachable.code then u.remoteEnd r .ratUnreachable [] else u.remoteEnd r .ok packet) := by
  have row : exec (.remoteReply t serial status packet) s = execRemoteReply t serial status packet s := rfl
  have hit : u.remoteOuts.find? (fun r => (decide (r.serial = 0) || decide (serial = 0) || decide (r.serial = serial)) &&
      (packet.isEmpty || (decide (r.hdr.tag = leValue ((packet.drop 4).take 2)) && decide (r.hdr.queue = leValue ((packet.drop 8).take 2))))) =
      some r := by
    rw [out]
    refine List.find?_cons_of_pos ?_
    obtain rfl | ⟨tag, queue⟩ := answers
    · simp [tray]
    · simp [tray, tag, queue]
  rw [row, execRemoteReply, ← at_]
  rw [hit]

theorem execRemoteTimeoutExpiry_of_due {r : RemoteOut} (out : u.remoteOuts = [r]) (due : r.due ≤ u.now) (fail : r.fail = none) :
    exec (.remoteTimeoutExpiry t) s = .next (if r.attempt = 1 then
        ({ u with remoteOuts := u.remoteOuts.map (fun x => if x = r then { r with attempt := 2, due := u.now + u.getN .remoteTimeout * us } else x) } :
          State).remoteSend { r with attempt := 2, due := u.now + u.getN .remoteTimeout * us }
      else (u.raise .ratRemoteLost oDevice [r.hdr.queue, r.hdr.tag, r.addr, r.serial]).remoteEnd r .ratOutcomeUnknown []) := by
  have row : exec (.remoteTimeoutExpiry t) s = execRemoteTimeoutExpiry t s := rfl
  have late : u.remoteOuts.filter (fun r => decide (r.due ≤ u.now)) = [r] := by
    rw [out, List.filter_cons_of_pos (by exact decide_eq_true due), List.filter_nil]
  rw [row, execRemoteTimeoutExpiry, ← at_]
  dsimp only
  rw [late]
  simp only [State.each, List.foldl_cons, List.foldl_nil, fail]

/-! ### Exports over the tree -/

section
variable {src serial id seq offset len : Nat} {x : Export} (held : u.exports.find? (fun x => x.path = 2 ∧ x.id = id) = some x)
include held

theorem execExportData_of_fits (fits : offset + len ≤ x.room) : exec (.exportData t src serial id seq offset len) s =
    .next { u.ratTree 3 0x63 src serial [id, seq, 0] with
      exports := (u.ratTree 3 0x63 src serial [id, seq, 0]).exports.map (fun y =>
        if y = x then { x with got := x.got + len, heard := (u.ratTree 3 0x63 src serial [id, seq, 0]).now } else y) } := by
  have row : exec (.exportData t src serial id seq offset len) s = execExportData t src serial id seq offset len s := rfl
  have room : decide (x.room < offset + len) = false := decide_eq_false (not_lt.mpr fits)
  rw [row, execExportData, ← at_]
  dsimp only
  rw [held]
  dsimp only
  rw [room]
  rfl

theorem execExportData_of_full (full : x.room < offset + len) : exec (.exportData t src serial id seq offset len) s =
    .next ((u.ratTree 3 0x63 src serial [id, seq, Status.recBufferFull.code]).exportDone x .recBufferFull (min x.room (max x.got offset))) := by
  have row : exec (.exportData t src serial id seq offset len) s = execExportData t src serial id seq offset len s := rfl
  have room : decide (x.room < offset + len) = true := decide_eq_true full
  rw [row, execExportData, ← at_]
  dsimp only
  rw [held]
  dsimp only
  rw [room]
  rfl

theorem execExportEnd_of_held {bytes status : Nat} : exec (.exportEnd t id bytes status) s =
    .next (u.exportDone x (if status = 0 then .ok else .ratOutcomeUnknown) (if status = 0 then bytes else x.got)) := by
  have row : exec (.exportEnd t id bytes status) s = execExportEnd t id bytes status s := rfl
  rw [row, execExportEnd, ← at_, held]

end

section
variable {id seq status : Nat} {x : Export} (held : u.exports.find? (fun x => x.path = 1 ∧ x.id = id ∧ seq ∈ x.open_) = some x)
include held

theorem execExportAck_of_refused (refused : status ≠ 0) : exec (.exportAck t id seq status) s = .next (u.exportDone x .recBufferFull x.got) := by
  have row : exec (.exportAck t id seq status) s = execExportAck t id seq status s := rfl
  rw [row, execExportAck, ← at_]
  dsimp only
  rw [held]
  exact congrArg Host.Outcome.next (if_pos refused)

/-- R657: the acknowledgement of the last open message ends the sending. -/
theorem execExportAck_of_last {y : Export} (last : x.open_ = [seq]) (sent : exportCount x ≤ x.next)
    (done : y = { x with open_ := [], heard := u.now, got := x.got + min 4096 (exportTotal x - 4096 * seq) }) :
    exec (.exportAck t id seq 0) s = .next ((({ u with exports := u.exports.map (fun z => if z = x then y else z) } : State).ratTree 3 0x64 y.addr
      y.serial [y.id, (exportTotal y : Nat), 0]).exportDone y .ok (exportTotal y)) := by
  have row : exec (.exportAck t id seq 0) s = execExportAck t id seq 0 s := rfl
  have emptied : x.open_.filter (· ≠ seq) = [] := by simp [last]
  subst done
  rw [row, execExportAck, ← at_]
  dsimp only
  rw [held]
  dsimp only
  rw [if_neg (not_not.mpr rfl), emptied]
  exact congrArg Host.Outcome.next (if_pos ⟨rfl, sent⟩)

end

end

/-- Settles O48: each clause is the branch that its conditions open. -/
theorem globalOpRowsComplete : Obligations.GlobalOpRowsComplete := by
  refine ⟨?start, ?down, ?up, ?close, ?data, ?collect, ?request, ?repeat_, ?reply, ?timeout, ?exportData, ?exportAck, ?exportEnd⟩
  case start =>
    intro s u t src serial hdr body kind scope payload at_ operation root tree room
    have row : exec (.opStart t src serial hdr body) s = execOpStart t src serial hdr body s := rfl
    rw [row, execOpStart, ← at_]
    rw [operation]
    exact congrArg Host.Outcome.next (if_neg (by simp [root, tree, room]))
  case down =>
    rintro s u t p m rfl parent tree new
    obtain ⟨collective, other⟩ := State.takeOpDown_of_new parent tree new
    exact ⟨fun kind => congrArg (fun z : State => Host.Outcome.next z.settleOps) (collective kind),
      fun kind empty => congrArg (fun z : State => Host.Outcome.next z.settleOps) (other kind empty)⟩
  case up =>
    rintro s u t p m x rfl child held open_ first kind scope reduceOp
    exact congrArg (fun z : State => Host.Outcome.next z.settleOps) (State.takeOpUp_of_held child held open_ first ⟨kind, scope, reduceOp⟩)
  case close =>
    rintro s u t x rfl held kind attended ready
    have row : exec (.opWaitClose t) s = .next (((s.tick t).latchSnaps).settleOps).lockClose := rfl
    rw [row, State.latchSnaps_of_others (by rw [held]; simp [kind]), State.settleOps_of_ready held attended ready]
  case data =>
    intro s u t m at_ complete
    exact execSnapData_of_settled at_ complete
  case collect =>
    rintro s u t x d rfl held due passed
    have late : (s.tick t).globalOps.filter (fun x => x.dataDue.any (fun d => decide (d ≤ (s.tick t).now))) = [x] := by
      rw [held, List.filter_cons_of_pos (by rw [due]; exact decide_eq_true passed), List.filter_nil]
    exact congrArg (fun l : List GlobalOp => Host.Outcome.next ((s.tick t).each l State.snapComplete)) late
  case request =>
    intro s u t p serial addr attempt hdr body at_ empty
    exact execRemoteRequest_of_first at_ empty
  case repeat_ =>
    intro s u t p serial addr hdr body r packet at_ held reply
    exact execRemoteRequest_of_repeat at_ held reply
  case reply =>
    intro s u t serial status packet r at_ out tray answers
    have row := execRemoteReply_of_out (status := status) at_ out tray answers
    refine ⟨?_, ?_⟩
    · rintro rfl
      exact row
    · rintro rfl
      exact row
  case timeout =>
    rintro s u t r r' at_ out due fail rfl
    have row := execRemoteTimeoutExpiry_of_due at_ out due fail
    refine ⟨fun first => ?_, fun second => ?_⟩
    · rw [row, if_pos first, out, List.map_singleton, if_pos rfl]
    · rw [row, if_neg (by omega)]
  case exportData =>
    intro s u t src serial id seq offset len x at_ held
    exact ⟨fun fits => ⟨_, rfl, execExportData_of_fits at_ held fits⟩, fun full => execExportData_of_full at_ held full⟩
  case exportAck =>
    intro s u t id seq status x at_ held
    refine ⟨fun refused => execExportAck_of_refused at_ held refused, ?_⟩
    rintro rfl last sent y
    exact execExportAck_of_last at_ held last sent rfl
  case exportEnd =>
    intro s u t id bytes status x at_ held
    have row := execExportEnd_of_held (bytes := bytes) (status := status) at_ held
    exact ⟨fun ok => by rw [row, if_pos ok, if_pos ok], fun bad => by rw [row, if_neg bad, if_neg bad]⟩

end Sys2Proof.Machine
end


section
/-! What the requests of global operations leave (R590–R602). -/

namespace Sys2Proof.Machine

/-! ### Who may begin an operation -/

section
variable {s : State} {scope : Nat}

theorem State.opBar_of_tree (tree : s.get .depth ≠ 255) (within : inScope scope (s.getN .taddr) = true) : s.opBar scope = none := by
  unfold State.opBar
  rw [if_neg tree, within]
  rfl

theorem State.opBar_of_outside (tree : s.get .depth ≠ 255) (outside : inScope scope (s.getN .taddr) = false) :
    s.opBar scope = some .badParam := by
  unfold State.opBar
  rw [if_neg tree, outside]
  rfl

/-- R594: at the root of its scope an operation begins at once. -/
theorem State.initiated_of_root {o : Origin} {a : Arrival} {kind : Nat} {payload : OpPayload} {body : Body} (tree : s.get .depth ≠ 255)
    (root : scope = s.getN .taddr) (within : inScope scope scope = true) (room : s.globalOps.length < 16) :
    s.initiated o a kind scope payload body = (s.opRoot kind scope payload [o], .accepted []) := by
  unfold State.initiated
  rw [State.opBar_of_tree tree (root ▸ within)]
  dsimp only
  rw [if_neg (not_le.mpr room), if_pos root.symm]

end

/-! ### Collectives -/

/-- The operation a collective request begins where none is held (R590). -/
def State.newCollective (s : State) (o : Origin) (kind opId scope timeout rop : Nat) (value : Int) : GlobalOp :=
  { opId, kind, reduceOp := rop, scope, timeout, origins := [o], root := decide (s.getN .taddr = scope), begun := true
    parent := if s.getN .taddr = scope then -1 else s.var .upPort
    closeAt := s.now + timeout * us + s.getN .height * (20 * us)
    expected := s.downPorts, own := some 0
    up := OpMsg.merge { reduceOp := rop } { members := 1, value } }

section
variable {s : State} {o : Origin} {kind opId scope timeout rop : Nat} {value : Int} (least : 100 ≤ timeout) (most : timeout ≤ 60000000)
  (step : timeout % 100 = 0) (id : opId < 2 ^ 31) (op : rop ≤ 4)
include least most step id op

theorem State.collective_of_bar {st : Status} (bar : s.opBar scope = some st) :
    s.collective o kind opId scope timeout rop value = (s, .st st) := by
  unfold State.collective
  rw [if_neg (by omega), bar]

theorem State.collective_of_new (tree : s.get .depth ≠ 255) (within : inScope scope (s.getN .taddr) = true) (new : opId ∉ s.opsPassed)
    (empty : s.globalOps = []) : s.collective o kind opId scope timeout rop value =
      (s.putOps [s.newCollective o kind opId scope timeout rop value], .accepted []) := by
  unfold State.collective
  rw [if_neg (by omega), State.opBar_of_tree tree within]
  dsimp only
  rw [if_neg new, empty, List.find?_nil]
  simp only [State.newCollective, decide_eq_true_eq]
  rfl

end

section
variable {s : State} {a : Arrival}

theorem doBarrier_of_begin {opId scope timeout : Nat} (property : a.hdr.property = 0) :
    doBarrier a (.barrier opId scope timeout) s = s.collective (s.originOf a .barrier) 0 opId scope timeout 0 0 := by
  unfold doBarrier
  simp only [property]

theorem doReduce_of_begin {opId scope timeout rop : Nat} {value : Int} (property : a.hdr.property = 0) :
    doReduce a (.reduce opId scope timeout rop value) s = s.collective (s.originOf a .reduce) 1 opId scope timeout rop value := by
  unfold doReduce
  simp only [property]

theorem doReduce_of_result {id : Nat} (property : a.hdr.property = 1) : doReduce a (.opId id) s = (s, s.opResult (s.sessionId a) id) := by
  unfold doReduce
  simp only [property]

end

/-! ### BROADCAST, SNAPSHOT_GLOBAL and RESET_GLOBAL -/

theorem doSnapshotGlobal_of_root {s : State} {a : Arrival} {scope : Nat} {items : List SnapItem} (property : a.hdr.property = 0) (some_ : items ≠ [])
    (most : items.length ≤ 32) (empty : s.snapBufs = []) (tree : s.get .depth ≠ 255) (root : scope = s.getN .taddr)
    (within : inScope scope scope = true) (room : s.globalOps.length < 16) : doSnapshotGlobal a (.snapshot scope items) s =
      (State.opRoot { s with snapBufs := [({ session := s.sessionId a, origin := s.originOf a .snapshotGlobal } : SnapBuf)] } 3 scope
        (.items items) [s.originOf a .snapshotGlobal], .accepted []) := by
  have begins : State.initiated { s with snapBufs := [({ session := s.sessionId a, origin := s.originOf a .snapshotGlobal } : SnapBuf)] }
      (s.originOf a .snapshotGlobal) a 3 scope (.items items) (.snapshotGlobal (.snapshot scope items)) = _ :=
    State.initiated_of_root tree root within room
  unfold doSnapshotGlobal
  simp only [property]
  rw [if_neg (by simp [some_, most]), if_neg (by simp [empty]), empty, List.nil_append, begins]

theorem doResetGlobal_of_root {s : State} {a : Arrival} {scope kind mask deadline : Nat} (property : a.hdr.property = 0) (kind_ : kind ≤ 2)
    (mask_ : mask < 256) (deadline_ : deadline = 0 ∨ (100 ≤ deadline ∧ deadline ≤ 60000 ∧ deadline % 100 = 0)) (tree : s.get .depth ≠ 255)
    (root : scope = s.getN .taddr) (within : inScope scope scope = true) (room : s.globalOps.length < 16) :
    doResetGlobal a (.reset scope kind mask deadline) s =
      (s.opRoot 4 scope (.reset kind mask deadline) [s.originOf a .resetGlobal], .accepted []) := by
  unfold doResetGlobal
  simp only [property]
  rw [if_neg (by omega), State.initiated_of_root tree root within room]

theorem doBroadcast_of_root {s : State} {a : Arrival} {scope serial : Nat} {hdr : Header} {inner : Body} (property : a.hdr.property = 0)
    (least : 36 ≤ hdr.packetLen) (most : hdr.packetLen ≤ 4000) (tree : s.get .depth ≠ 255) (root : scope = s.getN .taddr)
    (within : inScope scope scope = true) (room : s.globalOps.length < 16) : doBroadcast a (.broadcast scope 1 serial) hdr inner s =
      (s.opRoot 2 scope (.packet hdr inner) [s.originOf a .broadcast], .accepted []) := by
  unfold doBroadcast
  simp only [property]
  rw [if_neg (by omega), if_pos trivial, State.initiated_of_root tree root within room]

/-- Settles O49: each request has its one effect, and the two that fail leave what their status leaves. -/
theorem globalRequestsComplete : Obligations.GlobalRequestsComplete := by
  refine ⟨?barrier, ?untreed, ?outside, ?reduce, ?result, ?broadcast, ?snapshot, ?reset⟩
  case barrier =>
    intro s u a o opId scope timeout opens property id least most step tree within new empty x
    exact exec_of_request rfl opens
      ((doBarrier_of_begin property).trans (State.collective_of_new least most step id (Nat.zero_le 4) tree within new empty)) rfl
  case untreed =>
    intro s v a o opId scope timeout reached property id least most step untreed
    exact congrArg Host.Outcome.next (State.request_of_failed _ reached
      ((doBarrier_of_begin property).trans (State.collective_of_bar least most step id (Nat.zero_le 4) (if_pos untreed))) rfl)
  case outside =>
    intro s v a opId scope timeout arrives property id least most step tree outside
    have effect : doBarrier a (.barrier opId scope timeout) v = (v, .st .badParam) := (doBarrier_of_begin property).trans
      (State.collective_of_bar least most step id (Nat.zero_le 4) (State.opBar_of_outside tree outside))
    exact congrArg Host.Outcome.next (State.request_of_refused _ arrives (by rw [effect]; rfl))
  case reduce =>
    intro s u a o opId scope timeout rop value opens property id least most step op tree within new empty
    refine ⟨u.newCollective (u.originOf a .reduce) 1 opId scope timeout rop value, ?_, rfl, rfl, rfl, rfl, rfl, rfl, rfl⟩
    exact exec_of_request rfl opens
      ((doReduce_of_begin property).trans (State.collective_of_new least most step id op tree within new empty)) rfl
  case result =>
    intro s u a o id opens property
    refine congrArg Host.Outcome.next ((State.request_of_query _ opens rfl rfl).trans ?_)
    rw [doReduce_of_result property]
  case broadcast =>
    intro s u a o scope serial hdr inner opens property least most tree root within room
    exact exec_of_request rfl opens (doBroadcast_of_root property least most tree root within room) rfl
  case snapshot =>
    intro s u a o scope items opens property some_ most empty tree root within room
    exact exec_of_request rfl opens (doSnapshotGlobal_of_root property some_ most empty tree root within room) rfl
  case reset =>
    intro s u a o scope kind mask deadline opens property kind_ mask_ deadline_ tree root within room
    exact exec_of_request rfl opens (doResetGlobal_of_root property kind_ mask_ deadline_ tree root within room) rfl

end Sys2Proof.Machine
end


section
/-! What the rows of the two-wire controller ports leave (R614–R622). -/

namespace Sys2Proof.Machine

/-! ### Grants -/

/-- R153: a transfer or PMBus write of a request has APPLY_BEGIN written before its first transaction. -/
def State.grantBegun (s : State) (r : BusReq) : State :=
  match r.work, r.origin with
  | .transfer, some o | .pmWrite, some o => s.beginApply o
  | _, _ => s

theorem State.grantBegun_of_write {s : State} {r : BusReq} {o : Origin} (origin : r.origin = some o) (work : r.work = .transfer ∨ r.work = .pmWrite) :
    s.grantBegun r = s.beginApply o := by
  unfold State.grantBegun
  obtain work | work := work <;> rw [work, origin]

theorem State.grantBegun_of_other {s : State} {r : BusReq} (transfer : r.work ≠ .transfer) (write : r.work ≠ .pmWrite) :
    s.grantBegun r = s := by
  unfold State.grantBegun
  split
  next work _ => exact absurd work transfer
  next work _ => exact absurd work write
  next => rfl

/-- R614: the request that is granted holds the port, and its first transaction starts. -/
theorem execBusGrant_of_next {s u v w : State} {t : Ns} {port : Fin 32} {r : BusReq} {turn : Nat} (at_ : u = s.tick t)
    (idle : u.portState port.val = busIdle) (look : (u.bus port.val).look = false) (free : (u.bus port.val).hold = none)
    (serves : u.inService (busTile port.val) = true) (next : u.nextGrant port.val = some (r, turn))
    (taken : v = (u.modBus port.val (fun b => { b with queue := b.queue.erase r, turn })).countQueued port.val)
    (reachable : v.farBlocked port.val r.txns = false) (begun : w = v.grantBegun r) : exec (.busGrant t port) s =
      settled (.next ((w.modBus port.val (fun b => { b with hold := some r, index := 0, tries := 0, holdSince := w.now, reads := []
                                                            paused := false })).startTxn port.val)) := by
  have row : exec (.busGrant t port) s = settled (onBusGrant t port s) := rfl
  have open_ : u.portState port.val = busIdle ∧ (!(u.bus port.val).look) = true ∧ (u.bus port.val).hold.isNone = true ∧
      u.inService (busTile port.val) = true := ⟨idle, by rw [look]; rfl, by rw [free]; rfl, serves⟩
  rw [row, onBusGrant, ← at_]
  dsimp only
  rw [if_pos open_, next]
  dsimp only
  rw [← taken, reachable, begun]
  rfl

/-! ### Transactions that end -/

theorem execTwoWireTransactionEnd_of_running {s u : State} {t : Ns} {port : Fin 32} {x : TxnEnd} (at_ : u = s.tick t)
    (running : u.txnRuns port.val = true) : exec (.twoWireTransactionEnd t port x) s = settled (.next (match x with
      | .done reads => u.txnOk port.val reads
      | .addrNak k => (if (u.bus port.val).hold.any (fun r => r.owner = 0)
          then ((u.count .naks port.val).txnBefore port.val (u.bus port.val).txn k).deviceTried port.val
            ((((u.bus port.val).txn[k]?).map (fun (x : BusSeg) => x.addr)).getD 0) true
          else (u.count .naks port.val).txnBefore port.val (u.bus port.val).txn k).txnFails port.val .busAddrNak k false busIdle
      | .dataNak k => ((u.count .naks port.val).txnAcked port.val ((u.bus port.val).txn.take (k + 1))).txnFails port.val .busDataNak k false busIdle
      | .pec k => ((u.count .pecErrors port.val).txnAcked port.val ((u.bus port.val).txn.take (k + 1))).txnFails port.val .busPec k false busIdle
      | .arbLost k => ((u.count .arbLosses port.val).txnBefore port.val (u.bus port.val).txn k).txnFails port.val .busArbLost k true busForeign)) := by
  have row : exec (.twoWireTransactionEnd t port x) s = settled (onTwoWireTransactionEnd t port x s) := rfl
  rw [row]
  unfold onTwoWireTransactionEnd
  dsimp only
  rw [← at_, running]
  cases x with
  | done reads => exact rfl
  | addrNak k => exact rfl
  | dataNak k => exact rfl
  | pec k => exact rfl
  | arbLost k => exact rfl

theorem execBusIllegalCond_of_running {s u v : State} {t : Ns} {port : Fin 32} {kind : Fin 2} {bit : Fin 10} {seg : Nat} (at_ : u = s.tick t)
    (running : u.txnRuns port.val = true) (looks : v = (u.count .illegalConds port.val).modBus port.val (fun b => { b with look := true })) :
    exec (.busIllegalCond t port kind bit seg) s =
      settled (.next (((v.busEvent 0 port.val .busIllegalCond [port.val, kind.val, 0, bit.val, v.get .illegalConds port.val]).txnBefore port.val
        (u.bus port.val).txn seg).txnFails port.val .busInterrupted seg true busForeign)) := by
  have row : exec (.busIllegalCond t port kind bit seg) s = settled (onBusIllegalCond t port kind bit seg s) := rfl
  have kept : (v.bus port.val).txn = (u.bus port.val).txn := by
    subst looks
    exact (congrArg BusSt.txn (Tab.get_put_self _ _ _ _)).trans rfl
  rw [row, onBusIllegalCond, ← at_]
  dsimp only
  rw [if_pos running, ← looks, kept]

/-- Settles O50: each clause is the branch that its conditions open. -/
theorem busRowsComplete : Obligations.BusRowsComplete := by
  refine ⟨?grant, ?write, ?wait, ?end_, ?timeout, ?illegal, ?sda, ?scl, ?retry, ?foreign, ?idle⟩
  case grant =>
    intro s u v t port r turn p at_ idle look free serves next taken reachable transfer write
    exact execBusGrant_of_next at_ idle look free serves next taken reachable (State.grantBegun_of_other transfer write).symm
  case write =>
    intro s u v t port r o turn p at_ idle look free serves next origin work taken reachable
    exact ⟨_, rfl, execBusGrant_of_next at_ idle look free serves next taken reachable (State.grantBegun_of_write origin work).symm⟩
  case wait =>
    rintro s u v t port l rfl rfl rfl
    rfl
  case end_ =>
    intro s u t port p at_ running own
    exact ⟨fun reads => execTwoWireTransactionEnd_of_running at_ running, fun k => execTwoWireTransactionEnd_of_running at_ running,
      fun k => execTwoWireTransactionEnd_of_running at_ running, fun k => execTwoWireTransactionEnd_of_running at_ running,
      fun k => execTwoWireTransactionEnd_of_running at_ running⟩
  case timeout =>
    rintro s u v t port kind seg p addr rfl running mode rfl
    exact exec_of_settled_guard rfl ⟨running, mode⟩
  case illegal =>
    intro s u v t port kind bit seg p at_ running looks
    exact execBusIllegalCond_of_running at_ running looks
  case sda =>
    rintro s u t port clocked pulsed near rfl rests looks
    exact exec_of_settled_guard rfl ⟨rests, looks⟩
  case scl =>
    rintro s u t port low pulsed near rfl rests due
    exact exec_of_settled_guard rfl ⟨rests, due⟩
  case retry =>
    rintro s u t port clocked pulsed near rfl serves failed due
    exact exec_of_settled_guard rfl ⟨serves, failed, due⟩
  case foreign =>
    intro s u t port at_ rests
    have row (start : Bool) : exec (.foreignStartStop t port start) s = settled (onForeignStartStop t port start s) := rfl
    refine ⟨fun idle => ?_, fun foreign => ?_⟩
    · rw [row, onForeignStartStop, ← at_, rests, if_neg (by decide), if_pos rfl, if_pos idle]
    · rw [row, onForeignStartStop, ← at_, rests, if_neg (by decide), if_neg (by decide), if_pos (.inl foreign)]
  case idle =>
    intro s u t port at_ rests other busy
    have row : exec (.busIdleTime t port) s = settled (onBusIdleTime t port s) := rfl
    have waits : ¬ (u.portState port.val = busIdle ∧ (!(u.bus port.val).look) = true) := by
      simpa [imp_iff_not_or] using busy
    rw [row, onBusIdleTime, ← at_, rests, if_neg (by decide), if_neg other, if_neg waits]

end Sys2Proof.Machine
end


section
/-! What the requests on the two-wire buses leave (R615–R634). -/

namespace Sys2Proof.Machine

/-! ### The port of a request -/

theorem ctrlPort_of_controller {o : ObjId} (class_ : objCls o = 0x0E) (port : objIdx o < 32) : ctrlPort o = .ok (objIdx o) := by
  unfold ctrlPort
  rw [if_neg (not_not.mpr class_), if_neg (not_le.mpr port)]

theorem ctrlPort_of_target {o : ObjId} (class_ : objCls o = 0x0E) (port : 32 ≤ objIdx o) : ctrlPort o = .error .busNotController := by
  unfold ctrlPort
  rw [if_neg (not_not.mpr class_), if_pos port]

/-! ### Queueing -/

theorem State.queueBus_of_reachable {s : State} {a : Arrival} {op : Op} {p : Nat} {work : BusWork} {txns : List (List BusSeg)} {retries : Nat}
    (reachable : s.farBlocked p txns = false) (works : s.portState p ≠ busFailed) : s.queueBus a op p work txns retries =
      ((s.modBus p (fun b => { b with queue := b.queue ++ [{ owner := busOwner a.binding, origin := some (s.originOf a op)
                                                             csn := s.replyCsn (s.originOf a op), work, txns, retries, since := s.now }] })).countQueued p,
        .later) := by
  unfold State.queueBus
  rw [if_neg (by simp [reachable]), if_neg works]

/-- A request whose effect is to be queued on a reachable port that works is concluded so. -/
theorem exec_of_queueBus {c : Instr} {s u : State} {a : Arrival} {b : Body} {o : Origin} {op : Op} {p : Nat} {work : BusWork}
    {txns : List (List BusSeg)} {retries : Nat} {eff : State → State × Res} (row : exec c s = .next (s.request a b eff))
    (opens : s.opens a b eff = some (u, o)) (effect : eff u = u.queueBus a op p work txns retries) (reachable : u.farBlocked p txns = false)
    (works : u.portState p ≠ busFailed) : exec c s =
      .next ((u.queueBus a op p work txns retries).1.conclude u o (u.queueBus a op p work txns retries).2) := by
  have queued := State.queueBus_of_reachable (a := a) (op := op) (work := work) (retries := retries) reachable works
  rw [queued] at effect ⊢
  exact exec_of_request row opens effect rfl

section
variable {s : State} {a : Arrival} (class_ : objCls a.hdr.object = 0x0E)
include class_

/-! ### BUS_TRANSFER -/

theorem doBusTransfer_of_target {retries : Nat} {segs : List BusSeg} (port : 32 ≤ objIdx a.hdr.object) :
    doBusTransfer a retries segs s = (s, .st .busNotController) := by
  unfold doBusTransfer
  rw [ctrlPort_of_target class_ port]

/-- R615: right segments are queued as their transactions, but for a write to a protected device. -/
theorem doBusTransfer_of_right {retries : Nat} {segs : List BusSeg} (port : objIdx a.hdr.object < 32) (some_ : segs ≠ [])
    (most : segs.length ≤ 16) (tries : retries ≤ 7 ∨ retries = 0xFF) (right : segs.all BusSeg.right = true)
    (stops : segs.getLast?.any (·.stop) = true) : doBusTransfer a retries segs s =
    (if segs.any (fun x => !x.read && s.guards a (objIdx a.hdr.object) x.addr) then (s, .st .wouldDisturb)
    else s.queueBus a .busTransfer (objIdx a.hdr.object) .transfer (splitTxns segs [])
      (if retries = 0xFF then s.busRetries (objIdx a.hdr.object) else retries)) := by
  have good : ¬ (segs.isEmpty = true ∨ 16 < segs.length ∨ (7 < retries ∧ retries ≠ 0xFF) ∨ (!segs.all BusSeg.right) = true ∨
      (!segs.getLast?.any (·.stop)) = true) := by
    simp only [right, stops, List.isEmpty_iff, some_, Bool.not_true, Bool.false_eq_true, or_false, false_or]
    omega
  unfold doBusTransfer
  rw [ctrlPort_of_controller class_ port]
  dsimp only
  rw [if_neg good]

/-! ### PMBUS_READ and PMBUS_WRITE -/

theorem doPmbusRead_of_command {addr page code cmd len : Nat} {pec : Bool} {txns : List (List BusSeg)} (port : objIdx a.hdr.object < 32)
    (command : pmCommand code = some (cmd, len)) (addr_ : addr ≤ 127) (pec_ : pec = (s.device (objIdx a.hdr.object) addr).any (·.pec))
    (txns_ : txns = pageTxns addr page pec ++ (if code = 0 then [readTxn addr 0x20 1 pec] else []) ++ [readTxn addr cmd len pec]) :
    doPmbusRead a addr page code s = s.queueBus a .pmbusRead (objIdx a.hdr.object) (.pmRead addr code (decide (code = 0))) txns
      (s.busRetries (objIdx a.hdr.object)) := by
  unfold doPmbusRead
  rw [ctrlPort_of_controller class_ port, command]
  dsimp only
  rw [if_neg (not_lt.mpr addr_), txns_, pec_]

theorem doPmbusWrite_of_code {addr page code value : Nat} (port : objIdx a.hdr.object < 32) (code_ : code = 0x80 ∨ code = 0x81)
    (addr_ : addr ≤ 127) : doPmbusWrite a addr page code value s =
    (if s.guards a (objIdx a.hdr.object) addr then (s, .st .wouldDisturb)
    else s.queueBus a .pmbusWrite (objIdx a.hdr.object) .pmWrite (pageTxns addr page ((s.device (objIdx a.hdr.object) addr).any (·.pec)) ++
      [[{ addr, len := 2, data := [code - 0x7F, value % 256], pec := (s.device (objIdx a.hdr.object) addr).any (·.pec) }]])
      (s.busRetries (objIdx a.hdr.object))) := by
  unfold doPmbusWrite
  rw [ctrlPort_of_controller class_ port]
  dsimp only
  rw [if_neg (by omega)]

/-! ### CONFIGURE_BUS and BUS_RECOVER -/

theorem doConfigureBus_of_right {block : List Nat} (right : configRight (objIdx a.hdr.object) block = true) : doConfigureBus a block s =
    (if 32 ≤ objIdx a.hdr.object then (s.put .busConfig (objIdx a.hdr.object) (leValue block), .st .ok)
    else (if (s.modBus (objIdx a.hdr.object) (fun b => { b with config := some (leValue block) })).portState (objIdx a.hdr.object) = busIdle
      then (s.modBus (objIdx a.hdr.object) (fun b => { b with config := some (leValue block) })).applyConfig (objIdx a.hdr.object)
      else s.modBus (objIdx a.hdr.object) (fun b => { b with config := some (leValue block) }), .st .ok)) := by
  unfold doConfigureBus
  dsimp only
  rw [if_neg (by simp [class_, right])]

section
variable (port : objIdx a.hdr.object < 32) (free : (s.bus (objIdx a.hdr.object)).hold = none)
include port free

theorem doBusRecover_isolate (property : a.hdr.property = 1) (idle : s.portState (objIdx a.hdr.object) = busIdle) :
    doBusRecover a s = (s.setSwitch (objIdx a.hdr.object) true 1, .st .ok) := by
  unfold doBusRecover
  rw [ctrlPort_of_controller class_ port]
  dsimp only
  rw [if_neg (by omega), if_pos ⟨property, by simp [free], idle⟩]

/-- R634: recovery waits with its command and acts on the port that nothing holds. -/
theorem doBusRecover_act (property : a.hdr.property = 0 ∨ a.hdr.property = 2) : doBusRecover a s =
    ((s.modBus (objIdx a.hdr.object) (fun b => { b with recCmds := b.recCmds ++
      [{ origin := s.originOf a .busRecover, kind := a.hdr.property, csn := s.csnOf (s.originOf a .busRecover), acted := false }] })).actRec
        (objIdx a.hdr.object), .later) := by
  have other : a.hdr.property ≠ 1 := by omega
  unfold doBusRecover
  rw [ctrlPort_of_controller class_ port]
  dsimp only
  rw [if_neg (by omega), if_neg (fun h => other h.1), if_neg (fun h => other h.1), free]
  rfl

end

end

/-- Settles O51: each request has its one effect, and the writes to protected devices fail at dispatch. -/
theorem busRequestsComplete : Obligations.BusRequestsComplete := by
  refine ⟨?transfer, ?refused, ?queue, ?read, ?write, ?guarded, ?configure, ?recover⟩
  case transfer =>
    intro s u a o retries segs p opens class_ port some_ most tries right stops open_ reachable works n
    refine exec_of_queueBus rfl opens ?_ reachable works
    rw [doBusTransfer_of_right class_ port some_ most tries right stops, if_neg (by rw [open_]; decide)]
  case refused =>
    intro s v a o retries segs p reached class_
    refine ⟨fun port => ?_, fun port some_ most tries right stops guarded => ?_⟩
    · exact congrArg Host.Outcome.next (State.request_of_failed _ reached (doBusTransfer_of_target class_ port) rfl)
    · exact congrArg Host.Outcome.next (State.request_of_failed _ reached
        ((doBusTransfer_of_right class_ port some_ most tries right stops).trans (if_pos guarded)) rfl)
  case queue =>
    intro s a op p work txns retries reachable works r
    exact State.queueBus_of_reachable reachable works
  case read =>
    intro s u a o addr page code cmd len p opens class_ port command addr_ pec txns reachable works
    exact exec_of_queueBus rfl opens (doPmbusRead_of_command class_ port command addr_ rfl rfl) reachable works
  case write =>
    intro s u a o addr page code value p opens class_ port code_ addr_ open_ pec txns reachable works
    exact exec_of_queueBus rfl opens ((doPmbusWrite_of_code class_ port code_ addr_).trans (if_neg (by rw [open_]; decide))) reachable works
  case guarded =>
    intro s v a o addr page code value p reached class_ port code_ addr_ guarded
    exact congrArg Host.Outcome.next (State.request_of_failed _ reached
      ((doPmbusWrite_of_code class_ port code_ addr_).trans (if_pos guarded)) rfl)
  case configure =>
    intro s u a o block p opens class_ right
    have effect := doConfigureBus_of_right (s := u) class_ right
    exact ⟨fun port => exec_of_request rfl opens (effect.trans (if_pos port)) rfl,
      fun port => exec_of_request rfl opens (effect.trans (if_neg (not_le.mpr port))) rfl⟩
  case recover =>
    intro s u a o p opens class_ port free
    exact ⟨fun property idle => exec_of_request rfl opens (doBusRecover_isolate class_ port free property idle) rfl,
      fun property => exec_of_request rfl opens (doBusRecover_act class_ port free property) rfl⟩

end Sys2Proof.Machine
end


section
/-! What the recorder's rows and requests leave (R651–R658). -/

namespace Sys2Proof.Machine

/-! ### Frames -/

theorem execStippleFrame_of_due {s u v : State} {t : Ns} {f : StippleFrame} (at_ : u = s.tick t) (due : u.due .stipple = true)
    (on : u.get .recState ≠ 0) (frame : u.stippleNow = (f, v)) : exec (.stippleFrame t) s =
      .next (({ v with stipple := (f :: v.stipple).take 3145728 } : State).newInterval.arm .stipple 0 (v.getN .stippleInterval * ms)) := by
  have row : exec (.stippleFrame t) s = execStippleFrame t s := rfl
  rw [row, execStippleFrame, ← at_]
  dsimp only
  rw [if_pos ⟨due, on⟩, frame]

/-! ### The requests -/

section
variable {s : State} {a : Arrival} (class_ : objCls a.hdr.object = 0x17)
include class_

/-- R652: TRIGGER_RECORDER of an explicit POST triggers a recorder that is not OFF. -/
theorem doTriggerRecorder_of_post {post : Nat} (most : post ≤ 16000) (step : post % 100 = 0) : doTriggerRecorder a post s =
    (if s.get .recState = 0 then (s, .st .recState)
    else (s.recTrigger 0x3FF s.now (post * ms), .done .ok [u64 (if s.get .recState = 1 then (s.now + post * ms : Nat) else 0)])) := by
  have given : post ≠ 0xFFFFFFFF := by omega
  unfold doTriggerRecorder
  dsimp only
  rw [if_neg (by omega), if_neg given]
  simp only [decide_eq_true_eq]

/-- R651: FREEZE_RECORDER of a recorder that is not OFF freezes it now, where it is not frozen. -/
theorem doFreezeRecorder_of_class : doFreezeRecorder a s =
    (if s.get .recState = 0 then (s, .st .recState)
    else if s.get .recState = 3 then (s, .done .ok [u64 s.recorder.z]) else (s.freeze s.now, .done .ok [u64 s.now])) := by
  unfold doFreezeRecorder
  rw [if_neg (not_not.mpr class_)]

theorem doReleaseRecorder_of_class : doReleaseRecorder a s = (if 2 ≤ s.get .recState then s.resume else s, .st .ok) := by
  unfold doReleaseRecorder
  rw [if_neg (not_not.mpr class_)]
  split <;> rfl

/-- R658: the frames from START, at most the COUNT, or none. -/
theorem doReadStipple_of_section {start sect count : Nat} {l : List StippleFrame} (sect_ : sect ≤ 2) (least : 1 ≤ count) (most : count ≤ 2)
    (frames : l = (s.stipple.reverse.filter (fun f => decide (start ≤ f.at_))).take count) :
    (l = [] → doReadStipple a start sect count s = (s, .st .recRange)) ∧
    (∀ f rest, l = f :: rest → doReadStipple a start sect count s =
      (s, .done .ok ([u64 f.at_, u16 l.length, rsv 2, rsv 4] ++ l.flatMap (fun f => f.sections.getD sect [])))) := by
  have bound : 2 ≤ if sect = 0 then 3 else 2 := by split <;> decide
  have good : ¬ (objCls a.hdr.object ≠ 0x17 ∨ 2 < sect ∨ count = 0 ∨ (if sect = 0 then 3 else 2) < count) := by
    simp only [class_, not_or, not_lt]
    exact ⟨not_not.mpr rfl, sect_, by omega, most.trans bound⟩
  unfold doReadStipple
  rw [if_neg good, ← frames]
  refine ⟨?_, ?_⟩
  · rintro rfl
    rfl
  · rintro f rest rfl
    rfl

/-! ### EXPORT_RECORDER -/

section
variable {content id first last taddr serial : Nat} {bufs : List (Nat × Nat)} (least : 1 ≤ content) (most : content ≤ 7)
include least most

theorem doExportRecorder_dma (some_ : bufs ≠ []) (few : bufs.length ≤ 64) (port : (dmaPort a.binding).isSome = true)
    (good : ∀ b ∈ bufs, b.1 % 4096 = 0 ∧ b.2 % 4096 = 0 ∧ b.2 ≠ 0) :
    doExportRecorder a 2 content id first last taddr serial bufs s =
      ({ s.hold (s.originOf a .exportRecorder) [oRecorder] with exports := (s.hold (s.originOf a .exportRecorder) [oRecorder]).exports ++
        [{ origin := s.originOf a .exportRecorder, path := 2, content, id, room := (bufs.map (fun (b : Nat × Nat) => b.2)).sum
           heard := (s.hold (s.originOf a .exportRecorder) [oRecorder]).now }] }, .accepted []) := by
  have aligned : bufs.any (fun b => decide (b.1 % 4096 ≠ 0 ∨ b.2 % 4096 ≠ 0 ∨ b.2 = 0)) = false := by
    refine List.any_eq_false.mpr fun b held => ?_
    obtain ⟨start, size, room⟩ := good b held
    simp [start, size, room]
  have dma : (dmaPort a.binding).isNone = false := Option.isNone_eq_false_iff.mpr port
  have empty : bufs.isEmpty = false := by simpa using some_
  unfold doExportRecorder
  dsimp only
  rw [if_neg, if_neg, if_neg (fun h => h.1 rfl), if_pos rfl]
  · rw [dma, aligned]
    simp
  · simp only [class_, empty]
    simp
    omega

theorem doExportRecorder_not_frozen (frozen : content % 4 ≠ 0) (state : s.get .recState ≠ 3) :
    doExportRecorder a 1 content id first last taddr serial bufs s = (s, .st .recState) := by
  unfold doExportRecorder
  dsimp only
  rw [if_neg (by simp [class_]; omega), if_neg (fun h => h.1 rfl), if_pos ⟨by decide, .inl ⟨frozen, state⟩⟩]

end

end

/-! ### EXPORT_COMPLETE -/

section
variable {s u : State} {t : Ns} {k : Nat} {x : Export} (at_ : u = s.tick t) (held : u.exports[k]? = some x)
include at_ held

theorem execExportComplete_of_held : exec (.exportComplete t k) s = .next (
    if x.path ≠ 2 ∧ exportTotal x = 0 then u.exportDone x .recRange 0
    else if x.path = 0 then
      if u.exported x < min (exportTotal x) x.room then u
      else if x.room < exportTotal x then (u.dma x).exportDone x .recBufferFull x.room else (u.dma x).exportDone x .ok (exportTotal x)
    else if x.heard + u.getN .remoteTimeout * us ≤ u.now then u.exportDone x .ratOutcomeUnknown x.got
    else u) := by
  have row : exec (.exportComplete t k) s = execExportComplete t k s := rfl
  rw [row, execExportComplete, ← at_, held]

/-- R656: a DMA transfer whose pace has covered it is written to its buffers. -/
theorem execExportComplete_of_dma (path : x.path = 0) (data : exportTotal x ≠ 0) (covered : min (exportTotal x) x.room ≤ u.exported x) :
    exec (.exportComplete t k) s = .next (
      if x.room < exportTotal x then (u.dma x).exportDone x .recBufferFull x.room else (u.dma x).exportDone x .ok (exportTotal x)) := by
  rw [execExportComplete_of_held at_ held, if_neg fun h => data h.2, if_pos path, if_neg (not_lt.mpr covered)]

end

/-- Settles O52: each row takes the branch that its conditions open, and each request has its one effect. -/
theorem recorderRowsComplete : Obligations.RecorderRowsComplete := by
  refine ⟨?freeze, ?autoRelease, ?frame, ?interval, ?trigger, ?triggerOff, ?freezeOff, ?freezeNow, ?release, ?read, ?exportDma, ?exportState, ?complete⟩
  case freeze =>
    intro s u t z at_ timer due state
    have row : exec (.recorderFreezeInstant t) s = execRecorderFreezeInstant t s := rfl
    have now : u.due .recFreeze = true := by
      unfold State.due
      rw [timer]
      exact decide_eq_true due
    rw [row, execRecorderFreezeInstant, ← at_, timer]
    exact congrArg Host.Outcome.next (if_pos ⟨now, state⟩)
  case autoRelease =>
    rintro s u t rfl state on past idle
    exact exec_of_guard rfl ⟨state, on, past, List.isEmpty_iff.mpr idle⟩
  case frame =>
    intro s u v t f at_ due on frame
    exact execStippleFrame_of_due at_ due on frame
  case interval =>
    rintro s u w a o v opens rfl
    exact exec_of_write rfl opens rfl rfl
  case trigger =>
    intro s u a o post opens class_ most step
    have effect := doTriggerRecorder_of_post (s := u) class_ most step
    refine ⟨fun armed => exec_of_request rfl opens (effect.trans ?_) rfl, fun triggered => exec_of_request rfl opens (effect.trans ?_) rfl⟩
    · rw [if_neg (by omega), if_pos armed]
    · rw [if_neg (by omega), if_neg (by omega)]
  case triggerOff =>
    intro s v a o post reached class_ most step off
    exact congrArg Host.Outcome.next (State.request_of_failed _ reached ((doTriggerRecorder_of_post class_ most step).trans (if_pos off)) rfl)
  case freezeOff =>
    intro s v a o reached class_ off
    exact congrArg Host.Outcome.next (State.request_of_failed _ reached ((doFreezeRecorder_of_class class_).trans (if_pos off)) rfl)
  case freezeNow =>
    intro s u a o opens class_
    have effect := doFreezeRecorder_of_class (s := u) class_
    refine ⟨fun frozen => exec_of_request rfl opens (effect.trans ?_) rfl, fun runs => exec_of_request rfl opens (effect.trans ?_) rfl⟩
    · rw [if_neg (by omega), if_pos frozen]
    · rw [if_neg (by omega), if_neg (by omega)]
  case release =>
    intro s u a o opens class_
    exact exec_of_request rfl opens (doReleaseRecorder_of_class class_) rfl
  case read =>
    intro s u a o start sect count opens class_ sect_ least most l
    obtain ⟨none_, frames⟩ := doReadStipple_of_section (s := u) (start := start) class_ sect_ least most rfl
    refine ⟨fun empty => ?_, fun f rest some_ => exec_of_request rfl opens (frames f rest some_) rfl⟩
    refine congrArg Host.Outcome.next ((State.request_of_query _ opens rfl rfl).trans ?_)
    rw [none_ empty]
  case exportDma =>
    intro s u a o content id first last taddr serial bufs opens class_ least most some_ few port good v x
    exact exec_of_request rfl opens (doExportRecorder_dma class_ least most some_ few port good) rfl
  case exportState =>
    intro s v a o content id first last taddr serial bufs b reached class_ least most frozen state
    exact congrArg Host.Outcome.next (State.request_of_failed _ reached (doExportRecorder_not_frozen class_ least most frozen state) rfl)
  case complete =>
    intro s u t k x at_ held
    refine ⟨fun path empty => ?_, fun path data covered fits => ?_, fun path data covered full => ?_, fun path silent => ?_⟩
    · rw [execExportComplete_of_held at_ held, if_pos ⟨by omega, empty⟩]
    · rw [execExportComplete_of_dma at_ held path data covered, if_neg (not_lt.mpr fits)]
    · rw [execExportComplete_of_dma at_ held path data covered, if_pos full]
    · rw [execExportComplete_of_held at_ held, if_neg fun h => h.1 path, if_neg (by omega), if_pos silent]

end Sys2Proof.Machine
end
